-- ==== Sys2Proof/Word.lean ====
section
/-!
DEFINITION. The plain words of the model: bytes, slots, the sparse table `Map`, little-endian byte strings.
Nothing here depends on the device.
-/
namespace Sys2Proof

/-- One byte. -/
abbrev Byte := BitVec 8

/-- The 8-byte slot through which every narrow object moves (02_object_dictionary.md, Table 02-1). -/
abbrev Slot := BitVec 64

/-- A sparse table keyed by number, keys strictly rising (`Map.wf`). What an unlisted key reads as is said
where the table is read. -/
abbrev Map (α : Type) := List (Nat × α)

/-- The entry at `k`, if listed. -/
def Map.get? {α : Type} : Map α → Nat → Option α
  | [], _ => none
  | (j, v) :: t, k => if k = j then some v else Map.get? t k

/-- The entry at `k`, or `d` when unlisted. -/
def Map.getD {α : Type} (m : Map α) (k : Nat) (d : α) : α := (m.get? k).getD d

/-- Write `v` at `k`, keeping the keys rising. -/
def Map.set {α : Type} : Map α → Nat → α → Map α
  | [], k, v => [(k, v)]
  | (j, w) :: t, k, v =>
    if k < j then (k, v) :: (j, w) :: t
    else if k = j then (k, v) :: t
    else (j, w) :: Map.set t k v

/-- Remove the entry at `k`. -/
def Map.erase {α : Type} (m : Map α) (k : Nat) : Map α := m.filter (fun p => p.1 != k)

/-- Apply `f` to the entry at `k`, an unlisted entry counting as `d`. -/
def Map.modify {α : Type} (m : Map α) (k : Nat) (d : α) (f : α → α) : Map α := m.set k (f (m.getD k d))

/-- Every key of `m` lies above `k`. -/
def Map.above {α : Type} : Nat → Map α → Bool
  | _, [] => true
  | k, (j, _) :: t => decide (k < j) && Map.above k t

/-- The canonical form: keys strictly rising. -/
def Map.wf {α : Type} : Map α → Bool
  | [] => true
  | (j, _) :: t => Map.above j t && Map.wf t

/-- Is `k` listed? -/
def Map.has {α : Type} (m : Map α) (k : Nat) : Bool := (m.get? k).isSome

/-- The listed values, in key order. -/
def Map.vals {α : Type} (m : Map α) : List α := m.map (fun p => p.2)

/-- Apply `f` to every listed value. -/
def Map.mapVals {α : Type} (m : Map α) (f : α → α) : Map α := m.map (fun p => (p.1, f p.2))

/-- The listed keys, ascending. -/
def Map.keys {α : Type} (m : Map α) : List Nat := m.map (fun p => p.1)

/-- Bits `hi` down to `lo` of a number. -/
def bitsN (v hi lo : Nat) : Nat := (v / 2 ^ lo) % 2 ^ (hi + 1 - lo)

/-- Bit `i` of a number, as a truth value. -/
def bitN (v i : Nat) : Bool := (v / 2 ^ i) % 2 == 1

/-- Bits `hi` down to `lo` of a slot, as a number. -/
def Slot.bits (v : Slot) (hi lo : Nat) : Nat := bitsN v.toNat hi lo

/-- 1 for true. -/
def b2n (b : Bool) : Nat := if b then 1 else 0

/-- The number `v` as `n` bytes, least significant first (R4). -/
def leBytes : Nat → Nat → List Byte
  | 0, _ => []
  | n + 1, v => BitVec.ofNat 8 v :: leBytes n (v / 256)

/-- The number that bytes spell, least significant first (R4). -/
def leNat : List Byte → Nat
  | [] => 0
  | b :: t => b.toNat + 256 * leNat t

/-- The number that bytes spell, most significant first (R4: the network headers). -/
def beNat (bs : List Byte) : Nat := bs.foldl (fun a b => a * 256 + b.toNat) 0

/-- The number `v` as `n` bytes, most significant first (R4). -/
def beBytes (n v : Nat) : List Byte := (leBytes n v).reverse

/-- The little-endian field of `n` bytes at offset `o`; bytes past the end read 0. -/
def fieldLE (bs : List Byte) (o n : Nat) : Nat := leNat ((bs.drop o).take n)

/-- Byte `i`, 0 past the end. -/
def byteAt (bs : List Byte) (i : Nat) : Byte := bs.getD i 0

/-- The `n`-bit two's complement reading of a number. -/
def toSigned (n v : Nat) : Int :=
  if v % 2 ^ n < 2 ^ (n - 1) then ((v % 2 ^ n : Nat) : Int) else ((v % 2 ^ n : Nat) : Int) - ((2 ^ n : Nat) : Int)

/-- An integer as an `n`-bit word. -/
def ofSigned (n : Nat) (i : Int) : Nat := (i % ((2 ^ n : Nat) : Int)).toNat

/-- A saturating 32-bit sum. -/
def satAdd32 (a b : Nat) : Nat := min (a + b) 0xFFFFFFFF

/-- `n` entries, entry `i` being `f i`. -/
def tabulate {α : Type} (n : Nat) (f : Nat → α) : List α := (List.range n).map f

/-- Overwrite the bytes of `bs` from offset `o` with `w`. -/
def overwrite (bs : List Byte) (o : Nat) (w : List Byte) : List Byte :=
  (bs ++ List.replicate (o - bs.length) 0).take o ++ w ++ bs.drop (o + w.length)

/-- Rounded-up division. -/
def ceilDiv (a b : Nat) : Nat := (a + b - 1) / b

/-- The ceiling of the base-2 logarithm. -/
def clog2 (n : Nat) : Nat := if n ≤ 1 then 0 else Nat.log2 (n - 1) + 1

/-- Insert a number into an ascending list. -/
def insertNat (x : Nat) : List Nat → List Nat
  | [] => [x]
  | y :: t => if x ≤ y then x :: y :: t else y :: insertNat x t

/-- Ascending order, repeats kept. -/
def sortNat (xs : List Nat) : List Nat := xs.foldr insertNat []

/-- Insert an integer into an ascending list. -/
def insertInt (x : Int) : List Int → List Int
  | [] => [x]
  | y :: t => if x ≤ y then x :: y :: t else y :: insertInt x t

/-- Ascending order, repeats kept. -/
def sortInt (xs : List Int) : List Int := xs.foldr insertInt []

/-- The lower middle value of a list (R231), 0 of an empty one. -/
def lowerMedianNat (xs : List Nat) : Nat := (sortNat xs).getD ((xs.length - 1) / 2) 0

/-- The lower middle value of a list (R231), 0 of an empty one. -/
def lowerMedianInt (xs : List Int) : Int := (sortInt xs).getD ((xs.length - 1) / 2) 0

end Sys2Proof
end

