-- ==== Sys2Proof/Syntax.lean ====
section
/-!
DEFINITION. The commands: `Instr`, one constructor per row of spec/opcode_table.json, with the operands that each
carries. Every command carries first `dt`, the nanoseconds of LOCAL_COUNT since the previous happening (R391);
assumption log 1 says so.
-/
namespace Sys2Proof

/-- The doors to the dictionary (R30, R36): function 0 is the PF and function k is VFk; an MOA session by its SID;
firmware on the control cores (R295); extension k. -/
inductive Door where
  | fn (k : Fin 17)
  | moa (sid : BitVec 32)
  | firmware
  | ext (k : Fin 64)
  deriving DecidableEq, Repr

/-- A PCIe memory request inside a function's BAR0 (R38). -/
structure PcieReq where
  write : Bool
  /-- To BAR4, the download window of the PF (R310), not to BAR0. -/
  bar4 : Bool
  /-- Byte offset in the BAR. -/
  offset : BitVec 27
  /-- Size in bytes. -/
  len : Nat
  /-- Every byte of the request is enabled. -/
  enabled : Bool
  data : List Byte
  deriving DecidableEq, Repr

/-- A frame of a lane (R166): the start block, the bytes of its data blocks, the CRC block and the EOF, each block as D0 to D7.
`clean`: every block had a valid sync header, and no block but a STRIKE or a LINE_STATUS stood between them. -/
structure QhlFrame where
  clean : Bool
  start : List Byte
  data : List Byte
  crc : List Byte
  eof : List Byte
  deriving DecidableEq, Repr

/-- What stands around the data blocks of an upstream frame: the frame of `QhlFrame` without its data. -/
structure QhlEnds where
  clean : Bool
  start : List Byte
  crc : List Byte
  eof : List Byte
  deriving DecidableEq, Repr

/-- What a deflate engine makes of a block: its encoded form, and its stored form (R84). -/
structure BlockForms where
  encoded : List Byte
  stored : List Byte
  deriving DecidableEq, Repr

/-- The registers of a block-transfer channel as they stand at START (Table 02-3). -/
structure BtRegs where
  object : BitVec 32
  offset : BitVec 32
  length : BitVec 32
  addr : BitVec 64
  deriving DecidableEq, Repr

/-- An MOA datagram as it reaches the service (R45, R46, Table 02-5); the opcode is the command's. -/
structure MoaFrame where
  ip : BitVec 32
  port : BitVec 16
  fragmented : Bool
  udpLen : Nat
  version : Byte
  flags : BitVec 16
  session : BitVec 32
  seq : BitVec 32
  len : BitVec 16
  status : BitVec 16
  payload : List Byte
  mac : List Byte
  deriving DecidableEq, Repr

/-- What a core does at an address (Table 13-1, R296). -/
inductive CoreAccess where
  | fetch | load | store
  deriving DecidableEq, Repr

/-- An access of a core (R294, R297). -/
structure CoreAt where
  kind : CoreAccess
  addr : BitVec 64
  deriving DecidableEq, Repr

/-- Where and how a band record changes the band (R144). -/
structure BandAt where
  line : Nat
  stop : Bool
  held : Bool
  deriving DecidableEq, Repr

/-- What intake DMA fetches (R63, R399). -/
inductive FetchKind where
  | waybill | payload | integ
  deriving DecidableEq, Repr

/-- The state of a packet header after its ECC (R212). -/
inductive HdrErr where
  | none | single | many
  deriving DecidableEq, Repr

/-- A request arriving at a subchannel controller (R253). -/
inductive McClass where
  | dray | delayWrite | bestRead | bestWrite
  deriving DecidableEq, Repr

/-- A request arriving at a subchannel controller (R253, R255). -/
structure McReq where
  cls : McClass
  /-- Arbitration class of a best-effort read: lower is served first (R253). -/
  prio : Nat
  bar : Fin 16
  bank : Nat
  row : Nat
  /-- First byte; of a best-effort request its address in the striped regions (R252). -/
  addr : Nat
  /-- Bytes written, or wanted. -/
  len : Nat
  data : List Byte
  /-- Dray reads and delay-store writes: the head port, the datum line, and which 512 bytes of that head line (R252). -/
  port : Fin 64
  line : Nat
  part : Nat
  deriving DecidableEq, Repr

/-- Where a memory error lies (Table 10-7). -/
inductive EccWhere where
  | dramWagon (bar : Fin 16) (page : BitVec 32) (plane : Fin 8) (span : Fin 32) (band : Nat)
  | dramCaldera (bar : Fin 16) (page : BitVec 32)
  | dramDelay (port : Fin 64) (line : Nat)
  | dramCamera (cam : Fin 4) (ring : Fin 3)
  | dramMoaBuffer (buf : Fin 8)
  | dramSystem
  deriving DecidableEq, Repr

/-- Where an SRAM error lies (Table 10-7). -/
inductive SramWhere where
  | wagonStaging (bar : Fin 16) (page : BitVec 32) (plane : Fin 8) (span : Fin 32) (band : Nat)
  | lineStaging (port : Fin 64) (line : Nat)
  | table (bar : Fin 16) (geyser : Fin 32)
  | coreLocal (thread : Fin 512)
  | deviceRegion
  deriving DecidableEq, Repr

/-- A strip placement carried with a flip record (R196, R200). -/
structure StripPlace where
  plane : Fin 8
  rowSet : Fin 2
  first : Nat
  length : Nat
  deriving DecidableEq, Repr

/-- One item of mirrored state (Table 11-3). -/
inductive MirrorItem where
  | nozzle (bar : Fin 16) (port : Fin 64) (nozzle : Nat) (state : BitVec 16) (gain : BitVec 16)
  | supply (k : Fin 16) (enabled : Bool) (latch : Bool)
  | axis (a : Fin 8) (target : BitVec 64) (moving : Bool) (vmax accel jerk : BitVec 32)
  | device (state : Fin 7)
  | bar (b : Fin 16) (state : Fin 4)
  | caldera (b : Fin 16) (page : BitVec 32) (retained : Bool)
  | reprint (b : Fin 16) (page : BitVec 32) (passed : Bool)
  deriving DecidableEq, Repr

/-- What the active reports of the device in a join snapshot (R280): its state and the mirrored items. -/
structure JoinDevice where
  state : Fin 7
  items : List MirrorItem
  deriving DecidableEq, Repr

/-- One staged object of a generation: its key and its bytes or slot value (R274, R280). -/
structure GenObj where
  key : Nat
  wide : Bool
  slot : Slot
  bytes : List Byte
  deriving DecidableEq, Repr

/-- What the active reports of one bar in a join snapshot (R280). -/
structure JoinBar where
  bar : Fin 16
  state : Fin 4
  nextPage : BitVec 32
  live : List GenObj
  pendingPage : Option (BitVec 32)
  pending : List GenObj
  deriving DecidableEq, Repr

/-- One nozzle's measurement as the standby sends it (R236). -/
structure MeasItem where
  nozzle : Nat
  integral : Nat
  e : Int
  n : Nat
  /-- Its outcome is EXCLUDED (R231, R232). -/
  excluded : Bool
  deriving DecidableEq, Repr

/-- An Ethernet frame at the switch (R283, R287). -/
structure EthFrame where
  dst : BitVec 48
  src : BitVec 48
  /-- Bytes from destination address to FCS. -/
  len : Nat
  /-- Number of IEEE 802.1Q tags. -/
  tags : Nat
  pcp : Nat
  fcsOk : Bool
  /-- An MOA datagram's frame flag of R45 when it is sent to the device's own UDP port 48160: malformed ones are counted. -/
  moaBad : Bool
  /-- PTP message: `none` for any other frame; otherwise messageType and versionPTP (Table 12-1). -/
  ptp : Option (Nat × Nat)
  correction : BitVec 64
  /-- The UDP checksum of a PTP message over UDP/IPv4; none over IEEE 802.3 (R287). -/
  udp : Option (BitVec 16)
  deriving DecidableEq, Repr

/-- An Announce message's dataset, as the best master clock selection reads it (R288). -/
structure Announce where
  domain : Byte
  priority1 : Byte
  clockClass : Byte
  accuracy : Byte
  variance : BitVec 16
  priority2 : Byte
  identity : BitVec 64
  steps : BitVec 16
  /-- The PTP timescale flag. -/
  ptpTimescale : Bool
  /-- log2 of the announce interval in seconds. -/
  logInterval : Int
  /-- sourcePortIdentity of the sender: its clockIdentity and port number (IEEE 1588). -/
  source : BitVec 64
  sourcePort : BitVec 16
  deriving DecidableEq, Repr

/-- One rail's readings in a poll (R342); `none` when the transaction failed after its repeats. -/
structure RailRead where
  entry : Fin 12
  ok : Bool
  status : BitVec 16
  voutMv : Nat
  tempC : Int
  ioutMa : Nat
  deriving DecidableEq, Repr

/-- A canary's counted capacity (Table 15-4): kind 0 geyser, 1 inflate, 2 octet. -/
structure Canary where
  kind : Fin 3
  idx : Fin 8
  capacity : Nat
  deriving DecidableEq, Repr

/-- What BOOT self-test found (R373). -/
structure SelfTest where
  geyserFail : BitVec 32
  inflateFail : BitVec 32
  deflateFail : BitVec 6
  coreFail : BitVec 8
  /-- SRAM rows that failed the march test, as quarter * 2^20 + row. -/
  sramRemapped : List Nat
  aesFail : Bool
  systemFail : Bool
  sramDeviceFail : Bool
  ictMisr : List (Nat × BitVec 32)
  /-- Subchannels whose three training attempts failed (R251). -/
  trainFail : BitVec 8
  /-- DRAM fitted per subchannel, in MiB. -/
  subchMib : Nat
  deriving DecidableEq, Repr

/-- The commands, one constructor per row of spec/opcode_table.json, in its order. -/
inductive Instr where
  | dictWrite (dt : Nat) (door : Door) (idx : BitVec 16) (sub : BitVec 8) (val : Slot)
  | slotHalfAccess (dt : Nat) (fn : Fin 17) (req : PcieReq)
  | violationClear (dt : Nat) (door : Door) (val : Slot)
  | vbLayoutWrite (dt : Nat) (door : Door) (sub : Fin 16) (val : Slot)
  | btStart (dt : Nat) (fn : Fin 17) (ch : Fin 4) (regs : BtRegs) (toObject : Bool)
  | btAbort (dt : Nat) (fn : Fin 17) (ch : Fin 4)
  | blockDone (dt : Nat) (fn : Fin 17) (ch : Fin 4) (data : List Byte)
  | hello (dt : Nat) (f : MoaFrame)
  | auth (dt : Nat) (f : MoaFrame)
  | close (dt : Nat) (f : MoaFrame)
  | keepalive (dt : Nat) (f : MoaFrame)
  | moaRead (dt : Nat) (f : MoaFrame)
  | moaWrite (dt : Nat) (f : MoaFrame)
  | blockBegin (dt : Nat) (f : MoaFrame)
  | blockData (dt : Nat) (f : MoaFrame)
  | blockEnd (dt : Nat) (f : MoaFrame)
  | eventAck (dt : Nat) (f : MoaFrame)
  | challengeTimeout (dt : Nat) (sid : BitVec 32)
  | lockoutExpiry (dt : Nat) (key : Fin 20)
  | sessionTimeout (dt : Nat) (sid : BitVec 32)
  | eventRetry (dt : Nat) (sid : BitVec 32) (seq : Nat)
  | evtCoalesceExpiry (dt : Nat) (fn : Fin 17)
  | devTargetConfig (dt : Nat) (door : Door)
  | devTargetReady (dt : Nat) (door : Door)
  | devTargetDoze (dt : Nat) (door : Door)
  | dozeExitDone (dt : Nat)
  | vbTargetOff (dt : Nat) (door : Door)
  | vbTargetArmed (dt : Nat) (door : Door)
  | vbTargetPrinting (dt : Nat) (door : Door)
  | vbTargetHeld (dt : Nat) (door : Door)
  | vbTargetMet (dt : Nat) (bar : Fin 16)
  | commitReq (dt : Nat) (door : Door) (val : Slot)
  | idleCommitEffect (dt : Nat) (bar : Fin 16)
  | discardOpen (dt : Nat) (door : Door) (val : Slot)
  | wqTail (dt : Nat) (door : Door) (val : Slot)
  | eqHead (dt : Nat) (door : Door) (val : Slot)
  | deqHead (dt : Nat) (door : Door) (val : Slot)
  | deqEn (dt : Nat) (door : Door) (val : Slot)
  | busMasterChange (dt : Nat) (fn : Fin 17) (en : Bool)
  | fetchGrant (dt : Nat) (kind : FetchKind)
  | waybillFetched (dt : Nat) (bar : Fin 16) (bytes : List Byte)
  | integEntriesFetched (dt : Nat) (bar : Fin 16) (bytes : List Byte)
  | payloadStored (dt : Nat) (bar : Fin 16) (bytes : List Byte)
  | fetchAbort (dt : Nat) (bar : Fin 16) (kind : FetchKind)
  | inflateStart (dt : Nat)
  | inflateRowDone (dt : Nat) (engine : Fin 32)
  | inflateDone (dt : Nat) (engine : Fin 32)
  | engineFault (dt : Nat) (engine : Fin 32)
  | djTail (dt : Nat) (door : Door) (val : Slot)
  | djStart (dt : Nat) (bar : Fin 16) (desc : List Byte)
  | djResume (dt : Nat) (bar : Fin 16) (desc : List Byte)
  | djCancel (dt : Nat) (bar : Fin 16) (desc : List Byte)
  | deflateBlockDone (dt : Nat) (engine : Fin 6) (src : List Byte) (forms : BlockForms)
  | chainTail (dt : Nat) (door : Door) (slot : Fin 4) (val : Slot) (bufs : List (BitVec 64 × BitVec 32))
  | auditReq (dt : Nat) (door : Door) (val : Slot)
  | screenToken (dt : Nat) (bar : Fin 16) (port : Fin 64) (line : Nat) (tok : Fin 512)
  | dotRoute (dt : Nat) (bar : Fin 16) (plane : Fin 8) (span : Fin 32) (line : Nat)
  | geyserFault (dt : Nat) (g : Fin 32)
  | purgeDone (dt : Nat) (door : Door) (sub : Fin 64) (val : Slot)
  | encInputChange (dt : Nat) (enc : Fin 4) (a b : Bool)
  | encErrorClear (dt : Nat)
  | webStop (dt : Nat)
  | lineDue (dt : Nat)
  | trigEnSet (dt : Nat) (door : Door)
  | trigEnClear (dt : Nat) (door : Door)
  | markEdge (dt : Nat) (mark : Fin 8) (rising : Bool)
  | drayReadDone (dt : Nat) (dray : Fin 8)
  | drayPanic (dt : Nat) (dray : Fin 8)
  | flipFixed (dt : Nat) (bar : Fin 16)
  | webSlowRelease (dt : Nat)
  | upstreamBlockLock (dt : Nat) (port : Fin 64)
  | lossOfLock (dt : Nat) (port : Fin 64)
  | lossOfSignal (dt : Nat) (port : Fin 64)
  | upstreamIdle (dt : Nat) (port : Fin 64) (dnLock losSeen : Bool) (input : Fin 2) (echo : Byte)
  | lineStatus (dt : Nat) (port : Fin 64) (d1 d2 : Byte) (line : BitVec 40)
  | statusTelemetry (dt : Nat) (port : Fin 64) (ends : QhlEnds) (data : List Byte)
  | actResult (dt : Nat) (port : Fin 64) (ends : QhlEnds) (first count : BitVec 16) (checkId : BitVec 32) (bits : List Byte)
  | mgmtResponse (dt : Nat) (port : Fin 64) (ends : QhlEnds) (tag status : Byte) (words : List (BitVec 64))
  | mgmtTimeout (dt : Nat) (port : Fin 64) (tag : Byte)
  | telemTimeout (dt : Nat) (port : Fin 64)
  | trainFom (dt : Nat) (port : Fin 64) (row : Fin 16) (h v : Byte) (e : BitVec 16)
  | fomTimeout (dt : Nat) (port : Fin 64)
  | relockTimeout (dt : Nat) (port : Fin 64)
  | wakeTimeout (dt : Nat) (port : Fin 64)
  | upstreamDeepEnter (dt : Nat) (port : Fin 64)
  | laneCmdRetrain (dt : Nat) (door : Door) (sub : Fin 64)
  | laneCmdDeepEnter (dt : Nat) (door : Door) (sub : Fin 64)
  | laneCmdDeepExit (dt : Nat) (door : Door) (sub : Fin 64)
  | laneCmdReinstate (dt : Nat) (door : Door) (sub : Fin 64)
  | csiLongPacket (dt : Nat) (cam : Fin 4) (vc : Fin 16) (dtype : BitVec 6) (wc : Nat) (hdr : HdrErr) (crcOk : Bool)
      (payload : List Byte)
  | csiShortPacket (dt : Nat) (cam : Fin 4) (vc : Fin 16) (dtype : BitVec 6) (hdr : HdrErr)
  | camTrigStart (dt : Nat) (cam : Fin 4)
  | camPulseEnd (dt : Nat) (cam : Fin 4) (light : Bool)
  | stripAbandoned (dt : Nat) (cam : Fin 4)
  | focusGo (dt : Nat) (door : Door) (sub : Fin 4)
  | focusAbort (dt : Nat) (door : Door) (sub : Fin 4)
  | focusStatTimeout (dt : Nat) (cam : Fin 4)
  | regOffsetWrite (dt : Nat) (door : Door) (scale : Bool) (sub : Fin 4) (val : Slot)
  | stripReq (dt : Nat) (door : Door) (val : Slot)
  | satClear (dt : Nat) (door : Door) (sub : Fin 4) (val : Slot)
  | placeFreezeWrite (dt : Nat) (door : Door) (val : Slot)
  | dramQuotaWrite (dt : Nat) (door : Door) (val : Slot)
  | sramQuotaWrite (dt : Nat) (door : Door) (val : Slot)
  | mcCommand (dt : Nat) (sub : Fin 8) (arrivals : List McReq)
  | bankIdleClose (dt : Nat) (sub : Fin 8) (bank : Nat)
  | refreshTick (dt : Nat) (sub : Fin 8) (hot : Bool)
  | dqsTrack (dt : Nat)
  | scrubTick (dt : Nat) (sub : Fin 8)
  | dramEcc (dt : Nat) (sub : Fin 8) (uncorr : Bool) (addr : BitVec 40) (loc : EccWhere)
  | subchFault (dt : Nat) (sub : Fin 8)
  | subchRetrainDone (dt : Nat) (sub : Fin 8) (ok : Bool)
  | subchRetired (dt : Nat) (sub : Fin 8)
  | subchCmdRetrain (dt : Nat) (door : Door) (sub : Fin 8)
  | subchCmdReinstate (dt : Nat) (door : Door) (sub : Fin 8)
  | sramEcc (dt : Nat) (quarter : Fin 4) (row : Nat) (uncorr : Bool) (loc : SramWhere)
  | leaseSend (dt : Nat)
  | leaseHwExpiry (dt : Nat)
  | lease (dt : Nat)
  | release (dt : Nat)
  | partnerLeaseExpiry (dt : Nat)
  | reinsPeerChange (dt : Nat) (level : Bool)
  | reinsPeerLowHeld (dt : Nat)
  | startupReinsWait (dt : Nat)
  | unitBRecheck (dt : Nat)
  | reinsConflict (dt : Nat)
  | commitRecord (dt : Nat) (bar : Fin 16) (page : BitVec 32) (digest : BitVec 32)
  | genCopyDone (dt : Nat) (bar : Fin 16) (objs : List GenObj)
  | flipRecord (dt : Nat) (bar : Fin 16) (page : BitVec 32) (flip : Nat) (strip : Option StripPlace)
  | bandRecord (dt : Nat) (bar : Fin 16) (band : Fin 8) (change : BandAt)
  | ackRecord (dt : Nat) (bar : Fin 16) (port : Fin 64)
  | mirrorRecord (dt : Nat) (item : MirrorItem)
  | xchkRecord (dt : Nat) (line : Nat) (pos : Int) (h : Int)
  | forwardRecord (dt : Nat) (bar : Option (Fin 16)) (idx : BitVec 16) (sub : BitVec 8) (val : Slot)
  | measRecord (dt : Nat) (bar : Fin 16) (port : Fin 64) (items : List MeasItem)
  | helloRecord (dt : Nat) (serial : BitVec 64) (fw : BitVec 32) (digest : BitVec 32) (pairId : Bool)
  | helloSend (dt : Nat)
  | helloTimeout (dt : Nat)
  | pairLinkDown (dt : Nat)
  | pairLinkUp (dt : Nat)
  | pairLaneFault (dt : Nat) (lane : Fin 4)
  | partnerPresenceCheck (dt : Nat)
  | joinSnapshot (dt : Nat) (device : JoinDevice) (bars : List JoinBar)
  | pairCmdHandover (dt : Nat) (door : Door)
  | pairCmdResync (dt : Nat) (door : Door)
  | ethFrameRx (dt : Nat) (port : Fin 3) (f : EthFrame)
  | ethFrameEgress (dt : Nat) (port : Fin 3)
  | macAgeExpiry (dt : Nat) (mac : BitVec 48)
  | ptpAnnounce (dt : Nat) (port : Fin 2) (a : Announce)
  | ptpSync (dt : Nat) (port : Fin 2) (master : BitVec 64) (t1 : Nat) (corr : Int)
  | ptpDelayResp (dt : Nat) (port : Fin 2) (master : BitVec 64) (t4 : Nat) (corr : Int) (logInterval : Int)
  | ptpDelayReqSend (dt : Nat)
  | announceTimeout (dt : Nat)
  | rebaseTick (dt : Nat)
  | timeSet (dt : Nat) (door : Door) (val : Slot)
  | timeStepWrite (dt : Nat) (door : Door) (val : Slot)
  | rateAdjWrite (dt : Nat) (door : Door) (val : Slot)
  | timeSrcWrite (dt : Nat) (door : Door) (val : Slot)
  | ethLink (dt : Nat) (port : Fin 2) (up : Bool) (speed100 : Bool)
  | schWait (dt : Nat) (core : Fin 8) (val : Slot)
  | schPost (dt : Nat) (core : Fin 8) (val : Slot)
  | schYield (dt : Nat) (core : Fin 8)
  | schFlowEnter (dt : Nat) (core : Fin 8) (val : Slot)
  | schFlowExit (dt : Nat) (core : Fin 8) (val : Slot)
  | schTimer (dt : Nat) (core : Fin 8) (val : Slot)
  | schTimerExpiry (dt : Nat) (thread : Fin 512)
  | schSpawn (dt : Nat) (core : Fin 8) (val : Slot)
  | schExit (dt : Nat) (core : Fin 8)
  | schWakeMode (dt : Nat) (core : Fin 8) (val : Slot)
  | schKill (dt : Nat) (core : Fin 8) (val : Slot)
  | quantumExpiry (dt : Nat) (core : Fin 8)
  | windowSpill (dt : Nat) (core : Fin 8)
  | deadlock (dt : Nat)
  | extFault (dt : Nat) (ext : Fin 64) (cause : Fin 4) (access : CoreAt)
  | threadPost (dt : Nat) (door : Door) (val : Slot)
  | threadKill (dt : Nat) (door : Door) (val : Slot)
  | extCmdStart (dt : Nat) (door : Door) (sub : Fin 64)
  | extCmdStop (dt : Nat) (door : Door) (sub : Fin 64)
  | extDictCall (dt : Nat) (ext : Fin 64) (write : Bool) (idx : BitVec 16) (sub : BitVec 8) (val : Slot)
  | coreFault (dt : Nat) (core : Fin 8)
  | bootStart (dt : Nat)
  | bootSourceDone (dt : Nat) (answered : Bool) (image : List Byte)
  | dlCtrlGo (dt : Nat) (length : BitVec 32) (image : List Byte)
  | downloadCheckDone (dt : Nat)
  | bootSelftestDone (dt : Nat) (r : SelfTest)
  | axMoveAbs (dt : Nat) (door : Door) (axis : Fin 8)
  | axMoveRel (dt : Nat) (door : Door) (axis : Fin 8)
  | axJogPos (dt : Nat) (door : Door) (axis : Fin 8)
  | axJogNeg (dt : Nat) (door : Door) (axis : Fin 8)
  | axStopRamp (dt : Nat) (door : Door) (axis : Fin 8)
  | axStopHard (dt : Nat) (door : Door) (axis : Fin 8)
  | axHome (dt : Nat) (door : Door) (axis : Fin 8)
  | axSetPos (dt : Nat) (door : Door) (axis : Fin 8)
  | axSetFromSsi (dt : Nat) (door : Door) (axis : Fin 8)
  | axArm (dt : Nat) (door : Door) (axis : Fin 8) (cmd : BitVec 7)
  | axStart (dt : Nat) (door : Door) (val : Slot)
  | axProfileTick (dt : Nat)
  | axLimitInput (dt : Nat) (axis : Fin 8) (positive : Bool)
  | axHomeEdge (dt : Nat) (axis : Fin 8)
  | axStepObserved (dt : Nat) (axis : Fin 8) (positive : Bool)
  | ssiPeriodTick (dt : Nat) (port : Fin 4)
  | ssiFrameDone (dt : Nat) (port : Fin 4) (raw : BitVec 32) (idleHigh endLow : Bool)
  | cmpPulseEnd (dt : Nat) (k : Fin 8)
  | cmpRestart (dt : Nat) (door : Door) (k : Fin 8)
  | cmpPulse (dt : Nat) (door : Door) (k : Fin 8)
  | cmpListWrite (dt : Nat) (door : Door) (k : Fin 8) (bytes : List Byte)
  | hvEnable (dt : Nat) (door : Door) (k : Fin 16)
  | hvDisable (dt : Nat) (door : Door) (k : Fin 16)
  | tripClear (dt : Nat) (door : Door) (k : Fin 16)
  | hvDeadEnd (dt : Nat) (k : Fin 16)
  | hvBlankEnd (dt : Nat) (k : Fin 16)
  | tripAccepted (dt : Nat) (k : Fin 16)
  | domainIdleTimeout (dt : Nat) (d : Fin 36)
  | domainRunReady (dt : Nat) (d : Fin 36)
  | forceOff (dt : Nat) (door : Door) (d : Fin 36)
  | domainAuto (dt : Nat) (door : Door) (d : Fin 36)
  | railTableWrite (dt : Nat) (door : Door) (bytes : List Byte)
  | railGroupGood (dt : Nat)
  | railDelayExpiry (dt : Nat)
  | railRampTimeout (dt : Nat) (entry : Fin 12)
  | pmbusPoll (dt : Nat) (reads : List RailRead)
  | smbalert (dt : Nat) (reads : List RailRead)
  | canarySample (dt : Nat) (canaries : List Canary)
  | avsStep (dt : Nat)
  | fumSample (dt : Nat) (temps : List Int) (volts : List Nat)
  | regionSkew (dt : Nat) (a b : Fin 16) (voltage : Bool)
  | throttleTick (dt : Nat)
  | trimRun (dt : Nat) (door : Door) (item : BitVec 8)
  | trimSave (dt : Nat) (door : Door) (item : BitVec 8)
  | trimRestore (dt : Nat) (door : Door) (item : BitVec 8)
  | trimPeriodTick (dt : Nat)
  | trimDone (dt : Nat) (item : BitVec 8) (value : BitVec 16) (residual : Byte)
  | shutdownClear (dt : Nat) (door : Door) (val : Slot)
  | reinstate (dt : Nat) (door : Door) (val : Slot)
  | replaceClear (dt : Nat) (door : Door) (val : Slot)
  | zeroize (dt : Nat) (door : Door) (val : Slot)
  | zeroised (dt : Nat) (readBackZero : Bool)
  | selftestCmd (dt : Nat) (door : Door) (val : Slot)
  | ictDone (dt : Nat) (captured : List (List Byte))
  | ictTableWrite (dt : Nat) (door : Door) (bytes : List Byte) (cells : List (Nat × Nat))
  | tapIdcode (dt : Nat)
  | tapSamplePreload (dt : Nat)
  | tapExtest (dt : Nat)
  | tapClamp (dt : Nat)
  | tapHighz (dt : Nat)
  | tapExtestPulse (dt : Nat)
  | tapExtestTrain (dt : Nat)
  | tapBypass (dt : Nat) (opcode : Byte)
  | pwrgoodRise (dt : Nat)
  | pwrgoodFall (dt : Nat)
  | resetAsserted (dt : Nat)
  | resetReleased (dt : Nat) (pairId : Bool) (bootSrc : Fin 4) (testEn : Bool)
  | tripInputDeasserted (dt : Nat) (k : Fin 16)
  | axLimitRelease (dt : Nat) (axis : Fin 8) (positive : Bool)
  | cmpLowTimeEnd (dt : Nat) (k : Fin 8)
  | referenceClockFailure (dt : Nat) (sds : Bool)
  | signalDetect (dt : Nat) (port : Fin 64)
  | schFlagsClear (dt : Nat) (core : Fin 8) (val : Slot)
  deriving DecidableEq, Repr

end Sys2Proof
end

