-- ==== Sys2Proof/Decode.lean ====
section
/-!
DEFINITION. The words of commands. The block's commands are happenings at its balls and inside it, and
spec/opcode_table.json gives none of its rows a word of bits: no word spells a command.
-/
namespace Sys2Proof

/-- The command that a word spells: none, since no row of the table gives bits. -/
def decodeTableWord (_nbits _w : Nat) : Option Instr := none

end Sys2Proof
end

