-- ==== Sys2Proof/Machine/Inflate.lean ====
section
/-!
DEFINITION. Raw DEFLATE (RFC 1951) as R76 and Table 03-7 use it: the bytes that an inflate engine puts out for a
payload, up to the size of Table 03-6, and the failure code, 0 for none.
-/
namespace Sys2Proof.Machine
open Sys2Proof

/-- The bits of a byte, least significant first. -/
def byteBits (b : Byte) : List Bool := (List.range 8).map (fun i => b.getLsbD i)

/-- The value of a list of bits, least significant first. -/
def bitsVal : List Bool → Nat
  | [] => 0
  | b :: t => b2n b + 2 * bitsVal t

/-- Take `n` bits as a number; none when the input ends. -/
def takeBits (n : Nat) (bs : List Bool) : Option (Nat × List Bool) :=
  if bs.length < n then none else some (bitsVal (bs.take n), bs.drop n)

/-- A canonical code: how many codes of each length 0–15, and the symbols by length, then number. -/
structure Huff where
  counts : List Nat
  syms : List Nat
  deriving DecidableEq, Repr

/-- The code that a list of lengths gives. -/
def Huff.of (lens : List Nat) : Huff :=
  { counts := tabulate 16 (fun l => (lens.filter (fun x => x == l)).length)
    syms := (List.range 16).flatMap (fun l =>
      if l = 0 then [] else (List.range lens.length).filter (fun i => lens.getD i 0 == l)) }

/-- Codes left over at length 15 when the lengths are taken in turn; negative when over-subscribed. -/
def huffLeft (lens : List Nat) : Int :=
  ((List.range 15).foldl (fun (p : Int × Bool) i =>
    if p.2 then p
    else
      let l := 2 * p.1 - (((lens.filter (fun x => x == i + 1)).length : Nat) : Int)
      (l, decide (l < 0))) ((1 : Int), false)).1

/-- Neither over-subscribed nor incomplete. -/
def huffComplete (lens : List Nat) : Bool := huffLeft lens == 0

/-- What reading a symbol gives. -/
inductive SymRead where
  | sym (n : Nat) (rest : List Bool)
  | ended
  | noCode
  deriving DecidableEq, Repr

/-- Read one symbol: `code`, `first` and `index` run over the lengths left. -/
def huffRead (h : Huff) : List Nat → Nat → Nat → Nat → List Bool → SymRead
  | [], _, _, _, _ => .noCode
  | _ :: _, _, _, _, [] => .ended
  | c :: cs, code, first, index, b :: bs =>
    let code := code + b2n b
    if code < first + c then .sym (h.syms.getD (index + (code - first)) 0) bs
    else huffRead h cs (2 * code) (2 * (first + c)) (index + c) bs

def Huff.read (h : Huff) (bs : List Bool) : SymRead := huffRead h (h.counts.drop 1) 0 0 0 bs

/-- Base of a length symbol 257–285. -/
def lenBase : List Nat :=
  [3, 4, 5, 6, 7, 8, 9, 10, 11, 13, 15, 17, 19, 23, 27, 31, 35, 43, 51, 59, 67, 83, 99, 115, 131, 163, 195, 227, 258]
/-- Extra bits of a length symbol. -/
def lenExtra : List Nat :=
  [0, 0, 0, 0, 0, 0, 0, 0, 1, 1, 1, 1, 2, 2, 2, 2, 3, 3, 3, 3, 4, 4, 4, 4, 5, 5, 5, 5, 0]
/-- Base of a distance symbol 0–29. -/
def distBase : List Nat :=
  [1, 2, 3, 4, 5, 7, 9, 13, 17, 25, 33, 49, 65, 97, 129, 193, 257, 385, 513, 769, 1025, 1537, 2049, 3073,
   4097, 6145, 8193, 12289, 16385, 24577]
/-- Extra bits of a distance symbol. -/
def distExtra : List Nat :=
  [0, 0, 0, 0, 1, 1, 2, 2, 3, 3, 4, 4, 5, 5, 6, 6, 7, 7, 8, 8, 9, 9, 10, 10, 11, 11, 12, 12, 13, 13]
/-- Order of the code-length code lengths. -/
def clOrder : List Nat := [16, 17, 18, 0, 8, 7, 9, 6, 10, 5, 11, 4, 12, 3, 13, 2, 14, 1, 15]

/-- The fixed literal/length code. -/
def fixedLit : List Nat :=
  List.replicate 144 8 ++ List.replicate 112 9 ++ List.replicate 24 7 ++ List.replicate 8 8
/-- The fixed distance code. -/
def fixedDist : List Nat := List.replicate 32 5

/-- The output so far, newest byte first. -/
structure Inf where
  out : List Byte
  n : Nat
  deriving DecidableEq, Repr

/-- What a piece of decoding answers: go on with the rest of the input, or stop with a code of Table 03-7. -/
inductive InfRes where
  | go (o : Inf) (rest : List Bool)
  | stop (o : Inf) (code : Nat)
  deriving DecidableEq, Repr

/-- Put out one byte unless the size is reached. -/
def Inf.put (o : Inf) (size : Nat) (b : Byte) : Option Inf :=
  if o.n < size then some { out := b :: o.out, n := o.n + 1 } else none

/-- Copy `k` bytes from `dist` back. -/
def infCopy (size dist : Nat) : Nat → Inf → Inf × Bool
  | 0, o => (o, true)
  | k + 1, o =>
    match o.put size (o.out.getD (dist - 1) 0) with
    | none => (o, false)
    | some o' => infCopy size dist k o'

/-- A stored block of `k` bytes. -/
def infStored (size : Nat) : Nat → Inf → List Bool → InfRes
  | 0, o, bs => .go o bs
  | k + 1, o, bs =>
    match takeBits 8 bs with
    | none => .stop o 0x28
    | some (v, bs') =>
      match o.put size (BitVec.ofNat 8 v) with
      | none => .stop o 0x26
      | some o' => infStored size k o' bs'

/-- A distance after a length of `len`. -/
def infMatch (size : Nat) (dist : Huff) (len : Nat) (o : Inf) (bs : List Bool) : InfRes :=
  match dist.read bs with
  | .ended => .stop o 0x28
  | .noCode => .stop o 0x24
  | .sym d bs =>
    if 30 ≤ d then .stop o 0x24
    else
      match takeBits (distExtra.getD d 0) bs with
      | none => .stop o 0x28
      | some (e, bs) =>
        let dd := distBase.getD d 0 + e
        if o.n < dd then .stop o 0x25
        else
          let (o', ok) := infCopy size dd len o
          if ok then .go o' bs else .stop o' 0x26

/-- The symbols of a compressed block. -/
def infBlock (size : Nat) (lit dist : Huff) : Nat → Inf → List Bool → InfRes
  | 0, o, _ => .stop o 0x28
  | fuel + 1, o, bs =>
    match lit.read bs with
    | .ended => .stop o 0x28
    | .noCode => .stop o 0x24
    | .sym n bs =>
      if n < 256 then
        match o.put size (BitVec.ofNat 8 n) with
        | none => .stop o 0x26
        | some o' => infBlock size lit dist fuel o' bs
      else if n = 256 then .go o bs
      else if 286 ≤ n then .stop o 0x24
      else
        match takeBits (lenExtra.getD (n - 257) 0) bs with
        | none => .stop o 0x28
        | some (e, bs) =>
          match infMatch size dist (lenBase.getD (n - 257) 0 + e) o bs with
          | .stop o c => .stop o c
          | .go o bs => infBlock size lit dist fuel o bs

/-- Read the `want` literal/length and distance code lengths of a dynamic block: the lengths so far are newest first. -/
def infLens (cl : Huff) (want : Nat) : Nat → List Nat → List Bool → Except Nat (List Nat × List Bool)
  | 0, _, _ => .error 0x28
  | fuel + 1, ls, bs =>
    if ls.length = want then .ok (ls.reverse, bs)
    else
      match cl.read bs with
      | .ended => .error 0x28
      | .noCode => .error 0x23
      | .sym n bs =>
        if n < 16 then infLens cl want fuel (n :: ls) bs
        else
          let eb := if n = 16 then 2 else if n = 17 then 3 else 7
          let base := if n = 18 then 11 else 3
          match takeBits eb bs with
          | none => .error 0x28
          | some (e, bs) =>
            if n = 16 ∧ ls.isEmpty then .error 0x23
            else if want < ls.length + base + e then .error 0x23
            else infLens cl want fuel (List.replicate (base + e) (if n = 16 then ls.getD 0 0 else 0) ++ ls) bs

/-- Is a distance code accepted (Table 03-7, INF_CODE_LENGTHS)? -/
def distOk (ls : List Nat) : Bool :=
  huffComplete ls || ls.all (fun l => l == 0) || (ls.filter (fun l => l != 0)) == [1]

/-- The header of a dynamic block: its two codes. -/
def infDynamic (bs : List Bool) : Except Nat (Huff × Huff × List Bool) :=
  match takeBits 14 bs with
  | none => .error 0x28
  | some (v, bs) =>
    let hlit := v % 32 + 257
    let hdist := v / 32 % 32 + 1
    let hclen := v / 1024 + 4
    if 286 < hlit ∨ 30 < hdist then .error 0x23
    else
      match takeBits (3 * hclen) bs with
      | none => .error 0x28
      | some (w, bs) =>
        let cls := tabulate 19 (fun s =>
          match clOrder.findIdx? (fun x => x == s) with
          | some i => if i < hclen then w / 8 ^ i % 8 else 0
          | none => 0)
        if !huffComplete cls then .error 0x23
        else
          match infLens (Huff.of cls) (hlit + hdist) (hlit + hdist + 1) [] bs with
          | .error c => .error c
          | .ok (ls, bs) =>
            let lit := ls.take hlit
            let dist := ls.drop hlit
            if lit.getD 256 0 = 0 ∨ !huffComplete lit ∨ !distOk dist then .error 0x23
            else .ok (Huff.of lit, Huff.of dist, bs)

/-- One block of a stream of `total` bits. -/
def infOne (size total : Nat) (typ : Nat) (o : Inf) (bs : List Bool) : InfRes :=
  match typ with
  | 0 =>
    let bs := bs.drop (bs.length % 8)
    match takeBits 32 bs with
    | none => .stop o 0x28
    | some (v, bs) =>
      if v % 65536 + v / 65536 ≠ 65535 then .stop o 0x22
      else infStored size (v % 65536) o bs
  | 1 => infBlock size (Huff.of fixedLit) (Huff.of fixedDist) (total + 1) o bs
  | 2 =>
    match infDynamic bs with
    | .error c => .stop o c
    | .ok (lit, dist, bs) => infBlock size lit dist (total + 1) o bs
  | _ => .stop o 0x21

/-- The blocks of a stream of `total` bits, at most `fuel` of them. -/
def infLoop (size total : Nat) : Nat → Inf → List Bool → Inf × Nat
  | 0, o, _ => (o, 0x28)
  | fuel + 1, o, bs =>
    match takeBits 3 bs with
    | none => (o, 0x28)
    | some (v, bs) =>
      match infOne size total (v / 2) o bs with
      | .stop o c => (o, c)
      | .go o bs =>
        if v % 2 = 0 then infLoop size total fuel o bs
        else if o.n < size then (o, 0x27)
        else if 8 ≤ bs.length then (o, 0x29)
        else (o, 0)

/-- R76: the bytes put out and the code of Table 03-7, 0 when the payload is a whole stream of `size` bytes. -/
def inflate (size : Nat) (payload : List Byte) : List Byte × Nat :=
  let bits := payload.flatMap byteBits
  let r := infLoop size bits.length (bits.length + 1) { out := [], n := 0 } bits
  (r.1.out.reverse, r.2)

end Sys2Proof.Machine
end

