-- ==== Sys2Proof/Config.lean ====
section
/-!
DEFINITION. What an implementation fixes and the free values: opaque constants, so that nothing can be proved of
their values, and the plain figures that the spec states once for the whole part.
-/
namespace Sys2Proof.Config

/-- A fresh open value for the n-th time one is needed (assumption log 3): the random SID and NONCE_D of R49. -/
opaque freeValue : Nat → BitVec 128

/-- The slew that the clock servo applies at a Sync: R288 says that it slews TIME through RATE_ADJ and gives no
amount (assumption log 4). Operands: the draw's number, the offset in ns, the present RATE_ADJ. -/
opaque servoRate : Nat → Int → Int → BitVec 32

/-- 1004.00 SERIAL_NUMBER, per unit (Table 02-12). -/
opaque serialNumber : BitVec 64

/-- 8114.00 MAC_ADDR, per unit (Table 12-5). -/
opaque macAddr : BitVec 48

/-- SHA-384 fuse slots 0–3 of R309. -/
opaque keyFuse : Nat → List Byte

/-- Is fuse slot `k` programmed (9050.02 KEY_FUSE)? -/
opaque keyProgrammed : Nat → Bool

/-- Is fuse slot `k` revoked (R309)? -/
opaque keyRevoked : Nat → Bool

/-- The fused rollback counter before any ADVANCE (R309). -/
opaque rollbackFuse : BitVec 16

/-- The factory fuse value of a trim item (R354). -/
opaque trimFuse : Nat → BitVec 16

/-- Does the mean of a sum over a count round up (R222 gives the mean as a U16 and no rounding)? Operands: sum, count. -/
opaque profileRoundsUp : Nat → Nat → Bool

/-- The levels of the GPIO balls at a LOCAL_COUNT, as the board drives them (R324; assumption log 46). -/
opaque gpioPins : Nat → BitVec 16

/-- Bytes 14 and 15 of a THREAD_TABLE entry of a thread that holds flows: Table 13-14 calls them indexes into the thread's
own list and gives no coding (assumption log 47). -/
opaque heldIndexes : List Nat → BitVec 16

/-- What a block read moves past the current length of an object (R28, R41 allow a transfer up to the maximum size and
give those bytes no content; assumption log 49). Operands: LOCAL_COUNT, the object's key, the byte's position. -/
opaque pastEnd : Nat → Nat → Nat → Byte

/-- At a LOCAL_COUNT at which the web has come to a stop or a quadrature error is found, does the device hold its trigger encoder
to be lost (R271, which names the loss and gives no sign of it; assumption log 129)? -/
opaque encoderLost : Nat → Bool

/-- Bytes that the buffer of a camera port's vision lines still holds at a LOCAL_COUNT (R221, which gives no rate at which the buffer
empties; assumption log 139). Operands: LOCAL_COUNT, port, bytes held after the last line. -/
opaque visionLeft : Nat → Nat → Nat → Nat

/-- The byte that a read of the image bytes of the download window finds (R310), by the instant and the offset. -/
opaque windowByte : Nat → Nat → Byte

/-- Nanoseconds in a second, LOCAL_COUNT counting at 1 GHz (R289). -/
def second : Nat := 1000000000
/-- Nanoseconds in a millisecond. -/
def milli : Nat := 1000000
/-- Nanoseconds in a microsecond. -/
def micro : Nat := 1000

/-- Slow-corner geyser rate in tokens per second (Table 00-2 example, R238, R401). -/
def geyserTokens : Nat := 260000000
/-- Geysers (Table 01-1). -/
def geysers : Nat := 32
/-- Inflate engines (Table 01-1). -/
def inflateEngines : Nat := 32
/-- Deflate engines (Table 01-1). -/
def deflateEngines : Nat := 6
/-- Columns of the device (00_scope.md, Geometry). -/
def columns : Nat := 65536
/-- Columns of a span (R25). -/
def spanCols : Nat := 2048

end Sys2Proof.Config
end

