-- ==== Sys2Proof/Machine/State.lean ====
section
/-!
DEFINITION. The state of the block as plain data. Objects of the dictionary that hold a plain value live in `State.dev`
(device scope) and `Bar.obj` (bar scope), keyed index * 256 + subindex, an unlisted object reading its default of the
object table (Sys2Proof/Machine/Objects.lean); everything else the spec gives the machine has a field of its own.
Each docstring names the rule, and the value at `State.reset`.
-/
namespace Sys2Proof.Machine
open Sys2Proof

/-- The content of an object: a slot value or the bytes of a wide object (R28). -/
inductive Val where
  | slot (v : Slot)
  | wide (bs : List Byte)
  deriving DecidableEq, Repr

/-- Table 02-9. -/
inductive DevState where
  | boot | config | ready | print | safe | doze | halted
  deriving DecidableEq, Repr

/-- Table 02-11. -/
inductive VbState where
  | off | armed | printing | held
  deriving DecidableEq, Repr

/-- Table 07-9. -/
inductive LaneState where
  | off | detect | train | ident | run | relock | deep | wake | mismatch | retired
  deriving DecidableEq, Repr

/-- Table 14-1. -/
inductive SupplyState where
  | off | dead | blank | on | tripped
  deriving DecidableEq, Repr

/-- Table 13-3. -/
inductive ThreadState where
  | free | ready | running | waiting | flowWait | faulted
  deriving DecidableEq, Repr

/-- Table 11-4. -/
inductive PairState where
  | single | noPartner | joining | paired | isolated | diverged
  deriving DecidableEq, Repr

/-- A record sent to the partner (Table 11-2). -/
inductive PairOut where
  | lease
  | release
  | commit (bar page digest : Nat)
  | flip (bar page flip : Nat) (strip : Option StripPlace)
  | band (bar band line : Nat) (stop held : Bool)
  | ack (bar port : Nat)
  | mirror (item : MirrorItem)
  | xchk (line : Nat) (pos h : Int)
  | forward (bar : Option Nat) (idx sub : Nat) (val : Slot)
  | meas (bar port : Nat) (items : List MeasItem)
  | hello (serial : BitVec 64) (fw digest : Nat) (pairId : Bool)
  | wantGen (bar page : Nat)
  | snapshot
  deriving DecidableEq, Repr

/-- What the device has sent out of its balls, oldest first: the model's own record of its outputs. -/
inductive Out where
  | dmaWrite (fn addr : Nat) (bytes : List Byte)
  | dmaRead (fn bar : Nat) (kind : FetchKind) (addr len : Nat)
  | readDone (fn : Nat) (bytes : List Byte)
  | msix (fn vec : Nat)
  | moa (ip port opcode session seq status : Nat) (payload mac : List Byte)
  | strike (port line : Nat)
  | burst (port line half : Nat) (f : QhlFrame)
  | bandSelect (port wave gain line : Nat)
  | mgmt (port : Nat) (f : QhlFrame)
  | train (port step row : Nat)
  | laneIdle (port : Nat) (upLock reins unit : Bool)
  | txSettings (port : Nat) (row : List Byte)
  | deepEnter (port : Nat)
  | pair (r : PairOut)
  | eth (port : Nat) (f : EthFrame)
  | delayReq (port : Nat)
  /-- R293: a write over MDIO of a PHY's advertisement, to 100 Mbit/s full duplex alone or to 1000 Mbit/s, and the restart of its
  auto-negotiation. -/
  | mdio (port phy : Nat) (only100 : Bool)
  | camPulse (cam : Nat) (light : Bool) (width : Nat)
  | pmbus (entry cmd value : Nat)
  | steps (axis : Nat) (positive : Bool) (count : Nat)
  | tap (opcode : Nat)
  | coreIrq (core thread : Nat)
  | mcData (sub addr : Nat) (bytes : List Byte)
  deriving DecidableEq, Repr

/-- A block-transfer channel (Table 02-3). -/
structure Chan where
  /-- BT_OBJECT; reset 0. -/
  object : Nat
  /-- BT_OFFSET; reset 0. -/
  offset : Nat
  /-- BT_LENGTH; reset 0. -/
  length : Nat
  /-- BT_HOST_ADDR; reset 0. -/
  addr : Nat
  /-- BT_CTRL.DIR of the running transfer. -/
  toObject : Bool
  /-- BT_STATUS.STATE: 0 idle, 1 busy, 2 done, 3 failed; reset 0. -/
  state : Nat
  /-- BT_STATUS.CODE; reset 0. -/
  code : Nat
  /-- BT_DONE; reset 0. -/
  done : Nat
  /-- BT_CRC; reset 0. -/
  crc : Nat
  /-- R42: the copy that a read returns, fixed at START. -/
  snap : List Byte
  /-- R43: a block write that started after a commit request waits for the seal. -/
  waits : Bool
  /-- The order of STARTs (R44). -/
  order : Nat
  /-- The bar of the object resolved at START, none for a device object. -/
  bar : Option Nat
  /-- The object resolved at START: index and device subindex as one key. -/
  key : Nat
  /-- R33, R34: the object is hidden or unimplemented for the session: nothing is read or written. -/
  hidden : Bool
  deriving DecidableEq, Repr

/-- A PCIe function (R36): 0 the PF, k VFk. -/
structure Fn where
  /-- Objects that exist per session or per function: 1105, 1106, 1108, 1109, 1150, 1151; unlisted: the default. -/
  own : Map Nat
  /-- Bus Master Enable (R63); reset false. -/
  bme : Bool
  /-- R39: the slot key and bytes [7:4] latched by a 4-byte read; reset none. -/
  latch : Option (Nat × Nat)
  /-- R39: the slot key and the held lower half of a write; reset none. -/
  held : Option (Nat × Nat)
  /-- The four channels of BAR2 (R41). -/
  chans : Map Chan
  /-- R55: LOCAL_COUNT of the first unsignalled event; reset none. -/
  unsigAt : Option Nat
  /-- R55: vectors of the unsignalled events. -/
  unsig : List Nat
  deriving DecidableEq, Repr

/-- An open block of an MOA session (R48). -/
structure MoaBlock where
  /-- The object resolved at BLOCK_BEGIN: index and device subindex as one key. -/
  key : Nat
  /-- R33, R34: the object is hidden or unimplemented for the session. -/
  hidden : Bool
  /-- The bar of the object, none for a device object. -/
  bar : Option Nat
  toObject : Bool
  offset : Nat
  length : Nat
  /-- Which of the 8 device buffers it holds (writes). -/
  buf : Nat
  /-- The deposited pieces, oldest first. -/
  chunks : List (Nat × List Byte)
  /-- A read's bytes, fixed at BLOCK_BEGIN (R42), and how many were sent. -/
  snap : List Byte
  sent : Nat
  /-- An uncorrectable error in its buffer (Table 10-7). -/
  bad : Bool
  /-- R43: BLOCK_BEGIN came after a commit request, so it waits for the seal. -/
  waits : Bool
  deriving DecidableEq, Repr

/-- An unacknowledged EVENT frame (R54). -/
structure SentEvent where
  seq : Nat
  payload : List Byte
  sentAt : Nat
  tries : Nat
  deriving DecidableEq, Repr

/-- R51: a kept response: the request's SEQ, and the frame's own SEQ, opcode, status and payload. -/
structure Kept where
  req : Nat
  seq : Nat
  op : Nat
  status : Nat
  payload : List Byte
  deriving DecidableEq, Repr

/-- An open MOA session (R49 to R52). -/
structure Session where
  /-- Slot 0–31 of 1130 SESSION_INFO. -/
  slot : Nat
  ip : Nat
  port : Nat
  /-- 0 supervisor, 1 bar host. -/
  role : Nat
  /-- Key slot or bar. -/
  target : Nat
  /-- The session key K_S. -/
  key : List Byte
  /-- R51: the last SEQ processed. -/
  last : Nat
  /-- R51: the last 8 responses, oldest first. -/
  kept : List Kept
  /-- R51: requests inside the window that wait for an earlier SEQ, or for a seal (R43), with their opcodes. -/
  early : List (Nat × MoaFrame)
  block : Option MoaBlock
  /-- LOCAL_COUNT of the last valid frame (R52). -/
  lastAt : Nat
  /-- Per-session objects 1105, 1106, 1108, 1109. -/
  own : Map Nat
  /-- SEQ of the device's own direction. -/
  txSeq : Nat
  /-- R54: at most 256. -/
  unacked : List SentEvent
  /-- R54: events discarded while the store was full. -/
  lost : Nat
  deriving DecidableEq, Repr

/-- A session attempt between CHALLENGE and AUTH (R49). -/
structure Challenge where
  ip : Nat
  port : Nat
  role : Nat
  target : Nat
  nonceH : List Byte
  nonceD : List Byte
  at_ : Nat
  deriving DecidableEq, Repr

/-- The MOA service. -/
structure Moa where
  /-- Open sessions by SID; reset none. -/
  sessions : Map Session
  /-- Attempts by SID; reset none. -/
  challenges : Map Challenge
  /-- R49: times of refused AUTHs by key (0–15 bar, 16–19 supervisor); reset none. -/
  fails : Map (List Nat)
  /-- R49: end of a key's lockout by key; reset none. -/
  lockout : Map Nat
  deriving DecidableEq, Repr

/-- Where a wagon stands. -/
inductive WagonPhase where
  | fetching | stored | inflating | done | failed
  deriving DecidableEq, Repr

/-- A filled or filling slot of a page: a wagon (R70). -/
structure Wagon where
  plane : Nat
  span : Nat
  band : Nat
  lines : Nat
  format : Nat
  encrypted : Bool
  hasCrc : Bool
  payloadLen : Nat
  inflatedCrc : Nat
  iv : List Byte
  affinity : Nat
  cookie : Nat
  /-- Waybill bytes 0–15, the additional authenticated data (R74). -/
  aad : List Byte
  /-- R75: the key latched when the waybill passed its checks; none when the slot was empty. -/
  key : Option (List Byte)
  phase : WagonPhase
  /-- The payload as stored in DRAM (caldera copy). -/
  payload : List Byte
  /-- R73: inflated rows in SRAM staging. -/
  rows : List (List Byte)
  /-- R73: rows released to screening. -/
  released : Nat
  /-- Table 03-7: engine attempts made, and the engines that faulted with it. -/
  attempts : Nat
  tried : List Nat
  /-- Failure code, 0 for none. -/
  failCode : Nat
  /-- R72: first affected wagon line of a failure; none when no line is affected (R73). -/
  failFrom : Option Nat
  /-- R72: the lines are withheld and not blanked. -/
  withheld : Bool
  deriving DecidableEq, Repr

/-- An integrity rectangle of a page (Table 03-5a, R206 to R208). -/
structure Rect where
  plane : Nat
  x0 : Nat
  width : Nat
  height : Nat
  y0 : Nat
  expect : Nat
  /-- The final CRC; none until final. -/
  crc : Option Nat
  incomplete : Bool
  deriving DecidableEq, Repr

/-- A page of a bar, from acceptance of its head until its log record is overwritten (R203). -/
structure Page where
  num : Nat
  lines : Nat
  noRetain : Bool
  /-- SOURCE_PAGE of a reprint (R79). -/
  source : Option Nat
  rects : List Rect
  /-- Wagons by (plane * 32 + span) * 65536 + band. -/
  slots : Map Wagon
  /-- R69: open until every wagon is stored or failed. -/
  isOpen : Bool
  /-- R89: PLANE_FORMAT and planes in use are read when screened; the status word of Table 08-2. -/
  status : Nat
  /-- R195: the fixed flip line. -/
  flip : Option Nat
  flipTime : Nat
  started : Bool
  /-- R191, R204. -/
  printed : Bool
  cut : Bool
  lateJudged : Bool
  gapBefore : Nat
  endTime : Nat
  /-- The line at which it was printed or cut. -/
  endLine : Nat
  /-- R203: CRC pass and fail bits. -/
  integPass : Nat
  integFail : Nat
  bandFirst : Nat
  bandLast : Nat
  bandChanges : Nat
  bandLine : Option Nat
  residual : Nat
  skipped : Nat
  withheldLines : Nat
  lastLine : Nat
  /-- R78: the page's wagons are held in the caldera. -/
  retained : Bool
  /-- R79: reprints that pin this page. -/
  pins : Nat
  /-- Lines struck by the bar when the page was printed, for web_after (R78). -/
  webMark : Nat
  /-- Levels of the 16 nozzles of a decided token by ((port * 2^26 + line) * 512 + token) (R104). -/
  tokens : Map (List Nat)
  /-- Logical levels by ((plane * 2^26 + line) * 65536 + column) (R97). -/
  logical : Map Nat
  /-- Lines wholly screened by ((plane * 32 + span) * 2^26 + line) (R105). -/
  screened : Map Bool
  /-- R95: lines whose clips were counted under the present generation, keyed as `screened`. -/
  counted : Map Bool
  /-- R274: the standby withholds the bursts of this page. -/
  genWithheld : Bool
  /-- R19: the copies that this page is still screened and fired under, when a later generation is live. -/
  under : Option (Map Val)
  /-- R174: the head tables that its ACTIVATEs switch, once its flip line is fixed. -/
  actKeys : List Nat
  /-- Spans, as plane * 32 + span, of which a geyser fault or migration has had lines screened again (R105, Table 04-9). -/
  moved : List Nat
  /-- R79: the storage of its wagons; a reprint shares that of its source. -/
  store : Nat
  /-- R260: the stripe map generation under which each line was written, keyed as `screened`; unlisted: 0. -/
  lineGen : Map Nat
  deriving DecidableEq, Repr

/-- A waybill on its way through intake, in queue order (R399). -/
structure Inflight where
  idx : Nat
  /-- 0 requested, 1 fetched and not checked, 2 held page head (R69), 3 head that waits for its integrity entries,
  4 wagon that waits for its payload, 5 done. -/
  phase : Nat
  bytes : List Byte
  /-- A payload or integrity fetch has been granted. -/
  granted : Bool
  /-- Times of aborted fetches within the last 1 s (Table 03-7). -/
  aborts : List Nat
  page : Nat
  slot : Nat
  /-- The wagon that the waybill opened, until its payload is stored. -/
  wagon : Option Wagon
  /-- R63: an aborted fetch whose retry waits for Bus Master Enable. -/
  again : Bool
  deriving DecidableEq, Repr

/-- A deflate job (R82 to R86). -/
structure Job where
  id : Nat
  source : Nat
  stop : Bool
  chain : Nat
  level : Nat
  srcAddr : Nat
  srcLen : Nat
  outAddr : Nat
  outLen : Nat
  cookie : Nat
  /-- 0 running, 1 stopped (R86), 2 waits for a buffer (R85). -/
  phase : Nat
  consumed : Nat
  produced : Nat
  /-- CRC register of the source bytes of this run. -/
  inCrc : Nat
  fallback : Nat
  dropped : Nat
  /-- Ring index of the buffer being filled and bytes used in it. -/
  ringIdx : Nat
  used : Nat
  /-- The buffer being filled begins a new stream. -/
  segStart : Bool
  /-- Ring index of the descriptor that the writeback overwrites. -/
  descIdx : Nat
  /-- The last 32 KiB of source of this stream (R83). -/
  window : List Byte
  /-- R85: blocks that wait in the engine's 64 KiB output store, encoded and source bytes, and the camera lines in them. -/
  outStore : List (List Byte × List Byte)
  storeLines : Nat
  /-- R85: lines were dropped since the last buffer. -/
  lost : Bool
  /-- The camera's coding line at which the job began. -/
  start : Nat
  /-- OP of that descriptor: 1 START, 2 RESUME (Table 03-8a). -/
  op : Nat
  deriving DecidableEq, Repr

/-- The audit capture of a bar (R87). -/
structure Audit where
  plane : Nat
  page : Nat
  /-- Bytes; 0 until the page's head has been accepted. -/
  size : Nat
  ready : Bool
  /-- The captured plane, once ready. -/
  data : List Byte
  deriving DecidableEq, Repr

/-- A nozzle as a strip measured it (R229, R230). -/
structure MeasNoz where
  integral : Nat
  e : Int
  n : Nat
  /-- Its outcome is EXCLUDED: an unusable pixel, or a port with REG_LOST. -/
  excluded : Bool
  /-- Measured by this unit (R236). -/
  own : Bool
  deriving DecidableEq, Repr

/-- A check strip placed in a gap (R200, R228). -/
structure Strip where
  plane : Nat
  rowSet : Nat
  /-- Datum line of strip line 0. -/
  first : Nat
  length : Nat
  k : Nat
  seg : Nat
  level : Nat
  /-- Camera ports whose measurement of this strip has ended (R235). -/
  ended : List Nat
  /-- R230, R236: what was measured, by head port * 65536 + nozzle. -/
  got : Map MeasNoz
  /-- Camera ports that abandoned it (R235). -/
  gone : List Nat
  /-- STRIP_MEASURED has been posted. -/
  measured : Bool
  abandoned : Bool
  /-- R19: the copies that its lines are fired under, when a later generation is live. -/
  under : Option (Map Val)
  /-- The page that follows it. -/
  page : Nat
  /-- The camera ports that are on when it is placed (R235). -/
  ports : List Nat
  /-- R234: its commit has been requested. -/
  committed : Bool
  /-- R236: when this unit had measured it. -/
  endedAt : Option Nat
  deriving DecidableEq, Repr

/-- A decided band change that has not yet taken effect (R140 to R144). -/
structure BandChange where
  /-- The line of change. -/
  line : Nat
  band : Nat
  /-- R143: the first line after a stop or after TRIG_EN. -/
  stop : Bool
  /-- R142: it waited under LOCK_BAND_IN_PAGE. -/
  held : Bool
  /-- The page whose generation gives the band's BAND_WAVE_SET and BAND_DRIVE_GAIN (R19). -/
  page : Nat
  deriving DecidableEq, Repr

/-- The queues and pointers of a bar (03_intake.md). -/
structure Intake where
  /-- 2001.00; reset 0. -/
  wqTail : Nat
  /-- 2001.01; reset 0. -/
  wqHead : Nat
  /-- R61; reset false. -/
  tailBad : Bool
  /-- Next waybill index to request. -/
  fetchIdx : Nat
  /-- Waybills requested and not yet past WQ_HEAD, in queue order. -/
  inflight : List Inflight
  /-- R68: the expected page number; none after leaving VB_OFF. -/
  expect : Option Nat
  /-- R69. -/
  pageHold : Bool
  /-- R78. -/
  calderaFull : Bool
  /-- R246: over quota was signalled (R247). -/
  overQuota : Bool
  /-- R249: SRAM over was signalled. -/
  sramOver : Bool
  /-- 2003.00; reset 0. -/
  eqHead : Nat
  /-- 2003.01; reset 0. -/
  eqTail : Nat
  /-- R64: records lost since the last EVENT_OVERFLOW. -/
  eqLost : Nat
  /-- 2301.00 and 2301.01; reset 0. -/
  djTail : Nat
  djHead : Nat
  /-- 2302.00–03; unlisted 0. -/
  chainTail : Map Nat
  /-- R85: address and length of the buffers made available and not yet closed, by slot * 2^32 + ring index. -/
  chainBufs : Map (Nat × Nat)
  jobs : List Job
  audit : Option Audit
  /-- R78: the bytes that admission waits for while CALDERA_FULL is set. -/
  calderaNeed : Nat
  deriving DecidableEq, Repr

/-- A pending generation of a bar (R17, R18). -/
structure PendGen where
  /-- The effective commit page E. -/
  page : Nat
  /-- R107: the seal carried a write to a screening-class object. -/
  screening : Bool
  /-- R174: keys of NOZZLE_PHASE and WAVE_PARAM objects changed. -/
  headKeys : List Nat
  /-- R174: head ports whose writes for it are not all acknowledged. -/
  headWait : List Nat
  /-- Nozzles that device updates moved out of or into service, as port * 65536 + nozzle (Table 05-6). -/
  dev : List Nat
  /-- R20: sealed while idle with E = NEXT_PAGE. -/
  idle : Bool
  deriving DecidableEq, Repr

/-- Pages, gaps, strips and marks of a bar (08_page_scanout.md). -/
structure Scan where
  /-- R192: E, the start of the present gap; none while a page is at the datum or before the first line. -/
  gapFrom : Option Nat
  /-- R198: lateness is judged from this line. -/
  judgeFrom : Nat
  /-- R192, R198: the first line to fall due after entry is still awaited. -/
  needFirst : Bool
  /-- R204: E is the next line to fall due, after a cut. -/
  cutGap : Bool
  /-- Status bits of Table 08-2 that await the head of the bar's next page (R131, R197, R200). -/
  nextBits : Nat
  /-- R200: the strip decision of the present gap has been made. -/
  stripDecided : Bool
  /-- R227: the pending target: plane, row set, and whether the rotation chose it. -/
  stripPending : Option (Nat × Nat × Bool)
  /-- R227: next rotation position 2 * plane + row set. -/
  stripNext : Nat
  /-- R227: pages started since the last strip. -/
  stripSince : Nat
  strips : List Strip
  /-- R196: flip records whose page head this unit has not yet accepted: page, flip line, and the line at which SAFE has cut the
  page (R204). -/
  ahead : List (Nat × Nat × Option Nat)
  /-- R158: registered flip lines with residuals and the mark input, at most 16. -/
  marks : List (Nat × Nat × Nat)
  /-- R209: lines at which page-mark requests are due. -/
  markReqs : List Nat
  /-- R128: uncompensated columns of the live generation by plane * 65536 + column. -/
  uncomp : List Nat
  /-- R143: the next line takes band 0 at once. -/
  bandStop : Bool
  band : Nat
  bandCand : Nat
  bandPend : Nat
  bandDwell : Nat
  /-- R142: lines with c = b while a change waits. -/
  bandQuiet : Nat
  /-- R142: a completed change waits for the bar's next page. -/
  bandWaits : Bool
  /-- Decided changes, in the order of their decision. -/
  bandChange : List BandChange
  /-- Lines struck since reset, for CALDERA_DEPTH (R78). -/
  struck : Nat
  /-- R194: the last page number started, to find NEXT_PAGE. -/
  lastStarted : Option Nat
  /-- R19: the copies that govern the present gap, once a strip has been decided under them. -/
  gapUnder : Option (Map Val)
  /-- R195: the line of readiness m of the next page; none while it is not ready or MARK_REG is off. -/
  readyAt : Option Nat
  deriving DecidableEq, Repr

/-- A virtual bar (R15, R58). -/
structure Bar where
  /-- 1201 VB_STATE; reset VB_OFF. -/
  vb : VbState
  /-- R58: the waiting target; reset none. -/
  waiting : Option VbState
  /-- Bar-scope objects that hold a plain value; unlisted: the default. -/
  obj : Map Val
  /-- R15: the live copies written so far; unlisted: the default. -/
  live : Map Val
  /-- R15: the pending copies. -/
  pend : Map Val
  /-- R15: the open copies. -/
  opn : Map Val
  /-- R122: the open copies hold a host write. -/
  openHost : Bool
  /-- Nozzles that device updates moved out of or into service in the open copies, as port * 65536 + nozzle. -/
  openDev : List Nat
  gen : Option PendGen
  /-- R17: the held request: page and merged flag. -/
  heldReq : Option (Nat × Bool)
  /-- Wagon keys 2110 by slot; reset absent. -/
  keys : Map (List Byte)
  intake : Intake
  /-- Pages in page order, oldest first. -/
  pages : List Page
  scan : Scan
  /-- 5030.00 PAGE_LOG: records by page mod 256 (R205); unlisted zeros. -/
  log : Map (List Byte)
  /-- R243, R239: wagons discarded on the last entry to VB_OFF. -/
  discarded : Nat
  /-- R280: 8015 JOIN_PAGE; reset 0. -/
  joinPage : Nat
  /-- R274: the page from which bursts are withheld until repaired. -/
  mismatchFrom : Option Nat
  /-- R274: own digest and the active's at the mismatch. -/
  mismatchDigests : Nat × Nat
  /-- R274: a COMMIT record whose seal is still to come: page and digest. -/
  peerSeal : Option (Nat × Nat)
  /-- R20, R174: the head tables of a generation that took effect while the bar was idle, until the page starts at which the heads
  switch to them. -/
  heads : Option PendGen
  /-- R79: storages used so far. -/
  nextStore : Nat
  /-- R242: the SRAM quarter of each table copy, by copy * 2^24 + object key; copies: 0 live, 1 pending, 2 open. -/
  quarters : Map Nat
  deriving DecidableEq, Repr

/-- An encoder input (R130, R131). -/
structure Enc where
  a : Bool
  b : Bool
  /-- 4002 ENC_COUNT; reset 0. -/
  count : Int
  postAt : Option Nat
  /-- R130: when a change of A was last accepted. -/
  aAt : Option Nat
  /-- R130: when a change of B was last accepted. -/
  bAt : Option Nat
  deriving DecidableEq, Repr

/-- The line trigger (06_firing_timeline.md). -/
structure Trig where
  /-- 4003.01; reset 0. -/
  en : Bool
  /-- R132: the high-water count H. -/
  h : Int
  reversed : Bool
  /-- Greatest REVERSE_DEPTH of this reversal. -/
  maxDepth : Nat
  moving : Bool
  /-- R133: the web has stopped and not moved on since. -/
  stopped : Bool
  /-- Times of counts above H, newest first: (count, LOCAL_COUNT); the last 66, and those of the last 1.1 ms. -/
  times : List (Int × Nat)
  /-- R133: counts above H since a stop, WEB_FORWARD or TRIG_EN. -/
  fresh : Nat
  /-- R134: P(n) of the next line, 96 bits in units of 2^-40 counts. -/
  pos : Int
  /-- 4006.00 LINE_NUMBER; reset 0. -/
  line : Nat
  lastDue : Option Nat
  /-- 4006.01; reset 0. -/
  period : Nat
  lastStrike : Option Nat
  lastAdmit : Option Nat
  /-- Lines of the LEAD_LINES window that were admitted. -/
  admitted : List Nat
  /-- R139. -/
  overspeed : Bool
  firstSkip : Nat
  runSkips : Nat
  runStruck : Nat
  /-- 4030 LINE_RECORDS by line mod 32768; unlisted zeros. -/
  records : Map (List Byte)
  encErrAt : Option Nat
  /-- The last line that fell due before TRIG_EN was last set. -/
  runFrom : Nat
  /-- R216: the instants, newest first, from which a count of H at the last stop, WEB_FORWARD or TRIG_EN (R133) and a state of
  reversal (R132) held; those of the last 1.1 ms and the one before. -/
  stances : List (Nat × Int × Bool)
  deriving DecidableEq, Repr

/-- A mark input (R157). -/
structure Mark where
  last : Option Nat
  /-- R130, R157: when a change of level was last accepted. -/
  edgeAt : Option Nat
  deriving DecidableEq, Repr

/-- A management request in flight on a lane (R172). -/
structure MgmtReq where
  tag : Nat
  op : Nat
  addr : Nat
  count : Nat
  words : List (BitVec 64)
  sentAt : Nat
  tries : Nat
  /-- Bar and page that wait for it (R174). -/
  forPage : Option (Nat × Nat)
  /-- R174: BASE + min OFF of an ACTIVATE, by which it must be acknowledged. -/
  deadline : Option Nat
  deriving DecidableEq, Repr

/-- A head port (07_head_link.md). -/
structure Port where
  /-- 4801; reset OFF. -/
  st : LaneState
  /-- LOCAL_COUNT of entry to the state. -/
  since : Nat
  upLock : Bool
  upLos : Bool
  dnLock : Bool
  present : Bool
  /-- R186: times of failed upstream CRCs within 1 ms. -/
  crcTimes : List Nat
  /-- R183: row under trial, and the best (FOM, row) so far. -/
  row : Nat
  best : Option (Nat × Nat)
  /-- When ROW_START is sent: 1 µs after the row's settings are applied. -/
  rowAt : Nat
  reqs : List MgmtReq
  nextTag : Nat
  /-- IDENT reads done so far: ID, CAPS, LINK. -/
  identWords : List (BitVec 64)
  mismatch : Nat
  input : Nat
  echo : Nat
  telemAt : Option Nat
  hot : Bool
  /-- R178: lines struck on this lane that await LINE_STATUS, oldest first. -/
  struck : List Nat
  /-- Lines whose frames were launched and not yet struck: line, burst A sent, burst B sent. -/
  launched : List (Nat × Bool × Bool)
  /-- R106: datum lines that the dray found not wholly screened when it read them. -/
  lateLines : List Nat
  /-- Datum lines whose store burst was lost to an uncorrectable error (Table 10-7). -/
  lostLines : List Nat
  deepHead : Bool
  /-- R278: BURST_MISS_PARTNER and the time it last changed. -/
  partnerAt : Nat
  /-- R186: the head's CRC count of this unit's input in the last STATUS, and the times of its recent failures. -/
  dnCrc : Option Nat
  dnCrcTimes : List Nat
  /-- R183: what the upstream receiver starts from: RX_CTLE and RX_DFE of the row. -/
  rxCtle : Nat
  /-- R183. -/
  rxDfe : Bool
  /-- Table 07-2: the frames of any kind sent on this lane, modulo 256; reset 0 (assumption log 128). -/
  seq : Nat
  /-- R187: since when, in RELOCK, both directions have held lock; reset none. -/
  lockAt : Option Nat
  deriving DecidableEq, Repr

/-- A dray (R152). -/
structure Dray where
  /-- The reads not yet complete: the line that started each, and the time, oldest first. -/
  reading : List (Nat × Nat)
  panic : Bool
  panicTimes : List Nat
  postAt : Option Nat
  deriving DecidableEq, Repr

/-- A head supply (R325 to R332). -/
structure Supply where
  /-- A201; reset OFF. -/
  st : SupplyState
  /-- HVENk as driven. -/
  hven : Bool
  /-- R326: ENABLE accepted, the rise waits for the strike of this line. -/
  riseLine : Option Nat
  riseAt : Option Nat
  /-- Filtered trip input: true while asserted. -/
  trip : Bool
  /-- LOCAL_COUNT of its last assertion; once it has gone in BLANK, how long it was asserted (R329). -/
  tripAt : Nat
  inBlank : Bool
  /-- R332: the mirror's enable and latch. -/
  mirrorEn : Bool
  mirrorLatch : Bool
  /-- When a change of the trip input was last accepted (R327, TRIP_FILTER); reset none. -/
  inputAt : Option Nat
  deriving DecidableEq, Repr

/-- What an axis is doing (R311 to R317). -/
inductive AxMode where
  | idle | move | jog | stop | home | homed
  deriving DecidableEq, Repr

/-- A stepper axis. Positions in 10^-12 steps, velocity in 10^-6 steps/s, acceleration in 10^-6 steps/s² (assumption log 25). -/
structure Axis where
  pos : Int
  vel : Int
  acc : Int
  mode : AxMode
  target : Int
  /-- Cause to report when a stop ends (Table 14-3). -/
  cause : Nat
  /-- Deceleration of a ramped stop in steps/s². -/
  decel : Nat
  armed : Option Nat
  /-- An accepted command that the next 1 µs update takes up (R313, R314). -/
  next : Option Nat
  /-- AX_STATUS bits; POSITION_UNCERTAIN resets to 1. -/
  uncertain : Bool
  homed : Bool
  atP : Bool
  atN : Bool
  both : Bool
  followErr : Bool
  ssiFault : Bool
  /-- R320: times of observed steps, newest first, and the last direction. -/
  seen : List Nat
  seenDir : Bool
  /-- Mirrored move of the holder (Table 11-3). -/
  mirrorTarget : Int
  mirrorMoving : Bool
  /-- The profile of the mirrored move: AX_VMAX, AX_ACCEL and AX_JERK (Table 11-3); reset none. -/
  mirrorProfile : Option (Nat × Nat × Nat)
  /-- Intervals in which the axis has moved, newest first; those of the last 1.1 ms (R225). -/
  runs : List (Nat × Nat)
  /-- The direction that DIR shows, 1 or -1, driven or counted (R312, R320); reset 1. -/
  dir : Int
  /-- When DIR last changed (R312, AX_DIR_SETUP); reset none. -/
  dirAt : Option Nat
  deriving DecidableEq, Repr

/-- An SSI port (R318). -/
structure Ssi where
  busy : Bool
  /-- AX_POS latched at the first falling edge, by axis. -/
  latched : Map Int
  bad : Nat
  deriving DecidableEq, Repr

/-- A compare output (R321, R322). -/
structure Cmp where
  /-- A104; reset 0. -/
  index : Nat
  /-- R321: the last target reached, from which CMP_PERIOD counts on. -/
  next : Option Int
  /-- End of the pulse asserted now. -/
  until_ : Option Nat
  /-- End of the low time. -/
  lowUntil : Option Nat
  waiting : Nat
  deriving DecidableEq, Repr

/-- One camera line in the reconstruction window (R218). -/
structure CamLine where
  index : Nat
  present : Bool
  samples : List Nat
  time : Nat
  pos : Int
  uncertain : Bool
  axisMoving : Bool
  deriving DecidableEq, Repr

/-- A vision line (R218, R220). -/
structure VisLine where
  index : Nat
  time : Nat
  /-- Y of R216. -/
  pos : Int
  uncertain : Bool
  axisMoving : Bool
  /-- It images a strip line (Table 09-3). -/
  strip : Bool
  /-- Values, channels 0–3 within each pixel. -/
  vals : List Nat
  /-- Per pixel: bit 0 SAT, bit 1 CONTAM. -/
  flags : List Nat
  deriving DecidableEq, Repr

/-- A strip under measurement at a port (R226, R229). -/
structure StripMeas where
  /-- The first datum line of the strip. -/
  first : Nat
  /-- The map latched at the first white-band line: offset, scale, track. -/
  map : Option (Int × Nat × Int)
  /-- The lines that image the strip, with the datum line of each. -/
  lines : List (Int × VisLine)
  /-- `Cam.regGen` when the map was latched. -/
  gen : Nat
  deriving DecidableEq, Repr

/-- A focus search (R225). -/
structure Search where
  start : Int
  i : Nat
  /-- 0 moving, 1 discarding the next statistic, 2 awaiting the score, 3 moving to the final position. -/
  phase : Nat
  scores : List Nat
  final : Int
  edge : Bool
  movedAt : Nat
  /-- FOCUS_POINTS, FOCUS_STEP and FOCUS_AXIS at FOCUS_GO (R225). -/
  n : Nat
  /-- FOCUS_STEP. -/
  step : Int
  /-- FOCUS_AXIS. -/
  axis : Nat
  deriving DecidableEq, Repr

/-- The instant of a camera line (R216): the web position in 1/64 lines, whether it is uncertain, TIME, and whether the axis of the
focus search moved. -/
structure Instant where
  pos : Int
  uncertain : Bool
  time : Nat
  axisMoving : Bool
  deriving DecidableEq, Repr

/-- A pulse on CPn_TRIG (R215): its start, and what a line paired with it carries. -/
structure Pulse where
  start : Nat
  inst : Instant
  deriving DecidableEq, Repr

/-- A camera port (09_inspection.md). -/
structure Cam where
  /-- R214: starts of pulses that are due. -/
  dueTrig : List Nat
  /-- R215, R216: unpaired pulses, oldest first. -/
  pulses : List Pulse
  trigUntil : Option Nat
  lightUntil : Option Nat
  /-- R217: index of the next camera line. -/
  index : Nat
  /-- R218: the last lines, oldest first. -/
  window : List CamLine
  nextOut : Nat
  /-- CAM_LINE of the next output line. -/
  outCount : Nat
  /-- R219: 6103 SAT_MAP by pixel; unlisted clear. -/
  satMap : Map Bool
  /-- When a sample last saturated. -/
  satAt : Option Nat
  satPostAt : Option Nat
  /-- Times of lines lost within the last 1 ms. -/
  lostTimes : List Nat
  /-- When the last image line was accepted, or the port was enabled. -/
  lineAt : Option Nat
  /-- When the last image line arrived (R223). -/
  lastIn : Option Nat
  /-- HS traffic last seen. -/
  hsAt : Option Nat
  /-- CAM_STATE last posted: 0 off, 1 no signal, 2 receiving. -/
  state : Nat
  deskewed : Bool
  regLost : Bool
  /-- R222: sums and counts by pixel * 4 + channel, and lines so far. -/
  profSum : Map (Nat × Nat)
  profLines : Nat
  /-- R224: sum and lines counted, by window. -/
  focusSum : Map (Nat × Nat)
  search : Option Search
  /-- R229: the strips under measurement, by bar. -/
  strips : Map StripMeas
  /-- R220: the vision lines of the display block so far. -/
  block : List VisLine
  /-- Rings by slot: vision, display, coding (R221). -/
  vision : Map (List Byte)
  display : Map (List Byte)
  coding : Map (List Byte)
  /-- R221: bytes in the 4 MiB buffer of vision lines; reset 0. -/
  visBuf : Nat
  /-- Writes of REG_OFFSET and REG_SCALE so far (Table 09-4). -/
  regGen : Nat
  deriving DecidableEq, Repr

/-- A channel of Table 16-2 (R356). -/
structure Health where
  hist : List Nat
  postAt : Option Nat
  refusedAt : Option Nat
  deriving DecidableEq, Repr

/-- An inflate engine (R77). -/
structure Engine where
  /-- Bar, page and slot of the wagon in hand. -/
  job : Option (Nat × Nat × Nat)
  rowsDone : Nat
  deriving DecidableEq, Repr

/-- The placer (R238 to R243). -/
structure Place where
  /-- Geysers of a span's tokens by plane * 32 + device span: runs (geyser, tokens) in unit order. -/
  spans : Map (List (Nat × Nat))
  /-- R239: assignments that wait for a page boundary. -/
  waitSpans : Map (List (Nat × Nat))
  /-- Tokens per line by geyser. -/
  load : Map Nat
  /-- Hot fumaroles (R238). -/
  hot : List Nat
  gen : Nat
  time : Nat
  /-- The bar whose span it is, by plane * 32 + device span. -/
  owner : Map Nat
  /-- R239: by span, the assignments under which the pages up to a page number are still screened, the earliest first. -/
  tail : Map (List (Nat × List (Nat × Nat)))
  /-- The weights w of R238 that the last run took. -/
  weights : List Nat
  /-- Table 10-3: the memory regions have been laid out. -/
  laid : Bool
  /-- R248: a retirement has shrunk BAR_POOL since. -/
  shrunk : Bool
  /-- R260: the in-service list of each earlier stripe map generation. -/
  maps : Map (List Nat)
  deriving DecidableEq, Repr

/-- A queued memory request (R253, R255). -/
structure McEntry where
  req : McReq
  /-- The order of acceptance in its subchannel. -/
  order : Nat
  /-- What a write stores: address and bytes, later ones last (R255). -/
  segs : List (Nat × List Byte)
  /-- Row hits that passed it. -/
  passed : Nat
  deriving DecidableEq, Repr

/-- A DRAM subchannel (R251 to R260). -/
structure Subch where
  /-- 7202: 0 absent, 1 training, 2 in service, 3 migrating, 4 retired. -/
  state : Nat
  /-- MiB fitted. -/
  mib : Nat
  readQ : List McEntry
  writeQ : List McEntry
  /-- Requests accepted so far. -/
  accepted : Nat
  draining : Bool
  owed : Nat
  hot : Bool
  /-- Open row and time of the last access by bank. -/
  banks : Map (Nat × Nat)
  /-- R258: bytes by address; an unlisted byte reads 0 (assumption log 11). -/
  cells : List Host.Cell
  corrTimes : List Nat
  retraining : Bool
  /-- Address that the patrol scrub reads next. -/
  scrub : Nat
  /-- R251: a drift correction waits for the next refresh window. -/
  drift : Bool
  /-- R360: it is being trained to return from retirement. -/
  returning : Bool
  /-- R7: requests that found their queue full, held until entries free, oldest first. -/
  held : List McReq
  /-- R251: when DQS drift was last tracked. -/
  trackAt : Nat
  /-- R256: when a refresh interval last came due. -/
  refreshAt : Nat
  /-- R260: addresses and lengths written here while another subchannel's stripes were being copied. -/
  wrote : List (Nat × Nat)
  deriving DecidableEq, Repr

/-- SRAM rows (R264). -/
structure SramRow where
  corr : List Nat
  remapped : Bool
  deriving DecidableEq, Repr

/-- The pair and the reins (11_pair_redundancy.md). -/
structure Pair where
  /-- 8001; reset SINGLE. -/
  state : PairState
  holder : Bool
  reinsOut : Bool
  peer : Bool
  peerSince : Nat
  /-- R270: the last renewal this unit sent. -/
  renewedAt : Nat
  /-- R270: end of the partner's lease as counted here. -/
  partnerLease : Option Nat
  seenLease : Bool
  /-- R271: the cause of this unit's own release, until it has received a lease of the new holder. -/
  released : Option Nat
  /-- R273: the partner's lease ended by RELEASE. -/
  byRelease : Bool
  linkUp : Bool
  recordAt : Nat
  helloAt : Option Nat
  /-- 8004: lane states. -/
  lanes : Map Nat
  aligned : Bool
  strikesStopped : Bool
  resyncOnly : Bool
  /-- R276: a unit that released the reins takes K afresh at the next XCHK. -/
  needK : Bool
  mismatches : List Nat
  /-- R278, as last judged. -/
  partnerSeen : Bool
  bootAt : Nat
  recheckAt : Option Nat
  bothSince : Option Nat
  digestBad : Bool
  fwBad : Bool
  joinStep : Nat
  /-- Reprint checks the active passed, by bar * 2^32 + page. -/
  reprints : Map Bool
  /-- R26: the unit has entered DIVERGED and has not matched in CONFIG since: it sends nothing; reset false. -/
  barred : Bool
  deriving DecidableEq, Repr

/-- A learned address (R283). -/
structure MacEntry where
  port : Nat
  at_ : Nat
  deriving DecidableEq, Repr

/-- A master that an external port hears: its last Announce (R288). -/
structure Foreign where
  dataset : Announce
  /-- When its Announce messages came, newest first; those of the last four announce intervals. -/
  times : List Nat
  deriving DecidableEq, Repr

/-- A frame waiting at an egress queue (R284, R287). -/
structure EthQueued where
  f : EthFrame
  /-- Ingress port and timestamp. -/
  inPort : Nat
  inAt : Int
  deriving DecidableEq, Repr

/-- Switch and clock servo (12_network_time.md). -/
structure Net where
  /-- By address, at most 1,024. -/
  macs : Map MacEntry
  /-- By port * 2 + priority (1 high). -/
  queues : Map (List EthQueued)
  /-- R288: the masters heard, by announceKey: receiving port, clock identity and port number of the sender. -/
  announces : Map Foreign
  master : Option (Nat × Nat)
  inRow : Nat
  outRow : Nat
  locked : Bool
  holdover : Bool
  arb : Bool
  /-- Pending Delay_Req: its send time, and the last Sync: (master send, local receive). -/
  reqAt : Option Nat
  sync : Option (Int × Int)
  reqInterval : Int
  reqSentAt : Option Nat
  deriving DecidableEq, Repr

/-- TIME (R289). -/
structure Clock where
  /-- 8101.00 OFFSET_NS; reset 0. -/
  offset : Nat
  /-- 8101.01 BASE_COUNT; reset 0. -/
  base : Nat
  /-- 8101.04 RATE_ADJ; reset 0. -/
  rate : Int
  /-- R290: earlier clocks, newest first, each with the instant at which it ended: OFFSET_NS, BASE_COUNT, RATE_ADJ; those of the
  last 1.1 ms. -/
  past : List (Nat × Nat × Nat × Int)
  deriving DecidableEq, Repr

/-- A thread (Table 13-3, R298 to R304). -/
structure Thread where
  st : ThreadState
  group : Nat
  /-- 0 cluster 0, 1 cluster 1, 2 either. -/
  cluster : Nat
  noPreempt : Bool
  wake : Nat
  flags : Nat
  mask : Nat
  andMode : Bool
  woke : Nat
  flow : Nat
  /-- Flows held, in order of entry. -/
  held : List Nat
  timer : Option Nat
  entry : Nat
  /-- Position in the ready order. -/
  ready : Nat
  /-- SCH_STATUS of its last CSR write. -/
  status : Nat
  lastRun : Nat
  /-- Core whose window holds it, or none when in its save area. -/
  window : Option Nat
  /-- R296: where the device has placed the data region of an extension. -/
  data : Nat
  deriving DecidableEq, Repr

/-- A flow (R303). -/
structure Flow where
  holder : Option Nat
  queue : List Nat
  abandoned : Bool
  deriving DecidableEq, Repr

/-- A control core (R301, R305, R306). -/
structure CoreSt where
  thread : Option Nat
  /-- LOCAL_COUNT up to which its core time has been charged. -/
  since : Nat
  /-- LOCAL_COUNT at which its thread was dispatched. -/
  runAt : Nat
  reserved : Option Nat
  deferred : Bool
  irq : Nat
  retired : Bool
  /-- Machine external interrupts enabled (R302); reset true. -/
  irqOn : Bool
  deriving DecidableEq, Repr

/-- The thread scheduler (13_control_cores.md). -/
structure Sched where
  threads : Map Thread
  flows : Map Flow
  cores : Map CoreSt
  /-- Deficit by cluster * 8 + group (R301). -/
  deficit : Map Int
  readySeq : Nat
  allWaitAt : Option Nat
  deadlockDone : Bool
  deriving DecidableEq, Repr

/-- Boot (R308 to R310, R373). -/
structure Boot where
  /-- DL_STATUS phase. -/
  phase : Nat
  /-- Codes of the download, slot A and slot B; reset 0xFF, not tried. -/
  dlCode : Nat
  slotA : Nat
  slotB : Nat
  /-- Sources still to try: 0 slot A, 1 slot B, 2 download. -/
  sources : List Nat
  dlLength : Nat
  dlImage : List Byte
  /-- The resident image, header first; empty before one has passed. -/
  image : List Byte
  /-- R309: the fused counter raised by ADVANCE. -/
  rollback : Option Nat
  deriving DecidableEq, Repr

/-- A fumarole (R346). -/
structure Fum where
  /-- Last plausible reading in 1/16 °C; none before the first. -/
  last : Option Int
  /-- The previous sample, plausible or not. -/
  prev : Option Int
  volt : Nat
  retired : Bool
  voltRetired : Bool
  faultAt : Option Nat
  hotRuns : Nat
  deriving DecidableEq, Repr

/-- Rails, AVS, heat (15_power_thermal_trim.md). -/
structure Power where
  /-- Rail sequencing: 0 idle, 1 group rising, 2 delay after a group, 3 complete, 4 failed. -/
  railPhase : Nat
  railOrder : Nat
  railSince : Nat
  /-- When OPERATION on was last sent, by entry. -/
  railAt : Map Nat
  /-- Tries and bad reads by entry. -/
  railTries : Map Nat
  railBad : Map Nat
  raised : List Nat
  /-- The rail table in force since power-up. -/
  table : List Byte
  railFail : Bool
  railFaultAt : Option Nat
  /-- R342: the entries of the rail table that could not be read last. -/
  unread : List Nat
  vcore : Nat
  caps : Map Nat
  raisedAt : Nat
  loweredAt : Nat
  aboveSince : Option Nat
  /-- 4003.04 while a raise waits (R344). -/
  enforced : Option Nat
  /-- The condition of R345 held at the last evaluation. -/
  avsLimit : Bool
  fums : Map Fum
  /-- Start of an excess difference by pair: voltage * 256 + a * 16 + b. -/
  skewSince : Map Nat
  /-- POWER_STATUS.SKEW: an excess difference that was reported lasts (R347). -/
  skew : Bool
  shutdown : Bool
  /-- R350: after a shutdown BOOT waits until every sensor in service reads below 95 °C. -/
  cooling : Bool
  /-- Domain states by Table 15-1 sub: 0 OFF, 1 IDLE, 2 RUN. -/
  domains : Map Nat
  idleSince : Map Nat
  /-- R339: LOCAL_COUNT at which the exit from DOZE began. -/
  dozeExitAt : Option Nat
  throttleAt : Nat
  /-- R351: diode items that wait for a neighbour's run; a run of all items in progress, and a failure in it. -/
  trimWait : List Nat
  trimAll : Bool
  trimAllFail : Bool
  /-- When the last periodic run began. -/
  trimAt : Nat
  deriving DecidableEq, Repr

/-- A trim item (R351 to R354). -/
structure TrimItem where
  value : Nat
  residual : Nat
  result : Nat
  running : Bool
  fromSaved : Bool
  fails : Nat
  deriving DecidableEq, Repr

/-- What survives power loss (R366). -/
structure Mram where
  /-- Keys: 0–15 BAR_KEY, 16–19 SUPERVISOR_KEY. -/
  keys : Map (List Byte)
  /-- Retirement map by class * 2^24 + channel (R357). -/
  retired : Map Bool
  /-- MRAM_LOG by slot (R366). -/
  log : Map (List Byte)
  pseq : Nat
  powerOns : Nat
  printNs : Nat
  devFaults : Nat
  shutdowns : Nat
  zeroisations : Nat
  lost : Nat
  /-- C001 REPLACE_CAUSE. -/
  cause : Nat
  causeTime : Nat
  railTable : List Byte
  /-- Saved trim values by item, with TIME (R354). -/
  trim : Map Nat
  trimTime : Nat
  trimValid : Bool
  shutdownRec : List Byte
  /-- Times of records written within the last 1 s. -/
  times : List Nat
  deriving DecidableEq, Repr

/-- Test access (R367 to R372). -/
structure Test where
  /-- The TAP instruction in force; reset IDCODE 0x01. -/
  opcode : Nat
  zeroising : Bool
  zeroTries : Nat
  zeroDone : Bool
  byTestEn : Bool
  scanLocked : Bool
  /-- C101: 0 idle, 1 running, 2 waiting for the partner. -/
  selftest : Nat
  ictCells : List (Nat × Nat)
  deriving DecidableEq, Repr

/-- Pins and reset (R377 to R381). -/
structure Pins where
  pwrgood : Bool
  rstN : Bool
  refclk : Bool
  sdsclk : Bool
  pairId : Bool
  bootSrc : Nat
  testEn : Bool
  deriving DecidableEq, Repr

/-- Why the machine stops. Raised by no meaning on a command that a device could receive: `malformed` is raised by the
meanings that carry a fixed-size byte string (a waybill, a descriptor, a STATUS frame) when the command's list has
another length, which no transfer of that row can have. Safe: nothing is claimed of such a command. -/
inductive Fault where
  | malformed (what : String)
  deriving DecidableEq, Repr

/-- Why a command has no meaning here. `notModelled` is raised by the dispatcher alone, for a row without a meaning
yet. Safe. -/
inductive Refusal where
  | notModelled (mnemonic : String)
  deriving DecidableEq, Repr

/-- The whole block. -/
structure State where
  /-- LOCAL_COUNT in ns (R289); reset 0. -/
  now : Nat
  /-- Commands waiting, first in first out (the model's own queue); reset empty. -/
  pending : List Instr
  /-- The model's own record of outputs; reset empty. -/
  out : List Out
  /-- The model's own counter of open values drawn; reset 0 (assumption log 3). -/
  freeCount : Nat
  /-- 1200.00 DEV_STATE (Table 02-9); reset HALTED, held in internal reset (R378). -/
  devState : DevState
  /-- LOCAL_COUNT of entry to PRINT, for PRINT_HOURS (Table 16-6); none outside PRINT. -/
  printAt : Option Nat
  /-- Device-scope objects that hold a plain value; reset all at their defaults. -/
  dev : Map Val
  /-- Virtual bars 0–15; unlisted `Bar.reset`. -/
  bars : Map Bar
  /-- Functions 0–16; unlisted `Fn.reset`. -/
  fns : Map Fn
  moa : Moa
  /-- 2011.00 DEQ_HEAD, 2011.01 DEQ_TAIL, lost since the last overflow record; reset 0. -/
  deqHead : Nat
  deqTail : Nat
  deqLost : Nat
  clock : Clock
  net : Net
  encs : Map Enc
  trig : Trig
  marks : Map Mark
  ports : Map Port
  drays : Map Dray
  supplies : Map Supply
  /-- R330: last trip under R327: supply and time. -/
  lastTrip : Option (Nat × Nat)
  /-- R330: supplies whose trips hold SAFE (Table 02-10). -/
  safeCause : List Nat
  axes : Map Axis
  ssis : Map Ssi
  cmps : Map Cmp
  cams : Map Cam
  /-- Fault histories by class * 2^24 + channel (R356); reset empty. -/
  health : Map Health
  engines : Map Engine
  /-- Deflate engines: bar and job id by engine. -/
  deflaters : Map (Nat × Nat)
  place : Place
  /-- Deficits by resource * 16 + bar (R261): 0 DRAM, 1 geysers, 2 inflate, 3 deflate, 4 intake DMA. -/
  deficit : Map Int
  subch : Map Subch
  /-- Stripe map generation (R260). -/
  stripeGen : Nat
  sram : Map SramRow
  pair : Pair
  sched : Sched
  boot : Boot
  power : Power
  trim : Map TrimItem
  mram : Mram
  /-- ERROR_LOG by SEQ mod 4096 and the last SEQ (R365); reset empty, 0. -/
  errLog : Map (List Byte)
  logSeq : Nat
  /-- MISS_LOG by n mod 1024 and the next n (R178); reset empty, 0. -/
  missLog : Map (List Byte)
  missNext : Nat
  /-- R199: assertion time and the bar that caused it; none while deasserted. -/
  webSlow : Option (Nat × Nat)
  test : Test
  pins : Pins
  deriving DecidableEq, Repr

/-- `Chan` right after reset. -/
def Chan.reset : Chan :=
  { object := 0, offset := 0, length := 0, addr := 0, toObject := false, state := 0, code := 0,
    done := 0, crc := 0, snap := [], waits := false, order := 0, bar := none, key := 0, hidden := false }

/-- `Fn` right after reset. -/
def Fn.reset : Fn :=
  { own := [], bme := false, latch := none, held := none, chans := [], unsigAt := none, unsig := [] }

/-- `Moa` right after reset. -/
def Moa.reset : Moa :=
  { sessions := [], challenges := [], fails := [], lockout := [] }

/-- `Intake` right after reset. -/
def Intake.reset : Intake :=
  { wqTail := 0, wqHead := 0, tailBad := false, fetchIdx := 0, inflight := [], expect := none,
    pageHold := false, calderaFull := false, overQuota := false, sramOver := false, eqHead := 0,
    eqTail := 0, eqLost := 0, djTail := 0, djHead := 0, chainTail := [], chainBufs := [], jobs := [], audit := none,
    calderaNeed := 0 }

/-- `Scan` right after reset. -/
def Scan.reset : Scan :=
  { gapFrom := none, judgeFrom := 0, needFirst := false, cutGap := false, nextBits := 0, stripDecided := false, stripPending := none,
    stripNext := 0, stripSince := 0, strips := [], ahead := [], marks := [], markReqs := [], uncomp := [],
    bandStop := false, band := 0, bandCand := 0, bandPend := 0, bandDwell := 0, bandQuiet := 0,
    bandWaits := false, bandChange := [], struck := 0, lastStarted := none,
    gapUnder := none,
    readyAt := none }

/-- A bar right after reset: VB_OFF, every object at its default. -/
def Bar.reset : Bar :=
  { vb := .off, waiting := none, obj := [], live := [], pend := [], opn := [], openHost := false,
    openDev := [], gen := none, heldReq := none, keys := [], intake := Intake.reset, pages := [], scan := Scan.reset, log := [],
    discarded := 0, joinPage := 0, mismatchFrom := none, mismatchDigests := (0, 0), peerSeal := none,
    heads := none,
    nextStore := 0,
    quarters := [] }

/-- `Enc` right after reset. -/
def Enc.reset : Enc :=
  { a := false, b := false, count := 0, postAt := none,
    aAt := none,
    bAt := none }

/-- `Trig` right after reset. -/
def Trig.reset : Trig :=
  { en := false, h := 0, reversed := false, maxDepth := 0, moving := false, stopped := false, times := [], fresh := 0,
    pos := 0, line := 0, lastDue := none, period := 0, lastStrike := none, lastAdmit := none,
    admitted := [], overspeed := false, firstSkip := 0, runSkips := 0, runStruck := 0, records := [],
    encErrAt := none,
    runFrom := 0,
    stances := [] }

/-- `Mark` right after reset. -/
def Mark.reset : Mark :=
  { last := none,
    edgeAt := none }

/-- `Port` right after reset. -/
def Port.reset : Port :=
  { st := .off, since := 0, upLock := false, upLos := false, dnLock := false, present := false,
    crcTimes := [], row := 0, best := none, rowAt := 0, reqs := [], nextTag := 0, identWords := [],
    mismatch := 0, input := 0, echo := 0, telemAt := none, hot := false, struck := [], launched := [],
    lateLines := [], lostLines := [], deepHead := false, partnerAt := 0, dnCrc := none, dnCrcTimes := [],
    rxCtle := 0,
    rxDfe := false,
    seq := 0,
    lockAt := none }

/-- `Dray` right after reset. -/
def Dray.reset : Dray :=
  { reading := [], panic := false, panicTimes := [], postAt := none }

/-- `Supply` right after reset. -/
def Supply.reset : Supply :=
  { st := .off, hven := false, riseLine := none, riseAt := none, trip := false, tripAt := 0,
    inBlank := false, mirrorEn := false, mirrorLatch := false,
    inputAt := none }

/-- `Axis` right after reset. -/
def Axis.reset : Axis :=
  { pos := 0, vel := 0, acc := 0, mode := .idle, target := 0, cause := 0, decel := 0, armed := none, next := none,
    uncertain := true, homed := false, atP := false, atN := false, both := false, followErr := false,
    ssiFault := false, seen := [], seenDir := false, mirrorTarget := 0, mirrorMoving := false,
    mirrorProfile := none,
    runs := [],
    dir := 1,
    dirAt := none }

/-- `Ssi` right after reset. -/
def Ssi.reset : Ssi :=
  { busy := false, latched := [], bad := 0 }

/-- `Cmp` right after reset. -/
def Cmp.reset : Cmp :=
  { index := 0, next := none, until_ := none, lowUntil := none, waiting := 0 }

/-- `Cam` right after reset. -/
def Cam.reset : Cam :=
  { dueTrig := [], pulses := [], trigUntil := none, lightUntil := none, index := 0, window := [],
    nextOut := 0, outCount := 0, satMap := [], satAt := none, satPostAt := none,
    lostTimes := [], lineAt := none, lastIn := none, hsAt := none, state := 0, deskewed := false,
    regLost := false, profSum := [], profLines := 0, focusSum := [],
    search := none, strips := [], block := [], vision := [], display := [], coding := [],
    visBuf := 0,
    regGen := 0 }

/-- `Health` right after reset. -/
def Health.reset : Health :=
  { hist := [], postAt := none, refusedAt := none }

/-- `Engine` right after reset. -/
def Engine.reset : Engine :=
  { job := none, rowsDone := 0 }

/-- `Place` right after reset. -/
def Place.reset : Place :=
  { spans := [], waitSpans := [], load := [], hot := [], gen := 0, time := 0, owner := [],
    tail := [],
    weights := [],
    laid := false,
    shrunk := false,
    maps := [] }

/-- `Subch` right after reset. -/
def Subch.reset : Subch :=
  { state := 0, mib := 0, readQ := [], writeQ := [], accepted := 0, draining := false, owed := 0, hot := false,
    banks := [], cells := [], corrTimes := [], retraining := false, scrub := 0, drift := false, returning := false,
    held := [],
    trackAt := 0,
    refreshAt := 0,
    wrote := [] }

/-- `SramRow` right after reset. -/
def SramRow.reset : SramRow :=
  { corr := [], remapped := false }

/-- `Pair` right after reset. -/
def Pair.reset : Pair :=
  { state := .single, holder := false, reinsOut := false, peer := false, peerSince := 0, renewedAt := 0,
    partnerLease := none, seenLease := false, released := none, byRelease := false, linkUp := false, recordAt := 0,
    helloAt := none, lanes := [], aligned := false, strikesStopped := false, resyncOnly := false, needK := false,
    mismatches := [], partnerSeen := false, bootAt := 0, recheckAt := none,
    bothSince := none, digestBad := false, fwBad := false, joinStep := 0, reprints := [],
    barred := false }

/-- `Net` right after reset. -/
def Net.reset : Net :=
  { macs := [], queues := [], announces := [], master := none, inRow := 0, outRow := 0, locked := false,
    holdover := false, arb := false, reqAt := none, sync := none, reqInterval := 0, reqSentAt := none }

/-- `Clock` right after reset. -/
def Clock.reset : Clock :=
  { offset := 0, base := 0, rate := 0,
    past := [] }

/-- `Thread` right after reset. -/
def Thread.reset : Thread :=
  { st := .free, group := 4, cluster := 0, noPreempt := false, wake := 0, flags := 0, mask := 0,
    andMode := false, woke := 0, flow := 0, held := [], timer := none, entry := 0, ready := 0,
    status := 0, lastRun := 0, window := none,
    data := 0 }

/-- `Flow` right after reset. -/
def Flow.reset : Flow :=
  { holder := none, queue := [], abandoned := false }

/-- `CoreSt` right after reset. -/
def CoreSt.reset : CoreSt :=
  { thread := none, since := 0, runAt := 0, reserved := none, deferred := false, irq := 0, retired := false,
    irqOn := true }

/-- `Sched` right after reset. -/
def Sched.reset : Sched :=
  { threads := [], flows := [], cores := [], deficit := [], readySeq := 0, allWaitAt := none,
    deadlockDone := false }

/-- `Boot` right after reset. -/
def Boot.reset : Boot :=
  { phase := 0, dlCode := 0xFF, slotA := 0xFF, slotB := 0xFF, sources := [], dlLength := 0,
    dlImage := [], image := [], rollback := none }

/-- `Fum` right after reset. -/
def Fum.reset : Fum :=
  { last := none, prev := none, volt := 0, retired := false, voltRetired := false, faultAt := none,
    hotRuns := 0 }

/-- `Power` right after reset. -/
def Power.reset : Power :=
  { railPhase := 0, railOrder := 0, railSince := 0, railAt := [], railTries := [], railBad := [], raised := [],
    table := [], railFail := false, railFaultAt := none, unread := [], vcore := 0,
    caps := [], raisedAt := 0, loweredAt := 0, aboveSince := none, enforced := none, avsLimit := false,
    fums := [], skewSince := [], skew := false, shutdown := false, cooling := false, domains := [], idleSince := [],
    dozeExitAt := none, throttleAt := 0,
    trimWait := [], trimAll := false, trimAllFail := false, trimAt := 0 }

/-- `TrimItem` right after reset. -/
def TrimItem.reset : TrimItem :=
  { value := 0, residual := 0, result := 0, running := false, fromSaved := false, fails := 0 }

/-- `Mram` right after reset. -/
def Mram.reset : Mram :=
  { keys := [], retired := [], log := [], pseq := 0, powerOns := 0, printNs := 0, devFaults := 0,
    shutdowns := 0, zeroisations := 0, lost := 0, cause := 0, causeTime := 0, railTable := [],
    trim := [], trimTime := 0, trimValid := false, shutdownRec := List.replicate 32 0, times := [] }

/-- `Test` right after reset. -/
def Test.reset : Test :=
  { opcode := 1, zeroising := false, zeroTries := 0, zeroDone := false, byTestEn := false,
    scanLocked := false, selftest := 0, ictCells := [] }

/-- `Pins` right after reset. -/
def Pins.reset : Pins :=
  { pwrgood := false, rstN := false, refclk := false, sdsclk := false, pairId := false, bootSrc := 0,
    testEn := false }

/-- The machine right after reset: power-on, held in internal reset (R378), every object at its default, queues empty. -/
def State.reset : State :=
  { now := 0, pending := [], out := [], freeCount := 0, devState := .halted, printAt := none, dev := [], bars := [],
    fns := [], moa := Moa.reset, deqHead := 0, deqTail := 0, deqLost := 0, clock := Clock.reset,
    net := Net.reset, encs := [], trig := Trig.reset, marks := [], ports := [], drays := [],
    supplies := [], lastTrip := none, safeCause := [], axes := [], ssis := [], cmps := [], cams := [],
    health := [], engines := [], deflaters := [], place := Place.reset, deficit := [], subch := [],
    stripeGen := 0, sram := [], pair := Pair.reset, sched := Sched.reset, boot := Boot.reset,
    power := Power.reset, trim := [], mram := Mram.reset, errLog := [], logSeq := 0, missLog := [],
    missNext := 0, webSlow := none, test := Test.reset, pins := Pins.reset }

end Sys2Proof.Machine
end

