-- ==== Sys2Proof/Machine/Objects.lean ====
section
/-!
DEFINITION. The object table: one row for each run of subindices that the object tables of the chapters give
(Tables 02-12, 03-14, 04-8, 05-7, 06-9, 07-15, 08-5, 09-8, 10-12, 11-8, 12-5, 13-14, 14-6, 15-9, 16-10): type, access, scope,
supervisor-only flag, default and range.
-/
namespace Sys2Proof.Machine
open Sys2Proof

/-- Table 02-1, with the size of the fixed wide types. -/
inductive Ty where
  | bool | u8 | u16 | u32 | u64 | i8 | i16 | i32 | i64 | q16 | time
  | octets (n : Nat) | string (n : Nat) | domain
  deriving DecidableEq, Repr

/-- Table 02-2. -/
inductive Acc where
  | ro | rw | wo | w1c | stg | cfg | const
  deriving DecidableEq, Repr

/-- The range stated for an object (R27). `keep m`: bits outside the mask are reserved bits, which read 0 (R3);
`mask m`: a value with bits outside the mask is refused. -/
inductive Rng where
  | any
  | u (lo hi : Nat)
  | pow2 (lo hi : Nat)
  | page4k
  | keep (m : Nat)
  | mask (m : Nat)
  deriving DecidableEq, Repr

/-- A row of an object table: subindices `lo` to `hi` of index `idx`. -/
structure Row where
  idx : Nat
  lo : Nat
  hi : Nat
  ty : Ty
  acc : Acc
  /-- Bar scope (otherwise device scope). -/
  bar : Bool
  /-- Supervisor-only. -/
  sup : Bool
  /-- The subindex is a head port, numbered in a view as R116 says. -/
  inst : Bool
  dflt : Nat
  rng : Rng
  deriving DecidableEq, Repr

/-- Table 02-1: the wide types, whose content moves only by block transfer (R28). -/
def Ty.wide : Ty → Bool
  | .octets _ | .string _ | .domain => true
  | _ => false

/-- Table 02-1: the type code. -/
def Ty.code : Ty → Nat
  | .bool => 0x01 | .u8 => 0x02 | .u16 => 0x03 | .u32 => 0x04 | .u64 => 0x05
  | .i8 => 0x06 | .i16 => 0x07 | .i32 => 0x08 | .i64 => 0x09 | .q16 => 0x0A | .time => 0x0B
  | .octets _ => 0x0C | .string _ => 0x0D | .domain => 0x0E

/-- Bits of the slot that the type occupies (Table 02-1); 0 for the wide types. -/
def Ty.bits : Ty → Nat
  | .bool => 1 | .u8 => 8 | .u16 => 16 | .u32 => 32 | .u64 => 64
  | .i8 => 8 | .i16 => 16 | .i32 => 32 | .i64 => 64 | .q16 => 32 | .time => 64
  | _ => 0

/-- Is the type signed? -/
def Ty.signed : Ty → Bool
  | .i8 | .i16 | .i32 | .i64 | .q16 => true
  | _ => false

/-- R27: the value taken from a written slot, laid out as Table 02-1 encodes it. -/
def Ty.take (t : Ty) (v : Slot) : Slot :=
  if t.signed then BitVec.ofInt 64 (toSigned t.bits v.toNat)
  else BitVec.ofNat 64 (v.toNat % 2 ^ t.bits)

/-- The objects 1000 to 1007. -/
def rows10 : List Row :=
  [⟨0x1000, 0x00, 0x00, (.string 16), .const, false, false, false, 0, .any⟩,
   ⟨0x1001, 0x00, 0x00, (.string 16), .const, false, false, false, 0, .any⟩,
   ⟨0x1002, 0x00, 0x00, (.string 16), .const, false, false, false, 0, .any⟩,
   ⟨0x1003, 0x00, 0x00, .u16, .const, false, false, false, 2, .any⟩,
   ⟨0x1004, 0x00, 0x00, .u64, .const, false, false, false, 0, .any⟩,
   ⟨0x1005, 0x00, 0x00, .u32, .ro, false, false, false, 0, .any⟩,
   ⟨0x1006, 0x00, 0x00, .u32, .const, false, false, false, 65536, .any⟩,
   ⟨0x1007, 0x00, 0x00, .u8, .ro, false, false, false, 0, .any⟩]

/-- The objects 1100 to 1151. -/
def rows11 : List Row :=
  [⟨0x1100, 0x00, 0x00, .u8, .ro, false, false, false, 0, .any⟩,
   ⟨0x1101, 0x00, 0x00, .u8, .ro, false, false, false, 0, .any⟩,
   ⟨0x1105, 0x00, 0x00, .u8, .rw, false, false, false, 255, .any⟩,
   ⟨0x1106, 0x00, 0x00, .u32, .rw, false, false, false, 4, .any⟩,
   ⟨0x1108, 0x00, 0x00, .u32, .w1c, false, false, false, 0, .any⟩,
   ⟨0x1109, 0x00, 0x00, .u32, .w1c, false, false, false, 0, .any⟩,
   ⟨0x1112, 0x00, 0x00, .u32, .rw, false, true, false, 5000, .u 100 600000⟩,
   ⟨0x1120, 0x00, 0x0F, (.octets 32), .wo, false, true, false, 0, .any⟩,
   ⟨0x1121, 0x00, 0x03, (.octets 32), .wo, false, true, false, 0, .any⟩,
   ⟨0x1122, 0x00, 0x00, .u32, .ro, false, false, false, 0, .any⟩,
   ⟨0x1130, 0x00, 0x1F, .u64, .ro, false, true, false, 0, .any⟩,
   ⟨0x1131, 0x01, 0x01, .u32, .w1c, false, false, false, 0, .any⟩,
   ⟨0x1131, 0x02, 0x02, .u32, .w1c, false, false, false, 0, .any⟩,
   ⟨0x1140, 0x00, 0x00, .u32, .cfg, false, false, false, 0, .any⟩,
   ⟨0x1140, 0x01, 0x01, .u32, .cfg, false, false, false, 0, .any⟩,
   ⟨0x1150, 0x02, 0x11, .u8, .rw, false, false, false, 0, .u 0 63⟩,
   ⟨0x1151, 0x00, 0x00, .u32, .rw, false, false, false, 0, .u 0 1000000⟩]

/-- The objects 1200 to 1222. -/
def rows12 : List Row :=
  [⟨0x1200, 0x00, 0x00, .u8, .ro, false, false, false, 0, .any⟩,
   ⟨0x1201, 0x00, 0x00, .u8, .ro, true, false, false, 0, .any⟩,
   ⟨0x1202, 0x00, 0x00, .u8, .wo, true, false, false, 0, .any⟩,
   ⟨0x1203, 0x00, 0x00, .u8, .wo, false, true, false, 0, .any⟩,
   ⟨0x1204, 0x00, 0x00, .u32, .ro, false, false, false, 0, .any⟩,
   ⟨0x1206, 0x00, 0x0F, .u16, .cfg, false, true, false, 0, .any⟩,
   ⟨0x1210, 0x00, 0x00, .u32, .ro, false, true, false, 0, .any⟩,
   ⟨0x1210, 0x01, 0x10, .u32, .ro, false, true, false, 0, .any⟩,
   ⟨0x1211, 0x00, 0x00, .bool, .wo, false, true, false, 0, .any⟩,
   ⟨0x1220, 0x00, 0x00, .u32, .wo, true, false, false, 0, .any⟩,
   ⟨0x1221, 0x00, 0x00, .u64, .ro, true, false, false, 0, .any⟩,
   ⟨0x1222, 0x00, 0x00, .bool, .wo, true, false, false, 0, .any⟩]

/-- The objects 2000 to 2010. -/
def rows20a : List Row :=
  [⟨0x2000, 0x00, 0x00, .u64, .cfg, true, false, false, 0, .page4k⟩,
   ⟨0x2000, 0x01, 0x01, .u32, .cfg, true, false, false, 256, .pow2 64 65536⟩,
   ⟨0x2000, 0x02, 0x02, .u8, .cfg, true, false, false, 1, .u 0 1⟩,
   ⟨0x2000, 0x03, 0x03, .bool, .rw, true, false, false, 0, .any⟩,
   ⟨0x2001, 0x00, 0x00, .u32, .wo, true, false, false, 0, .any⟩,
   ⟨0x2001, 0x01, 0x01, .u32, .ro, true, false, false, 0, .any⟩,
   ⟨0x2002, 0x00, 0x00, .u64, .cfg, true, false, false, 0, .page4k⟩,
   ⟨0x2002, 0x01, 0x01, .u32, .cfg, true, false, false, 256, .pow2 64 65536⟩,
   ⟨0x2003, 0x00, 0x00, .u32, .rw, true, false, false, 0, .any⟩,
   ⟨0x2003, 0x01, 0x01, .u32, .ro, true, false, false, 0, .any⟩,
   ⟨0x2004, 0x00, 0x00, .u32, .w1c, true, false, false, 0, .any⟩,
   ⟨0x2005, 0x00, 0x00, .u32, .ro, true, false, false, 0, .any⟩,
   ⟨0x2006, 0x00, 0x03, .u64, .ro, true, false, false, 0, .any⟩,
   ⟨0x2007, 0x00, 0x00, .u64, .ro, true, false, false, 0, .any⟩,
   ⟨0x2007, 0x01, 0x01, .u32, .w1c, true, false, false, 0, .any⟩,
   ⟨0x2007, 0x02, 0x02, .u32, .w1c, true, false, false, 0, .any⟩,
   ⟨0x2007, 0x03, 0x03, .u32, .w1c, true, false, false, 0, .any⟩,
   ⟨0x2008, 0x00, 0x00, .u64, .ro, true, false, false, 0, .any⟩,
   ⟨0x2010, 0x00, 0x00, .u64, .rw, false, true, false, 0, .page4k⟩,
   ⟨0x2010, 0x01, 0x01, .u32, .rw, false, true, false, 256, .pow2 64 65536⟩]

/-- The objects 2010 to 2012. -/
def rows20b : List Row :=
  [⟨0x2010, 0x02, 0x02, .bool, .rw, false, true, false, 0, .any⟩,
   ⟨0x2011, 0x00, 0x00, .u32, .rw, false, true, false, 0, .any⟩,
   ⟨0x2011, 0x01, 0x01, .u32, .ro, false, true, false, 0, .any⟩,
   ⟨0x2012, 0x00, 0x00, .u32, .w1c, false, true, false, 0, .any⟩]

/-- The objects 2100 to 2120. -/
def rows21 : List Row :=
  [⟨0x2100, 0x00, 0x00, .u32, .ro, false, true, false, 4294967295, .any⟩,
   ⟨0x2101, 0x00, 0x1F, .u64, .ro, false, true, false, 0, .any⟩,
   ⟨0x2102, 0x00, 0x1F, .u32, .ro, false, true, false, 0, .any⟩,
   ⟨0x2110, 0x00, 0x03, (.octets 32), .wo, true, false, false, 0, .any⟩,
   ⟨0x2111, 0x00, 0x00, .u8, .ro, true, false, false, 0, .any⟩,
   ⟨0x2120, 0x00, 0x00, .u64, .ro, false, true, false, 0, .any⟩]

/-- The objects 2200 to 2203. -/
def rows22 : List Row :=
  [⟨0x2200, 0x00, 0x00, .u16, .rw, true, false, false, 20, .u 0 10000⟩,
   ⟨0x2201, 0x00, 0x00, .u64, .ro, true, false, false, 0, .any⟩,
   ⟨0x2201, 0x01, 0x01, .u32, .ro, true, false, false, 0, .any⟩,
   ⟨0x2202, 0x00, 0x00, .u32, .ro, true, false, false, 0, .any⟩,
   ⟨0x2202, 0x01, 0x01, .u32, .ro, true, false, false, 0, .any⟩,
   ⟨0x2202, 0x02, 0x02, .u32, .ro, true, false, false, 0, .any⟩,
   ⟨0x2203, 0x00, 0x00, .u32, .w1c, true, false, false, 0, .any⟩]

/-- The objects 2300 to 2305. -/
def rows23 : List Row :=
  [⟨0x2300, 0x00, 0x00, .u64, .cfg, true, false, false, 0, .page4k⟩,
   ⟨0x2300, 0x01, 0x01, .u32, .cfg, true, false, false, 64, .pow2 16 4096⟩,
   ⟨0x2301, 0x00, 0x00, .u32, .wo, true, false, false, 0, .any⟩,
   ⟨0x2301, 0x01, 0x01, .u32, .ro, true, false, false, 0, .any⟩,
   ⟨0x2302, 0x00, 0x03, .u32, .wo, true, false, false, 0, .any⟩,
   ⟨0x2303, 0x00, 0x00, .u64, .wo, true, false, false, 0, .any⟩,
   ⟨0x2304, 0x00, 0x00, .u8, .ro, false, true, false, 63, .any⟩,
   ⟨0x2305, 0x00, 0x00, .u32, .ro, false, true, false, 0, .any⟩]

/-- The objects 3000 to 3031. -/
def rows30 : List Row :=
  [⟨0x3000, 0x00, 0x07, .u8, .cfg, false, false, false, 0, .keep 7⟩,
   ⟨0x3001, 0x00, 0x07, .u8, .cfg, true, false, false, 1, .u 1 4⟩,
   ⟨0x3002, 0x00, 0x07, .u16, .stg, true, false, false, 3928, .mask 0xFFF⟩,
   ⟨0x3010, 0x00, 0x00, .u32, .ro, false, true, false, 4294967295, .any⟩,
   ⟨0x3011, 0x00, 0x07, .u32, .w1c, true, false, false, 0, .any⟩,
   ⟨0x3012, 0x00, 0x1F, .u64, .ro, false, true, false, 0, .any⟩,
   ⟨0x3030, 0x00, 0x00, .u32, .w1c, true, false, false, 0, .any⟩,
   ⟨0x3031, 0x00, 0x00, .u32, .w1c, true, false, false, 0, .any⟩]

/-- The objects 3100 to 3120. -/
def rows31 : List Row :=
  [⟨0x3100, 0x00, 0x07, .domain, .stg, true, false, false, 0, .any⟩,
   ⟨0x3110, 0x00, 0x07, .domain, .stg, true, false, false, 0, .any⟩,
   ⟨0x3120, 0x00, 0x00, .u32, .ro, true, false, false, 0, .any⟩]

/-- The objects 3200 to 3220. -/
def rows32 : List Row :=
  [⟨0x3200, 0x00, 0x3F, .u32, .cfg, false, true, false, 0, .keep 0xFF00FFFF⟩,
   ⟨0x3201, 0x00, 0x07, .u16, .stg, true, false, false, 128, .u 0 256⟩,
   ⟨0x3210, 0x00, 0x07, .domain, .stg, true, false, false, 0, .any⟩,
   ⟨0x3220, 0x00, 0x3F, .u32, .ro, false, true, false, 0, .any⟩]

/-- The objects 3400 to 3440. -/
def rows34 : List Row :=
  [⟨0x3400, 0x00, 0x3F, .domain, .stg, true, false, true, 0, .any⟩,
   ⟨0x3410, 0x00, 0x3F, .domain, .stg, true, false, true, 0, .any⟩,
   ⟨0x3420, 0x00, 0x07, .domain, .stg, true, false, false, 0, .any⟩,
   ⟨0x3421, 0x00, 0x07, .u8, .stg, true, false, false, 3, .mask 3⟩,
   ⟨0x3422, 0x00, 0x07, .u32, .w1c, true, false, false, 0, .any⟩,
   ⟨0x3430, 0x00, 0x3F, .u16, .ro, false, true, false, 0, .any⟩,
   ⟨0x3431, 0x00, 0x3F, .u16, .ro, false, true, false, 0, .any⟩,
   ⟨0x3432, 0x00, 0x05, .u64, .ro, true, false, false, 0, .any⟩,
   ⟨0x3433, 0x00, 0x06, .u32, .ro, true, false, false, 0, .any⟩,
   ⟨0x3438, 0x00, 0x00, .bool, .rw, true, false, false, 1, .any⟩,
   ⟨0x3440, 0x00, 0x3F, .bool, .wo, true, false, true, 0, .any⟩]

/-- The objects 4000 to 4020. -/
def rows40a : List Row :=
  [⟨0x4000, 0x00, 0x00, .u8, .cfg, false, true, false, 0, .u 0 3⟩,
   ⟨0x4001, 0x00, 0x03, .u16, .cfg, false, true, false, 2, .keep 0x7FF⟩,
   ⟨0x4002, 0x00, 0x03, .i64, .ro, false, false, false, 0, .any⟩,
   ⟨0x4003, 0x00, 0x00, .u32, .ro, false, false, false, 0, .any⟩,
   ⟨0x4003, 0x01, 0x01, .bool, .rw, false, true, false, 0, .any⟩,
   ⟨0x4003, 0x02, 0x02, .u32, .rw, false, true, false, 240000, .u 1 240000⟩,
   ⟨0x4003, 0x03, 0x03, .u32, .ro, false, false, false, 240000, .any⟩,
   ⟨0x4003, 0x04, 0x04, .u32, .ro, false, false, false, 240000, .any⟩,
   ⟨0x4005, 0x00, 0x03, .u32, .w1c, false, false, false, 0, .any⟩,
   ⟨0x4006, 0x00, 0x00, .u64, .ro, false, false, false, 0, .any⟩,
   ⟨0x4006, 0x01, 0x01, .u32, .ro, false, false, false, 0, .any⟩,
   ⟨0x4006, 0x02, 0x02, .u32, .ro, false, false, false, 0, .any⟩,
   ⟨0x4007, 0x00, 0x00, .u32, .ro, false, false, false, 0, .any⟩,
   ⟨0x4010, 0x00, 0x00, .u64, .cfg, false, true, false, 0, .u 68719476736 72057594037927936⟩,
   ⟨0x4010, 0x01, 0x01, .u32, .cfg, false, true, false, 21166667, .u 1000000 200000000⟩,
   ⟨0x4011, 0x00, 0x00, .u8, .rw, false, true, false, 8, .u 1 64⟩,
   ⟨0x4011, 0x01, 0x01, .u8, .rw, false, true, false, 0, .u 0 1⟩,
   ⟨0x4013, 0x00, 0x00, .u32, .rw, false, true, false, 10000, .u 100 1000000⟩,
   ⟨0x4020, 0x00, 0x00, .u32, .w1c, false, false, false, 0, .any⟩,
   ⟨0x4020, 0x01, 0x01, .u32, .w1c, false, false, false, 0, .any⟩]

/-- The objects 4030 to 4052. -/
def rows40b : List Row :=
  [⟨0x4030, 0x00, 0x00, .domain, .ro, false, false, false, 0, .any⟩,
   ⟨0x4040, 0x00, 0x07, .u32, .rw, false, true, false, 2, .keep 0x3FF⟩,
   ⟨0x4041, 0x00, 0x07, .u32, .rw, false, true, false, 64, .u 1 33554432⟩,
   ⟨0x4042, 0x00, 0x07, .u64, .ro, false, false, false, 0, .any⟩,
   ⟨0x4043, 0x00, 0x07, .u32, .w1c, false, false, false, 0, .any⟩,
   ⟨0x4050, 0x00, 0x00, .u8, .rw, true, false, false, 0, .keep 0xF⟩,
   ⟨0x4051, 0x00, 0x00, .u32, .rw, true, false, false, 0, .any⟩,
   ⟨0x4052, 0x00, 0x00, .u32, .w1c, true, false, false, 0, .any⟩]

/-- The objects 4100 to 4106. -/
def rows41 : List Row :=
  [⟨0x4100, 0x00, 0x06, .u32, .stg, true, false, false, 0, .any⟩,
   ⟨0x4101, 0x00, 0x07, .u8, .stg, true, false, false, 0, .u 0 15⟩,
   ⟨0x4102, 0x00, 0x07, .u16, .stg, true, false, false, 16384, .any⟩,
   ⟨0x4103, 0x00, 0x00, .bool, .rw, true, false, false, 0, .any⟩,
   ⟨0x4104, 0x00, 0x00, .u8, .ro, true, false, false, 0, .any⟩,
   ⟨0x4104, 0x01, 0x01, .u8, .ro, true, false, false, 0, .any⟩,
   ⟨0x4104, 0x02, 0x02, .u8, .ro, true, false, false, 0, .any⟩,
   ⟨0x4105, 0x00, 0x00, .u32, .w1c, true, false, false, 0, .any⟩,
   ⟨0x4106, 0x00, 0x0F, .u64, .ro, true, false, false, 0, .any⟩]

/-- The objects 4200 to 4221. -/
def rows42 : List Row :=
  [⟨0x4200, 0x00, 0x3F, .u16, .stg, true, false, true, 0, .any⟩,
   ⟨0x4201, 0x00, 0x3F, .u64, .stg, true, false, true, 0, .any⟩,
   ⟨0x4202, 0x00, 0x3F, .domain, .stg, true, false, true, 0, .any⟩,
   ⟨0x4210, 0x00, 0x3F, .u16, .cfg, false, true, false, 16128, .keep 0xFF03⟩,
   ⟨0x4211, 0x00, 0x3F, .u16, .cfg, false, true, false, 32767, .any⟩,
   ⟨0x4212, 0x00, 0x00, .u8, .cfg, false, true, false, 4, .u 2 16⟩,
   ⟨0x4220, 0x00, 0x07, .u32, .w1c, false, true, false, 0, .any⟩,
   ⟨0x4221, 0x00, 0x00, .u32, .w1c, true, false, false, 0, .any⟩]

/-- The objects 4800 to 4830. -/
def rows48 : List Row :=
  [⟨0x4800, 0x00, 0x00, .u8, .cfg, false, true, false, 1, .u 0 1⟩,
   ⟨0x4800, 0x01, 0x01, .bool, .cfg, false, true, false, 0, .any⟩,
   ⟨0x4801, 0x00, 0x3F, .u8, .ro, false, true, false, 0, .any⟩,
   ⟨0x4802, 0x00, 0x3F, .u8, .wo, false, true, false, 0, .u 1 4⟩,
   ⟨0x4803, 0x00, 0x3F, .u32, .ro, false, true, false, 0, .any⟩,
   ⟨0x4804, 0x00, 0x3F, .u32, .w1c, false, true, false, 0, .any⟩,
   ⟨0x4805, 0x00, 0x3F, .u32, .w1c, false, true, false, 0, .any⟩,
   ⟨0x4810, 0x00, 0x00, .domain, .cfg, false, true, false, 0, .any⟩,
   ⟨0x4811, 0x00, 0x3F, .u32, .ro, false, true, false, 0, .any⟩,
   ⟨0x4820, 0x00, 0x3F, .u64, .ro, false, true, false, 0, .any⟩,
   ⟨0x4821, 0x00, 0x3F, .u64, .ro, false, true, false, 0, .any⟩,
   ⟨0x4830, 0x00, 0x3F, .domain, .stg, true, false, true, 0, .any⟩]

/-- The objects 4900 to 4912. -/
def rows49 : List Row :=
  [⟨0x4900, 0x00, 0x3F, .i16, .ro, false, true, false, 0, .any⟩,
   ⟨0x4901, 0x00, 0x3F, .u32, .ro, false, true, false, 0, .any⟩,
   ⟨0x4902, 0x00, 0x3F, .u32, .ro, false, true, false, 0, .any⟩,
   ⟨0x4903, 0x00, 0x3F, .u32, .ro, false, true, false, 0, .any⟩,
   ⟨0x4904, 0x00, 0x3F, .u32, .ro, false, true, false, 0, .any⟩,
   ⟨0x4905, 0x00, 0x3F, .u32, .ro, false, true, false, 0, .any⟩,
   ⟨0x4906, 0x00, 0x3F, .u16, .ro, false, true, false, 0, .any⟩,
   ⟨0x4910, 0x00, 0x00, .domain, .ro, false, true, false, 0, .any⟩,
   ⟨0x4911, 0x00, 0x00, .u16, .cfg, false, true, false, 100, .u 10 10000⟩,
   ⟨0x4912, 0x00, 0x00, .i16, .rw, false, true, false, 960, .any⟩]

/-- The objects 5000 to 5022. -/
def rows50a : List Row :=
  [⟨0x5000, 0x00, 0x00, .u32, .stg, true, false, false, 0, .u 0 33554432⟩,
   ⟨0x5000, 0x01, 0x01, .u32, .stg, true, false, false, 0, .u 0 33554432⟩,
   ⟨0x5001, 0x00, 0x00, .u8, .stg, true, false, false, 0, .u 0 1⟩,
   ⟨0x5001, 0x01, 0x01, .u16, .stg, true, false, false, 32, .u 0 4096⟩,
   ⟨0x5002, 0x00, 0x00, .u8, .cfg, false, true, false, 8, .u 4 64⟩,
   ⟨0x5003, 0x00, 0x00, .u32, .rw, false, true, false, 100, .u 0 10000⟩,
   ⟨0x5003, 0x01, 0x01, .bool, .ro, false, false, false, 0, .any⟩,
   ⟨0x5010, 0x00, 0x00, .u32, .ro, true, false, false, 0, .any⟩,
   ⟨0x5011, 0x00, 0x00, .u32, .ro, true, false, false, 0, .any⟩,
   ⟨0x5011, 0x01, 0x01, .u64, .ro, true, false, false, 0, .any⟩,
   ⟨0x5011, 0x02, 0x02, .time, .ro, true, false, false, 0, .any⟩,
   ⟨0x5012, 0x00, 0x00, .u32, .ro, true, false, false, 0, .any⟩,
   ⟨0x5012, 0x01, 0x01, .u32, .ro, true, false, false, 3, .any⟩,
   ⟨0x5013, 0x00, 0x00, .u32, .ro, true, false, false, 0, .any⟩,
   ⟨0x5020, 0x00, 0x00, .u32, .rw, true, false, false, 8184, .any⟩,
   ⟨0x5021, 0x00, 0x00, .u32, .rw, true, false, false, 0, .u 0 1048576⟩,
   ⟨0x5022, 0x00, 0x00, .u32, .w1c, true, false, false, 0, .any⟩,
   ⟨0x5022, 0x01, 0x01, .u32, .w1c, true, false, false, 0, .any⟩,
   ⟨0x5022, 0x02, 0x02, .u32, .w1c, true, false, false, 0, .any⟩,
   ⟨0x5022, 0x03, 0x03, .u32, .w1c, true, false, false, 0, .any⟩]

/-- The objects 5030 to 5031. -/
def rows50b : List Row :=
  [⟨0x5030, 0x00, 0x00, .domain, .ro, true, false, false, 0, .any⟩,
   ⟨0x5031, 0x00, 0x00, .u64, .ro, true, false, false, 0, .any⟩]

/-- The objects 5100 to 5102. -/
def rows51 : List Row :=
  [⟨0x5100, 0x00, 0x0F, .u32, .ro, true, false, false, 0, .any⟩,
   ⟨0x5101, 0x00, 0x00, .u32, .ro, true, false, false, 0, .any⟩,
   ⟨0x5102, 0x00, 0x00, .u32, .w1c, true, false, false, 0, .any⟩,
   ⟨0x5102, 0x01, 0x01, .u32, .w1c, true, false, false, 0, .any⟩,
   ⟨0x5102, 0x02, 0x02, .u32, .w1c, true, false, false, 0, .any⟩]

/-- The objects 6000 to 6017. -/
def rows60 : List Row :=
  [⟨0x6000, 0x00, 0x03, .u32, .cfg, false, true, false, 0, .keep 0x7FFF⟩,
   ⟨0x6001, 0x00, 0x03, .u16, .cfg, false, true, false, 4096, .u 64 16384⟩,
   ⟨0x6002, 0x00, 0x03, .u16, .cfg, false, true, false, 1500, .u 80 4500⟩,
   ⟨0x6003, 0x00, 0x03, .u8, .rw, false, true, false, 1, .u 0 1⟩,
   ⟨0x6004, 0x00, 0x03, .u8, .rw, false, true, false, 4, .u 1 64⟩,
   ⟨0x6005, 0x00, 0x03, .u32, .rw, false, true, false, 0, .u 0 1000000⟩,
   ⟨0x6006, 0x00, 0x03, .u16, .rw, false, true, false, 100, .u 20 10000⟩,
   ⟨0x6007, 0x00, 0x03, .u32, .rw, false, true, false, 0, .u 0 1000000⟩,
   ⟨0x6008, 0x00, 0x03, .u32, .rw, false, true, false, 20000, .u 0 1000000⟩,
   ⟨0x6009, 0x00, 0x03, .u32, .rw, false, true, false, 0, .any⟩,
   ⟨0x600A, 0x00, 0x03, .u32, .ro, false, true, false, 0, .any⟩,
   ⟨0x600B, 0x00, 0x03, .u32, .cfg, false, true, false, 100000, .any⟩,
   ⟨0x6010, 0x00, 0x03, .u64, .ro, false, true, false, 0, .any⟩,
   ⟨0x6011, 0x00, 0x03, .u32, .w1c, false, true, false, 0, .any⟩,
   ⟨0x6013, 0x00, 0x03, .u32, .w1c, false, true, false, 0, .any⟩,
   ⟨0x6014, 0x00, 0x03, .u32, .w1c, false, true, false, 0, .any⟩,
   ⟨0x6015, 0x00, 0x03, .u32, .w1c, false, true, false, 0, .any⟩,
   ⟨0x6016, 0x00, 0x03, .u32, .w1c, false, true, false, 0, .any⟩,
   ⟨0x6017, 0x00, 0x03, .u32, .w1c, false, true, false, 0, .any⟩]

/-- The objects 6100 to 6124. -/
def rows61a : List Row :=
  [⟨0x6100, 0x00, 0x03, .u16, .rw, false, true, false, 64, .u 0 4095⟩,
   ⟨0x6101, 0x00, 0x03, .u16, .rw, false, true, false, 4095, .u 1 4095⟩,
   ⟨0x6102, 0x00, 0x03, .domain, .rw, false, true, false, 0, .any⟩,
   ⟨0x6103, 0x00, 0x03, .domain, .ro, false, true, false, 0, .any⟩,
   ⟨0x6104, 0x00, 0x03, .bool, .wo, false, true, false, 0, .any⟩,
   ⟨0x6105, 0x00, 0x03, .i64, .rw, false, true, false, 0, .any⟩,
   ⟨0x6106, 0x00, 0x03, .u32, .rw, false, true, false, 65536, .u 16384 262144⟩,
   ⟨0x6107, 0x00, 0x03, .u32, .rw, false, true, false, 0, .any⟩,
   ⟨0x6108, 0x00, 0x03, .i16, .ro, false, true, false, 0, .any⟩,
   ⟨0x6109, 0x00, 0x03, .u16, .rw, false, true, false, 256, .u 0 1024⟩,
   ⟨0x6110, 0x00, 0x03, .u8, .rw, false, true, false, 13, .keep 0xF⟩,
   ⟨0x6111, 0x00, 0x03, .domain, .rw, false, true, false, 0, .any⟩,
   ⟨0x6112, 0x00, 0x03, .domain, .rw, false, true, false, 0, .any⟩,
   ⟨0x6113, 0x00, 0x00, .u16, .cfg, false, true, false, 1024, .u 64 65535⟩,
   ⟨0x6120, 0x00, 0x03, .domain, .ro, false, true, false, 0, .any⟩,
   ⟨0x6120, 0x04, 0x07, .u64, .ro, false, true, false, 0, .any⟩,
   ⟨0x6121, 0x00, 0x03, .u32, .w1c, false, true, false, 0, .any⟩,
   ⟨0x6122, 0x00, 0x03, .domain, .ro, false, true, false, 0, .any⟩,
   ⟨0x6122, 0x04, 0x07, .u64, .ro, false, true, false, 0, .any⟩,
   ⟨0x6124, 0x00, 0x03, .domain, .ro, false, true, false, 0, .any⟩]

/-- The objects 6124 to 6141. -/
def rows61b : List Row :=
  [⟨0x6124, 0x04, 0x07, .u64, .ro, false, true, false, 0, .any⟩,
   ⟨0x6130, 0x00, 0x03, .domain, .rw, false, true, false, 0, .any⟩,
   ⟨0x6131, 0x00, 0x03, .domain, .ro, false, true, false, 0, .any⟩,
   ⟨0x6131, 0x04, 0x07, .u32, .ro, false, true, false, 0, .any⟩,
   ⟨0x6132, 0x00, 0x00, .u16, .rw, false, true, false, 256, .u 1 65535⟩,
   ⟨0x6133, 0x00, 0x03, .u8, .rw, false, true, false, 0, .keep 0x87⟩,
   ⟨0x6134, 0x00, 0x03, .i32, .rw, false, true, false, 100, .any⟩,
   ⟨0x6135, 0x00, 0x03, .u8, .rw, false, true, false, 9, .u 3 33⟩,
   ⟨0x6136, 0x00, 0x03, .bool, .wo, false, false, false, 0, .any⟩,
   ⟨0x6137, 0x00, 0x03, .i64, .ro, false, true, false, 0, .any⟩,
   ⟨0x6140, 0x00, 0x03, .domain, .ro, false, true, false, 0, .any⟩,
   ⟨0x6141, 0x00, 0x00, .u16, .rw, false, true, false, 256, .u 1 65535⟩]

/-- The objects 6200 to 6220. -/
def rows62a : List Row :=
  [⟨0x6200, 0x00, 0x00, .u16, .rw, true, false, false, 10, .any⟩,
   ⟨0x6200, 0x01, 0x01, .u8, .stg, true, false, false, 8, .u 4 16⟩,
   ⟨0x6200, 0x02, 0x02, .u8, .stg, true, false, false, 14, .u 8 64⟩,
   ⟨0x6200, 0x03, 0x03, .u8, .stg, true, false, false, 0, .u 0 7⟩,
   ⟨0x6200, 0x04, 0x04, .u16, .ro, true, false, false, 120, .any⟩,
   ⟨0x6200, 0x05, 0x05, .u8, .rw, true, false, false, 2, .u 0 3⟩,
   ⟨0x6201, 0x00, 0x00, .u8, .wo, true, false, false, 0, .any⟩,
   ⟨0x6201, 0x01, 0x01, .u8, .ro, true, false, false, 0, .any⟩,
   ⟨0x6210, 0x00, 0x07, .u8, .rw, true, false, false, 0, .u 0 3⟩,
   ⟨0x6211, 0x00, 0x07, .u32, .rw, true, false, false, 0, .any⟩,
   ⟨0x6212, 0x00, 0x07, .u16, .rw, true, false, false, 2621, .any⟩,
   ⟨0x6213, 0x00, 0x07, .u16, .rw, true, false, false, 16384, .u 1 65535⟩,
   ⟨0x6214, 0x00, 0x07, .u16, .rw, true, false, false, 24, .any⟩,
   ⟨0x6215, 0x00, 0x07, .u8, .rw, true, false, false, 3, .u 1 64⟩,
   ⟨0x6216, 0x00, 0x07, .u16, .rw, true, false, false, 8192, .any⟩,
   ⟨0x6217, 0x00, 0x07, .u16, .rw, true, false, false, 32768, .any⟩,
   ⟨0x6218, 0x00, 0x07, .u8, .rw, true, false, false, 128, .u 1 255⟩,
   ⟨0x6219, 0x00, 0x07, .u16, .rw, true, false, false, 16, .any⟩,
   ⟨0x621A, 0x00, 0x07, .u8, .rw, true, false, false, 3, .keep 3⟩,
   ⟨0x6220, 0x00, 0x00, .bool, .rw, true, false, false, 1, .any⟩]

/-- The objects 6221 to 6240. -/
def rows62b : List Row :=
  [⟨0x6221, 0x00, 0x00, .u32, .w1c, true, false, false, 0, .any⟩,
   ⟨0x6222, 0x00, 0x00, .u32, .w1c, true, false, false, 0, .any⟩,
   ⟨0x6240, 0x00, 0x3F, .domain, .ro, true, false, true, 0, .any⟩]

/-- The objects 7000 to 7021. -/
def rows70 : List Row :=
  [⟨0x7000, 0x00, 0x00, .u32, .ro, false, false, false, 0, .any⟩,
   ⟨0x7002, 0x00, 0x00, .u8, .rw, false, true, false, 95, .u 80 104⟩,
   ⟨0x7002, 0x01, 0x01, .u8, .rw, false, true, false, 5, .u 1 20⟩,
   ⟨0x7004, 0x00, 0x00, .bool, .rw, false, true, false, 0, .any⟩,
   ⟨0x7011, 0x00, 0x00, .u32, .w1c, true, false, false, 0, .any⟩,
   ⟨0x7020, 0x00, 0x00, .domain, .ro, false, true, false, 0, .any⟩,
   ⟨0x7021, 0x00, 0x00, .u32, .w1c, false, true, false, 0, .any⟩,
   ⟨0x7021, 0x01, 0x01, .u32, .w1c, false, true, false, 0, .any⟩]

/-- The objects 7100 to 7111. -/
def rows71 : List Row :=
  [⟨0x7100, 0x00, 0x00, .u32, .rw, true, true, false, 0, .u 0 65536⟩,
   ⟨0x7100, 0x01, 0x01, .u32, .ro, true, false, false, 0, .u 0 65536⟩,
   ⟨0x7101, 0x00, 0x00, .u32, .rw, true, true, false, 128, .u 0 98304⟩,
   ⟨0x7102, 0x00, 0x00, .u8, .rw, true, true, false, 16, .u 1 255⟩,
   ⟨0x7103, 0x00, 0x00, .u64, .ro, true, false, false, 0, .any⟩,
   ⟨0x7104, 0x00, 0x00, .u32, .ro, true, false, false, 0, .any⟩,
   ⟨0x7105, 0x00, 0x00, .u32, .ro, false, false, false, 0, .any⟩,
   ⟨0x7110, 0x00, 0x0F, .u64, .ro, false, true, false, 0, .any⟩,
   ⟨0x7111, 0x00, 0x0F, .i32, .ro, false, true, false, 0, .any⟩]

/-- The objects 7200 to 7240. -/
def rows72 : List Row :=
  [⟨0x7200, 0x00, 0x00, .u32, .ro, false, false, false, 0, .any⟩,
   ⟨0x7200, 0x01, 0x01, .u16, .cfg, false, true, false, 0, .any⟩,
   ⟨0x7201, 0x00, 0x00, .u32, .ro, false, false, false, 1024, .any⟩,
   ⟨0x7201, 0x01, 0x01, .u32, .ro, false, false, false, 0, .any⟩,
   ⟨0x7201, 0x02, 0x02, .u32, .ro, false, false, false, 0, .any⟩,
   ⟨0x7202, 0x00, 0x07, .u8, .ro, false, true, false, 0, .any⟩,
   ⟨0x7203, 0x00, 0x07, .u8, .wo, false, true, false, 0, .u 1 2⟩,
   ⟨0x7204, 0x00, 0x00, .u16, .rw, false, true, false, 100, .u 0 2000⟩,
   ⟨0x7205, 0x00, 0x00, .u8, .rw, false, true, false, 48, .any⟩,
   ⟨0x7205, 0x01, 0x01, .u8, .rw, false, true, false, 16, .any⟩,
   ⟨0x7206, 0x00, 0x00, .u8, .rw, false, true, false, 8, .u 1 8⟩,
   ⟨0x7207, 0x00, 0x00, .u8, .rw, false, true, false, 24, .u 0 168⟩,
   ⟨0x7210, 0x00, 0x07, .u64, .ro, false, true, false, 0, .any⟩,
   ⟨0x7220, 0x00, 0x07, .u32, .w1c, false, true, false, 0, .any⟩,
   ⟨0x7221, 0x00, 0x07, .u32, .w1c, false, true, false, 0, .any⟩,
   ⟨0x7222, 0x00, 0x00, .u64, .ro, false, true, false, 0, .any⟩,
   ⟨0x7230, 0x00, 0x07, .u32, .w1c, false, true, false, 0, .any⟩,
   ⟨0x7231, 0x00, 0x07, .u32, .w1c, false, true, false, 0, .any⟩,
   ⟨0x7240, 0x00, 0x07, .u32, .w1c, false, true, false, 0, .any⟩]

/-- The objects 7300 to 7303. -/
def rows73 : List Row :=
  [⟨0x7300, 0x00, 0x00, .u32, .ro, false, false, false, 1024, .any⟩,
   ⟨0x7300, 0x01, 0x01, .u32, .ro, false, false, false, 8192, .any⟩,
   ⟨0x7300, 0x02, 0x02, .u32, .ro, false, false, false, 24576, .any⟩,
   ⟨0x7300, 0x03, 0x03, .u32, .ro, false, false, false, 8192, .any⟩,
   ⟨0x7300, 0x04, 0x04, .u32, .ro, false, false, false, 0, .any⟩,
   ⟨0x7300, 0x05, 0x05, .u32, .ro, false, false, false, 0, .any⟩,
   ⟨0x7301, 0x00, 0x03, .u32, .w1c, false, true, false, 0, .any⟩,
   ⟨0x7302, 0x00, 0x03, .u32, .w1c, false, true, false, 0, .any⟩,
   ⟨0x7303, 0x00, 0x03, .u8, .ro, false, true, false, 64, .any⟩]

/-- The objects 8000 to 8015. -/
def rows80 : List Row :=
  [⟨0x8000, 0x00, 0x00, .u8, .cfg, false, true, false, 0, .u 0 1⟩,
   ⟨0x8001, 0x00, 0x00, .u8, .ro, false, false, false, 0, .any⟩,
   ⟨0x8002, 0x00, 0x00, .u32, .ro, false, false, false, 0, .any⟩,
   ⟨0x8003, 0x00, 0x00, .u8, .wo, false, true, false, 0, .u 1 2⟩,
   ⟨0x8004, 0x00, 0x03, .u8, .ro, false, true, false, 0, .any⟩,
   ⟨0x8005, 0x00, 0x00, .u32, .w1c, false, true, false, 0, .any⟩,
   ⟨0x8006, 0x00, 0x00, .u64, .ro, false, false, false, 0, .any⟩,
   ⟨0x8006, 0x01, 0x01, .u32, .ro, false, false, false, 0, .any⟩,
   ⟨0x8007, 0x00, 0x00, .u32, .ro, false, false, false, 0, .any⟩,
   ⟨0x8007, 0x01, 0x01, .u32, .ro, false, false, false, 0, .any⟩,
   ⟨0x8010, 0x00, 0x00, .u32, .w1c, false, true, false, 0, .any⟩,
   ⟨0x8010, 0x01, 0x01, .time, .ro, false, false, false, 0, .any⟩,
   ⟨0x8010, 0x02, 0x02, .u32, .ro, false, false, false, 0, .any⟩,
   ⟨0x8011, 0x00, 0x00, .u32, .w1c, false, false, false, 0, .any⟩,
   ⟨0x8011, 0x01, 0x01, .i64, .ro, false, false, false, 0, .any⟩,
   ⟨0x8012, 0x00, 0x00, .u32, .w1c, true, false, false, 0, .any⟩,
   ⟨0x8013, 0x00, 0x00, .u32, .ro, false, false, false, 0, .any⟩,
   ⟨0x8014, 0x00, 0x00, .u32, .w1c, false, true, false, 0, .any⟩,
   ⟨0x8014, 0x01, 0x01, .u32, .w1c, false, false, false, 0, .any⟩,
   ⟨0x8015, 0x00, 0x00, .u32, .ro, true, false, false, 0, .any⟩]

/-- The objects 8100 to 8112. -/
def rows81a : List Row :=
  [⟨0x8100, 0x00, 0x00, .u64, .ro, false, false, false, 0, .any⟩,
   ⟨0x8100, 0x01, 0x01, .time, .ro, false, false, false, 0, .any⟩,
   ⟨0x8101, 0x00, 0x00, .time, .ro, false, false, false, 0, .any⟩,
   ⟨0x8101, 0x01, 0x01, .u64, .ro, false, false, false, 0, .any⟩,
   ⟨0x8101, 0x02, 0x02, .time, .wo, false, true, false, 0, .any⟩,
   ⟨0x8101, 0x03, 0x03, .i64, .wo, false, true, false, 0, .any⟩,
   ⟨0x8101, 0x04, 0x04, .i32, .rw, false, true, false, 0, .any⟩,
   ⟨0x8102, 0x00, 0x00, .u8, .rw, false, true, false, 1, .u 0 1⟩,
   ⟨0x8103, 0x00, 0x00, .u32, .ro, false, false, false, 0, .any⟩,
   ⟨0x8103, 0x01, 0x01, .u32, .w1c, false, false, false, 0, .any⟩,
   ⟨0x8104, 0x00, 0x00, .u8, .rw, false, true, false, 0, .u 0 127⟩,
   ⟨0x8105, 0x00, 0x00, .i64, .ro, false, false, false, 0, .any⟩,
   ⟨0x8105, 0x01, 0x01, .u32, .ro, false, false, false, 0, .any⟩,
   ⟨0x8105, 0x02, 0x02, .u64, .ro, false, false, false, 0, .any⟩,
   ⟨0x8105, 0x03, 0x03, .u8, .ro, false, false, false, 255, .any⟩,
   ⟨0x8106, 0x00, 0x00, .u32, .rw, false, true, false, 1000000, .u 1000 1000000000⟩,
   ⟨0x8106, 0x01, 0x01, .u32, .rw, false, true, false, 100, .u 10 1000000⟩,
   ⟨0x8110, 0x00, 0x03, .u16, .cfg, false, true, false, 0, .any⟩,
   ⟨0x8111, 0x00, 0x03, .u16, .cfg, false, true, false, 0, .any⟩,
   ⟨0x8112, 0x00, 0x01, .u8, .cfg, false, true, false, 0, .keep 0x7F⟩]

/-- The objects 8113 to 8117. -/
def rows81b : List Row :=
  [⟨0x8113, 0x00, 0x01, .u8, .ro, false, false, false, 0, .any⟩,
   ⟨0x8114, 0x00, 0x00, .u64, .const, false, false, false, 0, .any⟩,
   ⟨0x8115, 0x00, 0x02, .u32, .w1c, false, false, false, 0, .any⟩,
   ⟨0x8116, 0x00, 0x00, .u64, .ro, false, false, false, 0, .any⟩,
   ⟨0x8116, 0x01, 0x01, .u32, .w1c, false, false, false, 0, .any⟩,
   ⟨0x8117, 0x00, 0x00, .u16, .rw, false, true, false, 300, .u 10 3600⟩]

/-- The objects 9000 to 9050. -/
def rows90a : List Row :=
  [⟨0x9000, 0x00, 0x00, .u8, .ro, false, true, false, 255, .any⟩,
   ⟨0x9001, 0x00, 0x07, .u8, .rw, false, true, false, 0, .u 1 255⟩,
   ⟨0x9002, 0x00, 0x00, .u32, .rw, false, true, false, 20000, .u 1000 1000000⟩,
   ⟨0x9003, 0x00, 0x00, .u16, .rw, false, true, false, 100, .u 1 1000⟩,
   ⟨0x9003, 0x01, 0x01, .u32, .ro, false, true, false, 0, .any⟩,
   ⟨0x9004, 0x00, 0x00, .u32, .w1c, false, true, false, 0, .any⟩,
   ⟨0x9004, 0x01, 0x01, .u32, .w1c, false, true, false, 0, .any⟩,
   ⟨0x9005, 0x00, 0x00, .u32, .w1c, false, true, false, 0, .any⟩,
   ⟨0x9005, 0x01, 0x01, .u32, .w1c, false, true, false, 0, .any⟩,
   ⟨0x9006, 0x00, 0x00, .u8, .rw, false, true, false, 4, .u 1 16⟩,
   ⟨0x9010, 0x00, 0x00, .domain, .ro, false, true, false, 0, .any⟩,
   ⟨0x9011, 0x00, 0x00, .u32, .wo, false, true, false, 0, .any⟩,
   ⟨0x9012, 0x00, 0x00, .u16, .wo, false, true, false, 0, .any⟩,
   ⟨0x9020, 0x00, 0x3F, .u32, .rw, false, true, false, 0, .keep 0x81FF001F⟩,
   ⟨0x9030, 0x00, 0xFF, .u16, .ro, false, true, false, 0, .any⟩,
   ⟨0x9040, 0x00, 0x3F, .domain, .rw, false, true, false, 0, .any⟩,
   ⟨0x9041, 0x00, 0x3F, .u64, .rw, false, true, false, 1095284293636, .any⟩,
   ⟨0x9042, 0x00, 0x3F, .u8, .wo, false, true, false, 0, .u 1 2⟩,
   ⟨0x9043, 0x00, 0x3F, .u32, .ro, false, true, false, 0, .any⟩,
   ⟨0x9050, 0x00, 0x00, .u32, .ro, false, true, false, 0, .any⟩]

/-- The objects 9050 to 9050. -/
def rows90b : List Row :=
  [⟨0x9050, 0x01, 0x01, .u16, .ro, false, true, false, 0, .any⟩,
   ⟨0x9050, 0x02, 0x02, .u8, .ro, false, true, false, 0, .any⟩]

/-- The objects A000 to A022. -/
def rowsA0a : List Row :=
  [⟨0xA000, 0x00, 0x07, .u32, .cfg, false, true, false, 0, .keep 0x1FF3⟩,
   ⟨0xA001, 0x00, 0x07, .u32, .rw, false, true, false, 100000, .u 1 4000000⟩,
   ⟨0xA002, 0x00, 0x07, .u32, .rw, false, true, false, 1000000, .u 1 4000000000⟩,
   ⟨0xA003, 0x00, 0x07, .u32, .rw, false, true, false, 0, .any⟩,
   ⟨0xA004, 0x00, 0x07, .u32, .rw, false, true, false, 0, .any⟩,
   ⟨0xA005, 0x00, 0x07, .u32, .rw, false, true, false, 1000, .any⟩,
   ⟨0xA006, 0x00, 0x07, .i64, .rw, false, true, false, 0, .any⟩,
   ⟨0xA007, 0x00, 0x07, .u8, .wo, false, true, false, 0, .any⟩,
   ⟨0xA008, 0x00, 0x07, .i64, .ro, false, true, false, 0, .any⟩,
   ⟨0xA009, 0x00, 0x07, .i32, .ro, false, true, false, 0, .any⟩,
   ⟨0xA00A, 0x00, 0x07, .u32, .ro, false, true, false, 4, .any⟩,
   ⟨0xA00B, 0x00, 0x07, .i32, .rw, false, true, false, 18446744073709550616, .any⟩,
   ⟨0xA00C, 0x00, 0x07, .i64, .rw, false, true, false, 0, .any⟩,
   ⟨0xA00D, 0x00, 0x07, .u16, .rw, false, true, false, 100, .u 50 10000⟩,
   ⟨0xA00E, 0x00, 0x07, .u16, .rw, false, true, false, 200, .u 50 10000⟩,
   ⟨0xA010, 0x00, 0x00, .bool, .wo, false, true, false, 0, .any⟩,
   ⟨0xA010, 0x01, 0x01, .u16, .rw, false, true, false, 0, .any⟩,
   ⟨0xA020, 0x00, 0x03, .u8, .cfg, false, true, false, 17, .keep 0x7F⟩,
   ⟨0xA021, 0x00, 0x03, .u16, .rw, false, true, false, 500, .u 100 2000⟩,
   ⟨0xA022, 0x00, 0x03, .u16, .rw, false, true, false, 100, .u 10 10000⟩]

/-- The objects A023 to A027. -/
def rowsA0b : List Row :=
  [⟨0xA023, 0x00, 0x03, .u32, .ro, false, true, false, 0, .any⟩,
   ⟨0xA024, 0x00, 0x03, .u32, .w1c, false, true, false, 0, .any⟩,
   ⟨0xA025, 0x00, 0x07, .q16, .rw, false, true, false, 65536, .any⟩,
   ⟨0xA026, 0x00, 0x07, .i64, .rw, false, true, false, 0, .any⟩,
   ⟨0xA027, 0x00, 0x07, .u32, .rw, false, true, false, 0, .any⟩]

/-- The objects A100 to A112. -/
def rowsA1 : List Row :=
  [⟨0xA100, 0x00, 0x07, .u32, .rw, false, true, false, 0, .any⟩,
   ⟨0xA101, 0x00, 0x07, .u32, .rw, false, true, false, 1000, .u 20 10000000⟩,
   ⟨0xA102, 0x00, 0x07, .domain, .rw, false, false, false, 0, .any⟩,
   ⟨0xA103, 0x00, 0x07, .i64, .rw, false, true, false, 0, .any⟩,
   ⟨0xA104, 0x00, 0x07, .u16, .ro, false, false, false, 0, .any⟩,
   ⟨0xA105, 0x00, 0x07, .u8, .wo, false, true, false, 0, .u 1 2⟩,
   ⟨0xA106, 0x00, 0x07, .u32, .ro, false, false, false, 0, .any⟩,
   ⟨0xA107, 0x00, 0x07, .u32, .w1c, false, true, false, 0, .any⟩,
   ⟨0xA110, 0x00, 0x0F, .u8, .rw, false, true, false, 8, .keep 0x3F⟩,
   ⟨0xA111, 0x00, 0x00, .u16, .rw, false, true, false, 0, .any⟩,
   ⟨0xA112, 0x00, 0x00, .u16, .ro, false, false, false, 0, .any⟩]

/-- The objects A200 to A211. -/
def rowsA2 : List Row :=
  [⟨0xA200, 0x00, 0x0F, .u8, .wo, false, true, false, 0, .u 1 3⟩,
   ⟨0xA201, 0x00, 0x0F, .u8, .ro, false, true, false, 0, .any⟩,
   ⟨0xA202, 0x00, 0x0F, .u8, .ro, false, true, false, 0, .any⟩,
   ⟨0xA203, 0x00, 0x00, .u8, .rw, false, true, false, 4, .any⟩,
   ⟨0xA204, 0x00, 0x0F, .u32, .w1c, false, true, false, 0, .any⟩,
   ⟨0xA205, 0x00, 0x0F, .u32, .w1c, false, true, false, 0, .any⟩,
   ⟨0xA206, 0x00, 0x0F, .u32, .w1c, false, true, false, 0, .any⟩,
   ⟨0xA207, 0x00, 0x0F, .u32, .w1c, false, true, false, 0, .any⟩,
   ⟨0xA208, 0x00, 0x0F, .u32, .w1c, false, true, false, 0, .any⟩,
   ⟨0xA210, 0x00, 0x00, .u16, .cfg, false, true, false, 0, .any⟩,
   ⟨0xA211, 0x00, 0x00, .time, .ro, false, true, false, 0, .any⟩,
   ⟨0xA211, 0x01, 0x01, .u8, .ro, false, true, false, 255, .any⟩]

/-- The objects B000 to B031. -/
def rowsB0 : List Row :=
  [⟨0xB000, 0x00, 0x00, .u32, .ro, false, false, false, 0, .any⟩,
   ⟨0xB001, 0x00, 0x23, .u8, .ro, false, true, false, 0, .any⟩,
   ⟨0xB002, 0x00, 0x23, .u8, .rw, false, true, false, 0, .u 0 1⟩,
   ⟨0xB003, 0x00, 0x00, .u16, .rw, false, true, false, 50, .u 1 10000⟩,
   ⟨0xB010, 0x00, 0x00, .u16, .ro, false, true, false, 0, .any⟩,
   ⟨0xB010, 0x01, 0x01, .i16, .ro, false, true, false, 0, .any⟩,
   ⟨0xB010, 0x02, 0x02, .u16, .rw, false, true, false, 700, .u 700 900⟩,
   ⟨0xB011, 0x00, 0x00, .u32, .w1c, false, true, false, 0, .any⟩,
   ⟨0xB011, 0x01, 0x01, .u32, .w1c, false, true, false, 0, .any⟩,
   ⟨0xB020, 0x00, 0x00, .domain, .cfg, false, true, false, 0, .any⟩,
   ⟨0xB021, 0x00, 0x0B, .u16, .ro, false, true, false, 0, .any⟩,
   ⟨0xB022, 0x00, 0x0B, .u16, .ro, false, true, false, 0, .any⟩,
   ⟨0xB023, 0x00, 0x0B, .u16, .ro, false, true, false, 0, .any⟩,
   ⟨0xB030, 0x00, 0x00, .u32, .ro, false, true, false, 0, .any⟩,
   ⟨0xB031, 0x00, 0x00, .u32, .ro, false, true, false, 0, .any⟩]

/-- The objects B100 to B10A. -/
def rowsB1 : List Row :=
  [⟨0xB100, 0x00, 0x0F, .i16, .ro, false, false, false, 0, .any⟩,
   ⟨0xB101, 0x00, 0x0F, .u16, .ro, false, true, false, 0, .any⟩,
   ⟨0xB102, 0x00, 0x0F, .u8, .ro, false, true, false, 0, .any⟩,
   ⟨0xB103, 0x00, 0x00, .u8, .rw, false, true, false, 100, .u 80 100⟩,
   ⟨0xB103, 0x01, 0x01, .u8, .rw, false, true, false, 3, .u 1 10⟩,
   ⟨0xB104, 0x00, 0x00, .u8, .ro, false, false, false, 0, .any⟩,
   ⟨0xB105, 0x00, 0x00, .u8, .const, false, true, false, 125, .any⟩,
   ⟨0xB106, 0x00, 0x00, .i16, .ro, false, false, false, 0, .any⟩,
   ⟨0xB107, 0x00, 0x00, .domain, .ro, false, true, false, 0, .any⟩,
   ⟨0xB107, 0x01, 0x01, .bool, .wo, false, true, false, 0, .any⟩,
   ⟨0xB108, 0x00, 0x00, .u64, .ro, false, true, false, 0, .any⟩,
   ⟨0xB109, 0x00, 0x00, .u32, .w1c, false, true, false, 0, .any⟩,
   ⟨0xB10A, 0x00, 0x0F, .u32, .w1c, false, true, false, 0, .any⟩]

/-- The objects B200 to B212. -/
def rowsB2 : List Row :=
  [⟨0xB200, 0x00, 0x00, .u16, .wo, false, true, false, 0, .any⟩,
   ⟨0xB202, 0x00, 0x00, .u16, .rw, false, true, false, 60, .u 0 3600⟩,
   ⟨0xB210, 0x00, 0xFF, .u32, .ro, false, true, false, 0, .any⟩,
   ⟨0xB211, 0x00, 0x00, .time, .ro, false, true, false, 0, .any⟩,
   ⟨0xB212, 0x00, 0x00, .bool, .ro, false, true, false, 0, .any⟩]

/-- The objects C001 to C040. -/
def rowsC0 : List Row :=
  [⟨0xC001, 0x00, 0x00, .u32, .ro, false, true, false, 0, .any⟩,
   ⟨0xC002, 0x00, 0x00, .bool, .wo, false, true, false, 0, .any⟩,
   ⟨0xC003, 0x00, 0x00, .bool, .ro, false, true, false, 0, .any⟩,
   ⟨0xC004, 0x00, 0x08, .u16, .ro, false, true, false, 0, .any⟩,
   ⟨0xC005, 0x00, 0x00, .u16, .wo, false, true, false, 0, .any⟩,
   ⟨0xC006, 0x00, 0x00, .u32, .w1c, false, true, false, 0, .any⟩,
   ⟨0xC006, 0x01, 0x01, .u64, .ro, false, true, false, 0, .any⟩,
   ⟨0xC010, 0x00, 0x05, .u8, .rw, false, true, false, 0, .any⟩,
   ⟨0xC010, 0x06, 0x06, .u8, .rw, false, true, false, 0, .u 0 64⟩,
   ⟨0xC010, 0x07, 0x08, .u8, .rw, false, true, false, 0, .any⟩,
   ⟨0xC010, 0x09, 0x09, .u16, .rw, false, true, false, 3, .u 1 8192⟩,
   ⟨0xC010, 0x0A, 0x0A, .bool, .rw, false, true, false, 1, .any⟩,
   ⟨0xC030, 0x00, 0x00, .domain, .ro, false, true, false, 0, .any⟩,
   ⟨0xC030, 0x01, 0x01, .u32, .ro, false, true, false, 0, .any⟩,
   ⟨0xC031, 0x00, 0x00, .domain, .ro, false, true, false, 0, .any⟩,
   ⟨0xC031, 0x01, 0x01, .u32, .ro, false, true, false, 0, .any⟩,
   ⟨0xC032, 0x00, 0x00, .domain, .ro, false, true, false, 0, .any⟩,
   ⟨0xC040, 0x00, 0x00, .bool, .wo, false, true, false, 0, .any⟩]

/-- The objects C100 to C120. -/
def rowsC1 : List Row :=
  [⟨0xC100, 0x00, 0x00, .u8, .wo, false, true, false, 0, .u 1 1⟩,
   ⟨0xC101, 0x00, 0x00, .u8, .ro, false, true, false, 0, .any⟩,
   ⟨0xC110, 0x00, 0x00, .domain, .cfg, false, true, false, 0, .any⟩,
   ⟨0xC111, 0x00, 0x3F, .u64, .ro, false, true, false, 0, .any⟩,
   ⟨0xC120, 0x00, 0x00, .u64, .ro, false, true, false, 0, .any⟩]

/-- The rows whose index has the high byte `h`. -/
def rowsOf (h : Nat) : List Row :=
  match h with
  | 0x10 => rows10
  | 0x11 => rows11
  | 0x12 => rows12
  | 0x20 => rows20a ++ rows20b
  | 0x21 => rows21
  | 0x22 => rows22
  | 0x23 => rows23
  | 0x30 => rows30
  | 0x31 => rows31
  | 0x32 => rows32
  | 0x34 => rows34
  | 0x40 => rows40a ++ rows40b
  | 0x41 => rows41
  | 0x42 => rows42
  | 0x48 => rows48
  | 0x49 => rows49
  | 0x50 => rows50a ++ rows50b
  | 0x51 => rows51
  | 0x60 => rows60
  | 0x61 => rows61a ++ rows61b
  | 0x62 => rows62a ++ rows62b
  | 0x70 => rows70
  | 0x71 => rows71
  | 0x72 => rows72
  | 0x73 => rows73
  | 0x80 => rows80
  | 0x81 => rows81a ++ rows81b
  | 0x90 => rows90a ++ rows90b
  | 0xA0 => rowsA0a ++ rowsA0b
  | 0xA1 => rowsA1
  | 0xA2 => rowsA2
  | 0xB0 => rowsB0
  | 0xB1 => rowsB1
  | 0xB2 => rowsB2
  | 0xC0 => rowsC0
  | 0xC1 => rowsC1
  | _ => []

/-- The row of object `idx`.`sub`, if the device implements it. -/
def rowAt (idx sub : Nat) : Option Row :=
  (rowsOf (idx / 256)).find? (fun r => r.idx == idx && decide (r.lo ≤ sub) && decide (sub ≤ r.hi))

/-- The default of a narrow object (R29). Objects without a row read 0. Values that the spec leaves to the board or the
unit: assumption logs 3 and 5. -/
def defaultNat (idx sub : Nat) : Nat :=
  match idx with
  | 0x1004 => Config.serialNumber.toNat
  | 0x4100 => 30000 * (sub + 1)
  | 0x4101 => sub
  | 0x7200 => if sub == 1 then 6400 else match rowAt idx sub with | some r => r.dflt | none => 0
  | 0x8114 => Config.macAddr.toNat
  | 0x9001 => if sub == 0 then 128 else 16
  | 0xC010 => [1, 2, 1, 2, 4, 2, 16, 1, 2, 3, 1].getD sub 0
  | _ => match rowAt idx sub with | some r => r.dflt | none => 0

/-- R27: the value stored for a written slot, or none when it is out of range. Reserved bits are dropped (R3). -/
def Row.accept (r : Row) (v : Slot) : Option Slot :=
  let w := r.ty.take v
  match r.rng with
  | .any => some w
  | .u lo hi => if lo ≤ w.toNat ∧ w.toNat ≤ hi then some w else none
  | .pow2 lo hi => if lo ≤ w.toNat ∧ w.toNat ≤ hi ∧ 2 ^ Nat.log2 w.toNat = w.toNat then some w else none
  | .page4k => if w.toNat % 4096 = 0 then some w else none
  | .keep m => some (w &&& BitVec.ofNat 64 m)
  | .mask m => if w &&& BitVec.ofNat 64 m = w then some w else none

end Sys2Proof.Machine
end

