-- ==== Sys2Proof/Machine/Ops.lean ====
section
/-!
DEFINITION. The named operations over State that every meaning uses: the frame of a command (`run`), reading and
updating the parts of State, plain objects, staged objects (R15, R16), counters, TIME (R289), and the geometry of
bars, planes and head ports (R25, R116, Table 04-3).
-/
namespace Sys2Proof.Machine
open Sys2Proof

/-- The frame of every meaning: LOCAL_COUNT moves to the command's instant (R289, R391), the command has its effect,
and the queue is left alone. -/
def run (dt : Nat) (s : State) (f : State → State) : Host.Outcome State Fault Refusal :=
  .next { f { s with now := s.now + dt } with now := s.now + dt, pending := s.pending }

/-! ### Parts of State -/

def State.bar (s : State) (b : Nat) : Bar := s.bars.getD b Bar.reset
def State.modBar (s : State) (b : Nat) (f : Bar → Bar) : State := { s with bars := s.bars.set b (f (s.bar b)) }
def State.port (s : State) (p : Nat) : Port := s.ports.getD p Port.reset
def State.modPort (s : State) (p : Nat) (f : Port → Port) : State := { s with ports := s.ports.set p (f (s.port p)) }
def State.fn (s : State) (k : Nat) : Fn := s.fns.getD k Fn.reset
def State.modFn (s : State) (k : Nat) (f : Fn → Fn) : State := { s with fns := s.fns.set k (f (s.fn k)) }
def State.enc (s : State) (k : Nat) : Enc := s.encs.getD k Enc.reset
def State.modEnc (s : State) (k : Nat) (f : Enc → Enc) : State := { s with encs := s.encs.set k (f (s.enc k)) }
def State.mark (s : State) (k : Nat) : Mark := s.marks.getD k Mark.reset
def State.modMark (s : State) (k : Nat) (f : Mark → Mark) : State := { s with marks := s.marks.set k (f (s.mark k)) }
def State.dray (s : State) (k : Nat) : Dray := s.drays.getD k Dray.reset
def State.modDray (s : State) (k : Nat) (f : Dray → Dray) : State := { s with drays := s.drays.set k (f (s.dray k)) }
def State.supply (s : State) (k : Nat) : Supply := s.supplies.getD k Supply.reset
def State.modSupply (s : State) (k : Nat) (f : Supply → Supply) : State :=
  { s with supplies := s.supplies.set k (f (s.supply k)) }
def State.axis (s : State) (k : Nat) : Axis := s.axes.getD k Axis.reset
def State.modAxis (s : State) (k : Nat) (f : Axis → Axis) : State := { s with axes := s.axes.set k (f (s.axis k)) }
def State.ssi (s : State) (k : Nat) : Ssi := s.ssis.getD k Ssi.reset
def State.modSsi (s : State) (k : Nat) (f : Ssi → Ssi) : State := { s with ssis := s.ssis.set k (f (s.ssi k)) }
def State.cmp (s : State) (k : Nat) : Cmp := s.cmps.getD k Cmp.reset
def State.modCmp (s : State) (k : Nat) (f : Cmp → Cmp) : State := { s with cmps := s.cmps.set k (f (s.cmp k)) }
def State.cam (s : State) (k : Nat) : Cam := s.cams.getD k Cam.reset
def State.modCam (s : State) (k : Nat) (f : Cam → Cam) : State := { s with cams := s.cams.set k (f (s.cam k)) }
def State.engine (s : State) (k : Nat) : Engine := s.engines.getD k Engine.reset
def State.modEngine (s : State) (k : Nat) (f : Engine → Engine) : State :=
  { s with engines := s.engines.set k (f (s.engine k)) }
def State.sch (s : State) (k : Nat) : Subch := s.subch.getD k Subch.reset
def State.modSch (s : State) (k : Nat) (f : Subch → Subch) : State := { s with subch := s.subch.set k (f (s.sch k)) }
def State.thread (s : State) (t : Nat) : Thread := s.sched.threads.getD t Thread.reset
def State.modThread (s : State) (t : Nat) (f : Thread → Thread) : State :=
  { s with sched := { s.sched with threads := s.sched.threads.set t (f (s.thread t)) } }
def State.flow (s : State) (t : Nat) : Flow := s.sched.flows.getD t Flow.reset
def State.modFlow (s : State) (t : Nat) (f : Flow → Flow) : State :=
  { s with sched := { s.sched with flows := s.sched.flows.set t (f (s.flow t)) } }
def State.core (s : State) (c : Nat) : CoreSt := s.sched.cores.getD c CoreSt.reset
def State.modCore (s : State) (c : Nat) (f : CoreSt → CoreSt) : State :=
  { s with sched := { s.sched with cores := s.sched.cores.set c (f (s.core c)) } }
def State.fum (s : State) (k : Nat) : Fum := s.power.fums.getD k Fum.reset
def State.modFum (s : State) (k : Nat) (f : Fum → Fum) : State :=
  { s with power := { s.power with fums := s.power.fums.set k (f (s.fum k)) } }
def State.modPower (s : State) (f : Power → Power) : State := { s with power := f s.power }
def State.modPair (s : State) (f : Pair → Pair) : State := { s with pair := f s.pair }
def State.modTrig (s : State) (f : Trig → Trig) : State := { s with trig := f s.trig }
def State.modNet (s : State) (f : Net → Net) : State := { s with net := f s.net }
def State.modMoa (s : State) (f : Moa → Moa) : State := { s with moa := f s.moa }
def State.modBoot (s : State) (f : Boot → Boot) : State := { s with boot := f s.boot }
def State.modMram (s : State) (f : Mram → Mram) : State := { s with mram := f s.mram }
def State.modTest (s : State) (f : Test → Test) : State := { s with test := f s.test }
def State.modPins (s : State) (f : Pins → Pins) : State := { s with pins := f s.pins }
def State.modSched (s : State) (f : Sched → Sched) : State := { s with sched := f s.sched }
def State.modIntake (s : State) (b : Nat) (f : Intake → Intake) : State :=
  s.modBar b (fun x => { x with intake := f x.intake })
def State.modScan (s : State) (b : Nat) (f : Scan → Scan) : State := s.modBar b (fun x => { x with scan := f x.scan })

/-- R334: a domain of Table 15-1 is powered; work bound for one that is off is held (R7). -/
def State.domainOn (s : State) (d : Nat) : Bool := s.power.domains.getD d 0 != 0

/-- R334: work arrives for a domain of Table 15-1: it returns from IDLE to RUN. -/
def State.wakeDomain (s : State) (d : Nat) : State :=
  if s.power.domains.getD d 0 = 1 then { s with power := { s.power with domains := s.power.domains.set d 2 } } else s

/-- Table 15-1: a unit of a domain has become idle. -/
def State.idleDomain (s : State) (d : Nat) : State :=
  { s with power := { s.power with idleSince := s.power.idleSince.set d s.now } }

/-- R351: a run of a trim item begins, unless one is under way. -/
def State.trimBegin (s : State) (item : Nat) : State :=
  { s with trim := s.trim.modify item TrimItem.reset (fun x => { x with running := true }) }

/-- Record an output. -/
def State.emit (s : State) (o : Out) : State := { s with out := s.out ++ [o] }

/-- A fresh open value (assumption log 3). -/
def State.draw (s : State) : BitVec 128 × State := (Config.freeValue s.freeCount, { s with freeCount := s.freeCount + 1 })

/-- Apply `f` for each element in turn. -/
def forAll {α : Type} (xs : List α) (f : α → State → State) (s : State) : State := xs.foldl (fun t x => f x t) s

/-! ### Plain objects -/

/-- The key of object `idx`.`sub` in the tables of objects. -/
def okey (idx sub : Nat) : Nat := idx * 256 + sub

/-- The slot value held in a table of objects, its default when unlisted. -/
def slotIn (m : Map Val) (idx sub : Nat) : Nat :=
  match m.get? (okey idx sub) with
  | some (.slot v) => v.toNat
  | _ => defaultNat idx sub

/-- A device-scope object's value. -/
def State.dv (s : State) (idx sub : Nat) : Nat := slotIn s.dev idx sub

/-- A device-scope object's value read as signed. -/
def State.dvi (s : State) (idx sub : Nat) : Int := toSigned 64 (s.dv idx sub)

def State.setDv (s : State) (idx sub v : Nat) : State :=
  { s with dev := s.dev.set (okey idx sub) (.slot (BitVec.ofNat 64 v)) }

def State.setDvi (s : State) (idx sub : Nat) (v : Int) : State := s.setDv idx sub (ofSigned 64 v)

/-- A bar-scope object's value (not a staged one). -/
def State.bo (s : State) (b idx sub : Nat) : Nat := slotIn (s.bar b).obj idx sub

def State.boi (s : State) (b idx sub : Nat) : Int := toSigned 64 (s.bo b idx sub)

def State.setBo (s : State) (b idx sub v : Nat) : State :=
  s.modBar b (fun x => { x with obj := x.obj.set (okey idx sub) (.slot (BitVec.ofNat 64 v)) })

def State.setBoi (s : State) (b idx sub : Nat) (v : Int) : State := s.setBo b idx sub (ofSigned 64 v)

/-- Add `n` to a saturating 32-bit counter of device scope. -/
def State.bumpN (s : State) (idx sub n : Nat) : State := s.setDv idx sub (satAdd32 (s.dv idx sub) n)

/-- Count one in a saturating counter of device scope. -/
def State.bump (s : State) (idx sub : Nat) : State := s.bumpN idx sub 1

/-- Add `n` to a saturating 32-bit counter of bar scope. -/
def State.bumpBN (s : State) (b idx sub n : Nat) : State := s.setBo b idx sub (satAdd32 (s.bo b idx sub) n)

/-- Count one in a saturating counter of bar scope. -/
def State.bumpB (s : State) (b idx sub : Nat) : State := s.bumpBN b idx sub 1

/-- Add `n` to a 64-bit counter of device scope, modulo 2^64. -/
def State.count64 (s : State) (idx sub n : Nat) : State := s.setDv idx sub ((s.dv idx sub + n) % 2 ^ 64)

/-- Add `n` to a 64-bit counter of bar scope, modulo 2^64. -/
def State.countB64 (s : State) (b idx sub n : Nat) : State := s.setBo b idx sub ((s.bo b idx sub + n) % 2 ^ 64)

/-- Set or clear bit `i` of a device-scope object. -/
def State.setBit (s : State) (idx sub i : Nat) (v : Bool) : State :=
  let x := s.dv idx sub
  s.setDv idx sub (if bitN x i = v then x else if v then x + 2 ^ i else x - 2 ^ i)

/-- The bytes held for a device-scope wide object, or none when never written. -/
def State.dwide (s : State) (idx sub : Nat) : Option (List Byte) :=
  match s.dev.get? (okey idx sub) with
  | some (.wide bs) => some bs
  | _ => none

def State.setDw (s : State) (idx sub : Nat) (bs : List Byte) : State :=
  { s with dev := s.dev.set (okey idx sub) (.wide bs) }

def State.bwide (s : State) (b idx sub : Nat) : Option (List Byte) :=
  match (s.bar b).obj.get? (okey idx sub) with
  | some (.wide bs) => some bs
  | _ => none

def State.setBw (s : State) (b idx sub : Nat) (bs : List Byte) : State :=
  s.modBar b (fun x => { x with obj := x.obj.set (okey idx sub) (.wide bs) })

/-! ### TIME -/

/-- R289: TIME at a count of LOCAL_COUNT. -/
def State.timeAt (s : State) (t : Nat) : Nat :=
  let d : Int := (t : Int) - (s.clock.base : Int)
  (((s.clock.offset : Int) + d + (d * s.clock.rate) / ((2 ^ 40 : Nat) : Int)) % ((2 ^ 64 : Nat) : Int)).toNat

/-- R290: the TIME that an instant had: a later step or change of rate does not change it. -/
def State.timeWas (s : State) (t : Nat) : Nat :=
  match (s.clock.past.filter (fun q => decide (t < q.1))).getLast? with
  | some q =>
    let d : Int := (t : Int) - (q.2.2.1 : Int)
    (((q.2.1 : Int) + d + (d * q.2.2.2) / ((2 ^ 40 : Nat) : Int)) % ((2 ^ 64 : Nat) : Int)).toNat
  | none => s.timeAt t

/-- Instants further back than any latency of R216 reaches are not kept. -/
def keptTime (now t : Nat) : Bool := decide (now ≤ t + 1100000)

/-- TIME now. -/
def State.time (s : State) : Nat := s.timeAt s.now

/-! ### Page numbers -/

/-- R393: page `a` is later than page `b`. -/
def pageAfter (a b : Nat) : Bool :=
  let d := (a + 2 ^ 32 - b % 2 ^ 32) % 2 ^ 32
  decide (1 ≤ d) && decide (d < 2 ^ 31)

/-- R393: page `a` is `b` or later. -/
def pageGe (a b : Nat) : Bool := a % 2 ^ 32 == b % 2 ^ 32 || pageAfter a b

/-- R393: the later of two pages. -/
def pageLater (a b : Nat) : Nat := if pageAfter b a then b else a

/-- R68: the next page number. -/
def pageSucc (a : Nat) : Nat := (a + 1) % 2 ^ 32

/-! ### Geometry -/

/-- 1206.n: the bar's span count. -/
def State.spanCount (s : State) (b : Nat) : Nat := bitsN (s.dv 0x1206 b) 15 8

/-- 1206.n: the bar's first span. -/
def State.firstSpan (s : State) (b : Nat) : Nat := bitsN (s.dv 0x1206 b) 7 0

/-- The bar's first device column (R25). -/
def State.firstCol (s : State) (b : Nat) : Nat := s.firstSpan b * Config.spanCols

/-- The bar's width in columns. -/
def State.width (s : State) (b : Nat) : Nat := s.spanCount b * Config.spanCols

/-- The bar whose columns hold device column `x`, if any. -/
def State.barAt (s : State) (x : Nat) : Option Nat :=
  (List.range 16).find? (fun b => decide (s.firstCol b ≤ x) && decide (x < s.firstCol b + s.width b))

/-- 3000.p IN_USE. -/
def State.inUse (s : State) (p : Nat) : Bool := bitN (s.dv 0x3000 p) 0

/-- 3000.p GREY: bits of a level. -/
def State.greyBits (s : State) (p : Nat) : Nat := if bitN (s.dv 0x3000 p) 1 then 3 else 2

/-- Row sets of plane `p`. -/
def State.rowSets (s : State) (p : Nat) : Nat := if bitN (s.dv 0x3000 p) 2 then 2 else 1

/-- The planes in use, ascending. -/
def State.planes (s : State) : List Nat := (List.range 8).filter (fun p => s.inUse p)

/-- 3001.p PLANE_FORMAT of a bar. -/
def State.format (s : State) (b p : Nat) : Nat := s.bo b 0x3001 p

/-- The bars with columns, ascending. -/
def State.barsWithCols (s : State) : List Nat := (List.range 16).filter (fun b => decide (0 < s.spanCount b))

end Sys2Proof.Machine
end

