-- ==== Sys2Proof/Machine/Heads.lean ====
section
/-!
DEFINITION. The head map (Table 04-3, R99, R100, R116), the configuration limit on the line rate (R12, R13), and the
copies of staged objects with their defaults (R15, R16, R29, R94, R111, R115, R127, Table 04-6).
-/
namespace Sys2Proof.Machine
open Sys2Proof

/-! ### The head map -/

/-- 3200.p EN. -/
def headEn (s : State) (p : Nat) : Bool := bitN (s.dv 0x3200 p) 31
/-- 3200.p PLANE. -/
def headPlane (s : State) (p : Nat) : Nat := bitsN (s.dv 0x3200 p) 30 28
/-- 3200.p ROWSET. -/
def headSet (s : State) (p : Nat) : Nat := bitsN (s.dv 0x3200 p) 27 27
/-- Nozzles of the head on port `p`, 0 while EN is 0. -/
def headSize (s : State) (p : Nat) : Nat := if headEn s p then 1024 * (bitsN (s.dv 0x3200 p) 26 24 + 1) else 0
/-- 3200.p COL0. -/
def headCol0 (s : State) (p : Nat) : Nat := bitsN (s.dv 0x3200 p) 15 0

/-- The head ports that are enabled, ascending. -/
def headPorts (s : State) : List Nat := (List.range 64).filter (fun p => headEn s p)

/-- Does the head on `p` serve device column `x`? -/
def headServes (s : State) (p x : Nat) : Bool := decide (headCol0 s p ≤ x) && decide (x < headCol0 s p + headSize s p)

/-- Nozzles of the head on `p` that serve a column from `x0` to `x1` - 1. -/
def headOverlap (s : State) (p x0 x1 : Nat) : Nat :=
  min (headCol0 s p + headSize s p) x1 - max (headCol0 s p) x0

/-- Nozzles of the head on `p` that serve a column of bar `b`. -/
def headInBar (s : State) (b p : Nat) : Nat := headOverlap s p (s.firstCol b) (s.firstCol b + s.width b)

/-- R116: the head ports that serve a column of bar `b`, ascending: instance k is the k-th. -/
def instPorts (s : State) (b : Nat) : List Nat := (headPorts s).filter (fun p => decide (0 < headInBar s b p))

/-- The bar's number of a head port, if it has one. -/
def instOf (s : State) (b p : Nat) : Option Nat := (instPorts s b).findIdx? (fun q => q == p)

/-- The bar that nozzle `k` of port `p` belongs to, if any. -/
def nozzleBar (s : State) (p k : Nat) : Option Nat := s.barAt (headCol0 s p + k)

/-- Insert a port into a list ordered by COL0, then port. -/
def insertHead (s : State) (p : Nat) : List Nat → List Nat
  | [] => [p]
  | q :: t => if headCol0 s p ≤ headCol0 s q then p :: q :: t else q :: insertHead s p t

/-- The enabled heads of a plane and row set, by COL0. -/
def headsOf (s : State) (plane rs : Nat) : List Nat :=
  ((headPorts s).filter (fun p => headPlane s p == plane && headSet s p == rs)).foldr (insertHead s) []

/-- The heads of a row set that serve a column, the left one first. -/
def serving (s : State) (plane rs x : Nat) : List Nat := (headsOf s plane rs).filter (fun p => headServes s p x)

/-- The right neighbour of a head (R100): the next higher COL0 of its plane and row set, at most its last column + 1. -/
def rightNeighbour (s : State) (p : Nat) : Option Nat :=
  ((headsOf s (headPlane s p) (headSet s p)).find? (fun q => decide (headCol0 s p < headCol0 s q))).bind
    (fun q => if headCol0 s q ≤ headCol0 s p + headSize s p then some q else none)

/-- Width of the stitch zone with the right neighbour. -/
def zoneWidth (s : State) (p q : Nat) : Nat := headCol0 s p + headSize s p - headCol0 s q

/-- 3220 STITCH_RIGHT of a port. -/
def stitchRight (s : State) (p : Nat) : Nat :=
  if headEn s p then
    match rightNeighbour s p with
    | some q => zoneWidth s p q * 65536 + 64 + q
    | none => 0
  else 0

/-! ### Configuration limit -/

/-- Is an input format a contone format (Table 04-1)? -/
def isContone (f : Nat) : Bool := f == 1 || f == 2

/-- Bits set of a 64-bit number. -/
def popcount (v : Nat) : Nat := ((List.range 64).filter (fun i => bitN v i)).length

/-- R12: contone_nozzles. -/
def contoneNozzles (s : State) : Nat :=
  (s.barsWithCols.map (fun b =>
    ((headPorts s).map (fun p =>
      if s.inUse (headPlane s p) && isContone (s.format b (headPlane s p)) then headInBar s b p else 0)).sum)).sum

/-- Table 01-5: inflated bytes per line of a plane of width `w`. -/
def lineBytes (fmt w : Nat) : Nat :=
  match fmt with
  | 1 => w / 4
  | 2 => w
  | 3 => w / 4
  | _ => 3 * w / 8

/-- R12: bytes_per_line. -/
def bytesPerLine (s : State) : Nat :=
  (s.barsWithCols.map (fun b => (s.planes.map (fun p => lineBytes (s.format b p) (s.width b))).sum)).sum

/-- R12: widest_1200_plane_columns. -/
def widest1200 (s : State) : Nat :=
  (s.barsWithCols.map (fun b => if s.planes.any (fun p => s.format b p == 2) then s.width b else 0)).foldl max 0

/-- R12: the limit with `gs` geysers and `is` inflate engines active. -/
def limitWith (s : State) (gs is : Nat) : Nat :=
  let l := 240000
  let l := if s.dv 0x4800 0 = 0 ∧ s.planes.any (fun p => s.greyBits p == 3) then min l 180000 else l
  let cn := contoneNozzles s
  let l := if 0 < cn then min l (4160000000 * gs / cn) else l
  let bl := bytesPerLine s
  let l := if 0 < bl then min l (1300000000 * is / bl) else l
  let w := widest1200 s
  if 0 < w then min l (60000 * 65536 / w) else l

/-- R12: the configuration limit on the line rate (4003.03). -/
def lineLimit (s : State) : Nat := limitWith s (popcount (s.dv 0x3010 0)) (popcount (s.dv 0x2100 0))

/-- R13: the line rate enforced (4003.04); while a raise of the rate waits for VDD_CORE the former rate holds (R344). -/
def lineEnforced (s : State) : Nat :=
  let v := min (s.dv 0x4003 2) (lineLimit s)
  match s.power.enforced with
  | some e => min e v
  | none => v

/-! ### Copies of staged objects -/

/-- R16: the copy that a read returns: open, else pending, else live. -/
def Bar.current (x : Bar) (key : Nat) : Option Val :=
  match x.opn.get? key with
  | some v => some v
  | none =>
    match (if x.gen.isSome then x.pend.get? key else none) with
    | some v => some v
    | none => x.live.get? key

/-- R15: what the next generation holds: the live copies overlaid with the pending ones when a generation is pending. -/
def Bar.upcoming (x : Bar) (key : Nat) : Option Val :=
  match (if x.gen.isSome then x.pend.get? key else none) with
  | some v => some v
  | none => x.live.get? key

/-- R19, R20: the copy that governs page `n`: the pending one from the effective commit page onward. -/
def Bar.forPage (x : Bar) (n : Nat) (key : Nat) : Option Val :=
  match x.gen with
  | some g => if pageGe n g.page then x.upcoming key else x.live.get? key
  | none => x.live.get? key

/-- R19: the copy that governs a page of the bar: the one it was started under, when a later one has come into force. -/
def Bar.forPg (x : Bar) (pg : Page) (key : Nat) : Option Val :=
  match pg.under with
  | some m => m.get? key
  | none => x.forPage pg.num key

/-- The slot value of a copy, or the default (R29). -/
def stgNat (v : Option Val) (idx sub : Nat) : Nat :=
  match v with
  | some (.slot w) => w.toNat
  | _ => defaultNat idx sub

/-- R19: a firing-class object as the lines of a strip are fired. -/
def State.stripN (s : State) (b : Nat) (x : Strip) (idx sub : Nat) : Nat :=
  stgNat ((x.under.getD (s.bar b).live).get? (okey idx sub)) idx sub

/-- A staged object's live value. -/
def State.liveN (s : State) (b idx sub : Nat) : Nat := stgNat ((s.bar b).live.get? (okey idx sub)) idx sub

/-- A staged object's value for page number `n`. -/
def State.pageN (s : State) (b n idx sub : Nat) : Nat := stgNat ((s.bar b).forPage n (okey idx sub)) idx sub

/-- A staged object's value for a page of the bar. -/
def State.pgN (s : State) (b : Nat) (pg : Page) (idx sub : Nat) : Nat :=
  stgNat ((s.bar b).forPg pg (okey idx sub)) idx sub

/-- A staged object's value as read (R16). -/
def State.curN (s : State) (b idx sub : Nat) : Nat := stgNat ((s.bar b).current (okey idx sub)) idx sub

/-- R94: entry `u` of the default tone curve. -/
def defaultCurve (u : Nat) : Nat := if u ≤ 1020 then u * 65535 / 1020 else 65535

/-- Table 04-6: the default mask cell at (x, y). -/
def defaultMask (x y : Nat) : Nat :=
  (4 * ((3 * x + y) % 64) + x % 4) * 256 + (4 * ((x + 2 * y) % 64) + y % 4)

/-- R127: the default volume of level `l`. -/
def defaultVol (top l : Nat) : Nat := min l top * 65535 / top

/-- R111: the default tile for a plane with `n` thresholds. -/
def defaultTile (n : Nat) : List Byte :=
  leBytes 2 1 ++ leBytes 2 1 ++ leBytes 1 n ++ leBytes 11 0 ++
  (List.range n).flatMap (fun k => leBytes 2 (65536 * (k + 1) / (n + 1) - 1))

/-- Thresholds of a plane: 3 on a 2-bit plane, 7 on a 3-bit plane (R96). -/
def State.levels (s : State) (p : Nat) : Nat := if s.greyBits p = 3 then 7 else 3

/-- A STRING[16], padded with zeros. -/
def text16 (x : String) : List Byte :=
  (x.toList.map (fun (c : Char) => BitVec.ofNat 8 c.toNat) ++ List.replicate 16 0).take 16

/-- Is the sRGB encoding of (i + 0.5) / 1,024 at least (k - 0.5) / 255 (IEC 61966-2-1)? Both sides are taken to powers
that make them rational. -/
def srgbAtLeast (i k : Nat) : Bool :=
  if (2 * i + 1) * 10000000 ≤ 31308 * 2048 then decide ((2 * k - 1) * 2048 * 100 ≤ 1292 * (2 * i + 1) * 510)
  else decide ((200 * k + 2705) ^ 12 * 2048 ^ 5 ≤ (2 * i + 1) ^ 5 * 53805 ^ 12)

/-- R220: entry `i` of the default SRGB_LUT. -/
def srgbDefault (i : Nat) : Nat := ((List.range 255).filter (fun k => srgbAtLeast i (k + 1))).length

/-- R220: the default DISPLAY_MATRIX, the identity on R, G and B. -/
def matrixDefault : List Byte :=
  (List.range 12).flatMap (fun n => leBytes 2 (if n % 4 = n / 4 then 4096 else 0))

/-- R185: the table without a board table: one row for every class. -/
def eqDefault : List Byte :=
  leBytes 2 1 ++ leBytes 2 1024 ++ List.replicate 8 1 ++ leBytes 4 0 ++ List.replicate 64 0 ++
  (List.range 128).flatMap (fun n =>
    if n % 16 = 0 then [BitVec.ofInt 8 (-4), 48, BitVec.ofInt 8 (-11), 0, 80, 8, 1, 0] else List.replicate 8 0)

/-- The default bytes of a wide object (R29 and the rules named above). -/
def defaultWide (s : State) (idx sub : Nat) : List Byte :=
  match idx with
  | 0x1000 => text16 "Pafinex"
  | 0x1001 => text16 "QG5240"
  | 0x1002 => text16 "QG5240-B2401"
  | 0x3100 => (List.range 1024).flatMap (fun u => leBytes 2 (defaultCurve u))
  | 0x3110 => defaultTile (s.levels sub)
  | 0x3210 => (List.range 4096).flatMap (fun i => leBytes 2 (defaultMask (i % 64) (i / 64)))
  | 0x3400 => List.replicate (2 * headSize s sub) 0
  | 0x3410 => (List.range (headSize s sub)).flatMap (fun _ => leBytes 2 0x4000)
  | 0x3420 => (List.range 8).flatMap (fun l => leBytes 2 (defaultVol (s.levels sub) l))
  | 0x4030 => List.replicate 1048576 0
  | 0x4202 => List.replicate (headSize s sub) 0
  | 0x4810 => eqDefault
  | 0x4910 => List.replicate 16384 0
  | 0x5030 => List.replicate 16384 0
  | 0x6102 => (List.range (4 * s.dv 0x6001 sub)).flatMap (fun _ => leBytes 2 0x1000)
  | 0x6103 => List.replicate (s.dv 0x6001 sub / 8) 0
  | 0x6111 => matrixDefault
  | 0x6112 => (List.range 1024).flatMap (fun i => leBytes 1 (srgbDefault i))
  | 0x6130 => List.replicate 64 0
  | 0x6131 => List.replicate 128 0
  | 0x6140 => List.replicate (8 * s.dv 0x6001 sub) 0
  | 0x6240 => List.replicate (8 * headSize s sub) 0
  | _ => []

/-- The bytes of a copy of a wide staged object, or its default. -/
def stgWide (s : State) (v : Option Val) (idx sub : Nat) : List Byte :=
  match v with
  | some (.wide bs) => bs
  | _ => defaultWide s idx sub

/-- A wide staged object as read (R16). -/
def State.curW (s : State) (b idx sub : Nat) : List Byte := stgWide s ((s.bar b).current (okey idx sub)) idx sub

/-- A wide staged object's live bytes. -/
def State.liveW (s : State) (b idx sub : Nat) : List Byte := stgWide s ((s.bar b).live.get? (okey idx sub)) idx sub

/-- A 16-bit entry of a wide staged copy without building its default. -/
def stgEntry (v : Option Val) (i dflt : Nat) : Nat :=
  match v with
  | some (.wide bs) => fieldLE bs (2 * i) 2
  | _ => dflt

/-- 3400: the state entry of nozzle `k` in a copy. -/
def entryState (e : Nat) : Nat := e % 8
/-- Is a nozzle with this entry in service (Table 05-1)? -/
def entryInService (e : Nat) : Bool := decide (entryState e < 3)
/-- CAUSE of an entry. -/
def entryCause (e : Nat) : Nat := bitsN e 9 8
/-- LOCK of an entry. -/
def entryLock (e : Nat) : Bool := bitN e 15

end Sys2Proof.Machine
end

