-- ==== Sys2Proof/Machine/Crypto.lean ====
section
/-!
DEFINITION. The published algorithms that the spec names and does not restate: CRC-32C (R67, R74 and others), SHA-256
and HMAC (R49), SHA-384 and ECDSA P-384 (R309), AES-256-GCM (R74).
-/
namespace Sys2Proof.Machine
open Sys2Proof

/-- One bit step of the reflected CRC with polynomial `poly`. -/
def crcStep (poly c : Nat) : Nat := if c % 2 = 1 then (c / 2) ^^^ poly else c / 2

/-- One byte into a reflected CRC register. -/
def crcByte (poly : Nat) (c : Nat) (b : Byte) : Nat :=
  let s := crcStep poly
  s (s (s (s (s (s (s (s (c ^^^ b.toNat))))))))

/-- The CRC-32C register after more bytes. -/
def crc32cReg (c : Nat) (bs : List Byte) : Nat := bs.foldl (crcByte 0x82F63B78) c

/-- CRC-32C of a byte string (initial value and final inversion all ones). -/
def crc32c (bs : List Byte) : Nat := crc32cReg 0xFFFFFFFF bs ^^^ 0xFFFFFFFF

/-! ### SHA-2

The digests work on `w`-bit words, `w` 32 for SHA-256 and 64 for SHA-384. Their constants are fractional bits of roots
of primes and are computed as such. The eight working words are kept as two histories of four, those of the a-words
and those of the e-words: a round pushes one word on each. -/

/-- The primes whose roots SHA-2 uses. -/
def shaPrimes : List Nat := (List.range 410).filter fun n => decide (2 ≤ n) && (List.range 19).all fun d => d + 2 ≥ n || n % (d + 2) != 0

/-- The greatest number of `k` bits whose `e`-th power is at most `n`, found bit by bit above `r`. -/
def rootBits (e n : Nat) : Nat → Nat → Nat
  | 0, r => r
  | k + 1, r => rootBits e n k (if (r + 2 ^ k) ^ e ≤ n then r + 2 ^ k else r)

/-- The first `w` fractional bits of the `e`-th root of `p`. -/
def rootFrac (e w p : Nat) : Nat := rootBits e (p * 2 ^ (e * w)) (w + 5) 0 % 2 ^ w

/-- The round constants: cube roots of the first `n` primes. -/
def shaKeys (w n : Nat) : List Nat := (shaPrimes.take n).map (rootFrac 3 w)

/-- The exclusive or of `x` rotated right by each of `ns` within `w` bits. -/
def rotsOf (w x : Nat) (ns : List Nat) : Nat :=
  ns.foldl (fun acc n => acc ^^^ (x / 2 ^ n + x % 2 ^ n * 2 ^ (w - n))) 0

/-- What tells SHA-256 and SHA-384 apart: the word, the rounds and the rotation amounts. -/
structure ShaKind where
  w : Nat
  rounds : Nat
  bigA : List Nat
  bigE : List Nat
  lowA : List Nat × Nat
  lowE : List Nat × Nat
  deriving DecidableEq, Repr

/-- SHA-256. -/
def sha256Kind : ShaKind := ⟨32, 64, [2, 13, 22], [6, 11, 25], ([7, 18], 3), ([17, 19], 10)⟩
/-- SHA-384. -/
def sha384Kind : ShaKind := ⟨64, 80, [28, 34, 39], [14, 18, 41], ([1, 8], 7), ([19, 61], 6)⟩

/-- The bits of `y` where `x` has ones, the bits of `z` elsewhere. -/
def pickBits (x y z : Nat) : Nat := z ^^^ (x &&& (y ^^^ z))

/-- One round: from the two histories, newest first, and the round's key and message word together, the two words that
are pushed. -/
def shaPush (k : ShaKind) (h : List Nat × List Nat) (kw : Nat) : List Nat × List Nat :=
  let a (i : Nat) := h.1.getD i 0
  let e (i : Nat) := h.2.getD i 0
  let t := e 3 + kw + pickBits (e 0) (e 1) (e 2) + rotsOf k.w (e 0) k.bigE
  let m := pickBits (a 0 ^^^ a 1) (a 2) (a 1)
  (((t + m + rotsOf k.w (a 0) k.bigA) % 2 ^ k.w) :: h.1.take 3, ((a 3 + t) % 2 ^ k.w) :: h.2.take 3)

/-- The message words, newest first, extended by `n` words. -/
def shaMore (k : ShaKind) : Nat → List Nat → List Nat
  | 0, ws => ws
  | n + 1, ws =>
    let mixed (d : Nat) (r : List Nat × Nat) := rotsOf k.w (ws.getD d 0) r.1 ^^^ (ws.getD d 0 / 2 ^ r.2)
    shaMore k n (((mixed 14 k.lowA + ws.getD 15 0 + mixed 1 k.lowE + ws.getD 6 0) % 2 ^ k.w) :: ws)

/-- The bytes cut into pieces of `n`, at most `fuel` of them. -/
def chunks (n : Nat) : Nat → List Byte → List (List Byte)
  | 0, _ => []
  | fuel + 1, bs => if bs.isEmpty then [] else bs.take n :: chunks n fuel (bs.drop n)

/-- One block into the two histories. -/
def shaAbsorb (k : ShaKind) (keys : List Nat) (h : List Nat × List Nat) (blk : List Byte) : List Nat × List Nat :=
  let ws := (shaMore k (k.rounds - 16) ((chunks (k.w / 8) 16 blk).map beNat).reverse).reverse
  let o := (List.zipWith (fun x y => x + y) keys ws).foldl (shaPush k) h
  let sum := List.zipWith fun x y => (x + y) % 2 ^ k.w
  (sum h.1 o.1, sum h.2 o.2)

/-- The padded message: a one bit, zeros, and the length in bits in the last eighth of the last block. -/
def shaPad (k : ShaKind) (bs : List Byte) : List Byte :=
  let blk := 2 * k.w
  let zeros := (2 * blk - (bs.length + 1 + blk / 8) % blk) % blk
  bs ++ [0x80] ++ List.replicate zeros 0 ++ beBytes (blk / 8) (bs.length * 8)

/-- The digest from the square roots of the eight primes after the first `first`, its eight words. -/
def shaWords (k : ShaKind) (first : Nat) (bs : List Byte) : List Nat :=
  let m := shaPad k bs
  let h0 := ((shaPrimes.drop first).take 8).map (rootFrac 2 k.w)
  let h := (chunks (2 * k.w) (m.length / (2 * k.w)) m).foldl (shaAbsorb k (shaKeys k.w k.rounds)) (h0.take 4, h0.drop 4)
  h.1 ++ h.2

/-- SHA-256. -/
def sha256 (bs : List Byte) : List Byte := (shaWords sha256Kind 0 bs).flatMap (beBytes 4)

/-- SHA-384: six of the eight words. -/
def sha384 (bs : List Byte) : List Byte := ((shaWords sha384Kind 8 bs).take 6).flatMap (beBytes 8)

/-- HMAC-SHA-256. -/
def hmac (key msg : List Byte) : List Byte :=
  let k0 := if key.length > 64 then sha256 key else key
  let k := k0 ++ List.replicate (64 - k0.length) 0
  sha256 (k.map (fun b => b ^^^ 0x5C) ++ sha256 (k.map (fun b => b ^^^ 0x36) ++ msg))

/-! ### ECDSA P-384 -/

/-- The field prime of P-384. -/
def p384P : Nat := 2 ^ 384 - 2 ^ 128 - 2 ^ 96 + 2 ^ 32 - 1
/-- The group order of P-384. -/
def p384N : Nat :=
  0xffffffffffffffffffffffffffffffffffffffffffffffffc7634d81f4372ddf581a0db248b0a77aecec196accc52973
/-- The curve coefficient b of P-384. -/
def p384B : Nat :=
  0xb3312fa7e23ee7e4988e056be3f82d19181d9c6efe8141120314088f5013875ac656398d8a2ed19d2a85c8edd3ec2aef
/-- A point of P-384 in Jacobian form: x / z², y / z³, z being 0 for the point at infinity. -/
structure P384Pt where
  x : Nat
  y : Nat
  z : Nat
  deriving DecidableEq, Repr

/-- The base point of P-384. -/
def p384G : P384Pt :=
  ⟨0xaa87ca22be8b05378eb1c71ef320ad746e1d3b628ba79b9859f741e082542a385502f25dbf55296c3a545e3872760ab7,
   0x3617de4a96262c6f5d9e98bf9292dc29f8f41dbd289a147ce9da3113b5f0b8c00a60b1ce1d7e819d7a431d7c90ea0e5f, 1⟩

/-- `b ^ e mod m` over `fuel` bits of `e`. -/
def powMod (m : Nat) : Nat → Nat → Nat → Nat
  | 0, _, _ => 1 % m
  | fuel + 1, b, e =>
    if e = 0 then 1 % m
    else
      let r := powMod m fuel (b * b % m) (e / 2)
      if e % 2 = 1 then r * b % m else r

/-- The inverse modulo a prime. -/
def invMod (m a : Nat) : Nat := powMod m 384 a (m - 2)

/-- `a - b` in the field. -/
def p384Sub (a b : Nat) : Nat := (a + (p384P - b)) % p384P

/-- Doubling on P-384. -/
def p384Dbl (p : P384Pt) : P384Pt :=
  let yy := p.y * p.y % p384P
  let zz := p.z * p.z % p384P
  let s := 4 * p.x * yy % p384P
  let m := 3 * p384Sub p.x zz * (p.x + zz) % p384P
  let x := p384Sub (m * m % p384P) (2 * s % p384P)
  ⟨x, p384Sub (m * p384Sub s x % p384P) (8 * yy * yy % p384P), 2 * p.y * p.z % p384P⟩

/-- Addition on P-384. -/
def p384Add (p q : P384Pt) : P384Pt :=
  if p.z = 0 then q
  else if q.z = 0 then p
  else
    let pz := p.z * p.z % p384P
    let qz := q.z * q.z % p384P
    let u := p.x * qz % p384P
    let s := p.y * qz * q.z % p384P
    let h := p384Sub (q.x * pz % p384P) u
    let r := p384Sub (q.y * pz * p.z % p384P) s
    if h = 0 then (if r = 0 then p384Dbl p else ⟨1, 1, 0⟩)
    else
      let hh := h * h % p384P
      let hhh := hh * h % p384P
      let v := u * hh % p384P
      let x := p384Sub (r * r % p384P) ((hhh + 2 * v) % p384P)
      ⟨x, p384Sub (r * p384Sub v x % p384P) (s * hhh % p384P), p.z * q.z * h % p384P⟩

/-- Scalar multiplication over `fuel` bits. -/
def p384Mul : Nat → Nat → P384Pt → P384Pt
  | 0, _, _ => ⟨1, 1, 0⟩
  | fuel + 1, k, p =>
    let r := p384Mul fuel (k / 2) (p384Dbl p)
    if k % 2 = 1 then p384Add r p else r

/-- ECDSA P-384 verification of a signature `r`, `s` over the SHA-384 of `msg` by the public key `x`, `y`. -/
def ecdsaVerify (x y : Nat) (msg : List Byte) (r s : Nat) : Bool :=
  if r = 0 ∨ p384N ≤ r ∨ s = 0 ∨ p384N ≤ s ∨ p384P ≤ x ∨ p384P ≤ y then false
  else if (y * y) % p384P ≠ (x * x * x + (p384P - 3) * x + p384B) % p384P then false
  else
    let w := powMod p384N 384 s (p384N - 2)
    let z := beNat (sha384 msg)
    let v := p384Add (p384Mul 384 (z * w % p384N) p384G) (p384Mul 384 (r * w % p384N) ⟨x, y, 1⟩)
    if v.z = 0 then false else v.x * invMod p384P (v.z * v.z % p384P) % p384P % p384N == r

/-! ### AES-256-GCM -/

/-- Doubling in the AES field. -/
def aesDbl (a : Nat) : Nat := if a < 128 then 2 * a else (2 * a) % 256 ^^^ 0x1B

/-- Multiplication in the AES field over the low `n` bits of `b`. -/
def aesMul : Nat → Nat → Nat → Nat
  | 0, _, _ => 0
  | n + 1, a, b => (if b % 2 = 1 then a else 0) ^^^ aesMul n (aesDbl a) (b / 2)

/-- The AES S-box: inversion as the 254th power, then the affine map. -/
def aesSub (a : Nat) : Nat :=
  let m := aesMul 8
  let a2 := m a a
  let a3 := m a2 a
  let a6 := m a3 a3
  let a12 := m a6 a6
  let a15 := m a12 a3
  let a30 := m a15 a15
  let a60 := m a30 a30
  let a120 := m a60 a60
  let a126 := m a120 a6
  let a127 := m a126 a
  let i := m a127 a127
  let r (n : Nat) := ((i <<< n) ||| (i >>> (8 - n))) % 256
  i ^^^ r 1 ^^^ r 2 ^^^ r 3 ^^^ r 4 ^^^ 0x63

/-- Bytes xored pairwise. -/
def xorBytes (a b : List Nat) : List Nat := List.zipWith (fun x y => x ^^^ y) a b

/-- The AES-256 key schedule, newest word first; `i` words are present. -/
def aesExpand : Nat → Nat → Nat → List (List Nat) → List (List Nat)
  | 0, _, _, ws => ws
  | n + 1, i, rc, ws =>
    let t := ws.getD 0 []
    let t2 := if i % 8 = 0 then xorBytes (((t.drop 1) ++ t.take 1).map aesSub) [rc, 0, 0, 0]
              else if i % 8 = 4 then t.map aesSub else t
    aesExpand n (i + 1) (if i % 8 = 0 then aesDbl rc else rc) (xorBytes (ws.getD 7 []) t2 :: ws)

/-- The 15 round keys of AES-256. -/
def aesKeys (key : List Byte) : List (List Nat) :=
  let ks := key.map (fun b => b.toNat)
  let w0 := (tabulate 8 (fun i => (ks.drop (4 * i)).take 4)).reverse
  let ws := (aesExpand 52 8 1 w0).reverse
  tabulate 15 (fun r => ((ws.drop (4 * r)).take 4).flatten)

/-- ShiftRows after SubBytes. -/
def aesShift (st : List Nat) : List Nat :=
  let t := st.map aesSub
  tabulate 16 (fun i => t.getD ((i + 4 * (i % 4)) % 16) 0)

/-- MixColumns. -/
def aesMix (st : List Nat) : List Nat :=
  tabulate 16 (fun i =>
    let c := (i / 4) * 4
    let g (k : Nat) := st.getD (c + (i + k) % 4) 0
    aesDbl (g 0) ^^^ aesDbl (g 1) ^^^ g 1 ^^^ g 2 ^^^ g 3)

/-- AES-256 of one block. -/
def aesBlock (rk : List (List Nat)) (blk : List Nat) : List Nat :=
  let s0 := xorBytes blk (rk.getD 0 [])
  let s := (List.range 13).foldl (fun st r => xorBytes (aesMix (aesShift st)) (rk.getD (r + 1) [])) s0
  xorBytes (aesShift s) (rk.getD 14 [])

/-- Multiplication in the GCM field, over `n` bits of `x` from the most significant. -/
def gcmMulBits : Nat → Nat → Nat → Nat
  | 0, _, _ => 0
  | n + 1, x, v =>
    let v2 := if v % 2 = 1 then (v / 2) ^^^ (0xe1 * 2 ^ 120) else v / 2
    (if bitN x n then v else 0) ^^^ gcmMulBits n x v2

/-- GHASH of byte strings already padded to blocks. -/
def ghash (h : Nat) (bs : List Byte) : Nat :=
  (chunks 16 (bs.length / 16 + 1) bs).foldl
    (fun y blk => gcmMulBits 128 (y ^^^ beNat (blk ++ List.replicate (16 - blk.length) 0)) h) 0

/-- A byte string padded with zeros to blocks of 16. -/
def pad16 (bs : List Byte) : List Byte := bs ++ List.replicate ((16 - bs.length % 16) % 16) 0

/-- AES-256-GCM decryption with a 12-byte nonce: the plaintext and whether the 16-byte tag verifies (R74). -/
def gcmOpen (key iv aad ct tag : List Byte) : List Byte × Bool :=
  let rk := aesKeys key
  let enc (n : Nat) : List Nat := aesBlock rk (beBytes 16 n |>.map (fun b => b.toNat))
  let j0 := beNat iv * 2 ^ 32 + 1
  let h := beNat ((enc 0).map (fun x => BitVec.ofNat 8 x))
  let s := ghash h (pad16 aad ++ pad16 ct ++ beBytes 8 (aad.length * 8) ++ beBytes 8 (ct.length * 8))
  let t := beNat ((enc j0).map (fun x => BitVec.ofNat 8 x)) ^^^ s
  let ctr (i : Nat) := (j0 / 2 ^ 32) * 2 ^ 32 + (1 + i) % 2 ^ 32
  let cs := chunks 16 (ct.length / 16 + 1) ct
  let pt := (List.zip (List.range cs.length) cs).flatMap
    (fun p => List.zipWith (fun (c : Byte) k => c ^^^ BitVec.ofNat 8 k) p.2 (enc (ctr (p.1 + 1))))
  (pt, beBytes 16 t == tag)

end Sys2Proof.Machine
end

