-- ==== Sys2Proof/Machine/Events.lean ====
section
/-!
DEFINITION. Events (R53 to R55, R64, R65, R395): the record, the rings in host memory, MSI-X, and the EVENT frames of
MOA sessions.
-/
namespace Sys2Proof.Machine
open Sys2Proof

/-- The events of the manual, in the order of their codes. -/
inductive Ev where
  | commitSealed | commitLive | devStateChange | vbStateChange | configCheckFail | sessionOpened | sessionClosed | authFail
  | blockDone | eventOverflow | wbFail | wagonFail | wagonDone | pageIntakeDone | calderaEvictEarly | intakePaused
  | deflDone | deflBuf | auditReady | reprintOpened | screenLate | rescreen | nozzleOut | nozzleRecovered
  | nozzleSuspect | gapChange | webReverse | webForward | webStop | encError | overspeed | bandChange
  | markMissed | drayLate | delayOverlap | laneStateChange | laneFault | burstLost | headMismatch | headHot
  | actReport | pageStart | latePage | pageDone | integFail | stripPlaced | webSlow | camState
  | camLinesLost | saturation | stripMeasured | stripAbandoned | regLost | focusDone | migration | quotaOver
  | dramEcc | subchRetired | drayPanic | sramEcc | reinsChange | pairStateChange | pairLink | lineXchk
  | genMismatch | ptpState | timeStep | ethLink | allWait | deadlock | extFault | coreRetired
  | axDone | axStop | axFollow | ssiError | cmpMissed | hvStateChange | hvTrip | tripInBlank
  | hvBarFault | domainChange | avsLimit | railFault | thermalThrottle | sensorRetired | regionSkew | thermalShutdown
  | trimDone | channelFault | channelRetired | deviceFault | replaceReq | headReplace | reinstated | zeroised
  | ictDone
  deriving DecidableEq, Repr

/-- CODE of an event record. -/
def Ev.code : Ev → Nat
  | .commitSealed => 0x0201
  | .commitLive => 0x0202
  | .devStateChange => 0x0203
  | .vbStateChange => 0x0204
  | .configCheckFail => 0x0205
  | .sessionOpened => 0x0206
  | .sessionClosed => 0x0207
  | .authFail => 0x0208
  | .blockDone => 0x0209
  | .eventOverflow => 0x020A
  | .wbFail => 0x0301
  | .wagonFail => 0x0302
  | .wagonDone => 0x0303
  | .pageIntakeDone => 0x0304
  | .calderaEvictEarly => 0x0305
  | .intakePaused => 0x0306
  | .deflDone => 0x0307
  | .deflBuf => 0x0308
  | .auditReady => 0x0309
  | .reprintOpened => 0x030A
  | .screenLate => 0x0401
  | .rescreen => 0x0402
  | .nozzleOut => 0x0501
  | .nozzleRecovered => 0x0502
  | .nozzleSuspect => 0x0503
  | .gapChange => 0x0504
  | .webReverse => 0x0601
  | .webForward => 0x0602
  | .webStop => 0x0603
  | .encError => 0x0604
  | .overspeed => 0x0605
  | .bandChange => 0x0606
  | .markMissed => 0x0607
  | .drayLate => 0x0608
  | .delayOverlap => 0x0609
  | .laneStateChange => 0x0701
  | .laneFault => 0x0702
  | .burstLost => 0x0703
  | .headMismatch => 0x0704
  | .headHot => 0x0705
  | .actReport => 0x0706
  | .pageStart => 0x0801
  | .latePage => 0x0802
  | .pageDone => 0x0803
  | .integFail => 0x0804
  | .stripPlaced => 0x0805
  | .webSlow => 0x0806
  | .camState => 0x0901
  | .camLinesLost => 0x0902
  | .saturation => 0x0903
  | .stripMeasured => 0x0904
  | .stripAbandoned => 0x0905
  | .regLost => 0x0906
  | .focusDone => 0x0907
  | .migration => 0x0A01
  | .quotaOver => 0x0A02
  | .dramEcc => 0x0A03
  | .subchRetired => 0x0A04
  | .drayPanic => 0x0A05
  | .sramEcc => 0x0A06
  | .reinsChange => 0x0B01
  | .pairStateChange => 0x0B02
  | .pairLink => 0x0B03
  | .lineXchk => 0x0B04
  | .genMismatch => 0x0B05
  | .ptpState => 0x0C01
  | .timeStep => 0x0C02
  | .ethLink => 0x0C03
  | .allWait => 0x0D01
  | .deadlock => 0x0D02
  | .extFault => 0x0D03
  | .coreRetired => 0x0D04
  | .axDone => 0x0E01
  | .axStop => 0x0E02
  | .axFollow => 0x0E03
  | .ssiError => 0x0E04
  | .cmpMissed => 0x0E05
  | .hvStateChange => 0x0E06
  | .hvTrip => 0x0E07
  | .tripInBlank => 0x0E08
  | .hvBarFault => 0x0E09
  | .domainChange => 0x0F01
  | .avsLimit => 0x0F02
  | .railFault => 0x0F03
  | .thermalThrottle => 0x0F04
  | .sensorRetired => 0x0F05
  | .regionSkew => 0x0F06
  | .thermalShutdown => 0x0F07
  | .trimDone => 0x0F08
  | .channelFault => 0x1001
  | .channelRetired => 0x1002
  | .deviceFault => 0x1003
  | .replaceReq => 0x1004
  | .headReplace => 0x1005
  | .reinstated => 0x1006
  | .zeroised => 0x1007
  | .ictDone => 0x1008

/-- Table 02-13 (R395). -/
def Ev.severity : Ev → Nat
  | .authFail | .eventOverflow | .calderaEvictEarly | .intakePaused | .nozzleOut | .nozzleSuspect
  | .gapChange | .webReverse | .markMissed | .delayOverlap | .headHot | .latePage
  | .webSlow | .camLinesLost | .saturation | .stripAbandoned | .quotaOver | .dramEcc
  | .drayPanic | .sramEcc | .reinsChange | .pairStateChange | .timeStep | .ethLink
  | .allWait | .axStop | .cmpMissed | .tripInBlank | .thermalThrottle | .channelFault
  | .zeroised => 1
  | .configCheckFail | .wbFail | .wagonFail | .screenLate | .encError | .overspeed
  | .drayLate | .laneFault | .burstLost | .headMismatch | .integFail | .regLost
  | .pairLink | .lineXchk | .genMismatch | .deadlock | .extFault | .axFollow
  | .ssiError | .sensorRetired | .channelRetired | .replaceReq | .headReplace => 2
  | .subchRetired | .coreRetired | .hvTrip | .hvBarFault | .avsLimit | .railFault
  | .regionSkew | .thermalShutdown | .deviceFault => 3
  | .commitSealed | .commitLive | .devStateChange | .vbStateChange | .sessionOpened | .sessionClosed
  | .blockDone | .wagonDone | .pageIntakeDone | .deflDone | .deflBuf | .auditReady
  | .reprintOpened | .rescreen | .nozzleRecovered | .webForward | .webStop | .bandChange
  | .laneStateChange | .actReport | .pageStart | .pageDone | .stripPlaced | .camState
  | .stripMeasured | .focusDone | .migration | .ptpState | .axDone | .hvStateChange
  | .domainChange | .trimDone | .reinstated | .ictDone => 0

/-- An event to be posted. `data` carries the bar's numbering, `devData` the device's (R65). -/
structure Event where
  ev : Ev
  /-- The bar concerned; none for a device-scope event. -/
  bar : Option Nat
  page : Nat
  idx : Nat
  sub : Nat
  flags : Nat
  data : List Byte
  devData : List Byte
  deriving DecidableEq, Repr

/-- DATA padded to 12 bytes. -/
def data12 (bs : List Byte) : List Byte := (bs ++ List.replicate 12 0).take 12

/-- Table 02-7: the 32-byte record. -/
def evRecord (time : Nat) (e : Event) (barField : Nat) (data : List Byte) : List Byte :=
  leBytes 8 time ++ leBytes 2 e.ev.code ++ leBytes 1 barField ++ leBytes 1 e.ev.severity ++ leBytes 4 e.page ++
  leBytes 2 e.idx ++ leBytes 1 e.sub ++ leBytes 1 e.flags ++ data12 data

/-- The record of an EVENT_OVERFLOW that reports `n` events lost. -/
def overflowRecord (time n : Nat) (barField : Nat) : List Byte :=
  evRecord time { ev := .eventOverflow, bar := none, page := 0, idx := 0, sub := 0, flags := 0, data := [], devData := [] }
    barField (leBytes 4 n)

/-- R55: an event of class `cls` has entered a queue of function `k`. -/
def signal (k cls : Nat) (s : State) : State :=
  let f := s.fn k
  let vec := f.own.getD (okey 0x1150 cls) 0
  if f.own.getD (okey 0x1151 0) 0 = 0 then s.emit (.msix k vec)
  else s.modFn k (fun f => { f with
    unsigAt := some (f.unsigAt.getD s.now), unsig := if f.unsig.contains vec then f.unsig else f.unsig ++ [vec] })

/-- The function named by 2000.02 QUEUE_FN of a bar (R63). -/
def queueFn (s : State) (b : Nat) : Nat := if s.bo b 0x2000 2 = 0 then 0 else b + 1

/-- R64: the bar's event ring can take a record. -/
def eqPossible (s : State) (b : Nat) : Bool :=
  let q := (s.bar b).intake
  s.bo b 0x2002 0 != 0 && (s.fn (queueFn s b)).bme &&
  decide ((q.eqTail + 2 ^ 32 - q.eqHead) % 2 ^ 32 < s.bo b 0x2002 1)

/-- Write a record at EQ_TAIL. -/
def eqWrite (b : Nat) (rec : List Byte) (cls : Nat) (s : State) : State :=
  let q := (s.bar b).intake
  let k := queueFn s b
  let s := s.emit (.dmaWrite k (s.bo b 0x2002 0 + 32 * (q.eqTail % s.bo b 0x2002 1)) rec)
  signal k cls (s.modIntake b (fun q => { q with eqTail := (q.eqTail + 1) % 2 ^ 32 }))

/-- R64: when writing is possible again, the EVENT_OVERFLOW comes first. -/
def eqFlush (b : Nat) (s : State) : State :=
  let n := (s.bar b).intake.eqLost
  if n ≠ 0 ∧ eqPossible s b then
    (eqWrite b (overflowRecord s.time n 0) 2 s).modIntake b (fun q => { q with eqLost := 0 })
  else s

/-- R64: deliver a record to the bar's event ring, or count it lost. -/
def eqPush (b : Nat) (rec : List Byte) (cls : Nat) (s : State) : State :=
  let s := eqFlush b s
  if eqPossible s b then eqWrite b rec cls s
  else (s.bumpB b 0x2004 0).modIntake b (fun q => { q with eqLost := q.eqLost + 1 })

/-- R65: the device event queue can take a record. -/
def deqPossible (s : State) : Bool :=
  s.dv 0x2010 2 != 0 && s.dv 0x2010 0 != 0 && (s.fn 0).bme &&
  decide ((s.deqTail + 2 ^ 32 - s.deqHead) % 2 ^ 32 < s.dv 0x2010 1)

def deqWrite (rec : List Byte) (cls : Nat) (s : State) : State :=
  let s := s.emit (.dmaWrite 0 (s.dv 0x2010 0 + 32 * (s.deqTail % s.dv 0x2010 1)) rec)
  signal 0 cls { s with deqTail := (s.deqTail + 1) % 2 ^ 32 }

/-- R64, R65: the overflow record of the device event queue. -/
def deqFlush (s : State) : State :=
  if s.deqLost ≠ 0 ∧ deqPossible s then
    { deqWrite (overflowRecord s.time s.deqLost 0xFF) 2 s with deqLost := 0 }
  else s

def deqPush (rec : List Byte) (cls : Nat) (s : State) : State :=
  let s := deqFlush s
  if deqPossible s then deqWrite rec cls s
  else { s.bump 0x2012 0 with deqLost := s.deqLost + 1 }

/-- The MOA header of a device frame (Table 02-5). -/
def moaHeader (op flags sid seq len status : Nat) : List Byte :=
  beBytes 1 1 ++ beBytes 1 op ++ beBytes 2 flags ++ beBytes 4 sid ++ beBytes 4 seq ++ beBytes 2 len ++ beBytes 2 status

/-- A frame to an open session, under its MAC. -/
def moaSend (sid : Nat) (ss : Session) (op flags seq status : Nat) (payload : List Byte) (s : State) : State :=
  s.emit (.moa ss.ip ss.port op sid seq status payload
    ((hmac ss.key (moaHeader op flags sid seq payload.length status ++ payload)).take 16))

def State.modSession (s : State) (sid : Nat) (f : Session → Session) : State :=
  match s.moa.sessions.get? sid with
  | some ss => { s with moa := { s.moa with sessions := s.moa.sessions.set sid (f ss) } }
  | none => s

/-- A new EVENT frame in a session's store of unacknowledged events (R54). -/
def moaEventSend (sid : Nat) (ss : Session) (rec : List Byte) (s : State) : State :=
  let seq := (ss.txSeq + 1) % 2 ^ 32
  (moaSend sid ss 0x30 2 seq 0 rec s).modSession sid (fun x => { x with
    txSeq := seq, unacked := x.unacked ++ [{ seq := seq, payload := rec, sentAt := s.now, tries := 0 }] })

/-- R54: an event for a session: sent and kept, or discarded when its store of 256 is full. -/
def moaEvent (sid : Nat) (rec : List Byte) (s : State) : State :=
  match s.moa.sessions.get? sid with
  | none => s
  | some ss =>
    if ss.unacked.length < 256 then moaEventSend sid ss rec s
    else s.modSession sid (fun x => { x with lost := x.lost + 1 })

/-- R53: does a session receive the event? A bar session those of its bar; a supervisor every device-scope event and the
bar events of the classes in its EVENT_MASK (DEDUCED, assumption log 8). -/
def sessionTakes (ss : Session) (e : Event) : Bool :=
  match e.bar with
  | none => ss.role == 0
  | some b => if ss.role == 1 then ss.target == b else bitN (ss.own.getD (okey 0x1106 0) 4) (e.ev.code / 256)

/-- The record as a session sees it: in the view of the event's bar BAR is 0 and the numbering is the bar's. -/
def sessionRecord (time : Nat) (ss : Session) (e : Event) : List Byte :=
  match e.bar with
  | none => evRecord time e 0xFF e.devData
  | some b =>
    let view := if ss.role = 1 then ss.target else ss.own.getD (okey 0x1105 0) 0xFF
    if view = b then evRecord time e 0 e.data else evRecord time e b e.devData

/-- R338: in DOZE, and while only the AON responder serves (Table 02-9), events of the classes 0x02, 0x0B, 0x0C and 0x0F
alone are posted. -/
def classServed (s : State) (cls : Nat) : Bool :=
  !(s.devState == .doze || s.devState == .halted) || [0x02, 0x0B, 0x0C, 0x0F].contains cls

/-- R53: deliver an event to sessions and queues. -/
def deliverAll (e : Event) (s : State) : State :=
  let time := s.time
  let cls := e.ev.code / 256
  let s := forAll s.moa.sessions (fun p s =>
    if sessionTakes p.2 e then moaEvent p.1 (sessionRecord time p.2 e) s else s) s
  let s := match e.bar with
    | some b => eqPush b (evRecord time e 0 e.data) cls s
    | none => s
  match e.bar with
  | none => deqPush (evRecord time e 0xFF e.devData) cls s
  | some b =>
    if bitN ((s.fn 0).own.getD (okey 0x1106 0) 4) cls then deqPush (evRecord time e b e.devData) cls s else s

/-- R53, R338: deliver an event, if its class is posted in the present device state. -/
def deliver (e : Event) (s : State) : State := if classServed s (e.ev.code / 256) then deliverAll e s else s

/-- Post at most once per millisecond, the last posting being at `last`. -/
def msGate (last : Option Nat) (now : Nat) : Bool :=
  match last with
  | none => true
  | some t => decide (t + Config.milli ≤ now)

end Sys2Proof.Machine
end

