-- ==== Sys2Proof/Machine/Threads.lean ====
section
/-!
DEFINITION. The thread scheduler's shared operations (R297 to R307) and the posting of events, which raise the
scheduler's sources (Table 13-4), and the deficits that every shared resource keeps (R261).
-/
namespace Sys2Proof.Machine
open Sys2Proof

/-! ### Deficits (R261) -/

/-- R261: every deficit of a resource, whose keys are the `n` from `k0` on, is clamped to `cap`. -/
def clampDeficits (k0 n cap : Nat) (d : Map Int) : Map Int :=
  d.map (fun p => if k0 ≤ p.1 ∧ p.1 < k0 + n then (p.1, max (-(cap : Int)) (min p.2 cap)) else p)

/-- R261: a grant of cost `c` to party `b` of the `n` parties of a resource whose keys begin at `k0`, the parties with requests
pending being `pend` of weight `w`. -/
def grantDeficit (d : Map Int) (k0 n : Nat) (pend : List Nat) (w : Nat → Nat) (c b : Nat) (cap : Nat) : Map Int :=
  let sw := (pend.map w).sum
  let d := pend.foldl (fun (m : Map Int) a => m.modify (k0 + a) 0 (fun v => v + (c * w a / sw : Nat))) d
  clampDeficits k0 n cap (d.modify (k0 + b) 0 (fun v => v - (c : Int)))

/-- The party of the greatest deficit, the first on a tie. -/
def bestDeficit (d : Map Int) (key : Nat → Nat) (xs : List Nat) : Option Nat :=
  xs.foldl (fun best x =>
    match best with
    | none => some x
    | some y => if d.getD (key y) 0 < d.getD (key x) 0 then some x else some y) none

/-! ### Threads on cores -/

/-- Is core `c` in service? -/
def coreOn (s : State) (c : Nat) : Bool := bitN (s.dv 0x9000 0) c && !(s.core c).retired

/-- May a thread run in cluster `cl`? -/
def Thread.inCluster (t : Thread) (cl : Nat) : Bool := t.cluster == 2 || t.cluster == cl

/-- Threads that exist. -/
def threadList (s : State) : List (Nat × Thread) := s.sched.threads.filter (fun p => p.2.st != .free)

/-- Groups with threads READY or RUNNING on a cluster (R301). -/
def busyGroups (s : State) (cl : Nat) : List Nat :=
  (List.range 8).filter (fun g => (threadList s).any (fun p =>
    p.2.group == g && p.2.inCluster cl && (p.2.st == .ready || p.2.st == .running)))

/-- R301: charge the core time consumed since the last charge. -/
def chargeCore (c : Nat) (s : State) : State :=
  let x := s.core c
  match x.thread with
  | none => s.modCore c (fun x => { x with since := s.now })
  | some t =>
    let cl := c / 4
    let cost := s.now - x.since
    let d := grantDeficit s.sched.deficit (cl * 8) 8 (busyGroups s cl) (fun g => s.dv 0x9001 g) cost
      (s.thread t).group (1000 * ((List.range 4).filter (fun i => coreOn s (4 * cl + i))).length)
    (s.modSched (fun q => { q with deficit := d })).modCore c (fun x => { x with since := s.now })

/-- Charge every core. -/
def chargeAll (s : State) : State := forAll (List.range 8) chargeCore s

/-- Free windows of a core (R305): 64, less the threads saved in it. -/
def freeWindows (s : State) (c : Nat) : Nat :=
  64 - ((threadList s).filter (fun p => p.2.window == some c && (s.core c).reserved != some p.1)).length

/-- R305: the running thread of core `c` leaves it by a wait, yield or exit: into a free window, or its save area. -/
def leaveCore (c : Nat) (s : State) : State :=
  let s := chargeCore c s
  match (s.core c).thread with
  | none => s
  | some t =>
    let w := if 0 < freeWindows s c then some c else none
    (s.modThread t (fun x => { x with window := w, lastRun := s.now })).modCore c (fun x =>
      { x with thread := none, deferred := false })

/-- R301: the READY thread that cluster `cl` takes next. -/
def nextReady (s : State) (cl : Nat) : Option Nat :=
  let ready := (threadList s).filter (fun p => p.2.st == .ready && p.2.inCluster cl)
  let gs := (List.range 8).filter (fun g => ready.any (fun p => p.2.group == g))
  match bestDeficit s.sched.deficit (fun g => cl * 8 + g) gs with
  | none => none
  | some g =>
    ((ready.filter (fun p => p.2.group == g)).foldl (fun (best : Option (Nat × Nat)) p =>
      match best with
      | none => some (p.1, p.2.ready)
      | some b => if p.2.ready < b.2 then some (p.1, p.2.ready) else some b) none).map (fun p => p.1)

/-- Put thread `t` on core `c`. -/
def runOn (c t : Nat) (s : State) : State :=
  let s := forAll (List.range 8) (fun k s =>
    if (s.core k).reserved = some t then s.modCore k (fun x => { x with reserved := none }) else s) s
  (s.modThread t (fun x => { x with st := .running, window := none })).modCore c (fun x =>
    { x with thread := some t, since := s.now, runAt := s.now, deferred := false })

/-- R301: every free core takes its next thread. -/
def dispatch (s : State) : State :=
  forAll (List.range 8) (fun c s =>
    if coreOn s c && (s.core c).thread.isNone then
      match nextReady s (c / 4) with
      | some t => runOn c t s
      | none => s
    else s) s

/-- R306: pre-empt core `c`: save its thread, READY again, into a free or the reserved window; deferred when neither is
free. Answers whether the core became free. -/
def preempt (c : Nat) (s : State) : Bool × State :=
  let s := chargeCore c s
  match (s.core c).thread with
  | none => (true, s)
  | some t =>
    let back (s : State) : State :=
      ((s.modThread t (fun x => { x with st := .ready, ready := s.sched.readySeq, lastRun := s.now })).modCore c
        (fun x => { x with thread := none })).modSched (fun q => { q with readySeq := q.readySeq + 1 })
    if 0 < freeWindows s c then (true, back (s.modThread t (fun x => { x with window := some c })))
    else if (s.core c).reserved.isNone then
      (true, back (((s.modThread t (fun x => { x with window := some c })).modCore c
        (fun x => { x with reserved := some t })).bump 0x9004 1))
    else (false, (s.modCore c (fun x => { x with deferred := true })).bump 0x9004 0)

/-- R302: the core that a waking thread in PREEMPT mode takes, if any. -/
def preemptTarget (s : State) (t : Thread) : Option Nat :=
  let cand := (List.range 8).filter (fun c =>
    coreOn s c && t.inCluster (c / 4) &&
    (match (s.core c).thread with
     | some u => !(s.thread u).noPreempt &&
        decide (s.sched.deficit.getD (c / 4 * 8 + (s.thread u).group) 0 < s.sched.deficit.getD (c / 4 * 8 + t.group) 0)
     | none => false))
  cand.foldl (fun (best : Option Nat) c =>
    let d (c : Nat) : Int := match (s.core c).thread with
      | some u => s.sched.deficit.getD (c / 4 * 8 + (s.thread u).group) 0
      | none => 0
    match best with
    | none => some c
    | some b => if d c < d b then some c else some b) none

/-- R302: a thread becomes READY. -/
def makeReady (t : Nat) (s : State) : State :=
  let s := (s.modThread t (fun x => { x with st := .ready, ready := s.sched.readySeq })).modSched
    (fun q => { q with readySeq := q.readySeq + 1 })
  let s := dispatch (chargeAll s)
  let x := s.thread t
  if x.st != .ready then s
  else if x.wake = 1 then
    match preemptTarget s x with
    | some c =>
      let r := preempt c s
      if r.1 then dispatch (runOn c t r.2) else r.2
    | none => s
  else if x.wake = 2 then
    match (List.range 8).find? (fun c => coreOn s c && x.inCluster (c / 4) && (s.core c).irqOn) with
    | some c => (s.modCore c (fun k => { k with irq := t })).emit (.coreIrq c t)
    | none => s
  else s

/-- R299: is a wait satisfied? -/
def waitMet (flags mask : Nat) (andMode : Bool) : Bool :=
  if andMode then (flags &&& mask) == mask else (flags &&& mask) != 0

/-- R299: a satisfied wait: clear the flags of the mask that are set, and copy them to SCH_WOKE. -/
def takeFlags (x : Thread) : Thread := { x with woke := x.flags &&& x.mask, flags := x.flags - (x.flags &&& x.mask) }

/-- R298: set a flag of a thread, waking it when its wait is satisfied. -/
def setFlag (t f : Nat) (s : State) : State :=
  let x := s.thread t
  if x.st = .free ∨ x.st = .faulted then s
  else
    let x := { x with flags := x.flags ||| 2 ^ f }
    if x.st = .waiting ∧ waitMet x.flags x.mask x.andMode then
      makeReady t (s.modThread t (fun _ => { takeFlags x with mask := 0 }))
    else s.modThread t (fun _ => x)

/-- R298: a post, counted when the thread is FREE or FAULTED. -/
def postFlag (t f : Nat) (s : State) : State :=
  if (s.thread t).st = .free ∨ (s.thread t).st = .faulted then s.bump 0x9005 1 else setFlag t f s

/-- Table 13-4: a hardware source is raised. -/
def raiseQuiet (n : Nat) (s : State) : State :=
  let e := s.dv 0x9020 n
  if bitN e 31 then setFlag (bitsN e 24 16) (bitsN e 4 0) s else s

/-! ### ALL_WAIT -/

/-- R307: has a waiting thread an armed source? -/
def hasArmed (s : State) (t : Nat) (x : Thread) : Bool :=
  (x.timer.isSome && bitN x.mask 30) ||
  (List.range 64).any (fun n =>
    let e := s.dv 0x9020 n
    bitN e 31 && bitsN e 24 16 == t && bitN x.mask (bitsN e 4 0))

/-- R307: the condition of ALL_WAIT. -/
def allWait (s : State) : Bool :=
  let live := (threadList s).filter (fun p => p.2.st != .faulted)
  !live.isEmpty && live.all (fun p =>
    match p.2.st with
    | .waiting => !hasArmed s p.1 p.2
    | .flowWait => true
    | _ => false)

/-- Threads in a state. -/
def countThreads (s : State) (st : ThreadState) : Nat := ((threadList s).filter (fun p => p.2.st == st)).length

/-- R307: raise or clear ALL_WAIT, posting the change, until nothing changes. -/
def judgeWait : Nat → State → State
  | 0, s => s
  | fuel + 1, s =>
    let c := allWait s
    if c = s.sched.allWaitAt.isSome then s
    else
      let s := s.modSched (fun q => { q with allWaitAt := if c then some s.now else none, deadlockDone := false })
      let d := leBytes 2 (countThreads s .waiting) ++ leBytes 2 (countThreads s .flowWait)
      let s := deliver { ev := .allWait, bar := none, page := 0, idx := 0, sub := 0, flags := b2n (!c), data := d,
                         devData := d } s
      judgeWait fuel (raiseQuiet 11 s)

/-- A hardware source is raised, and ALL_WAIT is judged again. -/
def raiseSource (n : Nat) (s : State) : State := judgeWait 4 (raiseQuiet n s)

/-! ### Posting -/

/-- R53, Table 13-4: post an event: deliver it, and raise the source of its class. -/
def post (e : Event) (s : State) : State := raiseSource (e.ev.code / 256 - 2) (deliver e s)

/-- Post a device-scope event. -/
def postD (ev : Ev) (flags : Nat) (data : List Byte) (s : State) : State :=
  post { ev := ev, bar := none, page := 0, idx := 0, sub := 0, flags := flags, data := data, devData := data } s

/-- Post a bar event of page `page`. -/
def postB (ev : Ev) (b page flags : Nat) (data : List Byte) (s : State) : State :=
  post { ev := ev, bar := some b, page := page, idx := 0, sub := 0, flags := flags, data := data, devData := data } s

end Sys2Proof.Machine
end

