-- ==== Sys2Proof/Machine/Reins.lean ====
section
/-!
DEFINITION. Who holds the reins, when a unit operates alone, mirroring to the partner, and the release of the reins
(R266, R267, R271, R277, R278).
-/
namespace Sys2Proof.Machine
open Sys2Proof

/-- 8000.00 PAIR_MODE is 1. -/
def pairMode (s : State) : Bool := s.dv 0x8000 0 == 1

/-- R267: the reins holder; a single unit holds them permanently. -/
def holder (s : State) : Bool := !pairMode s || s.pair.holder

/-- R267, R278: the unit follows the single-unit rule. -/
def alone (s : State) : Bool :=
  !pairMode s || s.pair.state == .noPartner || (s.pair.state == .isolated && s.pair.holder && !s.pair.partnerSeen)

/-- Table 11-4. -/
def PairState.code : PairState → Nat
  | .single => 0 | .noPartner => 1 | .joining => 2 | .paired => 3 | .isolated => 4 | .diverged => 5

/-- Change PAIR_STATE and post it. -/
def setPairState (p : PairState) (s : State) : State :=
  if s.pair.state = p then s
  else
    let old := s.pair.state.code
    postD .pairStateChange 0 (leBytes 1 old ++ leBytes 1 p.code) (s.modPair (fun x => { x with state := p }))

/-- Send a record to the partner while the link is up. -/
def pairSend (r : PairOut) (s : State) : State := if pairMode s && s.pair.linkUp then s.emit (.pair r) else s

/-- Table 11-3: the active sends each change of mirrored state. -/
def mirror (m : MirrorItem) (s : State) : State := if holder s then pairSend (.mirror m) s else s

/-- R199: deassert WEB_SLOW without its event. -/
def dropWebSlow (s : State) : State := { s with webSlow := none }

/-- Table 11-1: HVEN of a standby: the mirrored value, or low when the link is down. -/
def standbySupply (s : State) (x : Supply) : Supply :=
  { x with hven := s.pair.linkUp && x.mirrorEn, riseLine := none, riseAt := none }

/-- The supplies after the outputs go to the standby state. -/
def standbyOutputs (s : State) : State :=
  dropWebSlow { s with
    supplies := s.supplies.map (fun p => (p.1, standbySupply s p.2))
    axes := s.axes.map (fun p => (p.1, { p.2 with mode := .idle, vel := 0, acc := 0, armed := none, next := none })) }

/-- R225: a running focus search of camera port `c` ends without a result. -/
def abandonSearch (c : Nat) (s : State) : State :=
  if (s.cam c).search.isSome then
    postD .focusDone 1 (leBytes 1 c ++ leBytes 3 0 ++ leBytes 8 (s.dv 0x6137 c)) (s.modCam c (fun x => { x with search := none }))
  else s

/-- R225: the loss of the reins aborts every search. -/
def abandonSearches (s : State) : State := forAll (List.range 4) abandonSearch s

/-- Table 11-1: what a holder mirrored last stands as its own mirror once it is a standby. -/
def ownMirror (s : State) : State :=
  { s with supplies := s.supplies.mapVals (fun x => { x with mirrorEn := x.hven, mirrorLatch := x.st == SupplyState.tripped }) }

/-- R172: a unit that no longer holds the reins sends no queued WRITE or ACTIVATE. -/
def dropWrites (s : State) : State :=
  { s with ports := s.ports.mapVals (fun x => { x with reqs := x.reqs.filter (fun r => r.op == 2) }) }

/-- R271, R276: release the reins: cause 1 self-diagnosis, 2 HANDOVER, 3 conflict. The unit goes on sending dots. -/
def releaseReins (cause : Nat) (s : State) : State :=
  if pairMode s && s.pair.holder then
    let s := pairSend .release (dropWrites (abandonSearches (standbyOutputs (ownMirror s))))
    let s := s.modPair (fun x => { x with
      holder := false, reinsOut := false, released := some cause, bothSince := none, aligned := s.trig.en, needK := true })
    postD .reinsChange (if cause = 3 then 4 else 0) (leBytes 4 (s.dv 0x8010 2) ++ leBytes 1 cause) s
  else s

end Sys2Proof.Machine
end

