-- ==== Sys2Proof/Machine/Faults.lean ====
section
/-!
DEFINITION. Fault logs (R365, R366), device-class faults (R364), the replacement request (R361 to R363), and retry or
retire (R356, R357).
-/
namespace Sys2Proof.Machine
open Sys2Proof

/-- Table 02-9. -/
def DevState.code : DevState → Nat
  | .boot => 0 | .config => 1 | .ready => 2 | .print => 3 | .safe => 4 | .doze => 5 | .halted => 6

/-- What a log record says (Table 16-5). -/
structure LogEntry where
  /-- The event's code, or 0x1000 + cause for a device-class fault (DEDUCED, assumption log 9). -/
  code : Nat
  kind : Nat
  refused : Bool
  channel : Nat
  hist : Nat
  deriving DecidableEq, Repr

/-- Table 16-5: the 32-byte record. DATA has no meaning in the manual for these codes: it is a free value (assumption
log 10). -/
def logRecord (s : State) (e : LogEntry) (seq : Nat) (data : Nat) : List Byte :=
  let flags := b2n s.pins.pairId + 2 * b2n (holder s) + 4 * b2n e.refused
  let r := leBytes 8 s.time ++ leBytes 4 seq ++ leBytes 2 e.code ++ leBytes 1 e.kind ++ leBytes 1 flags ++
    leBytes 2 e.channel ++ leBytes 1 e.hist ++ leBytes 1 s.devState.code ++ leBytes 8 data
  r ++ leBytes 4 (crc32c r)

/-- R365: append to ERROR_LOG. -/
def logVolatile (e : LogEntry) (s : State) : State :=
  let (d, s) := s.draw
  let seq := (s.logSeq + 1) % 2 ^ 32
  { s with logSeq := seq, errLog := s.errLog.set (seq % 4096) (logRecord s e seq (d.toNat % 2 ^ 64)) }

/-- R366: write to MRAM_LOG; beyond 64 records in 1 s only counted, except a shutdown. -/
def logMram (e : LogEntry) (always : Bool) (s : State) : State :=
  let recent := s.mram.times.filter (fun t => decide (s.now < t + Config.second))
  if always || decide (recent.length < 64) then
    let (d, s) := s.draw
    let n := (s.mram.pseq + 1) % 2 ^ 32
    s.modMram (fun m => { m with
      pseq := n, times := recent ++ [s.now], log := m.log.set (n % 1840) (logRecord s e n (d.toNat % 2 ^ 64)) })
  else s.modMram (fun m => { m with lost := min (m.lost + 1) 65535, times := recent })

/-- R365, R366: every record other than a retryable fault goes to both logs. -/
def logBoth (e : LogEntry) (s : State) : State := logMram e false (logVolatile e s)

/-- A record without a channel. -/
def plainLog (code kind : Nat) : LogEntry := { code := code, kind := kind, refused := false, channel := 0xFF00, hist := 0 }

/-- R362: the bits that are self-diagnosis failures. -/
def selfDiagnosis (bits : Nat) : Bool := bitsN bits 8 0 != 0 || bitN bits 9 || bitN bits 11

/-- R361: set bits of REPLACE_CAUSE. -/
def setCause (bits : Nat) (s : State) : State :=
  let old := s.mram.cause
  let new := old ||| bits
  if new = old then s
  else
    let s := s.modMram (fun m => { m with cause := new, causeTime := s.time })
    let s := logBoth (plainLog 0x1004 7) s
    let s := postD .replaceReq 0 (leBytes 4 new) s
    if selfDiagnosis (new - old) then releaseReins 1 s else s

/-- C003.00: REPLACE_REQ_N is driven low. -/
def replaceReq (s : State) : Bool :=
  bitsN s.mram.cause 9 0 != 0 || bitN s.mram.cause 11 || (bitN s.mram.cause 10 && s.dv 0xC010 10 == 1)

/-- R364: a device-class fault. -/
def deviceFault (code : Nat) (s : State) : State :=
  let s := logBoth (plainLog (0x1000 + code) 3) s
  let s := s.modMram (fun m => { m with devFaults := m.devFaults + 1 })
  let s := (s.bump 0xC006 0).setDv 0xC006 1 (s.mram.pseq * 2 ^ 32 + code)
  let s := postD .deviceFault 0 (leBytes 4 code ++ leBytes 4 s.mram.pseq) s
  releaseReins 1 (setCause 0x200 s)

/-- The key of a channel of Table 16-2. -/
def chanKey (cls ch : Nat) : Nat := cls * 2 ^ 24 + ch

def isRetired (s : State) (cls ch : Nat) : Bool := s.mram.retired.has (chanKey cls ch)

/-- C004: retirements in force in a class. -/
def retiredCount (s : State) (cls : Nat) : Nat := (s.mram.retired.filter (fun p => p.1 / 2 ^ 24 == cls)).length

/-- Table 16-2: the limit of a class that is a plain count; none for the others. -/
def classLimit : Nat → Option Nat
  | 3 => some 4 | 4 => some 16 | 5 => some 5 | 7 => some 2 | 8 => some 15 | _ => none

/-- R361: the class bits that the retirements in force call for. -/
def classCause (s : State) : Nat :=
  ((List.range 9).map (fun c =>
    let th := s.dv 0xC010 c
    if c = 6 then
      (if (List.range 4).any (fun q => decide (s.dv 0x7303 q ≤ th)) ∧ th ≠ 0 then 2 ^ c else 0)
    else if th ≠ 0 ∧ th ≤ retiredCount s c then 2 ^ c else 0)).sum

/-- R361: the RATE bit: the limit is below LINE_RATE_CAP through retirements (DEDUCED, assumption log 12: with every
geyser and engine in service it would not be). -/
def rateCause (s : State) : Nat :=
  if lineLimit s < s.dv 0x4003 2 ∧ s.dv 0x4003 2 ≤ limitWith s Config.geysers Config.inflateEngines then 0x800 else 0

/-- The object and bit that show a channel in service. -/
def serviceBit (cls : Nat) : Option Nat :=
  match cls with
  | 3 => some 0x3010 | 4 => some 0x2100 | 5 => some 0x2304 | 7 => some 0x9000 | _ => none

/-- R357: a retirement: the map, the count, the log and the event, then the replacement judgement. The cost of the class
is the caller's. -/
def retire (cls ch : Nat) (boot : Bool) (s : State) : State :=
  let s := s.modMram (fun m => { m with retired := m.retired.set (chanKey cls ch) true })
  let s := match serviceBit cls with | some o => s.setBit o 0 ch false | none => s
  let s := s.setDv 0xC004 cls (retiredCount s cls)
  let s := logBoth { code := 0x1002, kind := 2, refused := false, channel := cls * 256 + ch % 256, hist := 4 } s
  let s := postD .channelRetired (b2n boot) (leBytes 1 cls ++ leBytes 1 ch ++ leBytes 1 (retiredCount s cls)) s
  setCause (classCause s ||| rateCause s) s

/-- What R356 makes of a fault. -/
inductive Verdict where
  | retry | retired | refused
  deriving DecidableEq, Repr

/-- R356, Table 16-5: record a retryable fault of a channel; `full` says that its retirement would be refused. -/
def noteFault (cls ch : Nat) (full : Bool) (s : State) : State :=
  let key := chanKey cls ch
  let h := s.health.getD key Health.reset
  let hist := h.hist.filter (fun t => decide (s.now ≤ t + Config.second))
  let s := logVolatile
    { code := 0x1001, kind := 1, refused := full && decide (3 ≤ hist.length), channel := cls * 256 + ch % 256, hist := hist.length + 1 } s
  let gate := msGate h.postAt s.now
  let s := if gate then postD .channelFault 0 (leBytes 1 cls ++ leBytes 1 ch ++ leBytes 1 (hist.length + 1)) s else s
  { s with health := s.health.set key { h with hist := hist, postAt := if gate then some s.now else h.postAt } }

/-- R356, R357: a retryable fault of a channel; `full` says that one more retirement would pass the limit. -/
def channelFault (cls ch : Nat) (full : Bool) (s : State) : Verdict × State :=
  let s := noteFault cls ch full s
  let key := chanKey cls ch
  let h := s.health.getD key Health.reset
  if h.hist.length < 3 then
    (.retry, { s with health := s.health.set key { h with hist := h.hist ++ [s.now] } })
  else if full then
    let first := match h.refusedAt with | none => true | some t => decide (t + Config.second ≤ s.now)
    let s := { s with health := s.health.set key { h with
      hist := h.hist.drop 1 ++ [s.now], refusedAt := if first then some s.now else h.refusedAt } }
    (.refused, if first then deviceFault 4 s else s)
  else (.retired, retire cls ch false s)

/-- R188, R259, R360: a retired channel returns: its history and map entry are cleared. -/
def reinstateChan (cls ch : Nat) (s : State) : State :=
  let key := chanKey cls ch
  let s := { s.modMram (fun m => { m with retired := m.retired.erase key }) with health := s.health.erase key }
  let s := match serviceBit cls with | some o => s.setBit o 0 ch true | none => s
  let s := s.setDv 0xC004 cls (retiredCount s cls)
  let s := logBoth { code := 0x1006, kind := 5, refused := false, channel := cls * 256 + ch % 256, hist := 0 } s
  postD .reinstated 0 (leBytes 1 cls ++ leBytes 1 ch) s

/-- The limit test of the counted classes. -/
def atLimit (s : State) (cls : Nat) : Bool :=
  match classLimit cls with
  | some n => decide (n ≤ retiredCount s cls)
  | none => false

/-- R363: judge every cause but DEVICE and HEAD again. -/
def rejudge (s : State) : State := setCause (classCause s ||| rateCause s) s

end Sys2Proof.Machine
end

