-- ==== Sys2Proof/Machine/Screen.lean ====
section
/-!
DEFINITION. Screening and takeover as a pure function of the wagons and the generation of a page (R89 to R103, R108,
R116, R123 to R127): the logical level of a column, and the levels of every nozzle of a line.
-/
namespace Sys2Proof.Machine
open Sys2Proof

/-- Packed bits (R98, R168): values of `g` bits from bit 0, padded to whole bytes. -/
def packBits (g : Nat) (vs : List Nat) : List Byte :=
  leBytes ((g * vs.length + 7) / 8) (vs.foldr (fun v acc => v + 2 ^ g * acc) 0)

/-! ### Rows -/

/-- The key of a page's slot for a wagon. -/
def slotKey (plane span band : Nat) : Nat := (plane * 32 + span) * 65536 + band

/-- The wagon that covers line `y` of a plane and span of a page. -/
def Page.wagonAt (pg : Page) (plane span y : Nat) : Option Wagon := pg.slots.get? (slotKey plane span (y / 512))

/-- Lines of band `band` of a page of `lines` lines. -/
def bandLines (lines band : Nat) : Nat := min 512 (lines - 512 * band)

/-- Rows of a whole wagon (Table 04-1). -/
def wagonRows (fmt lines : Nat) : Nat := if fmt = 1 then (lines + 1) / 2 else lines

/-- Bytes of an inflated row (Table 04-1). -/
def rowBytes (fmt : Nat) : Nat :=
  match fmt with
  | 1 => 1024
  | 2 => 2048
  | 3 => 512
  | _ => 768

/-- Table 03-6: the inflated size of a wagon. -/
def inflatedSize (fmt lines : Nat) : Nat := rowBytes fmt * wagonRows fmt lines

/-- The first wagon line of row `r`. -/
def rowLine (fmt r : Nat) : Nat := if fmt = 1 then 2 * r else r

/-- R72: wagon line `wy` is one of the affected lines of a failure. -/
def Wagon.affected (w : Wagon) (wy : Nat) : Bool :=
  match w.failFrom with
  | some f => w.failCode != 0 && decide (f ≤ wy)
  | none => false

/-- R92, R97: every row that wagon line `wy` needs is present, or the wagon's rows have ended. -/
def Wagon.ready (w : Wagon) (wy : Nat) : Bool :=
  if w.failCode != 0 && w.failFrom.isSome then w.affected wy || decide (rowLine w.format w.released > wy)
  else
    let total := wagonRows w.format w.lines
    let need :=
      if w.format = 1 then min (total - 1) (if wy % 2 = 0 then wy / 2 else wy / 2 + 1)
      else wy
    decide (need < w.released)

/-- Byte `a` of row `b` of a wagon, indices outside read the edge (R92). -/
def Wagon.px (w : Wagon) (a b : Int) : Nat :=
  let a := if a < 0 then 0 else if 1023 < a then 1023 else a.toNat
  let n := w.rows.length
  let b := if b < 0 then 0 else if (n : Int) ≤ b then n - 1 else b.toNat
  (byteAt (w.rows.getD b []) a).toNat

/-- R92, R93: the upsampled value of span column `x` on wagon line `y`. -/
def Wagon.upsample (w : Wagon) (x y : Nat) : Nat :=
  if w.format = 1 then
    let i : Int := (x / 2 : Nat)
    let hn := if x % 2 = 0 then i - 1 else i + 1
    let j : Int := (y / 2 : Nat)
    let vn := if y % 2 = 0 then j - 1 else j + 1
    (9 * w.px i j + 3 * w.px hn j + 3 * w.px i vn + w.px hn vn + 2) / 4
  else 4 * (byteAt (w.rows.getD y []) x).toNat

/-- R91: the level of span column `x` on line `y` of a DOTS wagon. -/
def Wagon.dots (w : Wagon) (x y : Nat) : Nat :=
  let g := if w.format = 3 then 2 else 3
  let row := w.rows.getD y []
  let o := g * x / 8
  ((fieldLE row o 2) / 2 ^ (g * x % 8)) % 2 ^ g

/-! ### Tables of a generation -/

/-- What screening reads of one bar for one page: every table of the page's generation. -/
structure Tables where
  state : State
  bar : Nat
  page : Page
  plane : Nat
  deriving Repr

def Tables.get (t : Tables) (idx sub : Nat) : Option Val := (t.state.bar t.bar).forPg t.page (okey idx sub)

/-- R94. -/
def Tables.curve (t : Tables) (u : Nat) : Nat := stgEntry (t.get 0x3100 t.plane) u (defaultCurve u)

/-- R96, R111: threshold `k` (from 0) of the cell of column `c` on page line `y`. -/
def Tables.theta (t : Tables) (c y k : Nat) : Nat :=
  match t.get 0x3110 t.plane with
  | some (.wide bs) =>
    let w := fieldLE bs 0 2
    let h := fieldLE bs 2 2
    let n := (byteAt bs 4).toNat
    let x := (c + fieldLE bs 8 2) % w
    let z := (y + fieldLE bs 10 2) % h
    fieldLE bs (16 + 2 * n * (z * w + x) + 2 * k) 2
  | _ => 65536 * (k + 1) / (t.state.levels t.plane + 1) - 1

/-- R96: level(v). -/
def Tables.level (t : Tables) (c y v : Nat) : Nat :=
  ((List.range (t.state.levels t.plane)).filter (fun k => decide (t.theta c y k < v))).length

/-- The mask cell (Table 04-5). -/
def Tables.mask (t : Tables) (c y : Nat) : Nat :=
  stgEntry (t.get 0x3210 t.plane) (64 * (y % 64) + c % 64) (defaultMask (c % 64) (y % 64))

/-- R91: a DOTS level after DOTS2_MAP. -/
def Tables.dotLevel (t : Tables) (fmt v : Nat) : Nat :=
  if fmt = 3 ∧ t.state.greyBits t.plane = 3 then
    let m := stgNat (t.get 0x3002 t.plane) 0x3002 t.plane
    bitsN m (3 * v + 2) (3 * v)
  else v

/-- R127: VOL[l]. -/
def Tables.vol (t : Tables) (l : Nat) : Nat :=
  stgEntry (t.get 0x3420 t.plane) l (defaultVol (t.state.levels t.plane) l)

/-- The committed gain of a nozzle. -/
def Tables.gain (t : Tables) (p k : Nat) : Nat := stgEntry (t.get 0x3410 p) k 0x4000

/-- The committed state entry of a nozzle. -/
def Tables.entry (t : Tables) (p k : Nat) : Nat := stgEntry (t.get 0x3400 p) k 0

def Tables.inService (t : Tables) (p k : Nat) : Bool := entryInService (t.entry p k)

def Tables.share (t : Tables) : Nat := stgNat (t.get 0x3201 t.plane) 0x3201 t.plane
def Tables.otherSet (t : Tables) : Bool := bitN (stgNat (t.get 0x3421 t.plane) 0x3421 t.plane) 0
def Tables.spread (t : Tables) : Bool := bitN (stgNat (t.get 0x3421 t.plane) 0x3421 t.plane) 1

/-- The device column of a bar-relative column. -/
def Tables.dev (t : Tables) (c : Nat) : Nat := t.state.firstCol t.bar + c

/-! ### A column -/

/-- What is known of a column on a line. -/
inductive ColKind where
  | unknown
  | blank
  | contone (t : Nat)
  | dot (v : Nat)
  deriving DecidableEq, Repr

/-- R97: the content of bar-relative column `c` on page line `y`. -/
def Tables.col (t : Tables) (c y : Nat) : ColKind :=
  match t.page.wagonAt t.plane (c / 2048) y with
  | none => .blank
  | some w =>
    if w.affected (y % 512) then (if w.withheld then .unknown else .blank)
    else if isContone w.format then .contone (t.curve (w.upsample (c % 2048) (y % 512)))
    else .dot (t.dotLevel w.format (w.dots (c % 2048) (y % 512)))

/-- R97: the logical level; none when it is unknown. -/
def Tables.logical (t : Tables) (c y : Nat) : Option Nat :=
  match t.col c y with
  | .unknown => none
  | .blank => some 0
  | .contone v => some (t.level c y v)
  | .dot v => some v

/-- R95: the gained value and whether it clipped. -/
def gained (v g : Nat) : Nat × Bool :=
  let e := (v * g + 0x2000) / 2 ^ 14
  if 65535 < e then (65535, true) else (e, false)

/-! ### Assignment and takeover -/

/-- R100: the heads of a row set that serve a column, the one that the stitch rank picks first. -/
def Tables.picked (t : Tables) (rs c rank : Nat) : List Nat :=
  let x := t.dev c
  match serving t.state t.plane rs x with
  | [a, b] =>
    let z := zoneWidth t.state a b
    let k := x - headCol0 t.state b
    if rank < 256 * (k + 1) / (z + 1) then [b, a] else [a, b]
  | l => l

/-- R99: the row set of a column on a line. -/
def Tables.rowSet (t : Tables) (c y : Nat) : Nat :=
  if t.state.rowSets t.plane = 2 ∧ t.mask c y % 256 < t.share then 1 else 0

/-- Table 05-4: the candidates for a column, in order, as (port, nozzle). -/
def Tables.candidates (t : Tables) (c y : Nat) : List (Nat × Nat) :=
  let rank := t.mask c y / 256
  let rs := t.rowSet c y
  let own := t.picked rs c rank
  let other := if t.state.rowSets t.plane = 2 ∧ t.otherSet then t.picked (1 - rs) c rank else []
  (own ++ other).map (fun p => (p, t.dev c - headCol0 t.state p))

/-- R124: the nozzle that prints a column. -/
def Tables.chosen (t : Tables) (c y : Nat) : Option (Nat × Nat) :=
  (t.candidates c y).find? (fun q => t.inService q.1 q.2)

/-- A row set covers a column when an in-service nozzle of it serves the column. -/
def Tables.covers (t : Tables) (rs c : Nat) : Bool :=
  (serving t.state t.plane rs (t.dev c)).any (fun p => t.inService p (t.dev c - headCol0 t.state p))

/-- The row sets that receive dots of a column. -/
def Tables.receiving (t : Tables) : List Nat :=
  if t.state.rowSets t.plane = 2 then
    (if t.share < 256 then [0] else []) ++ (if 0 < t.share then [1] else [])
  else [0]

/-- Is a column uncovered? -/
def Tables.uncovered (t : Tables) (c : Nat) : Bool :=
  if t.otherSet then !((List.range (t.state.rowSets t.plane)).any (fun rs => t.covers rs c))
  else t.receiving.any (fun rs => !t.covers rs c)

/-- Runs of consecutive numbers of an ascending list, as (first, length). -/
def runsOf (xs : List Nat) : List (Nat × Nat) :=
  (xs.foldl (fun acc x =>
    match acc with
    | (a, n) :: t => if x = a + n then (a, n + 1) :: t else (x, 1) :: (a, n) :: t
    | [] => [(x, 1)]) []).reverse

/-- R125: the runs of uncovered columns of the bar. -/
def Tables.runs (t : Tables) : List (Nat × Nat) :=
  runsOf ((List.range (t.state.width t.bar)).filter (fun c => t.uncovered c))

/-- R125: is a run compensated? -/
def Tables.compensated (t : Tables) (r : Nat × Nat) : Bool :=
  let w := t.state.width t.bar
  t.spread && (r.2 == 1 || (r.2 == 2 && decide (0 < r.1) && decide (r.1 + 2 < w)))

/-- R128: the columns of uncompensated runs. -/
def Tables.uncompensated (t : Tables) : List Nat :=
  (t.runs.filter (fun r => !t.compensated r)).flatMap (fun r => (List.range r.2).map (fun i => r.1 + i))

/-- R125: the demand of an uncovered column. -/
def Tables.demand (t : Tables) (y c : Nat) : Nat :=
  match t.chosen c y with
  | some _ => 0
  | none => t.vol ((t.logical c y).getD 0)

/-- R126: the shares that a compensated run gives to its receivers. -/
def Tables.sharesOf (t : Tables) (y : Nat) (r : Nat × Nat) : List (Nat × Nat) :=
  let w := t.state.width t.bar
  if r.2 = 1 then
    let d := t.demand y r.1
    if r.1 = 0 then (if 1 < w then [(1, d)] else [])
    else if r.1 + 1 = w then [(r.1 - 1, d)]
    else [(r.1 - 1, d / 2), (r.1 + 1, d - d / 2)]
  else [(r.1 - 1, t.demand y r.1), (r.1 + 2, t.demand y (r.1 + 1))]

/-- R126: all shares of a line by receiver. -/
def Tables.shares (t : Tables) (y : Nat) : Map Nat :=
  ((t.runs.filter (fun r => t.compensated r)).flatMap (fun r => t.sharesOf y r)).foldl
    (fun m p => m.modify p.1 0 (fun v => v + p.2)) []

/-- The level nearest to a wanted volume, the lower on a tie (R126). -/
def Tables.nearest (t : Tables) (want : Int) : Nat :=
  ((List.range (t.state.levels t.plane + 1)).foldl (fun (best : Nat × Int) l =>
    let d := (want - (t.vol l : Int)).natAbs
    if (d : Int) < best.2 then (l, (d : Int)) else best) (0, ((want - (t.vol 0 : Int)).natAbs : Int))).1

/-- What a column of a line puts out. -/
structure ColOut where
  port : Nat
  nozzle : Nat
  level : Nat
  gainClip : Bool
  takeClip : Bool
  deriving DecidableEq, Repr

/-- The nozzle and level of a column before spreading (R95, R124). -/
def Tables.base (t : Tables) (y c : Nat) : Option ColOut :=
  let clip := match t.col c y, t.candidates c y with
    | .contone v, q :: _ => (gained v (t.gain q.1 q.2)).2
    | _, _ => false
  match t.chosen c y with
  | none => if clip then some { port := 64, nozzle := 0, level := 0, gainClip := true, takeClip := false } else none
  | some (p, k) =>
    let lev := match t.col c y with
      | .contone v => t.level c y (gained v (t.gain p k)).1
      | .dot v => v
      | _ => 0
    some { port := p, nozzle := k, level := lev, gainClip := clip, takeClip := false }

/-- R126: one receiver column: its new level and the error carried on. -/
def Tables.spreadCol (t : Tables) (share : Nat) (err : Int) (o : ColOut) (dots : Bool) : ColOut × Int :=
  let a := if dots then share else (gained share (t.gain o.port o.nozzle)).1
  let top := t.vol (t.state.levels t.plane)
  let want0 : Int := (t.vol o.level : Int) + (a : Int) + err
  let clip := decide ((top : Int) < want0)
  let want := if clip then (top : Int) else if want0 < 0 then 0 else want0
  let l := t.nearest want
  ({ o with level := l, takeClip := clip }, want - (t.vol l : Int))

/-- R99 to R103, R124 to R126: the levels of line `y`, one entry for each column of the bar. -/
def Tables.line (t : Tables) (y : Nat) : List (Option ColOut) :=
  let sh := t.shares y
  ((List.range (t.state.width t.bar)).foldl (fun (acc : List (Option ColOut) × Int) c =>
    let o := t.base y c
    match o, sh.get? c, t.col c y with
    | some o, some v, .contone _ => let r := t.spreadCol v acc.2 o false; (some r.1 :: acc.1, r.2)
    | some o, some v, .dot _ => let r := t.spreadCol v acc.2 o true; (some r.1 :: acc.1, r.2)
    | o, _, _ => (o :: acc.1, acc.2)) ([], 0)).1.reverse

/-- The level that nozzle `k` of port `p` takes from a screened line: 0 unless its column chose it (R101, R124). -/
def lineLevel (t : Tables) (ln : List (Option ColOut)) (p k : Nat) : Nat :=
  let x := headCol0 t.state p + k
  if t.state.firstCol t.bar ≤ x then
    match ln.getD (x - t.state.firstCol t.bar) none with
    | some o => if o.port = p ∧ o.nozzle = k then o.level else 0
    | none => 0
  else 0

/-! ### Tokens -/

/-- The bar-relative columns that token `k` of port `p` touches: those of its 16 nozzles that lie in the bar. -/
def tokenCols (s : State) (b p k : Nat) : List Nat :=
  ((List.range 16).map (fun i => headCol0 s p + 16 * k + i)).filter
    (fun x => decide (s.firstCol b ≤ x) && decide (x < s.firstCol b + s.width b) && headServes s p x)
  |>.map (fun x => x - s.firstCol b)

/-- The tokens of a plane that touch a bar-relative span, as (port, token). -/
def spanTokens (s : State) (b plane span : Nat) : List (Nat × Nat) :=
  let x0 := s.firstCol b + 2048 * span
  ((headPorts s).filter (fun p => headPlane s p == plane)).flatMap (fun p =>
    ((List.range (headSize s p / 16)).filter (fun k =>
      decide (headCol0 s p + 16 * k < x0 + 2048) && decide (x0 < headCol0 s p + 16 * k + 16))).map (fun k => (p, k)))

def tokenKey (p y k : Nat) : Nat := (p * 2 ^ 26 + y) * 512 + k

def lineKey (plane span y : Nat) : Nat := (plane * 32 + span) * 2 ^ 26 + y

end Sys2Proof.Machine
end

