-- ==== Sys2Proof/Machine/Pages.lean ====
section
/-!
DEFINITION. Pages of a bar: lookup, status and log (R203, R205), wagon failures (R72, R73, R400), closing (R69), quotas
and the caldera (R78, R81, R246 to R248), integrity rectangles (R206 to R208) and the audit capture (R87).
-/
namespace Sys2Proof.Machine
open Sys2Proof

/-- The page numbered `n` of a bar: the youngest of that number. -/
def State.page? (s : State) (b n : Nat) : Option Page := (s.bar b).pages.reverse.find? (fun p => p.num == n)

/-- Bytes of a page's log record (Table 08-3). -/
def logOf (pg : Page) : List Byte :=
  leBytes 4 pg.num ++ leBytes 4 pg.status ++ leBytes 8 (pg.flip.getD 0) ++ leBytes 8 pg.flipTime ++ leBytes 4 pg.lines ++
  leBytes 4 (min pg.gapBefore 0xFFFFFFFF) ++ leBytes 2 pg.integPass ++ leBytes 2 pg.integFail ++
  leBytes 1 (pg.bandFirst % 8 + 8 * (pg.bandLast % 8)) ++ leBytes 1 pg.residual ++ leBytes 2 (min pg.bandChanges 65535) ++
  leBytes 4 (pg.bandLine.getD 0xFFFFFFFF) ++ leBytes 4 pg.skipped ++ leBytes 4 pg.withheldLines ++
  leBytes 4 pg.lastLine ++ leBytes 8 pg.endTime

/-- Apply `f` to the page numbered `n` (the youngest of that number) and bring its log record up to date (R205). -/
def modLast (n : Nat) (f : Page → Page) : List Page → List Page
  | [] => []
  | p :: t => if t.any (fun q => q.num == n) then p :: modLast n f t else if p.num = n then f p :: t else p :: modLast n f t

def State.modPage (s : State) (b n : Nat) (f : Page → Page) : State :=
  match s.page? b n with
  | none => s
  | some p => s.modBar b (fun x => { x with
      pages := modLast n f x.pages
      log := if (x.pages.reverse.find? (fun q => q.num % 256 == n % 256)).any (fun q => q.num == n) then
          x.log.set (n % 256) (logOf (f p))
        else x.log })

/-- R203: set status bits of a page. -/
def State.flagPage (s : State) (b n bits : Nat) : State := s.modPage b n (fun p => { p with status := p.status ||| bits })

/-- Bits of Table 08-2. -/
def stStarted : Nat := 2 ^ 0
def stPrinted : Nat := 2 ^ 1
def stLate : Nat := 2 ^ 2
def stCut : Nat := 2 ^ 3
def stIntakeDefect : Nat := 2 ^ 4
def stScreenLate : Nat := 2 ^ 5
def stDrayLate : Nat := 2 ^ 6
def stBurstLost : Nat := 2 ^ 7
def stOverspeed : Nat := 2 ^ 8
def stEncoderError : Nat := 2 ^ 9
def stNozzleGap : Nat := 2 ^ 10
def stIntegMismatch : Nat := 2 ^ 11
def stIntegIncomplete : Nat := 2 ^ 12
def stBandChanged : Nat := 2 ^ 13
def stNotRetained : Nat := 2 ^ 14
def stReprint : Nat := 2 ^ 15
def stRegistered : Nat := 2 ^ 16
def stDelayOverlap : Nat := 2 ^ 17
def stStripBefore : Nat := 2 ^ 18
def stWebStopped : Nat := 2 ^ 19
def stReversed : Nat := 2 ^ 20
def stMarked : Nat := 2 ^ 21

/-- R191: a page is in progress from its flip line until it is printed or cut. -/
def Page.inProgress (p : Page) : Bool := p.started && !p.printed && !p.cut

/-- Pages of the bar not started, in order (cut and printed pages have started). -/
def notStarted (s : State) (b : Nat) : List Page := (s.bar b).pages.filter (fun p => !p.started && !p.cut)

/-- R194: the bar's next page: its lowest-numbered page that has not started. -/
def nextPage? (s : State) (b : Nat) : Option Page := (notStarted s b).head?

/-- 5012.00 NEXT_PAGE (DEDUCED where no head has been accepted, assumption log 13). -/
def nextPageNum (s : State) (b : Nat) : Nat :=
  match nextPage? s b with
  | some p => p.num
  | none =>
    match (s.bar b).intake.expect, (s.bar b).scan.lastStarted with
    | some e, _ => e
    | none, some l => pageSucc l
    | none, none => 0

/-- R131, R200: status bits for the bar's next page, whether or not its head has been accepted. -/
def flagNext (b bits : Nat) (s : State) : State :=
  match nextPage? s b with
  | some p => s.flagPage b p.num bits
  | none => s.modScan b (fun c => { c with nextBits := c.nextBits ||| bits })

/-- R18: the first page of the bar whose flip line has not been fixed. -/
def firstUnfixed (s : State) (b : Nat) : Nat :=
  match (notStarted s b).find? (fun p => p.flip.isNone) with
  | some p => p.num
  | none =>
    match (notStarted s b).getLast? with
    | some p => pageSucc p.num
    | none => nextPageNum s b

/-! ### Screened lines -/

/-- Is a line of a page's plane and span in the delay store (R105)? An affected line of a failed wagon is: its levels are
written as 0, or withheld (R72, R194). -/
def Page.lineDone (p : Page) (plane span y : Nat) : Bool :=
  p.screened.has (lineKey plane span y) ||
  (match p.wagonAt plane span y with
   | some w => w.affected (y % 512)
   | none => false)

/-- All lines of a plane are screened. -/
def planeDone (s : State) (b : Nat) (p : Page) (pl : Nat) : Bool :=
  (List.range (s.spanCount b)).all (fun sp => (List.range p.lines).all (fun y => p.lineDone pl sp y))

/-- R106: every line of a page is screened, or the page has been cut: its wagons are of no further use to screening. -/
def pageScreened (s : State) (b : Nat) (p : Page) : Bool := p.cut || s.planes.all (fun pl => planeDone s b p pl)

/-! ### Storage -/

/-- Stored bytes of a wagon (the caldera rule): PAYLOAD_LEN rounded up to 64 bytes, plus 64. -/
def wagonBytes (w : Wagon) : Nat := ceilDiv w.payloadLen 64 * 64 + 64

def Wagon.isStored (w : Wagon) : Bool :=
  match w.phase with
  | .stored | .inflating | .done => true
  | _ => false

/-- Does a page hold its wagons in DRAM: until it is printed, and afterwards while it is retained? -/
def Page.holds (p : Page) : Bool := !(p.printed || p.cut) || p.retained

/-- The page that answers for a storage: the first of the bar that holds it. A reprint shares its source's storage (R79), so
what they share is counted once. -/
def storeOwner (x : Bar) (p : Page) : Bool :=
  match x.pages.find? (fun q => q.holds && q.store == p.store) with
  | some q => q.num == p.num
  | none => false

/-- The bytes that a page adds to its bar's use. -/
def pageBytes (x : Bar) (p : Page) : Nat :=
  if storeOwner x p then ((p.slots.vals.filter (fun w => w.isStored)).map wagonBytes).sum + 16 * p.rects.length else 0

/-- R246: 7103.00 DRAM_USED. -/
def dramUsed (s : State) (b : Nat) : Nat :=
  let x := s.bar b
  (x.pages.map (fun p => pageBytes x p)).sum + (match x.intake.audit with | some a => a.size | none => 0)

/-- The sum of DRAM_QUOTA over all bars. -/
def quotaSum (s : State) : Nat := ((List.range 16).map (fun b => s.bo b 0x7100 0)).sum

/-- R248: 7100.01 DRAM_QUOTA_EFF in MiB. -/
def quotaEff (s : State) (b : Nat) : Nat :=
  let pool := s.dv 0x7105 0
  if s.place.shrunk ∧ pool < quotaSum s then s.bo b 0x7100 0 * pool / quotaSum s else s.bo b 0x7100 0

/-- R246: the bar is over DRAM quota. -/
def overQuota (s : State) (b : Nat) : Bool := decide (quotaEff s b * 2 ^ 20 ≤ dramUsed s b)

/-- Lines of a page that were struck. -/
def pageStruck (p : Page) : Nat := (if p.cut then p.lastLine + 1 else p.lines) - p.skipped

/-- A length of web in mm. -/
def linesMm (s : State) (n : Nat) : Nat := n * s.dv 0x4010 1 / 10 ^ 9

/-- The printed pages that the bar retains, oldest first. -/
def retainedPages (s : State) (b : Nat) : List Page := (s.bar b).pages.filter (fun p => (p.printed || p.cut) && p.retained)

/-- 2202.00 CALDERA_DEPTH in mm. -/
def calderaDepth (s : State) (b : Nat) : Nat := linesMm s ((retainedPages s b).map pageStruck).sum

/-- R78: web_after(p) in mm. -/
def webAfter (s : State) (b : Nat) (p : Page) : Nat := linesMm s ((s.bar b).scan.struck - p.webMark)

/-- Drop a printed page's copy (R78): its wagons are gone, once none of its lines waits to be screened (R106); NOT_RETAINED when it
is evicted early. -/
def evictPage (b : Nat) (p : Page) (s : State) : State :=
  let early := !p.noRetain && !bitN p.status 4 && decide (webAfter s b p < s.bo b 0x2200 0 * 1000)
  let depth := calderaDepth s b
  let web := webAfter s b p
  let s := s.modPage b p.num (fun q => { q with
    retained := false, slots := if pageScreened s b p then [] else q.slots
    tokens := if pageScreened s b p then [] else q.tokens, status := if early then q.status ||| stNotRetained else q.status })
  let s := mirror (.caldera (Fin.ofNat 16 b) (BitVec.ofNat 32 p.num) false) s
  if early then
    postB .calderaEvictEarly b p.num 0 (leBytes 4 web ++ leBytes 4 depth) (s.bumpB b 0x2203 0)
  else s

/-- The oldest of a list of pages, in the order of R393. -/
def oldestPage : List Page → Option Page
  | [] => none
  | p :: t => match oldestPage t with
    | some q => if pageAfter p.num q.num then some q else some p
    | none => some p

/-- The newest of a list of pages, in the order of R393. -/
def newestPage : List Page → Option Page
  | [] => none
  | p :: t => match newestPage t with
    | some q => if pageAfter p.num q.num then some p else some q
    | none => some p

/-- Table 11-3: eviction follows the active while the link is up. -/
def evicts (s : State) : Bool := holder s || !s.pair.linkUp

/-- R78: the page to evict: the oldest printed page that is not pinned. -/
def evictable (s : State) (b : Nat) : Option Page :=
  if evicts s then oldestPage ((retainedPages s b).filter (fun p => p.pins == 0)) else none

/-- Report a cause of INTAKE_PAUSED: 1 over quota, 2 caldera full, 3 page hold, 4 DMA blocked. -/
def postPaused (b cause : Nat) (resumed : Bool) (s : State) : State :=
  postB .intakePaused b 0 (b2n resumed) (leBytes 1 cause) s

/-- R78: evict until `need` bytes are free; CALDERA_FULL when nothing is left to evict. -/
def makeRoom (b need : Nat) : Nat → State → State
  | 0, s => s
  | fuel + 1, s =>
    if dramUsed s b + need ≤ quotaEff s b * 2 ^ 20 then
      if (s.bar b).intake.calderaFull then postPaused b 2 true (s.modIntake b (fun q => { q with calderaFull := false }))
      else s
    else
      match evictable s b with
      | some p => makeRoom b need fuel (evictPage b p s)
      | none =>
        let full := (s.bar b).intake.calderaFull
        let s := s.modIntake b (fun q => { q with calderaFull := true, calderaNeed := need })
        if full then s else postPaused b 2 false s

/-- R78: admission that waits for space is tried again. -/
def retryRoom (b : Nat) (s : State) : State :=
  if (s.bar b).intake.calderaFull then makeRoom b (s.bar b).intake.calderaNeed ((s.bar b).pages.length + 1) s else s

/-- R81, R247: over quota, evict until use falls below the quota. -/
def evictToQuota (b : Nat) : Nat → State → State
  | 0, s => s
  | fuel + 1, s =>
    if overQuota s b then
      match evictable s b with
      | some p => evictToQuota b fuel (evictPage b p s)
      | none => s
    else s

/-- R81, R247, R78: apply the quota to a bar: evict, let waiting admission go on where it may, and report a change of
OVER_QUOTA. -/
def applyQuota (b : Nat) (s : State) : State :=
  let s := retryRoom b (evictToQuota b (s.bar b).pages.length s)
  let full := overQuota s b
  if full = (s.bar b).intake.overQuota then s
  else
    let s := s.modIntake b (fun q => { q with overQuota := full })
    let s := postB .quotaOver b 0 (b2n (!full)) (leBytes 8 (dramUsed s b) ++ leBytes 4 (quotaEff s b)) s
    postPaused b 1 (!full) s

/-- R78, R73, R247: a page has become printed or cut: its copy is kept for reprint or dropped. -/
def retainPrinted (b n : Nat) (s : State) : State :=
  match s.page? b n with
  | none => s
  | some p =>
    let s := s.modPage b n (fun q => { q with webMark := (s.bar b).scan.struck })
    let s := match p.source with
      | some src => s.modPage b src (fun q => { q with pins := q.pins - 1 })
      | none => s
    let s := s.modPage b n (fun q => if pageScreened s b p then { q with tokens := [] } else q)
    if p.noRetain || bitN p.status 4 then
      applyQuota b (s.modPage b n (fun q => { q with retained := false, slots := if pageScreened s b p then [] else q.slots }))
    else
      let s := s.modPage b n (fun q => { q with retained := true })
      let s := mirror (.caldera (Fin.ofNat 16 b) (BitVec.ofNat 32 n) true) s
      applyQuota b s

/-! ### Wagons -/

/-- Wagons that a page has in all (R70). -/
def pageWagons (s : State) (b : Nat) (p : Page) : Nat := s.planes.length * s.spanCount b * ceilDiv p.lines 512

/-- Slots filled with a stored wagon or a failure. -/
def pageFilled (p : Page) : Nat := (p.slots.vals.filter (fun w => w.isStored || w.failCode != 0)).length

/-- Slots that hold a failure. -/
def pageFailed (p : Page) : Nat := (p.slots.vals.filter (fun w => w.failCode != 0)).length

/-- The open pages of a bar (R69). -/
def openPages (s : State) (b : Nat) : List Page := (s.bar b).pages.filter (fun p => p.isOpen)

/-- R69: close the page when every wagon of it is stored or failed, and post PAGE_INTAKE_DONE. -/
def closeIfDone (b n : Nat) (s : State) : State :=
  match s.page? b n with
  | none => s
  | some p =>
    if p.isOpen && decide (pageWagons s b p ≤ pageFilled p) then
      let s := s.modPage b n (fun q => { q with isOpen := false })
      postB .pageIntakeDone b n (b2n (bitN p.status 4))
        (leBytes 4 (pageFilled p - pageFailed p) ++ leBytes 4 (pageFailed p)) s
    else s

/-- R72: the failures that are unit-local (Table 03-7). -/
def unitLocal (code : Nat) : Bool := [0x10, 0x11, 0x12, 0x2B, 0x30].contains code

/-- R72, R73: the first affected wagon line of a failure, none when no line is affected. -/
def failLine (w : Wagon) (code : Nat) : Option Nat :=
  if w.encrypted || w.hasCrc || [0x20, 0x2A, 0x30].contains code then some 0
  else if code = 0x26 ∨ code = 0x29 then none
  else some (rowLine w.format w.rows.length)

/-- R72, R97: the lines of a band from `wy` on are no longer screened, and their logical levels are gone. -/
def unscreen (s : State) (b plane span : Nat) (y0 y1 : Nat) (p : Page) : Page :=
  let hit (y : Nat) := decide (y0 ≤ y) && decide (y < y1)
  let toks := spanTokens s b plane span
  { p with
    screened := p.screened.filter (fun e => !(e.1 / 2 ^ 26 == plane * 32 + span && hit (e.1 % 2 ^ 26)))
    tokens := p.tokens.filter (fun e =>
      !(hit ((e.1 / 512) % 2 ^ 26) && toks.contains (e.1 / 512 / 2 ^ 26, e.1 % 512)))
    logical := p.logical.filter (fun e =>
      !(e.1 / 65536 / 2 ^ 26 == plane && e.1 % 65536 / 2048 == span && hit (e.1 / 65536 % 2 ^ 26))) }

/-- Does a rectangle cover a line of a wagon from wagon line `wy` on? -/
def rectHits (r : Rect) (plane span band wy : Nat) : Bool :=
  r.plane == plane && decide (r.x0 < 2048 * span + 2048) && decide (2048 * span < r.x0 + r.width) &&
  decide (r.y0 < 512 * band + 512) && decide (512 * band + wy < r.y0 + r.height)

/-- R208: rectangle `k` of a page becomes incomplete. -/
def rectIncomplete (b n k : Nat) (s : State) : State :=
  match s.page? b n with
  | none => s
  | some p =>
    match p.rects[k]? with
    | none => s
    | some r =>
      if r.incomplete || r.crc.isSome then s
      else
        let s := s.modPage b n (fun q => { q with
          rects := q.rects.set k { r with incomplete := true }
          status := q.status ||| stIntegIncomplete, integFail := q.integFail ||| 2 ^ k })
        postB .integFail b n 1 (leBytes 1 k ++ leBytes 1 r.plane ++ leBytes 4 0 ++ leBytes 4 r.expect) (s.bumpB b 0x5102 2)

/-- R208: the rectangles that cover lines now unknown. -/
def rectsUnknown (b n plane span band wy : Nat) (s : State) : State :=
  match s.page? b n with
  | none => s
  | some p => forAll (List.range p.rects.length) (fun k s =>
      match p.rects[k]? with
      | some r => if rectHits r plane span band wy then rectIncomplete b n k s else s
      | none => s) s

/-- 2008.00 LAST_FAIL. -/
def lastFail (page band span plane code : Nat) : Nat :=
  page * 2 ^ 32 + band * 65536 + span * 2048 + plane * 256 + code

/-- R247: what the retained pages hold is measured again when a wagon that was stored is lost. -/
def quotaAfterLoss (b : Nat) (stored : Bool) (s : State) : State :=
  if stored then applyQuota b s else s

/-- Post a bar event that names a span: bar-relative in the bar's record, in device numbering in the device's (R65). -/
def postSpan (ev : Ev) (b page flags : Nat) (d : Nat → List Byte) (span : Nat) (s : State) : State :=
  post { ev := ev, bar := some b, page := page, idx := 0, sub := 0, flags := flags, data := d span
         devData := d (s.firstSpan b + span) } s

/-- R72, R73, R400: a slot of a page becomes failed with `code`. `w` is what the slot holds or would hold. -/
def wagonFail (b n : Nat) (w : Wagon) (code : Nat) (s : State) : State :=
  let withheld := unitLocal code && !alone s
  let from_ := failLine w code
  let key := slotKey w.plane w.span w.band
  let w' := { w with phase := .failed, failCode := code, failFrom := from_, withheld := withheld, payload := [] }
  let s := s.modPage b n (fun p => unscreen s b w.plane w.span (512 * w.band + from_.getD 512) (512 * w.band + 512)
    { p with slots := p.slots.set key w', status := p.status ||| stIntakeDefect })
  let s := s.bumpB b 0x2007 1
  let s := if code = 0x30 then s.bumpB b 0x2007 2 else s
  let s := s.setBo b 0x2008 0 (lastFail n w.band w.span w.plane code)
  let first := match from_ with | some f => 512 * w.band + f | none => 0xFFFFFFFF
  let d (span : Nat) := leBytes 2 w.band ++ leBytes 1 span ++ leBytes 1 w.plane ++ leBytes 1 code ++ leBytes 1 w.attempts ++
    leBytes 2 0 ++ leBytes 4 first
  let s := postSpan .wagonFail b n (b2n withheld) d w.span s
  let s := if withheld then rectsUnknown b n w.plane w.span w.band (from_.getD 512) s else s
  closeIfDone b n (quotaAfterLoss b w.isStored s)

/-- A slot that nothing has reached, as a failure fills it. -/
def emptyWagon (plane span band lines fmt : Nat) : Wagon :=
  { plane := plane, span := span, band := band, lines := lines, format := fmt, encrypted := false, hasCrc := false,
    payloadLen := 0, inflatedCrc := 0, iv := [], affinity := 0, cookie := 0,
    aad := [], key := none, phase := .fetching, payload := [], rows := [], released := 0, attempts := 0, tried := [],
    failCode := 0, failFrom := none, withheld := false }

/-! ### Integrity and audit -/

/-- R194, R402: the first min(64, LINES) lines of every plane in use and span are screened. -/
def firstLinesDone (s : State) (b : Nat) (p : Page) : Bool :=
  s.planes.all (fun pl => (List.range (s.spanCount b)).all (fun sp =>
    (List.range (min 64 p.lines)).all (fun y => p.lineDone pl sp y)))

/-- The stored logical level of a column (level 0 is not listed). -/
def Page.logicalAt (p : Page) (plane y c : Nat) : Nat := p.logical.getD ((plane * 2 ^ 26 + y) * 65536 + c) 0

/-- R206: the CRC of a rectangle over the logical dot plane. -/
def rectCrc (s : State) (p : Page) (r : Rect) : Nat :=
  (List.range r.height).foldl (fun crc dy =>
    crc32cReg crc (packBits (s.greyBits r.plane)
      ((List.range r.width).map (fun dx => p.logicalAt r.plane (r.y0 + dy) (r.x0 + dx))))) 0xFFFFFFFF ^^^ 0xFFFFFFFF

/-- R207: every line of the rectangle is screened. -/
def rectScreened (p : Page) (r : Rect) : Bool :=
  (List.range r.height).all (fun dy =>
    (List.range ((r.x0 + r.width - 1) / 2048 + 1 - r.x0 / 2048)).all (fun k =>
      p.lineDone r.plane (r.x0 / 2048 + k) (r.y0 + dy)))

/-- 5100, 5101: every final CRC of the page, as one update. -/
def writeInteg (b n : Nat) (s : State) : State :=
  match s.page? b n with
  | none => s
  | some p => forAll (List.range 16) (fun k s =>
      s.setBo b 0x5100 k (((p.rects[k]?).bind (fun r => r.crc)).getD 0)) (s.setBo b 0x5101 0 n)

/-- R207: rectangle `k` becomes final. -/
def rectFinal (b n k : Nat) (s : State) : State :=
  match s.page? b n with
  | none => s
  | some p =>
    match p.rects[k]? with
    | none => s
    | some r =>
      let crc := rectCrc s p r
      let pass := crc == r.expect
      let s := s.modPage b n (fun q => { q with
        rects := q.rects.set k { r with crc := some crc }
        integPass := if pass then q.integPass ||| 2 ^ k else q.integPass
        integFail := if pass then q.integFail else q.integFail ||| 2 ^ k
        status := if pass then q.status else q.status ||| stIntegMismatch })
      let s := writeInteg b n s
      if pass then s.bumpB b 0x5102 0
      else postB .integFail b n 0 (leBytes 1 k ++ leBytes 1 r.plane ++ leBytes 4 crc ++ leBytes 4 r.expect)
        (s.bumpB b 0x5102 1)

/-- R207: make final every rectangle of a started page whose lines are all screened. -/
def integCheck (b n : Nat) (s : State) : State :=
  match s.page? b n with
  | none => s
  | some p =>
    if p.started then
      forAll (List.range p.rects.length) (fun k s =>
        match (s.page? b n).bind (fun q => q.rects[k]?) with
        | some r => if r.crc.isNone && !r.incomplete && rectScreened p r then rectFinal b n k s else s
        | none => s) s
    else s

/-- R208: the page is cut: every rectangle not final is incomplete. -/
def integCut (b n : Nat) (s : State) : State :=
  match s.page? b n with
  | none => s
  | some p => forAll (List.range p.rects.length) (fun k s => rectIncomplete b n k s) s

/-- Does a plane of a page hold lines whose logical levels are unknown (R97)? -/
def planeUnknown (p : Page) (pl : Nat) : Bool := p.slots.vals.any (fun w => w.plane == pl && w.failCode != 0 && w.withheld)

/-- R87: the capture: the plane's lines, each packed at the plane's grey width. -/
def auditBytes (s : State) (b : Nat) (p : Page) (plane : Nat) : List Byte :=
  (List.range p.lines).flatMap (fun y =>
    packBits (s.greyBits plane) ((List.range (s.width b)).map (fun c => p.logicalAt plane y c)))

/-- R87: post AUDIT_READY once the captured page has been screened. -/
def auditCheck (b : Nat) (s : State) : State :=
  match (s.bar b).intake.audit with
  | none => s
  | some a =>
    match s.page? b a.page with
    | none => s
    | some p =>
      if !a.ready && planeDone s b p a.plane then
        let s := s.modIntake b (fun q => { q with audit := some { a with ready := true, data := auditBytes s b p a.plane } })
        postB .auditReady b a.page (b2n (planeUnknown p a.plane)) (leBytes 1 a.plane ++ leBytes 3 0 ++ leBytes 8 a.size) s
      else s

end Sys2Proof.Machine
end

