-- ==== Sys2Proof/Machine/Qhl.lean ====
section
/-!
DEFINITION. Frames of the head link (07_head_link.md): how a frame is formed and when one is valid (R166), the burst frame
(Table 07-2, R168), the management frame (Table 07-1, R172), and IDLE.
-/
namespace Sys2Proof.Machine
open Sys2Proof

/-- R166: the CRC-32C over D1 to D7 of the start block and every data block. -/
def qhlSum (f : QhlFrame) : Nat := crc32c (f.start.drop 1 ++ f.data)

/-- R166: a frame of a start block and its data. -/
def qhlFrame (start data : List Byte) : QhlFrame :=
  { clean := true, start := start, data := data, crc := leBytes 4 (crc32c (start.drop 1 ++ data)) ++ List.replicate 4 0,
    eof := 0x87 :: byteAt start 0 :: List.replicate 6 0 }

/-- The frame of these ends around these data. -/
def framed (e : QhlEnds) (data : List Byte) : QhlFrame :=
  { clean := e.clean, start := e.start, data := data, crc := e.crc, eof := e.eof }

/-- Table 07-7: the data of an ACT_RESULT. -/
def actData (first count : BitVec 16) (checkId : BitVec 32) (bits : List Byte) : List Byte :=
  leBytes 2 first.toNat ++ leBytes 2 count.toNat ++ leBytes 4 checkId.toNat ++ bits

/-- Table 07-1, R172: a management response, its TAG and STATUS in D2 and D3 of the start block. -/
def mgmtAnswer (e : QhlEnds) (tag status : Byte) (words : List (BitVec 64)) : QhlFrame :=
  framed { e with start := [byteAt e.start 0, byteAt e.start 1, tag, status] ++ e.start.drop 4 }
    (words.flatMap (fun w => leBytes 8 w.toNat))

/-- The data blocks that the start block of an upstream frame promises: NBLK of a SOT, COUNT of the answer to a READ, and none
of any other answer (Table 07-1, Table 07-3). -/
def qhlPromised (f : QhlFrame) : Nat :=
  if byteAt f.start 0 = 0x55 then fieldLE f.start 3 2
  else if byteAt f.start 1 = 0x82 then fieldLE f.start 6 2
  else 0

/-- R166: the CRC matches. -/
def qhlCrc (f : QhlFrame) : Bool := fieldLE f.crc 0 4 == qhlSum f

/-- R166: a frame is valid. -/
def qhlValid (f : QhlFrame) : Bool :=
  f.clean && f.data.length == 8 * qhlPromised f && qhlCrc f && byteAt f.eof 0 == 0x87 && byteAt f.eof 1 == byteAt f.start 0

/-- One more frame on the lane of port `p`. -/
def countFrame (p : Nat) (s : State) : State := s.modPort p (fun x => { x with seq := (x.seq + 1) % 256 })

/-- NBLK of a head (R168). -/
def burstBlocks (s : State) (p : Nat) : Nat := headSize s p * s.greyBits (headPlane s p) / 128

/-- Table 07-2: the SOB of burst A (0) or B (1). -/
def burstStart (s : State) (p half : Nat) : List Byte :=
  [0x33] ++ leBytes 1 (half + 2 * b2n s.pins.pairId) ++ leBytes 1 p ++ leBytes 2 (burstBlocks s p) ++
  leBytes 1 (bitsN (s.dv 0x4210 p) 1 0 + 4 * b2n (s.greyBits (headPlane s p) == 3)) ++ [0, 0]

/-- Table 07-2, R168: the burst frame of a line, `band` the bar's current band. -/
def burstFrame (s : State) (p line half band : Nat) (levels : List Nat) : QhlFrame :=
  qhlFrame (burstStart s p half)
    (leBytes 6 line ++ leBytes 1 band ++ leBytes 1 (s.port p).seq ++ packBits (s.greyBits (headPlane s p)) levels)

/-- Table 07-1, R172: the SOM of a request, with the REINS flag. -/
def mgmtStart (s : State) (r : MgmtReq) : List Byte :=
  [0x78] ++ leBytes 1 r.op ++ leBytes 1 r.tag ++ leBytes 1 (b2n (holder s)) ++ leBytes 2 r.addr ++ leBytes 2 r.count

/-- Table 07-3: the frame of a request. -/
def mgmtFrame (s : State) (r : MgmtReq) : QhlFrame :=
  qhlFrame (mgmtStart s r) (if r.op = 2 then [] else r.words.flatMap (fun w => leBytes 8 w.toNat))

/-- Table 07-1, R272: IDLE blocks on the lane of port `p`. -/
def sendIdle (p : Nat) (s : State) : State := s.emit (.laneIdle p (s.port p).upLock (holder s) s.pins.pairId)

end Sys2Proof.Machine
end

