-- ==== Sys2Proof/Machine/Mgmt.lean ====
section
/-!
DEFINITION. Head geometry and delays (R146 to R149, R151), which bar governs a head (R141), management requests to a
head (R172), shadow writes and ACTIVATE (R174, R175), and lane states (Table 07-9).
-/
namespace Sys2Proof.Machine
open Sys2Proof

/-! ### Geometry and delays -/

/-- 4210 ROWS: physical rows of the head on port `p`. -/
def headRows (s : State) (p : Nat) : Nat := 2 ^ (bitsN (s.dv 0x4210 p) 1 0 + 1)

/-- 4210 FINE_MAX. -/
def fineMax (s : State) (p : Nat) : Nat := bitsN (s.dv 0x4210 p) 15 8

/-- 4212.00 LEAD_LINES. -/
def leadLines (s : State) : Nat := s.dv 0x4212 0

/-- C of a head for a page (R147). -/
def coarse (s : State) (b : Nat) (pg : Page) (p : Nat) : Nat := s.pgN b pg 0x4200 p

/-- F_r of a row of a head for a page (R148). -/
def fine (s : State) (b : Nat) (pg : Page) (p r : Nat) : Nat := bitsN (s.pgN b pg 0x4201 p) (8 * r + 7) (8 * r)

/-- The rows of a head. -/
def rowList (s : State) (p : Nat) : List Nat := List.range (headRows s p)

/-- The greatest delay of a page's rows over every head that serves the bar. -/
def depthOf (s : State) (b : Nat) (pg : Page) : Nat :=
  ((instPorts s b).flatMap (fun p => (rowList s p).map (fun r => coarse s b pg p + fine s b pg p r))).foldl max 0

/-- R19, R147: C + F_r of a row for the lines of a strip. -/
def stripDelay (s : State) (b : Nat) (x : Strip) (p r : Nat) : Nat :=
  s.stripN b x 0x4200 p + bitsN (s.stripN b x 0x4201 p) (8 * r + 7) (8 * r)

/-- The last line at which a row of the strip falls to a strike. -/
def stripLast (s : State) (b : Nat) (x : Strip) : Nat :=
  x.first + x.length - 1 +
    ((instPorts s b).flatMap (fun p => (rowList s p).map (stripDelay s b x p))).foldl max 0

/-- R20: the bar is idle: no line of a started page and no strip line is in screening, in the store or on a lane. -/
def idleBar (s : State) (b : Nat) : Bool :=
  !(s.bar b).pages.any (fun p => p.inProgress) &&
  (s.bar b).scan.strips.all (fun x => x.abandoned || decide (stripLast s b x ≤ s.trig.line))

/-- R141: the bar that governs a head: the lowest-numbered bar that it serves. -/
def governor (s : State) (p : Nat) : Option Nat := s.barsWithCols.find? (fun b => decide (0 < headInBar s b p))

/-- The bars that a head serves. -/
def servedBars (s : State) (p : Nat) : List Nat := s.barsWithCols.filter (fun b => decide (0 < headInBar s b p))

/-- First and last nozzle of a head that serve the bar. -/
def nozzleRange (s : State) (b p : Nat) : Nat × Nat :=
  let lo := max (headCol0 s p) (s.firstCol b) - headCol0 s p
  (lo, lo + headInBar s b p - 1)

/-! ### Requests -/

/-- Requests of a lane that may be in flight at once: the head keeps the last 4 TAGs (R172). -/
def mgmtWindow : Nat := 4

/-- Transmit a request (again). -/
def sendReq (p : Nat) (r : MgmtReq) (s : State) : State := countFrame p (s.emit (.mgmt p (mgmtFrame s r)))

/-- R172: a unit without the reins sends no WRITE and no ACTIVATE. -/
def mayRequest (s : State) (r : MgmtReq) : Bool := r.op == 2 || holder s

/-- Lanes on which management frames travel (Table 07-9). -/
def LaneState.manages : LaneState → Bool
  | .ident | .run => true
  | _ => false

/-- Send every request of the lane's window that has not been sent. -/
def pumpReqs (p : Nat) (s : State) : State :=
  let x := s.port p
  if x.st.manages then
    let s := forAll ((x.reqs.take mgmtWindow).filter (fun r => r.tries == 0 && mayRequest s r)) (sendReq p) s
    s.modPort p (fun x => { x with reqs := (x.reqs.take mgmtWindow).map (fun r =>
      if r.tries = 0 ∧ mayRequest s r = true then { r with tries := 1, sentAt := s.now } else r) ++ x.reqs.drop mgmtWindow })
  else s

/-- Queue a request. -/
def addReq (p op addr count : Nat) (words : List (BitVec 64)) (forPage : Option (Nat × Nat)) (deadline : Option Nat)
    (s : State) : State :=
  s.modPort p (fun x => { x with
    nextTag := (x.nextTag + 1) % 256
    reqs := x.reqs ++ [{ tag := x.nextTag, op := op, addr := addr, count := count, words := words, sentAt := 0,
                         tries := 0, forPage := forPage, deadline := deadline }] })

/-- WRITE of consecutive words, at most 64 a request (Table 07-3). -/
def writeWords (p addr : Nat) (forPage : Option (Nat × Nat)) : Nat → List (BitVec 64) → State → State
  | 0, _, s => s
  | fuel + 1, ws, s =>
    if ws.isEmpty then s
    else writeWords p (addr + 64) forPage fuel (ws.drop 64)
      (addReq p 1 addr (ws.take 64).length (ws.take 64) forPage none s)

/-- Bytes as words of 8, the last padded with zeros (Table 07-4). -/
def toWords (bs : List Byte) : List (BitVec 64) :=
  (List.range (ceilDiv bs.length 8)).map (fun i => BitVec.ofNat 64 (fieldLE bs (8 * i) 8))

/-- φ of nozzle `k` in the copies that `copy` gives (Table 07-4). -/
def phaseByte (s : State) (copy : Nat → Nat → Option Val) (p k : Nat) : Byte :=
  match nozzleBar s p k with
  | none => 0
  | some b => match copy b (okey 0x4202 p) with
    | some (.wide bs) => byteAt bs k
    | _ => 0

/-- The live copies. -/
def liveCopy (s : State) (b key : Nat) : Option Val := (s.bar b).live.get? key

/-- Bar `b`'s coming copies, every other bar's live ones. -/
def nextCopy (s : State) (b : Nat) (x key : Nat) : Option Val :=
  if x = b then (s.bar b).upcoming key else liveCopy s x key

/-- R174: write the phase shadow of a head for nozzles `lo` to `hi`. -/
def writePhase (p lo hi : Nat) (copy : Nat → Nat → Option Val) (forPage : Option (Nat × Nat)) (s : State) : State :=
  let w0 := lo / 8
  let n := hi / 8 + 1 - w0
  let bs := (List.range (8 * n)).map (fun i => if 8 * w0 + i < headSize s p then phaseByte s copy p (8 * w0 + i) else 0)
  writeWords p (0x1000 + w0) forPage 16 (toWords bs) s

/-- R174: write the whole waveform shadow of a head: words beyond WAVE_PARAM are zero. -/
def writeWave (p : Nat) (v : Option Val) (forPage : Option (Nat × Nat)) (s : State) : State :=
  let bs := match v with | some (.wide bs) => bs | _ => []
  writeWords p 0x100 forPage 8 ((toWords bs ++ List.replicate 512 0).take 512) s

/-- Table 07-4a: the words of an ACTIVATE. -/
def activateWords (base : Nat) (phase wave : Bool) (off : Nat → Nat) (lo hi : Nat) : List (BitVec 64) :=
  [BitVec.ofNat 64 (base % 2 ^ 48 + 2 ^ 48 * b2n phase + 2 ^ 49 * b2n wave),
   BitVec.ofNat 64 (((List.range 8).map (fun r => off r % 256 * 2 ^ (8 * r))).sum),
   BitVec.ofNat 64 (lo + 65536 * hi)]

/-- R174: the shadow writes that a sealed generation of bar `b` with effective page `e` asks of port `p`. -/
def shadowPort (b e : Nat) (keys : List Nat) (p : Nat) (s : State) : State :=
  let s := if keys.contains (okey 0x4202 p) then
      let r := nozzleRange s b p
      writePhase p r.1 r.2 (nextCopy s b) (some (b, e)) s
    else s
  if keys.contains (okey 0x4830 p) && governor s p == some b then
    writeWave p ((s.bar b).upcoming (okey 0x4830 p)) (some (b, e)) s
  else s

/-- Has the lane of port `p` a WRITE outstanding for page `e` of bar `b`? -/
def writesOpen (s : State) (b e p : Nat) : Bool := (s.port p).reqs.any (fun r => r.op == 1 && r.forPage == some (b, e))

/-- The ports whose head tables the pending generation changes. -/
def shadowPorts (s : State) (b : Nat) (keys : List Nat) : List Nat :=
  (instPorts s b).filter (fun p =>
    keys.contains (okey 0x4202 p) || (keys.contains (okey 0x4830 p) && governor s p == some b))

def State.modGen (s : State) (b : Nat) (f : PendGen → PendGen) : State :=
  s.modBar b (fun x => { x with gen := x.gen.map f })

def State.modHeads (s : State) (b : Nat) (f : PendGen → PendGen) : State :=
  s.modBar b (fun x => { x with heads := x.heads.map f })

/-- R174: change what a bar's head writes await, in the pending generation and in the one that took effect while the bar was
idle. -/
def State.modWaits (s : State) (b : Nat) (f : PendGen → PendGen) : State := (s.modGen b f).modHeads b f

/-- R174: no write of the head on `p` is awaited any more. -/
def PendGen.acked (p : Nat) (g : PendGen) : PendGen := { g with headWait := g.headWait.filter (fun q => q != p) }

/-- R20: the head tables of an idle generation whose page has not started join the bar's pending generation. -/
def joinHeads (b : Nat) (s : State) : State :=
  match (s.bar b).heads with
  | none => s
  | some h => (s.modGen b (fun g => { g with
      headKeys := g.headKeys ++ h.headKeys.filter (fun k => !g.headKeys.contains k) })).modBar b (fun x => { x with heads := none })

/-- R174: the reins holder writes the shadows of the bar's pending generation on every lane that manages its head. A lane
that does not has nothing to write now: its tables are written when it enters RUN (DESIGN CHOICE, assumption log 16). -/
def shadowWrites (b : Nat) (s : State) : State :=
  match (s.bar b).gen with
  | none => s
  | some g =>
    let ports := shadowPorts s b g.headKeys
    if holder s then
      let live := ports.filter (fun p => (s.port p).st == .run)
      let s := forAll live (fun p s => pumpReqs p (shadowPort b g.page g.headKeys p s)) s
      s.modGen b (fun g => { g with headWait := live.filter (fun p => writesOpen s b g.page p) })
    else if pairMode s then s.modGen b (fun g => { g with headWait := ports })
    else s

/-- R174, R20: the shadow writes of a generation just sealed. A shadow holds one set of tables: while the heads have still to
switch to those of an idle generation, the writes of a generation for a later page wait until that page has started. -/
def sealWrites (b : Nat) (s : State) : State :=
  let s := if ((s.bar b).gen.map (fun g => g.idle)).getD false then joinHeads b s else s
  if (s.bar b).heads.isSome then s else shadowWrites b s

/-- R174, R20: the head tables that the heads switch to at page `n`. -/
def headKeysAt (s : State) (b n : Nat) : List Nat :=
  let hs := ((s.bar b).heads.map (fun g => g.headKeys)).getD []
  let gs := match (s.bar b).gen with
    | some g => if pageGe n g.page then g.headKeys else []
    | none => []
  hs ++ gs.filter (fun k => !hs.contains k)

/-- R174: the ACTIVATE for page `pg` of bar `b` whose flip line is `flip`, under the generation that governs it. -/
def activatePort (b : Nat) (pg : Page) (flip : Nat) (keys : List Nat) (p : Nat) (s : State) : State :=
  let r := nozzleRange s b p
  let base := flip + coarse s b pg p
  let offs := (rowList s p).map (fine s b pg p)
  let words := activateWords base (keys.contains (okey 0x4202 p)) (keys.contains (okey 0x4830 p) && governor s p == some b)
    (fun i => offs.getD i 0) r.1 r.2
  pumpReqs p (addReq p 3 0 3 words (some (b, pg.num)) (some (base + offs.foldl min (offs.headD 0))) s)

/-- R174: the ACTIVATEs of the given head tables for a page whose flip line is fixed. -/
def activateKeys (b : Nat) (pg : Page) (flip : Nat) (keys : List Nat) (s : State) : State :=
  if holder s then
    forAll ((shadowPorts s b keys).filter (fun p => (s.port p).st == .run)) (activatePort b pg flip keys) s
  else s

/-- R174: once the flip line of a page is fixed, the ACTIVATEs of the head tables that change with it go out. -/
def activates (b : Nat) (pg : Page) (flip : Nat) (s : State) : State :=
  let keys := headKeysAt s b pg.num
  activateKeys b pg flip keys (s.modPage b pg.num (fun q => { q with actKeys := keys }))

/-! ### Lane states -/

/-- Table 07-9. -/
def LaneState.code : LaneState → Nat
  | .off => 0 | .detect => 1 | .train => 2 | .ident => 3 | .run => 4 | .relock => 5 | .deep => 6 | .wake => 7
  | .mismatch => 8 | .retired => 9

/-- A lane that is not RUN holds no frames to send: what was launched and not struck is lost. -/
def Port.quiet (x : Port) : Port := { x with launched := [] }

/-- Enter a lane state and post LANE_STATE_CHANGE. -/
def setLane (p : Nat) (st : LaneState) (s : State) : State :=
  let old := (s.port p).st
  if old = st then s
  else
    let s := s.modPort p (fun x => { (if st = .run then x else x.quiet) with st := st, since := s.now, lockAt := none })
    let s := if st = .detect ∨ st = .train then s.trimBegin (0x40 + p) else s
    postD .laneStateChange 0 (leBytes 1 p ++ leBytes 1 old.code ++ leBytes 1 st.code) s

/-- The equalisation table in force. -/
def eqTable (s : State) : List Byte := (s.dwide 0x4810 0).getD eqDefault

/-- Table 07-10a: the class of a port. -/
def eqClass (s : State) (p : Nat) : Nat := (byteAt (eqTable s) (16 + p)).toNat % 8

/-- Rows of the class of a port. -/
def eqRows (s : State) (p : Nat) : Nat := (byteAt (eqTable s) (4 + eqClass s p)).toNat

/-- Table 07-10a: row `row` of the class of a port. -/
def eqRow (s : State) (p row : Nat) : List Byte := ((eqTable s).drop (80 + 8 * (16 * eqClass s p + row))).take 8

/-- R183: the device applies a row's transmit settings; the upstream receiver starts from its RX_CTLE and RX_DFE. -/
def applyRow (p row : Nat) (s : State) : State :=
  let bs := eqRow s p row
  (s.modPort p (fun x => { x with rxCtle := (byteAt bs 5).toNat, rxDfe := bitN (byteAt bs 6).toNat 0 })).emit
    (.txSettings p (bs.take 5))

/-- R183: begin the trial of a row of the port's class: its settings, and ROW_START 1 µs later. -/
def startRow (p row : Nat) (s : State) : State :=
  ((applyRow p row s).modPort p (fun x => { x with row := row, rowAt := s.now + Config.micro })).emit (.train p 1 row)

/-- Enter TRAIN. -/
def enterTrain (p : Nat) (s : State) : State :=
  startRow p 0 ((setLane p .train s).modPort p (fun x => { x with best := none, reqs := [] }))

/-- Enter DETECT: nothing has been seen of the head since. -/
def enterDetect (p : Nat) (s : State) : State :=
  (setLane p .detect s).modPort p (fun x => { x with
    present := false, upLock := false, upLos := false, dnLock := false, reqs := [], struck := [], telemAt := none })

/-- Table 07-9: in IDENT the device reads ID, CAPS and LINK. -/
def enterIdent (p : Nat) (s : State) : State :=
  let s := (setLane p .ident s).modPort p (fun x => { x with reqs := [], identWords := [], mismatch := 0 })
  pumpReqs p (addReq p 2 0 3 [] none none s)

/-- R174: what the pending generation of bar `b` asks of a head that has just entered RUN: its shadows, and the ACTIVATE of a
page whose flip line is fixed. The tables of an idle generation are live, so `runWrites` has written them. -/
def runBar (p b : Nat) (s : State) : State :=
  match (s.bar b).gen, (s.bar b).heads with
  | some g, none =>
    let s := shadowPort b g.page g.headKeys p s
    let s := if writesOpen s b g.page p then
        s.modGen b (fun g => { g with headWait := if g.headWait.contains p then g.headWait else g.headWait ++ [p] })
      else s
    if (shadowPorts s b g.headKeys).contains p then
      forAll ((notStarted s b).filter (fun pg => pg.flip.isSome && pageGe pg.num g.page)) (fun pg s =>
        activatePort b pg (pg.flip.getD 0) g.headKeys p s) s
    else s
  | _, _ => s

/-- R175: on entry to RUN the holder writes TELEM_PERIOD and the live tables, and activates them at once; then what every
pending generation asks follows (R174). -/
def runWrites (p : Nat) (s : State) : State :=
  if holder s then
    let n := headSize s p
    let s := addReq p 1 3 1 [BitVec.ofNat 64 (s.dv 0x4911 0)] none none s
    let s := if n = 0 then s else writePhase p 0 (n - 1) (liveCopy s) none s
    let s := writeWave p ((governor s p).bind (fun b => liveCopy s b (okey 0x4830 p))) none s
    let s := addReq p 3 0 3 (activateWords 0 true true (fun _ => 0) 0 (n - 1)) none none s
    pumpReqs p (forAll (servedBars s p) (runBar p) s)
  else s

/-- R141, R171: the band-select block of a decided change of the bar that governs port `p`. -/
def bandSelect (b : Nat) (c : BandChange) (p : Nat) (s : State) : State :=
  s.emit (.bandSelect p (s.pageN b c.page 0x4101 c.band) (s.pageN b c.page 0x4102 c.band) c.line)

/-- R171: a head that enters RUN before the strike of a decided line of change gets its band-select block. -/
def runBands (p : Nat) (s : State) : State :=
  match governor s p with
  | some b => forAll ((s.bar b).scan.bandChange.filter (fun c => decide (s.trig.line < c.line))) (fun c s => bandSelect b c p s) s
  | none => s

/-- Enter RUN. STATUS is awaited from this instant (R186). -/
def enterRun (p : Nat) (s : State) : State :=
  runBands p (pumpReqs p (runWrites p ((setLane p .run s).modPort p (fun x => { x with telemAt := some s.now, deepHead := false }))))

end Sys2Proof.Machine
end

