-- ==== Sys2Proof/Machine/Commit.lean ====
section
/-!
DEFINITION. Staged commit (R15 to R22, R43): open copies, seals, the GAP decision (R125), re-screening (R107), the
digest (R274), taking effect (R18, R128), commit requests (R17, R122), and nozzle transitions (Table 05-3, R117 to R119).
-/
namespace Sys2Proof.Machine
open Sys2Proof

/-! ### Classes (R19) -/

/-- Screening-class objects. -/
def isScreening (key : Nat) : Bool :=
  [0x3002, 0x3100, 0x3110, 0x3201, 0x3210, 0x3400, 0x3410, 0x3420, 0x3421].contains (key / 256)

/-- Speed-band objects (R145). -/
def isBand (key : Nat) : Bool := [0x4100, 0x4101, 0x4102].contains (key / 256)

/-- Head tables (R174). -/
def isHeadTable (key : Nat) : Bool := [0x4202, 0x4830].contains (key / 256)

/-- The rows of the object table with access STG, ascending. -/
def stgRows : List Row :=
  ([0x30, 0x31, 0x32, 0x34, 0x41, 0x42, 0x48, 0x50, 0x62].flatMap rowsOf).filter (fun r => r.acc == .stg)

/-- The device subindices of a row that exist in the view of bar `b` (R116). -/
def rowSubs (s : State) (b : Nat) (r : Row) : List Nat :=
  if r.inst then instPorts s b else (List.range (r.hi + 1 - r.lo)).map (fun i => r.lo + i)

/-! ### Open copies -/

/-- Write a value into the open copy of an object. -/
def openSet (b key : Nat) (v : Val) (s : State) : State := s.modBar b (fun x => { x with opn := x.opn.set key v })

/-- A host's write of a staged object (R15, R122). -/
def openHostSet (b key : Nat) (v : Val) (s : State) : State :=
  (openSet b key v s).modBar b (fun x => { x with openHost := true })

/-- Entry `k` of a 2-byte table. -/
def entryAt (bs : List Byte) (k : Nat) : Nat := fieldLE bs (2 * k) 2

/-- The nozzles of port `p` that are the bar's own (R116). -/
def ownNozzles (s : State) (b p : Nat) : List Nat :=
  let r := nozzleRange s b p
  (List.range (headInBar s b p)).map (fun i => r.1 + i)

/-- Table 11-3: the active mirrors each nozzle that it changes. -/
def mirrorNozzles (b p : Nat) (ks : List Nat) (s : State) : State :=
  let st := s.curW b 0x3400 p
  let gn := s.curW b 0x3410 p
  forAll ks (fun k s => mirror (.nozzle (Fin.ofNat 16 b) (Fin.ofNat 64 p) k (BitVec.ofNat 16 (entryAt st k))
    (BitVec.ofNat 16 (entryAt gn k))) s) s

/-- R22: a device update of a port's state entries in the open copy: `f` gives the new entry of each of the bar's own
nozzles. Nothing is written when no entry changes. -/
def editEntries (b p : Nat) (f : Nat → Nat → Nat) (s : State) : State :=
  let bs := s.curW b 0x3400 p
  let changed := (ownNozzles s b p).filter (fun k => f k (entryAt bs k) != entryAt bs k)
  if changed.isEmpty then s
  else
    let bs' := changed.foldl (fun acc k => overwrite acc (2 * k) (leBytes 2 (f k (entryAt bs k)))) bs
    let moved := changed.filter (fun k => entryInService (f k (entryAt bs k)) != entryInService (entryAt bs k))
    let s := (openSet b (okey 0x3400 p) (.wide bs') s).modBar b (fun x => { x with
      openDev := x.openDev ++ (moved.map (fun k => p * 65536 + k)).filter (fun m => !x.openDev.contains m) })
    if pairMode s then mirrorNozzles b p changed s else s

/-- Is a host block write to an object of the bar busy (R43)? -/
def blockBusy (s : State) (b : Nat) : Bool :=
  s.fns.any (fun p => p.2.chans.any (fun c => c.2.state == 1 && c.2.toObject && !c.2.waits && c.2.bar == some b)) ||
  s.moa.sessions.any (fun p =>
    match p.2.block with
    | some k => k.toObject && !k.waits && k.bar == some b
    | none => false)

/-! ### The GAP decision (R125) -/

/-- A page that reads a given set of copies. -/
def shadowPage (m : Map Val) : Page :=
  { num := 0, lines := 0, noRetain := false, source := none, rects := [], slots := [], isOpen := false, status := 0,
    flip := none, flipTime := 0, started := false, printed := false, cut := false, lateJudged := false, gapBefore := 0, actKeys := [], moved := [], store := 0, lineGen := [],
    endTime := 0, endLine := 0, integPass := 0, integFail := 0, bandFirst := 0, bandLast := 0, bandChanges := 0,
    bandLine := none, residual := 0, skipped := 0, withheldLines := 0, lastLine := 0, retained := false, pins := 0,
    webMark := 0, tokens := [], logical := [], screened := [], counted := [], genWithheld := false, under := some m }

/-- The tables of a plane under a set of copies. -/
def tablesUnder (s : State) (b plane : Nat) (m : Map Val) : Tables :=
  { state := s, bar := b, page := shadowPage m, plane := plane }

/-- Overlay one set of copies on another. -/
def overlay (base top : Map Val) : Map Val := top.foldl (fun m p => m.set p.1 p.2) base

/-- The copies of bar `b` as a seal makes them. -/
def sealedCopies (s : State) (b : Nat) : Map Val :=
  let x := s.bar b
  overlay (if x.gen.isSome then overlay x.live x.pend else x.live) x.opn

/-- The state that CAUSE names (R125). -/
def causeState (e : Nat) : Nat :=
  match entryCause e with
  | 0 => 3
  | 1 => 4
  | _ => 5

/-- R125: the entry of an own nozzle after the decision; `unc`: its column is uncompensated. -/
def gapEntry (unc : Bool) (e : Nat) : Nat :=
  if entryLock e || entryInService e then e
  else if unc then e - entryState e + 6
  else if entryState e = 6 then e - 6 + causeState e
  else e

/-- The uncompensated columns of the bar under a set of copies, as plane * 65536 + column. -/
def uncompUnder (s : State) (b : Nat) (m : Map Val) : List Nat :=
  s.planes.flatMap (fun pl => (tablesUnder s b pl m).uncompensated.map (fun c => pl * 65536 + c))

/-- R125: the decided state entries of port `p`, none when nothing changes. -/
def gapPort (s : State) (b : Nat) (m : Map Val) (unc : List Nat) (p : Nat) : Option (List Byte) :=
  match m.get? (okey 0x3400 p) with
  | some (.wide bs) =>
    let f (k : Nat) :=
      gapEntry (unc.contains (headPlane s p * 65536 + (headCol0 s p + k - s.firstCol b))) (entryAt bs k)
    let ch := (ownNozzles s b p).filter (fun k => f k != entryAt bs k)
    if ch.isEmpty then none else some (ch.foldl (fun acc k => overwrite acc (2 * k) (leBytes 2 (f k))) bs)
  | _ => none

/-- R125: decide GAP in the open copies, just before they are sealed. -/
def gapDecide (b : Nat) (s : State) : State :=
  let m := sealedCopies s b
  let unc := uncompUnder s b m
  forAll (instPorts s b) (fun p t =>
    match gapPort s b m unc p with
    | some bs => openSet b (okey 0x3400 p) (.wide bs) t
    | none => t) s

/-! ### Sealing -/

/-- R107: discard the screened lines of page `e` and later pages not started, and what the audit capture holds of such a page: it is
filled again, and AUDIT_READY follows the re-screened page. -/
def rescreen (b e : Nat) (s : State) : State :=
  let hit (p : Page) := !p.started && pageGe p.num e
  let n := (((s.bar b).pages.filter hit).map (fun p => p.screened.length)).sum
  let s := s.modBar b (fun x => { x with pages := x.pages.map (fun p =>
    if hit p then { p with tokens := [], logical := [], screened := [], counted := [] } else p) })
  let s := s.modBar b (fun x => { x with intake := { x.intake with
    audit := x.intake.audit.map (fun a => if x.pages.any (fun p => hit p && p.num == a.page) then { a with ready := false, data := [] } else a) } })
  if n = 0 then s else postB .rescreen b e 0 (leBytes 4 e ++ leBytes 4 n) (s.bumpBN b 0x3031 0 n)

/-- The view of a per-nozzle table of port `p` from bar `b`: entries of `w` bytes that are not the bar's own read 0
(R116). -/
def ownView (s : State) (b p w : Nat) (bs : List Byte) : List Byte :=
  let r := nozzleRange s b p
  let n := headInBar s b p
  let own := (bs.drop (w * r.1)).take (w * n)
  (List.replicate (w * r.1) 0 ++ own ++ List.replicate bs.length 0).take bs.length

/-- Bytes of an entry of a per-nozzle table. -/
def entryWidth (idx : Nat) : Nat :=
  match idx with
  | 0x3400 | 0x3410 => 2
  | 0x4202 => 1
  | _ => 0

/-- The bytes of a wide staged object as bar `b` reads them (R16, R116). -/
def readWideStg (s : State) (b idx sub : Nat) : List Byte :=
  let bs := s.curW b idx sub
  if entryWidth idx = 0 then bs else ownView s b sub (entryWidth idx) bs

/-- R274: the generation digest. A slot object enters as its 8-byte slot (DEDUCED, assumption log 17). -/
def genDigest (s : State) (b : Nat) : Nat :=
  crc32c (stgRows.flatMap (fun r => (rowSubs s b r).flatMap (fun sub =>
    if r.ty.wide then readWideStg s b r.idx sub else leBytes 8 (s.curN b r.idx sub))))

/-- R242: the quarters of the open copies `keys` once they are the pending ones. -/
def sealQuarters (keys : List Nat) (m : Map Nat) : Map Nat :=
  keys.foldl (fun m k => match m.get? (2 ^ 25 + k) with | some q => (m.erase (2 ^ 25 + k)).set (2 ^ 24 + k) q | none => m) m

/-- R242: the quarters of the pending copies `keys` once they are live. -/
def liveQuarters (keys : List Nat) (m : Map Nat) : Map Nat :=
  keys.foldl (fun m k => match m.get? (2 ^ 24 + k) with | some q => (m.erase (2 ^ 24 + k)).set k q | none => m.erase k) m

/-- R17, R18: seal the open copies for the effective page `e`; `p` is the page asked for. -/
def sealAt (b p e : Nat) (merged idle : Bool) (s : State) : State :=
  let s := gapDecide b s
  let x := s.bar b
  let keys := x.opn.keys
  let s := s.modBar b (fun x => { x with
    pend := x.opn, opn := [], openHost := false, openDev := [], quarters := sealQuarters keys x.quarters
    gen := some { page := e, screening := keys.any isScreening, headKeys := keys.filter isHeadTable, headWait := [],
                  dev := x.openDev, idle := idle } })
  let s := postB .commitSealed b e (b2n (p != e) + 4 * b2n merged) (leBytes 4 p ++ leBytes 4 e) s
  let s := if keys.any isScreening then rescreen b e s else s
  sealWrites b s

/-- R18, R20: the effective commit page and whether R20 applies. -/
def effectivePage (s : State) (b p : Nat) : Nat × Bool :=
  if (s.bar b).vb != .printing && idleBar s b then
    let e := pageLater p (nextPageNum s b)
    (e, e == nextPageNum s b)
  else (pageLater p (firstUnfixed s b), false)

/-- R274: the standby compares its digest of the generation sealed for page `e` with the active's. -/
def digestJudge (b e theirs : Nat) (s : State) : State :=
  let own := genDigest s b
  if own = theirs then s
  else
    let s := (s.bumpB b 0x8012 0).modBar b (fun x => { x with
      mismatchFrom := some (match x.mismatchFrom with | some m => if pageAfter m e then e else m | none => e)
      mismatchDigests := (own, theirs) })
    pairSend (.wantGen b e) (postB .genMismatch b e 0 (leBytes 4 e ++ leBytes 4 own ++ leBytes 4 theirs) s)

/-- R274: a standby seals at the page that the active named. -/
def sealPeer (b p theirs : Nat) (merged : Bool) (s : State) : State :=
  let r := effectivePage s b p
  digestJudge b p theirs (sealAt b p p merged (r.2 && r.1 == p) (s.modBar b (fun x => { x with peerSeal := none })))

/-- Seal for a request, fixing the page, and tell the partner (R274). -/
def sealNow (b p : Nat) (merged : Bool) (s : State) : State :=
  match (s.bar b).peerSeal with
  | some (e, theirs) => sealPeer b e theirs merged s
  | none =>
    let r := effectivePage s b p
    let s := sealAt b p r.1 merged r.2 s
    if pairMode s && holder s then pairSend (.commit b r.1 (genDigest s b)) s else s

/-- R43: a channel whose block write waited for the seal of bar `b` may proceed. -/
def Chan.release (b : Nat) (c : Chan) : Chan := if c.bar = some b then { c with waits := false } else c

/-- R43: the same of an MOA block. -/
def MoaBlock.release (b : Nat) (k : MoaBlock) : MoaBlock := if k.bar = some b then { k with waits := false } else k

def Fn.release (b : Nat) (f : Fn) : Fn := { f with chans := f.chans.map (fun c => (c.1, c.2.release b)) }

def Session.release (b : Nat) (x : Session) : Session := { x with block := x.block.map (MoaBlock.release b) }

/-- R43: after the seal the block writes that waited for it may proceed. -/
def releaseWaits (b : Nat) (s : State) : State :=
  (s.modMoa (fun m => { m with sessions := m.sessions.map (fun p => (p.1, p.2.release b)) }))
    |> fun s => { s with fns := s.fns.map (fun p => (p.1, p.2.release b)) }

/-- R17, R43: seal a held request once no generation is pending and no block write of the bar is busy; a request with
nothing written since the last seal completes at once, whether or not a generation is pending. -/
def trySeal (b : Nat) (s : State) : State :=
  match (s.bar b).heldReq with
  | none => s
  | some (p, merged) =>
    let idle := (s.bar b).opn.isEmpty && (s.bar b).peerSeal.isNone
    if blockBusy s b || ((s.bar b).gen.isSome && !idle) then s
    else
      let s := s.modBar b (fun x => { x with heldReq := none })
      releaseWaits b (if idle then postB .commitSealed b p (2 + 4 * b2n merged) (leBytes 4 p ++ leBytes 4 p) s
        else sealNow b p merged s)

/-- R17: a commit request for page `p`. -/
def commitRequest (b p : Nat) (s : State) : State :=
  match (s.bar b).heldReq with
  | some (q, _) => s.modBar b (fun x => { x with heldReq := some (pageLater q p, true) })
  | none => trySeal b (s.modBar b (fun x => { x with heldReq := some (p, false) }))

/-- R122: the request that a device update makes, when it may. -/
def autoCommit (b : Nat) (s : State) : State :=
  if s.bo b 0x3438 0 = 1 && !(s.bar b).openHost && !blockBusy s b && holder s then commitRequest b (firstUnfixed s b) s
  else s

/-! ### Taking effect -/

/-- R128: the uncompensated columns that the head on `p` serves. -/
def gapCols (s : State) (p : Nat) : Nat :=
  (s.barsWithCols.map (fun b => ((s.bar b).scan.uncomp.filter (fun u =>
    u / 65536 == headPlane s p && headServes s p (s.firstCol b + u % 65536))).length)).sum

/-- R128, R361: set HEAD_GAP_COLS of a port. -/
def headGapPort (p : Nat) (s : State) : State :=
  let old := s.dv 0x3430 p
  let new := gapCols s p
  if new = old then s
  else
    let s := s.setDv 0x3430 p new
    let s := postD .gapChange 0 (leBytes 1 p ++ leBytes 2 new ++ leBytes 2 old) s
    let th := s.dv 0xC010 9
    if th ≠ 0 ∧ th ≤ new ∧ old < th then
      setCause 0x400 (postD .headReplace 0 (leBytes 1 p ++ leBytes 2 new) s)
    else s

/-- Table 05-6: NOZZLE_OUT and NOZZLE_RECOVERED of a port between two sets of copies. -/
def nozzleEvents (b e : Nat) (dev : List Nat) (old new : Map Val) (p : Nat) (s : State) : State :=
  match new.get? (okey 0x3400 p) with
  | some (.wide bs) =>
    let was := old.get? (okey 0x3400 p)
    forAll (ownNozzles s b p) (fun k s =>
      let e0 := stgEntry was k 0
      let e1 := entryAt bs k
      if entryInService e0 == entryInService e1 then s
      else
        let d (port : Nat) :=
          if entryInService e1 then leBytes 1 port ++ leBytes 2 k ++ leBytes 1 (entryState e1) ++ leBytes 4 0 ++ leBytes 4 e
          else leBytes 1 port ++ leBytes 2 k ++ leBytes 1 (entryState e1) ++ leBytes 1 (entryCause e1) ++ leBytes 3 0 ++
            leBytes 4 e
        post { ev := if entryInService e1 then .nozzleRecovered else .nozzleOut, bar := some b, page := e, idx := 0, sub := 0,
               flags := if entryInService e1 then 0 else b2n (!dev.contains (p * 65536 + k)),
               data := d ((instOf s b p).getD 0), devData := d p } s) s
  | _ => s

/-- R19: pages before the effective page that are still being screened or fired keep the copies they began under. -/
def keepUnder (live : Map Val) (p : Page) : Page :=
  if p.started && p.under.isNone then { p with under := some live } else p

/-- R19: the strips placed before the effective page keep the copies that their lines are fired under. -/
def keepStrip (live : Map Val) (x : Strip) : Strip := if x.under.isNone then { x with under := some live } else x

/-- R20, R174: the head tables of a generation that took effect while the bar was idle: the heads switch to them with the
first line of its page. -/
def idleHeads (g : PendGen) (old : Option PendGen) : Option PendGen :=
  if g.idle && !g.headKeys.isEmpty then some g else old

/-- R128: HEAD_GAP_COLS of every head port. -/
def headGaps (s : State) : State := forAll (List.range 64) headGapPort s

/-- R18, R19, R128, R145: the pending generation of bar `b` takes effect at page `n`; then a held request is sealed. -/
def commitLive (b n : Nat) (s : State) : State :=
  match (s.bar b).gen with
  | none => s
  | some g =>
    let x := s.bar b
    let old := x.live
    let new := overlay x.live x.pend
    let bandKeys := x.pend.keys.any isBand
    let s := s.modBar b (fun x => { x with
      live := new, pend := [], gen := none, quarters := liveQuarters x.pend.keys x.quarters, heads := idleHeads g x.heads, pages := x.pages.map (keepUnder old)
      scan := { x.scan with strips := x.scan.strips.map (keepStrip old), bandDwell := if bandKeys then 0 else x.scan.bandDwell } })
    let s := raiseSource (0x38 + b / 2) (postB .commitLive b n 0 (leBytes 4 n) s)
    let s := if g.screening then
        forAll (instPorts s b) (nozzleEvents b n g.dev old new)
          (headGaps (s.modScan b (fun c => { c with uncomp := uncompUnder s b new })))
      else headGaps s
    trySeal b s

/-- R20: a generation that governs page `n` takes effect as the page starts. -/
def liveAtPage (b n : Nat) (s : State) : State :=
  match (s.bar b).gen with
  | some g => if pageGe n g.page then commitLive b n s else s
  | none => s

/-! ### Nozzle transitions -/

/-- An outcome of Table 05-3, by its code in 3432 CHECK_COUNT. -/
inductive Check where
  | pass | low | miss | dev | act | excluded
  deriving DecidableEq, Repr

def Check.code : Check → Nat
  | .pass => 0 | .low => 1 | .miss => 2 | .dev => 3 | .act => 4 | .excluded => 5

/-- Is the outcome a failed check? -/
def Check.failed : Check → Bool
  | .miss | .dev | .act => true
  | _ => false

/-- CAUSE of a failed check (Table 05-2). -/
def Check.cause : Check → Nat
  | .dev => 1
  | .act => 2
  | _ => 0

/-- An entry of given fields, PURGED 0 and PASS_RUN 0 (Table 05-2). -/
def mkEntry (state cause failRun : Nat) : Nat := state + 256 * cause + 1024 * failRun

/-- PURGED of an entry. -/
def entryPurged (e : Nat) : Bool := bitN e 14
/-- PASS_RUN of an entry. -/
def entryPassRun (e : Nat) : Nat := bitsN e 13 12
/-- FAIL_RUN of an entry. -/
def entryFailRun (e : Nat) : Nat := bitsN e 11 10

/-- The entry with another PASS_RUN. -/
def setPassRun (e n : Nat) : Nat := e - 4096 * entryPassRun e + 4096 * n

/-- An entry of an in-service nozzle with STATE `state` and FAIL_RUN `f`, the other fields kept. -/
def setStateRun (e state f : Nat) : Nat := e - entryState e - 1024 * entryFailRun e + state + 1024 * f

/-- The entry with another CAUSE. -/
def setEntryCause (e c : Nat) : Nat := e - 256 * entryCause e + 256 * c

/-- Table 05-3, R117, R118: the entry after an outcome (LOCK is judged by `transition`). -/
def outcomeEntry (o : Check) (e : Nat) : Nat :=
  match o with
  | .excluded => e
  | .pass | .low =>
    let st := if o = .low then 1 else 0
    if entryInService e then
      (if entryState e = 2 then setStateRun e st 0 else setStateRun e st (entryFailRun e))
    else if entryPurged e then
      (if 3 ≤ entryPassRun e + 1 then mkEntry st 0 0 else setPassRun e (entryPassRun e + 1))
    else e
  | _ =>
    if entryInService e then
      if entryState e = 2 then
        if 3 ≤ entryFailRun e + 1 then
          mkEntry (match o with | .miss => 3 | .dev => 4 | _ => 5) o.cause 0
        else setEntryCause (setStateRun e 2 (entryFailRun e + 1)) o.cause
      else setEntryCause (setStateRun e 2 1) o.cause
    else setPassRun e 0

/-- R119: no transition of a locked entry. -/
def transition (o : Check) (e : Nat) : Nat := if entryLock e then e else outcomeEntry o e

/-- R117: apply outcomes to nozzles of a port for the bar: counts, events, the open copy. `os` gives the outcome of a
nozzle. -/
def applyOutcomes (b p : Nat) (os : List (Nat × Check)) (s : State) : State :=
  let own := os.filter (fun q => nozzleBar s p q.1 == some b)
  let s := forAll own (fun q s => s.countB64 b 0x3432 q.2.code 1) s
  let bs := s.curW b 0x3400 p
  let s := forAll own (fun q s =>
    let e := entryAt bs q.1
    if q.2.failed && entryInService e && !entryLock e then
      let left := !entryInService (transition q.2 e)
      let d (port : Nat) := leBytes 1 port ++ leBytes 2 q.1 ++ leBytes 1 q.2.code
      post { ev := .nozzleSuspect, bar := some b, page := 0, idx := 0, sub := 0, flags := b2n left,
             data := d ((instOf s b p).getD 0), devData := d p } s
    else s) s
  editEntries b p (fun k e => match own.find? (fun q => q.1 == k) with
    | some q => transition q.2 e
    | none => e) s

/-- Did the last edit move a nozzle of the port into or out of service, compared with `before`? -/
def serviceMoved (s : State) (b p : Nat) (before : List Byte) : Bool :=
  let bs := s.curW b 0x3400 p
  (ownNozzles s b p).any (fun k => entryInService (entryAt bs k) != entryInService (entryAt before k))

/-- R118: a purge report for the bar's instance of port `p`. -/
def purgeEntry (e : Nat) : Nat :=
  if entryLock e || entryInService e then e
  else setPassRun (if entryPurged e then e else e + 16384) 0

/-- R188: every nozzle of the head becomes RETIRED with CAUSE ACT in each bar it serves, and a commit is requested. -/
def retireNozzles (p : Nat) (s : State) : State :=
  forAll (servedBars s p) (fun b s =>
    let before := s.curW b 0x3400 p
    let s := editEntries b p (fun _ e => if entryLock e then e else mkEntry 5 2 0) s
    if serviceMoved s b p before then autoCommit b s else s) s

end Sys2Proof.Machine
end

