-- ==== Sys2Proof/Machine/Placement.lean ====
section
/-!
DEFINITION. The placer (R238 to R240, R243): geysers of the tokens of every contone span, as runs in unit order.
-/
namespace Sys2Proof.Machine
open Sys2Proof

/-- R77: element by element. -/
def keyLess : List Int → List Int → Bool
  | a :: s, b :: t => if a = b then keyLess s t else decide (a < b)
  | _, _ => false

/-- Is geyser `g` in service (3010.00)? -/
def geyserOn (s : State) (g : Nat) : Bool := bitN (s.dv 0x3010 0) g

/-- The fumarole of a geyser: GEY k holds geysers 4k to 4k + 3, its fumarole is 4 + k / 2. -/
def geyserFum (g : Nat) : Nat := 4 + g / 8

/-- Is a fumarole hot (R238)? -/
def isHot (s : State) (f : Nat) : Bool := s.place.hot.contains f

/-- Tokens of a span of a bar on one line of a plane: those whose first nozzle in the bar serves a column of the span
(DEDUCED, assumption log 23). -/
def spanTokenCount (s : State) (b plane span : Nat) : Nat :=
  ((headPorts s).map (fun p =>
    if headPlane s p == plane then
      let x0 := s.firstCol b + 2048 * span
      let n := headOverlap s p x0 (x0 + 2048)
      if n = 0 then 0
      else
        let lo := (nozzleRange s b p).1
        let n0 := max (headCol0 s p) x0 - headCol0 s p
        let n1 := n0 + n - 1
        (n1 / 16 + 1 - ceilDiv n0 16) + (if n0 = lo ∧ lo % 16 ≠ 0 then 1 else 0)
    else 0)).sum

/-- The contone spans of the bars that `on` admits, in unit order: (plane, device span, bar, tokens). -/
def placeUnits (s : State) (on : Nat → Bool) : List (Nat × Nat × Nat × Nat) :=
  s.planes.flatMap (fun pl => (List.range 32).filterMap (fun ds =>
    match s.barAt (2048 * ds) with
    | some b =>
      if on b && isContone (s.format b pl) then some (pl, ds, b, spanTokenCount s b pl (ds - s.firstSpan b)) else none
    | none => none))

/-- R238: cap, tokens per line per geyser. -/
def placeCap (s : State) : Nat := Config.geyserTokens / lineEnforced s

/-- R238: the weight of a geyser. -/
def weight (s : State) (frozen : Bool) (g : Nat) : Nat :=
  if !geyserOn s g then 0 else if isHot s (geyserFum g) && !frozen then 48 else 64

/-- R238: the weights in force for `total` units. -/
def weights (s : State) (frozen : Bool) (total : Nat) : List Nat :=
  let w := (List.range 32).map (weight s frozen)
  if placeCap s * w.sum < total * 64 then (List.range 32).map (weight s true) else w

/-- Runs of tokens `off` to `off` + `n` - 1 over the geysers: token i goes to the first geyser whose cumulative weight
exceeds i's share. -/
def placeRuns (ws : List Nat) (total off n : Nat) : List (Nat × Nat) :=
  let sw := ws.sum
  if sw = 0 then []
  else
    ((List.range 32).foldl (fun (acc : List (Nat × Nat) × Nat × Nat) g =>
      let cum := acc.2.1 + ws.getD g 0
      let lo := max off acc.2.2
      let bound := ceilDiv (cum * total) sw
      let hi := min (off + n) bound
      (if lo < hi then (g, hi - lo) :: acc.1 else acc.1, cum, bound)) ([], 0, 0)).1.reverse

/-- The whole assignment of R238. -/
def placeAll (s : State) (frozen : Bool) : Map (List (Nat × Nat)) :=
  let units := placeUnits s (fun b => (s.bar b).vb != .off)
  let total := (units.map (fun u => u.2.2.2)).sum
  let ws := weights s frozen total
  (units.foldl (fun (acc : Map (List (Nat × Nat)) × Nat) u =>
    (acc.1.set (u.1 * 32 + u.2.1) (placeRuns ws total acc.2 u.2.2.2), acc.2 + u.2.2.2)) ([], 0)).1

/-- Tokens per line by geyser of a map of spans. -/
def placeLoad (m : Map (List (Nat × Nat))) : Map Nat :=
  m.foldl (fun acc p => p.2.foldl (fun acc r => acc.modify r.1 0 (fun v => v + r.2)) acc) []

/-- The bars by span key. -/
def placeOwners (s : State) : Map Nat :=
  (placeUnits s (fun b => (s.bar b).vb != .off)).foldl (fun m u => m.set (u.1 * 32 + u.2.1) u.2.2.1) []

/-- R243: PLACE_MAP changes: GEN and TIME move. -/
def placeChanged (s : State) : State :=
  { s with place := { s.place with gen := (s.place.gen + 1) % 2 ^ 32, time := s.time } }

/-- R243: put a new assignment in force. A span that geysers in service hold and go on holding waits for its next page boundary,
unless the change is an emergency, which also ends what still waits (R239, Table 10-9). -/
def placeApply (cause : Nat) (emergency : Bool) (new : Map (List (Nat × Nat))) (s : State) : State :=
  let old := s.place.spans
  let keys := (List.range 256).filter (fun k => old.get? k != new.get? k)
  let on (rs : List (Nat × Nat)) : Bool := rs.all (fun r => geyserOn s r.1)
  let late (k : Nat) : Bool := !emergency && new.has k && (match old.get? k with | some rs => on rs | none => false)
  let spans := keys.foldl (fun (m : Map (List (Nat × Nat))) k =>
    if late k then m else match new.get? k with | some r => m.set k r | none => m.erase k) old
  let wait0 : Map (List (Nat × Nat)) := s.place.waitSpans.filter (fun p => new.get? p.1 == some p.2)
  let wait := keys.foldl (fun (m : Map (List (Nat × Nat))) k =>
    if late k then m.set k (Map.getD new k []) else m.erase k) wait0
  let tail := if emergency then [] else s.place.tail.filter (fun p => new.has p.1 && p.2.all (fun t => on t.2))
  if keys.isEmpty then { s with place := { s.place with waitSpans := [], tail := tail, owner := placeOwners s } }
  else
    let s := placeChanged { s with place := { s.place with
      spans := spans, waitSpans := wait, tail := tail, load := placeLoad spans, owner := placeOwners s } }
    let s := s.bump 0x7021 (if emergency then 1 else 0)
    postD .migration (b2n emergency) (leBytes 1 cause ++ leBytes 3 keys.length ++ leBytes 4 s.place.gen) s

/-- R238: the weights that a run of the placer takes. -/
def placeWeights (s : State) (frozen : Bool) : List Nat :=
  weights s frozen (((placeUnits s (fun b => (s.bar b).vb != .off)).map (fun u => u.2.2.2)).sum)

/-- R238 in full; the weights that it takes are those that PLACE_MAP shows. -/
def placeFull (cause : Nat) (emergency frozen : Bool) (s : State) : State :=
  placeApply cause emergency (placeAll s frozen) { s with place := { s.place with weights := placeWeights s frozen } }

/-- R238: run the placer. Cause: 1 retirement, 2 heat, 3 bar state, 4 reinstatement. While PLACE_FREEZE is 1 it makes no change for
heat, and for a reinstatement it moves no token either (R240). -/
def placeRun (cause : Nat) (emergency : Bool) (s : State) : State :=
  if s.dv 0x7004 0 = 1 ∧ (cause = 2 ∨ cause = 4) then s else placeFull cause emergency (s.dv 0x7004 0 == 1) s

/-- R240: the in-service geyser that holds the fewest tokens per line, the lowest-numbered on a tie. -/
def leastLoaded (s : State) (load : Map Nat) : Option Nat :=
  ((List.range 32).filter (geyserOn s)).foldl (fun best g =>
    match best with
    | none => some g
    | some h => if load.getD g 0 < load.getD h 0 then some g else some h) none

/-- Append a token of geyser `g` to runs. -/
def addToken (g : Nat) : List (Nat × Nat) → List (Nat × Nat)
  | [] => [(g, 1)]
  | (h, n) :: t => if t.isEmpty then (if h = g then [(h, n + 1)] else [(h, n), (g, 1)]) else (h, n) :: addToken g t

/-- R240: assign `n` tokens one by one. -/
def fillTokens (s : State) : Nat → Map Nat → List (Nat × Nat) → Map Nat × List (Nat × Nat)
  | 0, load, runs => (load, runs)
  | n + 1, load, runs =>
    match leastLoaded s load with
    | some g => fillTokens s n (load.modify g 0 (fun v => v + 1)) (addToken g runs)
    | none => (load, runs)

/-- R240: assign a bar's tokens, no other token moving. -/
def placeFill (s : State) (b : Nat) : Map (List (Nat × Nat)) × Map Nat :=
  let kept := s.place.spans.filter (fun p => s.place.owner.get? p.1 != some b)
  (placeUnits s (fun x => x == b)).foldl (fun acc u =>
    let r := fillTokens s u.2.2.2 acc.2 []
    (acc.1.set (u.1 * 32 + u.2.1) r.2, r.1)) (kept, placeLoad kept)

/-- R238, R240: a bar has entered or left VB_OFF. -/
def placeBar (b : Nat) (entered : Bool) (s : State) : State :=
  if s.dv 0x7004 0 = 1 then
    if entered then placeApply 3 false (s.place.spans.filter (fun p => s.place.owner.get? p.1 != some b)) s
    else
      let r := placeFill s b
      if r.2.any (fun p => decide (placeCap s < p.2)) then placeFull 3 false false s else placeApply 3 false r.1 s
  else placeFull 3 false false s

/-- Page `n` of a bar is one that an assignment of `b`'s spans up to page `last` still governs, so that the assignment is kept. -/
def tailNeeded (s : State) (b last : Nat) : Bool := (s.bar b).pages.any (fun p => !p.cut && pageGe last p.num)

/-- R239: a waiting assignment of a span takes effect with the first line of page `n`, the first of its bar that has no line of
the span decided; the pages before it stay with the geysers that held the span. -/
def spanHandover (b n key : Nat) (s : State) : State :=
  match s.place.waitSpans.get? key with
  | none => s
  | some r =>
    let spans := s.place.spans.set key r
    let was := (n + 2 ^ 32 - 1) % 2 ^ 32
    let tail := ((s.place.tail.getD key []).filter (fun t => tailNeeded s b t.1)) ++ [(was, s.place.spans.getD key [])]
    placeChanged { s with place := { s.place with
      spans := spans, waitSpans := s.place.waitSpans.erase key, tail := s.place.tail.set key tail, load := placeLoad spans } }

/-- R239: the geysers of a span for page `n`. -/
def spanRuns (s : State) (key n : Nat) : List (Nat × Nat) :=
  match (s.place.tail.getD key []).find? (fun t => pageGe t.1 n) with
  | some t => t.2
  | none => s.place.spans.getD key []

/-- The geyser that decides token number `i` of a span. -/
def runGeyser : List (Nat × Nat) → Nat → Option Nat
  | [], _ => none
  | (g, n) :: t, i => if i < n then some g else runGeyser t (i - n)

end Sys2Proof.Machine
end

