-- ==== Sys2Proof/Machine/Scheduler.lean ====
section
/-!
DEFINITION. The scheduler's commands (13_control_cores.md): waits, posts, flows, timers, spawning and stopping threads,
quanta, window spills, the deadlock detector, and faults of extensions and cores.
-/
namespace Sys2Proof.Machine
open Sys2Proof

/-! ### Stopping threads -/

/-- R303: a flow passes to the first thread in its queue, or becomes free; `ab` marks it abandoned (R297). -/
def releaseFlow (ab : Bool) (f : Nat) (s : State) : State :=
  match (s.flow f).queue with
  | [] => s.modFlow f (fun x => { x with holder := none, abandoned := ab })
  | u :: rest =>
    let s := s.modFlow f (fun x => { x with holder := some u, queue := rest, abandoned := false })
    makeReady u (s.modThread u (fun x => { x with
      held := x.held ++ [f], flow := 0, flags := if ab then x.flags ||| 2 ^ 29 else x.flags }))

/-- Take a thread off the core it runs on. -/
def offCore (t : Nat) (s : State) : State :=
  forAll (List.range 8) (fun c s =>
    let s := if (s.core c).reserved = some t then s.modCore c (fun x => { x with reserved := none }) else s
    if (s.core c).thread = some t then (chargeCore c s).modCore c (fun x => { x with thread := none, deferred := false })
    else s) s

/-- R297, R303, R304: a thread ends: its flows pass on abandoned, it leaves every flow queue, and its window, flags, wait
mask and timer are discarded. -/
def stopThread (t : Nat) (st : ThreadState) (s : State) : State :=
  let held := (s.thread t).held
  let s := offCore t s
  let s := { s with sched := { s.sched with
    flows := s.sched.flows.mapVals (fun x => { x with queue := x.queue.filter (fun u => u != t) }) } }
  let s := s.modThread t (fun x => { Thread.reset with st := st, group := x.group, cluster := x.cluster })
  dispatch (chargeAll (forAll held (releaseFlow true) s))

/-- Table 13-13: EXT_STATUS. -/
def setExtStatus (k cause st : Nat) (s : State) : State := s.setDv 0x9043 k (cause * 2 ^ 24 + st)

/-- R297: an extension is stopped. -/
def stopExt (k cause addr : Nat) (byCommand : Bool) (s : State) : State :=
  let s := setExtStatus k cause 3 (stopThread (448 + k) .faulted s)
  judgeWait 4 (postD .extFault (b2n byCommand) (leBytes 1 k ++ leBytes 1 cause ++ leBytes 8 addr) s)

/-- The illegal-instruction exception of a user-mode access to a machine-only register (Table 13-5); its faulting address
is the program's, which the block does not hold: a free value. -/
def illegalCsr (t : Nat) (s : State) : State :=
  let (d, s) := s.draw
  stopExt (t - 448) 2 (d.toNat % 2 ^ 64) false s

/-- Does the thread run in user mode (extensions only)? -/
def userMode (t : Nat) : Bool := decide (448 ≤ t)

/-- Set SCH_STATUS of a thread. -/
def schStatus (t code : Nat) (s : State) : State := s.modThread t (fun x => { x with status := code })

/-- A scheduler register write by the thread that core `c` runs; nothing when it runs none. -/
def byThread (c : Nat) (f : Nat → State → State) (s : State) : State :=
  match (s.core c).thread with
  | none => s
  | some t => judgeWait 4 (f t s)

/-- A write of a machine-only register. -/
def byMachine (c : Nat) (f : Nat → State → State) (s : State) : State :=
  byThread c (fun t s => if userMode t then illegalCsr t s else f t s) s

/-- R299. -/
def waitEffect (c : Nat) (v : Slot) (t : Nat) (s : State) : State :=
  let mask := v.bits 31 0
  let s := schStatus t 0 s
  if mask = 0 then s.modThread t (fun x => { x with woke := 0 })
  else
    let x := { s.thread t with mask := mask, andMode := bitN v.toNat 32 }
    if waitMet x.flags x.mask x.andMode then s.modThread t (fun _ => { takeFlags x with mask := 0 })
    else dispatch (leaveCore c (s.modThread t (fun _ => { x with st := .waiting })))

/-- SCH_WAIT (R299, R305). -/
def execSchWait (dt : Nat) (core : Fin 8) (val : Slot) (s : State) : Host.Outcome State Fault Refusal :=
  run dt s (byThread core (waitEffect core val))

/-- R298, R300. -/
def postEffect (v : Slot) (t : Nat) (s : State) : State :=
  let u := v.bits 24 16
  let f := v.bits 4 0
  if f = 31 then schStatus t 6 s
  else if userMode t && !userMode u then schStatus t 0 (s.bump 0x9005 1)
  else postFlag u f (schStatus t 0 s)

/-- SCH_POST (R298, R300). -/
def execSchPost (dt : Nat) (core : Fin 8) (val : Slot) (s : State) : Host.Outcome State Fault Refusal :=
  run dt s (byThread core (postEffect val))

/-- The running thread goes to the back of its group's ready list. -/
def yieldEffect (c t : Nat) (s : State) : State :=
  let s := leaveCore c (schStatus t 0 s)
  let s := (s.modThread t (fun x => { x with st := .ready, ready := s.sched.readySeq })).modSched
    (fun q => { q with readySeq := q.readySeq + 1 })
  dispatch (chargeAll s)

/-- SCH_YIELD (Table 13-5, R301). -/
def execSchYield (dt : Nat) (core : Fin 8) (s : State) : Host.Outcome State Fault Refusal :=
  run dt s (byThread core (yieldEffect core))

/-- Table 13-6: the status of an entry to flow `f` by a thread that holds `held`. Where several hold the lowest code is
reported (DESIGN CHOICE, assumption log 24). -/
def flowEnterStatus (held : List Nat) (f : Nat) : Nat :=
  if held.contains f then 2
  else if held.any (fun h => decide (f ≤ h)) then 3
  else if 4 ≤ held.length then 5
  else 0

/-- R303: a thread holds a free flow at once, or waits for it. -/
def flowEnterEffect (c : Nat) (v : Slot) (t : Nat) (s : State) : State :=
  let f := v.bits 7 0
  let code := flowEnterStatus (s.thread t).held f
  let s := schStatus t code s
  if code ≠ 0 then s
  else
    match (s.flow f).holder with
    | none =>
      let ab := (s.flow f).abandoned
      (s.modFlow f (fun x => { x with holder := some t, abandoned := false })).modThread t (fun x => { x with
        held := x.held ++ [f], flags := if ab then x.flags ||| 2 ^ 29 else x.flags })
    | some _ =>
      let s := s.modFlow f (fun x => { x with queue := x.queue ++ [t] })
      dispatch (leaveCore c (s.modThread t (fun x => { x with st := .flowWait, flow := f })))

/-- SCH_FLOW_ENTER (R303). -/
def execSchFlowEnter (dt : Nat) (core : Fin 8) (val : Slot) (s : State) : Host.Outcome State Fault Refusal :=
  run dt s (byThread core (flowEnterEffect core val))

/-- R303: the holder passes the flow on. -/
def flowExitEffect (v : Slot) (t : Nat) (s : State) : State :=
  let f := v.bits 7 0
  if (s.flow f).holder = some t then
    releaseFlow false f ((schStatus t 0 s).modThread t (fun x => { x with held := x.held.filter (fun h => h != f) }))
  else schStatus t 4 s

/-- SCH_FLOW_EXIT (R303). -/
def execSchFlowExit (dt : Nat) (core : Fin 8) (val : Slot) (s : State) : Host.Outcome State Fault Refusal :=
  run dt s (byThread core (flowExitEffect val))

/-- Table 13-5: start, replace or cancel the thread's timer. -/
def timerEffect (v : Slot) (t : Nat) (s : State) : State :=
  let d := v.bits 31 0
  (schStatus t 0 s).modThread t (fun x => { x with timer := if d = 0 then none else some (s.now + 1000 * d) })

/-- SCH_TIMER (R298). -/
def execSchTimer (dt : Nat) (core : Fin 8) (val : Slot) (s : State) : Host.Outcome State Fault Refusal :=
  run dt s (byThread core (timerEffect val))

/-- Has the timer of thread `t` run out? -/
def timerOut (s : State) (t : Nat) : Bool :=
  match (s.thread t).timer with
  | some e => decide (e ≤ s.now)
  | none => false

/-- SCH_TIMER_EXPIRY (R298): flag 30 is set. -/
def execSchTimerExpiry (dt : Nat) (thread : Fin 512) (s : State) : Host.Outcome State Fault Refusal :=
  run dt s (fun s =>
    if timerOut s thread then
      judgeWait 4 (setFlag thread 30 (s.modThread thread (fun x => { x with timer := none })))
    else s)

/-- Table 13-5: a new thread (CLUSTER 0b11, to which no meaning is given, is read as either: assumption log 24). -/
def newThread (group cluster wake entry : Nat) (noPreempt : Bool) : Thread :=
  { Thread.reset with group := group, cluster := min cluster 2, wake := wake, entry := entry, noPreempt := noPreempt }

/-- SCH_SPAWN's effect. -/
def spawnEffect (v : Slot) (t : Nat) (s : State) : State :=
  let u := v.bits 8 0
  if (s.thread u).st != .free then schStatus t 1 s
  else
    makeReady u ((schStatus t 0 s).modThread u (fun _ =>
      newThread (v.bits 15 13) (v.bits 12 11) (2 * v.bits 9 9) (4 * v.bits 63 16) (bitN v.toNat 10)))

/-- SCH_SPAWN (Table 13-5). -/
def execSchSpawn (dt : Nat) (core : Fin 8) (val : Slot) (s : State) : Host.Outcome State Fault Refusal :=
  run dt s (byMachine core (spawnEffect val))

/-- SCH_EXIT (R303): the running thread becomes FREE. -/
def execSchExit (dt : Nat) (core : Fin 8) (s : State) : Host.Outcome State Fault Refusal :=
  run dt s (byMachine core (fun t s => stopThread t .free s))

/-- SCH_WAKE_MODE's effect; a mode of 3 names none and changes nothing. -/
def wakeModeEffect (v : Slot) (t : Nat) (s : State) : State :=
  if v.bits 1 0 = 3 then schStatus t 0 s
  else (schStatus t 0 s).modThread t (fun x => { x with wake := v.bits 1 0 })

/-- SCH_WAKE_MODE (R302). -/
def execSchWakeMode (dt : Nat) (core : Fin 8) (val : Slot) (s : State) : Host.Outcome State Fault Refusal :=
  run dt s (byMachine core (wakeModeEffect val))

/-- R304. -/
def killEffect (v : Slot) (t : Nat) (s : State) : State :=
  let u := v.bits 8 0
  if (s.thread u).st = .free ∨ u = t ∨ u = 0 ∨ u = 1 then schStatus t 1 s
  else if userMode u then stopExt (u - 448) 4 0 true (schStatus t 0 s)
  else stopThread u .free (schStatus t 0 s)

/-- SCH_KILL (R304). -/
def execSchKill (dt : Nat) (core : Fin 8) (val : Slot) (s : State) : Host.Outcome State Fault Refusal :=
  run dt s (byMachine core (killEffect val))

/-- Table 13-5: SCH_FLAGS is W1C. -/
def flagsClearEffect (v : Slot) (t : Nat) (s : State) : State :=
  (schStatus t 0 s).modThread t (fun x => { x with flags := x.flags - (x.flags &&& v.bits 31 0) })

/-- SCH_FLAGS_CLEAR (Table 13-5, R300). -/
def execSchFlagsClear (dt : Nat) (core : Fin 8) (val : Slot) (s : State) : Host.Outcome State Fault Refusal :=
  run dt s (byThread core (flagsClearEffect val))

/-- R301: the thread of core `c` has run its quantum while a READY thread of its cluster waits. -/
def quantumDue (s : State) (c : Nat) : Bool :=
  match (s.core c).thread with
  | none => false
  | some t => !(s.thread t).noPreempt && decide ((s.core c).runAt + s.dv 0x9002 0 ≤ s.now) && (nextReady s (c / 4)).isSome

/-- QUANTUM_EXPIRY (R301, R306). -/
def execQuantumExpiry (dt : Nat) (core : Fin 8) (s : State) : Host.Outcome State Fault Refusal :=
  run dt s (fun s => if quantumDue s core then dispatch (preempt core (chargeAll s)).2 else s)

/-- R305: the least recently run WAITING or FLOW_WAIT thread in a window of core `c`. -/
def spillVictim (s : State) (c : Nat) : Option Nat :=
  (((threadList s).filter (fun p => p.2.window == some c && (p.2.st == .waiting || p.2.st == .flowWait))).foldl
    (fun (best : Option (Nat × Nat)) p =>
      match best with
      | none => some (p.1, p.2.lastRun)
      | some b => if p.2.lastRun < b.2 then some (p.1, p.2.lastRun) else some b) none).map (fun p => p.1)

/-- WINDOW_SPILL (R305, R306). -/
def execWindowSpill (dt : Nat) (core : Fin 8) (s : State) : Host.Outcome State Fault Refusal :=
  run dt s (fun s =>
    if freeWindows s core < s.dv 0x9006 0 then
      match spillVictim s core with
      | some t => (s.modThread t (fun x => { x with window := none })).modCore core (fun x =>
          { x with reserved := if x.reserved = some t then none else x.reserved })
      | none => s
    else s)

/-- R307: has ALL_WAIT held for DEADLOCK_DELAY, the detector not yet quiet? -/
def deadlockDue (s : State) : Bool :=
  match s.sched.allWaitAt with
  | some t => !s.sched.deadlockDone && decide (t + 1000 * s.dv 0x9003 0 ≤ s.now)
  | none => false

/-- R307: the detector acts. -/
def deadlockEffect (s : State) : State :=
  let s := (s.bump 0x9005 0).modSched (fun q => { q with deadlockDone := true })
  let x := s.thread 0
  let given := x.st == .waiting && bitN x.mask 31
  let n := countThreads s .waiting + countThreads s .flowWait
  let s := postD .deadlock (b2n given) (leBytes 2 n ++ leBytes 2 (s.dv 0x9003 0)) s
  if given then judgeWait 4 (setFlag 0 31 s) else s

/-- DEADLOCK (R307). -/
def execDeadlock (dt : Nat) (s : State) : Host.Outcome State Fault Refusal :=
  run dt s (fun s => if deadlockDue s then deadlockEffect s else s)

/-- Is extension `k` RUNNING (Table 13-13)? -/
def extRunning (s : State) (k : Nat) : Bool := bitsN (s.dv 0x9043 k) 2 0 == 2

/-- Table 13-1: what a core address holds; none where the table lists nothing. The local SRAM is that of the core's own cluster: no
address reaches the other's (R294). -/
inductive CoreRegion where
  | rom | sram | dictionary | system
  deriving DecidableEq, Repr

/-- Table 13-1. -/
def coreRegion (a : Nat) : Option CoreRegion :=
  if a < 0x10000 then some .rom
  else if 0x10000000 ≤ a ∧ a < 0x10000000 + 2 ^ 19 then some .sram
  else if 0x40000000 ≤ a ∧ a < 0x40000000 + 2 ^ 27 then some .dictionary
  else if 0x100000000 ≤ a ∧ a < 0x100000000 + 2 ^ 30 then some .system
  else none

/-- R296: PMP lets an extension fetch and load its code, load and store its data, and nothing else of Table 13-1. -/
def extMay (s : State) (k : Nat) (acc : CoreAccess) (a : Nat) : Bool :=
  let x := s.thread (448 + k)
  let code := decide (x.entry ≤ a) && decide (a < x.entry + ((s.dwide 0x9040 k).getD []).length)
  let data := decide (x.data ≤ a) && decide (a < x.data + 1024 * bitsN (s.dv 0x9041 k) 31 20)
  coreRegion a == some .system && ((code && acc != .store) || (data && acc != .fetch))

/-- EXT_FAULT (R294, R297): an access that PMP or Table 13-1 does not allow, an illegal instruction or a misaligned access. The zero
that such a load returns goes to a context that R297 discards, and such a store changes nothing. -/
def execExtFault (dt : Nat) (ext : Fin 64) (cause : Fin 4) (access : CoreAt) (s : State) :
    Host.Outcome State Fault Refusal :=
  run dt s (fun s =>
    if extRunning s ext && cause != 0 && !(cause == 1 && extMay s ext access.kind access.addr.toNat) then stopExt ext cause access.addr.toNat false s
    else s)

/-- Table 13-7: the running thread of a failed core: an extension is stopped; a firmware thread is a device-class fault,
and is READY again (DESIGN CHOICE, assumption log 24). -/
def coreThread (c : Nat) (s : State) : State :=
  match (s.core c).thread with
  | none => s
  | some t =>
    let s := s.modCore c (fun x => { x with thread := none, deferred := false })
    if userMode t then stopExt (t - 448) 1 0 false s
    else deviceFault 0x0A (makeReady t (s.modThread t (fun x => { x with st := .ready })))

/-- R302, R357: core `c` is retired: its threads return from their windows. -/
def dropCore (c : Nat) (s : State) : State :=
  let s := s.modCore c (fun x => { x with retired := true, reserved := none })
  let s := { s with sched := { s.sched with threads := s.sched.threads.mapVals (fun x =>
    if x.window = some c then { x with window := none } else x) } }
  postD .coreRetired 0 (leBytes 1 c ++ leBytes 1 (popcount (s.dv 0x9000 0))) s

/-- CORE_FAULT (R356, R357, R302). -/
def execCoreFault (dt : Nat) (core : Fin 8) (s : State) : Host.Outcome State Fault Refusal :=
  run dt s (fun s =>
    if coreOn s core then
      let r := channelFault 7 core (atLimit s 7) (chargeCore core s)
      let s := if r.1 = .retired then dropCore core r.2 else r.2
      judgeWait 4 (dispatch (coreThread core s))
    else s)

end Sys2Proof.Machine
end

