-- ==== Sys2Proof/Machine/Door.lean ====
section
/-!
DEFINITION. The dictionary arbiter (R27 to R36, R392, R394, R338, R275): who accesses, what an access may reach, and the
status recorded for it (R40).
-/
namespace Sys2Proof.Machine
open Sys2Proof

/-- Status codes (Table 02-4). -/
def stOK : Nat := 0
def stNoObject : Nat := 1
def stAccess : Nat := 2
def stState : Nat := 3
def stRange : Nat := 4
def stType : Nat := 5
def stAlign : Nat := 6
def stBusy : Nat := 7
def stView : Nat := 8
def stAborted : Nat := 9
def stAuth : Nat := 0x0A
def stSequence : Nat := 0x0B

/-- The session behind an access: a supervisor with its view (0xFF: the device view), the host of a bar, or a host of
zero width, with the bar whose violation counter it has, if any (R36, R295). -/
inductive Who where
  | super (view : Nat)
  | host (b : Nat)
  | narrow (b : Option Nat)
  deriving DecidableEq, Repr

/-- A host of bar `b`, of zero width when the bar has no columns. R36 says so of VFs; that a MOA bar session is treated alike is
DESIGN CHOICE (assumption log 125). -/
def hostOf (s : State) (b : Nat) : Who := if s.spanCount b = 0 then .narrow (some b) else .host b

/-- The session of a door, none for an MOA session that is not open. -/
def whoIs (s : State) : Door → Option Who
  | .fn k => if k.val = 0 then some (.super ((s.fn 0).own.getD (okey 0x1105 0) 0xFF)) else some (hostOf s (k.val - 1))
  | .moa sid =>
    (s.moa.sessions.get? sid.toNat).map (fun ss =>
      if ss.role = 0 then .super (ss.own.getD (okey 0x1105 0) 0xFF) else hostOf s ss.target)
  | .firmware => some (.super 0xFF)
  | .ext k =>
    let b := bitsN (s.dv 0x9041 k.val) 39 32
    some (if b < 16 then hostOf s b else .narrow none)

/-- What the arbiter decides of an access. -/
inductive Grant where
  /-- Reads zero, writes ignored, status OK, not counted (R2, R34). -/
  | quiet
  /-- Reads zero, writes ignored, status OK, counted as a violation (R33). -/
  | hidden
  /-- Reads zero, writes ignored, with a status. -/
  | fail (code : Nat)
  /-- The object: its row, its bar for a bar-scope object, and the subindex in device numbering. -/
  | ok (row : Row) (bar : Option Nat) (sub : Nat)
  deriving Repr

/-- The objects that exist once per session or function: not foreign to anyone (Table 02-12). -/
def isOwn (idx : Nat) : Bool := [0x1100, 0x1101, 0x1105, 0x1106, 0x1108, 0x1109, 0x1150, 0x1151].contains idx

/-- R338: the objects that the AON responder serves in DOZE and HALTED. -/
def aonServes (idx : Nat) : Bool :=
  (decide (0x1000 ≤ idx) && decide (idx ≤ 0x12FF)) || (decide (0x8000 ≤ idx) && decide (idx ≤ 0x81FF)) ||
  (decide (0xB000 ≤ idx) && decide (idx ≤ 0xB2FF))

/-- R392: the objects that the PF is served in BOOT. -/
def bootServes (idx : Nat) : Bool := (decide (0x1000 ≤ idx) && decide (idx ≤ 0x1007)) || idx == 0x1200

/-- Does the AON responder answer this door (R338)? -/
def aonDoor : Door → Bool
  | .fn k => k.val == 0
  | .moa _ => true
  | _ => false

/-- R392, R338: is the object served at all in the present device state? -/
def served (s : State) (door : Door) (idx : Nat) : Bool :=
  match s.devState with
  | .boot => decide (door = .fn 0) && bootServes idx
  | .doze | .halted => aonDoor door && aonServes idx
  | _ => true

/-- R32 to R35, R394: the instance of a bar-scope object in the view of bar `b`. -/
def barGrant (s : State) (row : Row) (b sub : Nat) (absent : Grant) : Grant :=
  if row.inst then
    match (instPorts s b)[sub]? with
    | some p => .ok row (some b) p
    | none => absent
  else .ok row (some b) sub

/-- R32 to R35, R394: what a session reaches of an implemented object. -/
def scopeGrant (s : State) (who : Who) (write : Bool) (row : Row) (sub : Nat) : Grant :=
  if isOwn row.idx then .ok row none sub
  else if row.sup then
    match who with
    | .super _ => .ok row none sub
    | _ => .hidden
  else if row.bar then
    match who with
    | .super v => if v < 16 then barGrant s row v sub (.fail stView) else .fail stView
    | .host b => barGrant s row b sub .hidden
    | .narrow _ => .hidden
  else
    match who with
    | .super v => if write && decide (v < 16) then .fail stView else .ok row none sub
    | _ => if write then .hidden else .ok row none sub

/-- R2, R392, R338, R34, then scope: a supervisor-only object of bar scope is reached through a view. -/
def grant (s : State) (door : Door) (who : Who) (write : Bool) (idx sub : Nat) : Grant :=
  if 0xF000 ≤ idx then .quiet
  else if !served s door idx then .fail (if write then stState else stOK)
  else
    match rowAt idx sub with
    | none => match who with
      | .super _ => .fail stNoObject
      | _ => .quiet
    | some row =>
      if row.sup && row.bar then
        match who with
        | .super v => if v < 16 then barGrant s row v sub (.fail stView) else .fail stView
        | _ => .hidden
      else scopeGrant s who write row sub

/-- Update the objects of a session or function. -/
def modOwn (door : Door) (f : Map Nat → Map Nat) (s : State) : State :=
  match door with
  | .fn k => s.modFn k.val (fun x => { x with own := f x.own })
  | .moa sid => s.modSession sid.toNat (fun x => { x with own := f x.own })
  | _ => s

/-- R40: record a status that is not OK in LAST_ERROR and ERROR_COUNT of the session. -/
def recordStatus (door : Door) (idx sub code : Nat) (s : State) : State :=
  if code = 0 then s
  else modOwn door (fun m => (m.set (okey 0x1108 0) (idx * 65536 + sub % 256 * 256 + code)).modify (okey 0x1109 0) 0
    (fun v => satAdd32 v 1)) s

/-- R33: count a violation. -/
def violation (who : Who) (s : State) : State :=
  let s := s.bump 0x1210 0
  match who with
  | .host b => s.bump 0x1210 (b + 1)
  | .narrow (some b) => s.bump 0x1210 (b + 1)
  | _ => s

/-- Table 02-2, R27: may the slot be written now, and with which value? -/
def slotValue (s : State) (row : Row) (bar : Option Nat) (v : Slot) : Except Nat Slot :=
  if row.ty.wide then .error stType
  else match row.acc with
    | .ro | .const => .error stAccess
    | .cfg =>
      if s.devState == .config || (match bar with | some b => (s.bar b).vb == .off | none => false) then
        match row.accept v with
        | some w => .ok w
        | none => .error stRange
      else .error stState
    | _ =>
      match row.accept v with
      | some w => .ok w
      | none => .error stRange

/-- An effect of an accepted write: its status and the new state. -/
abbrev Effect := Row → Option Nat → Nat → Slot → State → Nat × State

/-- R30: a slot write through a door, with the effect of the object written. Answers the status. -/
def doorWrite (door : Door) (idx sub : Nat) (v : Slot) (eff : Effect) (s : State) : Nat × State :=
  match whoIs s door with
  | none => (stAuth, s)
  | some who =>
    match grant s door who true idx sub with
    | .quiet => (stOK, s)
    | .hidden => (stOK, violation who s)
    | .fail c => (c, recordStatus door idx sub c s)
    | .ok row bar dsub =>
      match slotValue s row bar v with
      | .error c => (c, recordStatus door idx sub c s)
      | .ok w =>
        let r := eff row bar dsub w s
        (r.1, recordStatus door idx sub r.1 r.2)

/-- The state after a slot write. -/
def writeThrough (door : Door) (idx sub : Nat) (v : Slot) (eff : Effect) (s : State) : State := (doorWrite door idx sub v eff s).2

/-- Table 02-2: the plain effect of a write. -/
def plainEffect : Effect := fun row bar sub w s =>
  match row.acc, bar with
  | .w1c, none =>
    let x := s.dv row.idx sub
    (stOK, s.setDv row.idx sub (x - (x &&& w.toNat)))
  | .w1c, some b =>
    let x := s.bo b row.idx sub
    (stOK, s.setBo b row.idx sub (x - (x &&& w.toNat)))
  | .stg, some b => (stOK, openHostSet b (okey row.idx sub) (.slot w) s)
  | .wo, _ => (stOK, s)
  | _, none => (stOK, s.setDv row.idx sub w.toNat)
  | _, some b => (stOK, s.setBo b row.idx sub w.toNat)

/-- A plain write with a consequence. -/
def andThen (eff : Effect) (f : Option Nat → Nat → State → State) : Effect := fun row bar sub w s =>
  let r := eff row bar sub w s
  (r.1, if r.1 = stOK then f bar sub r.2 else r.2)

/-- R275, R333: a control action: refused with STATE and counted by a unit that does not hold the reins. -/
def holderOnly (eff : Effect) : Effect := fun row bar sub w s =>
  if holder s then eff row bar sub w s else (stState, s.bump 0x8014 1)

/-- R275: a target or commit request that reaches the standby is forwarded to the active; refused while the link is
down. A DIVERGED unit obeys its own targets, so that a supervisor can take it to CONFIG (R26). -/
def forwarded (eff : Effect) : Effect := fun row bar sub w s =>
  if holder s || s.pair.barred then eff row bar sub w s
  else if s.pair.linkUp then (stOK, pairSend (.forward bar row.idx sub w) s)
  else (stState, s)

/-- An effect on the bar of a bar-scope object. -/
def onBar (f : Nat → Nat → Slot → State → Nat × State) : Effect := fun _ bar sub w s =>
  match bar with
  | some b => f b sub w s
  | none => (stView, s)

/-- An effect on a device-scope object. -/
def onDev (f : Nat → Slot → State → Nat × State) : Effect := fun _ _ sub w s => f sub w s

end Sys2Proof.Machine
end

