-- ==== Sys2Proof/Machine/Regions.lean ====
section
/-!
DEFINITION. Memory regions and quotas (R112, R242, R244 to R249, Tables 10-3 and 10-4): sizes of the DRAM and SRAM regions, the
bytes of a bar's tables, and the SRAM quarter that each table lies in.
-/
namespace Sys2Proof.Machine
open Sys2Proof

/-- Rounded up to a MiB, in MiB. -/
def mibUp (n : Nat) : Nat := ceilDiv n (2 ^ 20)

/-- 7200.00 DRAM_TOTAL: MiB of the subchannels in service. -/
def dramTotal (s : State) : Nat :=
  ((List.range 8).map (fun k => if (s.sch k).state = 2 then (s.sch k).mib else 0)).sum

/-- Subchannels in service. -/
def schInService (s : State) : List Nat := (List.range 8).filter (fun k => (s.sch k).state == 2)

/-! ### Stripes (R252, R260) -/

/-- R260: the in-service list of a stripe map generation. -/
def stripeList (s : State) (g : Nat) : List Nat := if g = s.stripeGen then schInService s else s.place.maps.getD g []

/-- R252: the subchannel of the `i`-th 512 bytes of head line `n` of port `p`: the line begins in subchannel (p + n) mod S of the
list, and each following 512 bytes moves to the next. -/
def stripeOf (list : List Nat) (p n i : Nat) : Nat := list.getD ((p + n + i) % max 1 list.length) 0

/-- R252, R260: the subchannel of a 512-byte stripe at address `a` of the other regions: striped by address, a retired subchannel's
stripes over those that remain (DEDUCED, assumption log 122). -/
def stripeHome (s : State) (a : Nat) : Nat :=
  let lists := (List.range s.stripeGen).map (stripeList s) ++ [schInService s]
  (lists.foldl (fun (k : Option Nat) l =>
    match k with
    | some k => some (if l.contains k then k else l.getD (a / 512 % max 1 l.length) 0)
    | none => if l.isEmpty then none else some (l.getD (a / 512 % l.length) 0)) none).getD 0

/-- 6000 EN. -/
def camEn (s : State) (c : Nat) : Bool := bitN (s.dv 0x6000 c) 0

/-- The domain of a camera port, CAM0 or CAM1, and ISP (Table 15-1). -/
def camDomain (c : Nat) : Nat := 0x0D + c / 2

/-- Table 09-7 ENABLED: CAM_CFG.EN is 1 and the domains are on. -/
def camOn (s : State) (c : Nat) : Bool :=
  camEn s c && s.power.domains.getD (camDomain c) 0 != 0 && s.power.domains.getD 0x0F 0 != 0

/-- The camera ports that are on. -/
def camPorts (s : State) : List Nat := (List.range 4).filter (fun c => camOn s c)

/-- 6001 CAM_WIDTH. -/
def camWidth (s : State) (c : Nat) : Nat := s.dv 0x6001 c

/-- 6130: first and last pixel of a focus window; none when disabled. -/
def focusWindow (s : State) (c k : Nat) : Option (Nat × Nat) :=
  let v := fieldLE ((s.dwide 0x6130 c).getD []) (4 * k) 4
  let a := bitsN v 15 0
  let b := min (bitsN v 31 16) (camWidth s c - 1)
  if a < b then some (a, b) else none

/-- R220: bytes of a vision, display or coding line (ring 0, 1, 2). -/
def ringLine (w ring : Nat) : Nat :=
  match ring with
  | 0 => 32 + 8 * w + w / 4
  | 1 => 32 + 3 * w / 4
  | _ => 32 + 2 * w

/-- 6110: is a ring of a port enabled? -/
def ringOn (s : State) (c ring : Nat) : Bool :=
  match ring with
  | 0 => bitsN (s.dv 0x6110 c) 1 0 != 0
  | 1 => bitN (s.dv 0x6110 c) 2
  | _ => bitN (s.dv 0x6110 c) 3

/-- Table 10-3: the CAMERA region in MiB. -/
def cameraMib (s : State) : Nat :=
  ((List.range 4).map (fun c =>
    if camEn s c then
      ((List.range 3).map (fun r =>
        if ringOn s c r then mibUp (s.dv 0x6113 0 * ringLine (camWidth s c) r) else 0)).sum +
      (if bitsN (s.dv 0x6110 c) 1 0 = 1 then 4 else 0)
    else 0)).sum

/-- Bytes of a head line. -/
def headLineBytes (s : State) (p : Nat) : Nat := headSize s p * s.greyBits (headPlane s p) / 8

/-- The delay store of a port: DELAY_DEPTH + 4,096 head lines. -/
def delayBytes (s : State) (p : Nat) : Nat := (s.dv 0x4211 p + 4096) * headLineBytes s p

/-- Table 10-3: the DELAY region in MiB. -/
def delayMib (s : State) : Nat := ((headPorts s).map (fun p => mibUp (delayBytes s p))).sum

/-- Table 10-3: BAR POOL in MiB, from the sizes fixed at CONFIG exit. -/
def barPool (s : State) : Nat := dramTotal s - 1024 - s.dv 0x7201 1 - s.dv 0x7201 2

/-- Table 10-4: the line staging of a port in KiB. -/
def lineStageKib (s : State) (p : Nat) : Nat := 4 * ceilDiv ((fineMax s p + leadLines s + 1) * headLineBytes s p) 4096

/-- The quarter whose line staging serves a port: HLO2k and HLO2k+1 (octets of 8 ports) lie at SRAMk. -/
def portQuarter (p : Nat) : Nat := p / 16

/-- Line staging of the ports of quarter `q`, in KiB. -/
def quarterStage (s : State) (q : Nat) : Nat :=
  (((headPorts s).filter (fun p => portQuarter p == q)).map (lineStageKib s)).sum

/-- Rows of a quarter lost beyond its 64 spares, in KiB (R264, Table 10-9). -/
def lostRows (s : State) (q : Nat) : Nat :=
  (s.sram.filter (fun e => e.1 / 2 ^ 20 == q && e.2.remapped)).length - 64

/-- The space of a quarter after its other fixed regions, in KiB. -/
def quarterSpace (s : State) (q : Nat) : Nat :=
  24576 - (if q = 0 ∨ q = 2 then 512 else 0) - 2048 - 6144 - (if q = 3 then 8192 else 0) - lostRows s q

/-- Table 10-4: the table pool of a quarter in KiB. -/
def quarterPool (s : State) (q : Nat) : Nat := quarterSpace s q - quarterStage s q

/-- The table pool in KiB. -/
def tablePool (s : State) : Nat := ((List.range 4).map (quarterPool s)).sum

/-- The sum of SRAM_QUOTA over all bars, in KiB. -/
def sramQuotaSum (s : State) : Nat := ((List.range 16).map (fun b => s.bo b 0x7101 0)).sum

/-- R112: curves, tiles and masks. -/
def isTable (key : Nat) : Bool := [0x3100, 0x3110, 0x3210].contains (key / 256)

/-- Length of a wide value. -/
def valLen : Val → Nat
  | .wide bs => bs.length
  | .slot _ => 0

/-- R112: 3120.00 TABLE_BYTES of a bar. -/
def tableBytes (s : State) (b : Nat) : Nat :=
  let x := s.bar b
  let sum (m : Map Val) := ((m.filter (fun e => isTable e.1)).map (fun e => valLen e.2)).sum
  sum x.live + (if x.gen.isSome then sum x.pend else 0) + sum x.opn

/-- R242: the quarter next to the GEY domain that holds most of the bar's tokens of a plane. -/
def homeQuarter (s : State) (b plane : Nat) : Nat :=
  let runs := (s.place.spans.filter (fun e => e.1 / 32 == plane && s.place.owner.get? e.1 == some b)).flatMap (fun e => e.2)
  let inGey (g : Nat) := ((runs.filter (fun r => r.1 / 4 == g)).map (fun r => r.2)).sum
  ((List.range 8).foldl (fun best g => if inGey best < inGey g then g else best) 0) / 2

/-- R249: take a table of `n` bytes from the free space of the quarters: in its home when it fits, else in the quarter with
the most free space. Answers the quarter. -/
def takeQuarter (free : List Nat) (home n : Nat) : Nat :=
  if n ≤ free.getD home 0 then home
  else (List.range 4).foldl (fun best q => if free.getD best 0 < free.getD q 0 then q else best) 0

/-- The table copies that a bar has written: kind (0 live, 1 pending, 2 open), object key and bytes. -/
def tablesOf (s : State) (b : Nat) : List (Nat × Nat × Nat) :=
  let x := s.bar b
  let list (kind : Nat) (m : Map Val) := m.filterMap (fun e => if isTable e.1 then some (kind, e.1, valLen e.2) else none)
  list 0 x.live ++ (if x.gen.isSome then list 1 x.pend else []) ++ list 2 x.opn

/-- R242: the SRAM quarter that a table copy of a bar lies in; one whose place is not recorded lies in its home. -/
def tabQuarter (s : State) (b kind key : Nat) : Nat :=
  ((s.bar b).quarters.get? (kind * 2 ^ 24 + key)).getD (homeQuarter s b (key % 256))

/-- Bytes of the table copies in quarter `q`, but for the one named. -/
def quarterUsed (s : State) (q : Nat) (but : Option (Nat × Nat × Nat)) : Nat :=
  ((List.range 16).map (fun b => ((tablesOf s b).map (fun t =>
    if tabQuarter s b t.1 t.2.1 = q ∧ but ≠ some (b, t.1, t.2.1) then t.2.2 else 0)).sum)).sum

/-- Free bytes of the four quarters, the space of the copy named counted as free. -/
def quarterFree (s : State) (but : Option (Nat × Nat × Nat)) : List Nat :=
  (List.range 4).map (fun q => 1024 * quarterPool s q - quarterUsed s q but)

/-- The bytes of a bar's open copy of a table. -/
def openLen (s : State) (b key : Nat) : Nat := match (s.bar b).opn.get? key with | some v => valLen v | none => 0

/-- R249: may a write make the open copy of a table `len` bytes long? It may unless it raises TABLE_BYTES above SRAM_QUOTA, or no
quarter can hold the copy in the place of the one that it replaces. -/
def tableFits (s : State) (b key len : Nat) : Bool :=
  decide (len ≤ openLen s b key) ||
  (decide (tableBytes s b + len - openLen s b key ≤ 1024 * s.bo b 0x7101 0) &&
   (quarterFree s (some (b, 2, key))).any (fun f => decide (len ≤ f)))

/-- R242, R249: the placer puts a table copy into its quarter. -/
def putTable (b kind key len : Nat) (s : State) : State :=
  let q := takeQuarter (quarterFree s (some (b, kind, key))) (homeQuarter s b (key % 256)) len
  s.modBar b (fun x => { x with quarters := x.quarters.set (kind * 2 ^ 24 + key) q })

/-- R242, Table 10-1, Table 10-9: at a page boundary of its bar a table copy moves to its home where it fits there, and out of a
quarter that no longer holds its tables. -/
def moveTable (b : Nat) (t : Nat × Nat × Nat) (s : State) : State :=
  let q := tabQuarter s b t.1 t.2.1
  let home := homeQuarter s b (t.2.1 % 256)
  let free := quarterFree s (some (b, t.1, t.2.1))
  if q ≠ home ∧ t.2.2 ≤ free.getD home 0 ∨ free.getD q 0 < t.2.2 then
    let s := putTable b t.1 t.2.1 t.2.2 s
    if tabQuarter s b t.1 t.2.1 = q then s else placeChanged s
  else s

/-- R242: a page boundary of a bar. -/
def moveTables (b : Nat) (s : State) : State := forAll (tablesOf s b) (moveTable b) s

/-- R249, Table 10-11: QUOTA_STATUS.SRAM_OVER: TABLE_BYTES at or above SRAM_QUOTA. -/
def sramOver (s : State) (b : Nat) : Bool := decide (1024 * s.bo b 0x7101 0 ≤ tableBytes s b)

/-- Post a change of SRAM_OVER (Table 10-10). -/
def sramJudge (b : Nat) (s : State) : State :=
  let full := sramOver s b
  if full = (s.bar b).intake.sramOver then s
  else
    postB .quotaOver b 0 (b2n (!full) + 2) (leBytes 8 (tableBytes s b) ++ leBytes 4 (s.bo b 0x7101 0 / 1024))
      (s.modIntake b (fun q => { q with sramOver := full }))

end Sys2Proof.Machine
end

