-- ==== Sys2Proof/Machine/Wide.lean ====
section
/-!
DEFINITION. Block transfers of wide objects (R28, R41, R42, R109, R110, R114 to R116, R127, R148, R185, R296, R321, R340,
R371, R398): sizes, what may be moved, the content that a completed write gives, and its effect.
-/
namespace Sys2Proof.Machine
open Sys2Proof

/-- Greatest size of a wide object in bytes; `sub` in device numbering. -/
def maxSize (s : State) (idx sub : Nat) : Nat :=
  match idx with
  | 0x1000 | 0x1001 | 0x1002 => 16
  | 0x1120 | 0x1121 | 0x2110 | 0xB107 => 32
  | 0x3100 => 2048
  | 0x3110 => 3670032
  | 0x3210 | 0x9010 => 8192
  | 0x3400 | 0x3410 => 2 * headSize s sub
  | 0x3420 => 16
  | 0x4030 => 1048576
  | 0x4202 => headSize s sub
  | 0x4810 => 1104
  | 0x4830 => 4096
  | 0x4910 | 0x5030 => 16384
  | 0x6102 | 0x6140 => 8 * camWidth s sub
  | 0x6103 => camWidth s sub / 8
  | 0x6111 => 24
  | 0x6112 => 1024
  | 0x6120 => s.dv 0x6113 0 * ringLine (camWidth s sub) 0
  | 0x6122 => s.dv 0x6113 0 * ringLine (camWidth s sub) 1
  | 0x6124 => s.dv 0x6113 0 * ringLine (camWidth s sub) 2
  | 0x6130 | 0xC032 => 64
  | 0x6131 => 128
  | 0x6240 => 8 * headSize s sub
  | 0x7020 => 1840
  | 0x9040 => 262144
  | 0xA102 => 2048
  | 0xB020 => 208
  | 0xC030 => 131072
  | 0xC031 => 58880
  | 0xC110 => 1040
  | _ => 0

/-- R398. -/
def isKey (idx : Nat) : Bool := [0x1120, 0x1121, 0x2110].contains idx

/-- The content of an object that block writes change. -/
def wideNow (s : State) (row : Row) (bar : Option Nat) (sub : Nat) : List Byte :=
  match row.idx, bar with
  | 0xB020, _ => s.mram.railTable
  | _, some b => if row.acc == .stg then readWideStg s b row.idx sub else (s.bwide b row.idx sub).getD (defaultWide s row.idx sub)
  | _, none => (s.dwide row.idx sub).getD (defaultWide s row.idx sub)

/-- What an access by block transfer reaches: nothing (hidden or ignored, status OK), or an object. -/
inductive BlockGrant where
  | fail (code : Nat)
  | hidden (violation : Bool)
  | ok (row : Row) (bar : Option Nat) (sub : Nat)
  deriving Repr

/-- R27: is a CFG object writable now? -/
def cfgOpen (s : State) (bar : Option Nat) : Bool :=
  s.devState == .config || (match bar with | some b => (s.bar b).vb == .off | none => false)

/-- The checks of R41, R110 and R398 on one object, beyond length and alignment. -/
def blockCheck (s : State) (write : Bool) (row : Row) (bar : Option Nat) (sub off len : Nat) : Nat :=
  if !row.ty.wide then stType
  else if maxSize s row.idx sub < off + len then stRange
  else if write && isKey row.idx && (off != 0 || len != 32) then stRange
  else if write && (row.acc == .ro || row.acc == .const) then stAccess
  else if write && row.acc == .cfg && !cfgOpen s bar then stState
  else if write && row.idx == 0x3110 && off != 0 && decide ((wideNow s row bar sub).length < off + len) then stRange
  else stOK

/-- What a block transfer through a door reaches. -/
def blockGrant (s : State) (door : Door) (write : Bool) (idx sub off len : Nat) : BlockGrant :=
  match whoIs s door with
  | none => .fail stAuth
  | some who =>
    match grant s door who write idx sub with
    | .quiet => .hidden false
    | .hidden => .hidden true
    | .fail c => .fail c
    | .ok row bar dsub =>
      let c := blockCheck s write row bar dsub off len
      if c = 0 then .ok row bar dsub else .fail c

/-! ### Contents that a write gives -/

/-- R116: bytes of a per-nozzle table, those of the bar's own entries replaced. -/
def ownMerge (s : State) (b p w : Nat) (old new : List Byte) : List Byte :=
  let r := nozzleRange s b p
  let lo := w * r.1
  let hi := w * (r.2 + 1)
  (old ++ List.replicate (new.length - old.length) 0).take lo ++ (new.take hi).drop lo ++ old.drop hi

/-- The written entries that are the bar's own, as (nozzle, bytes of the new table). -/
def ownWritten (s : State) (b p w off len : Nat) : List Nat :=
  (ownNozzles s b p).filter (fun k => decide (off < w * k + w) && decide (w * k < off + len))

/-- R116: does a write touch an entry that is not the bar's own? -/
def touchesForeign (s : State) (b p w off len : Nat) : Bool :=
  decide ((ownWritten s b p w off len).length < (off + len - 1) / w + 1 - off / w)

/-- R114: the entry is acceptable. -/
def entryOk (e : Nat) : Bool := entryState e != 7 && bitsN e 7 3 == 0

/-- R110: the tile checks on its bytes. -/
def tileOk (s : State) (plane : Nat) (bs : List Byte) : Bool :=
  let w := fieldLE bs 0 2
  let h := fieldLE bs 2 2
  let n := (byteAt bs 4).toNat
  decide (16 ≤ bs.length) && decide (1 ≤ w) && decide (w ≤ 512) && decide (1 ≤ h) && decide (h ≤ 512) &&
  n == s.levels plane && fieldLE bs 5 3 == 0 && decide (fieldLE bs 8 2 < w) && decide (fieldLE bs 10 2 < h) &&
  fieldLE bs 12 4 == 0 && bs.length == 16 + 2 * n * w * h

/-- R127: VOL[0] is 0 and the used entries do not decrease. -/
def volOk (s : State) (plane : Nat) (bs : List Byte) : Bool :=
  entryAt bs 0 == 0 && (List.range (s.levels plane)).all (fun l => decide (entryAt bs l ≤ entryAt bs (l + 1)))

/-- R185: one used row of an EQ_TABLE. -/
def eqRowOk (bs : List Byte) (o : Nat) : Bool :=
  let i (k : Nat) : Nat := (toSigned 8 (byteAt bs (o + k)).toNat).natAbs
  decide (i 0 + (byteAt bs (o + 1)).toNat + i 2 + i 3 ≤ 63) && decide (40 ≤ (byteAt bs (o + 4)).toNat) &&
  decide ((byteAt bs (o + 4)).toNat ≤ 120) && byteAt bs (o + 7) == 0

/-- R185. -/
def eqOk (bs : List Byte) : Bool :=
  bs.length == 1104 && byteAt bs 0 == 1 && byteAt bs 1 == 0 && fieldLE bs 12 4 == 0 &&
  (List.range 8).all (fun c =>
    let n := (byteAt bs (4 + c)).toNat
    decide (1 ≤ n) && decide (n ≤ 16) && (List.range n).all (fun r => eqRowOk bs (80 + 8 * (16 * c + r)))) &&
  (List.range 64).all (fun p => decide ((byteAt bs (16 + p)).toNat ≤ 7))

/-- Entry `k` of a CMP_LIST. -/
def cmpEntry (bs : List Byte) (k : Nat) : Int := toSigned 64 (fieldLE bs (8 * k) 8)

/-- R321: strictly monotonic in DIR, in whole entries. -/
def cmpListOk (s : State) (k : Nat) (bs : List Byte) : Bool :=
  bs.length % 8 == 0 && (List.range (bs.length / 8 - 1)).all (fun i =>
    if bitN (s.dv 0xA100 k) 6 then decide (cmpEntry bs (i + 1) < cmpEntry bs i)
    else decide (cmpEntry bs i < cmpEntry bs (i + 1)))

/-- Table 15-3: the entries of a rail table. -/
def railCount (bs : List Byte) : Nat := (byteAt bs 1).toNat
def railByte (bs : List Byte) (e k : Nat) : Nat := (byteAt bs (16 + 16 * e + k)).toNat
/-- [0] AVS of an entry. -/
def railAvs (bs : List Byte) (e : Nat) : Bool := bitN (railByte bs e 12) 0

/-- R340. -/
def railOk (bs : List Byte) : Bool :=
  let n := railCount bs
  let es := List.range n
  byteAt bs 0 == 1 && decide (n ≤ 12) && bs.length == 16 + 16 * n && [100, 400, 1000].contains (fieldLE bs 2 2) &&
  fieldLE bs 4 8 == 0 &&
  es.all (fun e => decide (railByte bs e 0 ≤ 7) && decide (railByte bs e 12 ≤ 7) &&
    railByte bs e 13 == 0 && railByte bs e 14 == 0 && railByte bs e 15 == 0) &&
  !(es.any (fun e => railAvs bs e) && !es.any (fun e => railAvs bs e && railByte bs e 0 == 0))

/-- Table 16-8: a field of group `g`. -/
def ictField (bs : List Byte) (g o n : Nat) : Nat := fieldLE bs (16 + 16 * g + o) n

/-- R371; `cells`: the boundary cells of the protected balls, as (first, count) (assumption log 27). -/
def ictOk (cells : List (Nat × Nat)) (bs : List Byte) : Bool :=
  let n := (byteAt bs 1).toNat
  byteAt bs 0 == 1 && decide (1 ≤ n) && decide (n ≤ 64) && bs.length == 16 + 16 * n && fieldLE bs 2 10 == 0 &&
  (List.range n).all (fun g =>
    let d := ictField bs g 2 2
    let w := ictField bs g 6 2
    decide (ictField bs g 13 3 = 0) && decide (ictField bs g 12 1 ≤ 1) &&
    !cells.any (fun c => decide (d < c.1 + c.2) && decide (c.1 < d + w)))

/-- The content after a block write at `off`: whole replacement at offset 0 for the objects whose length the write sets
(R110; for the tables outside the generations a DESIGN CHOICE, assumption log 26), else the bytes replaced (R42). -/
def written (s : State) (row : Row) (bar : Option Nat) (sub off : Nat) (bytes : List Byte) : List Byte :=
  if [0x3110, 0x9040, 0xA102, 0xB020, 0xC110].contains row.idx ∧ off = 0 then bytes
  else overwrite (wideNow s row bar sub) off bytes

/-- The checks on the content that a completed write would give. -/
def contentOk (s : State) (row : Row) (bar : Option Nat) (sub off : Nat) (bytes new : List Byte) : Bool :=
  match row.idx, bar with
  | 0x3100, some b => new.length == 2048 && tableFits s b (okey 0x3100 sub) new.length
  | 0x3210, some b => new.length == 8192 && tableFits s b (okey 0x3210 sub) new.length
  | 0x3110, some b => tileOk s sub new && tableFits s b (okey 0x3110 sub) new.length
  | 0x3400, some b => (ownWritten s b sub 2 off bytes.length).all (fun k => entryOk (entryAt new k))
  | 0x3420, _ => new.length == 16 && volOk s sub new
  | 0x4202, some b => (ownWritten s b sub 1 off bytes.length).all (fun k => decide ((byteAt new k).toNat < 64))
  | 0x4810, _ => eqOk new
  | 0x9040, _ => decide (4 ≤ new.length)
  | 0xA102, _ => cmpListOk s sub new
  | 0xB020, _ => railOk new
  | 0xC110, _ => ictOk s.test.ictCells new
  | _, _ => true

/-- R296: the extension is RUNNING. -/
def imageBusy (s : State) (row : Row) (sub : Nat) : Bool := row.idx == 0x9040 && extRunning s sub

/-- R398: store a key and set its presence. -/
def storeKey (row : Row) (bar : Option Nat) (sub : Nat) (bytes : List Byte) (s : State) : State :=
  match bar with
  | some b => s.modBar b (fun x => { x with keys := x.keys.set sub bytes })
  | none => s.modMram (fun m => { m with keys := m.keys.set (if row.idx = 0x1121 then 16 + sub else sub) bytes })

/-- R116: count one violation of the bar for a write that touches entries not its own; not for a supervisor (R394). -/
def partViolation (who : Who) (s : State) : State :=
  match who with
  | .super _ => s
  | _ => violation who s

/-- R340: the AVS and DOZE_OFF flags of the table in force follow at once, entry by entry. -/
def flagTable (bs table : List Byte) : List Byte :=
  (List.range (railCount table)).foldl (fun t e =>
    if e < railCount bs then
      overwrite t (16 + 16 * e + 12) [BitVec.ofNat 8 (bitsN (railByte t e 12) 2 2 * 4 + bitsN (railByte bs e 12) 1 0)]
    else t) table

def railFlags (s : State) (bs : List Byte) : State := s.modPower (fun p => { p with table := flagTable bs p.table })

/-- Store the new content of a wide object. -/
def storeWide (who : Who) (row : Row) (bar : Option Nat) (sub off : Nat) (bytes new : List Byte) (s : State) : State :=
  if isKey row.idx then storeKey row bar sub bytes s
  else match row.idx, bar with
  | 0x9040, _ => setExtStatus sub 0 1 (s.setDw row.idx sub new)
  | 0xB020, _ => railFlags (s.modMram (fun m => { m with railTable := new })) new
  | _, some b =>
    if row.acc = .stg then
      let w := entryWidth row.idx
      if w = 0 then
        let s := if isTable (okey row.idx sub) then putTable b 2 (okey row.idx sub) new.length s else s
        sramJudge b (openHostSet b (okey row.idx sub) (.wide new) s)
      else
        let s := if touchesForeign s b sub w off bytes.length then partViolation who s else s
        openHostSet b (okey row.idx sub) (.wide (ownMerge s b sub w (s.curW b row.idx sub) new)) s
    else s.setBw b row.idx sub new
  | _, none => s.setDw row.idx sub new

/-- R42: a completed block write of bytes at `off`: its status and the state. -/
def wideEffect (who : Who) (row : Row) (bar : Option Nat) (sub off : Nat) (bytes : List Byte) (s : State) : Nat × State :=
  if imageBusy s row sub then (stState, s)
  else
    let new := written s row bar sub off bytes
    if contentOk s row bar sub off bytes new then (stOK, storeWide who row bar sub off bytes new s) else (stRange, s)

/-- A whole block write through a door at its completion: its status and the state. -/
def blockWrite (door : Door) (idx sub off : Nat) (bytes : List Byte) (s : State) : Nat × State :=
  match whoIs s door with
  | none => (stAuth, s)
  | some who =>
    match blockGrant s door true idx sub off bytes.length with
    | .fail c => (c, recordStatus door idx sub c s)
    | .hidden v => (stOK, if v then violation who s else s)
    | .ok row bar dsub =>
      let r := wideEffect who row bar dsub off bytes s
      (r.1, recordStatus door idx sub r.1 r.2)

end Sys2Proof.Machine
end

