-- ==== Sys2Proof/Machine/Compare.lean ====
section
/-!
DEFINITION. Compare outputs (R321 to R323): list targets, page marks, manual pulses.
-/
namespace Sys2Proof.Machine
open Sys2Proof

/-- A100 MODE. -/
def cmpMode (s : State) (k : Nat) : Nat := bitsN (s.dv 0xA100 k) 1 0
/-- A100 SOURCE. -/
def cmpSource (s : State) (k : Nat) : Nat := bitsN (s.dv 0xA100 k) 5 2
/-- A100 DIR: descending. -/
def cmpDown (s : State) (k : Nat) : Bool := bitN (s.dv 0xA100 k) 6
/-- The list of output `k`. -/
def cmpList (s : State) (k : Nat) : List Byte := (s.dwide 0xA102 k).getD []

/-- R323, Table 11-1: is compare output `k` active at its ball? Every unit runs its lists; only the holder drives the balls. -/
def cmpActive (s : State) (k : Nat) : Bool := holder s && (s.cmp k).until_.isSome

/-- A100 POL: the level of the ball. -/
def cmpBall (s : State) (k : Nat) : Bool := cmpActive s k != bitN (s.dv 0xA100 k) 7

/-- Start a pulse, or extend the one asserted. -/
def cmpFire (k : Nat) (s : State) : State :=
  let on := (s.cmp k).until_.isSome
  let s := s.modCmp k (fun x => { x with until_ := some (s.now + s.dv 0xA101 k), lowUntil := none })
  if on then s else s.setDv 0xA106 k ((s.dv 0xA106 k + 1) % 2 ^ 32)

/-- Does motion from `old` to `new` reach or pass `t` in the direction of DIR? -/
def cmpHits (down : Bool) (old new t : Int) : Bool :=
  if down then decide (new ≤ t) && decide (t < old) else decide (old < t) && decide (t ≤ new)

/-- The list entries from `i` on that the motion reaches: the index after them and the last target reached. -/
def cmpWalk (bs : List Byte) (down : Bool) (old new : Int) : Nat → Nat → Option Int → Nat × Option Int
  | 0, i, p => (i, p)
  | fuel + 1, i, p =>
    if i < bs.length / 8 ∧ cmpHits down old new (cmpEntry bs i) then cmpWalk bs down old new fuel (i + 1) (some (cmpEntry bs i))
    else (i, p)

/-- R321: the targets after the list, `p` being the last one reached: the last one that the motion reaches. -/
def cmpPeriodic (period old new p : Int) : Int :=
  if period = 0 ∨ !cmpHits (decide (period < 0)) old new (p + period) then p
  else p + period * (((new - p).natAbs / period.natAbs : Nat) : Int)

/-- R321: the source of output `k` moves. -/
def cmpMove (k : Nat) (old new : Int) (s : State) : State :=
  let bs := cmpList s k
  let x := s.cmp k
  let r := cmpWalk bs (cmpDown s k) old new 256 x.index x.next
  let p := if r.1 < bs.length / 8 then r.2 else r.2.map (cmpPeriodic (s.dvi 0xA103 k) old new)
  if r.1 = x.index ∧ p = x.next then s
  else cmpFire k (s.modCmp k (fun c => { c with index := r.1, next := p }))

/-- R321: source `src` moves from `old` to `new`. -/
def cmpMotion (src : Nat) (old new : Int) (s : State) : State :=
  if old = new then s
  else forAll ((List.range 8).filter (fun k => cmpMode s k == 1 && cmpSource s k == src)) (fun k s => cmpMove k old new s) s

/-- R322: a page-mark request of bar `b` at one output. -/
def cmpMarkOne (b k : Nat) (s : State) : State :=
  let x := s.cmp k
  if x.until_.isSome || x.lowUntil.isSome then
    if x.waiting < 16 then s.modCmp k (fun c => { c with waiting := c.waiting + 1 })
    else postD .cmpMissed 0 (leBytes 1 k ++ leBytes 1 b) (s.bump 0xA107 k)
  else cmpFire k s

/-- R209, R322: a page-mark request of bar `b`. -/
def cmpMark (b : Nat) (s : State) : State :=
  forAll ((List.range 8).filter (fun k => cmpMode s k == 2 && bitN (s.dv 0xA100 k) (8 + b))) (cmpMarkOne b) s

/-- CMP_PULSE_END (R322): a waiting request starts its low time. -/
def execCmpPulseEnd (dt : Nat) (k : Fin 8) (s : State) : Host.Outcome State Fault Refusal :=
  run dt s (fun s =>
    match (s.cmp k).until_ with
    | some t =>
      if t ≤ s.now then
        s.modCmp k (fun x => { x with
          until_ := none, lowUntil := if 0 < x.waiting then some (s.now + s.dv 0xA101 k) else none })
      else s
    | none => s)

/-- CMP_LOW_TIME_END (R322): the next waiting request starts its pulse. -/
def execCmpLowTimeEnd (dt : Nat) (k : Fin 8) (s : State) : Host.Outcome State Fault Refusal :=
  run dt s (fun s =>
    match (s.cmp k).lowUntil with
    | some t =>
      if t ≤ s.now then cmpFire k (s.modCmp k (fun x => { x with lowUntil := none, waiting := x.waiting - 1 })) else s
    | none => s)

/-- A105 CMP_CMD (R321 to R323). -/
def cmpCommand : Effect := fun row bar sub w s =>
  if w = 1 ∨ w = 2 then
    holderOnly (fun _ _ k w s =>
      if w = 1 then (stOK, s.modCmp k (fun x => { x with index := 0, next := none }))
      else (stOK, if cmpMode s k = 3 then cmpFire k s else s)) row bar sub w s
  else (stRange, s)

/-- CMP_RESTART (R321, R323). -/
def execCmpRestart (dt : Nat) (door : Door) (k : Fin 8) (s : State) : Host.Outcome State Fault Refusal :=
  run dt s (writeThrough door 0xA105 k 1 cmpCommand)

/-- CMP_PULSE (R322, R323). -/
def execCmpPulse (dt : Nat) (door : Door) (k : Fin 8) (s : State) : Host.Outcome State Fault Refusal :=
  run dt s (writeThrough door 0xA105 k 2 cmpCommand)

/-- CMP_LIST_WRITE (R321): the block write of a whole list completes. -/
def execCmpListWrite (dt : Nat) (door : Door) (k : Fin 8) (bytes : List Byte) (s : State) : Host.Outcome State Fault Refusal :=
  run dt s (fun s => (blockWrite door 0xA102 k 0 bytes s).2)

end Sys2Proof.Machine
end

