-- ==== Sys2Proof/Machine/Motion.lean ====
section
/-!
DEFINITION. Stepper axes and SSI feedback (R311 to R320): commands, the profile generator, limits, homing, stops, the
following check, and taking over from the partner.
-/
namespace Sys2Proof.Machine
open Sys2Proof

/-- Sub-units of a step in `Axis.pos`, and of a step/s in `Axis.vel`. -/
def stepUnit : Int := 1000000000000
def velUnit : Int := 1000000

/-- AX_POS: the step count nearest the position. -/
def Axis.steps (x : Axis) : Int := (x.pos + stepUnit / 2) / stepUnit

/-- AX_STATUS.MOVING. -/
def Axis.moving (x : Axis) : Bool := x.mode != .idle || x.vel != 0

def axCfg (s : State) (n i : Nat) : Bool := bitN (s.dv 0xA000 n) i

/-- AX_POS in 8 bytes. -/
def stepsBytes (v : Int) : List Byte := leBytes 8 (ofSigned 64 v)

/-- Post AX_STOP (Table 14-3). -/
def postStop (n cause : Nat) (hard : Bool) (s : State) : State :=
  let x := s.axis n
  postD .axStop (b2n hard + 2 * b2n x.uncertain) (leBytes 1 n ++ leBytes 1 cause ++ stepsBytes x.steps) s

/-- Table 11-3: mirror an axis's move: its target and its profile. -/
def mirrorAxis (n : Nat) (s : State) : State :=
  let x := s.axis n
  let p (idx : Nat) : BitVec 32 := BitVec.ofNat 32 (s.dv idx n)
  mirror (.axis (Fin.ofNat 8 n) (BitVec.ofInt 64 (x.target / stepUnit)) x.moving (p 0xA001) (p 0xA002) (p 0xA004)) s

/-- Step output ends at once; `fast`: POSITION_UNCERTAIN is set. -/
def stopNow (n cause : Nat) (fast : Bool) (s : State) : State :=
  let s := s.modAxis n (fun x => { x with
    mode := .idle, vel := 0, acc := 0, next := none, uncertain := x.uncertain || fast })
  mirrorAxis n (postStop n cause true s)

/-- R316: a hard stop, which leaves the position uncertain above AX_START_RATE. -/
def stopHard (n cause : Nat) (s : State) : State :=
  stopNow n cause (decide (((s.dv 0xA005 n : Nat) : Int) * velUnit < (s.axis n).vel.natAbs)) s

/-- R316: decelerate to zero; AX_STOP is posted when the axis stands. `decel` in steps/s². -/
def stopRamp (n cause decel : Nat) (s : State) : State :=
  if (s.axis n).moving then
    s.modAxis n (fun x => { x with mode := .stop, cause := cause, decel := decel, next := none, acc := 0 })
  else s

/-- The deceleration of STOP_RAMP (R316). -/
def stopDecel (s : State) (n : Nat) : Nat := if s.dv 0xA003 n = 0 then s.dv 0xA002 n else s.dv 0xA003 n

/-- R316: a moving axis stops on entry to SAFE as SAFE_STOP selects. -/
def safeStop (n : Nat) (s : State) : State :=
  if (s.axis n).moving then
    if axCfg s n 9 then stopHard n 3 s else stopRamp n 3 (stopDecel s n) s
  else s

/-! ### Commands -/

/-- Does command `c` (Table 14-6) move the axis? -/
def isMove (c : Nat) : Bool := [1, 2, 3, 4, 7].contains c

/-- The direction in which command `c` would move the axis: 1, -1 or 0. -/
def moveDir (s : State) (n c : Nat) : Int :=
  let x := s.axis n
  match c with
  | 1 => (s.dvi 0xA006 n - x.steps).sign
  | 2 => (s.dvi 0xA006 n).sign
  | 3 => 1
  | 4 => -1
  | 7 => (s.dvi 0xA00B n).sign
  | _ => 0

/-- R315: a limit input counts while it is enabled: the positive one. -/
def limitP (s : State) (n : Nat) : Bool := axCfg s n 4 && (s.axis n).atP

/-- R315: the negative one. -/
def limitN (s : State) (n : Nat) : Bool := axCfg s n 5 && (s.axis n).atN

/-- R315: the limits refuse motion in direction `d`. -/
def limitsBar (s : State) (n : Nat) (d : Int) : Bool :=
  (limitP s n && limitN s n) || (limitP s n && d == 1) || (limitN s n && d == -1)

/-- R315: an asserted limit refuses the command. -/
def limitRefuses (s : State) (n c : Nat) : Bool := isMove c && limitsBar s n (moveDir s n c)

/-- R311, R315, R319: is the command accepted by the holder now? -/
def axAllowed (s : State) (n c : Nat) : Bool :=
  axCfg s n 0 && (s.devState == .config || s.devState == .ready || s.devState == .print) &&
  !((s.axis n).uncertain && decide (c ≤ 4)) && !limitRefuses s n c && !(c == 9 && (s.axis n).ssiFault)

/-- R319: the SSI position of an axis from a raw reading. -/
def ssiPosition (s : State) (n : Nat) (raw : Nat) : Int :=
  s.dvi 0xA026 n + toSigned 32 (s.dv 0xA025 n) * (raw : Int) / 65536

/-- The SSI port of an axis. -/
def ssiPort (s : State) (n : Nat) : Nat := bitsN (s.dv 0xA000 n) 12 11

/-- An accepted command at once: stops and position settings act now, moves at the next update (R312, R313). -/
def axDo (n c : Nat) (s : State) : State :=
  match c with
  | 5 => stopRamp n 1 (stopDecel s n) s
  | 6 => if (s.axis n).moving then stopHard n 1 s else s
  | 8 => s.modAxis n (fun x => { x with pos := s.dvi 0xA006 n * stepUnit, uncertain := false })
  | 9 => s.modAxis n (fun x => { x with
      pos := ssiPosition s n (s.dv 0xA023 (ssiPort s n)) * stepUnit, uncertain := false, followErr := false })
  | _ => s.modAxis n (fun x => { x with next := some c })

/-- R311, R314: a write of AX_CMD. -/
def axCommand : Effect := fun row bar sub w s =>
  let c := bitsN w.toNat 6 0
  if c = 0 ∨ 9 < c then (stRange, s)
  else
    holderOnly (fun _ _ n _ s =>
      if axAllowed s n c then
        if bitN w.toNat 7 then (stOK, s.modAxis n (fun x => { x with armed := some c }))
        else
          let s := if isMove c && c != 7 then s.modAxis n (fun x => { x with armed := none }) else s
          (stOK, axDo n c s)
      else (stState, s)) row bar sub w s

/-- A write of AX_CMD through a door. -/
def axWrite (door : Door) (n c : Nat) (s : State) : State := writeThrough door 0xA007 n (BitVec.ofNat 64 c) axCommand s

/-- AX_MOVE_ABS (R311, R313). -/
def execAxMoveAbs (dt : Nat) (door : Door) (axis : Fin 8) (s : State) : Host.Outcome State Fault Refusal :=
  run dt s (axWrite door axis 1)
/-- AX_MOVE_REL (R311, R313). -/
def execAxMoveRel (dt : Nat) (door : Door) (axis : Fin 8) (s : State) : Host.Outcome State Fault Refusal :=
  run dt s (axWrite door axis 2)
/-- AX_JOG_POS (R311, R313). -/
def execAxJogPos (dt : Nat) (door : Door) (axis : Fin 8) (s : State) : Host.Outcome State Fault Refusal :=
  run dt s (axWrite door axis 3)
/-- AX_JOG_NEG (R311, R313). -/
def execAxJogNeg (dt : Nat) (door : Door) (axis : Fin 8) (s : State) : Host.Outcome State Fault Refusal :=
  run dt s (axWrite door axis 4)
/-- AX_STOP_RAMP (R316). -/
def execAxStopRamp (dt : Nat) (door : Door) (axis : Fin 8) (s : State) : Host.Outcome State Fault Refusal :=
  run dt s (axWrite door axis 5)
/-- AX_STOP_HARD (R316). -/
def execAxStopHard (dt : Nat) (door : Door) (axis : Fin 8) (s : State) : Host.Outcome State Fault Refusal :=
  run dt s (axWrite door axis 6)
/-- AX_HOME (R317). -/
def execAxHome (dt : Nat) (door : Door) (axis : Fin 8) (s : State) : Host.Outcome State Fault Refusal :=
  run dt s (axWrite door axis 7)
/-- AX_SET_POS (R311, R316). -/
def execAxSetPos (dt : Nat) (door : Door) (axis : Fin 8) (s : State) : Host.Outcome State Fault Refusal :=
  run dt s (axWrite door axis 8)
/-- AX_SET_FROM_SSI (R319). -/
def execAxSetFromSsi (dt : Nat) (door : Door) (axis : Fin 8) (s : State) : Host.Outcome State Fault Refusal :=
  run dt s (axWrite door axis 9)
/-- AX_ARM (R314): AX_CMD with bit 7 set. -/
def execAxArm (dt : Nat) (door : Door) (axis : Fin 8) (cmd : BitVec 7) (s : State) : Host.Outcome State Fault Refusal :=
  run dt s (axWrite door axis (128 + cmd.toNat))

/-- R314: every armed axis starts at the same update. -/
def startArmed (s : State) : State :=
  forAll (List.range 8) (fun n s =>
    match (s.axis n).armed with
    | some c => axDo n c (s.modAxis n (fun x => { x with armed := none }))
    | none => s) s

/-- A010.00 AX_START: 1 starts (R314); holder only (Table 14-2). -/
def axStartEffect : Effect := holderOnly (fun _ _ _ w s => (stOK, if w = 1 then startArmed s else s))

/-- AX_START (R314). -/
def execAxStart (dt : Nat) (door : Door) (val : Slot) (s : State) : Host.Outcome State Fault Refusal :=
  run dt s (writeThrough door 0xA010 0 val axStartEffect)

/-! ### The profile generator -/

/-- Newton steps for the integer square root. -/
def sqrtStep (n : Nat) : Nat → Nat → Nat
  | 0, x => x
  | k + 1, x => if x = 0 then 0 else sqrtStep n k (min x ((x + n / x) / 2))

/-- The integer square root. -/
def isqrt (n : Nat) : Nat := sqrtStep n 80 (2 ^ (Nat.log2 n / 2 + 1))

/-- Distance, in 10^-12 steps, to stop from speed `v` (10^-6 steps/s, nonnegative) with no acceleration, under the
limits `acc` (steps/s²) and `jerk` (steps/s³, 0: none). -/
def stopDistance (v acc jerk : Nat) : Nat :=
  if jerk = 0 then v * v / (2 * acc)
  else if acc * acc * 1000000 ≤ v * jerk then v * v / (2 * acc) + v * acc * 1000000 / (2 * jerk)
  else v * isqrt (v * 1000000 / jerk)

/-- Speed gained while acceleration `a` (10^-6 steps/s²) falls to zero at `jerk`, or lost while it rose to `a`. -/
def speedTail (a jerk : Nat) : Nat := if jerk = 0 then 0 else a * a / (2 * jerk * 1000000)

/-- Distance to stop from speed `v` with acceleration `a` (10^-6 steps/s², signed along the motion): a positive one first
falls to zero; a negative one is the middle of a stop that began at a greater speed. -/
def stopFrom (v : Nat) (a : Int) (acc jerk : Nat) : Nat :=
  let b := a.natAbs
  if jerk = 0 ∨ b = 0 then stopDistance v acc jerk
  else
    let v1 := v + speedTail b jerk
    if 0 < a then v * b / jerk + b * b * b / (3 * jerk * jerk * 1000000) + stopDistance v1 acc jerk
    else stopDistance v1 acc jerk - (v1 * b / jerk - b * b * b / (6 * jerk * jerk * 1000000))

/-- The speed and acceleration one update later under acceleration `a`, the speed not below zero. -/
def speedAfter (v : Nat) (a : Int) : Nat × Int :=
  let v' : Int := (v : Int) + a / 1000000
  if v' ≤ 0 then (0, 0) else (v'.toNat, a)

/-- One update along the direction of motion: the speed and acceleration that the limits allow next, the greatest that can
still stop within `d` (assumption log 25). -/
def nextSpeed (v : Nat) (a : Int) (d vmax acc jerk : Nat) : Nat × Int :=
  let ok (r : Nat × Int) : Bool :=
    decide (r.1 + (if 0 < r.2 then speedTail r.2.natAbs jerk else 0) ≤ vmax) &&
    decide (r.1 + stopFrom r.1 r.2 acc jerk ≤ d)
  if jerk = 0 then
    let up := if vmax < v then max vmax (v - acc) else min vmax (v + acc)
    if ok (up, 0) then (up, 0)
    else if ok (v, 0) then (v, 0)
    else (v - acc, 0)
  else
    let top : Int := acc * 1000000
    let up := speedAfter v (min top (a + jerk))
    let hold := speedAfter v a
    let down := speedAfter v (max (-top) (a - jerk))
    if ok up then up else if ok hold then hold else down

/-- Speed toward zero by `decel` steps/s² in 1 µs. -/
def slower (v : Int) (decel : Nat) : Int :=
  if v.natAbs ≤ decel then 0 else if 0 < v then v - decel else v + decel

/-- The remaining distance within which a slow axis is set on its target. -/
def landing (acc jerk : Nat) (v d : Nat) : Bool :=
  if jerk = 0 then decide (d ≤ 2 * acc) && decide (v ≤ 2 * acc)
  else decide (d ≤ 100000000000) && decide (v ≤ 1000000000)

/-- R312: one 1 µs update of an axis toward `target`. Answers the axis and whether it has arrived. -/
def moveTick (x : Axis) (vmax acc jerk : Nat) : Axis × Bool :=
  let d := x.target - x.pos
  let dir := if d = 0 then (if 0 ≤ x.vel then 1 else -1) else d.sign
  let along := x.vel * dir
  if landing acc jerk x.vel.natAbs d.natAbs then ({ x with pos := x.target, vel := 0, acc := 0, mode := .idle }, true)
  else if along < 0 then
    let v := slower x.vel acc
    ({ x with vel := v, acc := 0, pos := x.pos + v }, false)
  else
    let r := nextSpeed along.toNat (x.acc * dir) d.natAbs vmax acc jerk
    ({ x with vel := (r.1 : Int) * dir, acc := r.2 * dir, pos := x.pos + (r.1 : Int) * dir }, false)

/-- Speed toward `v` by `acc` in 1 µs. -/
def toward (cur v : Int) (acc : Nat) : Int :=
  if (v - cur).natAbs ≤ acc then v else if cur < v then cur + acc else cur - acc

/-- R312, R387: the greatest step rate of an axis: AX_VMAX, 4,000,000 steps/s, or what AX_STEP_WIDTH and the low time of 50 ns
allow. -/
def axVmax (s : State) (n : Nat) : Nat := min (s.dv 0xA001 n) (min 4000000 (Config.second / (s.dv 0xA00D n + 50)))

/-- R312: one 1 µs update of an axis that runs toward velocity `v` (JOG, HOME); one that runs the other way first slows to
zero. -/
def runTick (x : Axis) (v : Int) (acc jerk : Nat) : Axis :=
  if jerk = 0 then
    let w := toward x.vel v acc
    { x with vel := w, pos := x.pos + w }
  else if x.vel * v.sign < 0 then
    let w := slower x.vel acc
    { x with vel := w, acc := 0, pos := x.pos + w }
  else
    let r := nextSpeed x.vel.natAbs (x.acc * v.sign) (10 ^ 40) v.natAbs acc jerk
    { x with vel := (r.1 : Int) * v.sign, acc := r.2 * v.sign, pos := x.pos + (r.1 : Int) * v.sign }

/-- R317: the velocity of HOME, within the limit of R387. -/
def homeVel (s : State) (n : Nat) : Int :=
  let v := s.dvi 0xA00B n
  v.sign * ((min v.natAbs (axVmax s n) : Nat) : Int)

/-- R317: HOME with HOME_EN 0 fails; an axis in motion ramps down first. -/
def homeFails (n : Nat) (s : State) : State :=
  if (s.axis n).vel = 0 then postStop n 5 false (s.modAxis n (fun x => { x with mode := .idle, acc := 0 }))
  else stopRamp n 5 (stopDecel s n) s

/-- R313, R317: an update takes up the accepted command. -/
def takeCommand (s : State) (n c : Nat) (x : Axis) : Axis :=
  let x := { x with next := none }
  match c with
  | 1 => { x with mode := .move, target := s.dvi 0xA006 n * stepUnit }
  | 2 => { x with mode := .move, target := (x.steps + s.dvi 0xA006 n) * stepUnit }
  | 3 => { x with mode := .jog, target := 1 }
  | 4 => { x with mode := .jog, target := -1 }
  | 7 => { x with mode := .home }
  | _ => x

/-- R316, R317: the axis stands at the end of a stop or of homing. -/
def stopEnd (n : Nat) (was : AxMode) (s : State) : State :=
  let s := s.modAxis n (fun x => { x with mode := .idle, vel := 0, acc := 0 })
  let s := mirrorAxis n s
  if was = .homed then
    raiseSource (0x20 + n) (postD .axDone 0 (leBytes 1 n ++ stepsBytes (s.axis n).steps) s)
  else postStop n (s.axis n).cause false s

/-- R312: one update of axis `n` in motion. -/
def axisTick (n : Nat) (s : State) : State :=
  let x := s.axis n
  match x.mode with
  | .idle => s
  | .move =>
    let r := moveTick x (axVmax s n * 1000000) (s.dv 0xA002 n) (s.dv 0xA004 n)
    let s := s.modAxis n (fun _ => r.1)
    if r.2 then
      raiseSource (0x20 + n) (postD .axDone 0 (leBytes 1 n ++ stepsBytes r.1.steps) (mirrorAxis n s))
    else s
  | .jog =>
    s.modAxis n (fun x => runTick x (x.target * (axVmax s n : Int) * velUnit) (s.dv 0xA002 n) (s.dv 0xA004 n))
  | .home =>
    if axCfg s n 6 then s.modAxis n (fun x => runTick x (homeVel s n * velUnit) (s.dv 0xA002 n) (s.dv 0xA004 n))
    else homeFails n s
  | m =>
    let v := slower x.vel x.decel
    let s := s.modAxis n (fun x => { x with vel := v, pos := x.pos + v })
    if v = 0 then stopEnd n m s else s

/-- R314, R315: an accepted command is taken up, unless a limit now stands against it. -/
def axisUpdate (n : Nat) (s : State) : State :=
  match (s.axis n).next with
  | some c =>
    if limitRefuses s n c then postStop n 2 true (s.modAxis n (fun x => { x with next := none }))
    else axisTick n (mirrorAxis n (s.modAxis n (takeCommand s n c)))
  | none => axisTick n s

/-! ### Inputs -/

/-- R315, R317: the axis is stopped by a limit in the direction of its motion. Homing that fails leaves POSITION_UNCERTAIN as
it was (DEDUCED, assumption log 25). -/
def limitStop (n : Nat) (s : State) : State :=
  let homing := (s.axis n).mode == .home
  let cause := if homing then 5 else 2
  if axCfg s n 8 then stopRamp n cause (stopDecel s n) s
  else if homing then stopNow n cause false s
  else stopHard n cause s

/-- Which way the axis moves, or is about to. -/
def Axis.heading (x : Axis) : Int := if x.vel ≠ 0 then x.vel.sign else (x.target - x.pos).sign

/-- AX_LIMIT_INPUT (R315, R317). -/
def execAxLimitInput (dt : Nat) (axis : Fin 8) (positive : Bool) (s : State) : Host.Outcome State Fault Refusal :=
  run dt s (fun s =>
    let s := s.modAxis axis (fun x => if positive then { x with atP := true } else { x with atN := true })
    if axCfg s axis (if positive then 4 else 5) then
      let x := s.axis axis
      let s := if x.moving && x.heading == (if positive then 1 else -1) then limitStop axis s else s
      if limitP s axis && limitN s axis && !x.both then
        postStop axis 2 true (s.modAxis axis (fun x => { x with both := true }))
      else s
    else s)

/-- AX_LIMIT_RELEASE (R315). -/
def execAxLimitRelease (dt : Nat) (axis : Fin 8) (positive : Bool) (s : State) : Host.Outcome State Fault Refusal :=
  run dt s (fun s => s.modAxis axis (fun x =>
    if positive then { x with atP := false, both := false } else { x with atN := false, both := false }))

/-- AX_HOME_EDGE (R317): the position at the edge is AX_HOME_OFFSET; the axis ramps down. -/
def execAxHomeEdge (dt : Nat) (axis : Fin 8) (s : State) : Host.Outcome State Fault Refusal :=
  run dt s (fun s =>
    if (s.axis axis).mode = .home ∧ axCfg s axis 6 then
      s.modAxis axis (fun x => { x with
        pos := s.dvi 0xA00C axis * stepUnit, mode := .homed, decel := stopDecel s axis
        uncertain := false, homed := true })
    else s)

/-- R320: the rate of the last 4 steps counted, in 10^-6 steps/s. -/
def observedVel (s : State) (x : Axis) : Int :=
  match x.seen[0]?, x.seen[4]? with
  | some t0, some t4 =>
    if t0 ≤ t4 ∨ Config.second / 10 ≤ s.now - t0 then 0
    else (if x.seenDir then 1 else -1) * ((4 * Config.second * 1000000 / (t0 - t4) : Nat) : Int)
  | _, _ => 0

/-- Table 11-3: the mirrored profile of an axis replaces its own at takeover. -/
def mirroredProfile (n : Nat) (s : State) : State :=
  match (s.axis n).mirrorProfile with
  | some (v, a, j) => (((s.setDv 0xA001 n v).setDv 0xA002 n a).setDv 0xA004 n j).modAxis n (fun x => { x with mirrorProfile := none })
  | none => s

/-- R273, R320: an axis that was moving is taken over into a ramped stop. -/
def takeoverAxis (n : Nat) (s : State) : State :=
  let s := mirroredProfile n s
  let x := s.axis n
  let v := observedVel s x
  if x.mirrorMoving || v != 0 then
    s.modAxis n (fun x => { x with
      vel := v, acc := 0, mode := .stop, cause := 4, decel := s.dv 0xA002 n, armed := none, next := none
      uncertain := x.uncertain || decide (((s.dv 0xA005 n : Nat) : Int) * velUnit < v.natAbs)
      mirrorMoving := false, seen := [] })
  else s.modAxis n (fun x => { x with armed := none, next := none })

/-! ### SSI -/

/-- The axes that use SSI port `p`. -/
def ssiAxes (s : State) (p : Nat) : List Nat := (List.range 8).filter (fun n => axCfg s n 10 && ssiPort s n == p)

/-- SSI_PERIOD_TICK (R318, R386): a read of an enabled port begins. -/
def execSsiPeriodTick (dt : Nat) (port : Fin 4) (s : State) : Host.Outcome State Fault Refusal :=
  run dt s (fun s =>
    if bitN (s.dv 0xA020 port) 6 && !(s.ssi port).busy then
      s.modSsi port (fun x => { x with
        busy := true, latched := (ssiAxes s port).map (fun n => (n, (s.axis n).steps)) })
    else s)

/-- R319: the following check of an axis at a valid frame. -/
def followCheck (p raw : Nat) (n : Nat) (s : State) : State :=
  let lim := s.dv 0xA027 n
  let diff := (s.ssi p).latched.getD n (s.axis n).steps - ssiPosition s n raw
  if lim ≠ 0 ∧ lim < diff.natAbs then
    let s := stopRamp n 6 (stopDecel s n) (s.modAxis n (fun x => { x with followErr := true }))
    postD .axFollow 0 (leBytes 1 n ++ stepsBytes diff) s
  else s

/-- R318: a valid frame. -/
def ssiValid (p raw : Nat) (s : State) : State :=
  let bits := bitsN (s.dv 0xA020 p) 4 0 + 8
  let v := raw % 2 ^ bits
  let v := if bitN (s.dv 0xA020 p) 5 then
      (List.range bits).foldl (fun acc i => acc ^^^ (v / 2 ^ i)) 0
    else v
  let s := s.setDv 0xA023 p v
  let faulted := decide (3 ≤ (s.ssi p).bad)
  let s := s.modSsi p (fun x => { x with bad := 0 })
  let s := if faulted then
      let s := forAll (ssiAxes s p) (fun n s => s.modAxis n (fun x => { x with ssiFault := false })) s
      postD .ssiError 1 (leBytes 1 p ++ leBytes 4 (s.dv 0xA024 p)) s
    else s
  forAll (ssiAxes s p) (followCheck p v) s

/-- R318: an invalid frame; at the third in a row SSI_FAULT. -/
def ssiInvalid (p : Nat) (s : State) : State :=
  let s := (s.bump 0xA024 p).modSsi p (fun x => { x with bad := x.bad + 1 })
  if (s.ssi p).bad = 3 then
    let s := forAll (ssiAxes s p) (fun n s =>
      stopRamp n 7 (stopDecel s n) (s.modAxis n (fun x => { x with ssiFault := true }))) s
    postD .ssiError 0 (leBytes 1 p ++ leBytes 4 (s.dv 0xA024 p)) s
  else s

/-- SSI_FRAME_DONE (R318, R319). -/
def execSsiFrameDone (dt : Nat) (port : Fin 4) (raw : BitVec 32) (idleHigh endLow : Bool) (s : State) :
    Host.Outcome State Fault Refusal :=
  run dt s (fun s =>
    if (s.ssi port).busy then
      let s := s.modSsi port (fun x => { x with busy := false })
      if idleHigh && endLow then ssiValid port raw.toNat s else ssiInvalid port s
    else s)

end Sys2Proof.Machine
end

