-- ==== Sys2Proof/Machine/States.lean ====
section
/-!
DEFINITION. Device states and bar states (R56 to R59, Tables 02-9 to 02-11), the end of a page (R203, R204, R209), WEB_SLOW
(R199), disabling head supplies (R325), and entry to SAFE (R57, R204, R316, R325).
-/
namespace Sys2Proof.Machine
open Sys2Proof

/-- Table 02-11. -/
def VbState.code : VbState → Nat
  | .off => 0 | .armed => 1 | .printing => 2 | .held => 3

/-- Table 14-1. -/
def SupplyState.code : SupplyState → Nat
  | .off => 0 | .dead => 1 | .blank => 2 | .on => 3 | .tripped => 4

/-! ### WEB_SLOW (R199) -/

/-- The bars whose late page has not started. -/
def lateBars (s : State) : List Nat :=
  s.barsWithCols.filter (fun b =>
    bitN (s.bar b).scan.nextBits 2 || (notStarted s b).any (fun p => bitN p.status 2))

/-- A late page of bar `b` asks for WEB_SLOW: only the holder asserts it. -/
def webSlowAsk (b : Nat) (s : State) : State :=
  if holder s && s.webSlow.isNone then
    postD .webSlow 0 (leBytes 1 b ++ leBytes 3 0 ++ leBytes 8 s.trig.line) { s with webSlow := some (s.now, b) }
  else s

/-- Release WEB_SLOW once no late page waits and WEB_SLOW_MIN has passed. -/
def webSlowJudge (s : State) : State :=
  match s.webSlow with
  | some (t, b) =>
    if (lateBars s).isEmpty ∧ t + s.dv 0x5003 0 * Config.milli ≤ s.now then
      postD .webSlow 1 (leBytes 1 b ++ leBytes 3 0 ++ leBytes 8 s.trig.line) { s with webSlow := none }
    else s
  | none => s

/-! ### The device state -/

/-- R58: targets that the new device state refuses lapse. -/
def lapses (st : DevState) (t : VbState) : Bool :=
  match t with
  | .armed | .printing => st == .config || st == .safe || st == .doze
  | .held => st == .config || st == .doze
  | .off => false

def lapseAll (s : State) : State :=
  { s with bars := s.bars.mapVals (fun x => { x with
      waiting := x.waiting.bind (fun t => if lapses s.devState t then none else some t) }) }

/-- Table 16-6: the time of PRINT that ends is added to PRINT_HOURS. -/
def printClock (st : DevState) (s : State) : State :=
  match s.printAt with
  | some t =>
    if st = .print then s else { s.modMram (fun m => { m with printNs := m.printNs + (s.now - t) }) with printAt := none }
  | none => if st = .print then { s with printAt := some s.now } else s

/-- Enter a device state and post DEV_STATE_CHANGE. Cause: 0 host, 1 fault, 2 power. -/
def setDev (st : DevState) (cause : Nat) (s : State) : State :=
  if s.devState = st then s
  else
    let old := s.devState.code
    let s := { printClock st s with devState := st }
    let s := postD .devStateChange 0 (leBytes 1 old ++ leBytes 1 st.code ++ leBytes 1 cause) (lapseAll s)
    mirror (.device (Fin.ofNat 7 st.code)) s

/-! ### The bar state -/

/-- R189: a served bar leaves VB_OFF: lanes in DEEP wake. -/
def wakeLane (p : Nat) (s : State) : State :=
  if (s.port p).st = .deep then
    (sendIdle p (setLane p .wake s)).modPort p (fun x => { x with deepHead := false, dnLock := false })
  else s

/-- R58: slots of pages not started that hold no failure. -/
def discardCount (s : State) (b : Nat) : Nat :=
  ((notStarted s b).map (fun p => (p.slots.vals.filter (fun w => w.failCode == 0)).length)).sum

/-- R79: the source page of a reprint that goes loses one pin. -/
def unpin (b : Nat) (p : Page) (s : State) : State :=
  match p.source with
  | some src => s.modPage b src (fun q => { q with pins := q.pins - 1 })
  | none => s

/-- Engines leave the wagons of pages that are gone. -/
def dropJobs (b : Nat) (gone : List Page) (s : State) : State :=
  { s with engines := s.engines.mapVals (fun e =>
    match e.job with
    | some (x, n, _) => if x = b ∧ gone.any (fun p => p.num == n) then { e with job := none } else e
    | none => e) }

/-- The pages not started, the waybills and the gap of a bar go. -/
def clearBar (b : Nat) (s : State) : State :=
  s.modBar b (fun x => { x with
    pages := x.pages.filter (fun p => p.started || p.cut)
    scan := { x.scan with gapFrom := none, needFirst := false, cutGap := false, nextBits := 0, stripDecided := false, gapUnder := none, readyAt := none, ahead := [] }
    intake := { x.intake with wqHead := x.intake.wqTail, fetchIdx := x.intake.wqTail, inflight := [], expect := none,
                              pageHold := false, calderaNeed := 0 } })

/-- R58: the wagons of pages not started are discarded with their screened lines, and the queues emptied. -/
def emptyBar (b : Nat) (s : State) : State :=
  let gone := notStarted s b
  webSlowJudge (applyQuota b (clearBar b (dropJobs b gone (forAll gone (unpin b) s))))

/-- R58, Table 02-11: a bar enters a state. -/
def moveVb (b : Nat) (st : VbState) (s : State) : State :=
  let old := (s.bar b).vb
  let s := s.modBar b (fun x => { x with vb := st })
  let s := if old = .off then
      let s := placeBar b false (s.modIntake b (fun q => { q with expect := none }))
      forAll (instPorts s b) wakeLane s
    else s
  let s := if st = .printing then
      s.modScan b (fun c => { c with needFirst := true, stripSince := 0 })
    else s
  if st = .off then placeBar b true (emptyBar b s) else s

/-- Is any bar armed or printing? -/
def anyRunning (s : State) : Bool := (List.range 16).any (fun b => (s.bar b).vb == .armed || (s.bar b).vb == .printing)

/-- R58: the device follows its bars between READY and PRINT; a standby follows its mirror alone (R275). -/
def followBars (s : State) : State :=
  if !holder s then s
  else if s.devState == .ready && anyRunning s then setDev .print 0 s
  else if s.devState == .print && !anyRunning s then setDev .ready 0 s
  else s

/-- R58: change VB_STATE and post VB_STATE_CHANGE. -/
def setVb (b : Nat) (st : VbState) (s : State) : State :=
  let old := (s.bar b).vb
  if old = st then s
  else
    let n := if st = .off then discardCount s b else 0
    let s := moveVb b st s
    let s := s.modBar b (fun x => { x with discarded := if st = .off then n else x.discarded })
    let s := postB .vbStateChange b 0 0 (leBytes 1 old.code ++ leBytes 1 st.code ++ leBytes 4 n) s
    followBars (mirror (.bar (Fin.ofNat 16 b) (Fin.ofNat 4 st.code)) s)

/-- R58: every page whose flip line is fixed is printed or cut. -/
def fixedDone (s : State) (b : Nat) : Bool := (s.bar b).pages.all (fun p => p.flip.isNone || p.printed || p.cut)

/-- R58: the state that a bar with target `t` enters now, if any. -/
def moveNow (s : State) (b : Nat) (t : VbState) : Option VbState :=
  let en := s.bo b 0x2000 3 == 1
  match (s.bar b).vb, t with
  | .off, .off => none
  | .off, .held => if en then some .held else none
  | .off, _ => if en then some .armed else none
  | .armed, .armed => none
  | .armed, .printing => some .printing
  | .armed, _ => some .held
  | .printing, .printing => none
  | .printing, .armed => if fixedDone s b then some .armed else none
  | .printing, _ => if fixedDone s b then some .held else none
  | .held, .held => none
  | .held, .off => if fixedDone s b && idleBar s b then some .off else none
  | .held, t => some t

/-- R58: carry a waiting target as far as its conditions allow. -/
def advanceBar (b : Nat) : Nat → State → State
  | 0, s => s
  | fuel + 1, s =>
    match (s.bar b).waiting with
    | none => s
    | some t =>
      match moveNow s b t with
      | some v => advanceBar b fuel (setVb b v s)
      | none => if (s.bar b).vb = t then s.modBar b (fun x => { x with waiting := none }) else s

/-- R58: every waiting target whose condition has become true. -/
def advanceBars (s : State) : State :=
  if !holder s then s
  else forAll ((List.range 16).filter (fun b => (s.bar b).waiting.isSome)) (fun b s => advanceBar b 4 s) s

/-- R59: is the target refused? -/
def vbRefused (s : State) (t : VbState) : Bool :=
  match t with
  | .armed | .printing => s.devState == .config || s.devState == .safe || s.devState == .doze || s.devState == .halted
  | .held => s.devState == .config || s.devState == .doze || s.devState == .halted
  | .off => false

/-- R58, R59: a target for a bar. -/
def targetBar (b : Nat) (t : VbState) (s : State) : Nat × State :=
  if vbRefused s t then (stState, s) else (stOK, advanceBar b 4 (s.modBar b (fun x => { x with waiting := some t })))

/-- Table 02-11: the state of a code. -/
def vbOf : Nat → Option VbState
  | 0 => some .off | 1 => some .armed | 2 => some .printing | 3 => some .held | _ => none

/-! ### The end of a page -/

/-- R203: does the status call for a mark? Bits 0, 1, 14 and 21 of the mask are ignored (R209). -/
def marksPage (s : State) (b status : Nat) : Bool :=
  bitsN (status &&& s.bo b 0x5020 0) 31 0 &&& (0xFFFFFFFF - stStarted - stPrinted - stNotRetained - stMarked) != 0

/-- R203, R204, R209: a page is printed or cut. -/
def pageEnd (b n : Nat) (cut : Bool) (line : Nat) (s : State) : State :=
  let s := s.flagPage b n (if cut then stCut else stPrinted)
  match s.page? b n with
  | none => s
  | some p =>
    let mark := marksPage s b p.status
    let status := if mark then p.status ||| stMarked else p.status
    let s := s.modPage b n (fun q => { q with
      printed := !cut, cut := cut, status := status, endTime := s.time, endLine := line, isOpen := if cut then false else q.isOpen })
    let s := if mark then
        (s.bumpB b 0x5022 1).modScan b (fun c => { c with markReqs := c.markReqs ++ [line + s.bo b 0x5021 0] })
      else s
    let s := s.setBo b 0x5031 0 (n * 2 ^ 32 + status)
    let s := postB .pageDone b n (b2n cut + 2 * b2n mark) (leBytes 4 status ++ leBytes 8 line) s
    retainPrinted b n s

/-! ### Supplies -/

/-- A201: a supply enters a state; HV_STATE_CHANGE is posted. -/
def setSupply (k : Nat) (st : SupplyState) (s : State) : State :=
  let old := (s.supply k).st
  if old = st then s
  else postD .hvStateChange 0 (leBytes 1 k ++ leBytes 1 old.code ++ leBytes 1 st.code) (s.modSupply k (fun x => { x with st := st }))

/-- Table 11-3: the holder mirrors a supply's enable and latch. -/
def mirrorSupply (k : Nat) (s : State) : State :=
  let x := s.supply k
  mirror (.supply (Fin.ofNat 16 k) x.hven (x.st == .tripped)) s

/-- R325: DISABLE: OFF from any state but TRIPPED. -/
def disableSupply (k : Nat) (s : State) : State :=
  if (s.supply k).st = .tripped then s
  else
    let s := s.modSupply k (fun x => { x with hven := false, riseLine := none, riseAt := none, inBlank := false })
    mirrorSupply k (setSupply k .off s)

/-- R325: every supply is disabled. -/
def disableAll (s : State) : State := forAll (List.range 16) disableSupply s

/-! ### SAFE -/

/-- R201, R235: the strips of a bar that `cut` picks are abandoned; one that a port had abandoned has been counted. -/
def abandonStrips (b : Nat) (cut : State → Strip → Bool) (s : State) : State :=
  let open_ (x : Strip) := !x.abandoned && cut s x
  let hit := (s.bar b).scan.strips.filter open_
  let s := s.modScan b (fun c => { c with
    strips := c.strips.map (fun x => if open_ x then { x with abandoned := true } else x) })
  forAll hit (fun x s =>
    postB .stripAbandoned b x.page 1 (leBytes 1 x.plane ++ leBytes 1 x.rowSet ++ leBytes 1 0xFF)
      (if x.gone.isEmpty then s.bumpB b 0x6222 0 else s)) s

/-- R201: SAFE cuts the strips of a bar whose first line has fallen due and which have lines still to strike. -/
def cutStrips (b : Nat) (s : State) : State :=
  abandonStrips b (fun s x => decide (x.first ≤ s.trig.line) && decide (s.trig.line < stripLast s b x)) s

/-- R57, R204: the pages of a bar on entry to SAFE. -/
def cutBar (b : Nat) (s : State) : State :=
  let cut := (s.bar b).pages.filter (fun p => p.inProgress)
  let s := forAll cut (fun p s => pageEnd b p.num true s.trig.line (integCut b p.num s)) s
  let s := forAll ((notStarted s b).filter (fun p => p.flip.isSome)) (fun p s =>
    s.modPage b p.num (fun q => { q with flip := none, gapBefore := 0 })) s
  let s := s.modScan b (fun c => { c with
    readyAt := none
    ahead := c.ahead.filterMap (fun r => if r.2.1 ≤ s.trig.line then some (r.1, r.2.1, some (r.2.2.getD s.trig.line)) else none) })
  let s := if cut.isEmpty then s
    else s.modScan b (fun c => { c with gapFrom := none, cutGap := true, stripDecided := false, gapUnder := none })
  cutStrips b s

/-- R57, R204, R316, R325: entry to SAFE. -/
def enterSafe (s : State) : State :=
  let s := disableAll s
  let s := setDev .safe 1 s
  let s := forAll (List.range 8) safeStop s
  let s := forAll (List.range 16) cutBar s
  let s := forAll ((List.range 16).filter (fun b => (s.bar b).vb == .armed || (s.bar b).vb == .printing)) (fun b s =>
    setVb b .held s) s
  advanceBars s

end Sys2Proof.Machine
end

