-- ==== Sys2Proof/Machine/Supply.lean ====
section
/-!
DEFINITION. Head supplies (R325 to R332): enable, disable, dead time and blanking, trips, the bar-level fault.
-/
namespace Sys2Proof.Machine
open Sys2Proof

/-- A210 HV_IN_USE. -/
def hvFitted (s : State) (k : Nat) : Bool := bitN (s.dv 0xA210 0) k

/-- R325: the filtered trip input of a supply; that of a supply not in use is ignored. -/
def tripNow (s : State) (k : Nat) : Bool := hvFitted s k && (s.supply k).trip

/-- Does `now` lie within a filter window of the last accepted change? -/
def withinFilter (w now : Nat) (last : Option Nat) : Bool :=
  match last with
  | some t => decide (now < t + w)
  | none => false

/-- R130, R327: the samples that an input holds a new level before it is accepted, as a time: (FILTER + 1) samples of 5 ns. -/
def filterTime (cfg : Nat) : Nat := 5 * (bitsN cfg 7 0 + 1)

/-- The head ports of a supply. -/
def supplyPorts (k : Nat) : List Nat := [4 * k, 4 * k + 1, 4 * k + 2, 4 * k + 3]

/-- The last line whose frames this unit has launched to the supply's heads and that has not been struck. -/
def lastLaunched (s : State) (k : Nat) : Option Nat :=
  ((supplyPorts k).flatMap (fun p => ((s.port p).launched.filter (fun l => l.2.1 || l.2.2)).map (fun l => l.1))).max?

/-- R326: HVENk rises: DEAD begins. -/
def riseSupply (k : Nat) (s : State) : State :=
  let s := s.modSupply k (fun x => { x with hven := true, riseLine := none, riseAt := some s.now, inBlank := false })
  mirrorSupply k (setSupply k .dead s)

/-- R326: an accepted ENABLE waits for the last launched line, unless no strike is to come. -/
def enableSupply (k : Nat) (s : State) : State :=
  match lastLaunched s k with
  | some l =>
    if s.trig.en && s.trig.moving then s.modSupply k (fun x => { x with riseLine := some l })
    else riseSupply k s
  | none => riseSupply k s

/-- R326: with TRIG_EN 0 or the web stopped nothing is struck, so a waiting rise happens at once. -/
def riseWaiting (s : State) : State :=
  forAll ((List.range 16).filter (fun k => (s.supply k).riseLine.isSome)) riseSupply s

/-- A200 HV_CMD (R325, R331). -/
def hvCommand : Effect := fun row bar sub w s =>
  if w = 1 then
    if !hvFitted s sub then (stRange, s)
    else holderOnly (fun _ _ k _ s =>
      if (s.supply k).st == .off && (s.devState == .ready || s.devState == .print) then (stOK, enableSupply k s)
      else (stState, s)) row bar sub w s
  else if w = 2 then holderOnly (fun _ _ k _ s => (stOK, disableSupply k s)) row bar sub w s
  else if w = 3 then
    holderOnly (fun _ _ k _ s =>
      if (s.supply k).st != .tripped then (stOK, s)
      else if tripNow s k then (stOK, s.bump 0xA205 k)
      else (stOK, mirrorSupply k (setSupply k .off s))) row bar sub w s
  else (stRange, s)

/-- HV_ENABLE (R325, R326). -/
def execHvEnable (dt : Nat) (door : Door) (k : Fin 16) (s : State) : Host.Outcome State Fault Refusal :=
  run dt s (writeThrough door 0xA200 k 1 hvCommand)

/-- HV_DISABLE (R325). -/
def execHvDisable (dt : Nat) (door : Door) (k : Fin 16) (s : State) : Host.Outcome State Fault Refusal :=
  run dt s (writeThrough door 0xA200 k 2 hvCommand)

/-- TRIP_CLEAR (R331). -/
def execTripClear (dt : Nat) (door : Door) (k : Fin 16) (s : State) : Host.Outcome State Fault Refusal :=
  run dt s (writeThrough door 0xA200 k 3 hvCommand)

/-- The page of a bar that an event names as the page in progress: the last one started that is in progress. -/
def pageNow (s : State) (b : Nat) : Nat :=
  match ((s.bar b).pages.filter (fun p => p.inProgress)).getLast? with
  | some p => p.num
  | none => 0

/-- The bars that the heads of a supply serve. -/
def supplyBars (s : State) (k : Nat) : List Nat :=
  s.barsWithCols.filter (fun b => (supplyPorts k).any (fun p => headEn s p && decide (0 < headInBar s b p)))

/-- R330: two supplies tripped within 1 ms. -/
def barFault (first second interval : Nat) (s : State) : State :=
  let s := logBoth (plainLog 0x0E09 4) s
  let s := enterSafe { s with safeCause := [first, second] }
  postD .hvBarFault 0 (leBytes 1 first ++ leBytes 1 second ++ leBytes 4 interval) s

/-- R327, R330: a trip takes effect. -/
def takeTrip (k : Nat) (judged : Bool) (s : State) : State :=
  let old := (s.supply k).st.code
  let s := s.modSupply k (fun x => { x with hven := false, riseLine := none, riseAt := none, inBlank := false })
  let s := (setSupply k .tripped s).bump 0xA204 k
  let s := (s.setDv 0xA211 0 s.time).setDv 0xA211 1 k
  let s := forAll (supplyBars s k) (fun b s =>
    postB .hvTrip b (pageNow s b) (b2n judged) (leBytes 1 k ++ leBytes 1 old) s) s
  let s := mirrorSupply k s
  let last := s.lastTrip
  let s := { s with lastTrip := some (k, s.now) }
  match last with
  | some (j, t) => if j ≠ k ∧ s.now ≤ t + Config.milli then barFault j k (s.now - t) s else s
  | none => s

/-- R327 to R330, R332: the trip input of a supply is accepted as asserted, the level having been held for TRIP_FILTER + 1
samples. -/
def acceptTrip (k : Fin 16) : State → State :=
  fun s =>
    if withinFilter (filterTime (s.dv 0xA203 0)) s.now (s.supply k).inputAt then s
    else
    let s := s.modSupply k (fun x => { x with trip := true, tripAt := s.now, inputAt := some s.now })
    if hvFitted s k then
      match (s.supply k).st with
      | .on | .dead => takeTrip k false s
      | .blank => s.modSupply k (fun x => { x with inBlank := true })
      | _ => s
    else s

/-- R332: a standby's latch clears with the holder's clear once its own input is deasserted. -/
def standbyClear (k : Nat) (s : State) : State :=
  let x := s.supply k
  if !holder s && x.st == .tripped && !x.mirrorLatch && !tripNow s k then setSupply k .off s else s

/-- TRIP_INPUT_DEASSERTED (R327, R329, R331, R332). -/
def execTripInputDeasserted (dt : Nat) (k : Fin 16) (s : State) : Host.Outcome State Fault Refusal :=
  run dt s (fun s =>
    if withinFilter (filterTime (s.dv 0xA203 0)) s.now (s.supply k).inputAt then s
    else
      let s := s.modSupply k (fun x =>
        if x.trip then
          { x with trip := false, inputAt := some s.now, tripAt := if x.inBlank then s.now - x.tripAt else x.tripAt }
        else x)
      standbyClear k s)

/-- HV_DEAD_END (R326, Table 14-1): 20 µs after the rise. -/
def execHvDeadEnd (dt : Nat) (k : Fin 16) (s : State) : Host.Outcome State Fault Refusal :=
  run dt s (fun s =>
    match (s.supply k).st, (s.supply k).riseAt with
    | .dead, some t => if t + 20 * Config.micro ≤ s.now then setSupply k .blank s else s
    | _, _ => s)

/-- R329: blanking ends: the trip latched in BLANK is judged. -/
def endBlank (k : Nat) (s : State) : State :=
  let x := s.supply k
  if x.inBlank then
    if tripNow s k then takeTrip k true s
    else
      let s := s.modSupply k (fun x => { x with inBlank := false })
      postD .tripInBlank 0 (leBytes 1 k ++ leBytes 4 x.tripAt) ((setSupply k .on s).bump 0xA206 k)
  else setSupply k .on s

/-- R329, Table 14-1: the blanking of a supply ends 200 µs after its rise. -/
def blankEnds (k : Fin 16) : State → State :=
  fun s =>
    match (s.supply k).st, (s.supply k).riseAt with
    | .blank, some t => if t + 200 * Config.micro ≤ s.now then endBlank k s else s
    | _, _ => s

end Sys2Proof.Machine
end

