-- ==== Sys2Proof/Machine/LaneOps.lean ====
section
/-!
DEFINITION. Which page a row of a head prints on a line (R147, R154, R191), lane faults (R186 to R188), training (R183), IDENT
(Table 07-9), and answers to management requests (R172, R174, R175).
-/
namespace Sys2Proof.Machine
open Sys2Proof

/-! ### What a row prints -/

/-- R147: the page of bar `b`, and its line, that row `r` of the head on `p` prints at the strike of `line`; the page of the
newer generation where two fall together (R154). -/
def rowPage (s : State) (b p r line : Nat) : Option (Page × Nat) :=
  (s.bar b).pages.reverse.findSome? (fun pg =>
    match pg.flip with
    | some f =>
      let d := f + coarse s b pg p + fine s b pg p r
      if d ≤ line ∧ line < d + pg.lines ∧ (!pg.cut ∨ line ≤ pg.endLine) then some (pg, line - d) else none
    | none => none)

/-- The rows of burst A (even) or B (odd) of a head (R146). -/
def halfRows (s : State) (p half : Nat) : List Nat := (rowList s p).filter (fun r => r % 2 == half)

/-- The pages of a bar that the given rows of a head print on a line, each once. -/
def rowsPages (s : State) (b p line : Nat) (rows : List Nat) : List Nat :=
  (rows.filterMap (fun r => (rowPage s b p r line).map (fun q => q.1.num))).eraseDups

/-- R191: mark every page that a happening at these rows of a head on a line touches, and count its head lines withheld or
lost. -/
def markRows (p line bits : Nat) (rows : List Nat) (lost : Bool) (s : State) : State :=
  forAll (servedBars s p) (fun b s =>
    forAll (rowsPages s b p line rows) (fun n s =>
      s.modPage b n (fun q => { q with
        status := q.status ||| bits, withheldLines := if lost then satAdd32 q.withheldLines 1 else q.withheldLines })) s) s

/-! ### Lane faults -/

/-- R186: faults of a lane within the last 1 s. -/
def laneHist (s : State) (p : Nat) : Nat :=
  ((s.health.getD (chanKey 0 p) Health.reset).hist.filter (fun t => decide (s.now ≤ t + Config.second))).length

/-- A lane no longer manages its head: nothing waits for its acknowledgements (assumption log 16). -/
def dropWaits (p : Nat) (s : State) : State :=
  forAll (servedBars s p) (fun b s => s.modWaits b (PendGen.acked p)) s

/-- R172: requests in flight are sent again once the lane returns. -/
def resetTries (p : Nat) (s : State) : State :=
  s.modPort p (fun x => { x with reqs := x.reqs.map (fun r => { r with tries := 0 }) })

/-- R187, Table 07-9: where a lane fault takes the lane. Kind 6: an expired RELOCK; kind 8: an expired WAKE. -/
def faultNext (p kind : Nat) (s : State) : State :=
  match (s.port p).st with
  | .run => resetTries p (setLane p .relock s)
  | .train | .ident => enterDetect p s
  | .relock => if kind = 6 then enterTrain p (dropWaits p s) else s
  | .wake => if kind = 8 then enterTrain p s else s
  | _ => s

/-- R186 to R188: a lane fault. -/
def laneFault (p kind : Nat) (s : State) : State :=
  let s := s.bump 0x4804 p
  let r := channelFault 0 p false s
  let s := r.2
  let retired := r.1 == .retired
  let n := if retired then 4 else laneHist s p
  let s := postD .laneFault (b2n retired) (leBytes 1 p ++ leBytes 1 kind ++ leBytes 1 n) s
  if retired then
    let s := (setLane p .retired (dropWaits p s)).modPort p (fun x => { x with reqs := [] })
    if alone s then retireNozzles p s else s
  else faultNext p kind s

/-- R186: a failed frame CRC; the times of one direction and the fault at the sixteenth within 1 ms. -/
def crcWindow (now : Nat) (ts : List Nat) (n : Nat) : List Nat :=
  ts.filter (fun t => decide (now < t + Config.milli)) ++ List.replicate (min n 16) now

/-- R166, R186: an upstream frame failed its CRC. -/
def frameCrc (p : Nat) (s : State) : State :=
  let s := (s.bump 0x4805 p).modPort p (fun x => { x with crcTimes := crcWindow s.now x.crcTimes 1 })
  if 16 ≤ (s.port p).crcTimes.length then laneFault p 3 (s.modPort p (fun x => { x with crcTimes := [] })) else s

/-! ### Training and IDENT -/

/-- R183: training ends with the chosen row. -/
def trainEnd (p : Nat) (s : State) : State :=
  match (s.port p).best with
  | some (fom, row) =>
    if fom < fieldLE (eqTable s) 2 2 then laneFault p 5 (s.emit (.train p 4 row))
    else enterIdent p ((applyRow p row (s.setDv 0x4811 p (fom * 65536 + row))).emit (.train p 3 row))
  | none => s

/-- R183: the FOM of the row under trial. -/
def trainStep (p fom : Nat) (s : State) : State :=
  let row := (s.port p).row
  let s := s.modPort p (fun x => { x with
    best := match x.best with
      | some (f, r) => if f < fom then some (fom, row) else some (f, r)
      | none => some (fom, row) })
  if row + 1 < eqRows s p then startRow p (row + 1) s else trainEnd p s

/-- Table 07-9: the cause of a mismatch, 0 for none. `ws`: the words ID, CAPS and LINK. -/
def identCause (s : State) (p : Nat) (ws : List (BitVec 64)) : Nat :=
  let id := (ws.getD 0 0).toNat
  let caps := (ws.getD 1 0).toNat
  let link := (ws.getD 2 0).toNat
  let x := s.port p
  let unit := b2n s.pins.pairId
  if bitsN id 15 0 ≠ headSize s p then 1
  else if bitsN id 17 16 ≠ bitsN (s.dv 0x4210 p) 1 0 then 2
  else if !bitN id (if s.greyBits (headPlane s p) = 3 then 19 else 18) then 3
  else if s.dv 0x4800 0 = 1 ∧ !bitN caps 0 then 4
  else if bitsN caps 6 2 < leadLines s then 5
  else if x.input ≠ unit ∨ x.echo ≠ p ∨ bitsN link (8 * unit + 7) (8 * unit) ≠ p then 6
  else if bitsN caps 15 8 ≠ 1 then 7
  else 0

/-- Table 07-9: the IDENT words have been read. -/
def identDone (p : Nat) (ws : List (BitVec 64)) (s : State) : State :=
  let s := (s.setDv 0x4820 p (ws.getD 0 0).toNat).setDv 0x4821 p (ws.getD 1 0).toNat
  let s := s.modPort p (fun x => { x with identWords := ws })
  let cause := identCause s p ws
  if cause = 0 then enterRun p s
  else
    let s := (setLane p .mismatch s).modPort p (fun x => { x with mismatch := cause, reqs := [] })
    postD .headMismatch 0 (leBytes 1 p ++ leBytes 1 cause) s

/-- R186: LINK shows whether the head holds lock on this unit's input: one that does not has lost the downstream lock. -/
def identRead (p : Nat) (ws : List (BitVec 64)) (s : State) : State :=
  if bitN (ws.getD 2 0).toNat (16 + b2n s.pins.pairId) then identDone p ws s else laneFault p 2 s

/-! ### Management answers -/

/-- R174: the acknowledgement of a shadow write: once every write of the port for the page is acknowledged, it no longer
holds the page; the partner hears of it. -/
def ackWrite (p b e : Nat) (s : State) : State :=
  if writesOpen s b e p then s
  else
    let s := s.modWaits b (fun g => if g.page = e then g.acked p else g)
    pairSend (.ack b p) s

/-- R172: a request has been answered OK. -/
def answered (p : Nat) (r : MgmtReq) (words : List (BitVec 64)) (s : State) : State :=
  let s := s.modPort p (fun x => { x with reqs := x.reqs.filter (fun q => q.tag != r.tag) })
  let s := match r.op, r.forPage with
    | 1, some (b, e) => ackWrite p b e s
    | 2, _ => if (s.port p).st = .ident then identRead p words s else s
    | _, _ => s
  pumpReqs p s

/-- The request in flight under a TAG. -/
def inFlight (s : State) (p tag : Nat) : Option MgmtReq :=
  ((s.port p).reqs.take mgmtWindow).find? (fun r => r.tag == tag && decide (0 < r.tries))

/-- R172: no response within 20 µs: the request is repeated up to 3 times, then a management timeout is a lane fault. -/
def reqTimeout (p : Nat) (r : MgmtReq) (s : State) : State :=
  if !mayRequest s r then s
  else if r.tries ≤ 3 then
    sendReq p r (s.modPort p (fun x => { x with
      reqs := x.reqs.map (fun q => if q.tag = r.tag then { q with tries := q.tries + 1, sentAt := s.now } else q) }))
  else laneFault p 7 s

/-- R174: at the strike of a line, an ACTIVATE that should have been acknowledged by then is late. -/
def activateLate (p line : Nat) (s : State) : State :=
  let late (r : MgmtReq) : Bool := match r.deadline with | some d => decide (d ≤ line) | none => false
  if (s.port p).reqs.any late then
    laneFault p 9 (s.modPort p (fun x => { x with
      reqs := x.reqs.map (fun r => if late r then { r with deadline := none } else r) }))
  else s

/-! ### Enabling a port -/

/-- Table 07-9: a port enabled and powered enters DETECT; one no longer so goes OFF. `HLO` of octet k is domain 16 + k
of Table 15-1. A retired lane (R188) waits for REINSTATE. -/
def laneEnable (p : Nat) (s : State) : State :=
  if headEn s p && s.power.domains.getD (16 + p / 8) 0 == 2 then
    if (s.port p).st = .off then (if isRetired s 0 p then setLane p .retired s else enterDetect p s) else s
  else setLane p .off (s.modPort p (fun x => { x with reqs := [] }))

/-- Table 07-9: MISMATCH is tested again when the configuration of the port changes. -/
def laneRecheck (p : Nat) (s : State) : State := if (s.port p).st = .mismatch then enterIdent p s else s

end Sys2Proof.Machine
end

