-- ==== Sys2Proof/Machine/Frames.lean ====
section
/-!
DEFINITION. The line clock's prediction (R135, R138), what each frame carries (R146, R147, R168, R228), the dray's reads (R151,
R152), and the launch of frames with every reason to withhold one (R72, R106, R153, R154, R169, R196, R274, R276, R280, R326).
-/
namespace Sys2Proof.Machine
open Sys2Proof

/-! ### Prediction -/

/-- COUNTS_PER_LINE. -/
def countsPerLine (s : State) : Nat := s.dv 0x4010 0

/-- PRED_WINDOW. -/
def predWindow (s : State) : Nat := s.dv 0x4011 0

/-- 2^40: the unit of a count in a line position. -/
def countUnit : Nat := 2 ^ 40

/-- R135: when count `c` was reached, if it is remembered. -/
def countTime (s : State) (c : Int) : Option Nat := (s.trig.times.find? (fun q => q.1 == c)).map (fun q => q.2)

/-- R133: a valid count period exists at count `e`. -/
def periodValid (s : State) (e : Int) : Bool :=
  decide (s.trig.h - (s.trig.fresh : Int) < e - (predWindow s : Int)) && decide (e ≤ s.trig.h)

/-- Table 06-6 PREDICTING. -/
def predicting (s : State) : Bool := s.trig.en && periodValid s s.trig.h

/-- The time that the last W counts up to `e` took. -/
def windowSpan (s : State) (e : Int) : Nat :=
  (countTime s e).getD 0 - (countTime s (e - (predWindow s : Int))).getD 0

/-- R138: the due time of the line at position `p`, extrapolated from the present count period; none without a valid one. -/
def estimateAt (s : State) (p : Int) : Option Int :=
  let h := s.trig.h
  if periodValid s h then
    some (((countTime s h).getD 0 : Nat) +
      (p - h * (countUnit : Int)) * (windowSpan s h : Int) / ((predWindow s * countUnit : Nat) : Int))
  else none

/-- The position of line `n`, the next line being `trig.line` + 1. -/
def linePos (s : State) (n : Nat) : Int := s.trig.pos + ((n : Int) - ((s.trig.line + 1 : Nat) : Int)) * (countsPerLine s : Int)

/-- The predicted due time of line `n`, when there is a prediction: from the count period, else from the last line's period of
the present run. -/
def predictedDue (s : State) (n : Nat) : Option Int :=
  match estimateAt s (linePos s n), s.trig.lastDue with
  | some t, _ => some t
  | none, some d =>
    if s.trig.line ≤ s.trig.runFrom ∨ s.trig.period = 0 ∨ s.trig.period = 0xFFFFFFFF ∨ n < s.trig.line then none
    else some ((d + (n - s.trig.line) * s.trig.period : Nat) : Int)
  | none, none => none

/-- P_skip (R138). -/
def skipPeriod (s : State) : Nat := 63 * 1000000000 / (64 * lineEnforced s)

/-! ### What a frame carries -/

/-- R147: the strip of a bar whose line row `r` of the head on `p` prints at the strike of `line`, and that strip line. -/
def rowStrip (s : State) (b p r line : Nat) : Option (Strip × Nat) :=
  ((s.bar b).scan.strips.find? (fun x =>
    let d := x.first + stripDelay s b x p r
    !x.abandoned && decide (d ≤ line) && decide (line < d + x.length))).map
    (fun x => (x, line - stripDelay s b x p r - x.first))

/-- R228: the level that nozzle `k` of port `p` prints on line `j` of a strip. -/
def stripLevel (s : State) (x : Strip) (j p k : Nat) : Nat :=
  if j < 8 ∨ headPlane s p ≠ x.plane ∨ headSet s p ≠ x.rowSet then 0
  else
    let order := ((headsOf s x.plane x.rowSet).findIdx? (fun q => q == p)).getD 0
    let h := if order % 2 = 0 then 0 else x.k / 2
    let top := s.levels x.plane
    if (headCol0 s p + k + h) % x.k = (j - 8) / x.seg then (if x.level = 0 then top else min x.level top) else 0

/-- R147: the level that nozzle `k` of port `p` prints at the strike of `line`. -/
def nozzleLevel (s : State) (p line k : Nat) : Nat :=
  match nozzleBar s p k with
  | none => 0
  | some b =>
    let r := k % headRows s p
    match rowPage s b p r line with
    | some (pg, y) => (pg.tokens.getD (tokenKey p y (k / 16)) []).getD (k % 16) 0
    | none => match rowStrip s b p r line with
      | some (x, j) => stripLevel s x j p k
      | none => 0

/-- R168: the levels of burst A (0) or B (1) of a line. -/
def burstLevels (s : State) (p line half : Nat) : List Nat :=
  ((List.range (headSize s p)).filter (fun k => k % 2 == half)).map (nozzleLevel s p line)

/-- R161: 100 × the length of a block in ns. -/
def blockTime100 (s : State) : Nat := if s.dv 0x4800 0 = 1 then 640 else 1056

/-! ### Drays -/

/-- The dray of a port's octet. -/
def drayOf (p : Nat) : Nat := p / 8

/-- R105: is the part of a head line that belongs to the bar in the delay store? A line of a span enters it only when every
nozzle of the span's line is decided; an affected line of a failed wagon is there (R72). -/
def headLineDone (s : State) (b : Nat) (pg : Page) (p y : Nat) : Bool :=
  (List.range (s.spanCount b)).all (fun sp =>
    let x0 := s.firstCol b + 2048 * sp
    headOverlap s p x0 (x0 + 2048) == 0 || pg.lineDone (headPlane s p) sp y)

/-- R151, R106: the head lines that the dray reads for port `p` at line `m`: the datum lines of which it finds a level
missing. -/
def lateReads (s : State) (p m : Nat) : List Nat :=
  (servedBars s p).flatMap (fun b => (s.bar b).pages.filterMap (fun pg =>
    match pg.flip with
    | some f =>
      let d := f + coarse s b pg p
      let n := m + leadLines s
      if d ≤ n ∧ n < d + pg.lines ∧ !pg.cut ∧ !headLineDone s b pg p (n - d) then some (n - coarse s b pg p) else none
    | none => none))

/-- R260: the stripe map generations under which the head line of port `p` of a bar's page line was written. -/
def lineGens (s : State) (b : Nat) (pg : Page) (p y : Nat) : List Nat :=
  ((List.range (s.spanCount b)).filter (fun sp =>
    let x0 := s.firstCol b + 2048 * sp
    headOverlap s p x0 (x0 + 2048) != 0)).map (fun sp => pg.lineGen.getD (lineKey (headPlane s p) sp y) 0)

/-- R260: a head line written under generation `g` has a stripe in a subchannel that no longer answers. -/
def stripeLost (s : State) (p n g : Nat) : Bool :=
  g != s.stripeGen && (List.range (ceilDiv (headLineBytes s p) 512)).any (fun i =>
    (s.sch (stripeOf (stripeList s g) p n i)).state == 4)

/-- R151, R260, Table 10-7: the head lines that the dray reads for port `p` at line `m` and cannot read: the datum lines. -/
def lostReads (s : State) (p m : Nat) : List Nat :=
  (servedBars s p).flatMap (fun b => (s.bar b).pages.filterMap (fun pg =>
    match pg.flip with
    | some f =>
      let d := f + coarse s b pg p
      let n := m + leadLines s
      if d ≤ n ∧ n < d + pg.lines ∧ !pg.cut ∧ (lineGens s b pg p (n - d)).any (stripeLost s p (n - coarse s b pg p)) then
        some (n - coarse s b pg p) else none
    | none => none))

/-- R151: the read of port `p` at line `m`: late and unreadable datum lines are remembered while a row may still need them. -/
def drayPort (m p : Nat) (s : State) : State :=
  let late := lateReads s p m
  let lost := lostReads s p m
  if late.isEmpty ∧ lost.isEmpty ∧ (s.port p).lateLines.isEmpty ∧ (s.port p).lostLines.isEmpty then s
  else s.modPort p (fun x => { x with
    lateLines := (x.lateLines ++ late).filter (fun d => decide (m < d + 2 ^ 17))
    lostLines := (x.lostLines ++ lost).filter (fun d => decide (m < d + 2 ^ 17)) })

/-- R151, R152: every dray with an enabled head starts its reads at line `m`. -/
def drayReads (m : Nat) (s : State) : State :=
  let s := forAll (headPorts s) (drayPort m) s
  forAll ((List.range 8).filter (fun o => (headPorts s).any (fun p => drayOf p == o))) (fun o s =>
    s.modDray o (fun x => { x with reading := x.reading ++ [(m, s.now)] })) s

/-! ### Reasons to withhold -/

/-- What row `r` of bar `b` on a line: its page and page line, and the datum line. -/
structure RowItem where
  bar : Nat
  row : Nat
  page : Page
  y : Nat
  deriving Repr

/-- The rows of a head that print a page's line on `line`. -/
def rowItems (s : State) (p line : Nat) : List RowItem :=
  (servedBars s p).flatMap (fun b => (rowList s p).filterMap (fun r =>
    (rowPage s b p r line).map (fun q => { bar := b, row := r, page := q.1, y := q.2 })))

/-- The datum line of a row item. -/
def RowItem.datum (i : RowItem) : Nat := i.page.flip.getD 0 + i.y

/-- R72: the row's line lies in a withheld wagon of which the head serves a column. -/
def rowUnknown (s : State) (p : Nat) (i : RowItem) : Bool :=
  (List.range (s.spanCount i.bar)).any (fun sp =>
    let x0 := s.firstCol i.bar + 2048 * sp
    decide (0 < headOverlap s p x0 (x0 + 2048)) &&
    (match i.page.wagonAt (headPlane s p) sp i.y with
     | some w => w.withheld && w.affected (i.y % 512)
     | none => false))

/-- R274: the standby withholds the bursts of a page whose generation differs. R280: a joining unit those of pages before
JOIN_PAGE. -/
def pageHeld (s : State) (b : Nat) (pg : Page) : Bool :=
  pg.genWithheld ||
  (match (s.bar b).mismatchFrom with | some e => pageGe pg.num e | none => false) ||
  (!holder s && s.pair.state == .joining && !pageGe pg.num (s.bar b).joinPage)

/-- R196: the datum line from which the standby does not yet know what the bar prints: the end of the last page or gap of
which it holds the flip record. -/
def unknownFrom (s : State) (b : Nat) : Option Nat :=
  match ((s.bar b).pages.filter (fun p => p.flip.isSome && !p.cut)).getLast? with
  | some p => p.flip.map (fun f => f + p.lines)
  | none => (s.bar b).scan.gapFrom

/-- C + F_r of a row for page number `n` of a bar. -/
def delayFor (s : State) (b n p r : Nat) : Nat :=
  s.pageN b n 0x4200 p + bitsN (s.pageN b n 0x4201 p) (8 * r + 7) (8 * r)

/-- R196: row `r` could carry a page or strip whose flip record has not arrived: a strip with the live delays, or the bar's next
page with those that govern it. -/
def rowAwaited (s : State) (b p r line : Nat) : Bool :=
  pairMode s && !holder s && (s.bar b).vb == .printing && (rowPage s b p r line).isNone && (rowStrip s b p r line).isNone &&
  (match unknownFrom s b with
   | some e => decide (e + min (s.liveN b 0x4200 p + bitsN (s.liveN b 0x4201 p) (8 * r + 7) (8 * r))
       (delayFor s b (firstUnfixed s b) p r) ≤ line)
   | none => false)

/-- R280: a joining unit sends no burst of a head before the head's share of JOIN_PAGE: no page from JOIN_PAGE on has come to the
row's strike. -/
def rowJoining (s : State) (b p r line : Nat) : Bool :=
  !holder s && s.pair.state == .joining &&
  !(s.bar b).pages.any (fun pg => pageGe pg.num (s.bar b).joinPage &&
    (match pg.flip with
     | some f => decide (f + coarse s b pg p + fine s b pg p r ≤ line)
     | none => false))

/-- R326: a line of the supply's heads whose strike falls before the end of the dead time. -/
def supplyDead (s : State) (p line : Nat) : Bool :=
  let x := s.supply (p / 4)
  match x.riseLine, x.riseAt with
  | some l, _ => match predictedDue s line, predictedDue s l with
    | some t, some u => decide (l < line) && decide (t < u + 20000)
    | _, _ => decide (l < line)
  | none, some r => match predictedDue s line with
    | some t => decide (t < (r + 20000 : Nat))
    | none => decide (s.now < r + 20 * Config.micro)
  | none, none => false

/-- R153: a staged row is not present when the port begins: the dray's read of it has not completed. A row with F = 0 is
taken from the read that starts now. -/
def rowUnstaged (s : State) (p m : Nat) (i : RowItem) : Bool :=
  let f := fine s i.bar i.page p i.row
  decide (0 < f) && (s.dray (drayOf p)).reading.any (fun q => q.1 + f == m)

/-- R153: `n` bursts would not finish before the line is due. -/
def framesLate (s : State) (p line n : Nat) : Bool :=
  match predictedDue s line with
  | some t => decide (t < ((s.now + n * (burstBlocks s p + 4) * blockTime100 s / 100 : Nat) : Int))
  | none => false

/-! ### Launch -/

/-- R154: the rows of the head where a line of an earlier page gives way. -/
def overlaps (s : State) (b p line : Nat) : List (Nat × Nat) :=
  (rowList s p).flatMap (fun r =>
    let hit := (s.bar b).pages.filter (fun pg =>
      match pg.flip with
      | some f =>
        let d := f + coarse s b pg p + fine s b pg p r
        decide (d ≤ line) && decide (line < d + pg.lines) && (!pg.cut || decide (line ≤ pg.endLine))
      | none => false)
    (hit.take (hit.length - 1)).map (fun pg => (r, pg.num)))

/-- R154: count and report the dropped lines of a head. -/
def noteOverlaps (p line : Nat) (s : State) : State :=
  forAll (servedBars s p) (fun b s => forAll (overlaps s b p line) (fun q s =>
    let d (port : Nat) := leBytes 1 port ++ leBytes 1 q.1 ++ leBytes 2 1 ++ leBytes 8 line
    post { ev := .delayOverlap, bar := some b, page := q.2, idx := 0, sub := 0, flags := 0,
           data := d ((instOf s b p).getD 0), devData := d p }
      ((s.bumpB b 0x4221 0).flagPage b q.2 stDelayOverlap)) s) s

/-- R106, R191: a head line withheld because a level was not in the store: `late` are the row items that the dray found missing,
`is` all that the two bursts carry. The geyser reported is that of the first tokens of the span, 0xFF where no geyser screens it
(DESIGN CHOICE, assumption log 108). -/
def screenLate (p : Nat) (is late : List RowItem) (s : State) : State :=
  let s := forAll is (fun i s => s.flagPage i.bar i.page.num stScreenLate) s
  forAll ((late.map (fun i => i.bar)).eraseDups) (fun b s =>
    match late.find? (fun i => i.bar == b) with
    | none => s
    | some i =>
      let first := (headCol0 s p - s.firstCol b) / 2048
      let sp := ((List.range (s.spanCount b)).find? (fun k =>
        let x0 := s.firstCol b + 2048 * k
        headOverlap s p x0 (x0 + 2048) != 0 && !i.page.lineDone (headPlane s p) k i.y)).getD first
      let g := (spanRuns s (headPlane s p * 32 + s.firstSpan b + sp) i.page.num).head?.map (fun r => r.1)
      let moved := i.page.moved.contains (headPlane s p * 32 + sp)
      let d (span : Nat) := leBytes 4 i.y ++ leBytes 1 (headPlane s p) ++ leBytes 1 span ++ leBytes 1 (g.getD 0xFF) ++
        leBytes 1 (b2n moved)
      postSpan .screenLate b i.page.num (b2n (!alone s)) d sp (s.bumpB b 0x3030 0)) s

/-- R196, R106: bursts of port `p` withheld for bar `b` because the active unit's flip record has not come. The page line and the
span are not known: they read 0 and 0xFF (DESIGN CHOICE, assumption log 107). -/
def awaitLate (p b : Nat) (s : State) : State :=
  postB .screenLate b (firstUnfixed s b) (b2n (!alone s))
    (leBytes 4 0 ++ leBytes 1 (headPlane s p) ++ leBytes 1 0xFF ++ leBytes 1 0xFF ++ leBytes 1 0)
    (flagNext b stScreenLate (s.bumpB b 0x3030 0))

/-- R153: a head line withheld because its frames could not go out in time. -/
def drayLate (p line : Nat) (is : List RowItem) (s : State) : State :=
  let s := forAll is (fun i s => s.flagPage i.bar i.page.num stDrayLate) s
  postD .drayLate 0 (leBytes 1 p ++ leBytes 3 0 ++ leBytes 8 line) (s.bump 0x4220 (drayOf p))

/-- Count a withheld head line at every page that it carries. -/
def countWithheld (is : List RowItem) (s : State) : State :=
  forAll ((is.map (fun i => (i.bar, i.page.num))).eraseDups) (fun q s =>
    s.modPage q.1 q.2 (fun x => { x with withheldLines := satAdd32 x.withheldLines 1 })) s

/-- Table 07-2: BAND of a head's frames: the current band of the bar that governs it. -/
def frameBand (s : State) (p : Nat) : Nat := match governor s p with | some b => (s.bar b).scan.band | none => 0

/-- R168, R169: send one burst of a line. -/
def sendBurst (p line half : Nat) (s : State) : State :=
  countFrame p (s.emit (.burst p line half (burstFrame s p line half (frameBand s p) (burstLevels s p line half))))

/-- Send what remains of a line's frames and remember what was launched. -/
def sendBursts (p line : Nat) (a b : Bool) (s : State) : State :=
  let s := if a then sendBurst p line 0 s else s
  let s := if b then sendBurst p line 1 s else s
  s.modPort p (fun x => { x with launched := x.launched ++ [(line, a, b)] })

/-- R153, R169: the head port begins the frames of `line` at the strike of line `m`, or withholds them. -/
def launchPort (m line p : Nat) (s : State) : State :=
  let s := noteOverlaps p line s
  if (s.port p).st ≠ .run then s
  else
    let is := rowItems s p line
    let late := is.filter (fun i => (s.port p).lateLines.contains i.datum)
    let held (half : Nat) : Bool :=
      is.any (fun i => i.row % 2 == half && (rowUnknown s p i || pageHeld s i.bar i.page)) ||
      (servedBars s p).any (fun b => (halfRows s p half).any (fun r => rowAwaited s b p r line || rowJoining s b p r line))
    let awaited := (servedBars s p).filter (fun b => (rowList s p).any (fun r => rowAwaited s b p r line))
    let ha := held 0
    let hb := held 1
    if !late.isEmpty then countWithheld is (screenLate p is late (sendBursts p line false false s))
    else if supplyDead s p line then
      countWithheld is ((sendBursts p line false false s).bump 0xA207 (p / 4))
    else if is.any (fun i => (s.port p).lostLines.contains i.datum || rowUnstaged s p m i) ||
        framesLate s p line (b2n (!ha) + b2n (!hb)) then
      countWithheld is (drayLate p line is (sendBursts p line false false s))
    else
      let s := if ha || hb then countWithheld (is.filter (fun i => if i.row % 2 = 0 then ha else hb)) s else s
      let s := forAll awaited (awaitLate p) s
      sendBursts p line (!ha) (!hb) s

/-- R26, R276: this unit sends bursts: it is not barred as DIVERGED, and as a standby it is aligned. -/
def sendsBursts (s : State) : Bool := !pairMode s || (!s.pair.barred && (holder s || s.pair.aligned))

/-- R138, R153: launch the frames of an admitted line on every enabled port; none in SAFE (R137). -/
def launchLine (m line : Nat) (s : State) : State :=
  if s.devState == .safe || !sendsBursts s then s else forAll (headPorts s) (launchPort m line) s

end Sys2Proof.Machine
end

