-- ==== Sys2Proof/Machine/Gaps.lean ====
section
/-!
DEFINITION. Gaps (R192, R193), check strips (R200, R227, R228), readiness and the flip line (R194, R195, R158), late pages (R197,
R198), speed bands (R140 to R145), and the start of a page (R202).
-/
namespace Sys2Proof.Machine
open Sys2Proof

/-! ### The gap -/

/-- The page of the bar that lies at the datum or is the last to have lain there, uncut and still to reach its end. -/
def atDatum (s : State) (b : Nat) : Option Page :=
  ((s.bar b).pages.filter (fun p => p.inProgress)).getLast?

/-- R192: E, the first line of the gap before the bar's next page. -/
def gapE (s : State) (b : Nat) : Nat :=
  let c := (s.bar b).scan
  match c.gapFrom with
  | some e => e
  | none =>
    if c.cutGap then s.trig.line + 1
    else match atDatum s b with
      | some p => p.flip.getD 0 + p.lines
      | none => s.trig.line + 1

/-- R19: the copies that govern the gap before the bar's next page. -/
def gapCopies (s : State) (b : Nat) : Map Val :=
  let x := s.bar b
  match x.gen with
  | some g => if pageGe (nextPageNum s b) g.page then overlay x.live x.pend else x.live
  | none => x.live

/-- R193: a gap-class object under the generation that governs the gap before the bar's next page. Once a strip has been
decided in the gap, the gap stays under the copies of that decision, so that no gap mixes two generations (R19; DEDUCED,
assumption log 101). -/
def gapN (s : State) (b idx sub : Nat) : Nat :=
  match (s.bar b).scan.gapUnder with
  | some m => stgNat (m.get? (okey idx sub)) idx sub
  | none => s.pageN b (nextPageNum s b) idx sub

/-- R228: STRIP_LEN under the generation that governs the gap. -/
def stripLen (s : State) (b : Nat) : Nat := 8 + gapN s b 0x6200 1 * gapN s b 0x6200 2

/-- The strip placed in the present gap. -/
def gapStrip (s : State) (b : Nat) : Option Strip :=
  (s.bar b).scan.strips.find? (fun x => !x.abandoned && decide (gapE s b ≤ x.first))

/-- R192: the effective minimum gap. -/
def effectiveMin (s : State) (b : Nat) : Nat :=
  max (gapN s b 0x5000 0) (match gapStrip s b with
    | some x => x.length + 2 * gapN s b 0x5001 1
    | none => 0)

/-! ### Strips -/

/-- R227: the targets of the rotation, as 2 * plane + row set. -/
def stripTargets (s : State) (b : Nat) : List Nat :=
  (s.planes.filter (fun p => bitN (s.bo b 0x621A p) 0)).flatMap (fun p =>
    (List.range (s.rowSets p)).map (fun rs => 2 * p + rs))

/-- R227: the rotation's next target. -/
def rotationTarget (s : State) (b : Nat) : Option (Nat × Nat × Bool) :=
  let ts := stripTargets s b
  (match ts.find? (fun t => decide ((s.bar b).scan.stripNext ≤ t)) with
   | some t => some t
   | none => ts.head?).map (fun t => (t / 2, t % 2, true))

/-- R227: the bar's pending strip. -/
def pendingStrip (s : State) (b : Nat) : Option (Nat × Nat × Bool) :=
  match (s.bar b).scan.stripPending with
  | some t => some t
  | none =>
    let every := s.bo b 0x6200 0
    if 0 < every ∧ every ≤ (s.bar b).scan.stripSince then rotationTarget s b else none

/-- R200: does the gap take a strip of `len` lines? -/
def stripFits (s : State) (b len : Nat) : Bool :=
  let need := len + 2 * gapN s b 0x5001 1
  let gmin := gapN s b 0x5000 0
  let gmax := gapN s b 0x5000 1
  if gapN s b 0x5001 0 = 0 then decide (need ≤ gmin) else gmax == 0 || decide (need ≤ max gmax gmin)

/-- R196, R200, R228: a strip as it is placed, with the geometry of the generation that governs the gap. -/
def newStrip (s : State) (b plane rs first len : Nat) : Strip :=
  { plane := plane, rowSet := rs, first := first, length := len, k := gapN s b 0x6200 1, seg := gapN s b 0x6200 2,
    level := gapN s b 0x6200 3, ended := [], got := [], gone := [], measured := false, abandoned := false, under := none,
    page := nextPageNum s b, ports := camPorts s, committed := false, endedAt := none }

/-- R200: put a strip into the gap. -/
def placeStrip (b : Nat) (x : Strip) (turned : Bool) (s : State) : State :=
  let s := s.modScan b (fun c => { c with
    strips := (c.strips ++ [x]).drop (c.strips.length - 15), stripPending := none, stripSince := 0
    stripNext := if turned then 2 * x.plane + x.rowSet + 1 else c.stripNext })
  let s := flagNext b stStripBefore (s.bumpB b 0x5022 2)
  postB .stripPlaced b (nextPageNum s b) 0 (leBytes 8 x.first ++ leBytes 2 x.length) s

/-- R200: decide whether the pending strip goes into the present gap; only the active unit decides (R196). -/
def decideStrip (b : Nat) (s : State) : State :=
  if (s.bar b).scan.stripDecided then s
  else
    let s := s.modScan b (fun c => { c with
      stripDecided := true, gapUnder := if (pendingStrip s b).isSome then some (gapCopies s b) else none })
    match holder s, pendingStrip s b with
    | true, some (plane, rs, turned) =>
      let len := stripLen s b
      let first := gapE s b + gapN s b 0x5001 1
      if stripFits s b len then
        placeStrip b (newStrip s b plane rs first len) turned s
      else postB .stripPlaced b (nextPageNum s b) 1 (leBytes 8 first ++ leBytes 2 len) (s.bumpB b 0x5022 3)
    | _, _ => s

/-! ### Marks -/

/-- 4050.00 MARK_REG EN. -/
def markReg (s : State) (b : Nat) : Bool := bitN (s.bo b 0x4050 0) 0

/-- R159: a line of a bar that mark input `k` registered is missed. -/
def missMark (b k line flags : Nat) (s : State) : State :=
  postB .markMissed b (nextPageNum s b) flags (leBytes 1 k ++ leBytes 3 0 ++ leBytes 8 line)
    (s.bumpB b 0x4052 0)

/-- R195: registered lines below `from_` are missed. -/
def dropMarks (b from_ : Nat) (s : State) : State :=
  let gone := (s.bar b).scan.marks.filter (fun m => decide (m.1 < from_))
  let s := s.modScan b (fun c => { c with marks := c.marks.filter (fun m => !decide (m.1 < from_)) })
  forAll gone (fun m s => missMark b m.2.2 m.1 0 s) s

/-! ### Readiness -/

/-- R194: head writes that the page's generation still awaits. -/
def headWrites (s : State) (b : Nat) (p : Page) : Bool :=
  (match (s.bar b).gen with
   | some g => pageGe p.num g.page && !g.headWait.isEmpty
   | none => false) ||
  (match (s.bar b).heads with
   | some g => !g.headWait.isEmpty
   | none => false)

/-- R194: the bar's next page, once it is ready and its flip line is not fixed. -/
def readyPage (s : State) (b : Nat) : Option Page :=
  match nextPage? s b with
  | some p =>
    if (s.bar b).vb == .printing && (s.bar b).waiting.isNone && p.flip.isNone && firstLinesDone s b p && !headWrites s b p
    then some p else none
  | none => none

/-- R195, R158: the line of readiness, kept while the page waits for a registered line. -/
def noteReady (b : Nat) (s : State) : State :=
  if markReg s b then
    let ready := (readyPage s b).isSome
    s.modScan b (fun c => { c with readyAt := if ready then some (c.readyAt.getD s.trig.line) else none })
  else s

/-- Table 08-1: 5012.01 START_WAIT. -/
def startWait (s : State) (b : Nat) : Nat :=
  b2n ((s.bar b).vb != .printing) +
  (match nextPage? s b with
   | none => 2
   | some p => 4 * b2n (!firstLinesDone s b p) + 32 * b2n (headWrites s b p) +
       64 * b2n (pairMode s && !holder s && p.flip.isNone)) +
  8 * b2n (decide (s.trig.line + 1 < gapE s b + effectiveMin s b)) +
  16 * b2n (markReg s b &&
    !(s.bar b).scan.marks.any (fun m => decide (max (s.trig.line + s.dv 0x5002 0) (gapE s b + effectiveMin s b) ≤ m.1)))

/-! ### Band changes -/

/-- 4100 with the effective upper edges of R140. -/
def bandEdge (s : State) (b k : Nat) : Nat := ((List.range (k + 1)).map (fun i => s.liveN b 0x4100 i)).foldl max 0

/-- R140: up, two per cent above an edge. -/
def bandUp (s : State) (b period : Nat) : Nat → Nat → Nat
  | 0, c => c
  | fuel + 1, c => if c < 7 ∧ 51 * bandEdge s b c * period ≤ 50000000000 then bandUp s b period fuel (c + 1) else c

/-- R140: down, two per cent below an edge. -/
def bandDown (s : State) (b period : Nat) : Nat → Nat → Nat
  | 0, c => c
  | fuel + 1, c =>
    if 0 < c ∧ 50000000000 < 49 * bandEdge s b (c - 1) * period then bandDown s b period fuel (c - 1) else c

/-- R140: the candidate band for a line period. -/
def bandCandidate (s : State) (b period : Nat) : Nat :=
  let c := bandUp s b period 7 (s.bar b).scan.band
  if c = (s.bar b).scan.band then bandDown s b period 7 c else c

/-- R141, R171: send the band-select blocks of a change of bar `b`. -/
def bandSelects (b : Nat) (c : BandChange) (s : State) : State :=
  forAll ((headPorts s).filter (fun p => governor s p == some b && (s.port p).st == .run)) (bandSelect b c) s

/-- R140, R142, R143: a change is decided; the active unit tells the partner (R144). -/
def decideBand (b : Nat) (c : BandChange) (s : State) : State :=
  let s := bandSelects b c (s.modScan b (fun x => { x with bandChange := x.bandChange ++ [c], bandWaits := false }))
  pairSend (.band b c.band c.line c.stop c.held) s

/-- R142: a change that waits is frozen for the page whose flip line is fixed now, with the band last pending. -/
def freezeBand (b page line : Nat) (s : State) : State :=
  if (s.bar b).scan.bandWaits && holder s then
    decideBand b { line := line, band := (s.bar b).scan.bandPend, stop := false, held := true, page := page } s
  else s

/-! ### The flip line -/

/-- R195: the smallest line that meets the conditions, given the line `m` of readiness. -/
def flipLine (s : State) (b m : Nat) : Option (Nat × Nat) :=
  let lo := max (m + s.dv 0x5002 0) (gapE s b + effectiveMin s b)
  if markReg s b then
    ((s.bar b).scan.marks.filter (fun k => decide (lo ≤ k.1) && decide (s.trig.line < k.1))).foldl (fun best k =>
      match best with
      | none => some (k.1, 64 + k.2.1 % 64)
      | some x => if k.1 < x.1 then some (k.1, 64 + k.2.1 % 64) else some x) none
  else some (lo, 0)

/-- The strip placement that a flip record carries (R196). -/
def stripPlace (x : Strip) : StripPlace :=
  { plane := Fin.ofNat 8 x.plane, rowSet := Fin.ofNat 2 x.rowSet, first := x.first, length := x.length }

/-- R195, R196: fix the flip line of a page. -/
def fixFlip (b : Nat) (p : Page) (f residual : Nat) (s : State) : State :=
  let strip := gapStrip s b
  let gap := f - gapE s b
  let s := s.modPage b p.num (fun q => { q with
    flip := some f, gapBefore := gap, residual := residual
    genWithheld := q.genWithheld || (match (s.bar b).mismatchFrom with | some e => pageGe q.num e | none => false) })
  let s := s.modScan b (fun c => { c with marks := c.marks.filter (fun k => k.1 != f), readyAt := none })
  let s := if holder s then pairSend (.flip b p.num f (strip.map stripPlace)) s else s
  activates b p f (freezeBand b p.num f s)

/-- R202, R137: the TIME at which line `n` fell due, from its line record; the present TIME when that is gone. -/
def lineTime (s : State) (n : Nat) : Nat :=
  match s.trig.records.get? (n % 32768) with
  | some r => if fieldLE r 8 8 = n then fieldLE r 0 8 else s.time
  | none => s.time

/-- FLIP_FIXED (R194 to R196, R142, R158, R200): the next page is ready at the last line that fell due. -/
def execFlipFixed (dt : Nat) (bar : Fin 16) (s : State) : Host.Outcome State Fault Refusal :=
  run dt s (fun s =>
    if holder s then
      match readyPage s bar with
      | some p =>
        let s := noteReady bar (decideStrip bar s)
        let m := if markReg s bar then (s.bar bar).scan.readyAt.getD s.trig.line else s.trig.line
        let s := if markReg s bar then dropMarks bar (m + s.dv 0x5002 0) s else s
        match flipLine s bar m with
        | some (f, r) => fixFlip bar p f r s
        | none => s
      | none => s
    else s)

/-! ### Late pages -/

/-- R193, R198: the line whose fall-due makes the next page late, none when there is no maximum. -/
def lateLine (s : State) (b : Nat) : Option Nat :=
  let gmax := gapN s b 0x5000 1
  if gmax = 0 then none
  else some (max (gapE s b) (s.bar b).scan.judgeFrom + max gmax (effectiveMin s b) + 1)

/-- Has LATE been decided for the bar's next page? -/
def lateJudged (s : State) (b : Nat) : Bool :=
  match nextPage? s b with
  | some p => p.lateJudged
  | none => bitN (s.bar b).scan.nextBits 2

/-- R197: the next page is late. -/
def judgeLate (b n : Nat) (s : State) : State :=
  if (s.bar b).vb != .printing || (s.bar b).scan.gapFrom.isNone || lateJudged s b then s
  else match lateLine s b with
    | none => s
    | some l =>
      if n < l then s
      else
        let noHead := (nextPage? s b).isNone
        let s := flagNext b stLate s
        let s := match nextPage? s b with
          | some p => s.modPage b p.num (fun q => { q with lateJudged := true })
          | none => s
        let s := postB .latePage b (nextPageNum s b) (b2n noHead) (leBytes 4 (startWait s b) ++ leBytes 8 n) (s.bumpB b 0x5022 0)
        webSlowAsk b s

/-! ### The start of a page -/

/-- R20, R174: the page of an idle generation has started, so its heads have their ACTIVATEs; what a later generation asks of
the heads follows. -/
def headsStarted (b : Nat) (s : State) : State :=
  match (s.bar b).heads with
  | some _ => shadowWrites b (s.modBar b (fun x => { x with heads := none }))
  | none => s

/-- R202: the flip line `n` of a page has fallen due at TIME `time`. -/
def startPage (b n time : Nat) (p : Page) (s : State) : State :=
  let s := sramJudge b (moveTables b (headsStarted b (liveAtPage b p.num s)))
  let gap := !(s.bar b).scan.uncomp.isEmpty
  let s := s.modPage b p.num (fun q => { q with
    started := true, flipTime := time, bandFirst := (s.bar b).scan.band
    status := q.status ||| stStarted ||| (if gap then stNozzleGap else 0) |||
      (if bitN q.residual 6 then stRegistered else 0) })
  let st := match s.page? b p.num with | some q => q.status | none => 0
  let s := s.modScan b (fun c => { c with
    gapFrom := none, needFirst := false, cutGap := false, stripDecided := false, gapUnder := none, stripSince := c.stripSince + 1
    lastStarted := some p.num })
  let s := s.setBo b 0x5010 0 ((s.bo b 0x5010 0 + 1) % 2 ^ 32)
  let s := ((s.setBo b 0x5011 0 p.num).setBo b 0x5011 1 n).setBo b 0x5011 2 time
  let s := postB .pageStart b p.num (b2n (bitN st 2) + 2 * b2n (bitN st 18))
    (leBytes 8 n ++ leBytes 4 (min p.gapBefore 0xFFFFFFFF)) s
  let s := integCheck b p.num s
  if s.dv 0xA010 1 = 0x2000 + b ∧ holder s then startArmed s else s

end Sys2Proof.Machine
end

