-- ==== Sys2Proof/Machine/Queues.lean ====
section
/-!
DEFINITION. The doorbells and the pointers of the rings in host memory (R61, R63 to R65, R82, R396), and Bus Master Enable (R63 to R65).
-/
namespace Sys2Proof.Machine
open Sys2Proof

/-- The distance from `a` up to `b` of two free-running 32-bit indices. -/
def ringAhead (a b : Nat) : Nat := (b + 2 ^ 32 - a % 2 ^ 32) % 2 ^ 32

/-- R61: a tail of `v` is refused: behind the present tail, or more than the ring's size ahead of the head. -/
def tailRefused (head tail size v : Nat) : Bool :=
  decide (ringAhead head v < ringAhead head tail) || decide (size < ringAhead head v)

/-- 2001.00 WQ_TAIL (R61, Table 13-4). -/
def wqTailEffect : Effect := onBar (fun b _ w s =>
  let q := (s.bar b).intake
  if tailRefused q.wqHead q.wqTail (s.bo b 0x2000 1) w.toNat then
    (stRange, s.modIntake b (fun q => { q with tailBad := true }))
  else (stOK, raiseSource (0x10 + b) (s.modIntake b (fun q => { q with wqTail := w.toNat, tailBad := false }))))

/-- WQ_TAIL (R61). -/
def execWqTail (dt : Nat) (door : Door) (val : Slot) (s : State) : Host.Outcome State Fault Refusal :=
  run dt s (writeThrough door 0x2001 0 val wqTailEffect)

/-- R64: a head may move forward as far as the tail. -/
def headRefused (head tail v : Nat) : Bool := decide (ringAhead head tail < ringAhead head v)

/-- 2003.00 EQ_HEAD (R64). -/
def eqHeadEffect : Effect := onBar (fun b _ w s =>
  let q := (s.bar b).intake
  if headRefused q.eqHead q.eqTail w.toNat then (stRange, s)
  else (stOK, eqFlush b (s.modIntake b (fun q => { q with eqHead := w.toNat }))))

/-- EQ_HEAD (R64). -/
def execEqHead (dt : Nat) (door : Door) (val : Slot) (s : State) : Host.Outcome State Fault Refusal :=
  run dt s (writeThrough door 0x2003 0 val eqHeadEffect)

/-- 2011.00 DEQ_HEAD (R65). -/
def deqHeadEffect : Effect := onDev (fun _ w s =>
  if headRefused s.deqHead s.deqTail w.toNat then (stRange, s)
  else (stOK, deqFlush { s with deqHead := w.toNat }))

/-- DEQ_HEAD (R65). -/
def execDeqHead (dt : Nat) (door : Door) (val : Slot) (s : State) : Host.Outcome State Fault Refusal :=
  run dt s (writeThrough door 0x2011 0 val deqHeadEffect)

/-- 2010.02 DEQ_EN (R65). -/
def deqEnEffect : Effect := onDev (fun _ w s =>
  if w ≠ 0 ∧ s.dv 0x2010 0 = 0 then (stRange, s)
  else (stOK, deqFlush (s.setDv 0x2010 2 w.toNat)))

/-- DEQ_EN (R65). -/
def execDeqEn (dt : Nat) (door : Door) (val : Slot) (s : State) : Host.Outcome State Fault Refusal :=
  run dt s (writeThrough door 0x2010 2 val deqEnEffect)

/-- 2005 DMA_BLOCKED (R63): Bus Master Enable of the function that QUEUE_FN names is clear. -/
def dmaBlocked (s : State) (b : Nat) : Bool := !(s.fn (queueFn s b)).bme

/-- R63, Table 03-11: report a change of DMA_BLOCKED since `was`. -/
def dmaJudge (b : Nat) (was : Bool) (s : State) : State :=
  if dmaBlocked s b = was then s else postPaused b 4 was s

/-- Host address and bytes of a fetch that a waybill on its way has under way, by its phase (R399). -/
def flightRead (s : State) (b : Nat) (e : Inflight) : FetchKind × Nat × Nat :=
  match e.phase with
  | 0 => (.waybill, s.bo b 0x2000 0 + 64 * (e.idx % s.bo b 0x2000 1), 64)
  | 3 => (.integ, fieldLE e.bytes 16 8, 16 * (byteAt e.bytes 12).toNat)
  | _ => (.payload, fieldLE e.bytes 16 8, fieldLE e.bytes 24 4)

/-- R63: the aborted fetches of a bar are requested again once Bus Master Enable is set. -/
def fetchAgain (b : Nat) (s : State) : State :=
  if dmaBlocked s b then s
  else
    let s := forAll ((s.bar b).intake.inflight.filter (fun e => e.again)) (fun e s =>
      let r := flightRead s b e
      s.emit (.dmaRead (queueFn s b) b r.1 r.2.1 r.2.2)) s
    s.modIntake b (fun q => { q with inflight := q.inflight.map (fun e => { e with again := false }) })

/-- Bus Master Enable of function `k` takes the value `en`. -/
def busMaster (k : Nat) (en : Bool) (s : State) : State :=
  let before := s
  let s := s.modFn k (fun f => { f with bme := en })
  let s := if k = 0 then deqFlush s else s
  forAll ((List.range 16).filter (fun b => queueFn s b == k)) (fun b s => fetchAgain b (dmaJudge b (dmaBlocked before b) (eqFlush b s))) s

/-- BUS_MASTER_CHANGE (R63 to R65). -/
def execBusMasterChange (dt : Nat) (fn : Fin 17) (en : Bool) (s : State) : Host.Outcome State Fault Refusal :=
  run dt s (busMaster fn en)

/-- 2000.02 QUEUE_FN, 2000.03 QUEUE_EN (R63, R58): refused with RANGE while a base is 0. -/
def queueEffect : Effect := onBar (fun b sub w s =>
  if sub = 3 ∧ w ≠ 0 ∧ (s.bo b 0x2000 0 = 0 ∨ s.bo b 0x2002 0 = 0) then (stRange, s)
  else
    let was := dmaBlocked s b
    (stOK, advanceBars (dmaJudge b was (eqFlush b (s.setBo b 0x2000 sub w.toNat)))))

/-- 2010.00 DEQ_BASE, 2010.01 DEQ_SIZE: refused with STATE while DEQ_EN is 1 (R65). -/
def deqRingEffect : Effect := onDev (fun sub w s =>
  if s.dv 0x2010 2 ≠ 0 then (stState, s) else (stOK, s.setDv 0x2010 sub w.toNat))

/-- 2301.00 DJ_TAIL: checked as in R61. -/
def djTailEffect : Effect := onBar (fun b _ w s =>
  let q := (s.bar b).intake
  if tailRefused q.djHead q.djTail (s.bo b 0x2300 1) w.toNat then (stRange, s)
  else (stOK, s.modIntake b (fun q => { q with djTail := w.toNat })))

/-- DJ_TAIL (R61, R82). -/
def execDjTail (dt : Nat) (door : Door) (val : Slot) (s : State) : Host.Outcome State Fault Refusal :=
  run dt s (writeThrough door 0x2301 0 val djTailEffect)

end Sys2Proof.Machine
end

