-- ==== Sys2Proof/Machine/Intake.lean ====
section
/-!
DEFINITION. Page intake (R61 to R70, R75, R78, R79, R399, R400): fetches, the checks of Table 03-5, page heads, wagons, reprints,
and the storing of payloads.
-/
namespace Sys2Proof.Machine
open Sys2Proof

/-! ### The queue -/

/-- Update the waybill of queue index `idx` on its way through intake. -/
def modFlight (b idx : Nat) (f : Inflight → Inflight) (s : State) : State :=
  s.modIntake b (fun q => { q with inflight := q.inflight.map (fun e => if e.idx = idx then f e else e) })

/-- R62: WQ_HEAD passes the waybills at the front that are done. -/
def advanceHead (b : Nat) (s : State) : State :=
  s.modIntake b (fun q => { q with
    wqHead := (q.wqHead + (q.inflight.takeWhile (fun e => e.phase == 5)).length) % 2 ^ 32
    inflight := q.inflight.dropWhile (fun e => e.phase == 5) })

/-- R62: a waybill is done with. -/
def flightDone (b idx : Nat) (s : State) : State := advanceHead b (modFlight b idx (fun e => { e with phase := 5 }) s)

/-- R399: is intake held for the bar, whatever it would fetch? -/
def intakeHeld (s : State) (b : Nat) : Bool :=
  (s.bar b).vb == .off || s.bo b 0x2000 3 == 0 || dmaBlocked s b || (s.bar b).intake.overQuota || (s.bar b).intake.calderaFull

/-- The waybill of the bar whose payload or integrity entries are to be fetched next. -/
def toGrant (s : State) (b : Nat) (kind : FetchKind) : Option Inflight :=
  (s.bar b).intake.inflight.find? (fun e => !e.granted && e.phase == (if kind = .integ then 3 else 4))

/-- R399: waybill fetches in flight across all bars. -/
def waybillsFlying (s : State) : Nat :=
  ((List.range 16).map (fun b => ((s.bar b).intake.inflight.filter (fun e => e.phase == 0)).length)).sum

/-- R7, R11: back-pressure from a memory queue that cannot accept a request holds intake. -/
def backPressure (s : State) : Bool := s.subch.any (fun p => !p.2.held.isEmpty)

/-- R399, R7: has the bar a fetch of the kind to request? A held head stops the bar's queue, not the payloads before it, without
which no page could close (assumption log 33). -/
def wantsFetch (s : State) (kind : FetchKind) (b : Nat) : Bool :=
  !intakeHeld s b && !backPressure s &&
  (match kind with
   | .waybill => (s.bar b).intake.fetchIdx != (s.bar b).intake.wqTail && !(s.bar b).intake.pageHold && decide (waybillsFlying s < 32)
   | k => (toGrant s b k).isSome)

/-- The wagon that a waybill on its way has opened; its slot's when that has failed meanwhile. -/
def flightWagon (s : State) (b : Nat) (e : Inflight) : Option Wagon :=
  match (s.page? b e.page).bind (fun p => p.slots.get? e.slot) with
  | some w => if w.failCode ≠ 0 then some w else e.wagon
  | none => none

/-- Host address and bytes of the next fetch of a kind. -/
def fetchOf (s : State) (b : Nat) (kind : FetchKind) : Nat × Nat :=
  match kind with
  | .waybill => (s.bo b 0x2000 0 + 64 * ((s.bar b).intake.fetchIdx % s.bo b 0x2000 1), 64)
  | .integ => match toGrant s b .integ with
    | some e => (fieldLE e.bytes 16 8, 16 * (byteAt e.bytes 12).toNat)
    | none => (0, 0)
  | .payload => match toGrant s b .payload with
    | some e => (fieldLE e.bytes 16 8, fieldLE e.bytes 24 4)
    | none => (0, 0)

/-- A fetch of the kind begins for bar `b`. -/
def beginFetch (b : Nat) (kind : FetchKind) (s : State) : State :=
  let r := fetchOf s b kind
  let s := s.emit (.dmaRead (queueFn s b) b kind r.1 r.2)
  match kind with
  | .waybill => s.modIntake b (fun q => { q with
      fetchIdx := (q.fetchIdx + 1) % 2 ^ 32
      inflight := q.inflight ++ [{ idx := q.fetchIdx, phase := 0, bytes := [], granted := true, aborts := [], page := 0, slot := 0,
                                    wagon := none, again := false }] })
  | k => match toGrant s b k with
    | some e => modFlight b e.idx (fun e => { e with granted := true }) s
    | none => s

/-- The cap of the intake deficit: the DMA rate of Table 03-10 in 1 µs (R261). -/
def dmaCap : Nat := 48000

/-- R399: has the bar a fetch of any kind to request? -/
def wantsAny (s : State) (b : Nat) : Bool := [FetchKind.waybill, .payload, .integ].any (fun k => wantsFetch s k b)

/-- R399, R261: a grant of a fetch goes to the bar of the greatest deficit among those with anything to fetch; a bar in PAGE_HOLD
accrues nothing. -/
def grantFetch (kind : FetchKind) (s : State) : State :=
  let pend := (List.range 16).filter (wantsAny s)
  let accrue := pend.filter (fun b => !(s.bar b).intake.pageHold)
  match bestDeficit s.deficit (fun b => 64 + b) pend with
  | none => s
  | some b =>
    if wantsFetch s kind b then
      let c := (fetchOf s b kind).2
      beginFetch b kind { s with deficit := grantDeficit s.deficit 64 16 accrue (fun a => s.bo a 0x7102 0) c b dmaCap }
    else s

/-- FETCH_GRANT (R399, R261, R63). -/
def execFetchGrant (dt : Nat) (kind : FetchKind) (s : State) : Host.Outcome State Fault Refusal :=
  run dt s (grantFetch kind)

/-! ### Failures -/

/-- R400: a waybill fails a check of Table 03-5. `w`: the plane, span and band that it names. -/
def wbFail (b idx code type page : Nat) (w : Nat × Nat × Nat) (s : State) : State :=
  let s := s.bumpB b 0x2007 3
  let s := s.setBo b 0x2008 0 (lastFail page w.2.2 (w.2.1 % 32) (w.1 % 8) code)
  let d (span : Nat) := leBytes 4 idx ++ leBytes 1 code ++ leBytes 1 type ++ leBytes 2 span ++ leBytes 2 w.2.2 ++ leBytes 1 w.1
  if type = 1 then postSpan .wbFail b page 0 d w.2.1 s else postB .wbFail b page 0 (d w.2.1) s

/-- Are the bytes from `o` on, `n` of them, zero? -/
def zeros (bs : List Byte) (o n : Nat) : Bool := ((bs.drop o).take n).all (fun x => x == 0)

/-- NOTIFY: WAGON_DONE with the cookie of the waybill. -/
def notify (b page : Nat) (bs : List Byte) (s : State) : State :=
  if bitN (fieldLE bs 2 2) 2 then postB .wagonDone b page 0 ((bs.drop 48).take 8) s else s

/-! ### Page heads -/

/-- A page as its head opens it. -/
def newPage (s : State) (b n lines : Nat) (noRetain : Bool) (source : Option Nat) (rects : List Rect) : Page :=
  let bits := if (nextPage? s b).isNone then (s.bar b).scan.nextBits else 0
  { num := n, lines := lines, noRetain := noRetain, source := source, rects := rects, slots := [], isOpen := true,
    status := bits ||| (if source.isSome then stReprint else 0), flip := none, flipTime := 0, started := false,
    printed := false, cut := false, lateJudged := bitN bits 2, gapBefore := 0, endTime := 0, endLine := 0, integPass := 0,
    integFail := 0, bandFirst := 0, bandLast := 0, bandChanges := 0, bandLine := none, residual := 0,
    skipped := 0, withheldLines := 0, lastLine := 0, retained := false, pins := 0, webMark := 0, tokens := [], logical := [],
    screened := [], counted := [], genWithheld := false, under := none, actKeys := [], moved := []
    store := (s.bar b).nextStore, lineGen := [] }

/-- R203, R205: pages whose record a new page overwrites, and former pages of the same number, are forgotten (assumption log
34). -/
def forgotten (n : Nat) (p : Page) : Bool :=
  (p.printed || p.cut) && (p.num == n || (p.num % 256 == n % 256 && !p.retained))

/-- R87: the bytes of a capture of a page of `lines` lines. -/
def auditSize (s : State) (b plane lines : Nat) : Nat := (s.width b * s.greyBits plane + 7) / 8 * lines

/-- R87: a capture asked for before the page's head; one above 4 GiB is not held (assumption log 35). -/
def sizeAudit (s : State) (b lines : Nat) (a : Audit) : Option Audit :=
  let n := auditSize s b a.plane lines
  if 2 ^ 32 < n then none else some { a with size := n }

/-- R68, R205: a new page takes its place behind the bar's pages. -/
def addPage (b : Nat) (p : Page) (s : State) : State :=
  let first := (nextPage? s b).isNone
  let s := s.modBar b (fun x => { x with
    pages := x.pages.filter (fun q => !forgotten p.num q) ++ [p], nextStore := max x.nextStore (p.store + 1) })
  let s := if first then s.modScan b (fun c => { c with nextBits := 0 }) else s
  let s := s.modPage b p.num (fun q => q)
  s.modIntake b (fun q => { q with
    expect := some (pageSucc p.num), audit := q.audit.bind (fun a => if a.page = p.num then sizeAudit s b p.lines a else some a) })

/-- R196, R202: the standby has applied the flip line `f` of a page: the page has started if `f` has fallen due, and has been
cut at line `l` if SAFE came meanwhile (R204). -/
def peerFlip (b n f : Nat) (cut : Option Nat) (s : State) : State :=
  if f ≤ s.trig.line ∧ s.trig.en then
    match s.page? b n with
    | some q =>
      let s := startPage b f (lineTime s f) q s
      match cut with
      | some l => pageEnd b n true l (integCut b n s)
      | none => s
    | none => s
  else s

/-- R196: a flip record that came before the page's head takes effect. -/
def takeAhead (b n : Nat) (s : State) : State :=
  match (s.bar b).scan.ahead.find? (fun r => r.1 == n), s.page? b n with
  | some r, some p =>
    let s := s.modScan b (fun c => { c with ahead := c.ahead.filter (fun x => x.1 != n) })
    peerFlip b n r.2.1 r.2.2 (fixFlip b p r.2.1 0 s)
  | _, _ => s

/-- A head has passed every check: its page is opened. -/
def acceptHead (b : Nat) (e : Inflight) (rects : List Rect) (s : State) : State :=
  let n := fieldLE e.bytes 4 4
  let s := addPage b (newPage s b n (fieldLE e.bytes 8 4) (bitN (fieldLE e.bytes 2 2) 3) none rects) s
  let s := notify b n e.bytes (flightDone b e.idx (applyQuota b s))
  takeAhead b n (closeIfDone b n s)

/-- Steps 4 to 8 of Table 03-5 for a head: the code of the first that fails, 0 for none. -/
def headCode (s : State) (b : Nat) (bs : List Byte) : Nat :=
  let flags := fieldLE bs 2 2
  let count := (byteAt bs 12).toNat
  if !zeros bs 1 1 || bitsN flags 1 0 != 0 || bitsN flags 15 4 != 0 || !zeros bs 13 3 || !zeros bs 24 24 || !zeros bs 56 4 ||
    (count == 0 && !zeros bs 16 8) then 0x03
  else if (match (s.bar b).intake.expect with | some x => x != fieldLE bs 4 4 | none => false) then 0x04
  else if fieldLE bs 8 4 = 0 ∨ 33554432 < fieldLE bs 8 4 then 0x0A
  else if 16 < count then 0x0F
  else if fieldLE bs 16 8 % 64 ≠ 0 then 0x0B
  else 0

/-- The checks of a head from step 4 on (R69). -/
def checkHead (b : Nat) (e : Inflight) (s : State) : State :=
  let code := headCode s b e.bytes
  if code ≠ 0 then flightDone b e.idx (wbFail b e.idx code 2 (fieldLE e.bytes 4 4) (0, 0, 0) s)
  else if byteAt e.bytes 12 = 0 then acceptHead b e [] s
  else modFlight b e.idx (fun e => { e with phase := 3, granted := false }) s

/-! ### Wagons -/

/-- R70: a slot is filled once it holds a stored wagon or a failure. -/
def Wagon.filled (w : Wagon) : Bool := w.isStored || w.failCode != 0

/-- Steps 3 to 8 of Table 03-5 for a wagon: the code of the first that fails, 0 for none. -/
def wagonCode (s : State) (b : Nat) (bs : List Byte) : Nat :=
  let flags := fieldLE bs 2 2
  let plane := (byteAt bs 1).toNat
  let span := fieldLE bs 8 2
  let band := fieldLE bs 10 2
  if bitsN flags 15 3 != 0 || (!bitN flags 0 && !(zeros bs 15 1 && zeros bs 32 12)) || (!bitN flags 1 && !zeros bs 28 4) ||
    !zeros bs 45 3 || !zeros bs 56 4 then 0x03
  else match (openPages s b).find? (fun p => p.num == fieldLE bs 4 4) with
    | none => 0x05
    | some p =>
      if !(decide (plane < 8) && s.inUse plane) then 0x06
      else if s.spanCount b ≤ span then 0x07
      else if ceilDiv p.lines 512 ≤ band ∨ fieldLE bs 12 2 ≠ bandLines p.lines band then 0x08
      else if ((p.slots.get? (slotKey plane span band)).map Wagon.filled).getD false then 0x0D
      else 0

/-- Steps 9 to 12 of Table 03-5. -/
def slotCode (s : State) (b : Nat) (bs : List Byte) : Nat :=
  let enc := bitN (fieldLE bs 2 2) 0
  let len := fieldLE bs 24 4
  if (byteAt bs 14).toNat ≠ s.format b (byteAt bs 1).toNat then 0x09
  else if len = 0 ∨ 1114112 < len ∨ (enc ∧ len < 17) then 0x0A
  else if fieldLE bs 16 8 % 64 ≠ 0 then 0x0B
  else if enc ∧ 3 < (byteAt bs 15).toNat then 0x0C
  else 0

/-- The wagon that a waybill describes, with the key latched now (R75). -/
def wagonOf (s : State) (b : Nat) (bs : List Byte) : Wagon :=
  let flags := fieldLE bs 2 2
  { plane := (byteAt bs 1).toNat, span := fieldLE bs 8 2, band := fieldLE bs 10 2, lines := fieldLE bs 12 2,
    format := (byteAt bs 14).toNat, encrypted := bitN flags 0, hasCrc := bitN flags 1,
    payloadLen := fieldLE bs 24 4, inflatedCrc := fieldLE bs 28 4, iv := (bs.drop 32).take 12,
    affinity := (byteAt bs 44).toNat, cookie := fieldLE bs 48 8, aad := bs.take 16,
    key := if bitN flags 0 then (s.bar b).keys.get? (byteAt bs 15).toNat else none,
    phase := .fetching, payload := [], rows := [], released := 0, attempts := 0, tried := [], failCode := 0, failFrom := none,
    withheld := false }

/-- R106: a printed page whose last lines have been screened keeps no levels, and no wagons unless it is retained. -/
def finishPage (b n : Nat) (s : State) : State :=
  match s.page? b n with
  | some p =>
    if p.printed && pageScreened s b p then
      s.modPage b n (fun q => { q with tokens := [], slots := if q.retained then q.slots else [] })
    else s
  | none => s

/-- R207, R87, R106: what follows when lines of a page have become known. -/
def settle (b n : Nat) (s : State) : State := finishPage b n (auditCheck b (integCheck b n s))

/-- The checks of a wagon from step 3 on. -/
def checkWagon (b : Nat) (e : Inflight) (s : State) : State :=
  let bs := e.bytes
  let n := fieldLE bs 4 4
  let w := wagonOf s b bs
  let key := slotKey w.plane w.span w.band
  let code := wagonCode s b bs
  if code ≠ 0 then flightDone b e.idx (wbFail b e.idx code 1 n (w.plane, w.span, w.band) s)
  else
    let code := slotCode s b bs
    if code ≠ 0 then
      let s := wbFail b e.idx code 1 n (w.plane, w.span, w.band) s
      flightDone b e.idx (settle b n (wagonFail b n w code s))
    else
      let s := (s.countB64 b 0x2007 0 1).modPage b n (fun p => { p with slots := p.slots.set key w })
      modFlight b e.idx (fun e => { e with phase := 4, granted := false, page := n, slot := key, wagon := some w }) s

/-! ### Reprints -/

/-- R79: a source page may be printed again. -/
def reprintable (s : State) (b n : Nat) : Bool :=
  match s.page? b n with
  | some p => (p.printed || p.cut) && p.retained && !bitN p.status 4
  | none => false

/-- R79, Table 11-3: does the check of one source page pass? A standby follows the active's check where it has it. -/
def reprintPasses (s : State) (b n : Nat) : Bool :=
  if holder s then reprintable s b n
  else match s.pair.reprints.get? (b * 2 ^ 32 + n) with
    | some v => v && (s.page? b n).isSome
    | none => reprintable s b n

/-- A slot of a source page as its reprint takes it (R79, R75). -/
def reprintSlot (s : State) (b : Nat) (w : Wagon) : Wagon :=
  { w with
    phase := .stored, rows := [], released := 0, attempts := 0, tried := [], failCode := 0, failFrom := none, withheld := false
    key := if w.encrypted then (s.bar b).keys.get? (byteAt w.aad 15).toNat else none }

/-- R72, Table 11-3: the standby no longer holds the source page: every slot of its reprint is withheld. -/
def reprintLost (s : State) (b : Nat) (p : Page) : Map Wagon :=
  s.planes.foldl (fun m pl => (List.range (s.spanCount b)).foldl (fun m sp =>
    (List.range (ceilDiv p.lines 512)).foldl (fun (m : Map Wagon) bd =>
      m.set (slotKey pl sp bd) { emptyWagon pl sp bd (bandLines p.lines bd) (s.format b pl) with
        phase := .failed, failCode := 0x11, failFrom := some 0, withheld := true }) m) m) []

/-- R79: open page `n` as a reprint of page `src`, complete at once. -/
def reprintPage (b n src : Nat) (s : State) : State :=
  match s.page? b src with
  | none => s
  | some p =>
    let held := p.retained && !p.slots.isEmpty
    let slots := if held then p.slots.mapVals (reprintSlot s b) else reprintLost s b p
    let rects := p.rects.map (fun r => { r with crc := none, incomplete := false })
    -- R208: a source that this unit has lost leaves every line of the page unknown
    let q := { newPage s b n p.lines false (some src) rects with slots := slots, isOpen := false, store := p.store }
    let q := if held then q else { q with status := q.status ||| stIntakeDefect }
    let s := addPage b q s
    let s := s.modPage b src (fun x => { x with pins := x.pins + 1 })
    let s := mirror (.reprint (Fin.ofNat 16 b) (BitVec.ofNat 32 src) true) s
    let s := postB .pageIntakeDone b n (b2n (!held)) (leBytes 4 (pageFilled q - pageFailed q) ++ leBytes 4 (pageFailed q)) s
    takeAhead b n (if held then s else integCut b n s)

/-- The checks of a reprint from step 3 on (R79). -/
def checkReprint (b : Nat) (e : Inflight) (s : State) : State :=
  let bs := e.bytes
  let flags := fieldLE bs 2 2
  let n := fieldLE bs 4 4
  let src := fieldLE bs 8 4
  let k := fieldLE bs 12 2
  let at_ (i : Nat) := (src + i) % 2 ^ 32
  let code :=
    if !zeros bs 1 1 || bitsN flags 1 0 != 0 || bitsN flags 15 3 != 0 || !zeros bs 14 34 || !zeros bs 56 4 then 0x03
    else if (match (s.bar b).intake.expect with | some x => x != n | none => false) then 0x04
    else if k = 0 ∨ 1024 < k then 0x0A
    else if !(List.range k).all (fun i => reprintPasses s b (at_ i)) then 0x0E
    else 0
  if code = 0x0E then
    let s := forAll ((List.range k).filter (fun i => !reprintPasses s b (at_ i))) (fun i s =>
      mirror (.reprint (Fin.ofNat 16 b) (BitVec.ofNat 32 (at_ i)) false) s) s
    flightDone b e.idx (wbFail b e.idx code 3 n (0, 0, 0) s)
  else if code ≠ 0 then flightDone b e.idx (wbFail b e.idx code 3 n (0, 0, 0) s)
  else
    let s := forAll (List.range k) (fun i s => reprintPage b ((n + i) % 2 ^ 32) (at_ i) s) s
    let s := postB .reprintOpened b n 0 (leBytes 4 src ++ leBytes 2 k) s
    notify b n bs (flightDone b e.idx s)

/-! ### The run of checks -/

/-- R67: check one fetched waybill. -/
def checkWaybill (b : Nat) (e : Inflight) (s : State) : State :=
  let bs := e.bytes
  if crc32c (bs.take 60) ≠ fieldLE bs 60 4 then flightDone b e.idx (wbFail b e.idx 0x01 0 0 (0, 0, 0) s)
  else match (byteAt bs 0).toNat with
    | 1 => checkWagon b e s
    | 2 =>
      if 4 ≤ (openPages s b).length then
        postPaused b 3 false ((modFlight b e.idx (fun e => { e with phase := 2 }) s).modIntake b (fun q => { q with pageHold := true }))
      else checkHead b e s
    | 3 => checkReprint b e s
    | t => flightDone b e.idx (wbFail b e.idx 0x02 t (fieldLE bs 4 4) (0, 0, 0) s)

/-- R399: check the fetched waybills of a bar in queue order, as far as no head waits before them. -/
def checkRun (b : Nat) : Nat → State → State
  | 0, s => s
  | fuel + 1, s =>
    match (s.bar b).intake.inflight.find? (fun e => decide (e.phase < 4)) with
    | some e => if e.phase = 1 then checkRun b fuel (checkWaybill b e s) else s
    | none => s

/-- Check what may be checked. -/
def checkAll (b : Nat) (s : State) : State := checkRun b (s.bar b).intake.inflight.length s

/-- R69: an open page has closed: the held head goes on. -/
def resumeHold (b : Nat) (s : State) : State :=
  if (s.bar b).intake.pageHold ∧ (openPages s b).length < 4 then
    let s := postPaused b 3 true (s.modIntake b (fun q => { q with pageHold := false }))
    match (s.bar b).intake.inflight.find? (fun e => e.phase == 2) with
    | some e => checkAll b (checkHead b e s)
    | none => s
  else s

/-- R69, R78: what waits in intake goes on, where it may. -/
def resumeIntake (b : Nat) (s : State) : State := resumeHold b (retryRoom b s)

/-- WAYBILL_FETCHED (R67, Table 03-5). -/
def execWaybillFetched (dt : Nat) (bar : Fin 16) (bytes : List Byte) (s : State) : Host.Outcome State Fault Refusal :=
  if bytes.length = 64 then
    run dt s (fun s =>
      match (s.bar bar).intake.inflight.find? (fun e => e.phase == 0) with
      | some e => resumeHold bar (checkAll bar (modFlight bar e.idx (fun e => { e with phase := 1, bytes := bytes }) s))
      | none => s)
  else .fault (.malformed "a waybill has 64 bytes")

/-- Table 03-5a: an integrity entry. -/
def rectOf (bs : List Byte) : Rect :=
  { plane := (byteAt bs 0).toNat, x0 := fieldLE bs 2 2, width := fieldLE bs 4 2 + 1, height := fieldLE bs 6 2 + 1,
    y0 := fieldLE bs 8 4, expect := fieldLE bs 12 4, crc := none, incomplete := false }

/-- Table 03-5a: is an entry acceptable on a page of `lines` lines? -/
def rectOk (s : State) (b lines : Nat) (bs : List Byte) : Bool :=
  let r := rectOf bs
  decide (r.plane < 8) && s.inUse r.plane && byteAt bs 1 == 0 && decide (r.x0 + r.width ≤ s.width b) &&
  decide (r.y0 + r.height ≤ lines)

/-- Step 10 of Table 03-5: the integrity entries of a head have arrived. -/
def checkInteg (b : Nat) (e : Inflight) (bytes : List Byte) (s : State) : State :=
  let es := chunks 16 (byteAt e.bytes 12).toNat bytes
  if es.all (rectOk s b (fieldLE e.bytes 8 4)) then acceptHead b e (es.map rectOf) s
  else flightDone b e.idx (wbFail b e.idx 0x0F 2 (fieldLE e.bytes 4 4) (0, 0, 0) s)

/-- INTEG_ENTRIES_FETCHED (R67, Table 03-5a). -/
def execIntegEntriesFetched (dt : Nat) (bar : Fin 16) (bytes : List Byte) (s : State) : Host.Outcome State Fault Refusal :=
  run dt s (fun s =>
    match (s.bar bar).intake.inflight.find? (fun e => e.phase == 3 && e.granted) with
    | some e =>
      if bytes.length = 16 * (byteAt e.bytes 12).toNat then resumeHold bar (checkAll bar (checkInteg bar e bytes s)) else s
    | none => s)

/-! ### Payloads -/

/-- The payload fetch of the bar that is under way and next to be admitted: the first of its queue, which none overtakes
(R399). -/
def payloadFlight (s : State) (b : Nat) : Option Inflight :=
  match (s.bar b).intake.inflight.find? (fun e => e.phase == 4) with
  | some e => if e.granted then some e else none
  | none => none

/-- R399, R78: no payload of the bar is admitted now; those under way are fetched again once space returns. -/
def haltPayloads (b : Nat) (s : State) : State :=
  s.modIntake b (fun q => { q with inflight := q.inflight.map (fun e => if e.phase = 4 then { e with granted := false } else e) })

/-- Has another wagon of the slot been stored (R70)? -/
def slotTaken (s : State) (b : Nat) (e : Inflight) : Bool :=
  (((s.page? b e.page).bind (fun p => p.slots.get? e.slot)).map (fun w => w.isStored)).getD false

/-- R62, R70, R71, R78: a payload has arrived whole: stored, discarded when its slot has failed or holds another wagon stored
before it (DEDUCED, assumption log 109), or kept out for want of space. -/
def storePayload (b : Nat) (e : Inflight) (w : Wagon) (bytes : List Byte) (s : State) : State :=
  if w.failCode ≠ 0 then flightDone b e.idx s
  else if slotTaken s b e then flightDone b e.idx (wbFail b e.idx 0x0D 1 e.page (w.plane, w.span, w.band) s)
  else
    let s := makeRoom b (wagonBytes w) ((s.bar b).pages.length + 1) s
    if (s.bar b).intake.calderaFull then haltPayloads b s
    else
      let s := s.modPage b e.page (fun p => { p with slots := p.slots.set e.slot { w with phase := .stored, payload := bytes } })
      let s := notify b e.page e.bytes (applyQuota b (flightDone b e.idx s))
      resumeHold b (closeIfDone b e.page s)

/-- PAYLOAD_STORED (R62, R69, R71, R78, R246, R247). -/
def execPayloadStored (dt : Nat) (bar : Fin 16) (bytes : List Byte) (s : State) : Host.Outcome State Fault Refusal :=
  run dt s (fun s =>
    match payloadFlight s bar with
    | some e =>
      match flightWagon s bar e with
      | some w => if bytes.length = w.payloadLen then storePayload bar e w bytes s else s
      | none => flightDone bar e.idx s
    | none => s)

/-! ### Aborted fetches -/

/-- The fetch of a kind that is under way for the bar. -/
def flying (s : State) (b : Nat) (kind : FetchKind) : Option Inflight :=
  match kind with
  | .waybill => (s.bar b).intake.inflight.find? (fun e => e.phase == 0)
  | .integ => (s.bar b).intake.inflight.find? (fun e => e.phase == 3 && e.granted)
  | .payload => payloadFlight s b

/-- Table 03-7, FETCH_ABORT after its last retry: the wagon or the waybill fails. -/
def abortFail (b : Nat) (kind : FetchKind) (e : Inflight) (s : State) : State :=
  match kind with
  | .payload =>
    match flightWagon s b e with
    | some w =>
      if w.failCode ≠ 0 then flightDone b e.idx s
      else flightDone b e.idx (resumeIntake b (settle b e.page (wagonFail b e.page w 0x10 s)))
    | none => flightDone b e.idx s
  | .integ => checkAll b (flightDone b e.idx (wbFail b e.idx 0x10 2 (fieldLE e.bytes 4 4) (0, 0, 0) s))
  | .waybill => checkAll b (flightDone b e.idx (wbFail b e.idx 0x10 0 0 (0, 0, 0) s))

/-- Table 03-7, R63: an abort is retried up to 3 times within 1 s; while Bus Master Enable is clear no request is issued, and the
fetch is requested anew once it is set. -/
def abortFetch (b : Nat) (kind : FetchKind) (e : Inflight) (s : State) : State :=
  let aborts := e.aborts.filter (fun t => decide (s.now < t + Config.second)) ++ [s.now]
  if aborts.length ≤ 3 then
    let r := flightRead s b e
    if dmaBlocked s b then modFlight b e.idx (fun e => { e with aborts := aborts, again := true }) s
    else (modFlight b e.idx (fun e => { e with aborts := aborts }) s).emit (.dmaRead (queueFn s b) b r.1 r.2.1 r.2.2)
  else abortFail b kind e s

/-- FETCH_ABORT (Table 03-7, R72). -/
def execFetchAbort (dt : Nat) (bar : Fin 16) (kind : FetchKind) (s : State) : Host.Outcome State Fault Refusal :=
  run dt s (fun s =>
    match flying s bar kind with
    | some e => abortFetch bar kind e s
    | none => s)

end Sys2Proof.Machine
end

