-- ==== Sys2Proof/Machine/Engines.lean ====
section
/-!
DEFINITION. The inflate engines (R72 to R77, R241, R261, R356): which wagon an engine takes, the rows it releases, the failures it
finds, and its faults.
-/
namespace Sys2Proof.Machine
open Sys2Proof

/-! ### Which wagon -/

/-- A stored wagon that waits for an engine. -/
structure Waiting where
  bar : Nat
  page : Nat
  slot : Nat
  wagon : Wagon
  /-- R77: the key, compared element by element. -/
  key : List Int
  deriving Repr

/-- R77: the key of a wagon of page `p`, `pos` its place among the bar's pages not started. -/
def inflateKey (b : Nat) (p : Page) (pos : Nat) (w : Wagon) : List Int :=
  (match p.flip with
   | some f => [0, (f : Int) + 512 * (w.band : Int) - 64, 0]
   | none => [1, (pos : Int), 512 * (w.band : Int) - 64]) ++ [(w.plane : Int), (w.span : Int), (b : Int)]

/-- The idle engines in service. -/
def idleEngines (s : State) : List Nat :=
  (List.range 32).filter (fun e => bitN (s.dv 0x2100 0) e && s.domainOn (8 + e / 8) && (s.engine e).job.isNone)

/-- The stored wagons of a bar that wait for an engine which has not faulted with them. -/
def waitingOf (s : State) (b : Nat) : List Waiting :=
  ((s.bar b).pages.filter (fun p => !p.cut)).flatMap (fun p =>
    let pos := ((notStarted s b).takeWhile (fun q => q.num != p.num)).length
    p.slots.filterMap (fun e =>
      if e.2.phase = .stored ∧ (idleEngines s).any (fun x => !e.2.tried.contains x) then
        some { bar := b, page := p.num, slot := e.1, wagon := e.2, key := inflateKey b p pos e.2 }
      else none))

/-- The wagon of the smallest key. -/
def firstWaiting : List Waiting → Option Waiting
  | [] => none
  | w :: t =>
    match firstWaiting t with
    | some v => if keyLess v.key w.key then some v else some w
    | none => some w

/-- R77, R261: the wagon that the placer assigns next. -/
def nextWagon (s : State) (pend : List Nat) : Option Waiting :=
  let d (b : Nat) := s.deficit.getD (32 + b) 0
  let top := pend.filter (fun b => pend.all (fun a => decide (d a ≤ d b)))
  firstWaiting (top.flatMap (waitingOf s))

/-- R241: does the hint name engine `e`? -/
def hinted (affinity e : Nat) : Bool :=
  if bitN affinity 6 then e / 8 == affinity % 4 else e == affinity % 32

/-- R241: the engine for a wagon, and whether its hint was passed over. -/
def pickEngine (s : State) (w : Wagon) : Option (Nat × Bool) :=
  let free := (idleEngines s).filter (fun e => !w.tried.contains e)
  if bitN w.affinity 7 then
    match free.find? (hinted w.affinity) with
    | some e => some (e, false)
    | none => free.head?.map (fun e => (e, true))
  else free.head?.map (fun e => (e, false))

/-- Update a slot of a page. -/
def modSlot (b n key : Nat) (f : Wagon → Wagon) (s : State) : State :=
  s.modPage b n (fun p => { p with slots := match p.slots.get? key with | some w => p.slots.set key (f w) | none => p.slots })

/-- Engine `e` takes a wagon: a placement (Table 10-1, R243). -/
def startEngine (e : Nat) (w : Waiting) (s : State) : State :=
  ((modSlot w.bar w.page w.slot (fun x => { x with phase := .inflating, attempts := x.attempts + 1 }) s).modEngine e
    (fun x => { x with job := some (w.bar, w.page, w.slot), rowsDone := 0 })).wakeDomain (8 + e / 8) |> placeChanged

/-- R77, R241, R75: the placer assigns a wagon; one whose key slot was empty fails instead. -/
def assignWagon (s : State) : State :=
  let pend := (List.range 16).filter (fun b => (s.bar b).vb != .off && !(waitingOf s b).isEmpty)
  match nextWagon s pend with
  | none => s
  | some w =>
    if w.wagon.encrypted ∧ w.wagon.key.isNone then
      resumeIntake w.bar (settle w.bar w.page (wagonFail w.bar w.page w.wagon 0x12 s))
    else match pickEngine s w.wagon with
      | none => s
      | some (e, passed) =>
        let c := inflatedSize w.wagon.format w.wagon.lines
        let s := { s with deficit := grantDeficit s.deficit 32 16 pend (fun a => s.bo a 0x7102 0) c w.bar
                            (1300 * popcount (s.dv 0x2100 0)) }
        startEngine e w (if passed then s.bumpB w.bar 0x7011 0 else s)

/-- INFLATE_START (R77, R241, R261). -/
def execInflateStart (dt : Nat) (s : State) : Host.Outcome State Fault Refusal := run dt s assignWagon

/-! ### Decoding -/

/-- R74: the raw DEFLATE stream of a wagon, and whether its tag verified. -/
def wagonPlain (w : Wagon) : List Byte × Bool :=
  if w.encrypted then
    let n := w.payload.length - 16
    gcmOpen (w.key.getD []) w.iv w.aad (w.payload.take n) (w.payload.drop n)
  else (w.payload, true)

/-- R73: a whole-checked wagon. -/
def Wagon.checked (w : Wagon) : Bool := w.encrypted || w.hasCrc

/-- What decoding a wagon gives: its inflated bytes and the code of Table 03-7, 0 for none. -/
def decodeWagon (w : Wagon) : List Byte × Nat :=
  let p := wagonPlain w
  let r := inflate (inflatedSize w.format w.lines) p.1
  let code := if !p.2 then 0x20 else if r.2 ≠ 0 then r.2 else if w.hasCrc && crc32c r.1 != w.inflatedCrc then 0x2A else 0
  (r.1, code)

/-- The whole rows of inflated bytes. -/
def wholeRows (w : Wagon) (bs : List Byte) : List (List Byte) :=
  chunks (rowBytes w.format) (bs.length / rowBytes w.format) bs

/-- R73: a wagon that holds the first `n` rows of what decodes; the rows of an unchecked one are released. -/
def withRows (w : Wagon) (rows : List (List Byte)) (n : Nat) : Wagon :=
  let have_ := max n w.rows.length
  { w with rows := rows.take have_, released := if w.checked then w.released else (rows.take have_).length }

/-- The wagon in an engine's hand. -/
def engineWagon (s : State) (e : Nat) : Option (Nat × Nat × Nat × Wagon) :=
  match (s.engine e).job with
  | some (b, n, key) => ((s.page? b n).bind (fun p => p.slots.get? key)).map (fun w => (b, n, key, w))
  | none => none

/-- The engine has no wagon any more. -/
def freeEngine (e : Nat) (s : State) : State :=
  if (s.engine e).job.isNone then s
  else placeChanged ((s.modEngine e (fun x => { x with job := none, rowsDone := 0 })).idleDomain (8 + e / 8))

/-- R72, R73: the wagon in hand fails with `code`, the rows before the failure kept. -/
def failWagon (e b n : Nat) (w : Wagon) (code : Nat) (s : State) : State :=
  resumeIntake b (settle b n (wagonFail b n w code (freeEngine e s)))

/-- One row of the wagon in hand: put into staging, or the failure that ends the rows. -/
def rowDone (e b n key : Nat) (w : Wagon) (s : State) : State :=
  let d := decodeWagon w
  let rows := wholeRows w d.1
  let k := (s.engine e).rowsDone
  if k < rows.length then
    (modSlot b n key (fun x => withRows x rows (k + 1)) s).modEngine e (fun x => { x with rowsDone := k + 1 })
  else if k < wagonRows w.format w.lines ∧ d.2 ≠ 0 then failWagon e b n (withRows w rows rows.length) d.2 s
  else s

/-- INFLATE_ROW_DONE (R73, R71: the rows of a late wagon are discarded). -/
def execInflateRowDone (dt : Nat) (engine : Fin 32) (s : State) : Host.Outcome State Fault Refusal :=
  run dt s (fun s =>
    match engineWagon s engine with
    | some (b, n, key, w) => if w.phase = .inflating then rowDone engine b n key w s else s
    | none => s)

/-- R73, R74: the end of the wagon in hand. -/
def wagonEnd (e b n key : Nat) (w : Wagon) (s : State) : State :=
  let d := decodeWagon w
  let rows := wholeRows w d.1
  let s := (s.count64 0x2101 e 1).count64 0x2120 0 d.1.length
  if d.2 ≠ 0 then failWagon e b n (withRows w rows rows.length) d.2 s
  else
    freeEngine e (modSlot b n key (fun x => { x with phase := .done, rows := rows, released := rows.length }) s)

/-- INFLATE_DONE (R73, R74, R76). -/
def execInflateDone (dt : Nat) (engine : Fin 32) (s : State) : Host.Outcome State Fault Refusal :=
  run dt s (fun s =>
    match engineWagon s engine with
    | some (b, n, key, w) => if w.phase = .inflating then wagonEnd engine b n key w s else freeEngine engine s
    | none => freeEngine engine s)

/-- R77, Table 03-7: the wagon of a faulted engine is stored again for another one; its third attempt fails it. -/
def engineLost (e : Nat) (s : State) : State :=
  match engineWagon s e with
  | some (b, n, key, w) =>
    if w.phase = .inflating then
      if 3 ≤ w.attempts then failWagon e b n w 0x2B s
      else freeEngine e (modSlot b n key (fun x => { x with phase := .stored, tried := x.tried ++ [e] }) s)
    else freeEngine e s
  | none => freeEngine e s

/-- ENGINE_FAULT (R77, R356, R357). -/
def execEngineFault (dt : Nat) (engine : Fin 32) (s : State) : Host.Outcome State Fault Refusal :=
  run dt s (fun s =>
    if bitN (s.dv 0x2100 0) engine then
      engineLost engine (channelFault 4 engine (atLimit s 4) (s.bump 0x2102 engine)).2
    else s)

end Sys2Proof.Machine
end

