-- ==== Sys2Proof/Machine/Deflate.lean ====
section
/-!
DEFINITION. Deflate jobs (R82 to R87, R261): descriptors, the verified blocks, chained buffers, stop and resume, and the audit
capture. Assumption log 36 says what the descriptors of a buffer ring and an encoded block are here.
-/
namespace Sys2Proof.Machine
open Sys2Proof

/-! ### Jobs -/

def modJob (b id : Nat) (f : Job → Job) (s : State) : State :=
  s.modIntake b (fun q => { q with jobs := q.jobs.map (fun j => if j.id = id then f j else j) })

def dropJob (b id : Nat) (s : State) : State :=
  let s := { s with deflaters := s.deflaters.filter (fun e => e.2 != (b, id)) }.idleDomain 12
  s.modIntake b (fun q => { q with jobs := q.jobs.filter (fun j => j.id != id) })

def jobOf (s : State) (b id : Nat) : Option Job := (s.bar b).intake.jobs.find? (fun j => j.id == id)

/-- Table 03-8a: the writeback over the descriptor at ring index `idx`, and DEFL_DONE. -/
def writeBack (b idx op status : Nat) (j : Job) (s : State) : State :=
  let rec_ := leBytes 1 (op % 128 + 128) ++ leBytes 1 status ++ leBytes 2 0 ++ leBytes 4 j.id ++ leBytes 8 j.consumed ++
    leBytes 8 j.produced ++ leBytes 4 (j.inCrc ^^^ 0xFFFFFFFF) ++ leBytes 4 j.fallback ++ leBytes 8 j.dropped ++ leBytes 8 0 ++
    leBytes 8 j.cookie ++ leBytes 8 s.time
  let s := s.emit (.dmaWrite (queueFn s b) (s.bo b 0x2300 0 + 64 * (idx % s.bo b 0x2300 1)) rec_)
  postB .deflDone b 0 0 (leBytes 4 j.id ++ leBytes 1 status ++ leBytes 1 j.chain) s

/-- A job as a descriptor gives it. -/
def jobFrom (idx : Nat) (d : List Byte) : Job :=
  { id := fieldLE d 4 4, source := (byteAt d 1).toNat, stop := bitN (byteAt d 2).toNat 0,
    chain := bitsN (byteAt d 2).toNat 2 1, level := (byteAt d 3).toNat, srcAddr := fieldLE d 8 8, srcLen := fieldLE d 16 8,
    outAddr := fieldLE d 24 8, outLen := fieldLE d 32 8, cookie := fieldLE d 48 8, phase := 0, consumed := 0, produced := 0,
    inCrc := 0xFFFFFFFF, fallback := 0, dropped := 0, ringIdx := 0, used := 0, segStart := false, descIdx := idx, window := [],
    outStore := [], storeLines := 0, lost := false, start := 0, op := 1 }

/-- R82, Table 03-8: the output fields are in range. -/
def outOk (stop : Bool) (d : List Byte) : Bool :=
  let a := fieldLE d 24 8
  let n := fieldLE d 32 8
  a % 64 == 0 && (if stop then decide (4096 ≤ n) && decide (n ≤ 2 ^ 32) else decide (4 ≤ n) && decide (n ≤ 1024))

/-- R82, Table 03-8: is the START descriptor acceptable? -/
def startOk (d : List Byte) : Bool :=
  let j := jobFrom 0 d
  bitsN (byteAt d 2).toNat 7 3 == 0 && zeros d 40 8 && zeros d 56 4 && decide (j.level ≤ 2) && outOk j.stop d &&
  (match j.source with
   | 0 => decide (1 ≤ j.srcLen) && decide (j.srcLen ≤ 2 ^ 32)
   | 1 => !j.stop && decide (j.srcAddr ≤ 3)
   | 2 => j.stop && j.srcAddr == 0 && j.srcLen == 0
   | _ => false)

/-- R82: the status of a START, 0 when it opens a job. One that names a job still open by its JOB_ID is a field out of range:
DESC_BAD (DESIGN CHOICE, assumption log 112). -/
def startStatus (s : State) (b : Nat) (d : List Byte) : Nat :=
  let j := jobFrom 0 d
  let jobs := (s.bar b).intake.jobs
  if !startOk d || jobs.any (fun k => k.id == j.id) then 0x04
  else if 16 ≤ jobs.length || (!j.stop && jobs.any (fun k => !k.stop && k.chain == j.chain)) then 0x07
  else if j.source == 2 && !((s.bar b).intake.audit.any (fun a => a.ready)) then 0x08
  else 0

/-- A descriptor is taken from the ring: DJ_HEAD passes it. Answers its ring index. -/
def takeDesc (b : Nat) (s : State) : Nat × State :=
  let i := (s.bar b).intake.djHead
  (i, s.modIntake b (fun q => { q with djHead := (i + 1) % 2 ^ 32 }))

/-- Is the descriptor's CRC right? -/
def descCrc (d : List Byte) : Bool := crc32c (d.take 60) == fieldLE d 60 4

/-! ### Engines -/

/-- The coding lines that a camera job has still to take up. -/
def nextLine (j : Job) : Nat := j.start + j.consumed + j.dropped + j.storeLines

/-- Has a job work for an engine now? -/
def Job.runnable (s : State) (j : Job) : Bool :=
  j.phase != 1 && (j.source != 1 || decide (nextLine j < s.dv 0x6124 (4 + j.srcAddr)))

/-- Jobs of a bar that no engine works on. -/
def idleJobs (s : State) (b : Nat) : List Job :=
  (s.bar b).intake.jobs.filter (fun j => j.runnable s && !s.deflaters.any (fun e => e.2 == (b, j.id)))

/-- R261: every idle engine in service takes a job of the bar of the greatest deficit. -/
def assignDeflate (s : State) : State :=
  forAll ((List.range 6).filter (fun e => bitN (s.dv 0x2304 0) e)) (fun e s =>
    if s.deflaters.has e then s
    else
      match bestDeficit s.deficit (fun b => 48 + b) ((List.range 16).filter (fun b => !(idleJobs s b).isEmpty)) with
      | some b => (match (idleJobs s b).head? with
        | some j => { s with deflaters := s.deflaters.set e (b, j.id) }.wakeDomain 12
        | none => s)
      | none => s) s

/-! ### Descriptors -/

/-- DJ_START (R82). A descriptor of an OP that Table 03-8 does not list fails with DESC_BAD. -/
def execDjStart (dt : Nat) (bar : Fin 16) (desc : List Byte) (s : State) : Host.Outcome State Fault Refusal :=
  if desc.length = 64 then
    run dt s (fun s =>
      let op := (byteAt desc 0).toNat
      if (s.bar bar).intake.djHead = (s.bar bar).intake.djTail ∨ (descCrc desc ∧ (op = 2 ∨ op = 3)) then s
      else
        let r := takeDesc bar s
        let j := jobFrom r.1 desc
        let status := if !descCrc desc then 0x03 else if op ≠ 1 then 0x04 else startStatus r.2 bar desc
        if status ≠ 0 then writeBack bar r.1 op status j r.2
        else
          let j := { j with
            start := if j.source = 1 then s.dv 0x6124 (4 + j.srcAddr) else 0
            srcLen := if j.source = 2 then (match (s.bar bar).intake.audit with | some a => a.size | none => 0) else j.srcLen }
          assignDeflate (r.2.modIntake bar (fun q => { q with jobs := q.jobs ++ [j] })))
  else .fault (.malformed "a descriptor has 64 bytes")

/-- R86: a stopped job goes on with a new output buffer. -/
def resumeJob (b idx : Nat) (d : List Byte) (s : State) : State :=
  modJob b (fieldLE d 4 4) (fun j => { j with
    outAddr := fieldLE d 24 8, outLen := fieldLE d 32 8, cookie := fieldLE d 48 8, descIdx := idx, op := 2, phase := 0, produced := 0
    inCrc := 0xFFFFFFFF, window := [] }) s

/-- DJ_RESUME (R82, R86). -/
def execDjResume (dt : Nat) (bar : Fin 16) (desc : List Byte) (s : State) : Host.Outcome State Fault Refusal :=
  if desc.length = 64 then
    run dt s (fun s =>
      let op := (byteAt desc 0).toNat
      if (s.bar bar).intake.djHead = (s.bar bar).intake.djTail ∨ (descCrc desc ∧ op ≠ 2) then s
      else
        let r := takeDesc bar s
        let named := { jobFrom r.1 desc with consumed := 0 }
        if !descCrc desc then writeBack bar r.1 op 0x03 named r.2
        else match jobOf s bar (fieldLE desc 4 4) with
          | some j =>
            if j.phase = 1 ∧ outOk true desc then assignDeflate (resumeJob bar r.1 desc r.2)
            else writeBack bar r.1 op 0x04 named r.2
          | none => writeBack bar r.1 op 0x04 named r.2)
  else .fault (.malformed "a descriptor has 64 bytes")

/-! ### Chained buffers -/

/-- The empty non-final stored block from a byte boundary (R85). -/
def syncMarker : List Byte := [0, 0, 0, 0xFF, 0xFF]

/-- R85: the buffer that the job fills: its address and length, when one is available. -/
def chainBuf (s : State) (b : Nat) (j : Job) : Option (Nat × Nat) :=
  if j.ringIdx = (s.bar b).intake.chainTail.getD j.chain 0 then none
  else (s.bar b).intake.chainBufs.get? (j.chain * 2 ^ 32 + j.ringIdx)

/-- R85: close the buffer being filled, with the sync marker as every buffer is. `final`: the stream ends in it. -/
def closeBuf (b id : Nat) (final : Bool) (s : State) : State :=
  match jobOf s b id with
  | none => s
  | some j =>
    match chainBuf s b j with
    | none => s
    | some (addr, _) =>
      let s := s.emit (.dmaWrite (queueFn s b) (addr + j.used) syncMarker)
      let used := j.used + syncMarker.length
      let word := used % 2 ^ 21 + 2 ^ 29 * b2n j.segStart + 2 ^ 30 * b2n final + 2 ^ 31
      let s := s.emit (.dmaWrite (queueFn s b) (j.outAddr + 16 * (j.ringIdx % j.outLen) + 12) (leBytes 4 word))
      let s := postB .deflBuf b 0 (b2n j.segStart + 2 * b2n final)
        (leBytes 4 j.id ++ leBytes 4 j.ringIdx ++ leBytes 4 used) s
      let s := s.modIntake b (fun q => { q with chainBufs := q.chainBufs.erase (j.chain * 2 ^ 32 + j.ringIdx) })
      modJob b id (fun j => { j with
        ringIdx := (j.ringIdx + 1) % 2 ^ 32, used := 0, segStart := false, produced := j.produced + syncMarker.length }) s

/-- Source bytes as non-final stored blocks, the last of them final when `last`. -/
def storedBlocks : Nat → Bool → List Byte → List Byte
  | 0, _, _ => []
  | fuel + 1, last, bs =>
    let here := bs.take 65535
    let rest := bs.drop 65535
    leBytes 1 (b2n (last && rest.isEmpty)) ++ leBytes 2 here.length ++ leBytes 2 (65535 - here.length) ++ here ++
      (if rest.isEmpty then [] else storedBlocks fuel last rest)

/-- Write encoded bytes into the job's buffer at `addr`. -/
def bufWrite (b id addr : Nat) (enc : List Byte) (s : State) : State :=
  match jobOf s b id with
  | none => s
  | some j => modJob b id (fun j => { j with used := j.used + enc.length, produced := j.produced + enc.length })
      (s.emit (.dmaWrite (queueFn s b) (addr + j.used) enc))

/-- R85, R83: put a block, `enc` for the source bytes `src`, into the job's buffers, each filled to at most LEN with its marker. A
block that does not fit what is left of a buffer opens the next; one that no empty buffer could take goes out as smaller stored
blocks (DEDUCED, assumption log 113). Answers the source bytes for which there was no buffer. -/
def chainPut (b id : Nat) (last : Bool) : Nat → List Byte → List Byte → State → List Byte × State
  | 0, _, src, s => (src, s)
  | fuel + 1, enc, src, s =>
    match jobOf s b id with
    | none => (src, s)
    | some j =>
      match chainBuf s b j with
      | none => (src, s)
      | some (addr, len) =>
        if j.used + enc.length + 5 ≤ len then ([], bufWrite b id addr enc s)
        else if 0 < j.used then chainPut b id last fuel enc src (closeBuf b id false s)
        else
          let rest := src.drop (len - 10)
          let s := closeBuf b id false (bufWrite b id addr (storedBlocks 1 false (src.take (len - 10))) s)
          chainPut b id last fuel (storedBlocks 2 last rest) rest s

/-- Steps enough for a block: the buffers that the job may close. -/
def chainFuel (s : State) (b : Nat) : Nat := 2 * (s.bar b).intake.chainBufs.length + 2

/-- R85: write the blocks that wait in the job's output store, as far as there are buffers. -/
def flushStore (b id : Nat) : List (List Byte × List Byte) → State → State
  | [], s => modJob b id (fun j => { j with phase := 0, outStore := [], consumed := j.consumed + j.storeLines, storeLines := 0 }) s
  | x :: t, s =>
    let r := chainPut b id false (chainFuel s b) x.1 x.2 s
    if r.1.isEmpty then flushStore b id t r.2
    else modJob b id (fun j => { j with phase := 2, outStore := (storedBlocks 2 false r.1, r.1) :: t }) r.2

/-- R85: a buffer has returned: what was stored is written, or, after lines were dropped, a new stream begins; the lines of the
stream before that still wait in the store go with it and count as dropped (DESIGN CHOICE, assumption log 114). -/
def chainReturn (b id : Nat) (s : State) : State :=
  match jobOf s b id with
  | none => s
  | some j =>
    if j.phase ≠ 2 then s
    else if j.lost then
      modJob b id (fun j => { j with
        phase := 0, lost := false, segStart := true, window := [], outStore := [], dropped := j.dropped + j.storeLines
        storeLines := 0 }) s
    else flushStore b id j.outStore s

/-! ### The end of a job -/

/-- R87: an audit job ends: its capture is released. -/
def releaseAudit (b : Nat) (j : Job) (s : State) : State :=
  if j.source = 2 then applyQuota b (s.modIntake b (fun q => { q with audit := none })) else s

/-- A job ends with a status. -/
def endJob (b op status : Nat) (j : Job) (s : State) : State :=
  assignDeflate (resumeIntake b (releaseAudit b j (dropJob b j.id (writeBack b j.descIdx op status j s))))

/-- A buffer with output in it is closed when its job is cancelled. -/
def cancelBuf (b : Nat) (j : Job) (s : State) : State := if !j.stop ∧ 0 < j.used then closeBuf b j.id true s else s

/-- R85: a camera job of a given number of lines whose last line has been written from the output store, or dropped, is done. -/
def finishCamera (b id : Nat) (s : State) : State :=
  match jobOf s b id with
  | none => s
  | some j =>
    if j.source = 1 ∧ 0 < j.srcLen ∧ j.storeLines = 0 ∧ j.phase = 0 ∧ j.start + j.srcLen ≤ nextLine j then
      let s := closeBuf b id true s
      match jobOf s b id with | some j => endJob b j.op 0x00 j s | none => s
    else s

/-- 2302 CHAIN_TAIL: `bufs` are the descriptors that the device reads of the entries made available. -/
def chainTailEffect (bufs : List (Nat × Nat)) : Effect := onBar (fun b k w s =>
  let old := (s.bar b).intake.chainTail.getD k 0
  let s := s.modIntake b (fun q => { q with
    chainTail := q.chainTail.set k w.toNat
    chainBufs := (bufs.foldl (fun (acc : Map (Nat × Nat) × Nat) x =>
      (acc.1.set (k * 2 ^ 32 + acc.2 % 2 ^ 32) x, acc.2 + 1)) (q.chainBufs, old)).1 })
  (stOK, assignDeflate (forAll ((s.bar b).intake.jobs.filter (fun j => !j.stop && j.chain == k)) (fun j s =>
    finishCamera b j.id (chainReturn b j.id s)) s)))

/-- CHAIN_TAIL (R85). -/
def execChainTail (dt : Nat) (door : Door) (slot : Fin 4) (val : Slot) (bufs : List (BitVec 64 × BitVec 32)) (s : State) :
    Host.Outcome State Fault Refusal :=
  run dt s (writeThrough door 0x2302 slot val (chainTailEffect (bufs.map (fun x => (x.1.toNat, x.2.toNat)))))

/-- DJ_CANCEL (R82). -/
def execDjCancel (dt : Nat) (bar : Fin 16) (desc : List Byte) (s : State) : Host.Outcome State Fault Refusal :=
  if desc.length = 64 then
    run dt s (fun s =>
      let op := (byteAt desc 0).toNat
      if (s.bar bar).intake.djHead = (s.bar bar).intake.djTail ∨ (descCrc desc ∧ op ≠ 3) then s
      else
        let r := takeDesc bar s
        let named := jobFrom r.1 desc
        if !descCrc desc then writeBack bar r.1 op 0x03 named r.2
        else match jobOf s bar named.id with
          | none => writeBack bar r.1 op 0x04 named r.2
          | some j =>
            let s := cancelBuf bar j r.2
            let j := (jobOf s bar j.id).getD j
            let s := if j.phase = 1 then s else writeBack bar j.descIdx j.op 0x02 j s
            endJob bar 3 0x02 { j with descIdx := r.1, cookie := named.cookie } s)
  else .fault (.malformed "a descriptor has 64 bytes")

/-! ### Blocks -/

/-- R84: does an encoded block decode to its source after the window? -/
def blockVerifies (window src enc : List Byte) (last : Bool) : Bool :=
  let head := if window.isEmpty then [] else storedBlocks 2 false window
  let tail : List Byte := if last then [] else [1, 0, 0, 0xFF, 0xFF]
  inflate (window.length + src.length) (head ++ enc ++ tail) == (window ++ src, 0)

/-- The camera lines of the next block: whole coding lines, at most 65,536 bytes, up to `n` of them. -/
def cameraLines (s : State) (cam at_ : Nat) : Nat → Nat → List (List Byte)
  | 0, _ => []
  | n + 1, room =>
    match (s.cam cam).coding.get? (at_ % s.dv 0x6113 0) with
    | some l => if l.length ≤ room then l :: cameraLines s cam (at_ + 1) n (room - l.length) else []
    | none => []

/-- R221, R85: coding lines that the ring has overwritten, or lost, are missed and count as DROPPED. -/
def missedLines (s : State) (cam at_ : Nat) : Nat → Nat
  | 0 => 0
  | n + 1 =>
    if at_ + s.dv 0x6113 0 < s.dv 0x6124 (4 + cam) ∨ !(s.cam cam).coding.has (at_ % s.dv 0x6113 0) then
      1 + missedLines s cam (at_ + 1) n
    else 0

/-- The source of a job's next block: its bytes, its units (bytes or lines), and whether it is the last. -/
def blockSource (s : State) (b : Nat) (j : Job) (src : List Byte) : Option (List Byte × Nat × Bool) :=
  if j.source = 1 then
    let left := s.dv 0x6124 (4 + j.srcAddr) - nextLine j
    let want := if j.srcLen = 0 then left else min left (j.srcLen - (nextLine j - j.start))
    let ls := cameraLines s j.srcAddr (nextLine j) want 65536
    if ls.isEmpty then none
    else some (ls.flatten, ls.length, decide (0 < j.srcLen) && decide (nextLine j + ls.length = j.start + j.srcLen))
  else
    let bytes := if j.source = 2 then
        (match (s.bar b).intake.audit with | some a => (a.data.drop j.consumed).take 65536 | none => [])
      else src
    if bytes.isEmpty ∨ 65536 < bytes.length ∨ j.srcLen < j.consumed + bytes.length then none
    else some (bytes, bytes.length, decide (j.consumed + bytes.length = j.srcLen))

/-- A verified block has been written: what it covers is consumed. -/
def blockWritten (b id : Nat) (src : List Byte) (units : Nat) (s : State) : State :=
  modJob b id (fun j => { j with
    consumed := j.consumed + units, inCrc := crc32cReg j.inCrc src, window := (j.window ++ src).drop ((j.window ++ src).length - 32768) }) s

/-- R86: one block of a STOP job. -/
def stopBlock (b : Nat) (j : Job) (src enc : List Byte) (units : Nat) (last : Bool) (s : State) : State :=
  if j.outLen < j.produced + enc.length + 5 then
    let s := if j.produced = 0 then s
      else (s.emit (.dmaWrite (queueFn s b) (j.outAddr + j.produced) syncMarker)) |> modJob b j.id (fun j => { j with
        produced := j.produced + 5 })
    let s := modJob b j.id (fun j => { j with phase := 1 }) s
    match jobOf s b j.id with
    | some j => writeBack b j.descIdx j.op 0x01 j s
    | none => s
  else
    let s := s.emit (.dmaWrite (queueFn s b) (j.outAddr + j.produced) enc)
    let s := blockWritten b j.id src units (modJob b j.id (fun j => { j with produced := j.produced + enc.length }) s)
    if last then (match jobOf s b j.id with | some j => endJob b j.op 0x00 j s | none => s) else s

/-- R85: what of a block found no buffer. A host-memory source waits; a camera's block is kept in the 64 KiB store, or its lines
are dropped. -/
def storeBlock (b : Nat) (j : Job) (enc rest : List Byte) (units : Nat) (s : State) : State :=
  let s := modJob b j.id (fun j => { j with phase := 2 }) s
  if j.source ≠ 1 then s
  else if (j.outStore.map (fun x => x.1.length)).sum + enc.length ≤ 65536 ∧ !j.lost then
    modJob b j.id (fun j => { j with
      outStore := j.outStore ++ [(enc, rest)], storeLines := j.storeLines + units, inCrc := crc32cReg j.inCrc rest
      window := (j.window ++ rest).drop ((j.window ++ rest).length - 32768) }) s
  else modJob b j.id (fun j => { j with dropped := j.dropped + units, lost := true }) s

/-- R85: one block of a CHAIN job. Of a host-memory source, what was written is consumed. -/
def chainBlock (b : Nat) (j : Job) (src enc : List Byte) (units : Nat) (last : Bool) (s : State) : State :=
  if j.phase = 2 then storeBlock b j enc src units s
  else
    let r := chainPut b j.id last (chainFuel s b) enc src s
    if r.1.isEmpty then
      let s := blockWritten b j.id src units r.2
      if last then
        let s := closeBuf b j.id true s
        match jobOf s b j.id with | some j => endJob b j.op 0x00 j s | none => s
      else s
    else
      let put := src.take (src.length - r.1.length)
      let s := if put.isEmpty then r.2 else blockWritten b j.id put (if j.source = 1 then 0 else put.length) r.2
      let enc := if put.isEmpty then enc else storedBlocks 2 last r.1
      match jobOf s b j.id with
      | some k => storeBlock b k enc r.1 units s
      | none => s

/-- R83, R84: is the engine's encoding of a block good: it decodes to its source, and LEVEL 0 emits stored blocks. -/
def blockGood (j : Job) (src enc : List Byte) (last : Bool) : Bool :=
  blockVerifies j.window src enc last && (j.level != 0 || enc == storedBlocks 2 last src)

/-- R84: the stored form of a block failed as well: the job stops with VERIFY. -/
def verifyFails (b : Nat) (j : Job) (s : State) : State :=
  let s := cancelBuf b j s
  match jobOf s b j.id with
  | some j => endJob b j.op 0x09 j s
  | none => s

/-- R84: a block of a job, verified; when it does not decode to its source the engine re-encodes it as stored blocks, `stored`,
and verifies those in turn. -/
def jobBlock (e b : Nat) (j : Job) (src enc stored : List Byte) (units : Nat) (last : Bool) (s : State) : State :=
  let good := blockGood j src enc last
  let out := if good then enc else stored
  let s := if good then s
    else
      let s := modJob b j.id (fun k => { k with fallback := k.fallback + 1 }) (s.bump 0x2305 0)
      (channelFault 5 e (atLimit s 5) s).2
  let pend := (List.range 16).filter (fun a => (s.bar a).intake.jobs.any (fun k => k.runnable s))
  let j := (jobOf s b j.id).getD j
  if !good && !(blockVerifies j.window src stored last && stored == storedBlocks 2 last src) then verifyFails b j s
  else
    let s := { s with deficit := grantDeficit s.deficit 48 16 pend (fun a => s.bo a 0x7102 0) out.length b
                        (1625 * popcount (s.dv 0x2304 0)) }
    if j.stop then stopBlock b j src out units last s else chainBlock b j src out units last s

/-- R261: after a block the engine is free for the job whose turn it is. -/
def nextTurn (e b id : Nat) (s : State) : State :=
  let s := { s with deflaters := s.deflaters.erase e }.idleDomain 12
  assignDeflate (s.modIntake b (fun q => { q with
    jobs := q.jobs.filter (fun j => j.id != id) ++ q.jobs.filter (fun j => j.id == id) }))

/-- DEFLATE_BLOCK_DONE (R83 to R86): the engine has compressed a block of its job; it emits the stored form
when the encoded one does not verify. -/
def execDeflateBlockDone (dt : Nat) (engine : Fin 6) (src : List Byte) (forms : BlockForms) (s : State) :
    Host.Outcome State Fault Refusal :=
  run dt s (fun s =>
    match s.deflaters.get? engine with
    | none => s
    | some (b, id) =>
      match jobOf s b id with
      | none => s
      | some j =>
        let miss := if j.source = 1 then missedLines s j.srcAddr (nextLine j) (s.dv 0x6124 (4 + j.srcAddr) - nextLine j) else 0
        let s := modJob b id (fun j => { j with dropped := j.dropped + miss }) s
        let j := { j with dropped := j.dropped + miss }
        match blockSource s b j src with
        | some (bytes, units, last) => nextTurn engine b id (jobBlock engine b j bytes forms.encoded forms.stored units last s)
        | none => s)

/-! ### The audit capture -/

/-- R87: has the screening of the page begun? -/
def screeningBegun (s : State) (b n : Nat) : Bool :=
  match s.page? b n with
  | some p => p.started || p.cut || !p.tokens.isEmpty || !p.screened.isEmpty
  | none => false

/-- R87: a new request releases the capture, and an audit job on it fails with NO_AUDIT. -/
def dropAudit (b : Nat) (s : State) : State :=
  let s := forAll ((s.bar b).intake.jobs.filter (fun j => j.source == 2)) (fun j s =>
    dropJob b j.id (writeBack b j.descIdx j.op 0x08 j s)) s
  s.modIntake b (fun q => { q with audit := none })

/-- 2303.00 AUDIT_REQ (R87). -/
def auditEffect : Effect := onBar (fun b _ w s =>
  let n := bitsN w.toNat 63 32
  let pl := bitsN w.toNat 2 0
  if screeningBegun s b n then (stState, s)
  else
    let size := match s.page? b n with | some p => auditSize s b pl p.lines | none => 0
    if 2 ^ 32 < size ∨ !s.inUse pl then (stRange, s)
    else
      let s := (dropAudit b s).modIntake b (fun q => { q with
        audit := some { plane := pl, page := n, size := size, ready := false, data := [] } })
      (stOK, applyQuota b s))

/-- AUDIT_REQ (R87, R246, R247). -/
def execAuditReq (dt : Nat) (door : Door) (val : Slot) (s : State) : Host.Outcome State Fault Refusal :=
  run dt s (writeThrough door 0x2303 0 val auditEffect)

end Sys2Proof.Machine
end

