-- ==== Sys2Proof/Machine/Trigger.lean ====
section
/-!
DEFINITION. The encoder inputs (R130, R131), web motion (R132, R133), TRIG_EN (R134, R136), the mark inputs (R157, R158), the
completion of dray reads and panic (R152, R257), and the release of WEB_SLOW (R199).
-/
namespace Sys2Proof.Machine
open Sys2Proof

/-! ### Encoders -/

/-- R130: the ×4 step of a change of the pair (A, B): forward is 00, 10, 11, 01, 00. -/
def quadStep (a b a' b' : Bool) : Int :=
  if a ≠ a' then (if a' = b then -1 else 1)
  else if b ≠ b' then (if b' = a then 1 else -1)
  else 0

/-- R130: the step that DECODE counts (0 ×4, 1 ×2, 2 ×1), before INVERT. -/
def decodeStep (mode : Nat) (a b a' b' : Bool) : Int :=
  match mode with
  | 0 => quadStep a b a' b'
  | 1 => if a ≠ a' then quadStep a b a' b' else 0
  | _ => if a ≠ a' ∧ !b then quadStep a b a' b' else 0

/-- 4000.00 ENC_SELECT. -/
def trigEnc (s : State) : Nat := s.dv 0x4000 0

/-- The bars that print (VB_PRINTING). -/
def printingBars (s : State) : List Nat := (List.range 16).filter (fun b => (s.bar b).vb == .printing)

/-- R191: mark every page in progress of a bar. -/
def flagProgress (b bits : Nat) (s : State) : State :=
  forAll ((s.bar b).pages.filter (fun p => p.inProgress)) (fun p s => s.flagPage b p.num bits) s

/-- The same of every bar. -/
def flagAll (bits : Nat) (s : State) : State := forAll (List.range 16) (fun b s => flagProgress b bits s) s

/-- R271: the holder releases the reins on the loss of its trigger encoder. The spec gives no sign of that loss: whether one is
seen is a free value (DESIGN CHOICE, assumption log 129). -/
def encoderJudge (s : State) : State :=
  if pairMode s && s.pair.holder && Config.encoderLost s.now then releaseReins 1 s else s

/-- R131: a quadrature error of encoder `e`; R276: the strikes of a standby stop. -/
def quadError (e : Nat) (s : State) : State :=
  let s := (s.bump 0x4005 e).modTrig (fun t => { t with encErrAt := some s.now })
  if e ≠ trigEnc s then s
  else
    let s := if msGate (s.enc e).postAt s.now then
        (postD .encError 0 (leBytes 1 e ++ leBytes 4 (s.dv 0x4005 e)) s).modEnc e (fun x => { x with postAt := some s.now })
      else s
    let s := forAll (printingBars s) (fun b s => flagNext b stEncoderError (flagProgress b stEncoderError s)) s
    let s := if pairMode s && !holder s then s.modPair (fun p => { p with strikesStopped := true }) else s
    encoderJudge s

/-- R216: a new stance of the web holds from now. -/
def Trig.stand (now : Nat) (t : Trig) : Trig :=
  { t with stances := (now, t.h - (t.fresh : Int), t.reversed) ::
      (t.stances.takeWhile (fun q => keptTime now q.1) ++ (t.stances.dropWhile (fun q => keptTime now q.1)).take 1) }

/-- R132, R133: the trigger encoder's count exceeds H. -/
def countAbove (c : Int) (s : State) : State :=
  let back := s.trig.reversed
  let s := s.modTrig (fun t => { t with
    h := c
    times := (c, s.now / 5 * 5) ::
      (t.times.take 65 ++ (t.times.drop 65).takeWhile (fun q => decide (s.now ≤ q.2 + 1100000)))
    fresh := if back then 1 else t.fresh + 1 })
  if !s.trig.en then s
  else
    let s := if back then
        postD .webForward 0 (leBytes 8 s.trig.line ++ leBytes 4 s.trig.maxDepth)
          (s.modTrig (fun t => Trig.stand s.now { t with reversed := false, maxDepth := 0 }))
      else s
    let again := s.trig.stopped
    let s := s.modTrig (fun t => { t with moving := true, stopped := false })
    if again then postD .webStop 1 (leBytes 8 s.trig.line) s else s

/-- R132: the count stands below H. -/
def countBelow (c : Int) (s : State) : State :=
  let depth := (s.trig.h - c).toNat
  if !s.trig.en ∨ depth < 2 then s
  else if s.trig.reversed then s.modTrig (fun t => { t with maxDepth := max t.maxDepth depth })
  else
    let s := s.modTrig (fun t => Trig.stand s.now { t with reversed := true, maxDepth := depth })
    flagAll stReversed (postD .webReverse 0 (leBytes 8 s.trig.line ++ leBytes 4 (ofSigned 32 s.trig.h)) s)

/-- R130: encoder `e` counts a step. -/
def encStep (e : Nat) (d : Int) (s : State) : State :=
  if d = 0 then s
  else
    let old := (s.enc e).count
    let c := old + d
    let s := cmpMotion e old c (s.modEnc e (fun x => { x with count := c }))
    if e ≠ trigEnc s then s else if s.trig.h < c then countAbove c s else countBelow c s

/-- The accepted levels of encoder `e` become (a, b). An input's level cannot change again before it has been held for its
filter time (R130). Changes of A and B within one filter window are a quadrature error; the count stays as the first of them
left it (R131; DEDUCED, assumption log 105). -/
def encChange (e : Nat) (a0 b0 : Bool) (s : State) : State :=
  let x := s.enc e
  let w := filterTime (s.dv 0x4001 e)
  let a := if withinFilter w s.now x.aAt then x.a else a0
  let b := if withinFilter w s.now x.bAt then x.b else b0
  let s := s.modEnc e (fun y => { y with
    a := a, b := b, aAt := if a ≠ x.a then some s.now else y.aAt, bAt := if b ≠ x.b then some s.now else y.bAt })
  if (a ≠ x.a ∧ (b ≠ x.b ∨ withinFilter w s.now x.bAt = true)) ∨ (b ≠ x.b ∧ withinFilter w s.now x.aAt = true) then quadError e s
  else
    let cfg := s.dv 0x4001 e
    let d := decodeStep (bitsN cfg 9 8) x.a x.b a b
    encStep e (if bitN cfg 10 then -d else d) s

/-- ENC_INPUT_CHANGE (R130 to R133, R321): the levels of A and B as the filter accepts them. -/
def execEncInputChange (dt : Nat) (enc : Fin 4) (a b : Bool) (s : State) : Host.Outcome State Fault Refusal :=
  run dt s (encChange enc a b)

/-- ENC_ERROR_CLEAR (R131): TRIG_STATUS.ENC_ERROR lasts 1 ms. -/
def execEncErrorClear (dt : Nat) (s : State) : Host.Outcome State Fault Refusal :=
  run dt s (fun s =>
    match s.trig.encErrAt with
    | some t => if t + Config.milli ≤ s.now then s.modTrig (fun x => { x with encErrAt := none }) else s
    | none => s)

/-! ### The web -/

/-- R133: no count has exceeded H for STOP_TIME. TRIG_EN starts with MOVING clear, so a web that never moves after it posts no
WEB_STOP (DEDUCED, assumption log 106). -/
def stopDue (s : State) : Bool :=
  s.trig.en && s.trig.moving &&
  (match s.trig.times.head? with
   | some q => decide (q.2 + s.dv 0x4013 0 * Config.micro ≤ s.now)
   | none => true)

/-- R143: every bar takes band 0 at the next line. -/
def bandStops (s : State) : State :=
  forAll s.barsWithCols (fun b s => s.modScan b (fun c => { c with bandStop := true })) s

/-- R133, R326: the web has stopped. -/
def webStops (s : State) : State :=
  let s := s.modTrig (fun t => Trig.stand s.now { t with moving := false, stopped := true, fresh := 0 })
  encoderJudge (riseWaiting (flagAll stWebStopped (postD .webStop 0 (leBytes 8 s.trig.line) (bandStops s))))

/-- WEB_STOP (R133). -/
def execWebStop (dt : Nat) (s : State) : Host.Outcome State Fault Refusal :=
  run dt s (fun s => if stopDue s then webStops s else s)

/-! ### TRIG_EN -/

/-- R134: a line position as the 96-bit accumulator holds it. -/
def wrap96 (x : Int) : Int := toSigned 96 (ofSigned 96 x)

/-- R153: the first lines have no earlier strike at which to launch. -/
def firstLaunches (s : State) : State :=
  forAll ((List.range (leadLines s)).map (fun i => s.trig.line + 1 + i)) (fun n s =>
    launchLine 0 n (forAll (headPorts s) (drayPort (n - leadLines s)) s)) s

/-- R276: a standby numbers no line until it is aligned. -/
def numbers (s : State) : Bool := !pairMode s || holder s || s.pair.aligned

/-- R134, R143, R153, R276: TRIG_EN changes from 0 to 1; a standby waits for alignment. -/
def trigOn (s : State) : State :=
  let c := (s.enc (trigEnc s)).count
  let s := { s with ports := s.ports.mapVals (fun x => { x with launched := [] }) }
  let first := s.trig.line + 1
  let s := s.modTrig (fun t => Trig.stand s.now { t with
    en := true, h := c, pos := wrap96 (c * (countUnit : Int) + (countsPerLine s : Int)), fresh := 0, moving := false
    stopped := false, reversed := false, maxDepth := 0, lastStrike := none, lastAdmit := none
    admitted := (List.range (leadLines s)).map (fun i => first + i)
    runFrom := t.line })
  let s := if pairMode s && !holder s then s.modPair (fun p => { p with aligned := false }) else s
  let s := bandStops s
  if numbers s then firstLaunches s else s

/-- R136: TRIG_EN becomes 0: no line falls due; R326: a waiting rise happens. -/
def trigOff (s : State) : State :=
  if s.trig.en then riseWaiting (s.modTrig (fun t =>
    Trig.stand s.now { t with en := false, moving := false, stopped := false, reversed := false }))
  else s

/-- 4003.01 TRIG_EN (R136). -/
def trigEnEffect : Effect := onDev (fun _ w s =>
  if w ≠ 0 then
    if s.devState == .ready || s.devState == .print || s.devState == .safe then (stOK, if s.trig.en then s else trigOn s)
    else (stState, s)
  else if (printingBars s).isEmpty then (stOK, trigOff s)
  else (stState, s))

/-- TRIG_EN_SET (R134, R136, R153). -/
def execTrigEnSet (dt : Nat) (door : Door) (s : State) : Host.Outcome State Fault Refusal :=
  run dt s (writeThrough door 0x4003 1 1 trigEnEffect)

/-- TRIG_EN_CLEAR (R136). -/
def execTrigEnClear (dt : Nat) (door : Door) (s : State) : Host.Outcome State Fault Refusal :=
  run dt s (writeThrough door 0x4003 1 0 trigEnEffect)

/-! ### Marks -/

/-- R157: the web position now, in units of 2^-40 counts: H, and what the count period adds, at most one count. -/
def webPosition (s : State) : Int :=
  let h := s.trig.h
  let base := h * (countUnit : Int)
  if periodValid s h then
    let span := windowSpan s h
    let add := if span = 0 then 0 else (s.now - (countTime s h).getD s.now) * (predWindow s * countUnit) / span
    base + ((min add countUnit : Nat) : Int)
  else base

/-- R157: a web position on the line scale, in 1/64 lines. -/
def lineScale (s : State) (x : Int) : Nat :=
  (64 * ((s.trig.line + 1 : Nat) : Int) + 64 * (x - s.trig.pos) / (countsPerLine s : Int)).toNat

/-- R158: mark `k` at `m` registers a flip line for a bar. -/
def registerMark (b k m : Nat) (s : State) : State :=
  let x := m + s.bo b 0x4051 0
  let f := ceilDiv x 64
  if f ≤ s.trig.line then missMark b k f 0 s
  else if 16 ≤ (s.bar b).scan.marks.length then missMark b k f 1 s
  else s.modScan b (fun c => { c with marks := c.marks ++ [(f, 64 * f - x, k)] })

/-- R157: is the edge rejected? -/
def markRejected (s : State) (k m : Nat) : Bool :=
  decide ((s.enc (trigEnc s)).count < s.trig.h) ||
  (match (s.mark k).last with
   | some l => decide (m < l + 64 * s.dv 0x4041 k)
   | none => false)

/-- R157, R158, R314: an accepted edge at `m`. -/
def markAccepted (k m : Nat) (s : State) : State :=
  let s := raiseSource (0x28 + k) ((s.modMark k (fun x => { x with last := some m })).setDv 0x4042 k m)
  let s := if s.dv 0xA010 1 = 0x1000 + k ∧ holder s then startArmed s else s
  forAll ((List.range 16).filter (fun b => markReg s b && bitsN (s.bo b 0x4050 0) 3 1 == k)) (fun b s => registerMark b k m s) s

/-- R157: an edge of mark input `k` that the filter has accepted. -/
def markEdge (k : Nat) (rising : Bool) (s : State) : State :=
  let cfg := s.dv 0x4040 k
  let s := s.modMark k (fun x => { x with edgeAt := some s.now })
  if bitN cfg 9 && (rising == !bitN cfg 8) && s.trig.en then
    let m := lineScale s (webPosition s)
    if markRejected s k m then s.bump 0x4043 k else markAccepted k m s
  else s

/-- MARK_EDGE (R157, R158): the filter of R130 accepts an edge once the level has been held for its filter time. -/
def execMarkEdge (dt : Nat) (mark : Fin 8) (rising : Bool) (s : State) : Host.Outcome State Fault Refusal :=
  run dt s (fun s =>
    if withinFilter (filterTime (s.dv 0x4040 mark)) s.now (s.mark mark).edgeAt then s else markEdge mark rising s)

/-- 4050.00 MARK_REG (R158, R159): disabling it empties the queue. -/
def markRegEffect : Effect := onBar (fun b _ w s =>
  let s := s.setBo b 0x4050 0 w.toNat
  (stOK, if bitN w.toNat 0 then s else s.modScan b (fun c => { c with marks := [], readyAt := none })))

/-! ### Drays -/

/-- R152: is the oldest read a quarter of a line period old? -/
def panicDue (s : State) (d : Nat) : Bool :=
  match (s.dray d).reading with
  | q :: _ => !(s.dray d).panic && decide (q.2 + s.trig.period / 4 ≤ s.now)
  | [] => false

/-- R152, Table 10-10: the dray raises panic. -/
def raisePanic (d : Nat) (s : State) : State :=
  let times := (s.dray d).panicTimes.filter (fun t => decide (s.now < t + Config.milli)) ++ [s.now]
  let gate := msGate (s.dray d).postAt s.now
  let s := (s.bump 0x7230 d).modDray d (fun x => { x with
    panic := true, panicTimes := times, postAt := if gate then some s.now else x.postAt })
  if gate then postD .drayPanic 0 (leBytes 1 d ++ leBytes 4 times.length) s else s

/-- DRAY_PANIC (R152, R257). -/
def execDrayPanic (dt : Nat) (dray : Fin 8) (s : State) : Host.Outcome State Fault Refusal :=
  run dt s (fun s => if panicDue s dray then raisePanic dray s else s)

/-- WEB_SLOW_RELEASE (R199). -/
def execWebSlowRelease (dt : Nat) (s : State) : Host.Outcome State Fault Refusal := run dt s webSlowJudge

end Sys2Proof.Machine
end

