-- ==== Sys2Proof/Machine/CamLines.lean ====
section
/-!
DEFINITION. Camera lines (R211 to R224): the state of a port, trigger pairing, the position of a line, colour reconstruction,
saturation, the three outputs and their rings, the profile and the focus statistic.
-/
namespace Sys2Proof.Machine
open Sys2Proof

/-! ### The port -/

/-- CAM_CFG.RAW: RAW12. -/
def camRaw12 (s : State) (c : Nat) : Bool := bitN (s.dv 0x6000 c) 3
/-- CAM_CFG.MOSAIC. -/
def camMosaic (s : State) (c : Nat) : Nat := bitsN (s.dv 0x6000 c) 10 8
/-- TRIG_MODE 1. -/
def camTriggered (s : State) (c : Nat) : Bool := s.dv 0x6003 c == 1

/-- What CAM_STATE reports: 0 off, 1 no signal, 2 receiving (HS traffic within the last 10 ms). -/
def camStateNow (s : State) (c : Nat) : Nat :=
  if !camOn s c then 0
  else match (s.cam c).hsAt with
    | some t => if s.now ≤ t + 10 * Config.milli then 2 else 1
    | none => 1

/-- Post CAM_STATE when it has changed. -/
def camJudge (c : Nat) (s : State) : State :=
  let new := camStateNow s c
  let old := (s.cam c).state
  if new = old then s
  else postD .camState 0 (leBytes 1 c ++ leBytes 1 old ++ leBytes 1 new) (s.modCam c (fun x => { x with state := new }))

/-- A port that is disabled, or loses its domain, loses what its stream held; counters and rings stay. -/
def camReset (c : Nat) (s : State) : State :=
  let s := abandonSearch c s
  camJudge c (s.modCam c (fun x => { x with
    dueTrig := [], pulses := [], trigUntil := none, lightUntil := none, index := 0, window := [], nextOut := 0, outCount := 0
    hsAt := none, lineAt := some s.now, lastIn := none, deskewed := false, profSum := [], profLines := 0, focusSum := []
    block := [] }))

/-- Count lines lost in CAM_STATUS and post CAM_LINES_LOST. -/
def camLost (c cause n : Nat) (s : State) : State :=
  if n = 0 then s
  else
    let times := (s.cam c).lostTimes.filter (fun t => decide (s.now < t + Config.milli)) ++ List.replicate n s.now
    postD .camLinesLost 0 (leBytes 1 c ++ leBytes 1 cause ++ leBytes 4 times.length)
      (s.modCam c (fun x => { x with lostTimes := times }))

/-! ### Instants and positions (R215, R216) -/

/-- R216: the stance of the web at an instant: a count of H before those counted since, and reversal. -/
def stanceAt (s : State) (t : Nat) : Option (Int × Bool) :=
  (s.trig.stances.find? (fun q => decide (q.1 ≤ t))).map (fun q => q.2)

/-- R133: a valid count period existed at count `e`, reached by an instant `t`. -/
def periodWas (s : State) (t : Nat) (e : Int) : Bool :=
  match stanceAt s t with
  | some q => decide (q.1 < e - (predWindow s : Int))
  | none => false

/-- The web position at an instant, in units of 2^-40 counts, and whether a valid count period existed then. -/
def webAt (s : State) (t : Nat) : Int × Bool :=
  match s.trig.times.find? (fun q => decide (q.2 ≤ t)) with
  | none => (s.trig.h * (countUnit : Int), false)
  | some q =>
    let base := q.1 * (countUnit : Int)
    if periodWas s t q.1 then
      let span := windowSpan s q.1
      let add := if span = 0 then 0 else (t - q.2) * (predWindow s * countUnit) / span
      (base + ((min add countUnit : Nat) : Int), true)
    else (base, false)

/-- R216: the position of an instant on the line scale in 1/64 lines, and whether it is uncertain. -/
def camPosition (s : State) (t : Nat) : Int × Bool :=
  let x := webAt s t
  (64 * ((s.trig.line + 1 : Nat) : Int) + 64 * (x.1 - s.trig.pos) / (countsPerLine s : Int), !x.2 || ((stanceAt s t).map (fun q => q.2)).getD false)

/-- R215: S / 2. -/
def halfSpacing (s : State) (c : Nat) : Int := ((s.dv 0x6004 c * s.trig.period : Nat) : Int) / 2

/-- R215: pulses too old for a line that ends now are counted and discarded. -/
def dropPulses (c : Nat) (s : State) : State :=
  let from_ : Int := (s.now : Int) - (s.dv 0x6008 c : Int) - halfSpacing s c
  let old := (s.cam c).pulses.filter (fun q => decide ((q.start : Int) < from_))
  let s := s.modCam c (fun x => { x with pulses := x.pulses.filter (fun q => !decide ((q.start : Int) < from_)) })
  camLost c 2 old.length (s.bumpN 0x6015 c old.length)

/-- R215: the pulse that a line ending now is paired with. -/
def pairPulse (s : State) (c : Nat) : Option Pulse :=
  match (s.cam c).pulses with
  | q :: _ => if (q.start : Int) ≤ (s.now : Int) - (s.dv 0x6008 c : Int) + halfSpacing s c then some q else none
  | [] => none

/-! ### Samples (R213) -/

/-- Bytes of an image line (R211). -/
def lineWords (s : State) (c : Nat) : Nat := if camRaw12 s c then camWidth s c * 3 / 2 else camWidth s c * 5 / 4

/-- R213: the samples of a payload, in the packing order of CSI-2 (PRESUMED, assumption log 37). -/
def samplesOf (s : State) (c : Nat) (bs : List Byte) : List Nat :=
  (List.range (camWidth s c)).map (fun x =>
    if camRaw12 s c then
      let o := 3 * (x / 2)
      let low := (byteAt bs (o + 2)).toNat
      (byteAt bs (o + x % 2)).toNat * 16 + (if x % 2 = 0 then low % 16 else low / 16)
    else
      let o := 5 * (x / 4)
      let v := (byteAt bs (o + x % 4)).toNat * 4 + bitsN (byteAt bs (o + 4)).toNat (2 * (x % 4) + 1) (2 * (x % 4))
      v * 4 + v / 256)

/-! ### Colour (R217, R218, R219) -/

/-- P of a mosaic (Table 09-2). -/
def mosaicP (m : Nat) : Nat := match m with | 0 => 1 | 3 => 4 | _ => 2

/-- Table 09-2: the channel of a tile cell. -/
def mosaicCell (m row col : Nat) : Nat :=
  match m with
  | 0 => 0
  | 3 => ([[0, 1, 2, 1], [1, 3, 1, 3], [2, 1, 0, 1], [1, 3, 1, 3]].getD row []).getD col 0
  | _ => ([[0, 1], [2, 3]].getD row []).getD col 0

/-- R217: the channel of pixel `x` on line `y`; both may lie outside the line or the frame. -/
def channelAt (s : State) (c : Nat) (x y : Int) : Nat :=
  let m := camMosaic s c
  let p : Int := mosaicP m
  let cfg := s.dv 0x6000 c
  mosaicCell m ((y + bitsN cfg 14 13) % p).toNat ((x + bitsN cfg 12 11) % p).toNat

/-- R218: the samples read for line index `y`: its own when present, else those of the nearest present line, the earlier on a
tie. -/
def samplesAt (w : List CamLine) (y : Int) : List Nat :=
  ((w.filter (fun l => l.present)).foldl (fun (best : Option (Nat × List Nat)) l =>
    let d := ((l.index : Int) - y).natAbs
    match best with
    | none => some (d, l.samples)
    | some b => if d < b.1 then some (d, l.samples) else some b) none).map (fun b => b.2) |>.getD []

/-- FF of a pixel and channel. -/
def flatField (s : State) (c x ch : Nat) : Nat :=
  match s.dwide 0x6102 c with
  | some bs => fieldLE bs (8 * x + 2 * ch) 2
  | none => 0x1000

/-- R218: channel `ch` of pixel `x` of line `y`. `rows` are the samples of lines y - 2 to y + 2. -/
def visionValue (s : State) (c y x ch : Nat) (rows : List (List Nat)) : Nat :=
  let w := camWidth s c
  let b (dx dy : Int) : Nat :=
    let px := if (x : Int) + dx < 0 then 0 else min (w - 1) ((x : Int) + dx).toNat
    (rows.getD (2 + dy).toNat []).getD px 0 - s.dv 0x6100 c
  let d :=
    if camMosaic s c = 0 ∨ channelAt s c x y = ch then b 0 0
    else
      let h : Nat := if mosaicP (camMosaic s c) = 2 then 1 else 2
      let offs := (List.range (2 * h + 1)).map (fun (i : Nat) => (i : Int) - (h : Int))
      let vs := offs.flatMap (fun dy => offs.filterMap (fun dx =>
        if channelAt s c ((x : Int) + dx) ((y : Int) + dy) = ch then some (b dx dy) else none))
      (vs.sum + vs.length / 2) / vs.length
  min 65535 ((d * flatField s c x ch + 0x80) / 256)

/-- R219: is a sample saturated? -/
def saturated (s : State) (c v : Nat) : Bool := decide (s.dv 0x6101 c ≤ v)

/-- R219: the flags of pixel `x` of line `y`. -/
def visionFlags (s : State) (c y x : Nat) (w : List CamLine) : Nat :=
  let near := w.filter (fun l => decide (l.index ≤ y + 2) && decide (y ≤ l.index + 2))
  let own := (w.filter (fun l => l.index == y)).any (fun l => saturated s c (l.samples.getD x 0))
  let contam := near.any (fun l => !l.present ||
    (List.range 5).any (fun i => decide (2 ≤ x + i) && decide (x + i - 2 < camWidth s c) &&
      saturated s c (l.samples.getD (x + i - 2) 0)))
  b2n own + 2 * b2n contam

/-- Table 09-3 FLAGS[2]: a datum line lies in a strip of a bar whose columns the port sees. -/
def imagesStrip (s : State) (c : Nat) (d : Int) : Bool :=
  let r := s.dv 0x6107 c
  let lo := bitsN r 15 0
  let hi := bitsN r 31 16
  s.barsWithCols.any (fun b => decide (lo ≤ hi) && decide (lo < s.firstCol b + s.width b) && decide (s.firstCol b ≤ hi) &&
    (s.bar b).scan.strips.any (fun x => !x.abandoned && decide ((x.first : Int) ≤ d) &&
      decide (d < (x.first : Int) + (x.length : Int))))

/-- R229: the datum line that a line at Y images. -/
def imagedLine (pos : Int) : Int := (pos + 32) / 64

/-- R218, R219: the vision line of a present line `l`. -/
def visionLine (s : State) (c : Nat) (l : CamLine) : VisLine :=
  let w := (s.cam c).window
  let rows := (List.range 5).map (fun (i : Nat) => samplesAt w ((l.index : Int) + (i : Int) - 2))
  { index := l.index, time := l.time, pos := l.pos, uncertain := l.uncertain, axisMoving := l.axisMoving
    strip := imagesStrip s c (imagedLine l.pos)
    vals := (List.range (camWidth s c)).flatMap (fun x => (List.range 4).map (fun ch => visionValue s c l.index x ch rows))
    flags := (List.range (camWidth s c)).map (fun x => visionFlags s c l.index x w) }

/-- Value of a pixel and channel. -/
def VisLine.v (l : VisLine) (x ch : Nat) : Nat := l.vals.getD (4 * x + ch) 0

/-! ### Outputs (R220, R221) -/

/-- Table 09-3: the header of an output line. -/
def camHeader (s : State) (c count width : Nat) (ls : List VisLine) : List Byte :=
  match ls with
  | [] => []
  | l :: _ =>
    let any (f : VisLine → Bool) := b2n (ls.any f)
    leBytes 8 l.time ++ leBytes 8 count ++ leBytes 8 (ofSigned 64 l.pos) ++ leBytes 2 width ++
      leBytes 1 (any (fun l => l.flags.any (fun f => bitN f 0)) + 2 * any (fun l => l.flags.any (fun f => bitN f 1)) +
        4 * any (fun l => l.strip) + 8 * b2n (!camTriggered s c) + 16 * any (fun l => l.uncertain) +
        32 * any (fun l => l.axisMoving)) ++ leBytes 1 c ++ leBytes 4 0

/-- Write a line to a ring: 0 vision, 1 display, 2 coding. -/
def putRing (c ring : Nat) (bs : List Byte) (s : State) : State :=
  let obj := 0x6120 + 2 * ring
  let slot := s.dv obj (4 + c) % s.dv 0x6113 0
  (s.count64 obj (4 + c) 1).modCam c (fun x =>
    match ring with
    | 0 => { x with vision := x.vision.set slot bs }
    | 1 => { x with display := x.display.set slot bs }
    | _ => { x with coding := x.coding.set slot bs })

/-- R220: the bytes R, G, B of four channel values. -/
def rgbOf (s : State) (c : Nat) (cs : List Nat) : List Nat :=
  let m := (s.dwide 0x6111 c).getD matrixDefault
  (List.range 3).map (fun i =>
    let lin : Int := (((List.range 4).map (fun j => toSigned 16 (fieldLE m (8 * i + 2 * j) 2) * ((cs.getD j 0 : Nat) : Int))).sum +
      2048) / 4096
    let lin := if lin < 0 then 0 else min 65535 lin.toNat
    match s.dwide 0x6112 c with
    | some lut => (byteAt lut (lin / 64)).toNat
    | none => srgbDefault (lin / 64))

/-- R220: a display line of the block's lines. -/
def displayLine (s : State) (c count : Nat) (ls : List VisLine) : List Byte :=
  let n := camWidth s c / 4
  camHeader s c count n ls ++ (List.range n).flatMap (fun i =>
    let mean (j : Nat) :=
      let vs := ls.flatMap (fun l => (List.range 4).map (fun k => l.v (4 * i + k) j))
      (vs.sum + vs.length / 2) / vs.length
    (rgbOf s c ((List.range 4).map mean)).map (fun v => BitVec.ofNat 8 v))

/-- Clip to a byte. -/
def clip8 (v : Int) : Nat := if v < 0 then 0 else min 255 v.toNat

/-- R220: Y, Cb, Cr of a pixel. -/
def ycc (rgb : List Nat) : Nat × Nat × Nat :=
  let r : Int := (rgb.getD 0 0 : Nat)
  let g : Int := (rgb.getD 1 0 : Nat)
  let b : Int := (rgb.getD 2 0 : Nat)
  (clip8 ((77 * r + 150 * g + 29 * b + 128) / 256), clip8 ((-43 * r - 85 * g + 128 * b + 128) / 256 + 128),
    clip8 ((128 * r - 107 * g - 21 * b + 128) / 256 + 128))

/-- R220: a coding line. -/
def codingLine (s : State) (c count : Nat) (l : VisLine) : List Byte :=
  let w := camWidth s c
  let px (x : Nat) := ycc (rgbOf s c ((List.range 4).map (fun j => l.v x j)))
  camHeader s c count w [l] ++ (List.range (w / 2)).flatMap (fun i =>
    let p := px (2 * i)
    let q := px (2 * i + 1)
    [p.1, (p.2.1 + q.2.1 + 1) / 2, q.1, (p.2.2 + q.2.2 + 1) / 2].map (fun v => BitVec.ofNat 8 v))

/-- R220: the vision line as bytes. -/
def visionBytes (s : State) (c count : Nat) (l : VisLine) : List Byte :=
  camHeader s c count (camWidth s c) [l] ++ l.vals.flatMap (fun v => leBytes 2 v) ++ packBits 2 l.flags

/-- R220: the display block ends. -/
def flushBlock (c : Nat) (s : State) : State :=
  let ls := (s.cam c).block
  let s := s.modCam c (fun x => { x with block := [] })
  if ls.isEmpty || !ringOn s c 1 then s
  else putRing c 1 (displayLine s c ((s.cam c).outCount - ls.length) ls) s

/-- R221: a strip line passes through the port's 4 MiB buffer; one that does not fit is left out and counted. How much the buffer has
emptied since the last one is a free value (assumption log 139). -/
def putStripLine (c : Nat) (bs : List Byte) (s : State) : State :=
  let left := min (s.cam c).visBuf (Config.visionLeft s.now c (s.cam c).visBuf)
  if left + bs.length ≤ 2 ^ 22 then putRing c 0 bs (s.modCam c (fun x => { x with visBuf := left + bs.length }))
  else (s.bump 0x6121 c).modCam c (fun x => { x with visBuf := left })

/-- R220, R221: the outputs of a vision line; a deflate engine may take a camera job up (R85). -/
def putOutputs (c : Nat) (l : VisLine) (s : State) : State :=
  let n := (s.cam c).outCount
  let sel := bitsN (s.dv 0x6110 c) 1 0
  let s := if sel = 2 then putRing c 0 (visionBytes s c n l) s
    else if sel = 1 ∧ l.strip = true then putStripLine c (visionBytes s c n l) s
    else s
  let s := if ringOn s c 2 then assignDeflate (putRing c 2 (codingLine s c n l) s) else s
  s.modCam c (fun x => { x with outCount := n + 1, block := x.block ++ [l] })

/-! ### Statistics (R219, R222, R224) -/

/-- R219: post SATURATION, at most once a millisecond. -/
def postSaturation (c : Nat) (l : VisLine) (s : State) : State :=
  let xs := (List.range l.flags.length).filter (fun x => bitN (l.flags.getD x 0) 0)
  match xs.head?, xs.getLast? with
  | some a, some b =>
    if msGate (s.cam c).satPostAt s.now then
      postD .saturation 0 (leBytes 1 c ++ leBytes 2 a ++ leBytes 2 b ++ leBytes 7 (s.cam c).outCount)
        (s.modCam c (fun x => { x with satPostAt := some s.now }))
    else s
  | _, _ => s

/-- R222: the mean of a sum over a count, as a U16. -/
def profileMean (q : Nat × Nat) : Nat :=
  if q.2 = 0 then 0 else q.1 / q.2 + (if q.1 % q.2 ≠ 0 ∧ Config.profileRoundsUp q.1 q.2 then 1 else 0)

/-- R222: a vision line enters the profile. -/
def profileLine (c : Nat) (l : VisLine) (s : State) : State :=
  let w := camWidth s c
  let sum := (List.range w).foldl (fun (m : Map (Nat × Nat)) x =>
    if l.flags.getD x 0 ≠ 0 then m
    else (List.range 4).foldl (fun m ch => m.modify (4 * x + ch) (0, 0) (fun q => (q.1 + l.v x ch, q.2 + 1))) m) (s.cam c).profSum
  let n := (s.cam c).profLines + 1
  if s.dv 0x6141 0 ≤ n then
    (s.setDw 0x6140 c ((List.range (4 * w)).flatMap (fun i => leBytes 2 (profileMean (Map.getD sum i (0, 0)))))).modCam c
      (fun x => { x with profSum := [], profLines := 0 })
  else s.modCam c (fun x => { x with profSum := sum, profLines := n })

/-- R224: a line that carries a flag in the window is skipped. -/
def focusUsable (l : VisLine) (a b : Nat) : Bool := ((l.flags.drop a).take (b - a + 1)).all (fun f => f == 0)

/-- R224: the sum of a window over one line. -/
def focusTerm (l : VisLine) (a b : Nat) : Nat :=
  ((List.range (b - a)).map (fun i =>
    let d : Int := ((l.v (a + 1 + i) 1 / 16 : Nat) : Int) - ((l.v (a + i) 1 / 16 : Nat) : Int)
    (d * d).toNat)).sum

/-- The enabled focus windows (R224). -/
def focusWindows (s : State) (c : Nat) : List (Nat × Nat × Nat) :=
  (List.range 16).filterMap (fun k => (focusWindow s c k).map (fun w => (k, w)))

/-- R224: a line enters the sums of the windows that can use it; a window that has counted FOCUS_LINES lines waits for the others
(DEDUCED, assumption log 140). -/
def focusAdd (s : State) (c : Nat) (l : VisLine) : Map (Nat × Nat) :=
  (focusWindows s c).foldl (fun m w =>
    let q := Map.getD m w.1 (0, 0)
    if focusUsable l w.2.1 w.2.2 && decide (q.2 < s.dv 0x6132 0) then m.set w.1 (q.1 + focusTerm l w.2.1 w.2.2, q.2 + 1)
    else m) (s.cam c).focusSum

/-- R224: the sums are latched into FOCUS_SHARP, and FOCUS_SEQ counts. -/
def focusLatch (c : Nat) (sums : Map (Nat × Nat)) (s : State) : State :=
  let bytes := (List.range 16).flatMap (fun k =>
    leBytes 8 (if (focusWindow s c k).isSome then (Map.getD sums k (0, 0)).1 else 0))
  ((s.setDw 0x6131 c bytes).setDv 0x6131 (4 + c) ((s.dv 0x6131 (4 + c) + 1) % 2 ^ 32)).modCam c (fun x => { x with focusSum := [] })

/-- R224: a line enters the focus statistic. Answers whether it was latched: when every enabled window has its lines. -/
def focusLine (c : Nat) (l : VisLine) (s : State) : Bool × State :=
  let ws := focusWindows s c
  if l.uncertain || ws.isEmpty then (false, s)
  else
    let sums := focusAdd s c l
    if ws.all (fun w => decide (s.dv 0x6132 0 ≤ (Map.getD sums w.1 (0, 0)).2)) then (true, focusLatch c sums s)
    else (false, s.modCam c (fun x => { x with focusSum := sums }))

end Sys2Proof.Machine
end

