-- ==== Sys2Proof/Machine/Focus.lean ====
section
/-!
DEFINITION. The focus search (R225): its moves, its scores, its result, and what aborts it.
-/
namespace Sys2Proof.Machine
open Sys2Proof

/-- FOCUS_AXIS: the axis of a port's search, as FOCUS_GO found it while one runs. -/
def focusAxis (s : State) (c : Nat) : Nat :=
  match (s.cam c).search with
  | some q => q.axis
  | none => bitsN (s.dv 0x6133 c) 2 0

/-- R225: has the axis of a port moved at an instant? -/
def focusMoved (s : State) (c t : Nat) : Bool :=
  let x := s.axis (focusAxis s c)
  (bitN (s.dv 0x6133 c) 7 || (s.cam c).search.isSome) &&
    (x.runs.any (fun r => decide (r.1 ≤ t) && decide (t ≤ r.2)) || (decide (s.now ≤ t) && x.moving))

/-- R216, R225: what a line of instant `t` carries. -/
def instantOf (s : State) (c t : Nat) : Instant :=
  let p := camPosition s t
  { pos := p.1, uncertain := p.2, time := s.timeWas t, axisMoving := focusMoved s c t }

/-- Does the axis move, or is a command waiting? -/
def axisBusy (s : State) (a : Nat) : Bool := (s.axis a).moving || (s.axis a).next.isSome

/-- May the axis move to `p` now (R311, R315)? -/
def focusMayMove (s : State) (a : Nat) (p : Int) : Bool :=
  let x := s.axis a
  let dir := (p - x.steps).sign
  axCfg s a 0 && (s.devState == .config || s.devState == .ready || s.devState == .print) && !x.uncertain && !limitsBar s a dir

/-- R225: abort a search: the axis ramps down where it stands. -/
def focusAbort (c : Nat) (s : State) : State :=
  match (s.cam c).search with
  | some q =>
    let s := if (q.phase = 0 ∨ q.phase = 3) ∧ (s.axis (focusAxis s c)).mode = .move then
        stopRamp (focusAxis s c) 1 (stopDecel s (focusAxis s c)) s
      else s
    abandonSearch c s
  | none => s

/-- Move the axis of a search to `p`; a move that the axis refuses aborts the search (assumption log 39). -/
def focusMove (c : Nat) (p : Int) (q : Search) (s : State) : State :=
  let a := focusAxis s c
  let s := s.modCam c (fun x => { x with search := some q })
  if focusMayMove s a p then
    mirrorAxis a (s.modAxis a (fun x => { x with mode := .move, target := p * stepUnit, next := none, armed := none }))
  else focusAbort c s

/-- p[i] of R225. -/
def focusPoint (q : Search) (i : Nat) : Int :=
  q.start + ((i : Int) - (((q.n - 1) / 2 : Nat) : Int)) * q.step

/-- The nearest integer of a quotient, halves away from zero. -/
def roundAway (a b : Int) : Int :=
  let q := ((2 * a.natAbs + b.natAbs) / (2 * b.natAbs) : Nat)
  if a.sign * b.sign < 0 then -(q : Int) else (q : Int)

/-- The lowest index of the greatest score. -/
def bestScore (xs : List Nat) : Nat :=
  ((List.range xs.length).foldl (fun b i => if xs.getD b 0 < xs.getD i 0 then i else b) 0)

/-- R225: the final position and EDGE. -/
def focusFinal (q : Search) : Int × Bool :=
  let n := q.scores.length
  let b := bestScore q.scores
  let v (i : Nat) : Int := ((q.scores.getD i 0 : Nat) : Int)
  if b = 0 ∨ b + 1 = n then (focusPoint q b, true)
  else
    let den := 2 * (v (b - 1) - 2 * v b + v (b + 1))
    if 0 ≤ den then (focusPoint q b, false)
    else (focusPoint q b + roundAway ((v (b - 1) - v (b + 1)) * q.step) den, false)

/-- R225: a statistic has been latched. -/
def focusLatched (c : Nat) (s : State) : State :=
  match (s.cam c).search with
  | none => s
  | some q =>
    if q.phase = 1 then s.modCam c (fun x => { x with search := some { q with phase := 2 } })
    else if q.phase = 2 then
      let bs := (s.dwide 0x6131 c).getD []
      let q := { q with scores := q.scores ++ [((List.range 16).map (fun k => fieldLE bs (8 * k) 8)).sum] }
      if q.i + 1 < q.n then focusMove c (focusPoint q (q.i + 1)) { q with i := q.i + 1, phase := 0 } s
      else
        let f := focusFinal q
        focusMove c f.1 { q with phase := 3, final := f.1, edge := f.2 } s
    else s

/-- R225: the axis of a search stands: the next statistic is awaited, or the search is done. -/
def focusStands (c : Nat) (s : State) : State :=
  match (s.cam c).search with
  | none => s
  | some q =>
    if axisBusy s (focusAxis s c) then s
    else if q.phase = 0 then s.modCam c (fun x => { x with search := some { q with phase := 1, movedAt := s.now } })
    else if q.phase = 3 then
      let s := (s.setDvi 0x6137 c q.final).modCam c (fun x => { x with search := none })
      postD .focusDone (2 * b2n q.edge) (leBytes 1 c ++ leBytes 3 0 ++ leBytes 8 (ofSigned 64 q.final)) s
    else s

/-- Every search whose axis stands. -/
def focusAll (s : State) : State := forAll (List.range 4) focusStands s

/-- 6136 FOCUS_GO: 1 starts a search, 0 aborts one (R225, R333). -/
def focusGoEffect : Effect := onDev (fun c w s =>
  if w = 0 then (stOK, focusAbort c s)
  else if !holder s then (stState, s.bump 0x8014 1)
  else if !bitN (s.dv 0x6133 c) 7 || (s.cam c).search.isSome then (stState, s)
  else
    let q : Search := { start := (s.axis (focusAxis s c)).steps, i := 0, phase := 0, scores := [], final := 0, edge := false,
                        movedAt := s.now, n := s.dv 0x6135 c, step := toSigned 32 (s.dv 0x6134 c), axis := focusAxis s c }
    (stOK, focusMove c (focusPoint q 0) q s))

/-- FOCUS_GO (R225, R333). -/
def execFocusGo (dt : Nat) (door : Door) (sub : Fin 4) (s : State) : Host.Outcome State Fault Refusal :=
  run dt s (writeThrough door 0x6136 sub 1 focusGoEffect)

/-- FOCUS_ABORT (R225). -/
def execFocusAbort (dt : Nat) (door : Door) (sub : Fin 4) (s : State) : Host.Outcome State Fault Refusal :=
  run dt s (writeThrough door 0x6136 sub 0 focusGoEffect)

/-- FOCUS_STAT_TIMEOUT (R225): no statistic within 1 s of a move. -/
def execFocusStatTimeout (dt : Nat) (cam : Fin 4) (s : State) : Host.Outcome State Fault Refusal :=
  run dt s (fun s =>
    match (s.cam cam).search with
    | some q => if q.phase = 1 ∧ q.movedAt + Config.second ≤ s.now then focusAbort cam s else s
    | none => s)

end Sys2Proof.Machine
end

