-- ==== Sys2Proof/Machine/Measure.lean ====
section
/-!
DEFINITION. The density loop (R226 to R236): the lines of a strip, windows, white values, integrals and residuals, registration,
classification, gains, and the end of a strip's measurement.
-/
namespace Sys2Proof.Machine
open Sys2Proof

/-! ### Registration (R226) -/

/-- The map in force at a port: offset, scale, track. -/
def camMap (s : State) (c : Nat) : Int × Nat × Int := (s.dvi 0x6105 c, s.dv 0x6106 c, s.dvi 0x6108 c)

/-- R226: the position of pixel `x` under a map, in 1/64 device columns. -/
def col64 (m : Int × Nat × Int) (x : Nat) : Int := (m.1 + ((x * m.2.1 : Nat) : Int)) / 1024 + m.2.2

/-- R226: the port that measures device column `x`. -/
def measPort (s : State) (x : Nat) : Option Nat :=
  (camPorts s).find? (fun c => decide (bitsN (s.dv 0x6107 c) 15 0 ≤ x) && decide (x ≤ bitsN (s.dv 0x6107 c) 31 16))

/-- R226: the window of a device column. -/
def windowOf (s : State) (c k col : Nat) (m : Int × Nat × Int) : List Nat :=
  (List.range (camWidth s c)).filter (fun x =>
    decide (64 * (col : Int) - 16 * (k : Int) - 32 ≤ col64 m x) && decide (col64 m x < 64 * (col : Int) + 16 * (k : Int) + 32))

/-! ### A nozzle (R229, R230) -/

/-- The nozzles of a strip's target, as (port, nozzle), in ascending order. -/
def targetNozzles (s : State) (b : Nat) (x : Strip) : List (Nat × Nat) :=
  (sortNat (headsOf s x.plane x.rowSet)).flatMap (fun p => (ownNozzles s b p).map (fun k => (p, k)))

/-- R228: the segment of a nozzle. -/
def segmentOf (s : State) (x : Strip) (p k : Nat) : Nat :=
  let order := ((headsOf s x.plane x.rowSet).findIdx? (fun q => q == p)).getD 0
  (headCol0 s p + k + (if order % 2 = 0 then 0 else x.k / 2)) % x.k

/-- The line at which the row of a nozzle prints a datum line of a strip (R147, R19). -/
def strikeOf (s : State) (b : Nat) (x : Strip) (p k : Nat) (d : Int) : Int := d + ((stripDelay s b x p (k % headRows s p) : Nat) : Int)

/-- R229: a line was skipped, or is in MISS_LOG with the nozzle's burst missing (assumption log 38). -/
def strikeMissed (s : State) (p k : Nat) (l : Int) : Bool :=
  if l < 0 then false
  else
    let n := l.toNat
    let r := s.trig.records.getD (n % 32768) []
    (fieldLE r 8 8 == n && bitN (fieldLE r 28 1) 2 && !r.isEmpty) ||
    s.missLog.any (fun e => fieldLE e.2 0 6 == n % 2 ^ 48 && fieldLE e.2 6 1 == p &&
      (bitN (fieldLE e.2 7 1) (k % 2) || bitN (fieldLE e.2 7 1) 2))

/-- R229: is a line of the strip valid for a nozzle with window `win`? -/
def lineValid (s : State) (b : Nat) (x : Strip) (p k : Nat) (win : List Nat) (d : Int) (l : VisLine) : Bool :=
  !l.uncertain && !l.axisMoving && win.all (fun x => l.flags.getD x 0 == 0) &&
  !([d - 1, d, d + 1].any (fun e => strikeMissed s p k (strikeOf s b x p k e)))

/-- R229: W of a pixel over the valid white lines; none when the pixel is unusable. -/
def whiteOf (ls : List VisLine) (ch x : Nat) : Option Nat :=
  let vs := ls.map (fun l => l.v x ch)
  if vs.isEmpty then none
  else
    let w := (vs.sum + vs.length / 2) / vs.length
    if w < 1024 then none else some w

/-- The nearest integer, halves away from zero; 0 for a zero divisor. -/
def roundDiv (a : Int) (b : Nat) : Int :=
  if b = 0 then 0 else if 0 ≤ a then (2 * a + (b : Int)) / (2 * (b : Int)) else -((2 * (-a) + (b : Int)) / (2 * (b : Int)))

/-- R229, R230: what a strip gives of a nozzle at port `c`. -/
def measNozzle (s : State) (b c : Nat) (x : Strip) (m : StripMeas) (p k : Nat) : MeasNoz :=
  let map := m.map.getD (camMap s c)
  let col := headCol0 s p + k
  let win := windowOf s c x.k col map
  let ch := s.bo b 0x6210 x.plane
  let edge := s.bo b 0x6200 5
  let ok := m.lines.filter (fun q => lineValid s b x p k win q.1 q.2)
  let j (d : Int) : Int := d - (x.first : Int)
  let white := (ok.filter (fun q => decide ((edge : Int) ≤ j q.1) && decide (j q.1 ≤ 7 - (edge : Int)))).map (fun q => q.2)
  let ws := win.map (fun px => (px, whiteOf white ch px))
  let g := segmentOf s x p k
  let lo : Int := ((8 + g * x.seg + edge : Nat) : Int)
  let hi : Int := ((8 + (g + 1) * x.seg : Nat) : Int) - 1 - (edge : Int)
  let meas := (ok.filter (fun q => decide (lo ≤ j q.1) && decide (j q.1 ≤ hi))).map (fun q => q.2)
  let ms (l : VisLine) : List (Nat × Nat) := ws.map (fun q =>
    match q.2 with
    | some w => (q.1, if w ≤ l.v q.1 ch then 0 else 65535 * (w - l.v q.1 ch) / w)
    | none => (q.1, 0))
  let n := meas.length
  let sumS := (meas.map (fun l => ((ms l).map (fun q => q.2)).sum * map.2.1 / 65536)).sum
  let msum := (meas.map (fun l => ((ms l).map (fun q => q.2)).sum)).sum
  let esum := (meas.map (fun l => ((ms l).map (fun q => (q.2 : Int) * (col64 map q.1 - 64 * (col : Int)))).sum)).sum
  { integral := if n = 0 then 0 else (sumS + n / 2) / n, e := roundDiv esum msum, n := n
    excluded := ws.any (fun q => q.2.isNone), own := true }

/-! ### Registration after a strip (R231) -/

/-- R231: the median residual of a port's nozzles; none when none counts. -/
def portResidual (minLines : Nat) (ns : List MeasNoz) : Option Int :=
  let ok := ns.filter (fun q => decide (minLines ≤ q.n))
  let med := lowerMedianNat (ok.map (fun q => q.integral))
  let sel := ok.filter (fun q => decide (med ≤ 2 * q.integral))
  if sel.isEmpty then none else some (lowerMedianInt (sel.map (fun q => q.e)))

/-- R231: register a port by a strip whose latched map is `m`. REG_OFFSET or REG_SCALE written since has put REG_TRACK back to 0 for
the next strip (Table 09-4): the strip's residuals are judged and corrected under its own map, and REG_TRACK and REG_LOST stay
(DEDUCED, assumption log 138). -/
def register (c minLines : Nat) (m : StripMeas) (ns : Map MeasNoz) (s : State) : Map MeasNoz × State :=
  let out := ns.mapVals (fun q => { q with excluded := true })
  let stale := m.map.isSome && m.gen != (s.cam c).regGen
  let track := if stale then (m.map.map (fun q => q.2.2)).getD 0 else s.dvi 0x6108 c
  if (s.cam c).regLost then (out, s)
  else match portResidual minLines ns.vals with
    | none => (ns, s)
    | some r =>
      let t := track + r
      if t.natAbs ≤ s.dv 0x6109 c then
        (ns.mapVals (fun q => { q with e := q.e - r }), if stale then s else s.setDvi 0x6108 c t)
      else if stale then (out, s)
      else (out, postD .regLost 0 (leBytes 1 c ++ leBytes 2 (ofSigned 16 r)) (s.modCam c (fun x => { x with regLost := true })))

/-! ### Classification (R232) -/

/-- R232: I_ref of a strip. -/
def refIntegral (s : State) (b : Nat) (x : Strip) : Nat :=
  let t := s.bo b 0x6211 x.plane
  if t = 0 then
    lowerMedianNat ((x.got.vals.filter (fun q => decide (s.bo b 0x6215 x.plane ≤ q.n))).map (fun q => q.integral))
  else t

/-- R232: i_rel, target and outcome of a nozzle. -/
def classify (s : State) (b plane iref : Nat) (q : MeasNoz) : Nat × Nat × Check :=
  let irel := if iref = 0 then 0 else (q.integral * 65536 + iref / 2) / iref
  let target := if irel = 0 then 0 else (0x4000 * 65536 + irel / 2) / irel
  let o : Check :=
    if q.n < s.bo b 0x6215 plane ∨ q.excluded ∨ iref = 0 then .excluded
    else if irel < s.bo b 0x6213 plane ∨ s.bo b 0x6217 plane < target then .miss
    else if s.bo b 0x6214 plane < q.e.natAbs then .dev
    else if s.bo b 0x6212 plane < ((irel : Int) - 65536).natAbs then .low
    else .pass
  (irel, target, o)

/-- 6240 MEAS_RESULT of a nozzle; an outcome of none when it was not measured. -/
def resultBytes (r : Option (Nat × MeasNoz × Check)) : List Byte :=
  match r with
  | some (irel, q, o) => leBytes 4 irel ++ leBytes 2 (ofSigned 16 q.e) ++ leBytes 1 q.n ++ leBytes 1 o.code
  | none => leBytes 4 0 ++ leBytes 2 0 ++ leBytes 1 0 ++ leBytes 1 0xFF

/-- Write the results of the nozzles `ks` of a head into MEAS_RESULT. -/
def putResults (b p : Nat) (ks : List (Nat × Option (Nat × MeasNoz × Check))) (s : State) : State :=
  let old := (s.bwide b 0x6240 p).getD (List.replicate (8 * headSize s p) 0)
  s.setBw b 0x6240 p (ks.foldl (fun bs q => overwrite bs (8 * q.1) (resultBytes q.2)) old)

/-! ### Gains (R233) -/

/-- R233: the new gain of a nozzle. -/
def newGain (s : State) (b plane g target : Nat) : Int :=
  let t : Int := (min (s.bo b 0x6217 plane) (max (s.bo b 0x6216 plane) target) : Nat)
  (g : Int) + ((t - (g : Int)) * (s.bo b 0x6218 plane : Int) + 128) / 256

/-- R22: a device update of gains in the open copy: (nozzle, gain). -/
def editGains (b p : Nat) (gs : List (Nat × Nat)) (s : State) : State :=
  if gs.isEmpty then s
  else
    let bs := gs.foldl (fun acc q => overwrite acc (2 * q.1) (leBytes 2 q.2)) (s.curW b 0x3410 p)
    let s := openSet b (okey 0x3410 p) (.wide bs) s
    if pairMode s then mirrorNozzles b p (gs.map (fun q => q.1)) s else s

/-- R233: the gains that the loop writes of a head's nozzles: (nozzle, target, outcome) in, (nozzle, gain) out. -/
def movedGains (s : State) (b plane p : Nat) (ks : List (Nat × Nat × Check)) : List (Nat × Nat) :=
  let st := s.curW b 0x3400 p
  let gn := s.curW b 0x3410 p
  if bitN (s.bo b 0x621A plane) 1 then
    ks.filterMap (fun q =>
      let e := entryAt st q.1
      let g := entryAt gn q.1
      let g2 := newGain s b plane g q.2.1
      if (q.2.2 = .pass ∨ q.2.2 = .low) ∧ entryState e < 2 ∧ entryLock e = false ∧
          s.bo b 0x6219 plane ≤ (g2 - (g : Int)).natAbs then some (q.1, g2.toNat) else none)
  else []

/-! ### The end of a strip (R232 to R236) -/

/-- What the loop did with nozzles: EXCLUDED, MISS or DEV, gains changed, entries changed, and a move into or out of service. -/
structure LoopSum where
  excluded : Nat
  failed : Nat
  gains : Nat
  changed : Bool
  moved : Bool
  deriving DecidableEq, Repr

/-- R232, R233: classify nozzles of one head of the target and apply what follows. -/
def applyHead (b : Nat) (x : Strip) (iref p : Nat) (all : Bool) (acc : LoopSum × State) : LoopSum × State :=
  let s := acc.2
  let got := x.got.filter (fun q => q.1 / 65536 == p)
  let rs := got.map (fun q => (q.1 % 65536, q.2, classify s b x.plane iref q.2))
  let own := if all then ownNozzles s b p else rs.map (fun r => r.1)
  let s := putResults b p (own.map (fun k => (k, (rs.find? (fun r => r.1 == k)).map (fun r => (r.2.2.1, r.2.1, r.2.2.2.2))))) s
  let before := s.curW b 0x3400 p
  let s := applyOutcomes b p (rs.map (fun r => (r.1, r.2.2.2.2))) s
  let moved := serviceMoved s b p before
  let changed := s.curW b 0x3400 p != before
  let gs := movedGains s b x.plane p (rs.map (fun r => (r.1, r.2.2.2.1, r.2.2.2.2)))
  let other := (gs.filter (fun q => entryAt (s.curW b 0x3410 p) q.1 != q.2)).length
  let s := editGains b p gs s
  let count (f : Check → Bool) := (rs.filter (fun r => f r.2.2.2.2)).length
  ({ excluded := acc.1.excluded + count (fun o => o == .excluded)
     failed := acc.1.failed + count (fun o => o == .miss || o == .dev)
     gains := acc.1.gains + other
     changed := acc.1.changed || changed || decide (0 < other)
     moved := acc.1.moved || moved }, s)

/-- Update a strip of a bar. -/
def modStrip (b first : Nat) (f : Strip → Strip) (s : State) : State :=
  s.modScan b (fun c => { c with strips := c.strips.map (fun x => if x.first = first then f x else x) })

/-- The strip of a bar that begins at a datum line. -/
def stripAt (s : State) (b first : Nat) : Option Strip := (s.bar b).scan.strips.find? (fun x => x.first == first)

/-- R122, R234: after a strip's updates, at most one commit request of the strip. Answers whether it was made. -/
def loopCommit (b first : Nat) (r : LoopSum) (s : State) : Bool × State :=
  let want := (r.changed && s.bo b 0x6220 0 == 1) || (r.moved && s.bo b 0x3438 0 == 1)
  let had := ((stripAt s b first).map (fun x => x.committed)).getD false
  if want && !had && !(s.bar b).openHost && !blockBusy s b && holder s then
    (true, commitRequest b (firstUnfixed s b) (modStrip b first (fun x => { x with committed := true }) s))
  else (false, s)

/-- R232 to R234: the active unit's share, over the nozzles of the heads that `x.got` names. -/
def applyStrip (b : Nat) (x : Strip) (iref : Nat) (all : Bool) (s : State) : LoopSum × Bool × State :=
  let zero : LoopSum := { excluded := 0, failed := 0, gains := 0, changed := false, moved := false }
  if holder s then
    let ps := if all then sortNat (headsOf s x.plane x.rowSet) else ((x.got.map (fun q => q.1 / 65536)).eraseDups)
    let r := (ps.filter (fun p => (instPorts s b).contains p)).foldl (fun acc p => applyHead b x iref p all acc) (zero, s)
    let c := loopCommit b x.first r.1 r.2
    (r.1, c.1, c.2)
  else (zero, false, s)

/-- The page that follows a strip. -/
def pageAfterStrip (s : State) (b : Nat) (x : Strip) : Nat :=
  match (s.bar b).pages.find? (fun p => match p.flip with | some f => decide (x.first < f) | none => false) with
  | some p => p.num
  | none => nextPageNum s b

/-- R235: the camera ports of this unit that measure a strip: those on when it was placed, and those on now. -/
def stripPorts (s : State) (x : Strip) : List Nat := (List.range 4).filter (fun c => x.ports.contains c || camOn s c)

/-- R235: every camera port has ended the strip, and not all of them abandoned it. -/
def ownEnded (s : State) (x : Strip) : Bool :=
  let ps := stripPorts s x
  !ps.isEmpty && ps.all (fun c => x.ended.contains c) && !ps.all (fun c => x.gone.contains c)

/-- R236: the strip awaits the partner's records of the nozzles that this unit has not measured, at most 100 ms from its own end
(DESIGN CHOICE, assumption log 133). -/
def awaitsPeer (s : State) (b : Nat) (x : Strip) : Bool :=
  pairMode s && holder s && s.pair.linkUp && decide (s.now < x.endedAt.getD s.now + 100 * Config.milli) &&
  !(targetNozzles s b x).all (fun q => x.got.has (q.1 * 65536 + q.2))

/-- R232 to R236: the strip has been measured. -/
def stripFinish (b : Nat) (x : Strip) (s : State) : State :=
  let s := modStrip b x.first (fun y => { y with measured := true }) (s.bumpB b 0x6221 0)
  let r := applyStrip b x (refIntegral s b x) true s
  postB .stripMeasured b (pageAfterStrip s b x) (b2n r.2.1)
    (leBytes 1 x.plane ++ leBytes 1 x.rowSet ++ leBytes 2 x.got.length ++ leBytes 2 r.1.excluded ++ leBytes 2 r.1.failed ++
      leBytes 2 r.1.gains) r.2.2

/-- R235, R236: the strip has been measured once every camera port has ended it, unless every port abandoned it, and the partner's
records have come. -/
def stripDone (b : Nat) (x : Strip) (s : State) : State :=
  if x.measured || x.abandoned || !ownEnded s x then s
  else if awaitsPeer s b x then modStrip b x.first (fun y => { y with endedAt := some (y.endedAt.getD s.now) }) s
  else stripFinish b x s

/-- The same of the strip that begins at a datum line. -/
def stripDoneAt (b first : Nat) (s : State) : State :=
  match stripAt s b first with
  | some y => stripDone b y s
  | none => s

/-- R236: a standby sends what it measured of each nozzle. -/
def sendMeas (b : Nat) (got : Map MeasNoz) (s : State) : State :=
  if pairMode s && !holder s then
    forAll ((got.map (fun q => q.1 / 65536)).eraseDups) (fun p s =>
      pairSend (.meas b p ((got.filter (fun q => q.1 / 65536 == p)).map (fun q =>
        { nozzle := q.1 % 65536, integral := q.2.integral, e := q.2.e, n := q.2.n, excluded := q.2.excluded }))) s) s
  else s

/-- What a port holds of a strip. -/
def stripMeas (s : State) (c b first : Nat) : StripMeas :=
  match (s.cam c).strips.get? b with
  | some m => if m.first = first then m else { first := first, map := none, lines := [], gen := 0 }
  | none => { first := first, map := none, lines := [], gen := 0 }

/-- R230, R231, R235: port `c` has seen the whole strip. -/
def stripEnd (c b : Nat) (x : Strip) (s : State) : State :=
  let m := stripMeas s c b x.first
  let mine := (targetNozzles s b x).filter (fun q => measPort s (headCol0 s q.1 + q.2) == some c)
  let raw := mine.foldl (fun (acc : Map MeasNoz) q => acc.set (q.1 * 65536 + q.2) (measNozzle s b c x m q.1 q.2)) []
  let r := register c (s.bo b 0x6215 x.plane) m raw s
  let s := r.2.modCam c (fun y => { y with strips := y.strips.erase b })
  let s := modStrip b x.first (fun y => { y with
    ended := y.ended ++ [c], got := r.1.foldl (fun (acc : Map MeasNoz) q => acc.set q.1 q.2) y.got }) s
  stripDoneAt b x.first (sendMeas b r.1 s)

/-- R226, R229: a line that images strip line `j` is kept; the first one of the white band latches the map. -/
def keepLine (c b : Nat) (x : Strip) (d : Int) (l : VisLine) (s : State) : State :=
  let m := stripMeas s c b x.first
  let latch := m.map.isNone && decide (d < (x.first : Int) + 8)
  let m := if latch then { m with map := some (camMap s c), gen := (s.cam c).regGen } else m
  s.modCam c (fun y => { y with strips := y.strips.set b { m with lines := m.lines ++ [(d, l)] } })

/-- R229, R235: a vision line of port `c` that images datum line `d`, and a strip. -/
def measureStrip (c b : Nat) (d : Int) (l : VisLine) (x : Strip) (s : State) : State :=
  if x.ended.contains c then stripDoneAt b x.first s
  else if (x.first : Int) + (x.length : Int) ≤ d then stripEnd c b x s
  else if (x.first : Int) ≤ d then keepLine c b x d l s
  else s

/-- R229, R235: a vision line of port `c` and the strips of every bar. -/
def measureLine (c : Nat) (l : VisLine) (s : State) : State :=
  if l.uncertain then s
  else
    forAll s.barsWithCols (fun b s =>
      forAll ((s.bar b).scan.strips.filter (fun x => !x.abandoned && !x.measured)) (measureStrip c b (imagedLine l.pos) l) s) s

/-- R235: port `c` abandons a strip. -/
def stripGone (c b : Nat) (x : Strip) (s : State) : State :=
  let s := if x.gone.isEmpty then s.bumpB b 0x6222 0 else s
  let s := (modStrip b x.first (fun y => { y with ended := y.ended ++ [c], gone := y.gone ++ [c] }) s).modCam c
    (fun y => { y with strips := y.strips.erase b })
  let s := postB .stripAbandoned b (pageAfterStrip s b x) 0 (leBytes 1 x.plane ++ leBytes 1 x.rowSet ++ leBytes 1 c) s
  stripDoneAt b x.first s

/-- R235: port `c` abandons every strip that it still measures. -/
def stripsGone (c : Nat) (s : State) : State :=
  forAll s.barsWithCols (fun b s =>
    forAll ((s.bar b).scan.strips.filter (fun x =>
      !x.abandoned && !x.measured && !x.ended.contains c && (stripPorts s x).contains c && decide (x.first ≤ s.trig.line)))
      (fun x s => stripGone c b x s) s) s

/-! ### Measurements of the partner (R236) -/

/-- The strip that a record of head port `p` belongs to: the bar's last one of its plane and row set that has reached the web. -/
def recordStrip (s : State) (b p : Nat) : Option Strip :=
  ((s.bar b).scan.strips.filter (fun x => !x.abandoned && x.plane == headPlane s p && x.rowSet == headSet s p &&
    decide (x.first ≤ s.trig.line))).getLast?

/-- R236: the nozzles of a record that this unit has not measured itself, put beside what a strip has. -/
def putPeer (p : Nat) (own : Map MeasNoz) (items : List MeasItem) (m : Map MeasNoz) : Map MeasNoz :=
  (items.filter (fun i => !((own.get? (p * 65536 + i.nozzle)).map (fun q => q.own)).getD false)).foldl (fun acc i =>
    acc.set (p * 65536 + i.nozzle)
      { integral := i.integral, e := i.e, n := i.n, excluded := i.excluded, own := false }) m

/-- R236: the standby's measurements of head port `p`: this unit's own ones count first. A strip already judged, or one that no
port of this unit measures, takes them as they come. -/
def takeMeas (b p : Nat) (items : List MeasItem) (s : State) : State :=
  match recordStrip s b p with
  | none => s
  | some x =>
    let s := modStrip b x.first (fun y => { y with got := putPeer p x.got items y.got }) s
    let ps := stripPorts s x
    if x.measured || ps.all (fun c => x.gone.contains c) then
      (applyStrip b { x with got := putPeer p x.got items [] } (refIntegral s b { x with got := putPeer p x.got items x.got })
        false s).2.2
    else stripDoneAt b x.first s

end Sys2Proof.Machine
end

