-- ==== Sys2Proof/Machine/Camera.lean ====
section
/-!
DEFINITION. Camera commands (R211 to R227, R235): packets, trigger and light pulses, abandoned strips, and the writes of REG_OFFSET,
REG_SCALE, STRIP_REQ and SAT_CLEAR.
-/
namespace Sys2Proof.Machine
open Sys2Proof

/-! ### Lines through the pipeline -/

/-- R218, R224, R225, R229: a vision line is emitted. -/
def emitVision (c : Nat) (l : VisLine) (s : State) : State :=
  let s := measureLine c l (putOutputs c l (postSaturation c l s))
  let r := focusLine c l (profileLine c l s)
  if r.1 then focusLatched c r.2 else r.2

/-- R218: line `y` is emitted, or has no output line when it is missing; R220: the display block ends with line 4k + 3. -/
def emitLine (c y : Nat) (s : State) : State :=
  let s := match (s.cam c).window.find? (fun l => l.index == y) with
    | some l => if l.present then emitVision c (visionLine s c l) s else s
    | none => s
  let s := if y % 4 = 3 then flushBlock c s else s
  s.modCam c (fun x => { x with nextOut := y + 1 })

/-- Emit every line below `n`. -/
def emitTo (c n : Nat) : Nat → State → State
  | 0, s => s
  | fuel + 1, s => if (s.cam c).nextOut < n then emitTo c n fuel (emitLine c (s.cam c).nextOut s) else s

/-- R217, R218: an input line, present or missing, enters the window; line y is emitted when line y + 2 has come. -/
def pushLine (c : Nat) (l : CamLine) (s : State) : State :=
  let s := s.modCam c (fun x => { x with
    index := l.index + 1, window := (x.window ++ [l]).drop (x.window.length - 11) })
  emitTo c (l.index - 1) (l.index + 1) s

/-- R218: FE: the lines that still wait are emitted; in free run the frame's last display block ends (R220). -/
def flushFrame (c : Nat) (s : State) : State :=
  let s := emitTo c (s.cam c).index ((s.cam c).index + 1) s
  if camTriggered s c then s else flushBlock c s

/-- R219: what a line's saturated samples leave. -/
def noteSaturation (c : Nat) (xs : List Nat) (s : State) : State :=
  let hit := (List.range xs.length).filter (fun x => saturated s c (xs.getD x 0))
  if hit.isEmpty then s
  else (s.bump 0x6017 c).modCam c (fun q => { q with
    satAt := some s.now, satMap := hit.foldl (fun (m : Map Bool) x => m.set x true) q.satMap })

/-- The line that an arrival leaves: its place, and its samples when it is whole. -/
def camLine (s : State) (c : Nat) (samples : Option (List Nat)) (i : Instant) : CamLine :=
  { index := (s.cam c).index, present := samples.isSome, samples := samples.getD [], time := i.time
    pos := i.pos - (s.dv 0x6009 c : Int), uncertain := i.uncertain, axisMoving := i.axisMoving }

/-- R223: a line is dropped while back-pressure holds (R11), or when it comes faster than the pipeline takes the port's input. -/
def lineDropped (s : State) (c : Nat) : Bool :=
  backPressure s ||
  (match (s.cam c).lastIn with
   | some u => decide (18 * (s.now - u) < 8 * lineWords s c)
   | none => false)

/-- R212, R219, R223: a line that has its place on the line scale; a bad one is missing. -/
def takeLine (c : Nat) (good : Bool) (payload : List Byte) (i : Instant) (s : State) : State :=
  let dropped := lineDropped s c
  let s := s.modCam c (fun x => { x with lastIn := some s.now })
  if !good then pushLine c (camLine s c none i) s
  else if dropped then camLost c 4 1 (pushLine c (camLine s c none i) (s.bump 0x6011 c))
  else
    let xs := samplesOf s c payload
    let s := (noteSaturation c xs (s.count64 0x6010 c 1)).modCam c (fun x => { x with lineAt := some s.now })
    pushLine c (camLine s c (some xs) i) s

/-- R212: a line whose CRC or word count is wrong is counted. -/
def countBad (c : Nat) (good : Bool) (s : State) : State := if good then s else camLost c 1 1 (s.bump 0x6013 c)

/-- R215, R216: a long packet of the selected channel and data type. A bad line is paired as a good one is (DEDUCED, assumption log
141). -/
def imagePacket (c : Nat) (good : Bool) (payload : List Byte) (s : State) : State :=
  let s := countBad c good s
  if camTriggered s c then
    let s := dropPulses c s
    match pairPulse s c with
    | some q => takeLine c good payload q.inst (s.modCam c (fun x => { x with pulses := x.pulses.drop 1 }))
    | none => camLost c 3 1 (s.bump 0x6016 c)
  else takeLine c good payload (instantOf s c (s.now - s.dv 0x6008 c)) s

/-- Any packet is HS traffic; above 1.5 Gbit/s the camera has sent the skew calibration before it (Table 09-1). -/
def camTraffic (c : Nat) (s : State) : State :=
  let s := camJudge c s
  camJudge c (s.modCam c (fun x => { x with hsAt := some s.now, deskewed := x.deskewed || decide (1500 < s.dv 0x6002 c) }))

/-- The selected virtual channel. -/
def camVc (s : State) (c : Nat) : Nat := bitsN (s.dv 0x6000 c) 7 4

/-- CSI_LONG_PACKET (R211 to R224, R229 to R236). -/
def execCsiLongPacket (dt : Nat) (cam : Fin 4) (vc : Fin 16) (dtype : BitVec 6) (wc : Nat) (hdr : HdrErr) (crcOk : Bool)
    (payload : List Byte) (s : State) : Host.Outcome State Fault Refusal :=
  run dt s (fun s =>
    if camOn s cam then
      let s := camTraffic cam s
      let raw := if camRaw12 s cam then 0x2C else 0x2B
      if hdr = .many then camLost cam 1 1 (s.bump 0x6013 cam)
      else if vc.val = camVc s cam ∧ dtype.toNat = raw then
        imagePacket cam (crcOk && wc == lineWords s cam && payload.length == wc) payload s
      else if vc.val = camVc s cam ∧ dtype.toNat = 0x12 then s
      else s.bump 0x6014 cam
    else s)

/-- R217, R218: FS begins a frame in free run. -/
def frameStart (c : Nat) (s : State) : State :=
  if camTriggered s c then s
  else s.modCam c (fun x => { x with index := 0, window := [], nextOut := 0, block := [] })

/-- CSI_SHORT_PACKET (R211, R212, R217, R218). -/
def execCsiShortPacket (dt : Nat) (cam : Fin 4) (vc : Fin 16) (dtype : BitVec 6) (hdr : HdrErr) (s : State) :
    Host.Outcome State Fault Refusal :=
  run dt s (fun s =>
    if camOn s cam then
      let s := camTraffic cam s
      if hdr = .many then s.bump 0x6013 cam
      else if vc.val = camVc s cam ∧ dtype.toNat < 4 then
        (if dtype.toNat = 0 then frameStart cam s else if dtype.toNat = 1 then flushFrame cam s else s)
      else s.bump 0x6014 cam
    else s)

/-! ### Pulses (R214) -/

/-- R214: the end of an asserted pulse that a new one of `width` ns extends. -/
def pulseEnd (now width : Nat) (old : Option Nat) : Option Nat := some (max (old.getD 0) (now + width))

/-- R214: start or extend a pulse. -/
def startPulse (c : Nat) (light : Bool) (width : Nat) (s : State) : State :=
  if width = 0 then s
  else (s.modCam c (fun x => if light then { x with lightUntil := pulseEnd s.now width x.lightUntil }
    else { x with trigUntil := pulseEnd s.now width x.trigUntil })).emit (.camPulse c light width)

/-- R214: an output is held inactive; a pulse still asserted ends. -/
def holdOutput (c : Nat) (light : Bool) (s : State) : State :=
  if (if light then (s.cam c).lightUntil else (s.cam c).trigUntil).isSome then
    (s.modCam c (fun x => if light then { x with lightUntil := none } else { x with trigUntil := none })).emit (.camPulse c light 0)
  else s

/-- 6003 TRIG_MODE: 0 holds both outputs inactive; 6007 LIGHT_WIDTH: 0 holds CPn_LIGHT inactive (R214). -/
def pulseEffect (light : Bool) : Effect := andThen plainEffect (fun _ c s =>
  if light then (if s.dv 0x6007 c = 0 then holdOutput c true s else s)
  else if s.dv 0x6003 c = 0 then holdOutput c true (holdOutput c false s)
  else s)

/-- CAM_TRIG_START (R214, R216). -/
def execCamTrigStart (dt : Nat) (cam : Fin 4) (s : State) : Host.Outcome State Fault Refusal :=
  run dt s (fun s =>
    match (s.cam cam).dueTrig with
    | t :: rest =>
      if s.now < t then s
      else
        let s := s.modCam cam (fun x => { x with dueTrig := rest })
        if s.trig.en && camOn s cam && camTriggered s cam then
          let i := instantOf s cam s.now
          let s := s.modCam cam (fun x => { x with pulses := x.pulses ++ [{ start := s.now, inst := i }] })
          startPulse cam true (s.dv 0x6007 cam) (startPulse cam false (s.dv 0x6006 cam) s)
        else s
    | [] => s)

/-- CAM_PULSE_END (R214). -/
def execCamPulseEnd (dt : Nat) (cam : Fin 4) (light : Bool) (s : State) : Host.Outcome State Fault Refusal :=
  run dt s (fun s =>
    match (if light then (s.cam cam).lightUntil else (s.cam cam).trigUntil) with
    | some t =>
      if t ≤ s.now then s.modCam cam (fun x => if light then { x with lightUntil := none } else { x with trigUntil := none })
      else s
    | none => s)

/-- STRIP_ABANDONED (R235): the port is disabled, unpowered, or has received no line for 100 ms. -/
def execStripAbandoned (dt : Nat) (cam : Fin 4) (s : State) : Host.Outcome State Fault Refusal :=
  run dt s (fun s =>
    let quiet := match (s.cam cam).lineAt with
      | some t => decide (t + 100 * Config.milli ≤ s.now)
      | none => decide (100 * Config.milli ≤ s.now)
    if !camOn s cam || quiet then stripsGone cam (camJudge cam s) else s)

/-! ### Writes -/

/-- 6105 REG_OFFSET, 6106 REG_SCALE (R226). -/
def regEffect : Effect := fun row _ c w s =>
  (stOK, ((s.setDv row.idx c w.toNat).setDv 0x6108 c 0).modCam c (fun x => { x with regLost := false, regGen := x.regGen + 1 }))

/-- REG_OFFSET_WRITE (R226). -/
def execRegOffsetWrite (dt : Nat) (door : Door) (scale : Bool) (sub : Fin 4) (val : Slot) (s : State) :
    Host.Outcome State Fault Refusal :=
  run dt s (writeThrough door (if scale then 0x6106 else 0x6105) sub val regEffect)

/-- 6201.00 STRIP_REQ (R227). -/
def stripReqEffect : Effect := onBar (fun b _ w s =>
  let p := bitsN w.toNat 3 1
  let rs := bitsN w.toNat 0 0
  if !bitN w.toNat 7 then (stOK, s)
  else if s.inUse p && decide (rs < s.rowSets p) then
    (stOK, s.modScan b (fun c => { c with stripPending := some (p, rs, false) }))
  else (stRange, s))

/-- STRIP_REQ (R227). -/
def execStripReq (dt : Nat) (door : Door) (val : Slot) (s : State) : Host.Outcome State Fault Refusal :=
  run dt s (writeThrough door 0x6201 0 val stripReqEffect)

/-- 6104 SAT_CLEAR (R219). -/
def satClearEffect : Effect := onDev (fun c w s =>
  (stOK, if w = 1 then s.modCam c (fun x => { x with satMap := [] }) else s))

/-- SAT_CLEAR (R219). -/
def execSatClear (dt : Nat) (door : Door) (sub : Fin 4) (val : Slot) (s : State) : Host.Outcome State Fault Refusal :=
  run dt s (writeThrough door 0x6104 sub val satClearEffect)

end Sys2Proof.Machine
end

