-- ==== Sys2Proof/Machine/Domains.lean ====
section
/-!
DEFINITION. Switched power domains (R334, R335, Table 15-1) and the line rate that waits for VDD_CORE (R343, R344).
-/
namespace Sys2Proof.Machine
open Sys2Proof

/-! ### Canaries and the enforced rate -/

/-- Table 15-4: the quantity required of a canary, of kind 0 geyser, 1 inflate, 2 octet, at a line rate. -/
def canaryNeed (s : State) (kind i rate : Nat) : Nat :=
  match kind with
  | 0 => ((List.range 4).map (fun k => s.place.load.getD (4 * i + k) 0)).foldl max 0 * rate
  | 1 => bytesPerLine s * rate / max 1 (popcount (s.dv 0x2100 0))
  | _ => rate

/-- The domain of Table 15-1 beside which a canary stands. -/
def canaryDomain (kind i : Nat) : Nat :=
  match kind with
  | 0 => i
  | 1 => 8 + i
  | _ => 16 + i

/-- The canaries: kind and place. -/
def canaryList : List (Nat × Nat) :=
  (List.range 8).map (fun i => (0, i)) ++ (List.range 4).map (fun i => (1, i)) ++ (List.range 8).map (fun i => (2, i))

/-- R343: the canaries that are not ignored at a line rate. -/
def canariesIn (s : State) (rate : Nat) : List (Nat × Nat) :=
  canaryList.filter (fun c => s.power.domains.getD (canaryDomain c.1 c.2) 0 == 2 && decide (0 < canaryNeed s c.1 c.2 rate))

/-- R343: the margin of a canary at a rate in 0.1 %; none until its capacity has been counted. -/
def canaryMargin (s : State) (rate : Nat) (c : Nat × Nat) : Option Int :=
  (s.power.caps.get? (c.1 * 16 + c.2)).map (fun cap =>
    let q : Int := canaryNeed s c.1 c.2 rate
    (1000 * ((cap : Int) - q)) / q)

/-- R344: every canary shows at least 12.0 % at the rate. -/
def rateReady (s : State) (rate : Nat) : Bool :=
  (canariesIn s rate).all (fun c => match canaryMargin s rate c with | some m => decide (120 ≤ m) | none => false)

/-- R13, R344: the rate that the configuration calls for. -/
def rateWanted (s : State) : Nat := min (s.dv 0x4003 2) (lineLimit s)

/-- R344: a rate that waits takes effect once every canary allows it. -/
def rateSettle (s : State) : State :=
  match s.power.enforced with
  | some e => if rateWanted s ≤ e || rateReady s (rateWanted s) then s.modPower (fun p => { p with enforced := none }) else s
  | none => s

/-- R344: after a change of configuration from a state that enforced `old`: a raise waits, a lower rate applies at once. -/
def rateJudge (old : Nat) (s : State) : State :=
  if old < rateWanted s then rateSettle (s.modPower (fun p => { p with enforced := some old })) else rateSettle s

/-- A change of configuration, judged by R344. -/
def withRate (f : State → State) (s : State) : State := rateJudge (lineEnforced s) (f s)

/-! ### Domains -/

/-- Table 15-1, R335: is the domain to be off? A memory controller is needed while a subchannel trains too. -/
def domainOff (s : State) (d : Nat) : Bool :=
  if d < 12 then s.dv 0xB002 d == 1
  else if d = 13 ∨ d = 14 then !camEn s (2 * (d - 13)) && !camEn s (2 * (d - 13) + 1)
  else if d = 15 then (List.range 4).all (fun c => !camEn s c)
  else if 16 ≤ d ∧ d < 24 then (List.range 8).all (fun i => !headEn s (8 * (d - 16) + i))
  else if 24 ≤ d ∧ d < 28 then [2 * (d - 24), 2 * (d - 24) + 1].all (fun k => (s.sch k).state == 0 || (s.sch k).state == 4)
  else if d = 29 then s.dv 0x8000 0 == 0
  else false

/-- Is the domain at work, so that it is not to idle? -/
def domainBusy (s : State) (d : Nat) : Bool :=
  if d < 8 then (List.range 4).any (fun k => decide (0 < s.place.load.getD (4 * d + k) 0))
  else if d < 12 then (List.range 8).any (fun k => (s.engine (8 * (d - 8) + k)).job.isSome)
  else if d = 12 then !s.deflaters.isEmpty
  else true

/-- The head lanes of an octet follow its domain (Table 07-9). -/
def domainLanes (d : Nat) (s : State) : State :=
  if 16 ≤ d ∧ d < 24 then forAll (List.range 8) (fun i s => laneEnable (8 * (d - 16) + i) s) s else s

/-- R334: a domain enters a state; DOMAIN_CHANGE is posted for transitions to and from OFF. -/
def domainSet (d st : Nat) (forced : Bool) (s : State) : State :=
  let old := s.power.domains.getD d 0
  if old = st then s
  else
    let s := s.modPower (fun p => { p with domains := p.domains.set d st, idleSince := p.idleSince.set d s.now })
    let s := domainLanes d s
    if old = 0 ∨ st = 0 then postD .domainChange (b2n forced) (leBytes 1 d ++ leBytes 1 old ++ leBytes 1 st) s else s

/-- The domains of Table 15-1. -/
def domainCount : Nat := 36

/-- R334: every domain whose condition for OFF holds goes off. -/
def domainsFollow (s : State) : State :=
  forAll (List.range domainCount) (fun d s => if domainOff s d then domainSet d 0 false s else s) s

/-- Does power switching run in the present device state? -/
def domainsLive (s : State) : Bool := s.devState != .doze && s.devState != .halted && s.devState != .boot

/-- DOMAIN_IDLE_TIMEOUT (R334, Table 15-1): a domain without work goes idle. -/
def execDomainIdleTimeout (dt : Nat) (d : Fin 36) (s : State) : Host.Outcome State Fault Refusal :=
  run dt s (fun s =>
    let since := s.power.idleSince.getD d 0
    let due := decide (d.val < 8) || decide (since + s.dv 0xB003 0 * Config.micro ≤ s.now)
    if domainsLive s && s.power.domains.getD d 0 == 2 && !domainBusy s d && due then domainSet d 1 false s else s)

/-- DOMAIN_RUN_READY (R334, R7): a domain that is wanted has come to RUN. -/
def execDomainRunReady (dt : Nat) (d : Fin 36) (s : State) : Host.Outcome State Fault Refusal :=
  run dt s (fun s =>
    let st := s.power.domains.getD d 0
    if domainsLive s && !domainOff s d && (st == 0 || (st == 1 && domainBusy s d)) then domainSet d 2 false s else s)

/-! ### FORCE_OFF -/

/-- R335: the service bits of a domain's geysers or engines, but for retired channels. -/
def domainService (d : Nat) (on : Bool) (s : State) : State :=
  if d < 8 then
    forAll (List.range 4) (fun k s => s.setBit 0x3010 0 (4 * d + k) (on && !isRetired s 3 (4 * d + k))) s
  else
    forAll (List.range 8) (fun k s => s.setBit 0x2100 0 (8 * (d - 8) + k) (on && !isRetired s 4 (8 * (d - 8) + k))) s

/-- The wagon in hand of an engine that loses its power is stored again for another engine. -/
def engineDark (e : Nat) (s : State) : State :=
  match engineWagon s e with
  | some (b, n, key, w) =>
    freeEngine e (if w.phase = .inflating then modSlot b n key (fun x => { x with phase := .stored, attempts := x.attempts - 1 }) s else s)
  | none => freeEngine e s

/-- R335: FORCE_OFF. -/
def forceOff (d : Nat) (s : State) : State :=
  if s.dv 0xB002 d = 1 then s
  else
    withRate (fun s =>
      let s := domainService d false (s.setDv 0xB002 d 1)
      let s := if 8 ≤ d then forAll (List.range 8) (fun k s => engineDark (8 * (d - 8) + k) s) s else s
      placeRun 1 false (domainSet d 0 true s)) s

/-- R335: AUTO. -/
def domainAuto (d : Nat) (s : State) : State :=
  if s.dv 0xB002 d = 1 then withRate (fun s => placeRun 4 false (domainService d true (s.setDv 0xB002 d 0))) s else s

/-- B002 DOMAIN_CTRL (R335). -/
def domainCtrl : Effect := onDev (fun d w s =>
  if w = 0 then (stOK, domainAuto d s)
  else if 12 ≤ d then (stRange, s)
  else if s.devState == .config || s.devState == .ready then (stOK, forceOff d s)
  else (stState, s))

/-- FORCE_OFF (R335). -/
def execForceOff (dt : Nat) (door : Door) (d : Fin 36) (s : State) : Host.Outcome State Fault Refusal :=
  run dt s (writeThrough door 0xB002 d 1 domainCtrl)

/-- DOMAIN_AUTO (R335). -/
def execDomainAuto (dt : Nat) (door : Door) (d : Fin 36) (s : State) : Host.Outcome State Fault Refusal :=
  run dt s (writeThrough door 0xB002 d 0 domainCtrl)

end Sys2Proof.Machine
end

