-- ==== Sys2Proof/Machine/Memory.lean ====
section
/-!
DEFINITION. Memory (R244 to R264): the bytes of a subchannel, the controller's queues and its choice, refresh, drift, scrub, errors,
subchannel faults and retirement, SRAM errors, and the writes of quotas and PLACE_FREEZE.
-/
namespace Sys2Proof.Machine
open Sys2Proof

/-! ### Bytes -/

/-- What an address reads as: 0 when nothing has written it (assumption log 11). -/
def memRead : List Host.Cell → Nat → Byte
  | [], _ => 0
  | (k, v) :: t, a => if a = k then v else memRead t a

/-- Write a byte. The list keeps rising addresses and lists no byte 0. -/
def memWrite : List Host.Cell → Nat → Byte → List Host.Cell
  | [], a, b => if b = 0 then [] else [(a, b)]
  | (k, v) :: t, a, b =>
    if a < k then (if b = 0 then (k, v) :: t else (a, b) :: (k, v) :: t)
    else if a = k then (if b = 0 then t else (a, b) :: t)
    else (k, v) :: memWrite t a b

/-- Write bytes from an address on. -/
def memWrites (m : List Host.Cell) (a : Nat) : List Byte → List Host.Cell
  | [] => m
  | b :: t => memWrites (memWrite m a b) (a + 1) t

/-- Every address of `m` lies above `k`, and no byte is 0. -/
def Memory.above (k : Nat) : List Host.Cell → Bool
  | [] => true
  | (a, b) :: t => decide (k < a) && b != 0 && Memory.above a t

/-- The canonical form: addresses strictly rising, no entry equal to what an unlisted address reads as. -/
def Memory.wf : List Host.Cell → Bool
  | [] => true
  | (a, b) :: t => b != 0 && Memory.above a t

/-- `n` bytes from an address on. -/
def memBytes (m : List Host.Cell) (a n : Nat) : List Byte := (List.range n).map (fun i => memRead m (a + i))

/-! ### Queues (R253, R255) -/

/-- The byte that a write entry gives for an address, the latest one. -/
def McEntry.byte? (e : McEntry) (a : Nat) : Option Byte :=
  (e.segs.reverse.find? (fun g => decide (g.1 ≤ a) && decide (a < g.1 + g.2.length))).map (fun g => byteAt g.2 (a - g.1))

/-- R255: the entry shares a 64-byte granule with the bytes from `a` on. -/
def McEntry.shares (e : McEntry) (a n : Nat) : Bool :=
  e.segs.any (fun g => decide (g.1 / 64 ≤ (a + n - 1) / 64) && decide (a / 64 ≤ (g.1 + g.2.length - 1) / 64))

/-- The entry writes a byte of the range. -/
def McEntry.writes (e : McEntry) (a n : Nat) : Bool :=
  e.segs.any (fun g => decide (g.1 < a + n) && decide (a < g.1 + g.2.length))

/-- R255: the bytes of a read that one queued write covers fully. -/
def coveredBy (e : McEntry) (a n : Nat) : Option (List Byte) :=
  let bs := (List.range n).map (fun i => e.byte? (a + i))
  if bs.all (fun b => b.isSome) then some (bs.map (fun b => b.getD 0)) else none

/-- Is the request best-effort? -/
def mcBest (r : McReq) : Bool := r.cls == .bestRead || r.cls == .bestWrite

/-- A new entry. -/
def mcEntry (x : Subch) (r : McReq) : McEntry := { req := r, order := x.accepted, segs := [(r.addr, r.data)], passed := 0 }

/-- R255: the queued writes that share a granule with a new write become one entry with it, in the place of the first: later bytes
win. -/
def mergeWrites (r : McReq) : List McEntry → List McEntry
  | [] => []
  | e :: t =>
    let n := r.data.length
    if e.shares r.addr n then
      { e with segs := e.segs ++ (t.filter (fun f => f.shares r.addr n)).flatMap (fun f => f.segs) ++ [(r.addr, r.data)] } ::
        t.filter (fun f => !f.shares r.addr n)
    else e :: mergeWrites r t

/-- R255: put a write into the queue: it merges with the queued writes that share a granule. -/
def putWrite (x : Subch) (r : McReq) : Subch :=
  if x.writeQ.any (fun e => e.shares r.addr r.data.length) then { x with writeQ := mergeWrites r x.writeQ }
  else { x with writeQ := x.writeQ ++ [mcEntry x r], accepted := x.accepted + 1 }

/-- R253: is an entry of the queue free for the request? 16 write entries are reserved for delay-store writes. -/
def mcFree (x : Subch) (r : McReq) : Bool :=
  match r.cls with
  | .dray | .bestRead => decide (x.readQ.length < 64)
  | .delayWrite => decide (x.writeQ.length < 64)
  | .bestWrite => decide ((x.writeQ.filter (fun e => e.req.cls == .bestWrite)).length < 48) && decide (x.writeQ.length < 64)

/-- Is the request a read? -/
def mcIsRead (r : McReq) : Bool := r.cls == .dray || r.cls == .bestRead

/-- R7: a request finds no free entry and is held. -/
def mcHold (k : Nat) (r : McReq) (s : State) : State := s.modSch k (fun x => { x with held := x.held ++ [r] })

/-- R253, R255: a request arrives at subchannel `k`; one that finds no free entry is held by its requester (R7). -/
def mcArrive (k : Nat) (r : McReq) (s : State) : State :=
  let x := s.sch k
  if mcIsRead r then
    match x.writeQ.findSome? (fun e => coveredBy e r.addr r.len) with
    | some bs => s.emit (.mcData k r.addr bs)
    | none =>
      if mcFree x r then
        s.modSch k (fun x => { x with readQ := x.readQ ++ [mcEntry x r], accepted := x.accepted + 1 })
      else mcHold k r s
  else if mcFree x r || x.writeQ.any (fun e => e.shares r.addr r.data.length) then s.modSch k (fun x => putWrite x r)
  else mcHold k r s

/-- R252, R260: does subchannel `k` hold the request's stripe? A delay-store line is written under the present stripe map and read
under its own; the rest is striped by address, a migrating subchannel's stripes being read from it until they are copied. -/
def mcMine (s : State) (k : Nat) (r : McReq) : Bool :=
  let part (g : Nat) := stripeOf (stripeList s g) r.port r.line r.part == k
  match r.cls with
  | .delayWrite => part s.stripeGen
  | .dray => (s.stripeGen :: (servedBars s r.port).flatMap (fun b => (s.bar b).pages.flatMap (fun pg =>
      match pg.flip with
      | some f => if f ≤ r.line ∧ r.line < f + pg.lines then lineGens s b pg r.port (r.line - f) else []
      | none => []))).any part
  | .bestWrite => stripeHome s r.addr == k
  | .bestRead => stripeHome s r.addr == k || (s.sch k).state == 3

/-- R7: the requests that were held try again, the oldest first. -/
def mcRetry (k : Nat) (s : State) : State :=
  forAll (s.sch k).held (mcArrive k) (s.modSch k (fun x => { x with held := [] }))

/-! ### The choice (R253) -/

/-- R257: does a dray read belong to a dray in panic? -/
def drayPanics (s : State) (e : McEntry) : Bool := e.req.cls == .dray && (s.dray (drayOf e.req.port)).panic

/-- R257: panic at a subchannel: a dray in panic has a read queued in it. -/
def mcPanic (s : State) (k : Nat) : Bool := (s.sch k).readQ.any (drayPanics s)

/-- R253: draining starts and ends. -/
def drainJudge (k : Nat) (s : State) : State :=
  let n := (s.sch k).writeQ.length
  let start := if mcPanic s k then n == 64 else decide (s.dv 0x7205 0 ≤ n)
  s.modSch k (fun x => { x with draining := if n ≤ s.dv 0x7205 1 then false else x.draining || start })

/-- R255: a read waits for a write accepted before it that covers it partly. -/
def mcReady (x : Subch) (e : McEntry) : Bool :=
  !x.writeQ.any (fun w => decide (w.order < e.order) && w.writes e.req.addr e.req.len)

/-- A row hit: the bank stands open at the request's row. -/
def rowHit (x : Subch) (e : McEntry) : Bool :=
  match x.banks.get? e.req.bank with
  | some (row, _) => row == e.req.row
  | none => false

/-- The order of acceptance of a list's oldest entry. -/
def oldest : List McEntry → Option McEntry
  | [] => none
  | e :: t => match oldest t with
    | some f => if f.order < e.order then some f else some e
    | none => some e

/-- R253: the oldest of the entries that 16 later row hits have passed: it is passed no more. -/
def passedOver (es : List McEntry) : Option McEntry := oldest (es.filter (fun e => decide (16 ≤ e.passed)))

/-- R253: row hits first, then age. -/
def hitThenAge (x : Subch) (es : List McEntry) : Option McEntry :=
  match oldest (es.filter (rowHit x)) with
  | some e => some e
  | none => oldest es

/-- R253, R257: the dray read that goes next: those of a dray in panic first, the oldest first. -/
def drayChoice (s : State) (x : Subch) : Option McEntry :=
  let es := x.readQ.filter (fun e => e.req.cls == .dray && mcReady x e)
  match oldest (es.filter (drayPanics s)) with
  | some e => some e
  | none => oldest es

/-- R253: the write that goes next: one that 16 row hits have passed, then delay-store writes. -/
def writeChoice (x : Subch) : Option McEntry :=
  let d := x.writeQ.filter (fun e => e.req.cls == .delayWrite)
  match passedOver x.writeQ with
  | some e => some e
  | none => hitThenAge x (if d.isEmpty then x.writeQ else d)

/-- R253, R261: the best-effort read that goes next: one that 16 row hits have passed, else by class, then bar deficit, then row
hit, then age. -/
def bestChoice (s : State) (x : Subch) : Option McEntry :=
  let es := x.readQ.filter (fun e => e.req.cls == .bestRead && mcReady x e)
  match passedOver es with
  | some e => some e
  | none =>
    let es := es.filter (fun e => es.all (fun f => decide (e.req.prio ≤ f.req.prio)))
    let d (e : McEntry) := s.deficit.getD e.req.bar.val 0
    hitThenAge x (es.filter (fun e => es.all (fun f => decide (d f ≤ d e))))

/-- R261: bars with best-effort requests pending on any subchannel. -/
def mcPending (s : State) : List Nat :=
  (List.range 16).filter (fun b => s.subch.any (fun q =>
    (q.2.readQ ++ q.2.writeQ).any (fun e => mcBest e.req && e.req.bar.val == b)))

/-- R261, 7110 SERVED_BYTES: the cost of a best-effort grant. -/
def mcCharge (e : McEntry) (n : Nat) (s : State) : State :=
  if mcBest e.req then
    { (s.count64 0x7110 e.req.bar n) with
      deficit := grantDeficit s.deficit 0 16 (mcPending s) (fun a => s.bo a 0x7102 0) n e.req.bar
                   (163800 * (schInService s).length / 8) }
  else s

/-- R254: the bank after an access. -/
def touchBank (s : State) (e : McEntry) (x : Subch) : Subch :=
  { x with banks := if s.dv 0x7204 0 = 0 then x.banks.erase e.req.bank else x.banks.set e.req.bank (e.req.row, s.now) }

/-- R253: older entries of a queue that a row hit passes. -/
def passOver (hit : Bool) (e : McEntry) (q : List McEntry) : List McEntry :=
  (q.filter (fun f => f.order != e.order)).map (fun f => if hit && decide (f.order < e.order) then { f with passed := f.passed + 1 } else f)

/-- Issue a queued read. -/
def issueRead (k : Nat) (e : McEntry) (s : State) : State :=
  let s := mcCharge e e.req.len s
  let x := s.sch k
  let s := s.emit (.mcData k e.req.addr (memBytes x.cells e.req.addr e.req.len))
  s.modSch k (fun x => touchBank s e { x with readQ := passOver (rowHit x e) e x.readQ })

/-- Issue a queued write. -/
def issueWrite (k : Nat) (e : McEntry) (s : State) : State :=
  let s := mcCharge e ((e.segs.map (fun g => g.2.length)).sum) s
  s.modSch k (fun x => touchBank s e { x with
    writeQ := passOver (rowHit x e) e x.writeQ
    wrote := if s.subch.any (fun q => q.2.state == 3) then x.wrote ++ e.segs.map (fun g => (g.1, g.2.length)) else x.wrote
    cells := e.segs.foldl (fun m g => memWrites m g.1 g.2) x.cells })

/-- Issue a refresh: one interval is repaid, and a drift correction is applied (R251, R256). -/
def issueRefresh (k : Nat) (s : State) : State :=
  let s := if mcPanic s k then s.bump 0x7231 k else s
  s.modSch k (fun x => { x with owed := x.owed - 1, drift := false })

/-- R253: choose one command and issue it. -/
def mcIssue (k : Nat) (s : State) : State :=
  let x := s.sch k
  if s.dv 0x7206 0 ≤ x.owed then issueRefresh k s
  else match drayChoice s x with
    | some e => issueRead k e s
    | none =>
      match (if x.draining then writeChoice x else none) with
      | some e => issueWrite k e s
      | none =>
        if 0 < x.owed ∧ mcPanic s k = false then issueRefresh k s
        else match bestChoice s x with
          | some e => issueRead k e s
          | none => match writeChoice x with
            | some e => issueWrite k e s
            | none => s

/-- MC_COMMAND (R252 to R255, R257, R261, R7): requests arrive where their stripes lie, and the controller issues one command. -/
def execMcCommand (dt : Nat) (sub : Fin 8) (arrivals : List McReq) (s : State) : Host.Outcome State Fault Refusal :=
  run dt s (fun s =>
    if (s.sch sub).state = 2 ∨ (s.sch sub).state = 3 then
      let s := drainJudge sub (forAll (arrivals.filter (mcMine s sub)) (mcArrive sub) (mcRetry sub s))
      if (s.sch sub).retraining then s else drainJudge sub (mcRetry sub (mcIssue sub s))
    else s)

/-- BANK_IDLE_CLOSE (R254). -/
def execBankIdleClose (dt : Nat) (sub : Fin 8) (bank : Nat) (s : State) : Host.Outcome State Fault Refusal :=
  run dt s (fun s =>
    match (s.sch sub).banks.get? bank with
    | some (_, t) => if t + s.dv 0x7204 0 ≤ s.now then s.modSch sub (fun x => { x with banks := x.banks.erase bank }) else s
    | none => s)

/-- R256: a refresh interval in ns. -/
def refreshInterval (hot : Bool) : Nat := if hot then 975 else 1950

/-- R256: one more interval is owed. Without panic the refresh owed before has waited its one interval and is issued; under panic it
waits until the maximum is owed. -/
def refreshDue (k : Nat) (hot : Bool) (s : State) : State :=
  let wait := if mcPanic s k then s.dv 0x7206 0 else 1
  let s := s.modSch k (fun x => { x with hot := hot, owed := x.owed + 1, refreshAt := s.now })
  if wait < (s.sch k).owed then issueRefresh k s else s

/-- R256, R257: the refreshes owed are repaid when panic ends. -/
def repayRefresh (k : Nat) (s : State) : State :=
  if mcPanic s k || (s.sch k).owed == 0 then s else s.modSch k (fun x => { x with owed := 0, drift := false })

/-- DRAY_READ_DONE (R151, R152, R256, R257): the oldest read under way completes, which ends the dray's panic. -/
def execDrayReadDone (dt : Nat) (dray : Fin 8) (s : State) : Host.Outcome State Fault Refusal :=
  run dt s (fun s =>
    let was := (s.dray dray).panic
    let s := s.modDray dray (fun d => { d with reading := d.reading.drop 1, panic := false })
    if was then forAll (List.range 8) repayRefresh s else s)

/-- REFRESH_TICK (R256): an interval of 1.95 µs has passed, or half of one while a device of the subchannel is above 85 °C. -/
def execRefreshTick (dt : Nat) (sub : Fin 8) (hot : Bool) (s : State) : Host.Outcome State Fault Refusal :=
  run dt s (fun s =>
    if (s.sch sub).state = 2 ∨ (s.sch sub).state = 3 then
      if (s.sch sub).refreshAt + refreshInterval hot ≤ s.now then refreshDue sub hot s else s
    else s)

/-- R251: DQS drift is tracked every 100 ms; the correction is applied in the next refresh window. -/
def trackDqs (k : Nat) (s : State) : State :=
  if (s.sch k).trackAt + 100 * Config.milli ≤ s.now then s.modSch k (fun x => { x with drift := true, trackAt := s.now }) else s

/-- DQS_TRACK (R251): every subchannel in service takes a correction into its next refresh window. -/
def execDqsTrack (dt : Nat) (s : State) : Host.Outcome State Fault Refusal :=
  run dt s (fun s => forAll (schInService s) trackDqs s)

/-- SCRUB_TICK (R258): the patrol scrub reads the next 64-byte burst. -/
def execScrubTick (dt : Nat) (sub : Fin 8) (s : State) : Host.Outcome State Fault Refusal :=
  run dt s (fun s =>
    if s.dv 0x7207 0 ≠ 0 ∧ (s.sch sub).state = 2 then
      s.modSch sub (fun x => { x with scrub := (x.scrub + 64) % (x.mib * 2 ^ 20) })
    else s)

/-! ### Subchannel faults (R259, R260) -/

/-- R259: the loss of the subchannel would leave fewer than 4 in service, or SYSTEM, CAMERA and DELAY without room. -/
def schNeeded (s : State) (k : Nat) : Bool :=
  let rest := (schInService s).filter (fun j => j != k)
  decide (rest.length < 4) ||
  decide ((rest.map (fun j => (s.sch j).mib)).sum < s.dv 0x7201 0 + s.dv 0x7201 1 + s.dv 0x7201 2)

/-- R259, R260: a fault of a subchannel. -/
def subchFault (k : Nat) (s : State) : State :=
  let full := schNeeded s k
  let r := channelFault 2 k full (s.bump 0x7240 k)
  match r.1 with
  | .retired => placeChanged { r.2.modSch k (fun x => { x with state := 3, retraining := false }) with
      stripeGen := (s.stripeGen + 1) % 256
      place := { r.2.place with maps := r.2.place.maps.set s.stripeGen (schInService s) } }
  | .retry => r.2.modSch k (fun x => { x with retraining := true })
  | .refused =>
    postD .subchRetired 1 (leBytes 1 k ++ leBytes 1 (schInService s).length ++ leBytes 4 (s.dv 0x7105 0))
      (r.2.modSch k (fun x => { x with retraining := true }))

/-- SUBCH_FAULT (R259). -/
def execSubchFault (dt : Nat) (sub : Fin 8) (s : State) : Host.Outcome State Fault Refusal :=
  run dt s (fun s => if (s.sch sub).state = 2 then subchFault sub s else s)

/-- One bar against a changed pool or changed quotas (R247, R248). -/
def quotaTurn (b : Nat) (s : State) : State := resumeIntake b (applyQuota b s)

/-- Every bar's quota against a changed pool or changed quotas (R247, R248). -/
def applyQuotas (s : State) : State := forAll (List.range 16) quotaTurn s

/-- R248, 7105: the pool as the subchannels in service give it, once the regions are laid out; effective quotas follow it while a
subchannel is retired. -/
def shrinkPool (s : State) : State :=
  if s.place.laid then
    let out := (List.range 8).any (fun k => (s.sch k).state == 3 || (s.sch k).state == 4)
    applyQuotas ({ s with place := { s.place with shrunk := out } }.setDv 0x7105 0 (barPool s))
  else s

/-- 7210 TRAIN_RESULT: the measured eyes and Vref are open values; a failing step is not 0. -/
def trainResult (k attempts : Nat) (ok : Bool) (s : State) : State :=
  let (f, s) := s.draw
  let v := f.toNat
  s.setDv 0x7210 k (v % 2 ^ 48 * 2 ^ 16 + attempts % 256 * 256 + (if ok then 0 else 1 + v / 2 ^ 48 % 255))

/-- SUBCH_RETRAIN_DONE (R259, R251): training ends; a failure is a further fault. -/
def execSubchRetrainDone (dt : Nat) (sub : Fin 8) (ok : Bool) (s : State) : Host.Outcome State Fault Refusal :=
  run dt s (fun s =>
    if (s.sch sub).retraining then
      let back := (s.sch sub).returning
      let s := trainResult sub 1 ok (s.modSch sub (fun x => { x with retraining := false, returning := false }))
      if back then
        if ok then shrinkPool (reinstateChan 2 sub (s.modSch sub (fun x => { x with state := 2 })))
        else domainsFollow (s.modSch sub (fun x => { x with state := 4 }))
      else
        let s := s.modSch sub (fun x => { x with state := 2 })
        if ok then s else subchFault sub s
    else s)

/-- R260: the device issues what a subchannel still has queued before it goes. -/
def flushSubch (x : Subch) : Subch :=
  { x with
    readQ := [], writeQ := [], held := [], draining := false
    cells := x.writeQ.foldl (fun m e => e.segs.foldl (fun m g => memWrites m g.1 g.2) m) x.cells }

/-- R260: the bytes of a retired subchannel's stripes as they are copied into subchannel `j`, those written there meanwhile kept. -/
def copyStripes (s : State) (from_ : List Host.Cell) (j : Nat) (x : Subch) : Subch :=
  { x with
    wrote := []
    cells := (from_.filter (fun c => stripeHome s c.1 == j &&
      !x.wrote.any (fun w => decide (w.1 ≤ c.1) && decide (c.1 < w.1 + w.2)))).foldl (fun m c => memWrite m c.1 c.2) x.cells }

/-- R260: every other region's stripes have been copied from a retired subchannel. -/
def copyOut (k : Nat) (s : State) : State :=
  let s := s.modSch k flushSubch
  let cells := (s.sch k).cells
  forAll (schInService s) (fun j s => s.modSch j (copyStripes s cells j)) s

/-- SUBCH_RETIRED (R260, R248): the copying is done, the pool shrinks and the subchannel reads retired. -/
def execSubchRetired (dt : Nat) (sub : Fin 8) (s : State) : Host.Outcome State Fault Refusal :=
  run dt s (fun s =>
    if (s.sch sub).state = 3 then
      let s := domainsFollow (shrinkPool ((copyOut sub s).modSch sub (fun x => { x with state := 4 })))
      postD .subchRetired 0 (leBytes 1 sub ++ leBytes 1 (schInService s).length ++ leBytes 4 (s.dv 0x7105 0)) s
    else s)

/-- 7203 SUBCH_CMD (R251, R360). -/
def subchCommand : Effect := onDev (fun k w s =>
  if w.toNat ≠ 1 ∧ w.toNat ≠ 2 then (stRange, s)
  else if s.devState ≠ .config then (stState, s)
  else if w = 1 then
    if (s.sch k).state = 2 then (stOK, s.modSch k (fun x => { x with state := 1, retraining := true })) else (stOK, s)
  else if (s.sch k).state = 4 then
    (stOK, s.modSch k (fun x => { x with state := 1, retraining := true, returning := true }))
  else (stOK, s))

/-- SUBCH_CMD_RETRAIN (R251). -/
def execSubchCmdRetrain (dt : Nat) (door : Door) (sub : Fin 8) (s : State) : Host.Outcome State Fault Refusal :=
  run dt s (writeThrough door 0x7203 sub 1 subchCommand)

/-- SUBCH_CMD_REINSTATE (R360, R248). -/
def execSubchCmdReinstate (dt : Nat) (door : Door) (sub : Fin 8) (s : State) : Host.Outcome State Fault Refusal :=
  run dt s (writeThrough door 0x7203 sub 2 subchCommand)

/-! ### Errors (R258, Table 10-7) -/

/-- The region of an error, in the order of Table 10-7. -/
def eccRegion : EccWhere → Nat
  | .dramWagon .. => 0
  | .dramCaldera .. => 1
  | .dramDelay .. => 2
  | .dramCamera .. => 3
  | .dramMoaBuffer .. => 4
  | .dramSystem => 5

/-- Table 10-7: the DRAM copy of a wagon whose rows have all been released is lost: it fails with DRAM_UNCORR, and no line of it is
affected (R72, R73; DEDUCED, assumption log 123). -/
def copyLost (b n : Nat) (w : Wagon) (s : State) : State := wagonFail b n { w with encrypted := false, hasCrc := false } 0x11 s

/-- Table 10-7: an uncorrectable error in a stored wagon of a page. -/
def wagonEcc (b n key : Nat) (s : State) : State :=
  match (s.page? b n).bind (fun p => p.slots.get? key) with
  | none => s
  | some w =>
    match w.phase with
    | .stored | .inflating =>
      let s := forAll (List.range 32) (fun e s => if (s.engine e).job = some (b, n, key) then freeEngine e s else s) s
      resumeIntake b (settle b n (wagonFail b n w 0x11 s))
    | .done => resumeIntake b (settle b n (copyLost b n w s))
    | _ => s

/-- Table 10-7: a printed page held in the caldera is dropped. -/
def calderaEcc (b n : Nat) (s : State) : State :=
  match (retainedPages s b).find? (fun p => p.num == n) with
  | some p => applyQuota b (evictPage b p s)
  | none => s

/-- Table 10-7: the camera line of a ring at an address (assumption log 40) is treated as missing. -/
def ringEcc (c ring addr : Nat) (s : State) : State :=
  let slot := addr / ringLine (camWidth s c) ring % s.dv 0x6113 0
  s.modCam c (fun x =>
    match ring with
    | 0 => { x with vision := x.vision.erase slot }
    | 1 => { x with display := x.display.erase slot }
    | _ => { x with coding := x.coding.erase slot })

/-- The MOA block that holds a buffer has an error in it (R48). -/
def Session.spoil (buf : Nat) (x : Session) : Session :=
  { x with block := x.block.map (fun k => if k.toObject && k.buf == buf then { k with bad := true } else k) }

/-- Table 10-7: what an uncorrectable DRAM error leads to. -/
def dramUncorr (addr : Nat) (loc : EccWhere) (s : State) : State :=
  match loc with
  | .dramWagon b n pl sp band => wagonEcc b n.toNat (slotKey pl sp band) s
  | .dramCaldera b n => calderaEcc b n.toNat s
  | .dramDelay p line => s.modPort p (fun x => { x with lostLines := x.lostLines ++ [line] })
  | .dramCamera c ring => ringEcc c ring addr s
  | .dramMoaBuffer buf => s.modMoa (fun m => { m with sessions := m.sessions.mapVals (Session.spoil buf) })
  | .dramSystem => deviceFault 1 s

/-- R258, R259: a DRAM error of a subchannel; one that has been retired already does not fault again. -/
def dramError (k : Nat) (uncorr : Bool) (addr : Nat) (loc : EccWhere) (s : State) : State :=
  let s := postD .dramEcc (b2n uncorr) (leBytes 1 k ++ leBytes 7 addr ++ leBytes 1 (eccRegion loc)) s
  if uncorr then
    let s := (s.bump 0x7221 k).setDv 0x7222 0 (k * 2 ^ 61 + 2 ^ 60 + eccRegion loc * 2 ^ 56 + addr)
    let s := dramUncorr addr loc s
    if (s.sch k).state = 2 then subchFault k s else s
  else
    let times := (s.sch k).corrTimes.filter (fun t => decide (s.now < t + Config.second)) ++ [s.now]
    let s := (s.bump 0x7220 k).modSch k (fun x => { x with corrTimes := if 64 < times.length then [] else times })
    if 64 < times.length ∧ (s.sch k).state = 2 then subchFault k s else s

/-- DRAM_ECC (R258, R259, Table 10-7). -/
def execDramEcc (dt : Nat) (sub : Fin 8) (uncorr : Bool) (addr : BitVec 40) (loc : EccWhere) (s : State) :
    Host.Outcome State Fault Refusal :=
  run dt s (fun s =>
    if (s.sch sub).state = 2 ∨ (s.sch sub).state = 3 then dramError sub uncorr addr.toNat loc s else s)

/-! ### SRAM (R264) -/

/-- The key of an SRAM row. -/
def rowKey (q row : Nat) : Nat := q * 2 ^ 20 + row

/-- Spare rows left in a quarter after boot. -/
def sparesLeft (s : State) (q : Nat) : Nat := 64 - (s.sram.filter (fun e => e.1 / 2 ^ 20 == q && e.2.remapped)).length

/-- R264, R356, Table 10-9: a fault of a row; a retired one takes a spare, or shrinks the table pool. -/
def rowFault (q row : Nat) (s : State) : State :=
  let r := channelFault 6 (rowKey q row) false s
  match r.1 with
  | .retired =>
    let none_ := sparesLeft s q == 0
    let s := { r.2 with sram := r.2.sram.modify (rowKey q row) SramRow.reset (fun x => { x with remapped := true }) }
    let s := rejudge (s.setDv 0x7303 q (sparesLeft s q))
    if none_ then deviceFault 3 s else s
  | _ => r.2

/-- Table 10-7: the staged rows of a wagon are inflated again from its DRAM copy: by the engine that has it in hand, else by the
next that takes it. -/
def stagingEcc (b n key : Nat) (s : State) : State :=
  match (s.page? b n).bind (fun p => p.slots.get? key) with
  | some w =>
    match w.phase with
    | .inflating =>
      forAll ((List.range 32).filter (fun e => (s.engine e).job == some (b, n, key)))
        (fun e s => s.modEngine e (fun x => { x with rowsDone := 0 })) (modSlot b n key (fun x => { x with rows := [], released := 0 }) s)
    | .done => modSlot b n key (fun x => { x with phase := .stored, rows := [], released := 0, tried := [] }) s
    | _ => s
  | none => s

/-- R105: the partly decided lines of bar `b` that geyser `g` screens are discarded. -/
def tableEcc (b g : Nat) (s : State) : State :=
  forAll ((s.place.spans.filter (fun e => e.2.any (fun r => r.1 == g) && s.place.owner.get? e.1 == some b)).map (fun e => e.1))
    (fun key s =>
      let pl := key / 32
      let sp := key % 32 - s.firstSpan b
      let toks := spanTokens s b pl sp
      s.modBar b (fun x => { x with pages := x.pages.map (fun pg => { pg with tokens := pg.tokens.filter (fun e =>
        pg.screened.has (lineKey pl sp ((e.1 / 512) % 2 ^ 26)) || !toks.contains (e.1 / 512 / 2 ^ 26, e.1 % 512)) }) })) s

/-- Table 10-7, Table 13-7: what an uncorrectable SRAM error leads to. A control core that runs the thread takes a machine
exception; extension threads become FAULTED. -/
def sramUncorr (loc : SramWhere) (s : State) : State :=
  match loc with
  | .wagonStaging b n pl sp band => stagingEcc b n.toNat (slotKey pl sp band) s
  | .lineStaging p line => s.modPort p (fun x => { x with lostLines := x.lostLines ++ [line] })
  | .table b g => tableEcc b g s
  | .coreLocal t => if userMode t then stopExt (t - 448) 1 0 false s else deviceFault 0x0A s
  | .deviceRegion => deviceFault 2 s

/-- R264: an SRAM error. -/
def sramError (q row : Nat) (uncorr : Bool) (loc : SramWhere) (s : State) : State :=
  let key := rowKey q row
  let x := s.sram.getD key SramRow.reset
  let times := x.corr.filter (fun t => decide (s.now < t + Config.second)) ++ (if uncorr then [] else [s.now])
  let fault := uncorr || decide (3 < times.length)
  let before := sparesLeft s q
  let s := { s with sram := s.sram.set key { x with corr := if fault then [] else times } }
  let s := s.bump (if uncorr then 0x7302 else 0x7301) q
  let s := if fault then rowFault q row s else s
  let s := postD .sramEcc (b2n uncorr + 2 * b2n (decide (sparesLeft s q < before)))
    (leBytes 1 q ++ leBytes 3 row ++ leBytes 1 (sparesLeft s q)) s
  if uncorr then sramUncorr loc s else s

/-- SRAM_ECC (R264, Table 10-7, Table 10-9). -/
def execSramEcc (dt : Nat) (quarter : Fin 4) (row : Nat) (uncorr : Bool) (loc : SramWhere) (s : State) :
    Host.Outcome State Fault Refusal :=
  run dt s (sramError quarter (row % 24576) uncorr loc)

/-! ### Quotas and PLACE_FREEZE -/

/-- 7100.00 DRAM_QUOTA (R245, R247). -/
def dramQuotaEffect : Effect := onBar (fun b _ w s =>
  let old := s.bo b 0x7100 0
  let s' := s.setBo b 0x7100 0 w.toNat
  if s.devState ≠ .config ∧ old < w.toNat ∧ s.dv 0x7105 0 < quotaSum s' then (stRange, s) else (stOK, applyQuotas s'))

/-- DRAM_QUOTA_WRITE (R245, R247, R81). -/
def execDramQuotaWrite (dt : Nat) (door : Door) (val : Slot) (s : State) : Host.Outcome State Fault Refusal :=
  run dt s (writeThrough door 0x7100 0 val dramQuotaEffect)

/-- 7101.00 SRAM_QUOTA (R245, R249). -/
def sramQuotaEffect : Effect := onBar (fun b _ w s =>
  let old := s.bo b 0x7101 0
  let s' := s.setBo b 0x7101 0 w.toNat
  if s.devState ≠ .config ∧ old < w.toNat ∧ tablePool s < sramQuotaSum s' then (stRange, s) else (stOK, sramJudge b s'))

/-- SRAM_QUOTA_WRITE (R245, R249). -/
def execSramQuotaWrite (dt : Nat) (door : Door) (val : Slot) (s : State) : Host.Outcome State Fault Refusal :=
  run dt s (writeThrough door 0x7101 0 val sramQuotaEffect)

/-- 7004.00 PLACE_FREEZE (R240): writing 0 runs R238 at once. -/
def placeFreezeEffect : Effect := onDev (fun _ w s =>
  let s := s.setDv 0x7004 0 w.toNat
  (stOK, if w = 0 then placeRun 2 false s else s))

/-- PLACE_FREEZE_WRITE (R238, R240). -/
def execPlaceFreezeWrite (dt : Nat) (door : Door) (val : Slot) (s : State) : Host.Outcome State Fault Refusal :=
  run dt s (writeThrough door 0x7004 0 val placeFreezeEffect)

end Sys2Proof.Machine
end

