-- ==== Sys2Proof/Machine/Closing.lean ====
section
/-!
DEFINITION. The end of an MOA session (R52), shared by every cause of one.
-/
namespace Sys2Proof.Machine
open Sys2Proof

/-- The bar whose block write a session holds open, if any. -/
def Session.blockBar (x : Session) : Option Nat := x.block.bind (fun k => if k.toObject then k.bar else none)

/-- R52, R43: close a session: its block buffer and its unacknowledged events are released, and a commit that waited for
its block may be sealed. -/
def closeSession (sid : Nat) (byTimeout : Bool) (s : State) : State :=
  match s.moa.sessions.get? sid with
  | none => s
  | some x =>
    let s := s.modMoa (fun m => { m with sessions := m.sessions.erase sid })
    let s := postD .sessionClosed (b2n byTimeout) (leBytes 4 sid) s
    match x.blockBar with
    | some b => trySeal b s
    | none => s

/-- R52: close every session. -/
def closeAll (s : State) : State := forAll s.moa.sessions.keys (fun sid s => closeSession sid false s) s

end Sys2Proof.Machine
end

