-- ==== Sys2Proof/Machine/Rails.lean ====
section
/-!
DEFINITION. External rails over PMBus (R340 to R342), adaptive voltage scaling (R343 to R345).
-/
namespace Sys2Proof.Machine
open Sys2Proof

/-! ### The rail table -/

/-- PMBus commands used (Table 15-2). -/
def pmOperation : Nat := 0x01
def pmClear : Nat := 0x03
def pmVout : Nat := 0x21
/-- OPERATION values on and off, PRESUMED from PMBus. -/
def pmOn : Nat := 0x80
def pmOff : Nat := 0x00

/-- A U16 field of an entry of the rail table. -/
def railField (bs : List Byte) (e o : Nat) : Nat := fieldLE bs (16 + 16 * e + o) 2
def railKind (bs : List Byte) (e : Nat) : Nat := railByte bs e 0
def railOrder (bs : List Byte) (e : Nat) : Nat := railByte bs e 3
def railNominal (bs : List Byte) (e : Nat) : Nat := railField bs e 4
def railTol (bs : List Byte) (e : Nat) : Nat := railField bs e 6
/-- [1] DOZE_OFF of an entry. -/
def railDoze (bs : List Byte) (e : Nat) : Bool := bitN (railByte bs e 12) 1
/-- [2] READ_IOUT of an entry. -/
def railAmps (bs : List Byte) (e : Nat) : Bool := bitN (railByte bs e 12) 2

/-- Table 15-3: the CRC of a table, its field taken as zero. -/
def railCrcOk (bs : List Byte) : Bool := crc32c (overwrite bs 12 [0, 0, 0, 0]) == fieldLE bs 12 4

/-- R340: a table that the device uses. -/
def railUsable (bs : List Byte) : Bool := railOk bs && railCrcOk bs

/-- The entries to be raised now: after an exit from DOZE only those that it turned off. -/
def railEntries (s : State) : List Nat :=
  (List.range (railCount s.power.table)).filter (fun e => s.power.dozeExitAt.isNone || railDoze s.power.table e)

/-- The entries of a group. -/
def railGroup (s : State) (o : Nat) : List Nat := (railEntries s).filter (fun e => railOrder s.power.table e == o)

/-- The group of lowest ORDER from `o` on that has entries to be raised. -/
def nextGroup (s : State) (o : Nat) : Option Nat :=
  (List.range 16).find? (fun g => decide (o ≤ g) && !(railGroup s g).isEmpty)

/-- R341: an entry is set to its NOMINAL and switched on. -/
def railUp (e : Nat) (s : State) : State :=
  ((s.emit (.pmbus e pmVout (railNominal s.power.table e))).emit (.pmbus e pmOperation pmOn)).modPower (fun p =>
    { p with railAt := p.railAt.set e s.now })

/-- R341: a group is raised. -/
def raiseGroup (o : Nat) (s : State) : State :=
  forAll (railGroup s o) railUp (s.modPower (fun p => { p with
    railPhase := 1, railOrder := o, railSince := s.now, raised := p.raised.filter (fun q => q != o) ++ [o] }))

/-- R341: the next group from `o` on, or the sequence is complete. -/
def railsFrom (o : Nat) (s : State) : State :=
  match nextGroup s o with
  | some g => raiseGroup g s
  | none => s.modPower (fun p => { p with railPhase := 3 })

/-- R341: the entries of the raised groups that `pick` names are switched off, in descending ORDER. -/
def lowerRails (pick : Nat → Bool) (s : State) : State :=
  forAll ((List.range 16).reverse.filter (fun o => s.power.raised.contains o)) (fun o s =>
    forAll ((List.range (railCount s.power.table)).filter (fun e => railOrder s.power.table e == o && pick e))
      (fun e s => s.emit (.pmbus e pmOperation pmOff)) s) s

/-- R341: every raised group is lowered. -/
def lowerAll (s : State) : State := (lowerRails (fun _ => true) s).modPower (fun p => { p with raised := [] })

/-- R340, R341: power-up: the table in MRAM comes into force and the sequence starts; without a usable table the board
raises every rail. -/
def startRails (s : State) : State :=
  let bs := s.mram.railTable
  if railUsable bs then
    let avs := (List.range (railCount bs)).find? (railAvs bs)
    railsFrom 0 (s.modPower (fun p => { p with
      table := bs, raised := [], railTries := [], railBad := []
      vcore := match avs with | some e => railNominal bs e | none => 0 }))
  else s.modPower (fun p => { p with table := [], railPhase := 3 })

/-- RAIL_GROUP_GOOD (R341): every entry of the group reads power good within its tolerance. -/
def execRailGroupGood (dt : Nat) (s : State) : Host.Outcome State Fault Refusal :=
  run dt s (fun s =>
    if s.power.railPhase = 1 then s.modPower (fun p => { p with railPhase := 2, railSince := s.now, railTries := [] }) else s)

/-- DELAY_US of the group raised last: the longest of its entries. -/
def groupDelay (s : State) : Nat :=
  ((railGroup s s.power.railOrder).map (fun e => railField s.power.table e 10)).foldl max 0

/-- RAIL_DELAY_EXPIRY (R341): the next group starts. -/
def execRailDelayExpiry (dt : Nat) (s : State) : Host.Outcome State Fault Refusal :=
  run dt s (fun s =>
    if s.power.railPhase = 2 ∧ s.power.railSince + groupDelay s * Config.micro ≤ s.now then railsFrom (s.power.railOrder + 1) s
    else s)

/-- R341: the sequence has failed. On the way out of DOZE the device is then held in its internal reset (R378). -/
def railFailure (s : State) : State :=
  let s := logMram (plainLog 0x0F03 0) false ((lowerAll s).modPower (fun p => { p with railPhase := 4, railFail := true }))
  if s.devState = .doze then (setDev .halted 2 (closeAll s)).modPower (fun p => { p with dozeExitAt := none }) else s

/-- RAIL_RAMP_TIMEOUT (R341): an entry not good in time is switched off, cleared and tried again, up to 3 times. -/
def execRailRampTimeout (dt : Nat) (entry : Fin 12) (s : State) : Host.Outcome State Fault Refusal :=
  run dt s (fun s =>
    let e := entry.val
    let due : Bool := match s.power.railAt.get? e with
      | some t => decide (t + railField s.power.table e 8 * Config.micro ≤ s.now)
      | none => false
    if s.power.railPhase = 1 ∧ (railGroup s s.power.railOrder).contains e ∧ due then
      let s := (s.emit (.pmbus e pmOperation pmOff)).emit (.pmbus e pmClear 0)
      let n := s.power.railTries.getD e 0
      if n < 3 then railUp e (s.modPower (fun p => { p with railTries := p.railTries.set e (n + 1) }))
      else railFailure s
    else s)

/-- RAIL_TABLE_WRITE (R340). -/
def execRailTableWrite (dt : Nat) (door : Door) (bytes : List Byte) (s : State) : Host.Outcome State Fault Refusal :=
  run dt s (fun s => (blockWrite door 0xB020 0 0 bytes s).2)

/-! ### Rails in service -/

/-- R342: the level against which an entry is judged. -/
def railLevel (s : State) (e : Nat) : Nat :=
  if railAvs s.power.table e then s.power.vcore else railNominal s.power.table e

/-- STATUS_WORD fault bits: VOUT, IOUT, INPUT, TEMPERATURE (PRESUMED from PMBus). -/
def railFaultBits (status : Nat) : Bool := bitN status 15 || bitN status 14 || bitN status 13 || bitN status 2

/-- R342: RAIL_FAULT of an entry; a device-class fault on the rails named. -/
def railFault (r : RailRead) (s : State) : State :=
  let k := railKind s.power.table r.entry
  let s := postD .railFault 0
    (leBytes 1 r.entry ++ leBytes 1 k ++ leBytes 2 r.status.toNat ++ leBytes 2 r.voutMv)
    (s.modPower (fun p => { p with railFaultAt := some s.now }))
  if k ≤ 4 then deviceFault 7 s else s

/-- R342: an entry could not be read. -/
def railUnread (e : Nat) (s : State) : State :=
  if s.power.unread.contains e then s
  else
    postD .railFault 1 (leBytes 1 e ++ leBytes 1 (railKind s.power.table e) ++ leBytes 4 0)
      (s.modPower (fun p => { p with unread := p.unread ++ [e], railFaultAt := some s.now }))

/-- R342: one entry's readings. RAIL_FAULT is raised when the condition comes to hold. -/
def railRead (r : RailRead) (s : State) : State :=
  let e := r.entry.val
  if railCount s.power.table ≤ e then s
  else if !r.ok then railUnread e s
  else
    let s := ((s.setDv 0xB021 e r.voutMv).setDv 0xB022 e (if railAmps s.power.table e then r.ioutMa else 0)).setDv 0xB023 e
      r.status.toNat
    let level := railLevel s e
    let tol := railTol s.power.table e
    let out := decide (r.voutMv + tol < level) || decide (level + tol < r.voutMv)
    let was := s.power.railBad.getD e 0
    let n := if railFaultBits r.status.toNat then 3 else if out then min 3 (was + 1) else 0
    let s := s.modPower (fun p => { p with
      railBad := p.railBad.set e n, unread := p.unread.filter (fun q => q != e) })
    if was < 3 ∧ n = 3 then railFault r s else s

/-- B031.00 POWER_MW. -/
def powerMw (s : State) : Nat :=
  ((List.range (railCount s.power.table)).map (fun e =>
    if railAmps s.power.table e then s.dv 0xB021 e * s.dv 0xB022 e else 0)).sum / 1000

/-- R342: a round of readings. -/
def railPoll (reads : List RailRead) (s : State) : State :=
  if s.power.railPhase = 3 ∧ s.devState ≠ .halted then
    let s := forAll reads railRead s
    s.setDv 0xB031 0 (powerMw s)
  else s

/-- PMBUS_POLL (R342). -/
def execPmbusPoll (dt : Nat) (reads : List RailRead) (s : State) : Host.Outcome State Fault Refusal :=
  run dt s (railPoll reads)

/-- SMBALERT (R342): the readings are taken at once. -/
def execSmbalert (dt : Nat) (reads : List RailRead) (s : State) : Host.Outcome State Fault Refusal :=
  run dt s (railPoll reads)

/-! ### Adaptive voltage scaling -/

/-- The entry that the AVS loop drives: B000.00 [0] AVS_ACTIVE while there is one. -/
def avsEntries (s : State) : List Nat := (List.range (railCount s.power.table)).filter (railAvs s.power.table)

/-- R343: the least margin at the enforced rate, with its canary. -/
def leastMargin (s : State) : Option (Int × Nat × Nat) :=
  (canariesIn s (lineEnforced s)).foldl (fun best c =>
    match canaryMargin s (lineEnforced s) c, best with
    | some m, none => some (m, c)
    | some m, some b => if m < b.1 then some (m, c) else some b
    | none, b => b) none

/-- CANARY_SAMPLE (R343, R344). -/
def execCanarySample (dt : Nat) (canaries : List Canary) (s : State) : Host.Outcome State Fault Refusal :=
  run dt s (fun s =>
    let s := s.modPower (fun p => { p with
      caps := canaries.foldl (fun (m : Map Nat) c => m.set (c.kind.val * 16 + c.idx.val) c.capacity) p.caps })
    let s := rateSettle s
    match leastMargin s with
    | some (m, _) =>
      let s := s.setDvi 0xB010 1 (max (-32768) (min m 32767))
      s.modPower (fun p => { p with aboveSince := if 200 < m then some (p.aboveSince.getD s.now) else none })
    | none => s.modPower (fun p => { p with aboveSince := none }))

/-- The AVS rail is set to a level. -/
def setVcore (mv : Nat) (s : State) : State :=
  forAll (avsEntries s) (fun e s => s.emit (.pmbus e pmVout mv)) (s.modPower (fun p => { p with vcore := mv }))

/-- R345: margin below 8.0 % at 900 mV, as it comes to hold. -/
def avsLimitStep (s : State) : State :=
  match leastMargin s with
  | some (m, c) =>
    let low := decide (m < 80) && decide (900 ≤ s.power.vcore)
    let was := s.power.avsLimit
    let s := s.modPower (fun p => { p with avsLimit := low })
    if low && !was then
      deviceFault 5 (postD .avsLimit 0
        (leBytes 2 s.power.vcore ++ leBytes 2 (ofSigned 16 m) ++ leBytes 1 (canaryDomain c.1 c.2)) (s.bump 0xB011 1))
    else s
  | none => s.modPower (fun p => { p with avsLimit := false })

/-- R343, R344: one evaluation of the loop. -/
def avsLoop (s : State) : State :=
  let m := s.dvi 0xB010 1
  let any := (leastMargin s).isSome
  let v := s.power.vcore
  let ago (t d : Nat) : Bool := decide (t + d ≤ s.now)
  let above : Bool := match s.power.aboveSince with | some t => ago t (10 * Config.milli) | none => false
  if s.power.enforced.isSome ∨ (any = true ∧ m < 120) then
    if v < 900 then setVcore (min 900 (v + 5)) ((s.bump 0xB011 0).modPower (fun p => { p with raisedAt := s.now })) else s
  else if above && ago s.power.raisedAt (10 * Config.milli) && ago s.power.loweredAt Config.milli &&
      decide (s.dv 0xB010 2 + 5 ≤ v) && s.dv 0xB104 0 == 0 then
    setVcore (v - 5) (s.modPower (fun p => { p with loweredAt := s.now }))
  else s

/-- A trim item is running. -/
def trimRunning (s : State) (item : Nat) : Bool := (s.trim.getD item TrimItem.reset).running

/-- AVS_STEP (R343 to R345): frozen while the bandgap is trimmed. -/
def execAvsStep (dt : Nat) (s : State) : Host.Outcome State Fault Refusal :=
  run dt s (fun s =>
    if (avsEntries s).isEmpty || s.power.railPhase != 3 || trimRunning s 0x20 || !domainsLive s then s
    else avsLimitStep (avsLoop s))

end Sys2Proof.Machine
end

