-- ==== Sys2Proof/Machine/Heat.lean ====
section
/-!
DEFINITION. Fumaroles (R346), region differences (R347), throttling (R348), the thermal shutdown (R349) and trim (R351 to R354).
-/
namespace Sys2Proof.Machine
open Sys2Proof

/-! ### Fumaroles -/

/-- The fumaroles orthogonally adjacent to `n`: FUMn lies at row n / 4 and column n mod 4. -/
def fumNeighbours (n : Nat) : List Nat :=
  (if 4 ≤ n then [n - 4] else []) ++ (if 0 < n % 4 then [n - 1] else []) ++ (if n % 4 < 3 then [n + 1] else []) ++
    (if n < 12 then [n + 4] else [])

/-- The in-service sensors beside `n`. -/
def fumBeside (s : State) (n : Nat) : List Nat := (fumNeighbours n).filter (fun m => !(s.fum m).retired)

/-- The greatest of integers, none of an empty list. -/
def maxInt? (xs : List Int) : Option Int := xs.foldl (fun b x => match b with | none => some x | some y => some (max y x)) none

/-- The diode of `n` is held by a trim run (Table 15-6). -/
def fumStale (s : State) (n : Nat) : Bool := trimRunning s n || trimRunning s 0x20

/-- The last plausible reading, 0 before the first. -/
def fumLast (s : State) (n : Nat) : Int := (s.fum n).last.getD 0

/-- The effective temperatures that follow from `e` by one round of R346 and R351: a retired sensor takes the highest of its
in-service neighbours, a held one the greater of its reading and its neighbours'. -/
def fumRound (s : State) (e : List (Option Int)) : List (Option Int) :=
  (List.range 16).map (fun n =>
    let eff (ms : List Nat) : Option Int := maxInt? (ms.filterMap (fun m => e.getD m none))
    if (s.fum n).retired then eff (fumBeside s n)
    else if fumStale s n then some (max (fumLast s n) ((eff (fumNeighbours n)).getD (fumLast s n)))
    else some (fumLast s n))

/-- `k` rounds from the readings of the sensors in service. -/
def fumRounds (s : State) : Nat → List (Option Int)
  | 0 => (List.range 16).map (fun n => if (s.fum n).retired then none else some (fumLast s n))
  | k + 1 => fumRound s (fumRounds s k)

/-- R346, R351: the effective temperatures of the fumaroles; where no neighbour is in service, the highest in-service reading. -/
def fumEffs (s : State) : List Int :=
  let top := (maxInt? (((List.range 16).filter (fun m => !(s.fum m).retired)).map (fumLast s))).getD 0
  (fumRounds s (if (List.range 16).any (fun n => (s.fum n).retired || fumStale s n) then 16 else 0)).map (fun x => x.getD top)

/-- R346: is a reading implausible? -/
def implausible (s : State) (temps : List Int) (n : Nat) (r : Int) : Bool :=
  let far (q : Int) : Bool := decide (640 < (r - q).natAbs)
  let beside := (fumBeside s n).filterMap (fun m => temps[m]?)
  decide (r < -720) || decide (2400 < r) || (!beside.isEmpty && beside.all far) ||
  (match (s.fum n).prev with | some q => decide (80 < (r - q).natAbs) | none => false)

/-- R346: the retired sensors that have no in-service neighbour. -/
def fumAlone (s : State) : List Nat := (List.range 16).filter (fun n => (s.fum n).retired && (fumBeside s n).isEmpty)

/-- R346: a sensor is retired; with no neighbour left to substitute, a device-class fault. -/
def sensorOut (n : Nat) (s : State) : State :=
  let before := (fumAlone s).length
  let s := s.modFum n (fun x => { x with retired := true })
  let s := postD .sensorRetired 0 (leBytes 1 n ++ leBytes 2 (ofSigned 16 (fumLast s n))) s
  if before < (fumAlone s).length then deviceFault 9 s else s

/-- R346, R356: a fault of a sensor. -/
def sensorFault (n : Nat) (s : State) : State :=
  let r := channelFault 8 n (atLimit s 8) s
  let s := r.2.modFum n (fun x => { x with faultAt := some s.now })
  match r.1 with
  | .retired => sensorOut n s
  | _ => s

/-- R346: one sample of a diode. -/
def fumTake (temps : List Int) (n : Nat) (s : State) : State :=
  match temps[n]? with
  | none => s
  | some r =>
    if (s.fum n).retired || fumStale s n then s
    else
      let bad := implausible s temps n r
      let s := s.modFum n (fun x => { x with prev := some r, last := if bad then x.last else some r })
      if bad then sensorFault n (s.bump 0xB10A n) else s

/-- B101: the local voltage; a retired monitor reads as the highest of its neighbours (R353). -/
def fumVolt (s : State) (n : Nat) : Nat :=
  if (s.fum n).voltRetired then (((fumNeighbours n).filter (fun m => !(s.fum m).voltRetired)).map (fun m => (s.fum m).volt)).foldl max 0
  else (s.fum n).volt

def fumTakeVolt (volts : List Nat) (n : Nat) (s : State) : State :=
  match volts[n]? with
  | none => s
  | some v => if trimRunning s (0x10 + n) || trimRunning s 0x20 then s else s.modFum n (fun x => { x with volt := v })

/-- B100, B101, B106 as the samples give them. -/
def fumStore (s : State) : State :=
  let ts := fumEffs s
  let vs := (List.range 16).map (fumVolt s)
  let s := forAll (List.range 16) (fun n s => (s.setDvi 0xB100 n (ts.getD n 0)).setDv 0xB101 n (vs.getD n 0)) s
  s.setDvi 0xB106 0 ((maxInt? ts).getD 0)

/-- B100.n. -/
def fumTemp (s : State) (n : Nat) : Int := s.dvi 0xB100 n

/-- R238: the fumaroles that are hot now. -/
def hotNow (s : State) : List Nat :=
  (List.range 16).filter (fun n =>
    let t := fumTemp s n
    decide (16 * ((s.dv 0x7002 0 : Nat) : Int) ≤ t) ||
    (isHot s n && decide (16 * (((s.dv 0x7002 0 : Nat) : Int) - ((s.dv 0x7002 1 : Nat) : Int)) ≤ t)))

/-- R238: the placer runs when a fumarole becomes hot or ceases to be. -/
def hotJudge (s : State) : State :=
  let h := hotNow s
  if h = s.place.hot then s
  else
    let s := { s with place := { s.place with hot := h } }
    if domainsLive s then placeRun 2 false s else s

/-! ### Region differences (R347) -/

/-- The adjacent pairs of fumaroles. -/
def fumPairs : List (Nat × Nat) :=
  (List.range 16).flatMap (fun a => ((fumNeighbours a).filter (fun b => decide (a < b))).map (fun b => (a, b)))

/-- The key of a pair in the table of excess differences. -/
def skewKey (a b : Nat) (voltage : Bool) : Nat := 256 * b2n voltage + 16 * min a b + max a b

/-- The difference between two fumaroles in 1/16 °C or mV; a retired monitor does not enter. -/
def skewDiff (s : State) (a b : Nat) (voltage : Bool) : Nat :=
  if voltage then
    if (s.fum a).voltRetired || (s.fum b).voltRetired then 0
    else (((s.dv 0xB101 a : Nat) : Int) - ((s.dv 0xB101 b : Nat) : Int)).natAbs
  else (fumTemp s a - fumTemp s b).natAbs

/-- Does the difference exceed 30 °C or 80 mV? -/
def skewOver (s : State) (a b : Nat) (voltage : Bool) : Bool := decide ((if voltage then 80 else 480) < skewDiff s a b voltage)

/-- A difference that has been reported. -/
def skewReported : Nat := 2 ^ 64

/-- When each excess difference began. -/
def skewBegin (s : State) : State :=
  forAll ([false, true].flatMap (fun v => fumPairs.map (fun p => (p, v)))) (fun q s =>
    let k := skewKey q.1.1 q.1.2 q.2
    let m := s.power.skewSince
    if skewOver s q.1.1 q.1.2 q.2 then if m.has k then s else s.modPower (fun p => { p with skewSince := p.skewSince.set k s.now })
    else if m.has k then s.modPower (fun p => { p with skewSince := p.skewSince.erase k }) else s) s

/-- R347: each excess difference, and SKEW, which lasts as long as one that was reported (assumption log 81). -/
def skewTrack (s : State) : State :=
  (skewBegin s).modPower (fun p => { p with skew := p.skewSince.any (fun e => e.2 == skewReported) })

/-- REGION_SKEW (R347): the difference has lasted 100 ms, or 10 µs of voltage. -/
def execRegionSkew (dt : Nat) (a b : Fin 16) (voltage : Bool) (s : State) : Host.Outcome State Fault Refusal :=
  run dt s (fun s =>
    let k := skewKey a b voltage
    match s.power.skewSince.get? k with
    | some t =>
      if t + (if voltage then 10 * Config.micro else 100 * Config.milli) ≤ s.now then
        let s := s.modPower (fun p => { p with skew := true, skewSince := p.skewSince.set k skewReported })
        let s := postD .regionSkew (b2n voltage)
          (leBytes 1 (min a.val b.val) ++ leBytes 1 (max a.val b.val) ++ leBytes 2 (skewDiff s a b voltage)) s
        deviceFault 6 (s.bump 0xB109 0)
      else s
    | none => s)

/-! ### Shutdown (R349) -/

/-- R349, R380: the outputs that act on the press go to their safe states at once. -/
def dropOutputs (s : State) : State :=
  let s := { s with
    supplies := s.supplies.mapVals (fun x => { x with
      hven := false, riseLine := none, riseAt := none, inBlank := false, st := if x.st == SupplyState.tripped then SupplyState.tripped else SupplyState.off })
    axes := s.axes.mapVals (fun x => { x with
      mode := .idle, vel := 0, acc := 0, armed := none, next := none, uncertain := x.uncertain || x.moving })
    cmps := s.cmps.mapVals (fun x => { x with until_ := none, lowUntil := none, waiting := 0 })
    webSlow := none }
  s.modTrig (fun t => { t with en := false, moving := false })

/-- Table 15-5: the shutdown record. -/
def shutdownRecord (s : State) (n : Nat) (held : Bool) : List Byte :=
  leBytes 8 s.time ++ leBytes 8 s.trig.line ++ leBytes 1 n ++
  leBytes 1 (b2n (s.fum n).retired + 2 * b2n held + 4 * b2n (s.devState == .doze)) ++
  leBytes 2 (ofSigned 16 (fumTemp s n)) ++ leBytes 2 s.power.vcore ++ leBytes 1 s.devState.code ++
  leBytes 1 (s.dv 0xB104 0) ++ leBytes 8 0

/-- R349: the rails that stay up: VDD_IO33, and VDD_SDS and VDDH_SDS, which feed the Ethernet ports. -/
def railStays (k : Nat) : Bool := k == 7 || k == 3 || k == 4

/-- R349: the thermal shutdown for fumarole `n`. -/
def thermalShutdown (n : Nat) (s : State) : State :=
  let held := holder s
  let rec_ := shutdownRecord s n held
  let s := dropOutputs (releaseReins 1 s)
  let s := logMram (plainLog 0x0F07 0) true s
  let s := s.modMram (fun m => { m with shutdownRec := rec_, shutdowns := min (m.shutdowns + 1) 65535 })
  let s := setDev .halted 2 (closeAll s)
  let s := lowerRails (fun e => !railStays (railKind s.power.table e)) s
  { s.modPower (fun p => { p with shutdown := true, domains := [] }) with ports := s.ports.mapVals (fun x => { x.quiet with st := .off, reqs := [] }) }

/-- R349: two consecutive samples at 125 °C or above, in any device state. -/
def shutdownJudge (s : State) : State :=
  let s := forAll (List.range 16) (fun n s =>
    if 2000 ≤ fumTemp s n then s.modFum n (fun x => { x with hotRuns := x.hotRuns + 1 })
    else s.modFum n (fun x => { x with hotRuns := 0 })) s
  match (List.range 16).find? (fun n => decide (2 ≤ (s.fum n).hotRuns)) with
  | some n => if s.power.shutdown then s else thermalShutdown n s
  | none => s

/-- FUM_SAMPLE (R346 to R349, R238): every 50 µs AON reads the diodes and the voltage monitors. -/
def execFumSample (dt : Nat) (temps : List Int) (volts : List Nat) (s : State) : Host.Outcome State Fault Refusal :=
  run dt s (fun s =>
    if s.pins.pwrgood then
      let s := forAll (List.range 16) (fumTake temps) s
      let s := forAll (List.range 16) (fumTakeVolt volts) s
      shutdownJudge (hotJudge (skewTrack (fumStore s)))
    else s)

/-! ### Throttling (R348) -/

/-- The hottest fumarole. -/
def hottest (s : State) : Nat :=
  ((List.range 16).find? (fun n => decide (s.dvi 0xB106 0 ≤ fumTemp s n))).getD 0

/-- R348: one step of THROTTLE_DUTY. -/
def throttleStep (s : State) : State :=
  let d := s.dv 0xB104 0
  let t := s.dvi 0xB106 0
  let top : Int := s.dv 0xB103 0
  let hyst : Int := s.dv 0xB103 1
  let d' := if 16 * top ≤ t then min 12 (d + 1) else if t < 16 * (top - hyst) then d - 1 else d
  let spent := if d = 0 then 0 else (s.now - s.power.throttleAt) / Config.micro
  let s := ((s.count64 0xB108 0 spent).setDv 0xB104 0 d').modPower (fun p => { p with throttleAt := s.now })
  if (d = 0) ≠ (d' = 0) then
    postD .thermalThrottle (b2n (d' == 0)) (leBytes 1 d' ++ leBytes 2 (ofSigned 16 t) ++ leBytes 1 (hottest s)) s
  else s

/-- THROTTLE_TICK (R348). -/
def execThrottleTick (dt : Nat) (s : State) : Host.Outcome State Fault Refusal :=
  run dt s (fun s => if s.devState = .halted then s else throttleStep s)

/-- SHUTDOWN_CLEAR (R350): B107.01: 1 zeroes the record. -/
def shutdownClearEffect : Effect := onDev (fun _ w s =>
  (stOK, if w = 0 then s else s.modMram (fun m => { m with shutdownRec := List.replicate 32 0 })))

def execShutdownClear (dt : Nat) (door : Door) (val : Slot) (s : State) : Host.Outcome State Fault Refusal :=
  run dt s (writeThrough door 0xB107 1 val shutdownClearEffect)

/-! ### Trim -/

/-- Table 15-6: does the item exist? -/
def trimExists (i : Nat) : Bool := decide (i ≤ 0x21) || (decide (0x40 ≤ i) && decide (i ≤ 0x93))

/-- The items. -/
def trimItems : List Nat := (List.range 256).filter trimExists

def State.trimItem (s : State) (i : Nat) : TrimItem := s.trim.getD i TrimItem.reset
def State.modTrim (s : State) (i : Nat) (f : TrimItem → TrimItem) : State := { s with trim := s.trim.set i (f (s.trimItem i)) }

/-- R351: a diode whose neighbour's run is under way waits. -/
def trimBlocked (s : State) (i : Nat) : Bool := decide (i < 16) && (fumNeighbours i).any (trimRunning s)

/-- R351: start a run of an item, or let it wait for its neighbours. -/
def trimStart (i : Nat) (s : State) : State :=
  if trimRunning s i then s
  else if trimBlocked s i then
    s.modPower (fun p => { p with trimWait := if p.trimWait.contains i then p.trimWait else p.trimWait ++ [i] })
  else (s.trimBegin i).modPower (fun p => { p with trimWait := p.trimWait.filter (fun j => j != i) })

/-- Start the items that waited and may run now. -/
def trimWake (s : State) : State := forAll s.power.trimWait trimStart s

/-- Is a trim run under way or waiting? -/
def trimBusy (s : State) : Bool := s.trim.any (fun p => p.2.running) || !s.power.trimWait.isEmpty

/-- The items that a TRIM_CMD names; item 0x20 runs only in BOOT and CONFIG. -/
def trimNamed (s : State) (i : Nat) : List Nat :=
  if i = 0xFF then trimItems.filter (fun j => j != 0x20 || s.devState == .config || s.devState == .boot)
  else if trimExists i then [i] else []

/-- R352: RUN. -/
def trimRunCmd (i : Nat) (s : State) : Nat × State :=
  let js := trimNamed s i
  if i = 0x20 ∧ s.devState ≠ .config then (stState, s)
  else if js.any (fun j => trimRunning s j || s.power.trimWait.contains j) then (stBusy, s)
  else
    let s := if i = 0xFF then s.modPower (fun p => { p with trimAll := true, trimAllFail := false }) else s
    (stOK, forAll js trimStart s)

/-- R354: SAVE: of the items named (0xFF: all), those whose last result is PASS. -/
def trimSaveCmd (i : Nat) (s : State) : State :=
  let js := trimItems.filter (fun j => (i == 0xFF || i == j) && (s.trimItem j).result == 1)
  s.modMram (fun m => { m with
    trim := js.foldl (fun (t : Map Nat) j => t.set j (s.trimItem j).value) m.trim, trimTime := s.time, trimValid := true })

/-- R354: RESTORE: the saved values of the items named. -/
def trimRestoreCmd (i : Nat) (s : State) : State :=
  forAll (trimNamed s i) (fun j s =>
    match s.mram.trim.get? j with
    | some v => if s.mram.trimValid then s.modTrim j (fun x => { x with value := v, fromSaved := true }) else s
    | none => s) s

/-- B200.00 TRIM_CMD (R352). -/
def trimCommand : Effect := onDev (fun _ w s =>
  let i := bitsN w.toNat 15 8
  match bitsN w.toNat 7 0 with
  | 1 => trimRunCmd i s
  | 2 => (stOK, trimSaveCmd i s)
  | 3 => if s.devState = .config then (stOK, trimRestoreCmd i s) else (stState, s)
  | _ => (stRange, s))

def trimWrite (door : Door) (item : BitVec 8) (cmd : Nat) (s : State) : State :=
  writeThrough door 0xB200 0 (BitVec.ofNat 64 (256 * item.toNat + cmd)) trimCommand s

/-- TRIM_RUN (R352). -/
def execTrimRun (dt : Nat) (door : Door) (item : BitVec 8) (s : State) : Host.Outcome State Fault Refusal :=
  run dt s (trimWrite door item 1)

/-- TRIM_SAVE (R354). -/
def execTrimSave (dt : Nat) (door : Door) (item : BitVec 8) (s : State) : Host.Outcome State Fault Refusal :=
  run dt s (trimWrite door item 2)

/-- TRIM_RESTORE (R352, R354). -/
def execTrimRestore (dt : Nat) (door : Door) (item : BitVec 8) (s : State) : Host.Outcome State Fault Refusal :=
  run dt s (trimWrite door item 3)

/-- TRIM_PERIOD_TICK (R351, R338): in DOZE the oscillator alone. -/
def execTrimPeriodTick (dt : Nat) (s : State) : Host.Outcome State Fault Refusal :=
  run dt s (fun s =>
    let p := s.dv 0xB202 0
    if p ≠ 0 ∧ s.power.trimAt + p * Config.second ≤ s.now ∧ s.devState ≠ .halted then
      let items := if s.devState = .doze then [0x21] else List.range 32 ++ [0x21]
      forAll items trimStart (s.modPower (fun q => { q with trimAt := s.now }))
    else s)

/-- Table 15-6: the residual at or below which an item passes, in the unit of TRIM_RESULT. -/
def trimLimit (i : Nat) : Nat := if i < 0x10 then 8 else if i = 0x20 then 3 else if i = 0x21 then 5 else 2

/-- R353: the third consecutive failure of an item. -/
def trimThird (i : Nat) (s : State) : State :=
  if i < 0x10 then
    if (s.fum i).retired then s
    else if atLimit s 8 then deviceFault 4 s
    else sensorOut i (retire 8 i false s)
  else if i < 0x20 then s.modFum (i - 0x10) (fun x => { x with voltRetired := true })
  else if i ≤ 0x21 then deviceFault 8 s
  else s

/-- R354: the value that an item takes when it fails at BOOT. -/
def trimFallback (s : State) (i : Nat) : Nat :=
  if s.mram.trimValid then (s.mram.trim.get? i).getD (Config.trimFuse i).toNat else (Config.trimFuse i).toNat

/-- R353: TRIM_DONE of one item. -/
def trimPost (i result residual : Nat) (failed : Bool) (s : State) : State :=
  postD .trimDone (b2n failed) (leBytes 1 i ++ leBytes 1 result ++ leBytes 2 residual) s

/-- R353: a run of all items is over. -/
def trimAllDone (s : State) : State :=
  if s.power.trimAll && !trimBusy s then
    let bad := s.power.trimAllFail
    trimPost 0xFF (if bad then 2 else 1) 0 bad (s.modPower (fun p => { p with trimAll := false }))
  else s

/-- R353, R354: the result of a run. -/
def trimEnd (i value residual : Nat) (s : State) : State :=
  if residual ≤ trimLimit i then
    s.modTrim i (fun x => { x with
      value := value, residual := residual, result := 1, running := false, fromSaved := false, fails := 0 })
  else
    let boot := s.devState == .boot
    let v := if boot then trimFallback s i else (s.trimItem i).value
    let s := s.modTrim i (fun x => { x with
      value := v, residual := residual, result := 2, running := false, fromSaved := x.fromSaved || boot, fails := x.fails + 1 })
    let s := s.modPower (fun p => { p with trimAllFail := true })
    let s := trimPost i 2 residual true s
    if (s.trimItem i).fails = 3 then trimThird i s else s

/-- TRIM_DONE (R353, R354). -/
def execTrimDone (dt : Nat) (item : BitVec 8) (value : BitVec 16) (residual : Byte) (s : State) :
    Host.Outcome State Fault Refusal :=
  run dt s (fun s =>
    if trimRunning s item.toNat then trimAllDone (trimWake (trimEnd item.toNat value.toNat residual.toNat s)) else s)

/-- B210: TRIM_RESULT as it reads. -/
def trimResult (s : State) (i : Nat) : Nat :=
  let x := s.trimItem i
  65536 * x.value + 256 * (x.residual % 256) + 8 * b2n x.fromSaved + 4 * b2n x.running + x.result

end Sys2Proof.Machine
end

