-- ==== Sys2Proof/Machine/Test.lean ====
section
/-!
DEFINITION. Reinstatement and the replacement request (R360, R363), zeroisation (R367), the test access port (R368, R369) and
the in-system interconnect test (R370 to R372).
-/
namespace Sys2Proof.Machine
open Sys2Proof

/-! ### Reinstatement (R360) -/

/-- The classes that REINSTATE serves. -/
def reinstatable (cls : Nat) : Bool := cls == 3 || cls == 4 || cls == 5 || cls == 7 || cls == 8

/-- R335: a reinstated geyser or engine of a domain forced off stays without power. -/
def darkBit (cls ch : Nat) (s : State) : State :=
  if cls = 3 ∧ s.dv 0xB002 (ch / 4) = 1 then s.setBit 0x3010 0 ch false
  else if cls = 4 ∧ s.dv 0xB002 (8 + ch / 8) = 1 then s.setBit 0x2100 0 ch false
  else s

/-- The unit behind a reinstated channel works again. -/
def channelBack (cls ch : Nat) (s : State) : State :=
  if cls = 7 then judgeWait 4 (dispatch (s.modCore ch (fun x => { x with retired := false, since := s.now })))
  else if cls = 8 then s.modFum ch (fun x => { x with retired := false, faultAt := none, prev := none })
  else s

/-- R360: a channel returns to service, and the placer runs. -/
def reinstateNow (cls ch : Nat) (s : State) : State :=
  withRate (fun s => placeRun 4 false (channelBack cls ch (darkBit cls ch (reinstateChan cls ch s)))) s

/-- C005.00 REINSTATE (R360). -/
def reinstateEffect : Effect := onDev (fun _ w s =>
  let cls := w.bits 15 8
  let ch := w.bits 7 0
  if s.devState ≠ .config then (stState, s)
  else if reinstatable cls && isRetired s cls ch then (stOK, reinstateNow cls ch s)
  else (stRange, s))

/-- REINSTATE (R360). -/
def execReinstate (dt : Nat) (door : Door) (val : Slot) (s : State) : Host.Outcome State Fault Refusal :=
  run dt s (writeThrough door 0xC005 0 val reinstateEffect)

/-! ### REPLACE_CLEAR (R363) -/

/-- R363, R362, R271: the DEVICE and HEAD bits go, and every other cause is judged again; a bit newly set counts as one. -/
def replaceNow (s : State) : State :=
  let old := s.mram.cause
  let new := classCause s ||| rateCause s
  if new = old then s
  else
    let s := s.modMram (fun m => { m with cause := new, causeTime := s.time })
    let s := logBoth (plainLog 0x1004 7) s
    let s := postD .replaceReq (b2n (new &&& old == new)) (leBytes 4 new) s
    if selfDiagnosis (new - (new &&& old)) then releaseReins 1 s else s

/-- C002.00 REPLACE_CLEAR; a write of 0 is ignored. -/
def replaceClearEffect : Effect := onDev (fun _ w s =>
  if w = 0 then (stOK, s) else if s.devState = .config then (stOK, replaceNow s) else (stState, s))

/-- REPLACE_CLEAR (R363). -/
def execReplaceClear (dt : Nat) (door : Door) (val : Slot) (s : State) : Host.Outcome State Fault Refusal :=
  run dt s (writeThrough door 0xC002 0 val replaceClearEffect)

/-! ### Zeroisation (R367) -/

/-- R367: every BAR_KEY, SUPERVISOR_KEY, WAGON_KEY and session key goes, and the keys that AES engines hold read zero. -/
def wipeKeys (s : State) : State :=
  { s.modMram (fun m => { m with keys := [] }) with
    bars := s.bars.mapVals (fun x => { x with
      keys := []
      pages := x.pages.map (fun p => { p with
        slots := p.slots.mapVals (fun w => { w with key := w.key.map (fun _ => List.replicate 32 0) }) }) }) }

/-- R367: zeroisation begins: every MOA session is closed and every key overwritten. -/
def zeroStart (byTestEn : Bool) (s : State) : State :=
  (wipeKeys (closeAll s)).modTest (fun x => { x with
    zeroising := true, zeroTries := 0, zeroDone := false, byTestEn := byTestEn })

/-- C040.00 ZEROIZE: 0 is ignored. -/
def zeroizeEffect : Effect := onDev (fun _ w s => (stOK, if w = 0 ∨ s.test.zeroising then s else zeroStart false s))

/-- ZEROIZE (R367). -/
def execZeroize (dt : Nat) (door : Door) (val : Slot) (s : State) : Host.Outcome State Fault Refusal :=
  run dt s (writeThrough door 0xC040 0 val zeroizeEffect)

/-- R367: the read-back shows zeros. -/
def zeroEnd (s : State) : State :=
  let n := s.test.zeroTries + 1
  let s := s.modTest (fun x => { x with zeroising := false, zeroDone := true })
  let s := s.modMram (fun m => { m with zeroisations := min (m.zeroisations + 1) 65535 })
  postD .zeroised (b2n s.test.byTestEn) (leBytes 1 n) (logBoth (plainLog 0x1007 6) s)

/-- R367: a nonzero byte: the overwrite is repeated up to 3 times, then fault 0x0C. -/
def zeroAgain (s : State) : State :=
  if s.test.zeroTries < 3 then wipeKeys (s.modTest (fun x => { x with zeroTries := x.zeroTries + 1 }))
  else deviceFault 0x0C (s.modTest (fun x => { x with zeroising := false, scanLocked := true }))

/-- ZEROISED (R367). -/
def execZeroised (dt : Nat) (readBackZero : Bool) (s : State) : Host.Outcome State Fault Refusal :=
  run dt s (fun s => if s.test.zeroising then (if readBackZero then zeroEnd s else zeroAgain s) else s)

/-! ### The test access port (R368, R369) -/

/-- R369: what IDCODE shifts out. -/
def tapId : Nat := 0x252405F3

/-- Table 16-7: the opcode that acts when `code` is loaded. -/
def tapActs (s : State) (code : Nat) : Nat :=
  if code = 1 then 1
  else if decide (2 ≤ code) && decide (code ≤ 7) && s.pins.testEn && s.test.zeroDone && !s.test.scanLocked then code
  else 0xFF

/-- R369: an instruction is loaded; the opcode that acts is selected. -/
def tapLoad (code : Nat) (s : State) : State :=
  let c := tapActs s code
  (s.modTest (fun x => { x with opcode := c })).emit (.tap c)

/-- TAP_IDCODE (R368, R369). -/
def execTapIdcode (dt : Nat) (s : State) : Host.Outcome State Fault Refusal := run dt s (tapLoad 1)
/-- TAP_SAMPLE_PRELOAD (R369). -/
def execTapSamplePreload (dt : Nat) (s : State) : Host.Outcome State Fault Refusal := run dt s (tapLoad 2)
/-- TAP_EXTEST (R369). -/
def execTapExtest (dt : Nat) (s : State) : Host.Outcome State Fault Refusal := run dt s (tapLoad 3)
/-- TAP_CLAMP (R369). -/
def execTapClamp (dt : Nat) (s : State) : Host.Outcome State Fault Refusal := run dt s (tapLoad 4)
/-- TAP_HIGHZ (R369). -/
def execTapHighz (dt : Nat) (s : State) : Host.Outcome State Fault Refusal := run dt s (tapLoad 5)
/-- TAP_EXTEST_PULSE (R369). -/
def execTapExtestPulse (dt : Nat) (s : State) : Host.Outcome State Fault Refusal := run dt s (tapLoad 6)
/-- TAP_EXTEST_TRAIN (R369). -/
def execTapExtestTrain (dt : Nat) (s : State) : Host.Outcome State Fault Refusal := run dt s (tapLoad 7)
/-- TAP_BYPASS (R368, R369): BYPASS or any opcode, decoded by Table 16-7. -/
def execTapBypass (dt : Nat) (opcode : Byte) (s : State) : Host.Outcome State Fault Refusal := run dt s (tapLoad opcode.toNat)

/-! ### In-system interconnect test (R370 to R372) -/

/-- The ICT table, empty until the board gives one. -/
def ictTable (s : State) : List Byte := (s.dwide 0xC110 0).getD []

/-- Its groups. -/
def ictGroups (s : State) : Nat := (byteAt (ictTable s) 1).toNat

/-- Table 16-8: KIND and WIDTH of a group. -/
def ictKind (s : State) (g : Nat) : Nat := ictField (ictTable s) g 0 1
def ictWidth (s : State) (g : Nat) : Nat := ictField (ictTable s) g 6 2

/-- R370: bits of a pattern index, k = ceil(log2(WIDTH + 2)). -/
def ictBits (w : Nat) : Nat := clog2 (w + 2)

/-- R370: what pattern `j` drives on ball `i`; the complements follow the patterns. -/
def ictDrives (w j i : Nat) : Bool := if j < ictBits w then bitN (i + 1) j else !bitN (i + 1) (j - ictBits w)

/-- R372: may a group run? A PEER group needs the partner in CONFIG, which follows this unit (R275), and the link. -/
def ictRuns (s : State) (g : Nat) : Bool :=
  ictKind s g == 0 || (pairMode s && s.pair.linkUp && s.pair.state == .paired)

/-- R370, R372: the bytes of a group's run: each vector padded to a whole byte, 2k vectors. -/
def ictBytes (s : State) (g : Nat) : Nat := 2 * ictBits (ictWidth s g) * ceilDiv (ictWidth s g) 8

/-- R370: the verdict on a group: 1 pass, 2 fail. -/
def ictVerdict (s : State) (g misr : Nat) : Nat := if misr = ictField (ictTable s) g 8 4 then 1 else 2

/-- R372: C111.g. -/
def ictSet (g misr verdict : Nat) (s : State) : State := s.setDv 0xC111 g (misr * 2 ^ 32 + verdict)

/-- R372: the result of one group of a run. -/
def ictOne (captured : List (List Byte)) (g : Nat) (s : State) : State :=
  if ictRuns s g then
    let m := crc32c ((captured.getD g []).take (ictBytes s g))
    ictSet g m (ictVerdict s g m) s
  else ictSet g 0 3 s

/-- How many groups ended with a verdict. -/
def ictCount (s : State) (verdict : Nat) : Nat :=
  ((List.range (ictGroups s)).filter (fun g => bitsN (s.dv 0xC111 g) 7 0 == verdict)).length

/-- R372: the run is logged and ICT_DONE posted. -/
def ictFinish (s : State) : State :=
  let fail := ictCount s 2
  let s := logBoth (plainLog 0x1008 0) s
  postD .ictDone (b2n (decide (0 < fail))) (leBytes 1 (ictCount s 1) ++ leBytes 1 fail ++ leBytes 1 (ictCount s 3)) s

/-- C100.00 SELFTEST_CMD (R372). -/
def selftestEffect : Effect := onDev (fun _ w s =>
  if w ≠ 1 then (stRange, s)
  else if s.devState ≠ .config ∨ (List.range 16).any (fun k => (s.supply k).st != .off) then (stState, s)
  else if s.test.selftest ≠ 0 then (stBusy, s)
  else
    let peer := (List.range (ictGroups s)).any (fun g => ictKind s g != 0 && ictRuns s g)
    (stOK, s.modTest (fun x => { x with selftest := if peer then 2 else 1 })))

/-- SELFTEST_CMD (R372). -/
def execSelftestCmd (dt : Nat) (door : Door) (val : Slot) (s : State) : Host.Outcome State Fault Refusal :=
  run dt s (writeThrough door 0xC100 0 val selftestEffect)

/-- ICT_DONE (R370, R372): the run is over; `captured` holds each group's vectors in pattern order. -/
def execIctDone (dt : Nat) (captured : List (List Byte)) (s : State) : Host.Outcome State Fault Refusal :=
  run dt s (fun s =>
    if s.test.selftest ≠ 0 then
      ictFinish (forAll (List.range (ictGroups s)) (ictOne captured) (s.modTest (fun x => { x with selftest := 0 })))
    else s)

/-- ICT_TABLE_WRITE (R371); `cells` are the boundary cells of the protected balls (assumption log 27). -/
def execIctTableWrite (dt : Nat) (door : Door) (bytes : List Byte) (cells : List (Nat × Nat)) (s : State) :
    Host.Outcome State Fault Refusal :=
  run dt s (fun s => (blockWrite door 0xC110 0 0 bytes (s.modTest (fun x => { x with ictCells := cells }))).2)

end Sys2Proof.Machine
end

