-- ==== Sys2Proof/Machine/Boot.lean ====
section
/-!
DEFINITION. Reset and power (R350, R377 to R381), BOOT (R251, R308 to R310, R351, R359, R373), and the commands of the
thread and extension objects (R296 to R298).
-/
namespace Sys2Proof.Machine
open Sys2Proof

/-! ### Reset -/

/-- What a reset leaves: every object at its default and nothing in progress. MRAM, the fused counter, the pins and the
power that AON keeps are not reset (R289, R361, R366, R378). -/
def volatileReset (power : Power) (s : State) : State :=
  { State.reset with
    now := s.now
    pending := s.pending
    out := s.out
    freeCount := s.freeCount
    mram := s.mram
    pins := s.pins
    boot := { Boot.reset with rollback := s.boot.rollback }
    power := power }

/-- R350: a reset releases a shutdown, and BOOT waits until the die has cooled. -/
def coolAfter (s : State) : Bool := s.power.cooling || s.power.shutdown

/-- The rails and the sensors that a reset leaves as they are. -/
def keptPower (s : State) : Power :=
  { Power.reset with
    railPhase := s.power.railPhase
    railOrder := s.power.railOrder
    railSince := s.power.railSince
    railAt := s.power.railAt
    railTries := s.power.railTries
    raised := s.power.raised
    table := s.power.table
    railFail := s.power.railFail
    vcore := s.power.vcore
    fums := s.power.fums
    cooling := coolAfter s }

/-- R378, R380: the device goes into its internal reset: outputs as unconfigured, every session closed (R52). A shutdown or
DOZE has lowered rails, which are raised again. -/
def internalReset (s : State) : State :=
  let low := s.power.shutdown || s.devState == .doze
  let t := { (volatileReset (keptPower s) (printClock .halted s)) with
    test := { Test.reset with opcode := s.test.opcode, scanLocked := s.test.scanLocked, ictCells := s.test.ictCells } }
  if low then startRails t else t

/-- RESET_ASSERTED (R350, R378, R380). -/
def execResetAsserted (dt : Nat) (s : State) : Host.Outcome State Fault Refusal :=
  run dt s (fun s => if s.pins.rstN then (internalReset s).modPins (fun p => { p with rstN := false }) else s)

/-- RESET_RELEASED (R379, R367, R368): the straps are latched; TEST_EN zeroises. -/
def execResetReleased (dt : Nat) (pairId : Bool) (bootSrc : Fin 4) (testEn : Bool) (s : State) :
    Host.Outcome State Fault Refusal :=
  run dt s (fun s =>
    if s.pins.rstN then s
    else
      let s := s.modPins (fun p => { p with rstN := true, pairId := pairId, bootSrc := bootSrc.val, testEn := testEn })
      if testEn then zeroStart true s else s)

/-- REFERENCE_CLOCK_FAILURE (R378): `sds` names SDSCLK, else REFCLK25. -/
def execReferenceClockFailure (dt : Nat) (sds : Bool) (s : State) : Host.Outcome State Fault Refusal :=
  run dt s (fun s =>
    if (if sds then s.pins.sdsclk else s.pins.refclk) then
      (internalReset s).modPins (fun p => if sds then { p with sdsclk := false } else { p with refclk := false })
    else s)

/-- R289, R341, R361, R377: the state after PWRGOOD has risen: a power-on reset, with AON driving the rails. -/
def powerOn (s : State) : State :=
  let t := volatileReset { Power.reset with cooling := coolAfter s } { s with now := 0 }
  let t := (t.modPins (fun p => { p with pwrgood := true, refclk := true, sdsclk := true })).modMram (fun m => { m with
    powerOns := m.powerOns + 1, times := [] })
  startRails t

/-- PWRGOOD_RISE (R377, R361, R341, R289): LOCAL_COUNT starts at 0 on power-on reset. -/
def execPwrgoodRise (dt : Nat) (s : State) : Host.Outcome State Fault Refusal :=
  if s.pins.pwrgood then run dt s (fun s => s) else .next { powerOn s with now := 0, pending := s.pending }

/-- R381, R350: outputs as unconfigured, and the rails that were raised lowered in reverse order. -/
def powerDown (s : State) : State :=
  let s := lowerAll (printClock .halted s)
  (volatileReset { Power.reset with cooling := coolAfter s } s).modPins (fun p => { p with pwrgood := false })

/-- PWRGOOD_FALL (R381). -/
def execPwrgoodFall (dt : Nat) (s : State) : Host.Outcome State Fault Refusal :=
  run dt s (fun s => if s.pins.pwrgood then powerDown s else s)

/-! ### The start of BOOT -/

/-- Table 13-8: the sources in order: 0 slot A, 1 slot B, 2 PCIe download. -/
def bootOrder : Nat → List Nat
  | 0 => [0, 1]
  | 1 => [1, 0]
  | 2 => [2]
  | _ => [0, 1, 2]

/-- Table 13-11: the phase in which the sources left are awaited. -/
def bootPhase : List Nat → Nat
  | [] => 0
  | x :: _ => if x = 2 then 3 else 2

/-- R359: a retirement of the MRAM map takes effect again. -/
def reapply (key : Nat) (s : State) : State :=
  let cls := key / 2 ^ 24
  let ch := key % 2 ^ 24
  let s := match serviceBit cls with | some o => s.setBit o 0 ch false | none => s
  match cls with
  | 2 => s.modSch ch (fun x => { x with state := 4 })
  | 6 =>
    let s := { s with sram := s.sram.modify ch SramRow.reset (fun x => { x with remapped := true }) }
    s.setDv 0x7303 (ch / 2 ^ 20) (sparesLeft s (ch / 2 ^ 20))
  | 7 => s.modCore ch (fun x => { x with retired := true })
  | 8 => s.modFum ch (fun x => { x with retired := true })
  | _ => s

/-- R359: every retirement but those of head and pair lanes, which leave the map. -/
def reapplyAll (s : State) : State :=
  let s := s.modMram (fun m => { m with retired := m.retired.filter (fun p => decide (2 ≤ p.1 / 2 ^ 24)) })
  let s := forAll s.mram.retired.keys reapply s
  forAll (List.range 9) (fun c s => s.setDv 0xC004 c (retiredCount s c)) s

/-- R251, R308, R351, R354, R359, R368: BOOT begins: trim, training, the sources. With TEST_EN no firmware is loaded. -/
def bootEnter (s : State) : State :=
  let s := setDev .boot 2 (closeAll s)
  if s.pins.testEn then s
  else
    let s := reapplyAll s
    let s := { s with subch := [] }
    let s := forAll (List.range 8) (fun k s => s.modSch k (fun x => { x with
      state := if isRetired s 2 k then 4 else 1 })) s
    let s := forAll trimItems trimStart (s.modPower (fun p => { p with trimAll := true, trimAllFail := false, cooling := false }))
    s.modBoot (fun b => { b with
      sources := bootOrder s.pins.bootSrc, phase := bootPhase (bootOrder s.pins.bootSrc) })

/-- R350: every sensor in service has been read and lies below 95 °C. -/
def cooled (s : State) : Bool :=
  (List.range 16).all (fun n => (s.fum n).retired ||
    (match (s.fum n).last with | some t => decide (t < 1520) | none => false))

/-- R378: may BOOT start? That the clocks run is what the command says. -/
def bootReady (s : State) : Bool :=
  s.devState == .halted && s.pins.pwrgood && s.pins.rstN && s.power.railPhase == 3 && !s.power.shutdown &&
  (!s.power.cooling || cooled s)

/-- BOOT_START (R378). -/
def execBootStart (dt : Nat) (s : State) : Host.Outcome State Fault Refusal :=
  run dt s (fun s =>
    if bootReady s then bootEnter (s.modPins (fun p => { p with refclk := true, sdsclk := true })) else s)

/-! ### The image (R309) -/

/-- The fused rollback counter. -/
def rollbackFuse (s : State) : Nat := s.boot.rollback.getD Config.rollbackFuse.toNat

/-- A field of an image header (Table 13-9). -/
def imgField (bs : List Byte) (o n : Nat) : Nat := fieldLE bs o n
def imgBytes (bs : List Byte) (o n : Nat) : List Byte := (bs.drop o).take n
/-- IMAGE_LEN. -/
def imgLen (bs : List Byte) : Nat := imgField bs 8 4
/-- KEY_INDEX. -/
def imgKey (bs : List Byte) : Nat := imgField bs 18 1
/-- PUBKEY. -/
def imgPub (bs : List Byte) : List Byte := imgBytes bs 88 96

/-- Table 13-10, code 0x01. -/
def imgMagic (bs : List Byte) : Bool :=
  decide (512 ≤ bs.length) && imgField bs 0 4 == 0x49464751 && imgField bs 4 4 == 1 && bitsN (imgField bs 19 1) 7 1 == 0 &&
  imgField bs 20 4 == 0 && (imgBytes bs 280 232).all (fun b => b == 0)

/-- Table 13-10, code 0x02: the SYSTEM region lies at core address 0x1_0000_0000 (Table 13-1). -/
def imgFits (bs : List Byte) : Bool :=
  let n := imgLen bs
  let a := imgField bs 24 8
  decide (4 ≤ n) && decide (n ≤ 50331648) && decide (512 + n ≤ bs.length) && decide (0x100000000 ≤ a) &&
  decide (a + n ≤ 0x140000000)

/-- Table 13-10, code 0x04. -/
def imgKeyOk (bs : List Byte) : Bool :=
  decide (imgKey bs ≤ 3) && Config.keyProgrammed (imgKey bs) && sha384 (imgPub bs) == Config.keyFuse (imgKey bs)

/-- Table 13-10, code 0x05. -/
def imgSigned (bs : List Byte) : Bool :=
  ecdsaVerify (beNat (imgBytes bs 88 48)) (beNat (imgBytes bs 136 48)) (imgBytes bs 0 184) (beNat (imgBytes bs 184 48))
    (beNat (imgBytes bs 232 48))

/-- R309: the code of Table 13-10 for an image; fewer than 4 subchannels leave nowhere to load it. -/
def imgCode (s : State) (bs : List Byte) : Nat :=
  if ((List.range 8).filter (fun k => (s.sch k).state != 4)).length < 4 then 9
  else if !imgMagic bs then 1
  else if !imgFits bs then 2
  else if Config.keyRevoked (imgKey bs) then 3
  else if !imgKeyOk bs then 4
  else if !imgSigned bs then 5
  else if imgField bs 16 2 < rollbackFuse s then 6
  else if sha384 (imgBytes bs 512 (imgLen bs)) ≠ imgBytes bs 40 48 then 7
  else 0

/-- R309: record the code of a source. -/
def noteCode (src code : Nat) (s : State) : State :=
  s.modBoot (fun b =>
    if src = 0 then { b with slotA := code } else if src = 1 then { b with slotB := code } else { b with dlCode := code })

/-- R309: an image passed: self-test follows. -/
def imgPass (bs : List Byte) (s : State) : State := s.modBoot (fun b => { b with image := bs, phase := 5 })

/-- BOOT_SOURCE_DONE (R308, R309): the flash slot tried first in the list is loaded and checked. -/
def execBootSourceDone (dt : Nat) (answered : Bool) (image : List Byte) (s : State) : Host.Outcome State Fault Refusal :=
  run dt s (fun s =>
    match s.devState, s.boot.sources with
    | .boot, src :: rest =>
      if s.boot.phase = 2 then
        let code := if answered then imgCode s image else 8
        let s := noteCode src code s
        if code = 0 then imgPass image s else s.modBoot (fun b => { b with sources := rest, phase := bootPhase rest })
      else s
    | _, _ => s)

/-- DL_CTRL_GO (R310): the bytes in the download window, and DL_LENGTH. -/
def execDlCtrlGo (dt : Nat) (length : BitVec 32) (image : List Byte) (s : State) : Host.Outcome State Fault Refusal :=
  run dt s (fun s =>
    if s.devState = .boot ∧ s.boot.phase = 3 then
      s.modBoot (fun b => { b with dlLength := length.toNat, dlImage := image.take length.toNat, phase := 4 })
    else s)

/-- Table 13-11: the lengths that DL_LENGTH may have. -/
def dlFits (n : Nat) : Bool := decide (516 ≤ n) && decide (n ≤ 50332160)

/-- DOWNLOAD_CHECK_DONE (R309, R310). -/
def execDownloadCheckDone (dt : Nat) (s : State) : Host.Outcome State Fault Refusal :=
  run dt s (fun s =>
    if s.devState = .boot ∧ s.boot.phase = 4 then
      let c := imgCode s s.boot.dlImage
      let code := if 2 ≤ c && decide (c ≤ 7) || c == 0 then (if dlFits s.boot.dlLength then c else 2) else c
      let s := noteCode 2 code s
      if code = 0 then imgPass s.boot.dlImage s else s.modBoot (fun b => { b with phase := 3 })
    else s)

/-! ### Self-test (R373) -/

/-- The bits set in a mask below `n`. -/
def maskBits (v n : Nat) : List Nat := (List.range n).filter (bitN v)

/-- R357, R373: a channel that fails is retired at once, unless its class is at its limit. -/
def bootRetire (cls ch : Nat) (s : State) : State :=
  if isRetired s cls ch then s
  else if atLimit s cls then deviceFault 4 s
  else retire cls ch true s

/-- R251: the record of a training at BOOT of a subchannel; the eyes and Vref, and the step that failed, are the board's: free values. -/
def bootTrain (k : Nat) (ok : Bool) (s : State) : State :=
  let (d, s) := s.draw
  let x := d.toNat % 2 ^ 64
  s.setDv 0x7210 k (if ok then x / 2 ^ 16 * 2 ^ 16 + (1 + x / 2 ^ 8 % 3) * 2 ^ 8 else x / 2 ^ 16 * 2 ^ 16 + 3 * 2 ^ 8 + (1 + x % 255))

/-- R251: a subchannel has been trained, or is retired. -/
def trainOne (r : SelfTest) (k : Nat) (s : State) : State :=
  if (s.sch k).state = 4 then s.modSch k (fun x => { x with mib := r.subchMib })
  else if bitN r.trainFail.toNat k then
    (retire 2 k true (bootTrain k false s)).modSch k (fun x => { x with state := 4, mib := r.subchMib })
  else (bootTrain k true s).modSch k (fun x => { x with state := 2, mib := r.subchMib })

/-- R373: a row that failed is remapped to a spare. -/
def bootRow (key : Nat) (s : State) : State :=
  let q := key / 2 ^ 20 % 4
  let key := rowKey q (key % 2 ^ 20)
  if isRetired s 6 key then s
  else
    let out := sparesLeft s q == 0
    let s := retire 6 key true s
    let s := { s with sram := s.sram.modify key SramRow.reset (fun x => { x with remapped := true }) }
    let s := rejudge (s.setDv 0x7303 q (sparesLeft s q))
    if out then deviceFault 3 s else s

/-- The quarters that had rows remapped. -/
def rowQuarters (r : SelfTest) : Nat :=
  ((List.range 4).map (fun q => if r.sramRemapped.any (fun k => k / 2 ^ 20 % 4 == q) then 2 ^ q else 0)).sum

/-- R373: one ICT group flagged for BOOT. -/
def bootIct (g : Nat × BitVec 32) (s : State) : State :=
  if g.1 < ictGroups s ∧ bitN (ictField (ictTable s) g.1 12 1) 0 then
    ictSet g.1 g.2.toNat (ictVerdict s g.1 g.2.toNat) s
  else s

/-- C120.00 SELFTEST_RESULT. -/
def selftestResult (r : SelfTest) (ictFail : Bool) : Nat :=
  r.geyserFail.toNat + rowQuarters r * 2 ^ 32 + r.coreFail.toNat * 2 ^ 36 + r.deflateFail.toNat * 2 ^ 44 +
    b2n r.aesFail * 2 ^ 50 + b2n ictFail * 2 ^ 51

/-- R373: the tests' results take effect. -/
def selftestApply (r : SelfTest) (s : State) : State :=
  let s := forAll (List.range 8) (trainOne r) s
  let s := forAll r.sramRemapped bootRow s
  let s := forAll (maskBits r.geyserFail.toNat 32) (bootRetire 3) s
  let s := forAll (maskBits r.inflateFail.toNat 32) (bootRetire 4) s
  let s := forAll (maskBits r.deflateFail.toNat 6) (bootRetire 5) s
  let s := forAll (maskBits r.coreFail.toNat 8) (fun c s =>
    let s := bootRetire 7 c s
    if isRetired s 7 c then s.modCore c (fun x => { x with retired := true }) else s) s
  let s := forAll r.ictMisr bootIct s
  s.setDv 0xC120 0 (selftestResult r (decide (0 < ictCount s 2)))

/-- R373, R251: what keeps the device in BOOT. -/
def bootFails (r : SelfTest) (s : State) : Bool :=
  bitN r.coreFail.toNat 0 || r.systemFail || r.sramDeviceFail ||
  decide (((List.range 8).filter (fun k => (s.sch k).state == 2)).length < 4)

/-- The domains that are not to be off come to RUN (Table 15-1). -/
def domainsUp (s : State) : State :=
  forAll (List.range domainCount) (fun d s =>
    if domainOff s d then s
    else s.modPower (fun p => { p with domains := p.domains.set d 2, idleSince := p.idleSince.set d s.now })) s

/-- R309: the image runs in machine mode on core 0 of cluster 0 as thread 0. -/
def firmwareStart (s : State) : State :=
  makeReady 0 (s.modThread 0 (fun _ => newThread 0 0 0 (imgField s.boot.image 32 8) false))

/-- Table 13-9: ADVANCE raises the fused counter after a successful boot. -/
def advanceFuse (s : State) : State :=
  let v := imgField s.boot.image 16 2
  if bitN (imgField s.boot.image 19 1) 0 ∧ rollbackFuse s < v then s.modBoot (fun b => { b with rollback := some v }) else s

/-- R350: firmware posts THERMAL_SHUTDOWN from a record that stands. -/
def shutdownPost (s : State) : State :=
  let r := s.mram.shutdownRec
  if r.all (fun b => b == 0) then s
  else postD .thermalShutdown 0 (r.take 8 ++ (r.drop 16).take 1 ++ (r.drop 18).take 2) s

/-- R267: at the end of BOOT a single unit holds REINS_OUT asserted. -/
def bootPair (s : State) : State :=
  s.modPair (fun x => { x with bootAt := s.now, reinsOut := !pairMode s })

/-- R29, R309, R373: BOOT ends in CONFIG. -/
def bootEnd (s : State) : State :=
  let s := advanceFuse (s.modBoot (fun b => { b with phase := 6 }))
  let s := bootPair (domainsUp s)
  shutdownPost (firmwareStart (setDev .config 2 s))

/-- BOOT_SELFTEST_DONE (R373, R359, R251, R29). -/
def execBootSelftestDone (dt : Nat) (r : SelfTest) (s : State) : Host.Outcome State Fault Refusal :=
  run dt s (fun s =>
    if s.devState = .boot ∧ s.boot.phase = 5 then
      let s := selftestApply r s
      if bootFails r s then
        let few := ((List.range 8).filter (fun k => (s.sch k).state == 2)).length < 4
        let s := s.modBoot (fun b => { b with phase := 0 })
        if few then noteCode (s.boot.sources.headD 2) 9 s else s
      else bootEnd s
    else s)

/-! ### Threads and extensions -/

/-- 9011.00 THREAD_POST (R298). -/
def threadPostEffect : Effect := onDev (fun _ w s =>
  if w.bits 4 0 = 31 then (stRange, s) else (stOK, judgeWait 4 (postFlag (w.bits 24 16) (w.bits 4 0) s)))

/-- THREAD_POST (R298). -/
def execThreadPost (dt : Nat) (door : Door) (val : Slot) (s : State) : Host.Outcome State Fault Refusal :=
  run dt s (writeThrough door 0x9011 0 val threadPostEffect)

/-- R297: an extension is stopped by command. -/
def extStop (k : Nat) (s : State) : State := if extRunning s k then stopExt k 4 0 true s else s

/-- 9012.00 THREAD_KILL (R297). -/
def threadKillEffect : Effect := onDev (fun _ w s =>
  if w.toNat < 448 ∨ 511 < w.toNat then (stRange, s) else (stOK, extStop (w.toNat - 448) s))

/-- THREAD_KILL (R297). -/
def execThreadKill (dt : Nat) (door : Door) (val : Slot) (s : State) : Host.Outcome State Fault Refusal :=
  run dt s (writeThrough door 0x9012 0 val threadKillEffect)

/-- Table 13-1: an address of the SYSTEM region. -/
def systemAddr (d : Nat) : Nat := 0x100000000 + d % 2 ^ 30

/-- R296: an extension starts from its entry with a zeroed data region; where in the SYSTEM region the device places its code and its
data are free values. -/
def extStart (k : Nat) (s : State) : State :=
  let s := if extRunning s k then stopThread (448 + k) .free s else s
  let (d, s) := s.draw
  let (e, s) := s.draw
  let c := s.dv 0x9041 k
  let s := s.modThread (448 + k) (fun _ =>
    { newThread (bitsN c 2 0) (bitsN c 19 18) (bitsN c 17 16) (systemAddr d.toNat) false with data := systemAddr e.toNat })
  judgeWait 4 (makeReady (448 + k) (setExtStatus k 0 2 s))

/-- 9042 EXT_CMD (R296, R297). -/
def extCmdEffect : Effect := onDev (fun k w s =>
  if w = 1 then
    if ((s.dwide 0x9040 k).getD []).isEmpty then (stState, s) else (stOK, extStart k s)
  else if w = 2 then (stOK, extStop k s)
  else (stRange, s))

/-- EXT_CMD_START (R296). -/
def execExtCmdStart (dt : Nat) (door : Door) (sub : Fin 64) (s : State) : Host.Outcome State Fault Refusal :=
  run dt s (writeThrough door 0x9042 sub 1 extCmdEffect)

/-- EXT_CMD_STOP (R297). -/
def execExtCmdStop (dt : Nat) (door : Door) (sub : Fin 64) (s : State) : Host.Outcome State Fault Refusal :=
  run dt s (writeThrough door 0x9042 sub 2 extCmdEffect)

end Sys2Proof.Machine
end

