-- ==== Sys2Proof/Machine/Lanes.lean ====
section
/-!
DEFINITION. Commands of the head link (07_head_link.md): lock and signal of a lane, upstream frames, training, management, and
LANE_CMD.
-/
namespace Sys2Proof.Machine
open Sys2Proof

/-- R187: a lane in RELOCK returns to RUN once both directions have held lock for 64 blocks. -/
def relockStep (p : Nat) (s : State) : State :=
  let x := s.port p
  if x.upLock && x.dnLock then
    match x.lockAt with
    | some t => if 100 * t + 64 * blockTime100 s ≤ 100 * s.now then enterRun p s else s
    | none => s.modPort p (fun x => { x with lockAt := some s.now })
  else s.modPort p (fun x => { x with lockAt := none })

/-- UPSTREAM_BLOCK_LOCK (R165, R187, Table 07-9). -/
def execUpstreamBlockLock (dt : Nat) (port : Fin 64) (s : State) : Host.Outcome State Fault Refusal :=
  run dt s (fun s =>
    match (s.port port).st with
    | .off | .retired => s
    | st =>
      let s := s.modPort port (fun x => { x with upLock := true, upLos := false, present := true })
      match st with
      | .detect => enterTrain port s
      | .relock => relockStep port s
      | .wake => if (s.port port).dnLock then enterRun port s else s
      | _ => s)

/-- R186: the states in which a lane has a link to lose. -/
def LaneState.linked : LaneState → Bool
  | .train | .ident | .run | .relock | .wake | .mismatch => true
  | _ => false

/-- LOSS_OF_LOCK (R165, R186, R187). -/
def execLossOfLock (dt : Nat) (port : Fin 64) (s : State) : Host.Outcome State Fault Refusal :=
  run dt s (fun s =>
    let had := (s.port port).upLock
    let s := s.modPort port (fun x => { x with upLock := false, lockAt := none })
    if had && (s.port port).st.linked then laneFault port 2 s else s)

/-- LOSS_OF_SIGNAL (R186, R187): an upstream LOS. -/
def execLossOfSignal (dt : Nat) (port : Fin 64) (s : State) : Host.Outcome State Fault Refusal :=
  run dt s (fun s =>
    let had := (s.port port).upLos
    let s := s.modPort port (fun x => { x with upLos := true, upLock := false, lockAt := none })
    if !had && (s.port port).st.linked then laneFault port 1 s else s)

/-- SIGNAL_DETECT (R186): the upstream input is above its threshold again. -/
def execSignalDetect (dt : Nat) (port : Fin 64) (s : State) : Host.Outcome State Fault Refusal :=
  run dt s (fun s =>
    match (s.port port).st with
    | .off | .retired => s
    | _ => s.modPort port (fun x => { x with upLos := false, present := true }))

/-- UPSTREAM_IDLE (Table 07-1, R186, R187, R189). -/
def execUpstreamIdle (dt : Nat) (port : Fin 64) (dnLock losSeen : Bool) (input : Fin 2) (echo : Byte) (s : State) :
    Host.Outcome State Fault Refusal :=
  run dt s (fun s =>
    let x := s.port port
    if x.st.linked || x.st == .detect then
      let s := s.modPort port (fun x => { x with dnLock := dnLock, input := input, echo := echo.toNat, present := true })
      match x.st with
      | .run | .ident | .mismatch =>
        if losSeen then laneFault port 1 s
        else if x.dnLock && !dnLock then laneFault port 2 s
        else s
      | .relock => relockStep port s
      | .wake => if dnLock && x.upLock then enterRun port s else s
      | _ => s
    else s)

/-- Table 07-12: HEAD_HOT is posted as the temperature crosses HEAD_TEMP_MAX upward. -/
def headTemp (p : Nat) (temp : Int) (s : State) : State :=
  let hot := decide (s.dvi 0x4912 0 < temp)
  let was := (s.port p).hot
  let s := s.modPort p (fun x => { x with hot := hot })
  if hot && !was then postD .headHot 0 (leBytes 1 p ++ leBytes 2 (ofSigned 16 temp)) s else s

/-- R186: failed CRCs in the downstream direction, as the head counts them for this unit's input. -/
def downstreamCrc (p n : Nat) (s : State) : State :=
  let x := s.port p
  let new := match x.dnCrc with | some m => (n + 2 ^ 32 - m) % 2 ^ 32 | none => 0
  let s := s.modPort p (fun x => { x with dnCrc := some n, dnCrcTimes := crcWindow s.now x.dnCrcTimes new })
  if 16 ≤ (s.port p).dnCrcTimes.length then laneFault p 3 (s.modPort p (fun x => { x with dnCrcTimes := [] })) else s

/-- R177: a STATUS frame (Table 07-6) is copied into the objects of Table 07-12. -/
def takeStatus (p : Nat) (bs : List Byte) (s : State) : State :=
  let unit := b2n s.pins.pairId
  let temp := toSigned 16 (fieldLE bs 0 2)
  let mine := fieldLE bs (8 + 4 * unit) 4
  let other := fieldLE bs (8 + 4 * (1 - unit)) 4
  let s := s.modPort p (fun x => { x with
    telemAt := some s.now, partnerAt := if s.dv 0x4903 p = other then x.partnerAt else s.now })
  let s := (s.setDvi 0x4900 p temp).setDv 0x4901 p (fieldLE bs 6 2 * 65536 + (byteAt bs 2).toNat)
  let s := ((s.setDv 0x4902 p mine).setDv 0x4903 p other).setDv 0x4904 p (fieldLE bs 24 4)
  downstreamCrc p (fieldLE bs (16 + 4 * unit) 4) (headTemp p temp s)

/-- R166, R186: an upstream frame: nothing is received without lock; one that fails its CRC is counted; one that is not valid
is discarded. -/
def upFrame (p : Nat) (f : QhlFrame) (take : State → State) (s : State) : State :=
  if !(s.port p).upLock then s
  else if !qhlCrc f then frameCrc p s
  else if qhlValid f then take s
  else s

/-- Table 07-1: telemetry frames of a TTYPE. -/
def isTelemetry (f : QhlFrame) (ttype : Nat) : Bool := byteAt f.start 0 == 0x55 && (byteAt f.start 1).toNat == ttype

/-- STATUS_TELEMETRY (R177, R186). -/
def execStatusTelemetry (dt : Nat) (port : Fin 64) (ends : QhlEnds) (data : List Byte) (s : State) :
    Host.Outcome State Fault Refusal :=
  if data.length = 32 then
    let f := framed ends data
    run dt s (upFrame port f (fun s => if isTelemetry f 1 then takeStatus port data s else s))
  else .fault (.malformed "STATUS")

/-- The set bits of an ACT_RESULT as nozzles of the head. -/
def actNozzles (first count : Nat) (bits : List Byte) : List Nat :=
  (List.range count).filterMap (fun j => if (byteAt bits (j / 8)).toNat / 2 ^ (j % 8) % 2 = 1 then some (first + j) else none)

/-- R177, R117, R121, R122: the outcomes of an actuator check for one bar. -/
def actBar (p : Nat) (ks : List Nat) (b : Nat) (s : State) : State :=
  let before := s.curW b 0x3400 p
  let s := applyOutcomes b p (ks.map (fun k => (k, .act))) s
  if serviceMoved s b p before then autoCommit b s else s

/-- Table 07-7: the nozzles that an ACT_RESULT names as failed. -/
def actFailed (data : List Byte) : List Nat := actNozzles (fieldLE data 0 2) (fieldLE data 2 2) (data.drop 8)

/-- R177: the outcomes of an actuator check. -/
def takeAct (p : Nat) (data : List Byte) (s : State) : State :=
  let ks := actFailed data
  let s := s.setDv 0x4906 p ks.length
  let s := postD .actReport 0 (leBytes 1 p ++ leBytes 2 ks.length ++ leBytes 1 0 ++ leBytes 4 (fieldLE data 4 4)) s
  let ks := ks.filter (fun k => decide (k < headSize s p))
  if holder s then forAll (servedBars s p) (actBar p ks) s else s

/-- ACT_RESULT (R177, Table 07-7). -/
def execActResult (dt : Nat) (port : Fin 64) (ends : QhlEnds) (first count : BitVec 16) (checkId : BitVec 32) (bits : List Byte)
    (s : State) : Host.Outcome State Fault Refusal :=
  let f := framed ends (actData first count checkId bits)
  run dt s (upFrame port f (fun s => if isTelemetry f 2 then takeAct port f.data s else s))

/-- The 8-byte words of data blocks. -/
def dataWords (bs : List Byte) : List (BitVec 64) :=
  (List.range (bs.length / 8)).map (fun i => BitVec.ofNat 64 (fieldLE bs (8 * i) 8))

/-- R172: the answer to the request in flight under its TAG, with OP + 0x80 and status OK. -/
def takeAnswer (p : Nat) (f : QhlFrame) (s : State) : State :=
  match inFlight s p (byteAt f.start 2).toNat with
  | some r =>
    if byteAt f.start 0 = 0x78 ∧ (byteAt f.start 1).toNat = r.op + 0x80 ∧ byteAt f.start 3 = 0 then
      answered p r (dataWords f.data) s
    else s
  | none => s

/-- MGMT_RESPONSE (R172). A response other than OK acknowledges nothing (DESIGN CHOICE, assumption log 29). -/
def execMgmtResponse (dt : Nat) (port : Fin 64) (ends : QhlEnds) (tag status : Byte) (words : List (BitVec 64)) (s : State) :
    Host.Outcome State Fault Refusal :=
  let f := mgmtAnswer ends tag status words
  run dt s (upFrame port f (takeAnswer port f))

/-- MGMT_TIMEOUT (R172). -/
def execMgmtTimeout (dt : Nat) (port : Fin 64) (tag : Byte) (s : State) : Host.Outcome State Fault Refusal :=
  run dt s (fun s =>
    match inFlight s port tag.toNat with
    | some r => if r.sentAt + 20 * Config.micro ≤ s.now ∧ (s.port port).st.manages then reqTimeout port r s else s
    | none => s)

/-- TELEM_TIMEOUT (R186): no STATUS for 4 × TELEM_PERIOD. -/
def execTelemTimeout (dt : Nat) (port : Fin 64) (s : State) : Host.Outcome State Fault Refusal :=
  run dt s (fun s =>
    match (s.port port).st, (s.port port).telemAt with
    | .run, some t => if t + 4 * s.dv 0x4911 0 * Config.micro ≤ s.now then laneFault port 4 s else s
    | _, _ => s)

/-- TRAIN_FOM (R183). -/
def execTrainFom (dt : Nat) (port : Fin 64) (row : Fin 16) (h v : Byte) (e : BitVec 16) (s : State) :
    Host.Outcome State Fault Refusal :=
  run dt s (fun s =>
    if (s.port port).st = .train ∧ (s.port port).row = row ∧ (s.port port).rowAt ≤ s.now then
      trainStep port (if e = 0 then h.toNat * v.toNat else 0) s
    else s)



/-- FOM_TIMEOUT (R183): no FOM within 5 µs of the last of the 4,096 training blocks. -/
def execFomTimeout (dt : Nat) (port : Fin 64) (s : State) : Host.Outcome State Fault Refusal :=
  run dt s (fun s =>
    if (s.port port).st = .train ∧ (s.port port).rowAt + 4096 * blockTime100 s / 100 + 5 * Config.micro ≤ s.now then
      trainStep port 0 s
    else s)

/-- RELOCK_TIMEOUT (R187): a RELOCK not ended within 40 µs becomes TRAIN. -/
def execRelockTimeout (dt : Nat) (port : Fin 64) (s : State) : Host.Outcome State Fault Refusal :=
  run dt s (fun s =>
    if (s.port port).st = .relock ∧ (s.port port).since + 40 * Config.micro ≤ s.now then laneFault port 6 s else s)

/-- WAKE_TIMEOUT (R189): a WAKE that lasts longer than 2 ms becomes TRAIN. -/
def execWakeTimeout (dt : Nat) (port : Fin 64) (s : State) : Host.Outcome State Fault Refusal :=
  run dt s (fun s =>
    if (s.port port).st = .wake ∧ (s.port port).since + 2 * Config.milli ≤ s.now then laneFault port 8 s else s)

/-- UPSTREAM_DEEP_ENTER (R189): the head has sent its 16 DEEP_ENTER blocks. -/
def execUpstreamDeepEnter (dt : Nat) (port : Fin 64) (s : State) : Host.Outcome State Fault Refusal :=
  run dt s (fun s =>
    if (s.port port).st = .deep then s.modPort port (fun x => { x with deepHead := true }) else s)

/-- R189: a lane in RUN goes into DEEP. -/
def enterDeep (p : Nat) (s : State) : State :=
  if (s.port p).st = .run then
    ((setLane p .deep s).modPort p (fun x => { x with deepHead := false, dnLock := false })).emit (.deepEnter p)
  else s

/-- 4802 LANE_CMD (R183, R188, R189). A command that the lane's state gives no meaning to does nothing (DESIGN CHOICE,
assumption log 30). -/
def laneCommand : Effect := fun _ _ p w s =>
  let st := (s.port p).st
  if w = 1 then
    (stOK, match st with
      | .train | .ident | .run | .relock | .wake | .mismatch => enterTrain p (dropWaits p s)
      | _ => s)
  else if w = 2 then
    if (servedBars s p).any (fun b => (s.bar b).vb == .armed || (s.bar b).vb == .printing) then (stState, s)
    else (stOK, enterDeep p s)
  else if w = 3 then (stOK, wakeLane p s)
  else if w = 4 then
    (stOK, match st with
      | .retired => enterDetect p (reinstateChan 0 p s)
      | _ => s)
  else (stRange, s)

/-- LANE_CMD_RETRAIN (R183). -/
def execLaneCmdRetrain (dt : Nat) (door : Door) (sub : Fin 64) (s : State) : Host.Outcome State Fault Refusal :=
  run dt s (writeThrough door 0x4802 sub 1 laneCommand)

/-- LANE_CMD_DEEP_ENTER (R189). -/
def execLaneCmdDeepEnter (dt : Nat) (door : Door) (sub : Fin 64) (s : State) : Host.Outcome State Fault Refusal :=
  run dt s (writeThrough door 0x4802 sub 2 laneCommand)

/-- LANE_CMD_DEEP_EXIT (R189). -/
def execLaneCmdDeepExit (dt : Nat) (door : Door) (sub : Fin 64) (s : State) : Host.Outcome State Fault Refusal :=
  run dt s (writeThrough door 0x4802 sub 3 laneCommand)

/-- LANE_CMD_REINSTATE (R188). -/
def execLaneCmdReinstate (dt : Nat) (door : Door) (sub : Fin 64) (s : State) : Host.Outcome State Fault Refusal :=
  run dt s (writeThrough door 0x4802 sub 4 laneCommand)

/-- Was a burst of this line missing at the head, or its strike lost? -/
def missedLine (p line : Nat) (a b lost : Bool) (s : State) : State :=
  let rec_ := leBytes 6 line ++ leBytes 1 p ++ leBytes 1 (b2n a + 2 * b2n b + 4 * b2n lost) ++ leBytes 8 s.time
  let s := { s with missLog := s.missLog.set (s.missNext % 1024) rec_, missNext := s.missNext + 1 }
  let rows := (if a || lost then halfRows s p 0 else []) ++ (if b || lost then halfRows s p 1 else [])
  let first := if a || lost then 0 else 1
  let s := forAll (servedBars s p) (fun v s =>
    let at_ := rowPage s v p first line
    let d (port : Nat) := leBytes 1 port ++ leBytes 6 line ++ leBytes 1 0 ++ leBytes 4 ((at_.map (fun q => q.2)).getD 0)
    post { ev := .burstLost, bar := some v, page := (at_.map (fun q => q.1.num)).getD 0, idx := 0, sub := 0,
           flags := b2n a + 2 * b2n b + 4 * b2n lost, data := d ((instOf s v p).getD 0), devData := d p } s) s
  markRows p line stBurstLost rows true s

/-- LINE_STATUS (R178, Table 07-5). The 40 bits of the line are completed from the lines struck on the lane. -/
def execLineStatus (dt : Nat) (port : Fin 64) (d1 _d2 : Byte) (line : BitVec 40) (s : State) :
    Host.Outcome State Fault Refusal :=
  run dt s (fun s =>
    if !(s.port port).upLock then s
    else
      let struck := (s.port port).struck
      let full := (s.trig.line / 2 ^ 40) * 2 ^ 40 + line.toNat
      let n := if s.trig.line < full ∧ 2 ^ 40 ≤ full then full - 2 ^ 40 else full
      let lost := struck.filter (fun m => decide (m < n))
      let s := s.modPort port (fun x => { x with struck := struck.filter (fun m => decide (n < m)) })
      let s := forAll lost (fun m s => missedLine port m false false true s) s
      let a := bitsN d1.toNat 1 0 == 0
      let b := bitsN d1.toNat 3 2 == 0
      if a || b then missedLine port n a b false s else s)

end Sys2Proof.Machine
end

