-- ==== Sys2Proof/Machine/Link.lean ====
section
/-!
DEFINITION. The lanes of the pair link and its loss (R268, R277), and the supplies of a standby (R266, R332).
-/
namespace Sys2Proof.Machine
open Sys2Proof

/-- R332: a standby's HVEN follows the mirror: it starts its own dead time as the enable arrives. -/
def supplyFollow (k : Nat) (s : State) : State :=
  let x := s.supply k
  if x.mirrorEn && s.pair.linkUp then
    if x.st = .off then riseSupply k s else s
  else
    let s := s.modSupply k (fun x => { x with hven := false, riseLine := none, riseAt := none, inBlank := false })
    if x.st = .tripped then s else setSupply k .off s

/-- 8004: the state of a lane. -/
def pairLane (s : State) (n : Nat) : Nat := s.pair.lanes.getD n 0

/-- Lanes that are up. -/
def lanesUp (s : State) : Nat := ((List.range 4).filter (fun n => pairLane s n == 2)).length

/-- R268: the lanes that run: in DOZE lane 0 alone. -/
def linkLanes (s : State) : List Nat := if s.devState == .doze then [0] else List.range 4

/-- Set every lane that runs and is not retired. -/
def setLanes (v : Nat) (s : State) : State :=
  let ns := linkLanes s
  s.modPair (fun x => { x with lanes := ns.foldl (fun (m : Map Nat) n => if m.getD n 0 = 3 then m else m.set n v) x.lanes })

/-- R277: the link is down: both units are ISOLATED; a standby drives its shared outputs as Table 11-1 says. -/
def linkLost (lane : Nat) (s : State) : State :=
  let s := s.modPair (fun x => { x with linkUp := false })
  let s := postD .pairLink 0 (leBytes 1 (lanesUp s) ++ leBytes 1 lane) s
  let s := setPairState .isolated s
  if holder s then s else forAll (List.range 16) supplyFollow (standbyOutputs s)

/-- R268: DOZE leaves lane 0 alone running; a link with no lane left is down. -/
def dozeLink (s : State) : State :=
  if pairMode s then
    let s := forAll [1, 2, 3] (fun n s => if pairLane s n = 3 then s else s.modPair (fun x => { x with lanes := x.lanes.set n 0 })) s
    if s.pair.linkUp && lanesUp s == 0 then linkLost 0xFF s else s
  else s

/-- R268: after DOZE the other lanes train again. -/
def dozeLinkBack (s : State) : State :=
  if pairMode s then
    forAll [1, 2, 3] (fun n s => if pairLane s n = 0 then s.modPair (fun x => { x with lanes := x.lanes.set n 1 }) else s) s
  else s

end Sys2Proof.Machine
end

