-- ==== Sys2Proof/Machine/Network.lean ====
section
/-!
DEFINITION. The press network and time (12_network_time.md): the three-port switch with its transparent clock (R283 to
R287), the clock servo (R288), TIME and its re-basing (R289 to R291), and the links (R293).
-/
namespace Sys2Proof.Machine
open Sys2Proof

/-! ### Switch -/

/-- 8113: is a switch port up? Port 2 is the device's own MAC. -/
def ethUp (s : State) (p : Nat) : Bool := p == 2 || bitN (s.dv 0x8113 p) 0

/-- 8113: does an external port run at 100 Mbit/s? -/
def ethSlow (s : State) (p : Nat) : Bool := bitN (s.dv 0x8113 p) 1

/-- R286: the subindex of a port's latency constants at its present speed. -/
def latSub (s : State) (p : Nat) : Nat := if ethSlow s p then p + 2 else p

/-- The broadcast address. -/
def macAll : Nat := 0xFFFFFFFFFFFF

/-- R286, Table 12-1: the multicast addresses of PTP, 01-1B-19-00-00-00 and that of 224.0.1.129. -/
def macPtp (m : Nat) : Bool := m == 0x011B19000000 || m == 0x01005E000181

/-- A group address: the lowest bit of the first octet. -/
def macGroup (m : Nat) : Bool := bitN m 40

/-- R283: what port 2 receives. -/
def macOwn (m : Nat) : Bool := m == Config.macAddr.toNat || m == macAll || macPtp m

/-- R283: is the frame accepted? -/
def ethGood (f : EthFrame) : Bool := f.fcsOk && decide (f.tags ≤ 1) && decide (f.len ≤ 1522)

/-- R284: does the frame take the high queue? -/
def ethHigh (f : EthFrame) : Bool := f.ptp.isSome || (f.tags == 1 && decide (5 ≤ f.pcp))

/-- R283: the address entry of the source; a full table takes no new address (assumption log 41). -/
def macLearn (p : Nat) (src : Nat) (s : State) : State :=
  if macGroup src then s
  else s.modNet (fun n =>
    if (n.macs.get? src).isSome || decide (n.macs.length < 1024) then
      { n with macs := n.macs.set src { port := p, at_ := s.now } }
    else n)

/-- R283: the ports that a frame goes out of. -/
def egressPorts (s : State) (p : Nat) (f : EthFrame) : List Nat :=
  let dst := f.dst.toNat
  let all := if macGroup dst then [0, 1, 2]
    else match s.net.macs.get? dst with
      | some e => [e.port]
      | none => [0, 1, 2]
  all.filter (fun q => q != p && ethUp s q && (q != 2 || macOwn dst))

/-- R284: the bytes waiting in a queue. -/
def queueBytes (q : List EthQueued) : Nat := (q.map (fun x => x.f.len)).sum

/-- R286: the ingress timestamp of a frame, with RX_LAT at the speed that the port has now. -/
def ingressAt (s : State) (p : Nat) : Int := (s.now : Int) - (s.dv 0x8110 (latSub s p) : Int)

/-- R284: queue a frame for a port, or drop and count it. R45: a datagram that the MOA service does not accept is
counted as it reaches the device. -/
def enqueue (p : Nat) (f : EthFrame) (q : Nat) (s : State) : State :=
  let key := q * 2 + b2n (ethHigh f)
  let l := s.net.queues.getD key []
  if 16384 < queueBytes l + f.len then s.bump 0x8115 q
  else
    let s := s.modNet (fun n => { n with queues := n.queues.set key (l ++ [{ f := f, inPort := p, inAt := ingressAt s p }]) })
    if q == 2 && f.moaBad then s.bump 0x1131 1 else s

/-- ETH_FRAME_RX (R283, R284, R45). -/
def execEthFrameRx (dt : Nat) (port : Fin 3) (f : EthFrame) (s : State) : Host.Outcome State Fault Refusal :=
  run dt s (fun s =>
    let p := port.val
    if !ethUp s p then s
    else if !ethGood f then s.bump 0x8115 p
    else
      let s := macLearn p f.src.toNat s
      forAll (egressPorts s p f) (enqueue p f) s)

/-- R287: the residence in units of 2^-16 ns. -/
def residence (s : State) (inAt : Int) (outPort outAt : Nat) : Int :=
  let r := ((outAt + s.dv 0x8111 (latSub s outPort) : Nat) : Int) - inAt
  (r * 65536 * (((2 ^ 40 : Nat) : Int) + s.clock.rate)) / ((2 ^ 40 : Nat) : Int)

/-- A sum in ones' complement of 16 bits. -/
def onesAdd (a b : Nat) : Nat := if a + b < 65536 then a + b else a + b - 65535

/-- The 16-bit words of a correctionField. -/
def corrWords (v : BitVec 64) : List Nat := (List.range 4).map (fun i => v.toNat / 2 ^ (16 * i) % 65536)

/-- R287: the UDP checksum after the correctionField has changed from `old` to `new`: 0 stays 0 (PRESUMED from RFC 768 and RFC 1624,
assumption log 142). -/
def udpUpdate (old new : BitVec 64) (sum : BitVec 16) : BitVec 16 :=
  if sum = 0 then 0
  else
    let less := (corrWords old).foldl (fun a w => onesAdd a (65535 - w)) (65535 - sum.toNat)
    let r := 65535 - (corrWords new).foldl onesAdd less
    BitVec.ofNat 16 (if r = 0 then 65535 else r)

/-- R287: a frame with residence `r` added to its correctionField, its UDP checksum and its FCS following. -/
def corrected (f : EthFrame) (r : Int) : EthFrame :=
  let c := BitVec.ofNat 64 (ofSigned 64 (f.correction.toInt + r))
  { f with correction := c, udp := f.udp.map (udpUpdate f.correction c), fcsOk := true }

/-- R287, Table 12-1: the frame as it leaves, and the counters. -/
def transparent (x : EthQueued) (q : Nat) (s : State) : EthFrame × State :=
  match x.f.ptp with
  | none => (x.f, s)
  | some (kind, version) =>
    if x.inPort = 2 ∨ q = 2 then (x.f, s)
    else if version = 2 ∧ kind ≤ 1 then
      (corrected x.f (residence s x.inAt q s.now), s.count64 0x8116 0 1)
    else if version ≠ 2 ∨ kind = 2 ∨ kind = 3 then (x.f, s.bump 0x8116 1)
    else (x.f, s)

/-- Take the frame at the front of a queue out through port `q`. -/
def sendFrom (q key : Nat) (x : EthQueued) (rest : List EthQueued) (s : State) : State :=
  let s := s.modNet (fun n => { n with queues := n.queues.set key rest })
  let r := transparent x q s
  r.2.emit (.eth q r.1)

/-- ETH_FRAME_EGRESS (R284, R287): the high queue first. -/
def execEthFrameEgress (dt : Nat) (port : Fin 3) (s : State) : Host.Outcome State Fault Refusal :=
  run dt s (fun s =>
    let q := port.val
    if !ethUp s q then s
    else match s.net.queues.getD (q * 2 + 1) [], s.net.queues.getD (q * 2) [] with
      | x :: rest, _ => sendFrom q (q * 2 + 1) x rest s
      | [], x :: rest => sendFrom q (q * 2) x rest s
      | [], [] => s)

/-- MAC_AGE_EXPIRY (R283). -/
def execMacAgeExpiry (dt : Nat) (mac : BitVec 48) (s : State) : Host.Outcome State Fault Refusal :=
  run dt s (fun s =>
    match s.net.macs.get? mac.toNat with
    | some e =>
      if e.at_ + s.dv 0x8117 0 * Config.second ≤ s.now then s.modNet (fun n => { n with macs := n.macs.erase mac.toNat })
      else s
    | none => s)

/-! ### TIME -/

/-- R290: re-base at count `t`. -/
def rebase (t : Nat) (s : State) : State :=
  { s with clock := { s.clock with
      offset := s.timeAt t, base := t
      past := (t, s.clock.offset, s.clock.base, s.clock.rate) :: s.clock.past.filter (fun q => keptTime s.now q.1) } }

/-- R290: the range of RATE_ADJ (R289). -/
def rateMax : Int := 1099511628

/-- R290: a change of RATE_ADJ re-bases first. -/
def setRate (r : Int) (s : State) : State :=
  if r = s.clock.rate then s
  else
    let s := rebase s.now s
    { s with clock := { s.clock with rate := r } }

/-- R290: TIME_STEP posted and counted. -/
def timeStepped (step : Int) (byHost : Bool) (s : State) : State :=
  postD .timeStep (b2n byHost) (leBytes 8 (ofSigned 64 step)) (s.bump 0x8103 1)

/-- R290: a step re-bases and then adds the step to OFFSET_NS. -/
def stepTime (step : Int) (byHost : Bool) (s : State) : State :=
  let s := rebase s.now s
  let s := { s with clock := { s.clock with offset := ofSigned 64 ((s.clock.offset : Int) + step) } }
  timeStepped step byHost s

/-- REBASE_TICK (R290): the re-base at exactly BASE_COUNT + 2^30. -/
def execRebaseTick (dt : Nat) (s : State) : Host.Outcome State Fault Refusal :=
  run dt s (fun s => if s.clock.base + 2 ^ 30 ≤ s.now then rebase (s.clock.base + 2 ^ 30) s else s)

/-- R291: TIME_SRC is 1. -/
def ptpOn (s : State) : Bool := s.dv 0x8102 0 == 1

/-- R291: refused with STATE while TIME_SRC is 1. -/
def hostTime (eff : Effect) : Effect := fun row bar sub w s =>
  if ptpOn s then (stState, s) else eff row bar sub w s

/-- 8101.02 TIME_SET (R291, R290). -/
def timeSetEffect : Effect := hostTime (onDev (fun _ w s =>
  let step := toSigned 64 ((w.toNat + 2 ^ 64 - s.time % 2 ^ 64) % 2 ^ 64)
  let s := rebase s.now s
  (stOK, timeStepped step true { s with clock := { s.clock with offset := w.toNat } })))

/-- 8101.03 TIME_STEP (R291, R290). -/
def timeStepEffect : Effect := hostTime (onDev (fun _ w s => (stOK, stepTime w.toInt true s)))

/-- 8101.04 RATE_ADJ (R289 to R291): the range is looked at first, as for every object. -/
def rateAdjEffect : Effect := fun row bar sub w s =>
  let r := toSigned 32 w.toNat
  if rateMax < r ∨ r < -rateMax then (stRange, s)
  else hostTime (onDev (fun _ _ s => (stOK, setRate r s))) row bar sub w s

/-- 8102.00 TIME_SRC (R291): TIME and RATE_ADJ stay as they stand; the servo starts afresh (assumption log 42). -/
def timeSrcEffect : Effect := onDev (fun _ w s =>
  if 1 < w.toNat then (stRange, s)
  else if w.toNat = s.dv 0x8102 0 then (stOK, s)
  else
    (stOK, (s.setDv 0x8102 0 w.toNat).modNet (fun n =>
      { n with announces := [], master := none, inRow := 0, outRow := 0, locked := false, holdover := false, arb := false,
               reqAt := none, sync := none, reqSentAt := none })))

/-- TIME_SET (R291). -/
def execTimeSet (dt : Nat) (door : Door) (val : Slot) (s : State) : Host.Outcome State Fault Refusal :=
  run dt s (writeThrough door 0x8101 2 val timeSetEffect)

/-- TIME_STEP_WRITE (R290, R291). -/
def execTimeStepWrite (dt : Nat) (door : Door) (val : Slot) (s : State) : Host.Outcome State Fault Refusal :=
  run dt s (writeThrough door 0x8101 3 val timeStepEffect)

/-- RATE_ADJ_WRITE (R289, R290, R291). -/
def execRateAdjWrite (dt : Nat) (door : Door) (val : Slot) (s : State) : Host.Outcome State Fault Refusal :=
  run dt s (writeThrough door 0x8101 4 val rateAdjEffect)

/-- TIME_SRC_WRITE (R291). -/
def execTimeSrcWrite (dt : Nat) (door : Door) (val : Slot) (s : State) : Host.Outcome State Fault Refusal :=
  run dt s (writeThrough door 0x8102 0 val timeSrcEffect)

/-! ### Clock servo -/

/-- R288: an interval given as the logarithm of its seconds, in nanoseconds. -/
def logSeconds (l : Int) : Nat := if 0 ≤ l then Config.second * 2 ^ l.toNat else Config.second / 2 ^ (-l).toNat

/-- Lexicographic order. -/
def rankBefore : List Nat → List Nat → Bool
  | x :: xs, y :: ys => if x < y then true else if y < x then false else rankBefore xs ys
  | _, _ => false

/-- The data set comparison of IEEE 1588 over grandmasters (PRESUMED, assumption log 43). -/
def announceRank (a : Announce) : List Nat :=
  [a.priority1.toNat, a.clockClass.toNat, a.accuracy.toNat, a.variance.toNat, a.priority2.toNat, a.identity.toNat]

/-- Is Announce `a`, heard on port `p`, better than `b`, heard on port `q`? Of one grandmaster, the one of fewer steps, then that of
the lower sourcePortIdentity, then that of the lower receiving port (PRESUMED, assumption log 43). -/
def announceBefore (a : Announce) (p : Nat) (b : Announce) (q : Nat) : Bool :=
  if a.identity = b.identity then
    rankBefore [a.steps.toNat, a.source.toNat, a.sourcePort.toNat, p] [b.steps.toNat, b.source.toNat, b.sourcePort.toNat, q]
  else rankBefore (announceRank a) (announceRank b)

/-- R288: the announce interval of a master. -/
def announceGap (a : Announce) : Nat := logSeconds a.logInterval

/-- R288: an Announce stands for three announce intervals. -/
def announceFresh (s : State) (x : Foreign) : Bool :=
  match x.times with
  | t :: _ => decide (s.now < t + 3 * announceGap x.dataset)
  | [] => false

/-- The port and the sender's clockIdentity of an entry's key. -/
def announceKey (port : Nat) (a : Announce) : Nat := (port * 2 ^ 64 + a.source.toNat) * 2 ^ 16 + a.sourcePort.toNat

/-- The receiving port of an entry's key. -/
def announcePort (key : Nat) : Nat := key / 2 ^ 80

/-- Does an entry come from the present master? -/
def isMaster (s : State) (e : Nat × Foreign) : Bool := s.net.master == some (announcePort e.1, e.2.dataset.source.toNat)

/-- IEEE 1588: a foreign master qualifies by two Announce messages within four announce intervals, and by fewer than 255 steps; the
present master stays until its Announce no longer stands (PRESUMED, assumption log 43). -/
def qualified (s : State) (e : Nat × Foreign) : Bool :=
  announceFresh s e.2 && decide (e.2.dataset.steps.toNat < 255) &&
  (isMaster s e || decide (2 ≤ (e.2.times.filter (fun t => decide (s.now < t + 4 * announceGap e.2.dataset))).length))

/-- R288: the best of the masters that qualify: its port and dataset. -/
def bestMaster (s : State) : Option (Nat × Announce) :=
  (s.net.announces.filter (qualified s)).foldl (fun acc e =>
    let p := announcePort e.1
    match acc with
    | none => some (p, e.2.dataset)
    | some (q, a) => if announceBefore e.2.dataset p a q then some (p, e.2.dataset) else some (q, a)) none

/-- R288, Table 12-3: PTP_STATE. -/
def postPtp (identity port : Nat) (s : State) : State :=
  postD .ptpState (b2n s.net.locked + 2 * b2n s.net.holdover) (leBytes 8 identity ++ leBytes 1 port) s

/-- The present master's identity and port, or zero and 0xFF (8105.02, 8105.03). -/
def masterOr (s : State) : Nat × Nat :=
  match s.net.master with
  | some (p, i) => (i, p)
  | none => (0, 0xFF)

/-- R288: select the master; with none left, holdover. -/
def selectMaster (s : State) : State :=
  let old := masterOr s
  match bestMaster s with
  | some (p, a) =>
    let same : Bool := s.net.master == some (p, a.source.toNat)
    let wasHold := s.net.holdover
    let s := s.modNet (fun n =>
      { n with master := some (p, a.source.toNat), arb := !a.ptpTimescale, holdover := false,
               reqAt := if same then n.reqAt else none, sync := if same then n.sync else none })
    if wasHold then postPtp a.source.toNat p s else s
  | none =>
    if s.net.master.isSome then
      postPtp old.1 old.2 (s.modNet (fun n => { n with master := none, holdover := true, reqAt := none, sync := none }))
    else s

/-- R288: an Announce is kept beside the sender's earlier ones. -/
def hearAnnounce (p : Nat) (a : Announce) (s : State) : State :=
  let kept : Map Foreign := s.net.announces.filter (fun e => announceFresh s e.2)
  let old := match kept.get? (announceKey p a) with
    | some x => x.times.filter (fun t => decide (s.now < t + 4 * announceGap a))
    | none => []
  s.modNet (fun n => { n with announces := kept.set (announceKey p a) { dataset := a, times := s.now :: old } })

/-- PTP_ANNOUNCE (R288). -/
def execPtpAnnounce (dt : Nat) (port : Fin 2) (a : Announce) (s : State) : Host.Outcome State Fault Refusal :=
  run dt s (fun s =>
    if ptpOn s && a.domain.toNat == s.dv 0x8104 0 then selectMaster (hearAnnounce port.val a s) else s)

/-- Does an Announce of the present master still stand? -/
def masterHeard (s : State) : Bool := s.net.announces.any (fun e => isMaster s e && announceFresh s e.2)

/-- ANNOUNCE_TIMEOUT (R288). -/
def execAnnounceTimeout (dt : Nat) (s : State) : Host.Outcome State Fault Refusal :=
  run dt s (fun s => if ptpOn s && s.net.master.isSome && !masterHeard s then selectMaster s else s)

/-- R286: an own timestamp of a frame's arrival, at the media interface, as TIME. -/
def arrivalTime (s : State) (p : Nat) : Nat := s.timeWas (s.now - s.dv 0x8110 (latSub s p))

/-- R286: an own timestamp of a frame's departure. -/
def departureTime (s : State) (p : Nat) : Nat := s.timeAt (s.now + s.dv 0x8111 (latSub s p))

/-- A correctionField in whole ns. -/
def corrNs (c : Int) : Int := c / 65536

/-- R288: LOCKED after 16 consecutive offsets within LOCK_NS, cleared after 4 outside. -/
def lockFollow (off : Int) (s : State) : State :=
  let within : Bool := decide (off.natAbs ≤ s.dv 0x8106 1)
  let was := s.net.locked
  let s := s.modNet (fun n =>
    let i := if within then min (n.inRow + 1) 16 else 0
    let o := if within then 0 else min (n.outRow + 1) 4
    { n with inRow := i, outRow := o, locked := if i = 16 then true else if o = 4 then false else n.locked })
  if s.net.locked == was then s
  else
    let m := masterOr s
    postPtp m.1 m.2 s

/-- R288: the servo steps or slews TIME; a step leaves no timestamp of before it to be measured against one of after it (R290); the
amount of a slew is open (assumption log 4) and lies in the range of R289. -/
def servo (off : Int) (s : State) : State :=
  if s.dv 0x8106 0 < off.natAbs then
    stepTime (-off) false (s.modNet (fun n => { n with sync := none, reqAt := none }))
  else
    let r := (Config.servoRate s.freeCount off s.clock.rate).toInt
    setRate (max (-rateMax) (min rateMax r)) { s with freeCount := s.freeCount + 1 }

/-- PTP_SYNC (R288): `t1` is the master's time of sending, `corr` the correctionField. -/
def execPtpSync (dt : Nat) (port : Fin 2) (master : BitVec 64) (t1 : Nat) (corr : Int) (s : State) :
    Host.Outcome State Fault Refusal :=
  run dt s (fun s =>
    if ptpOn s && s.net.master == some (port.val, master.toNat) then
      let sent : Int := (t1 : Int) + corrNs corr
      let got : Int := (arrivalTime s port.val : Int)
      let off := got - sent - (s.dv 0x8105 1 : Int)
      let s := (s.setDvi 0x8105 0 off).modNet (fun n => { n with sync := some (sent, got) })
      lockFollow off (servo off s)
    else s)

/-- PTP_DELAY_REQ_SEND (R288): from the master's port, at the master's interval. -/
def execPtpDelayReqSend (dt : Nat) (s : State) : Host.Outcome State Fault Refusal :=
  run dt s (fun s =>
    match s.net.master with
    | some (p, _) =>
      let due : Bool := match s.net.reqSentAt with
        | some t => decide (t + logSeconds s.net.reqInterval ≤ s.now)
        | none => true
      if ptpOn s && s.net.sync.isSome && due then
        (s.modNet (fun n => { n with reqAt := some (departureTime s p), reqSentAt := some s.now })).emit (.delayReq p)
      else s
    | none => s)

/-- 8105.01: the mean path delay as a U32; the spec gives no result for a mean outside it (assumption log 44). -/
def setPathDelay (d : Int) (s : State) : State :=
  if 0 ≤ d ∧ d < ((2 ^ 32 : Nat) : Int) then s.setDv 0x8105 1 d.toNat
  else
    let r := s.draw
    r.2.setDv 0x8105 1 (r.1.toNat % 2 ^ 32)

/-- PTP_DELAY_RESP (R288): the mean of the two directions; the next Delay_Req follows at the interval given. -/
def execPtpDelayResp (dt : Nat) (port : Fin 2) (master : BitVec 64) (t4 : Nat) (corr : Int) (logInterval : Int) (s : State) :
    Host.Outcome State Fault Refusal :=
  run dt s (fun s =>
    if ptpOn s && s.net.master == some (port.val, master.toNat) then
      match s.net.reqAt, s.net.sync with
      | some t3, some (sent, got) =>
        let back : Int := (t4 : Int) - corrNs corr - (t3 : Int)
        setPathDelay ((got - sent + back) / 2)
          (s.modNet (fun n => { n with reqAt := none, reqInterval := logInterval }))
      | _, _ => s
    else s)

/-! ### Links -/

/-- 8113 PORT_STATUS and ETH_LINK (Table 12-3). A link that goes down is posted with the speed it had. -/
def setLink (p : Nat) (up slow : Bool) (s : State) : State :=
  let old := s.dv 0x8113 p
  let new := if up then 1 + 2 * b2n slow else 0
  if old = new then s
  else
    let sp : Bool := if up then slow else bitN old 1
    postD .ethLink (b2n up) (leBytes 1 p ++ leBytes 1 (if sp then 1 else 2)) (s.setDv 0x8113 p new)

/-- R283, R293: the links that a port can bring up: 1000BASE-X runs at 1000 Mbit/s and not in DOZE; SGMII is held to 100
Mbit/s in DOZE. -/
def linkAllowed (s : State) (p : Nat) (slow : Bool) : Bool :=
  let c := s.dv 0x8112 p
  bitN c 0 && (if bitN c 1 then !slow && !(s.devState == .doze) else slow || !(s.devState == .doze))

/-- ETH_LINK (R286, R293). -/
def execEthLink (dt : Nat) (port : Fin 2) (up : Bool) (speed100 : Bool) (s : State) : Host.Outcome State Fault Refusal :=
  run dt s (fun s =>
    if !up || linkAllowed s port.val speed100 then setLink port.val up speed100 s else s)

/-- R293: the device writes the advertisement of the PHY of an SGMII port and restarts its negotiation. -/
def advertise (only100 : Bool) (p : Nat) (s : State) : State :=
  let c := s.dv 0x8112 p
  if bitN c 0 && !bitN c 1 then s.emit (.mdio p (bitsN c 6 2) only100) else s

/-- R293: entering or leaving DOZE restarts negotiation, and each link is down meanwhile. -/
def relink (doze : Bool) (s : State) : State :=
  setLink 1 false false (setLink 0 false false (advertise doze 1 (advertise doze 0 s)))

end Sys2Proof.Machine
end

