-- ==== Sys2Proof/Machine/Targets.lean ====
section
/-!
DEFINITION. The targets of bars (R58, R59) and commit requests (R17, R20, R21).
-/
namespace Sys2Proof.Machine
open Sys2Proof

/-! ### VB_TARGET -/

/-- 1202.00 VB_TARGET (R58, R59, R275). -/
def vbTargetEffect : Effect := fun row bar sub w s =>
  match vbOf w.toNat with
  | none => (stRange, s)
  | some t => forwarded (onBar (fun b _ _ s => targetBar b t s)) row bar sub w s

/-- VB_TARGET_OFF (R58). -/
def execVbTargetOff (dt : Nat) (door : Door) (s : State) : Host.Outcome State Fault Refusal :=
  run dt s (writeThrough door 0x1202 0 0 vbTargetEffect)

/-- VB_TARGET_ARMED (R58, R59). -/
def execVbTargetArmed (dt : Nat) (door : Door) (s : State) : Host.Outcome State Fault Refusal :=
  run dt s (writeThrough door 0x1202 0 1 vbTargetEffect)

/-- VB_TARGET_PRINTING (R58, R59). -/
def execVbTargetPrinting (dt : Nat) (door : Door) (s : State) : Host.Outcome State Fault Refusal :=
  run dt s (writeThrough door 0x1202 0 2 vbTargetEffect)

/-- VB_TARGET_HELD (R58, R59). -/
def execVbTargetHeld (dt : Nat) (door : Door) (s : State) : Host.Outcome State Fault Refusal :=
  run dt s (writeThrough door 0x1202 0 3 vbTargetEffect)

/-- VB_TARGET_MET (R58): the condition of a bar's waiting target has become true. -/
def execVbTargetMet (dt : Nat) (bar : Fin 16) (s : State) : Host.Outcome State Fault Refusal :=
  run dt s (fun s => if holder s then advanceBar bar 4 s else s)

/-! ### Commit -/

/-- 1220.00 COMMIT_REQ (R17, R275). -/
def commitReqEffect : Effect := forwarded (onBar (fun b _ w s => (stOK, commitRequest b w.toNat s)))

/-- COMMIT_REQ (R17). -/
def execCommitReq (dt : Nat) (door : Door) (val : Slot) (s : State) : Host.Outcome State Fault Refusal :=
  run dt s (writeThrough door 0x1220 0 val commitReqEffect)

/-- R20: the generation of an idle bar that was sealed for NEXT_PAGE takes effect. -/
def idleCommit (b : Nat) (s : State) : State :=
  match (s.bar b).gen with
  | some g => if g.idle then sramJudge b (commitLive b g.page s) else s
  | none => s

/-- R20: the generation of an idle bar takes effect, when none of its heads waits. -/
def idleCommitDue (bar : Fin 16) : State → State :=
  idleCommit bar

/-- R21, R112: discard the open copies of a bar. -/
def discardOpen (b : Nat) (s : State) : State :=
  sramJudge b (s.modBar b (fun x => { x with opn := [], openHost := false, openDev := [] }))

/-- 1222.00 DISCARD_OPEN (R21). -/
def discardEffect : Effect := onBar (fun b _ w s => (stOK, if w = 0 then s else discardOpen b s))

/-- DISCARD_OPEN (R21). -/
def execDiscardOpen (dt : Nat) (door : Door) (val : Slot) (s : State) : Host.Outcome State Fault Refusal :=
  run dt s (writeThrough door 0x1222 0 val discardEffect)

end Sys2Proof.Machine
end

