-- ==== Sys2Proof/Machine/DevTargets.lean ====
section
/-!
DEFINITION. The configuration check (R24, R60, R113, R160, R190, R210, R237, R244, R249, R250, R282, R336, R397), DEV_TARGET
(R56, Table 02-10), DOZE and the exit from it (R337 to R339).
-/
namespace Sys2Proof.Machine
open Sys2Proof

/-! ### The checks: each answers the plane field of its first failure, 0xFF where it concerns no plane -/

/-- A check that concerns no plane. -/
def checkIf (bad : Bool) : Option Nat := if bad then some 0xFF else none

/-- The first plane of a list that fails. -/
def checkPlanes (ps : List Nat) (bad : Nat → Bool) : Option Nat := ps.find? bad

/-- The first plane that fails, bar by bar. DESIGN CHOICE (log 136): checks 0x41, 0x44, 0x47 and 0x93 judge the planes in use
of the bars that have columns. -/
def checkBars (s : State) (bad : Nat → Nat → Bool) : Option Nat := s.barsWithCols.findSome? (fun b => s.planes.find? (bad b))

/-- R60: two bars overlap, or a bar runs past span 31. -/
def layoutBad (s : State) : Bool :=
  s.barsWithCols.any (fun b => decide (32 < s.firstSpan b + s.spanCount b) ||
    s.barsWithCols.any (fun c => decide (b < c) && decide (s.firstSpan b < s.firstSpan c + s.spanCount c) &&
      decide (s.firstSpan c < s.firstSpan b + s.spanCount b)))

/-- The enabled heads that name a plane. -/
def planeHeads (s : State) (plane : Nat) : List Nat := (headPorts s).filter (fun p => headPlane s p == plane)

/-- R24: DOTS3 on a plane of 2-bit grey. DOTS2 on a 3-bit plane is mapped by DOTS2_MAP (Table 04-7). -/
def check41 (s : State) : Option Nat := checkBars s (fun b p => s.format b p == 4 && s.greyBits p == 2)

def check42 (s : State) : Option Nat :=
  checkPlanes (List.range 8) (fun p => (planeHeads s p).any (fun h => decide (65536 < headCol0 s h + headSize s h)))

def check43 (s : State) : Option Nat :=
  checkPlanes (List.range 8) (fun p => (planeHeads s p).any (fun h => !s.inUse p || decide (s.rowSets p ≤ headSet s h)))

/-- How far the heads, in order of COL0, serve every column from `x` on. -/
def servedTo (s : State) (heads : List Nat) (x : Nat) : Nat :=
  heads.foldl (fun x h => if headCol0 s h ≤ x then max x (headCol0 s h + headSize s h) else x) x

def check44 (s : State) : Option Nat :=
  checkBars s (fun b p => (List.range (s.rowSets p)).any (fun rs =>
    decide (servedTo s (headsOf s p rs) (s.firstCol b) < s.firstCol b + s.width b)))

/-- A column served by three heads, or a head within another. -/
def crowded (s : State) (heads : List Nat) : Bool :=
  heads.any (fun h => decide (3 ≤ (heads.filter (fun q => headServes s q (headCol0 s h))).length) ||
    heads.any (fun q => q != h && decide (headCol0 s q ≤ headCol0 s h) &&
      decide (headCol0 s h + headSize s h ≤ headCol0 s q + headSize s q)))

def check45 (s : State) : Option Nat :=
  checkPlanes (List.range 8) (fun p => (List.range 2).any (fun rs => crowded s (headsOf s p rs)))

def check46 (s : State) : Option Nat :=
  checkPlanes (List.range 8) (fun p => (planeHeads s p).any (fun h =>
    match rightNeighbour s h with
    | some q => decide (1024 < zoneWidth s h q)
    | none => false))

/-- LEVELS of a tile that a copy holds; none for the default, which follows the grey mode. -/
def tileLevels (v : Option Val) : Option Nat :=
  match v with
  | some (.wide bs) => some (byteAt bs 4).toNat
  | _ => none

def check47 (s : State) : Option Nat :=
  checkBars s (fun b p => isContone (s.format b p) &&
    [(s.bar b).live, (s.bar b).opn].any (fun m =>
      match tileLevels (m.get? (okey 0x3110 p)) with
      | some n => n != s.levels p
      | none => false))

/-- R244. -/
def check61 (s : State) : Option Nat := checkIf (decide (dramTotal s < 1024 + cameraMib s + quotaSum s + delayMib s))

/-- R249. -/
def check62 (s : State) : Option Nat :=
  checkIf ((List.range 4).any (fun q => decide (quarterSpace s q < quarterStage s q)) || decide (tablePool s < sramQuotaSum s))

def check63 (s : State) : Option Nat := checkIf (countsPerLine s == 0)

def check64 (s : State) : Option Nat :=
  checkIf ((List.range 16).any (fun b => markReg s b && !bitN (s.dv 0x4040 (bitsN (s.bo b 0x4050 0) 3 1)) 9))

/-- R190. -/
def check71 (s : State) : Option Nat :=
  checkIf ((headPorts s).any (fun p => (s.port p).st == .train || (s.port p).st == .ident))
def check72 (s : State) : Option Nat := checkIf ((headPorts s).any (fun p => (s.port p).st == .mismatch))

/-- R210. -/
def check81 (s : State) : Option Nat := checkIf (decide (s.dv 0x5002 0 < leadLines s + 2))

/-- R237: the highest line rate of a camera port, as a fraction. -/
def camTop (s : State) (c : Nat) : Nat × Nat :=
  if s.dv 0x6003 c = 1 then (s.dv 0x4003 2, max 1 (s.dv 0x6004 c)) else (s.dv 0x600B c, 1)

/-- Table 09-5: bytes per camera line, times 4: a display line is written once per 4 camera lines. -/
def camBytes4 (s : State) (c : Nat) : Nat :=
  let sel := s.dv 0x6110 c
  let w := camWidth s c
  (if bitsN sel 1 0 = 2 then 4 * ringLine w 0 else 0) + (if bitN sel 2 then ringLine w 1 else 0) +
    (if bitN sel 3 then 4 * ringLine w 2 else 0)

def check91 (s : State) : Option Nat :=
  checkIf ((camPorts s).any (fun c => decide (4 * 2250000000 * (camTop s c).2 < camBytes4 s c * (camTop s c).1)))

/-- Table 09-5: 90 % of lanes × CAM_HS_RATE, in Mbit/s. -/
def check92 (s : State) : Option Nat :=
  checkIf ((camPorts s).any (fun c =>
    let cfg := s.dv 0x6000 c
    let bits := if bitN cfg 3 then 12 else 10
    decide (9 * 2 ^ bitsN cfg 2 1 * s.dv 0x6002 c * 1000000 * (camTop s c).2 < 10 * camWidth s c * bits * (camTop s c).1)))

def check93 (s : State) : Option Nat :=
  checkBars s (fun b p => bitN (s.bo b 0x621A p) 0 && decide (4096 < s.liveN b 0x6200 1 * s.liveN b 0x6200 2 + 8))

/-- Table 10-5. -/
def checkA1 (s : State) : Option Nat :=
  checkIf (s.barsWithCols.any (fun b =>
    decide (s.bo b 0x7100 0 < mibUp (s.planes.length * s.spanCount b * 2 * 1114176))))
def checkA2 (s : State) : Option Nat :=
  checkIf ((List.range 16).any (fun b => decide (1024 * s.bo b 0x7101 0 < tableBytes s b)))
def checkA3 (s : State) : Option Nat :=
  checkIf (decide (((List.range 8).filter (fun k => (s.sch k).state == 2)).length < 4))

/-- R269: the differences from the holder. -/
def checkB1 (s : State) : Option Nat := checkIf (pairMode s && !holder s && s.pair.digestBad)
def checkB2 (s : State) : Option Nat := checkIf (pairMode s && !holder s && s.pair.fwBad)

/-- R336. -/
def checkF1 (s : State) : Option Nat := checkIf (lineLimit s == 0)

/-- R397: every check in ascending number. -/
def configChecks : List (Nat × (State → Option Nat)) :=
  [(0x21, fun s => checkIf (layoutBad s)), (0x41, check41), (0x42, check42), (0x43, check43), (0x44, check44), (0x45, check45),
   (0x46, check46), (0x47, check47), (0x61, check61), (0x62, check62), (0x63, check63), (0x64, check64), (0x71, check71),
   (0x72, check72), (0x81, check81), (0x91, check91), (0x92, check92), (0x93, check93), (0xA1, checkA1), (0xA2, checkA2),
   (0xA3, checkA3), (0xB1, checkB1), (0xB2, checkB2), (0xF1, checkF1)]

/-- R397: the first failure: its check number and plane field. -/
def configFailure (s : State) : Option (Nat × Nat) :=
  configChecks.findSome? (fun c => (c.2 s).map (fun plane => (c.1, plane)))

/-! ### Transitions (Table 02-10) -/

/-- Is every bar VB_OFF? -/
def allOff (s : State) : Bool := (List.range 16).all (fun b => (s.bar b).vb == .off)

/-- READY to CONFIG (R136, R325). The pool is laid out again when CONFIG is left; until then BAR_POOL and the effective quotas stand
(R248). -/
def enterConfig (s : State) : State := setDev .config 0 (disableAll (trigOff s))

/-- Table 10-3, R244: the regions are fixed as CONFIG is left. -/
def layRegions (s : State) : State :=
  let s := ((s.setDv 0x7201 0 1024).setDv 0x7201 1 (cameraMib s)).setDv 0x7201 2 (delayMib s)
  applyQuotas ({ s with place := { s.place with laid := true, shrunk := false } }.setDv 0x7105 0 (barPool s))

/-- R128: the uncompensated columns of a bar under its live copies. -/
def judgeColumns (b : Nat) (s : State) : State :=
  s.modScan b (fun c => { c with uncomp := uncompUnder s b (s.bar b).live })

/-- CONFIG is left: the regions are laid out and the placer runs. -/
def leaveConfig (s : State) : State :=
  setDev .ready 0 (forAll s.barsWithCols judgeColumns (placeRun 3 false (layRegions s)))

/-- CONFIG to READY: the configuration check first. -/
def configToReady (s : State) : Nat × State :=
  match configFailure s with
  | some (n, plane) => (stState, postD .configCheckFail 0 (leBytes 1 plane ++ leBytes 1 n) (s.setDv 0x1204 0 (plane * 256 + n)))
  | none => (stOK, leaveConfig (s.setDv 0x1204 0 0))

/-- SAFE to READY: refused while a supply whose trip caused it is still tripped. -/
def safeToReady (s : State) : Nat × State :=
  if s.safeCause.any (fun k => (s.supply k).st == .tripped || tripNow s k) then (stState, s)
  else (stOK, followBars (setDev .ready 0 { s with safeCause := [] }))

/-! ### DOZE -/

/-- R80: the caldera of a bar is emptied. DESIGN CHOICE (log 137): each page leaves it as an eviction of R78 does: a page that
is early by CALDERA_DEPTH is marked NOT_RETAINED, CALDERA_EVICT_EARLY is posted and 2203 counts it. -/
def emptyCaldera (b : Nat) (s : State) : State :=
  forAll ((s.bar b).pages.filter (fun p => p.retained)) (fun p s => evictPage b p s) s

/-- R337: step 2: lanes in RUN go into DEEP; other lanes lose their domain. -/
def dozeLane (p : Nat) (s : State) : State :=
  match (s.port p).st with
  | .run => enterDeep p s
  | .off | .deep | .retired => s
  | _ => setLane p .off (s.modPort p (fun x => { x with reqs := [] }))

/-- R337: step 4: every domain but PAIR in pair mode goes off. -/
def dozeDomain (d : Nat) (s : State) : State :=
  let old := s.power.domains.getD d 0
  if old = 0 || (d == 29 && pairMode s) then s
  else postD .domainChange 0 (leBytes 1 d ++ leBytes 1 old ++ leBytes 1 0) (s.modPower (fun p => { p with domains := p.domains.set d 0 }))

/-- An extension that ran loses its thread; its image is kept. -/
def dozeExt (k : Nat) (s : State) : State := if extRunning s k then setExtStatus k 0 1 s else s

/-- R337: what is lost: wagon keys, calderas and every value that is not saved. -/
def dozeLose (s : State) : State :=
  let s := forAll (List.range 16) emptyCaldera s
  let s := forAll (List.range 64) dozeExt s
  let s := forAll (List.range 4) camReset s
  { s with
    bars := s.bars.mapVals (fun x => { x with
      keys := []
      intake := { x.intake with jobs := [], audit := none } })
    sched := Sched.reset
    health := []
    engines := []
    deflaters := [] }
    |> applyQuotas

/-- R337: step 5: the rails with DOZE_OFF are lowered. -/
def dozeRails (s : State) : State :=
  (lowerRails (railDoze s.power.table) s).modPower (fun p => { p with railPhase := 0, dozeExitAt := none })

/-- R337: steps 1 to 4: the outputs, the lanes, what is lost, the domains. -/
def dozeUnits (s : State) : State :=
  forAll (List.range domainCount) dozeDomain (dozeLose (forAll (List.range 64) dozeLane (disableAll (trigOff s))))

/-- R337: READY to DOZE. -/
def enterDoze (s : State) : State := dozeLink (setDev .doze 0 (relink true (dozeRails (dozeUnits s))))

/-- R339: the exit begins: the rails that DOZE turned off are raised. -/
def leaveDoze (s : State) : State := railsFrom 0 (s.modPower (fun p => { p with dozeExitAt := some s.now, railTries := [] }))

/-- R339: the resident image under codes 0x05 to 0x07. -/
def imageStands (s : State) : Bool :=
  let bs := s.boot.image
  imgSigned bs && decide (rollbackFuse s ≤ imgField bs 16 2) && sha384 (imgBytes bs 512 (imgLen bs)) == imgBytes bs 40 48

/-- R189, R339: a head lane after DOZE. -/
def wakeAll (p : Nat) (s : State) : State :=
  match (s.port p).st with
  | .deep => wakeLane p s
  | .off => laneEnable p s
  | _ => s

/-- R339: domains, firmware and lanes are back; READY. -/
def dozeBack (t : Nat) (s : State) : State :=
  let s := forAll (List.range domainCount) (fun d s => if domainOff s d then s else domainSet d 2 false s) s
  let s := firmwareStart (s.modPower (fun p => { p with dozeExitAt := none }))
  let s := s.setDv 0xB030 0 ((s.now - t) / Config.micro)
  forAll (List.range 64) wakeAll (dozeLinkBack (relink false (setDev .ready 0 s)))

/-- R339: the device reboots as at reset. -/
def reboot (s : State) : State := bootEnter (volatileReset (keptPower s) s)

/-- DOZE_EXIT_DONE (R339, R309, R251). -/
def execDozeExitDone (dt : Nat) (s : State) : Host.Outcome State Fault Refusal :=
  run dt s (fun s =>
    match s.devState, s.power.dozeExitAt with
    | .doze, some t => if s.power.railPhase = 3 then (if imageStands s then dozeBack t s else reboot s) else s
    | _, _ => s)

/-! ### DEV_TARGET -/

/-- R56, Table 02-10: a target of the device. -/
def devTarget (t : Nat) (s : State) : Nat × State :=
  match s.devState, t with
  | .config, 2 => configToReady s
  | .ready, 1 => if allOff s then (stOK, enterConfig s) else (stState, s)
  | .safe, 2 => safeToReady s
  | .ready, 5 => if allOff s then (stOK, enterDoze s) else (stState, s)
  | .doze, 2 => if s.power.dozeExitAt.isSome then (stState, s) else (stOK, leaveDoze s)
  | _, _ => (stState, s)

/-- 1203.00 DEV_TARGET (R56, R275). -/
def devTargetEffect : Effect := forwarded (onDev (fun _ w s => devTarget w.toNat s))

/-- DEV_TARGET_CONFIG (R56). -/
def execDevTargetConfig (dt : Nat) (door : Door) (s : State) : Host.Outcome State Fault Refusal :=
  run dt s (writeThrough door 0x1203 0 1 devTargetEffect)

/-- DEV_TARGET_READY (R56, R397). -/
def execDevTargetReady (dt : Nat) (door : Door) (s : State) : Host.Outcome State Fault Refusal :=
  run dt s (writeThrough door 0x1203 0 2 devTargetEffect)

/-- DEV_TARGET_DOZE (R56, R337). -/
def execDevTargetDoze (dt : Nat) (door : Door) (s : State) : Host.Outcome State Fault Refusal :=
  run dt s (writeThrough door 0x1203 0 5 devTargetEffect)

end Sys2Proof.Machine
end

