-- ==== Sys2Proof/Machine/Profile.lean ====
section
/-!
DEFINITION. The instants at which axis positions move: the profile generator's update (R312) and the standby's count of
the holder's steps (R320), with the compare outputs (R321, R323) and focus searches (R225) that follow the positions.
-/
namespace Sys2Proof.Machine
open Sys2Proof

/-- R225: the axis has moved in the update that ends now. -/
def Axis.noteRun (now : Nat) (x : Axis) : Axis :=
  if x.moving || x.mirrorMoving then
    { x with runs := match x.runs with
        | r :: rest =>
          if now ≤ r.2 + 1000 then (r.1, now) :: rest
          else (now - 1000, now) :: (r :: rest).filter (fun r => keptTime now r.2)
        | [] => [(now - 1000, now)] }
  else x

/-- R312: DIR follows the direction in which the axis has moved by `d`. -/
def Axis.turn (now : Nat) (d : Int) (x : Axis) : Axis :=
  if d = 0 ∨ d.sign = x.dir then x else { x with dir := d.sign, dirAt := some now }

/-- R312: would the update from `was` to `x` step within AX_DIR_SETUP of a change of DIR? -/
def Axis.tooSoon (setup now : Nat) (was x : Axis) : Bool := x.steps != was.steps && withinFilter setup now x.dirAt

/-- R312: the axis stands while AX_DIR_SETUP runs after its change of DIR; the update that would step comes again. -/
def Axis.hold (now : Nat) (d : Int) (x : Axis) : Axis := { x.turn now d with vel := 0, acc := 0 }

/-- R312, R320: the holder drives the steps of an update on STEP and DIR. -/
def driveSteps (n : Nat) (old : Int) (s : State) : State :=
  let x := s.axis n
  let d := x.steps - old
  if d = 0 ∨ !holder s then s else s.emit (.steps n (decide (0 < d) != axCfg s n 1) d.natAbs)

/-- One update of an axis, and what its position drives. -/
def profileAxis (n : Nat) (s : State) : State :=
  let was := s.axis n
  let s := s.modAxis n (Axis.noteRun s.now)
  let t := axisUpdate n s
  let d := (t.axis n).pos - was.pos
  let x := (t.axis n).turn s.now d
  let s := if Axis.tooSoon (s.dv 0xA00E n) s.now was x then s.modAxis n (Axis.hold s.now d)
    else t.modAxis n (fun _ => x)
  cmpMotion (4 + n) was.steps (s.axis n).steps (driveSteps n was.steps s)

/-- AX_PROFILE_TICK (R312, R314). -/
def execAxProfileTick (dt : Nat) (s : State) : Host.Outcome State Fault Refusal :=
  run dt s (fun s => focusAll (forAll (List.range 8) profileAxis s))

/-- R320: the standby counts one step of the holder; POSITION_UNCERTAIN stands as it was. -/
def observeStep (n : Nat) (positive : Bool) (s : State) : State :=
  let old := (s.axis n).steps
  let s := s.modAxis n (fun x => { x with
    pos := x.pos + (if positive then stepUnit else -stepUnit)
    seenDir := positive
    dir := if positive then 1 else -1
    seen := (s.now :: (if x.seenDir = positive then x.seen else [])).take 5 })
  cmpMotion (4 + n) old (s.axis n).steps s

/-- AX_STEP_OBSERVED (R320, R323). -/
def execAxStepObserved (dt : Nat) (axis : Fin 8) (positive : Bool) (s : State) : Host.Outcome State Fault Refusal :=
  run dt s (fun s => if holder s then s else observeStep axis.val positive s)

end Sys2Proof.Machine
end

