-- ==== Sys2Proof/Machine/Line.lean ====
section
/-!
DEFINITION. LINE_DUE: when a line falls due (R134, R135), whether it is admitted and struck (R138, R139), its record (R137), speed
bands (R140 to R145), gaps, page starts, late wagons and page ends at the line (R71, R159, R191 to R209), and the launch of later
frames (R151, R153).
-/
namespace Sys2Proof.Machine
open Sys2Proof

/-! ### When a line falls due -/

/-- Rounding to the nearest, halves upwards. -/
def roundHalfUp (a b : Nat) : Nat := (2 * a + b) / (2 * b)

/-- A line's instant and how it was found. -/
structure Due where
  at_ : Nat
  predicted : Bool
  forced : Bool
  deriving DecidableEq, Repr

/-- R135: the time of a count, the present when it is no longer remembered. -/
def countAt (s : State) (c : Int) : Nat := (countTime s c).getD s.now

/-- R135: the predicted instant of a line `f` units of 2^-40 counts after count `e`. -/
def predictedAt (s : State) (e : Int) (f : Nat) : Nat :=
  countAt s e + roundHalfUp (f * windowSpan s e) (predWindow s * countUnit)

/-- R135: when the next line falls due; none while its count has not come. A line whose instant was predicted before the web
turned back still falls due at it (R132; DEDUCED, assumption log 104). -/
def dueOf (s : State) : Option Due :=
  let e := s.trig.pos / (countUnit : Int)
  let f := (s.trig.pos % (countUnit : Int)).toNat
  let h := s.trig.h
  if h < e then none
  else if f = 0 then some { at_ := countAt s e, predicted := false, forced := false }
  else if s.dv 0x4011 1 = 0 ∧ periodValid s e = true then
    let p := predictedAt s e f
    if e + 1 ≤ h ∧ countAt s (e + 1) < p then some { at_ := countAt s (e + 1), predicted := false, forced := true }
    else some { at_ := p, predicted := true, forced := false }
  else if e + 1 ≤ h then some { at_ := countAt s (e + 1), predicted := false, forced := false }
  else none

/-- R137: PERIOD of a line due at `t`; 0xFFFFFFFF at the first line of all, which has no earlier line (DESIGN CHOICE, assumption
log 102). -/
def periodTo (s : State) (t : Nat) : Nat :=
  match s.trig.lastDue with
  | some d => min (t - d) 0xFFFFFFFF
  | none => 0xFFFFFFFF

/-! ### Speed bands -/

/-- The page whose generation governs a bar's drive now: the last one started and in progress, else the next. -/
def drivePage (s : State) (b : Nat) : Nat :=
  match atDatum s b with
  | some p => p.num
  | none => nextPageNum s b

/-- 4106: a change enters the log at .00. -/
def bandLog (b n old new : Nat) (stop held : Bool) (s : State) : State :=
  let rec0 := n % 2 ^ 56 * 256 + 128 * b2n held + 16 * new + 8 * b2n stop + old
  forAll (List.range 15) (fun i t => t.setBo b 0x4106 (i + 1) (s.bo b 0x4106 i)) (s.setBo b 0x4106 0 rec0)

/-- R141: a page in progress records a change of band at line `n`. -/
def bandPage (n : Nat) (p : Page) : Page :=
  { p with
    status := p.status ||| stBandChanged, bandChanges := p.bandChanges + 1
    bandLine := match p.bandLine with | some l => some l | none => some (min (n - p.flip.getD 0) (p.lines - 1)) }

/-- R141: the band of a bar becomes `new` at line `n`. -/
def changeBand (b n new : Nat) (stop held : Bool) (s : State) : State :=
  let old := (s.bar b).scan.band
  let s := s.modScan b (fun c => { c with band := new, bandDwell := 0, bandQuiet := 0 })
  if new = old then s
  else
    let page := atDatum s b
    let s := forAll ((s.bar b).pages.filter (fun p => p.inProgress)) (fun p s => s.modPage b p.num (bandPage n)) s
    let s := (bandLog b n old new stop held s).bumpB b 0x4105 0
    postB .bandChange b (match page with | some p => p.num | none => 0) (b2n stop + 2 * b2n held)
      (leBytes 1 old ++ leBytes 1 new ++
        leBytes 2 (match page with | some p => min (n - p.flip.getD 0) (p.lines - 1) | none => 0) ++ leBytes 8 n) s

/-- R140, R142, R144: decided changes take effect at their lines of change. -/
def applyBand (b n : Nat) (s : State) : State :=
  let due := (s.bar b).scan.bandChange.filter (fun c => decide (c.line ≤ n))
  forAll due (fun c s => changeBand b n c.band c.stop c.held s)
    (s.modScan b (fun x => { x with bandChange := x.bandChange.filter (fun c => decide (n < c.line)) }))

/-- R143: the first line after a stop takes band 0 at once, and no change decided for it. The active unit decides; a standby
awaits its record (R144). -/
def stopBand (b n : Nat) (s : State) : State :=
  if (s.bar b).scan.bandStop && holder s then
    let s := s.modScan b (fun x => { x with
      bandStop := false, bandDwell := 0, bandPend := 0, bandChange := x.bandChange.filter (fun c => decide (n < c.line)) })
    applyBand b n (decideBand b { line := n, band := 0, stop := true, held := false, page := drivePage s b } s)
  else applyBand b n (s.modScan b (fun x => { x with bandStop := false }))

/-- R140: the dwell after a line whose candidate is `c`. -/
def dwellStep (c : Nat) (x : Scan) : Scan :=
  if c = x.band then { x with bandCand := c, bandDwell := 0, bandQuiet := x.bandQuiet + 1 }
  else if c = x.bandPend ∧ 0 < x.bandDwell then { x with bandCand := c, bandDwell := min (x.bandDwell + 1) 64, bandQuiet := 0 }
  else { x with bandCand := c, bandPend := c, bandDwell := 1, bandQuiet := 0 }

/-- R140, R142: what the dwell after line `n` leads to; `done`: it has just completed. A change that waits is dropped after 64
lines with c = b, and one decided for a later page stands beside it. -/
def dwellDone (b n : Nat) (done : Bool) (s : State) : State :=
  if done then
    if s.bo b 0x4103 0 = 1 ∧ (s.bar b).pages.any (fun p => p.inProgress) then
      s.modScan b (fun c => { c with bandWaits := true, bandQuiet := 0 })
    else
      decideBand b { line := n + 1, band := (s.bar b).scan.bandPend, stop := false, held := false, page := drivePage s b } s
  else if (s.bar b).scan.bandWaits ∧ 64 ≤ (s.bar b).scan.bandQuiet then
    s.modScan b (fun c => { c with bandWaits := false })
  else s

/-- R140 to R145 for a bar at line `n` of the given period. A standby applies decisions and makes none. -/
def bandLineDue (b n period : Nat) (s : State) : State :=
  let s := stopBand b n s
  if holder s then
    let was := (s.bar b).scan
    let now := dwellStep (bandCandidate s b period) was
    dwellDone b n (now.bandDwell == 64 && !(was.bandDwell == 64 && was.bandPend == now.bandPend)) (s.modScan b (fun _ => now))
  else s

/-! ### Gaps, starts and late wagons -/

/-- R201, R137: in SAFE no line is struck, so a strip of which a line would fall to this strike is cut. -/
def safeStrips (b n : Nat) (s : State) : State :=
  if s.devState == .safe then abandonStrips b (fun s x => decide (x.first ≤ n) && decide (n ≤ stripLast s b x)) s else s

/-- R192, R198, R204: the gap of a bar that begins at line `n`. -/
def gapLineDue (b n : Nat) (s : State) : State :=
  let x := (s.bar b).scan
  let ends : Bool := match atDatum s b with
    | some p => decide (p.flip.getD 0 + p.lines = n)
    | none => false
  let fresh := x.gapFrom.isNone && (x.cutGap || ends || (x.needFirst && (atDatum s b).isNone))
  let s := s.modScan b (fun c => { c with
    judgeFrom := if c.needFirst then n else c.judgeFrom, needFirst := false, cutGap := false
    gapFrom := if fresh then some n else c.gapFrom, stripDecided := if fresh then false else c.stripDecided })
  if fresh then decideStrip b s else s

/-- R202: the page whose flip line is line `n` starts. -/
def startLineDue (b n time : Nat) (s : State) : State :=
  match (notStarted s b).find? (fun p => p.flip == some n) with
  | some p => startPage b n (s.timeAt time) p s
  | none => s

/-- R159: registered lines that have fallen due; one is missed while the bar's next page is not ready (R194). -/
def marksLineDue (b n : Nat) (s : State) : State :=
  let due := (s.bar b).scan.marks.filter (fun m => decide (m.1 ≤ n))
  let s := s.modScan b (fun c => { c with marks := c.marks.filter (fun m => decide (n < m.1)) })
  let ready := due.isEmpty || (readyPage s b).isSome ||
    (match nextPage? s b with | some p => p.flip.isSome | none => false)
  if ready then s else forAll due (fun m s => missMark b m.2.2 m.1 0 s) s

/-- R71: the wagon of a band is present in time: its first 64 lines are in staging, and a whole-checked one has passed. -/
def wagonInTime (w : Wagon) : Bool :=
  if w.failCode ≠ 0 then true
  else if w.encrypted || w.hasCrc then w.phase == .done
  else decide (wagonRows w.format (min 64 w.lines) ≤ w.released)

/-- R71: a slot of band `band` of a started page at its due line. -/
def lateWagon (b n plane span band : Nat) (s : State) : State :=
  match s.page? b n with
  | none => s
  | some p =>
    match p.slots.get? (slotKey plane span band) with
    | some w => if wagonInTime w then s else settle b n (wagonFail b n w 0x30 s)
    | none =>
      settle b n (wagonFail b n (emptyWagon plane span band (bandLines p.lines band) (s.format b plane)) 0x30 s)

/-- R71: the band of a page whose due line, page line 512 × band - 64, is line `n`. -/
def dueBand (p : Page) (n : Nat) : Option Nat :=
  match p.flip with
  | some f =>
    let y := n - f + 64
    if p.started ∧ !p.cut ∧ f ≤ n ∧ y % 512 = 0 ∧ 0 < y / 512 ∧ y / 512 < ceilDiv p.lines 512 then some (y / 512) else none
  | none => none

/-- R71: late wagons of a bar at line `n`. -/
def wagonsLineDue (b n : Nat) (s : State) : State :=
  forAll ((s.bar b).pages.filterMap (fun p => (dueBand p n).map (fun d => (p.num, d)))) (fun q s =>
    forAll s.planes (fun pl s => forAll (List.range (s.spanCount b)) (fun sp s => lateWagon b q.1 pl sp q.2 s) s) s) s

/-- What falls to a bar at line `n`, due at `t`, before the strike. -/
def barBefore (n t period b : Nat) (s : State) : State :=
  let s := bandLineDue b n period s
  let s := safeStrips b n (gapLineDue b n s)
  let s := startLineDue b n t s
  let s := marksLineDue b n s
  let s := wagonsLineDue b n s
  forAll ((s.bar b).pages.filter (fun p => p.inProgress && decide (p.flip.getD 0 + p.lines = n + 1))) (fun p s =>
    s.modPage b p.num (fun q => { q with bandLast := (s.bar b).scan.band })) s

/-! ### Strike or skip -/

/-- R276: does this unit send STRIKE blocks? -/
def sendsStrikes (s : State) : Bool := sendsBursts s && !(pairMode s && !holder s && s.pair.strikesStopped)

/-- R139: a line has been skipped. -/
def noteSkip (n : Nat) (s : State) : State :=
  let s := if s.trig.overspeed then s
    else postD .overspeed 0 (leBytes 8 n ++ leBytes 4 0)
      (s.modTrig (fun t => { t with overspeed := true, firstSkip := n, runSkips := 0 }))
  let s := (s.bump 0x4020 0).modTrig (fun t => { t with runSkips := satAdd32 t.runSkips 1, runStruck := 0 })
  forAll (List.range 16) (fun b s =>
    forAll ((s.bar b).pages.filter (fun p => p.inProgress)) (fun p s => s.modPage b p.num (fun q => { q with
      skipped := q.skipped + 1
      status := if (s.bar b).vb == .printing then q.status ||| stOverspeed else q.status })) s) s

/-- R139: a line has been struck; 64 in a row end overspeed. -/
def noteStrike (s : State) : State :=
  if s.trig.overspeed then
    let s := s.modTrig (fun t => { t with runStruck := t.runStruck + 1 })
    if 64 ≤ s.trig.runStruck then
      postD .overspeed 1 (leBytes 8 s.trig.firstSkip ++ leBytes 4 s.trig.runSkips)
        ((s.modTrig (fun t => { t with overspeed := false, runStruck := 0 })).bump 0x4020 1)
    else s
  else s

/-- R138, R155: the STRIKE blocks of line `n`. -/
def strikePorts (n : Nat) (s : State) : State :=
  if sendsStrikes s then
    forAll ((headPorts s).filter (fun p => (s.port p).st == .run)) (fun p s =>
      (s.emit (.strike p n)).modPort p (fun x => { x with struck := x.struck ++ [n] })) s
  else s

/-- R326: lines held by the heads of a supply in its dead time that this strike fires. -/
def deadFired (n : Nat) (s : State) : State :=
  forAll ((List.range 16).filter (fun k => (s.supply k).st == .dead &&
    (supplyPorts k).any (fun p => (s.port p).launched.any (fun l => l.1 == n && (l.2.1 || l.2.2))))) (fun k s => s.bump 0xA208 k) s

/-- R191: page lines that have now been struck at every head. -/
def lastStruck (n b : Nat) (s : State) : State :=
  forAll ((s.bar b).pages.filter (fun p => p.inProgress)) (fun p s =>
    let d := p.flip.getD 0 + depthOf s b p
    if d ≤ n ∧ n < d + p.lines then s.modPage b p.num (fun q => { q with lastLine := n - d }) else s) s

/-- Table 13-4: strikes of line `n` as sources of the scheduler. -/
def strikeSources (n : Nat) (s : State) : State :=
  forAll ((List.range 8).filter (fun k => n % 2 ^ (2 * k + 6) == 0)) (fun k s => raiseSource (0x30 + k) s) s

/-- R138: line `n`, due at `t`, is struck. -/
def strikeLine (n t : Nat) (s : State) : State :=
  let s := s.modTrig (fun x => { x with lastStrike := some t })
  let s := deadFired n s
  let s := strikePorts n s
  let s := forAll (List.range 16) (fun b s =>
    lastStruck n b (s.modScan b (fun c => { c with struck := c.struck + 1 }))) s
  strikeSources n (noteStrike s)

/-- Table 06-1: the record of line `n`. -/
def lineRecord (s : State) (n : Nat) (d : Due) (skipped : Bool) : List Byte :=
  leBytes 8 (s.timeAt d.at_) ++ leBytes 8 n ++ leBytes 8 (ofSigned 64 s.trig.h) ++ leBytes 4 s.trig.period ++
  leBytes 1 (b2n d.predicted + 2 * b2n d.forced + 4 * b2n skipped + 8 * b2n s.trig.overspeed +
    16 * b2n (s.devState == .safe)) ++ leBytes 3 0

/-- R137: write the record of line `n`. -/
def putRecord (n : Nat) (d : Due) (skipped : Bool) (s : State) : State :=
  s.modTrig (fun t => { t with records := t.records.set (n % 32768) (lineRecord s n d skipped) })

/-- R138: is line `n`, due at `t`, struck? -/
def strikes (s : State) (n t : Nat) : Bool :=
  s.trig.admitted.contains n &&
  (match s.trig.lastStrike with
   | some u => decide (u + skipPeriod s ≤ t)
   | none => true)

/-- R137, R138: strike, skip or, in SAFE, neither: a line due in SAFE has bit 2 of its record 0 and moves neither SKIPPED_LINES
nor OVERSPEED (DEDUCED, assumption log 103). -/
def fireLine (n : Nat) (d : Due) (s : State) : State :=
  let hit := strikes s n d.at_
  let safe := s.devState == .safe
  let s := if safe then s else if hit then strikeLine n d.at_ s else noteSkip n s
  let s := putRecord n d (!hit && !safe) s
  let s := s.modTrig (fun t => { t with admitted := t.admitted.filter (fun m => decide (n < m)) })
  { s with ports := s.ports.mapVals (fun x => { x with launched := x.launched.filter (fun l => decide (n < l.1)) }) }

/-- R138: admission of line `m`, decided now. -/
def admitLine (m : Nat) (s : State) : State :=
  let est := estimateAt s (linePos s m)
  let ok : Bool := match est, s.trig.lastAdmit with
    | some t, some u => decide ((u + skipPeriod s : Nat) ≤ t)
    | _, _ => true
  if ok then s.modTrig (fun t => { t with admitted := t.admitted ++ [m], lastAdmit := est.map (fun x => x.toNat) }) else s

/-! ### After the strike -/

/-- R191, R203: a page of a bar whose last line has gone by at every row of every head is printed. -/
def printedLineDue (b n : Nat) (s : State) : State :=
  let ended := (s.bar b).pages.filter (fun p => p.inProgress && decide (p.flip.getD 0 + p.lines + depthOf s b p ≤ n + 1))
  forAll ended (fun p s => pageEnd b p.num false n (integCheck b p.num s)) s

/-- R209: page-mark requests that are due. -/
def markReqsDue (b n : Nat) (s : State) : State :=
  let due := (s.bar b).scan.markReqs.filter (fun l => decide (l ≤ n))
  let s := s.modScan b (fun c => { c with markReqs := c.markReqs.filter (fun l => decide (n < l)) })
  forAll due (fun _ s => cmpMark b s) s

/-- What falls to a bar at line `n` after the strike. -/
def barAfter (n b : Nat) (s : State) : State :=
  let s := printedLineDue b n s
  let s := judgeLate b n s
  resumeIntake b (markReqsDue b n s)

/-- R326: waiting rises happen at the strike of their line, or when it is skipped. -/
def risesDue (n : Nat) (s : State) : State :=
  forAll ((List.range 16).filter (fun k => match (s.supply k).riseLine with | some l => decide (l ≤ n) | none => false)) riseSupply s

/-- R276: the active sends a cross-check each 64 lines; `p` is P(n). -/
def sendXchk (n : Nat) (p : Int) (s : State) : State :=
  if n % 64 = 0 ∧ holder s then pairSend (.xchk n p s.trig.h) s else s

/-- R214: camera pulses that line `n`, due at `t`, starts. -/
def camTriggers (n t : Nat) (s : State) : State :=
  forAll ((List.range 4).filter (fun c =>
    bitN (s.dv 0x6000 c) 0 && s.dv 0x6003 c == 1 && n % s.dv 0x6004 c == 0)) (fun c s =>
    s.modCam c (fun x => { x with dueTrig := x.dueTrig ++ [t + s.dv 0x6005 c] })) s

/-- R280: every row of every head that serves a printing bar has come to a line of page J or later. -/
def joinReached (s : State) (n : Nat) : Bool :=
  (printingBars s).all (fun b => (instPorts s b).all (fun p => (rowList s p).all (fun r =>
    (s.bar b).pages.any (fun pg => pageGe pg.num (s.bar b).joinPage &&
      (match pg.flip with
       | some f => decide (f + coarse s b pg p + fine s b pg p r ≤ n)
       | none => false)))))

/-- R280: a join is complete. -/
def joinLineDue (n : Nat) (s : State) : State :=
  if s.pair.state = .joining ∧ s.pair.joinStep = 2 ∧ (holder s ∨ s.pair.aligned = true) ∧ joinReached s n then
    setPairState .paired { s with bars := s.bars.mapVals (fun x => { x with joinPage := 0 }) }
  else s

/-- The next line falls due. -/
def lineFalls (d : Due) (s : State) : State :=
  let n := s.trig.line + 1
  let p := s.trig.pos
  let period := periodTo s d.at_
  let s := forAll s.barsWithCols noteReady s
  let s := s.modTrig (fun t => { t with
    line := n, lastDue := some d.at_, period := period, pos := wrap96 (t.pos + (countsPerLine s : Int)) })
  let s := forAll s.barsWithCols (barBefore n d.at_ period) s
  let s := admitLine (n + leadLines s) s
  let s := fireLine n d s
  let s := risesDue n s
  let s := forAll (headPorts s) (fun p s => activateLate p n s) s
  let s := drayReads n s
  let s := if s.trig.admitted.contains (n + leadLines s) then launchLine n (n + leadLines s) s else s
  let s := forAll s.barsWithCols (barAfter n) s
  let s := cmpMotion 12 ((n - 1 : Nat) : Int) (n : Int) (sendXchk n p (camTriggers n d.at_ s))
  advanceBars (webSlowJudge (joinLineDue n s))

/-- R134 to R139: the next line falls due, when its time has come. -/
def lineDue : State → State :=
  fun s =>
    if s.trig.en && numbers s then
      match dueOf s with
      | some d => if d.at_ ≤ s.now then lineFalls d s else s
      | none => s
    else s

end Sys2Proof.Machine
end

