-- ==== Sys2Proof/Machine/Pair.lean ====
section
/-!
DEFINITION. Paired units (11_pair_redundancy.md): the lease and the reins (R270 to R273), mirrored state and records (R196, R144,
R236, R274, R275), the line cross-check (R276), the link (R268, R277 to R279), and joining (R269, R280, R281).
-/
namespace Sys2Proof.Machine
open Sys2Proof

/-! ### Identity -/

/-- 1005.00 FW_VERSION: from the resident image's header (Table 13-9). -/
def fwVersion (s : State) : Nat := imgField s.boot.image 12 4

/-- R269: the values that the configuration digest covers, in ascending order of object. -/
def digestSlots (s : State) : List Nat :=
  (List.range 16).map (fun b => s.dv 0x1206 b) ++ (List.range 8).map (fun p => s.dv 0x3000 p) ++
  (List.range 16).flatMap (fun b => (List.range 8).map (fun p => s.format b p)) ++
  (List.range 64).map (fun p => s.dv 0x3200 p) ++ [s.dv 0x4010 0] ++
  (List.range 64).map (fun p => s.dv 0x4210 p) ++ (List.range 64).map (fun p => s.dv 0x4211 p) ++
  [s.dv 0x4212 0, s.dv 0x4800 0, s.dv 0x4800 1, s.dv 0x5002 0]

/-- 8007.00 CONFIG_DIGEST (R269). -/
def configDigest (s : State) : Nat := crc32c ((digestSlots s).flatMap (leBytes 8))

/-- R268: a valid record has arrived. -/
def heard (s : State) : State := s.modPair (fun x => { x with recordAt := s.now })

/-- A record for a unit in pair operation. -/
def onRecord (f : State → State) (s : State) : State := if pairMode s then f (heard s) else s

/-- A record that only a standby uses. -/
def toStandby (f : State → State) (s : State) : State := onRecord (fun s => if holder s then s else f s) s

/-! ### The reins (R270 to R273) -/

/-- Is the partner's lease over (R270)? -/
def leaseOver (s : State) : Bool := match s.pair.partnerLease with | some t => decide (t ≤ s.now) | none => false

/-- R272: REINS_PEER has read deasserted for 0.5 µs. -/
def peerLow (s : State) : Bool := !s.pair.peer && decide (s.pair.peerSince + 500 ≤ s.now)

/-- A unit that may take the reins at all: it runs, and has not released them itself (R271). -/
def mayHold (s : State) : Bool :=
  pairMode s && !holder s && s.pair.released.isNone && s.devState != .boot && s.devState != .halted

/-- R273: the new holder drives HVEN as its mirror holds. -/
def takeSupply (k : Nat) (s : State) : State :=
  let x := s.supply k
  if x.mirrorEn then (if x.hven || x.st == .tripped then s else riseSupply k s)
  else s.modSupply k (fun x => { x with hven := false, riseLine := none, riseAt := none, inBlank := false })

/-- R273, R174: the new holder rewrites the shadows of a head. -/
def takeHead (p : Nat) (s : State) : State :=
  if (s.port p).st = .run then
    let n := headSize s p
    let s := if n = 0 then s else writePhase p 0 (n - 1) (liveCopy s) none s
    pumpReqs p (writeWave p ((governor s p).bind (fun b => liveCopy s b (okey 0x4830 p))) none s)
  else s

/-- R174: the ports whose heads have not yet switched to a started page's tables: the strike of BASE + max OFF is to come. -/
def switchPending (s : State) (b : Nat) (pg : Page) (p : Nat) : Bool :=
  decide (s.trig.line < pg.flip.getD 0 + coarse s b pg p + ((rowList s p).map (fine s b pg p)).foldl max 0)

/-- The copies of a page for bar `b`, every other bar's live ones. -/
def pageCopy (s : State) (b : Nat) (pg : Page) (x key : Nat) : Option Val :=
  if x = b then (s.bar b).forPg pg key else liveCopy s x key

/-- R174: the shadow writes of the given head tables of port `p` for a page of the bar. -/
def rewritePort (b : Nat) (pg : Page) (p : Nat) (s : State) : State :=
  let r := nozzleRange s b p
  let s := if pg.actKeys.contains (okey 0x4202 p) then writePhase p r.1 r.2 (pageCopy s b pg) none s else s
  if pg.actKeys.contains (okey 0x4830 p) && governor s p == some b then
    writeWave p ((s.bar b).forPg pg (okey 0x4830 p)) none s
  else s

/-- R174: a unit that takes the reins rewrites the shadows of a started page and repeats its ACTIVATEs not yet in effect. -/
def takeStarted (b : Nat) (pg : Page) (s : State) : State :=
  forAll ((shadowPorts s b pg.actKeys).filter (fun p => (s.port p).st == .run && switchPending s b pg p)) (fun p s =>
    activatePort b pg (pg.flip.getD 0) pg.actKeys p (rewritePort b pg p s)) s

/-- R174, R20: the same of the tables of an idle generation whose page has not started. -/
def takeHeads (b : Nat) (s : State) : State :=
  match (s.bar b).heads with
  | none => s
  | some h =>
    let ports := (shadowPorts s b h.headKeys).filter (fun p => (s.port p).st == .run)
    let s := forAll ports (fun p s => pumpReqs p (shadowPort b h.page h.headKeys p s)) s
    s.modHeads b (fun g => { g with headWait := ports.filter (fun p => writesOpen s b g.page p) })

/-- R273, R174: the pending generations' shadows, and every ACTIVATE not yet in effect. -/
def takeBar (b : Nat) (s : State) : State :=
  let s := forAll ((s.bar b).pages.filter (fun p => p.started && !p.actKeys.isEmpty && !p.cut)) (takeStarted b) s
  let s := takeHeads b s
  let s := if (s.bar b).heads.isSome then s else shadowWrites b s
  forAll ((notStarted s b).filter (fun p => p.flip.isSome)) (fun p s => activates b p (p.flip.getD 0) s) s

/-- R273: the new holder acts. -/
def takeOutputs (s : State) : State :=
  let s := forAll (List.range 16) takeSupply s
  let s := forAll (List.range 8) takeoverAxis s
  let s := forAll (lateBars s) webSlowAsk s
  let s := forAll (headPorts s) takeHead s
  forAll (List.range 16) takeBar s

/-- Table 07-9: the lane states that send IDLE blocks. -/
def LaneState.idles : LaneState → Bool
  | .detect | .ident | .run | .relock | .wake | .mismatch => true
  | .off | .train | .deep | .retired => false

/-- R272, R273: the unit takes the reins; its IDLE blocks carry REINS from then on. -/
def takeReins (s : State) : State :=
  let gap := min (s.now - s.pair.peerSince) 0xFFFFFFFF
  let byRel := s.pair.byRelease
  let s := s.modPair (fun x => { x with
    holder := true, reinsOut := true, renewedAt := s.now, partnerLease := none, byRelease := false, recheckAt := none
    strikesStopped := false, resyncOnly := false, needK := false, bothSince := none })
  let s := pairSend .lease s
  let s := forAll ((headPorts s).filter (fun p => (s.port p).st.idles)) sendIdle s
  let s := ((s.bump 0x8010 0).setDv 0x8010 1 s.time).setDv 0x8010 2 gap
  let s := postD .reinsChange (1 + 2 * b2n byRel) (leBytes 4 gap ++ leBytes 1 0) s
  takeOutputs s

/-- R272: take the reins when both conditions hold. -/
def tryTake (s : State) : State := if mayHold s && leaseOver s && peerLow s then takeReins s else s

/-- R272: the conditions of a start-up: NO_PARTNER, 100 ms after BOOT, no lease seen since. A unit whose link has gone down before
any lease came is ISOLATED by R277 and counts as without a partner too (DEDUCED, assumption log 130). -/
def startReady (s : State) : Bool :=
  mayHold s && (s.pair.state == .noPartner || s.pair.state == .isolated) && !s.pair.seenLease && s.pair.partnerLease.isNone &&
  decide (s.pair.bootAt + 100 * Config.milli ≤ s.now) && peerLow s

/-- R272: at start-up unit A takes the reins; unit B waits a further 50 µs. -/
def tryStart (s : State) : State :=
  if startReady s && s.pair.recheckAt.isNone then
    if s.pins.pairId then s.modPair (fun x => { x with recheckAt := some (s.now + 50 * Config.micro) }) else takeReins s
  else s

/-- LEASE_SEND (R270): the holder renews its lease every 2 µs. -/
def execLeaseSend (dt : Nat) (s : State) : Host.Outcome State Fault Refusal :=
  run dt s (fun s =>
    if pairMode s && s.pair.holder && decide (s.pair.renewedAt + 2 * Config.micro ≤ s.now) then
      pairSend .lease (s.modPair (fun x => { x with renewedAt := s.now }))
    else s)

/-- LEASE_HW_EXPIRY (R270): the AON timer deasserts REINS_OUT 8 µs after the last renewal: the reins are lost. -/
def execLeaseHwExpiry (dt : Nat) (s : State) : Host.Outcome State Fault Refusal :=
  run dt s (fun s =>
    if pairMode s && s.pair.holder && decide (s.pair.renewedAt + 8 * Config.micro ≤ s.now) then
      (dropWrites (abandonSearches (standbyOutputs (ownMirror s)))).modPair (fun x => { x with
        holder := false, reinsOut := false, bothSince := none, aligned := s.trig.en, needK := true })
    else s)

/-- R280: a unit that finds its partner holding the reins joins. -/
def joinStandby (s : State) : State := setPairState .joining (s.modPair (fun x => { x with joinStep := 1, aligned := false }))

/-- R279, R280: a unit that has still to join its partner. -/
def fresh (s : State) : Bool := s.pair.state == .noPartner || s.pair.state == .isolated || s.pair.state == .diverged

/-- R26: a unit outside CONFIG stays DIVERGED though its partner's values match now. -/
def stillBarred (s : State) : Bool := s.pair.barred && s.devState != .config

/-- R279, R280: the partner's HELLO has matched and this unit has still to join. -/
def matched (s : State) : Bool :=
  s.pair.helloAt.isSome && !s.pair.digestBad && !s.pair.fwBad && !stillBarred s && fresh s

/-- R279, R280: the partner holds the reins: a unit whose HELLO has matched joins. -/
def leaseJoin (s : State) : State := if matched s then joinStandby s else s

/-- LEASE (R270). -/
def execLease (dt : Nat) (s : State) : Host.Outcome State Fault Refusal :=
  run dt s (toStandby (fun s => leaseJoin (s.modPair (fun x => { x with
    partnerLease := some (s.now + 8 * Config.micro), seenLease := true, byRelease := false, recheckAt := none
    released := if x.released = some 1 then some 1 else none }))))

/-- RELEASE (R270, R272): the lease ends at once. -/
def execRelease (dt : Nat) (s : State) : Host.Outcome State Fault Refusal :=
  run dt s (toStandby (fun s => tryTake (s.modPair (fun x => { x with partnerLease := some s.now, byRelease := true }))))

/-- PARTNER_LEASE_EXPIRY (R270, R272). -/
def execPartnerLeaseExpiry (dt : Nat) (s : State) : Host.Outcome State Fault Refusal := run dt s tryTake

/-- REINS_PEER_CHANGE (R272): not sampled in single operation (R267). -/
def execReinsPeerChange (dt : Nat) (level : Bool) (s : State) : Host.Outcome State Fault Refusal :=
  run dt s (fun s =>
    if pairMode s && s.pair.peer != level then
      s.modPair (fun x => { x with
        peer := level, peerSince := s.now, bothSince := if level && x.reinsOut then some s.now else none })
    else s)

/-- REINS_PEER_LOW_HELD (R272, R273): REINS_PEER has read deasserted for 0.5 µs. -/
def execReinsPeerLowHeld (dt : Nat) (s : State) : Host.Outcome State Fault Refusal :=
  run dt s (fun s => tryStart (tryTake s))

/-- STARTUP_REINS_WAIT (R272). -/
def execStartupReinsWait (dt : Nat) (s : State) : Host.Outcome State Fault Refusal := run dt s tryStart

/-- UNIT_B_RECHECK (R272). -/
def execUnitBRecheck (dt : Nat) (s : State) : Host.Outcome State Fault Refusal :=
  run dt s (fun s =>
    match s.pair.recheckAt with
    | some t =>
      if t ≤ s.now then
        let s := s.modPair (fun x => { x with recheckAt := none })
        if startReady s then takeReins s else s
      else s
    | none => s)

/-- REINS_CONFLICT (R272): both asserted for 0.5 µs: unit B releases. -/
def execReinsConflict (dt : Nat) (s : State) : Host.Outcome State Fault Refusal :=
  run dt s (fun s =>
    match s.pair.bothSince with
    | some t =>
      if t + 500 ≤ s.now ∧ s.pins.pairId = true ∧ s.pair.peer = true ∧ s.pair.holder = true then
        releaseReins 3 (s.bump 0x8014 0)
      else s
    | none => s)

/-! ### Commits, flips and bands (R144, R196, R274) -/

/-- R274: the standby seals at the named page and compares the digest. -/
def takeCommit (bar : Fin 16) (page digest : BitVec 32) : State → State :=
  toStandby (fun s =>
    let merged := (s.bar bar).heldReq.isSome
    trySeal bar (s.modBar bar (fun x => { x with
      peerSeal := some (page.toNat, digest.toNat), heldReq := some (page.toNat, merged) })))

/-- A copied object as it is stored. -/
def GenObj.val (o : GenObj) : Val := if o.wide then .wide o.bytes else .slot o.slot

/-- Copies as a table of objects. -/
def genMap (base : Map Val) (objs : List GenObj) : Map Val := objs.foldl (fun m o => m.set o.key (GenObj.val o)) base

/-- R274: the copy of the active's generation replaces the standby's. -/
def genRepair (b : Nat) (objs : List GenObj) (s : State) : State :=
  match (s.bar b).mismatchFrom with
  | none => s
  | some e =>
    let d := (s.bar b).mismatchDigests
    let s := s.modBar b (fun x => { x with
      mismatchFrom := none
      pend := if x.gen.isSome then genMap x.pend objs else x.pend
      live := if x.gen.isSome then x.live else genMap x.live objs
      gen := x.gen.map (fun g => { g with
        screening := (genMap x.pend objs).keys.any isScreening, headKeys := (genMap x.pend objs).keys.filter isHeadTable }) })
    let s := if (s.bar b).gen.isSome then s
      else headGaps (s.modScan b (fun c => { c with uncomp := uncompUnder s b (s.bar b).live }))
    let s := if objs.any (fun o => isScreening o.key) then rescreen b e s else s
    postB .genMismatch b e 1 (leBytes 4 e ++ leBytes 4 d.1 ++ leBytes 4 d.2) s

/-- R274: the bursts of pages whose flip is fixed before the repair stay withheld. -/
def holdFixed (b : Nat) (s : State) : State :=
  match (s.bar b).mismatchFrom with
  | none => s
  | some e => s.modBar b (fun x => { x with pages := x.pages.map (fun p =>
      if p.flip.isSome && pageGe p.num e then { p with genWithheld := true } else p) })

/-- GEN_COPY_DONE (R274). -/
def execGenCopyDone (dt : Nat) (bar : Fin 16) (objs : List GenObj) (s : State) : Host.Outcome State Fault Refusal :=
  run dt s (toStandby (fun s => genRepair bar objs (holdFixed bar s)))

/-- R196, R200: a strip that the active placed. -/
def peerStrip (b : Nat) (x : StripPlace) (s : State) : State :=
  if (s.bar b).scan.strips.any (fun y => y.first == x.first) then s
  else placeStrip b (newStrip s b x.plane.val x.rowSet.val x.first x.length) false s

/-- R158: the residual that this unit found for a registered line. -/
def ownResidual (s : State) (b line : Nat) : Nat :=
  match (s.bar b).scan.marks.find? (fun k => k.1 == line) with
  | some k => 64 + k.2.1 % 64
  | none => 0

/-- R196: the flip line is taken as the active fixed it; one whose page head is still to come waits. -/
def takeFlip (bar : Fin 16) (page : BitVec 32) (flip : Nat) (strip : Option StripPlace) : State → State :=
  toStandby (fun s =>
    let b := bar.val
    let n := page.toNat
    let s := match strip with | some x => peerStrip b x s | none => s
    match (notStarted s b).find? (fun p => p.num == n && p.flip.isNone) with
    | some p =>
      peerFlip b n flip none (fixFlip b p flip (ownResidual s b flip) s)
    | none =>
      if (s.page? b n).isSome then s
      else s.modScan b (fun c => { c with ahead := c.ahead.filter (fun r => r.1 != n) ++ [(n, flip, none)] }))

/-- The page whose generation governs a change of band at `line`: the one that starts there, else the one that drives the bar. -/
def bandPageAt (s : State) (b line : Nat) : Nat :=
  match (notStarted s b).find? (fun p => p.flip == some line) with
  | some p => p.num
  | none => drivePage s b

/-- R144: the active's decision: at the named line, with its band-select blocks; when this unit's strike of that line has passed,
at once and without them. -/
def peerBand (b : Nat) (c : BandChange) (s : State) : State :=
  if c.line ≤ s.trig.line then changeBand b c.line c.band c.stop c.held s
  else bandSelects b c (s.modScan b (fun x => { x with bandChange := x.bandChange ++ [c] }))

/-- BAND_RECORD (R144). -/
def execBandRecord (dt : Nat) (bar : Fin 16) (band : Fin 8) (change : BandAt) (s : State) :
    Host.Outcome State Fault Refusal :=
  run dt s (toStandby (fun s =>
    peerBand bar { line := change.line, band := band.val, stop := change.stop, held := change.held,
                   page := bandPageAt s bar change.line } s))

/-- ACK_RECORD (R174, Table 11-2): the head's acknowledgement clears HEAD_WRITES. -/
def execAckRecord (dt : Nat) (bar : Fin 16) (port : Fin 64) (s : State) : Host.Outcome State Fault Refusal :=
  run dt s (toStandby (fun s => s.modWaits bar (PendGen.acked port)))

/-! ### Mirrored state (Table 11-3) -/

/-- R121: a nozzle's state and gain enter the open copy. -/
def mirrorNozzle (b p k : Nat) (st gain : Nat) (s : State) : State :=
  let s := editEntries b p (fun j e => if j = k then st else e) s
  let g := s.curW b 0x3410 p
  if entryAt g k = gain ∨ g.length < 2 * k + 2 then s
  else openSet b (okey 0x3410 p) (.wide (overwrite g (2 * k) (leBytes 2 gain))) s

/-- R332: the holder's enable and latch; a difference of the latches is logged. -/
def mirrorHv (k : Nat) (en latch : Bool) (s : State) : State :=
  let s := supplyFollow k (s.modSupply k (fun x => { x with mirrorEn := en, mirrorLatch := latch }))
  let s := standbyClear k s
  if ((s.supply k).st == .tripped) = latch then s else logBoth (plainLog 0x0E07 0) s

/-- The device state of a code. -/
def devOf : Nat → DevState
  | 0 => .boot | 1 => .config | 2 => .ready | 3 => .print | 4 => .safe | 5 => .doze | _ => .halted

/-- R275, R26: the standby follows the active's device state. It leaves CONFIG only past its own configuration check. -/
def followDev (st : DevState) (s : State) : State :=
  if st = s.devState ∨ s.pair.barred = true then s
  else match st, s.devState with
    | .safe, .boot => s
    | .safe, _ => enterSafe s
    | .doze, .ready => enterDoze s
    | .ready, .doze => leaveDoze s
    | .config, _ => if s.devState = .ready then enterConfig s else s
    | .ready, .config => (configToReady s).2
    | .print, .config =>
      let s := (configToReady s).2
      if s.devState = .ready then setDev .print 0 s else s
    | .ready, .safe => setDev .ready 0 { s with safeCause := [] }
    | .ready, .print => setDev .ready 0 s
    | .print, .ready => setDev .print 0 s
    | _, _ => s

/-- Table 02-11: the bar state of a code. -/
def vbCode (n : Nat) : VbState := (vbOf n).getD .off

/-- Table 11-3: the caldera index: eviction follows the active. -/
def mirrorCaldera (b n : Nat) (retained : Bool) (s : State) : State :=
  match s.page? b n with
  | some p => if p.retained && !retained then evictPage b p s else s
  | none => s

/-- One item of mirrored state. -/
def mirrorTake (item : MirrorItem) (s : State) : State :=
  match item with
  | .nozzle b p k st g => mirrorNozzle b p k st.toNat g.toNat s
  | .supply k en latch => mirrorHv k en latch s
  | .axis a target moving v acc j => s.modAxis a (fun x => { x with
      mirrorTarget := target.toInt, mirrorMoving := moving, mirrorProfile := some (v.toNat, acc.toNat, j.toNat) })
  | .device st => followDev (devOf st) s
  | .bar b st => if s.pair.barred then s else setVb b (vbCode st) s
  | .caldera b n r => mirrorCaldera b n.toNat r s
  | .reprint b n ok => s.modPair (fun x => { x with reprints := x.reprints.set (b.val * 2 ^ 32 + n.toNat) ok })

/-- R268: records arrive within 1 µs, in DOZE within 10 µs: 8013.00 MIRROR_LAG_NS is a free value within it. -/
def mirrorLag (s : State) : State :=
  let (d, s) := s.draw
  s.setDv 0x8013 0 (d.toNat % (if s.devState == .doze then 10001 else 1001))

/-- R275, Table 11-3: the standby follows one item of the active's state. -/
def takeMirror (item : MirrorItem) : State → State :=
  toStandby (fun s => mirrorLag (mirrorTake item s))

/-- R275: a forwarded write is applied as if written here. -/
def applyForward (bar : Option (Fin 16)) (idx sub : Nat) (val : Slot) (s : State) : State :=
  match rowAt idx sub with
  | none => s
  | some row =>
    let b := bar.map (fun x => x.val)
    if idx = 0x1202 then (vbTargetEffect row b sub val s).2
    else if idx = 0x1203 then (devTargetEffect row b sub val s).2
    else if idx = 0x1220 then (commitReqEffect row b sub val s).2
    else s

/-- FORWARD_RECORD (R275). -/
def execForwardRecord (dt : Nat) (bar : Option (Fin 16)) (idx : BitVec 16) (sub : BitVec 8) (val : Slot) (s : State) :
    Host.Outcome State Fault Refusal :=
  run dt s (onRecord (fun s => if holder s then applyForward bar idx.toNat sub.toNat val s else s))

/-- MEAS_RECORD (R236). -/
def execMeasRecord (dt : Nat) (bar : Fin 16) (port : Fin 64) (items : List MeasItem) (s : State) :
    Host.Outcome State Fault Refusal :=
  run dt s (onRecord (fun s => if holder s then takeMeas bar port items s else s))

/-! ### The line cross-check (R276) -/

/-- P(n) by this unit's own accumulator. -/
def ownPos (s : State) (n : Nat) : Int := wrap96 (linePos s n)

/-- R276: K for the active's high-water count as the record gives it, and the position of this unit's own next line. -/
def setK (n : Nat) (p h : Int) (s : State) : State :=
  let k := h - s.trig.h
  let m := s.trig.line + 1
  let pos := wrap96 (p + ((m : Int) - (n : Int)) * (countsPerLine s : Int) - k * (countUnit : Int))
  (s.setDvi 0x8011 1 k).modTrig (fun t => { t with pos := pos })

/-- R276: alignment: the active's line number, and the first lines' launches. -/
def align (n : Nat) (p h : Int) (s : State) : State :=
  let s := setK n p h (s.modTrig (fun t => { t with line := n }))
  let s := s.modTrig (fun t => { t with
    admitted := (List.range (leadLines s)).map (fun i => n + 1 + i), lastDue := none, lastAdmit := none })
  let s := s.modPair (fun x => { x with aligned := true, strikesStopped := false, needK := false })
  firstLaunches s

/-- LINE_XCHK of a line. -/
def xchkPost (flags n diff : Nat) (s : State) : State := postD .lineXchk flags (leBytes 8 n ++ leBytes 4 diff) s

/-- R276: a disagreement: strikes stop; the third within 1 s is a device-class fault. -/
def xchkDiffers (n : Nat) (diff : Int) (s : State) : State :=
  let s := xchkPost 1 n (ofSigned 32 diff) (s.bump 0x8011 0)
  let times := s.pair.mismatches.filter (fun t => decide (s.now < t + Config.second)) ++ [s.now]
  let s := s.modPair (fun x => { x with strikesStopped := true, mismatches := times })
  if 3 ≤ times.length ∧ s.pair.resyncOnly = false then deviceFault 0x0B (s.modPair (fun x => { x with resyncOnly := true })) else s

/-- R276: a cross-check record at the standby. -/
def xchkTake (n : Nat) (p h : Int) (s : State) : State :=
  if !s.trig.en then s
  else if !s.pair.aligned then
    if n + 1 ≤ s.trig.line then xchkPost 2 n (s.trig.line - n) s else align n p h s
  else if s.pair.strikesStopped then
    if s.pair.resyncOnly then s else (setK n p h s).modPair (fun x => { x with strikesStopped := false, needK := false })
  else if s.pair.needK then
    (s.setDvi 0x8011 1 (h - s.trig.h)).modPair (fun x => { x with needK := false })
  else
    let d := wrap96 (p - ownPos s n - s.dvi 0x8011 1 * (countUnit : Int))
    if d = 0 then s else xchkDiffers n (d / (countUnit : Int)) s

/-- XCHK_RECORD (R276, R280). -/
def execXchkRecord (dt : Nat) (line : Nat) (pos : Int) (h : Int) (s : State) : Host.Outcome State Fault Refusal :=
  run dt s (toStandby (xchkTake line pos h))

/-! ### HELLO and joining (R269, R280, R281) -/

/-- R280: J of a bar: the first page whose head has not yet been accepted. -/
def joinFrom (s : State) (b : Nat) : Nat := (s.bar b).intake.expect.getD 0

/-- R280: the holder of the reins takes a partner in. -/
def joinActive (s : State) : State :=
  let s := { s with bars := s.bars.mapVals (fun x => { x with joinPage := x.intake.expect.getD 0 }) }
  pairSend .snapshot (setPairState .joining (s.modPair (fun x => { x with joinStep := 2 })))

/-- R280: a join that has nothing left to wait for is complete. -/
def joinJudge (s : State) : State := joinLineDue s.trig.line s

/-- R269: the partner's values match: who is not yet joined joins. A unit that no lease of the partner has reached yet joins with
the first (R279). -/
def helloMatch (s : State) : State :=
  if stillBarred s then setPairState .diverged s
  else
    let s := s.modPair (fun x => { x with barred := false })
    if !fresh s then s
    else if holder s then joinJudge (joinActive s)
    else if s.pair.partnerLease.isSome && !leaseOver s then joinStandby s
    else if s.pair.state == .diverged then setPairState .noPartner s
    else s

/-- R269: HELLO: the partner's values are compared with this unit's own. -/
def helloTake (serial fw digest : Nat) (partnerId : Bool) (s : State) : State :=
  let s := ((s.setDv 0x8006 0 serial).setDv 0x8006 1 fw).setDv 0x8007 1 digest
  let badD := digest != configDigest s
  let badF := fw / 65536 != fwVersion s / 65536 || partnerId == s.pins.pairId
  let s := s.modPair (fun x => { x with helloAt := some s.now, digestBad := badD, fwBad := badF })
  if badD || badF then
    if holder s && !s.pair.barred then setPairState .noPartner s
    else setPairState .diverged (s.modPair (fun x => { x with barred := true }))
  else helloMatch s

/-- HELLO_RECORD (R269, R280, R26). -/
def execHelloRecord (dt : Nat) (serial : BitVec 64) (fw : BitVec 32) (digest : BitVec 32) (pairId : Bool) (s : State) :
    Host.Outcome State Fault Refusal :=
  run dt s (onRecord (helloTake serial.toNat fw.toNat digest.toNat pairId))

/-- Send this unit's HELLO. -/
def sendHello (s : State) : State :=
  pairSend (.hello Config.serialNumber (fwVersion s) (configDigest s) s.pins.pairId) s

/-- HELLO_SEND (R269, Table 11-2). -/
def execHelloSend (dt : Nat) (s : State) : Host.Outcome State Fault Refusal := run dt s sendHello

/-- HELLO_TIMEOUT (Table 11-4): no HELLO within the last 10 ms while the link is up. -/
def execHelloTimeout (dt : Nat) (s : State) : Host.Outcome State Fault Refusal :=
  run dt s (fun s =>
    let gone : Bool := match s.pair.helloAt with | some t => decide (t + 10 * Config.milli ≤ s.now) | none => true
    if pairMode s && s.pair.linkUp && gone then
      setPairState .noPartner (s.modPair (fun x => { x with helloAt := none }))
    else s)

/-- R280: the active's copies replace this unit's own. -/
def joinBar (j : JoinBar) (s : State) : State :=
  let b := j.bar.val
  let g : Option PendGen := j.pendingPage.map (fun e =>
    ({ page := e.toNat, screening := j.pending.any (fun o => isScreening o.key),
       headKeys := (j.pending.map (fun o => o.key)).filter isHeadTable, headWait := [], dev := [], idle := false } : PendGen))
  let s := s.modBar b (fun x => { x with
    live := genMap [] j.live
    pend := genMap [] j.pending
    gen := g
    mismatchFrom := none
    peerSeal := none
    heldReq := none
    joinPage := j.nextPage.toNat })
  let s := s.modScan b (fun c => { c with uncomp := uncompUnder s b (s.bar b).live })
  let s := rescreen b (nextPageNum s b) s
  setVb b (vbCode j.state) s

/-- JOIN_SNAPSHOT (R280, R281): the mirrored state and every bar's generations. -/
def execJoinSnapshot (dt : Nat) (device : JoinDevice) (bars : List JoinBar) (s : State) :
    Host.Outcome State Fault Refusal :=
  run dt s (toStandby (fun s =>
    let s := if matched s then joinStandby s else s
    if s.pair.state = .joining then
      let s := followDev (devOf device.state) s
      let s := forAll device.items mirrorTake s
      let s := forAll bars joinBar s
      joinJudge (s.modPair (fun x => { x with joinStep := 2, aligned := false }))
    else s))

/-- 8003.00 PAIR_CMD (R271, R281). -/
def pairCmdEffect : Effect := onDev (fun _ w s =>
  if w = 1 then
    if pairMode s && s.pair.holder && s.pair.state == .paired then (stOK, releaseReins 2 s) else (stState, s)
  else if w = 2 then
    if holder s then (stState, s)
    else (stOK, joinStandby (s.modPair (fun x => { x with resyncOnly := false, mismatches := [] })))
  else (stRange, s))

/-- PAIR_CMD_HANDOVER (R271). -/
def execPairCmdHandover (dt : Nat) (door : Door) (s : State) : Host.Outcome State Fault Refusal :=
  run dt s (writeThrough door 0x8003 0 1 pairCmdEffect)

/-- PAIR_CMD_RESYNC (R281). -/
def execPairCmdResync (dt : Nat) (door : Door) (s : State) : Host.Outcome State Fault Refusal :=
  run dt s (writeThrough door 0x8003 0 2 pairCmdEffect)

/-! ### The link (R268, R277 to R279) -/

/-- PAIR_LINK_DOWN (R268, R277): no lane holds block lock, or no valid record for 4 µs. -/
def execPairLinkDown (dt : Nat) (s : State) : Host.Outcome State Fault Refusal :=
  run dt s (fun s =>
    if pairMode s && s.pair.linkUp && (lanesUp s == 0 || decide (s.pair.recordAt + 4 * Config.micro ≤ s.now)) then
      linkLost 0xFF (setLanes 0 s)
    else s)

/-- PAIR_LINK_UP (R268, R279): lanes that are not retired hold block lock. -/
def execPairLinkUp (dt : Nat) (s : State) : Host.Outcome State Fault Refusal :=
  run dt s (fun s =>
    if !pairMode s then s
    else
      let s := setLanes 2 s
      if s.pair.linkUp || lanesUp s == 0 then s
      else
        let s := (s.modPair (fun x => { x with linkUp := true, recordAt := s.now, helloAt := none }))
        let s := sendHello (postD .pairLink 1 (leBytes 1 (lanesUp s) ++ leBytes 1 0xFF) s)
        if holder s then s else forAll (List.range 16) supplyFollow s)

/-- PAIR_LANE_FAULT (R268, R356): the lane is retrained, or retired. -/
def execPairLaneFault (dt : Nat) (lane : Fin 4) (s : State) : Host.Outcome State Fault Refusal :=
  run dt s (fun s =>
    if pairMode s && pairLane s lane != 3 then
      let r := channelFault 1 lane false (s.bump 0x8005 0)
      let v := match r.1 with | .retired => 3 | _ => 1
      let s := r.2.modPair (fun x => { x with lanes := x.lanes.set lane v })
      if s.pair.linkUp && lanesUp s == 0 then linkLost lane s else s
    else s)

/-- PARTNER_PRESENCE_CHECK (R278): the partner's bursts are seen while some head's count has stood for 1 ms. -/
def execPartnerPresenceCheck (dt : Nat) (s : State) : Host.Outcome State Fault Refusal :=
  run dt s (fun s =>
    if pairMode s then
      let seen := (headPorts s).any (fun p => (s.port p).st == .run && decide ((s.port p).partnerAt + Config.milli ≤ s.now))
      s.modPair (fun x => { x with partnerSeen := seen })
    else s)

/-- 8000.00 PAIR_MODE (R267). -/
def pairModeEffect : Effect := onDev (fun _ w s =>
  if w ≠ 0 ∧ w ≠ 1 then (stRange, s)
  else if s.dv 0x8000 0 = w.toNat then (stOK, s)
  else
    let s := s.setDv 0x8000 0 w.toNat
    let s := if w = 0 then
        setPairState .single (s.modPair (fun x => { x with
          holder := false, reinsOut := true, linkUp := false, lanes := x.lanes.filter (fun p => p.2 == 3), aligned := false
          strikesStopped := false, partnerLease := none, helloAt := none, barred := false }))
      else
        setPairState .noPartner (standbyOutputs (setLanes 1 (s.modPair (fun x => { x with
          holder := false, reinsOut := false, peerSince := s.now, barred := false }))))
    (stOK, domainsFollow s))

/-- 8002.00 REINS_STATUS (Table 11-6). -/
def reinsStatus (s : State) : Nat :=
  let x := s.pair
  let lease := if holder s then !pairMode s || decide (s.now < x.renewedAt + 8 * Config.micro)
    else x.partnerLease.isSome && !leaseOver s
  b2n (holder s) + 2 * b2n lease + 4 * b2n x.reinsOut + 8 * b2n x.peer + 16 * b2n x.linkUp + 32 * b2n x.partnerSeen +
    64 * b2n x.aligned + 128 * b2n x.strikesStopped

end Sys2Proof.Machine
end

