-- ==== Sys2Proof/Machine/Reading.lean ====
section
/-!
DEFINITION. What reads of the dictionary give (Table 02-2, R16, R28, R31 to R35, R394): the values of the objects that the
device computes, the content of its wide objects, and the reading of a slot through a door.
-/
namespace Sys2Proof.Machine
open Sys2Proof

/-! ### Status words -/

/-- Did something happen within the last `n` ns? -/
def lately (s : State) (t : Option Nat) (n : Nat) : Bool := match t with | some t => decide (s.now ≤ t + n) | none => false

/-- Table 03-12. -/
def intakeStatus (s : State) (b : Nat) : Nat :=
  let q := (s.bar b).intake
  b2n (s.bo b 0x2000 3 == 1) + 2 * b2n (q.inflight.any (fun e => e.phase == 0 || (e.granted && decide (e.phase < 5)))) +
  4 * b2n q.tailBad + 8 * b2n (backPressure s) + 16 * b2n q.pageHold + 32 * b2n q.calderaFull +
  64 * b2n q.overQuota + 128 * b2n (dmaBlocked s b)

/-- 2006: page and wagons outstanding of the open page in slot `k`. -/
def openPage (s : State) (b k : Nat) : Nat :=
  match (openPages s b)[k]? with
  | some p => p.num * 2 ^ 32 + (pageWagons s b p - pageFilled p)
  | none => 0

/-- Table 06-6. -/
def trigStatus (s : State) : Nat :=
  let t := s.trig
  b2n t.en + 2 * b2n t.moving + 4 * b2n t.reversed + 8 * b2n (predicting s) + 16 * b2n t.overspeed +
  32 * b2n (decide (lineLimit s < s.dv 0x4003 2)) + 64 * b2n (s.devState == .safe) +
  128 * b2n (lately s t.encErrAt Config.milli)

/-- 4007.00 REVERSE_DEPTH (R132). -/
def reverseDepth (s : State) : Nat := (s.trig.h - (s.enc (trigEnc s)).count).toNat

/-- Table 07-13. -/
def laneStatus (s : State) (p : Nat) : Nat :=
  let x := s.port p
  b2n x.present + 2 * b2n x.upLos + 4 * b2n x.upLock + 8 * b2n x.dnLock +
  16 * b2n (lately s x.telemAt (4 * s.dv 0x4911 0 * Config.micro)) + 32 * b2n (isRetired s 0 p) +
  64 * b2n (x.st == .deep || x.st == .wake) + 128 * b2n x.hot + 2 ^ 21 * min 4 (laneHist s p) + 2 ^ 24 * x.mismatch

/-- 4905 TELEM_AGE in µs, saturating. -/
def telemAge (s : State) (p : Nat) : Nat :=
  match (s.port p).telemAt with
  | some t => min ((s.now - t) / Config.micro) 0xFFFFFFFF
  | none => 0

/-- 5013.00 CURRENT_GAP. -/
def currentGap (s : State) (b : Nat) : Nat := if (atDatum s b).isSome then 0 else s.trig.line - gapE s b

/-- Table 09-7. -/
def camStatus (s : State) (c : Nat) : Nat :=
  let x := s.cam c
  b2n (camOn s c) + 2 * b2n (lately s x.hsAt (10 * Config.milli)) + 4 * b2n x.deskewed + 8 * b2n (lately s x.satAt Config.milli) +
  16 * b2n (x.lostTimes.any (fun t => decide (s.now ≤ t + Config.milli))) + 32 * b2n x.regLost + 64 * b2n x.search.isSome

/-- 6201.01 STRIP_NEXT (R227). -/
def stripNext (s : State) (b : Nat) : Nat :=
  match pendingStrip s b with
  | some (p, rs, _) => 128 + 2 * p + rs
  | none => 0

/-- Table 10-11. -/
def quotaStatus (s : State) (b : Nat) : Nat :=
  b2n (s.bar b).intake.overQuota + 2 * b2n (sramOver s b) + 4 * b2n (decide (quotaEff s b < s.bo b 0x7100 0))

/-- Table 12-4. -/
def timeStatus (s : State) : Nat :=
  b2n (ptpOn s) + 2 * b2n s.net.master.isSome + 4 * b2n s.net.locked + 8 * b2n s.net.holdover + 16 * b2n s.net.arb

/-- 9030 FLOW_STATE. -/
def flowState (s : State) (f : Nat) : Nat :=
  let x := s.flow f
  (match x.holder with | some t => 2 ^ 15 + t | none => 0) + 512 * min 63 x.queue.length

/-- Table 14-5. -/
def axStatus (s : State) (n : Nat) : Nat :=
  let x := s.axis n
  b2n x.moving + 2 * b2n x.armed.isSome + 4 * b2n x.uncertain + 8 * b2n x.homed + 16 * b2n x.atP + 32 * b2n x.atN +
  64 * b2n (limitP s n && limitN s n) + 128 * b2n x.followErr + 256 * b2n x.ssiFault

/-- A202 HV_STATUS. -/
def hvStatus (s : State) (k : Nat) : Nat :=
  let x := s.supply k
  b2n x.hven + 2 * b2n (tripNow s k) + 4 * b2n x.inBlank + 8 * b2n (x.st == .dead) +
  16 * b2n (pairMode s && ((x.st == .tripped) != x.mirrorLatch))

/-- A112 GPIO_IN (R324): a driven output reads as it drives; any other pin as the board drives it. -/
def gpioIn (s : State) : Nat :=
  ((List.range 16).map (fun n =>
    let mode := bitsN (s.dv 0xA110 n) 1 0
    let out := bitN (s.dv 0xA111 0) n
    let v := if mode = 1 then out else (mode != 2 || out) && bitN (Config.gpioPins s.now).toNat n
    2 ^ n * b2n v)).sum

/-- Table 15-8. -/
def powerStatus (s : State) : Nat :=
  let x := s.power
  b2n (!(avsEntries s).isEmpty) + 2 * b2n x.enforced.isSome + 4 * b2n x.avsLimit + 8 * b2n (s.dv 0xB104 0 != 0) +
  16 * b2n (x.railFail || lately s x.railFaultAt Config.second) + 32 * b2n (!x.unread.isEmpty) + 64 * b2n x.skew +
  128 * b2n (s.trim.any (fun e => e.2.running)) + 256 * b2n x.shutdown

/-- B102 FUM_STATE. -/
def fumState (s : State) (n : Nat) : Nat :=
  let x := s.fum n
  (if x.retired then 2 else b2n (lately s x.faultAt Config.second)) + 4 * b2n (fumStale s n)

/-- 9050.00 BOOT_RESULT and DL_STATUS (Table 13-11). -/
def dlStatus (s : State) : Nat := s.boot.slotB * 2 ^ 24 + s.boot.slotA * 2 ^ 16 + s.boot.dlCode * 2 ^ 8 + s.boot.phase

/-- 9050.02 KEY_FUSE. -/
def keyFuseBits : Nat :=
  ((List.range 4).map (fun k => 2 ^ k * b2n (Config.keyProgrammed k) + 2 ^ (4 + k) * b2n (Config.keyRevoked k))).sum

/-- 1130 SESSION_INFO of slot `k`. -/
def sessionInfo (s : State) (k : Nat) : Nat :=
  match s.moa.sessions.find? (fun e => e.2.slot == k) with
  | some (sid, x) =>
    sid * 2 ^ 32 + x.role * 2 ^ 24 + (if x.role = 0 then 0xFF else x.target) * 2 ^ 16 +
      min 0xFFFF ((s.now - x.lastAt) / Config.milli)
  | none => 0

/-- 1122.00 KEY_PRESENT. -/
def keysPresent (s : State) : Nat := ((List.range 20).map (fun k => 2 ^ k * b2n (s.mram.keys.has k))).sum

/-- 2111.00 WAGON_KEY_PRESENT. -/
def wagonKeys (s : State) (b : Nat) : Nat := ((List.range 4).map (fun k => 2 ^ k * b2n ((s.bar b).keys.has k))).sum

/-- 1221.00 COMMIT_STATE. -/
def commitState (s : State) (b : Nat) : Nat :=
  (match (s.bar b).gen with | some g => g.page * 2 ^ 32 + 1 | none => 0) + 2 * b2n (s.bar b).heldReq.isSome

/-- Live state entries of the bar's own nozzles at a port. -/
def liveEntries (s : State) (b p : Nat) : List Nat :=
  let bs := s.liveW b 0x3400 p
  (ownNozzles s b p).map (fun k => entryAt bs k)

/-- 3431 HEAD_OOS: out-of-service nozzles of a port. -/
def headOos (s : State) (p : Nat) : Nat :=
  (s.barsWithCols.map (fun b => ((liveEntries s b p).filter (fun e => !entryInService e)).length)).sum

/-- 3433 STATE_COUNT. -/
def stateCount (s : State) (b st : Nat) : Nat :=
  ((instPorts s b).map (fun p => ((liveEntries s b p).filter (fun e => entryState e == st)).length)).sum

/-- 4006.02 LINE_RATE. -/
def lineRate (s : State) : Nat := if s.trig.period = 0 then 0 else Config.second / s.trig.period

/-! ### Contents of wide objects -/

/-- Records of `n` bytes by slot, zeros where unlisted. -/
def recordsOf (m : Map (List Byte)) (slots n : Nat) : List Byte :=
  (List.range slots).flatMap (fun i => m.getD i (List.replicate n 0))

/-- 6103 SAT_MAP, a bit per pixel. -/
def satMapBytes (s : State) (c : Nat) : List Byte :=
  packBits 1 ((List.range (camWidth s c)).map (fun x => b2n ((s.cam c).satMap.getD x false)))

/-- 6120, 6122, 6124: a ring. -/
def ringBytes (s : State) (c ring : Nat) : List Byte :=
  let x := s.cam c
  recordsOf (match ring with | 0 => x.vision | 1 => x.display | _ => x.coding) (s.dv 0x6113 0) (ringLine (camWidth s c) ring)

/-- Table 10-2: the quarter of a plane's tables of a bar: that of its first written table, the home of tables to come without one. -/
def spanQuarter (s : State) (b plane : Nat) : Nat :=
  match (tablesOf s b).find? (fun t => t.2.1 % 256 == plane) with
  | some t => tabQuarter s b t.1 t.2.1
  | none => homeQuarter s b plane

/-- Table 10-2: SPAN. -/
def placeSpan (s : State) (key : Nat) : List Byte :=
  let runs := s.place.spans.getD key []
  let own := s.place.owner.get? key
  let q := match own with | some b => spanQuarter s b (key / 32) | none => 0
  leBytes 1 (match runs.head? with | some r => r.1 | none => 0xFF) ++
  leBytes 1 (match runs.getLast? with | some r => r.1 | none => 0xFF) ++
  leBytes 1 (own.getD 0xFF) ++ leBytes 1 (q % 4 + 4 * b2n (s.place.waitSpans.has key))

/-- Table 10-2: GEYSER. -/
def placeGeyser (s : State) (g : Nat) : List Byte :=
  let load := s.place.load.getD g 0
  leBytes 1 (if !geyserOn s g then 2 else b2n (decide (0 < load))) ++ leBytes 1 (geyserFum g) ++
  leBytes 1 (s.place.weights.getD g (weight s false g)) ++ leBytes 1 0 ++ leBytes 4 load

/-- Table 10-2: ENGINE. -/
def placeEngine (s : State) (e : Nat) : List Byte :=
  match bitN (s.dv 0x2100 0) e, (s.engine e).job with
  | false, _ => leBytes 4 2
  | true, some (b, _, slot) =>
    leBytes 1 1 ++ leBytes 1 b ++ leBytes 1 (slot / 65536 / 32) ++ leBytes 1 (slot / 65536 % 32)
  | true, none => leBytes 4 0

/-- Table 10-2: DELAY (R252, R260). -/
def placeDelay (s : State) (p : Nat) : List Byte :=
  if headEn s p then
    let list := schInService s
    leBytes 4 ((delayBytes s p + 1023) / 1024) ++ leBytes 1 (list.getD (p % max 1 list.length) 0) ++ leBytes 1 s.stripeGen
  else List.replicate 6 0

/-- Table 10-2: SUBCH. -/
def placeSubch (s : State) (k : Nat) : List Byte :=
  let hist := (s.health.getD (chanKey 2 k) Health.reset).hist.filter (fun t => decide (s.now ≤ t + Config.second))
  leBytes 1 (s.sch k).state ++
  leBytes 1 (if (schInService s).contains k then 256 / (schInService s).length else 0) ++ leBytes 2 hist.length

/-- 7020.00 PLACE_MAP (R243, Table 10-2). -/
def placeMap (s : State) : List Byte :=
  leBytes 4 s.place.gen ++ leBytes 8 s.place.time ++ leBytes 1 (popcount (s.dv 0x3010 0)) ++
  leBytes 1 (popcount (s.dv 0x2100 0)) ++ leBytes 1 (schInService s).length ++ leBytes 1 0 ++
  (List.range 256).flatMap (placeSpan s) ++ (List.range 32).flatMap (placeGeyser s) ++
  (List.range 32).flatMap (placeEngine s) ++ (List.range 64).flatMap (placeDelay s) ++ (List.range 8).flatMap (placeSubch s)

/-- Table 13-3. -/
def ThreadState.code : ThreadState → Nat
  | .free => 0 | .ready => 1 | .running => 2 | .waiting => 3 | .flowWait => 4 | .faulted => 5

/-- 9010.00 THREAD_TABLE: the 16 bytes of a thread. -/
def threadEntry (s : State) (t : Nat) : List Byte :=
  let x := s.thread t
  let core := (List.range 8).find? (fun c => (s.core c).thread == some t)
  leBytes 1 x.st.code ++ leBytes 1 x.group ++ leBytes 1 (core.getD 0xFF) ++ leBytes 1 x.wake ++ leBytes 4 x.flags ++
  leBytes 4 x.mask ++ leBytes 1 (b2n x.andMode + 2 * b2n x.noPreempt) ++ leBytes 1 x.flow ++
  leBytes 2 (if x.held.isEmpty then 0 else (Config.heldIndexes x.held).toNat)

/-- Hours in PRINT (Table 16-6). -/
def printHours (s : State) : Nat :=
  (s.mram.printNs + (match s.printAt with | some t => s.now - t | none => 0)) / (3600 * Config.second)

/-- C032.00 MRAM_SUMMARY (Table 16-6). -/
def mramSummary (s : State) : List Byte :=
  let m := s.mram
  let r := leBytes 4 m.powerOns ++ leBytes 4 (printHours s) ++ leBytes 4 m.devFaults ++
    (List.range 9).flatMap (fun c => leBytes 1 (min 255 (retiredCount s c))) ++ leBytes 1 0 ++ leBytes 2 m.shutdowns ++
    leBytes 2 m.zeroisations ++ leBytes 2 m.lost ++ leBytes 4 (m.pseq + 1) ++ leBytes 4 m.cause ++ leBytes 8 m.causeTime ++
    List.replicate 16 0
  r ++ leBytes 4 (crc32c r)

/-- What a block read of a wide object moves (R42, R116, R398). -/
def wideContent (s : State) (row : Row) (bar : Option Nat) (sub : Nat) : List Byte :=
  match row.idx, bar with
  | 0x4030, _ => recordsOf s.trig.records 32768 32
  | 0x4910, _ => recordsOf s.missLog 1024 16
  | 0x5030, some b => recordsOf (s.bar b).log 256 64
  | 0x6103, _ => satMapBytes s sub
  | 0x6131, _ => (List.range 16).flatMap (fun k =>
      leBytes 8 (if (focusWindow s sub k).isSome then fieldLE (wideNow s row bar sub) (8 * k) 8 else 0))
  | 0x6120, _ => ringBytes s sub 0
  | 0x6122, _ => ringBytes s sub 1
  | 0x6124, _ => ringBytes s sub 2
  | 0x7020, _ => placeMap s
  | 0x9010, _ => (List.range 512).flatMap (threadEntry s)
  | 0xB107, _ => (s.mram.shutdownRec ++ List.replicate 32 0).take 32
  | 0xC030, _ => recordsOf s.errLog 4096 32
  | 0xC031, _ => recordsOf s.mram.log 1840 32
  | 0xC032, _ => mramSummary s
  | i, _ => if isKey i then List.replicate 32 0 else wideNow s row bar sub

/-- R398: is the key present? -/
def keyPresent (s : State) (row : Row) (bar : Option Nat) (sub : Nat) : Bool :=
  match bar with
  | some b => (s.bar b).keys.has sub
  | none => s.mram.keys.has (if row.idx = 0x1121 then 16 + sub else sub)

/-- R28: the current length of a wide object. The objects that the device writes have their full size. -/
def wideLength (s : State) (row : Row) (bar : Option Nat) (sub : Nat) : Nat :=
  if isKey row.idx then (if keyPresent s row bar sub then 32 else 0)
  else if row.acc == .ro || row.acc == .const then maxSize s row.idx sub
  else (wideNow s row bar sub).length

/-! ### Slots -/

/-- Device-scope objects that the device computes; none for one that holds a plain value. -/
def devComputed (s : State) (idx sub : Nat) : Option Nat :=
  match idx / 4096 with
  | 1 => match idx with
    | 0x1005 => some (fwVersion s)
    | 0x1007 => some (b2n s.pins.pairId + 2 * s.pins.bootSrc + 8 * b2n s.pins.testEn)
    | 0x1122 => some (keysPresent s)
    | 0x1130 => some (sessionInfo s sub)
    | 0x1200 => some s.devState.code
    | _ => none
  | 2 => if idx = 0x2011 then some (if sub = 0 then s.deqHead else s.deqTail) else none
  | 3 => match idx with
    | 0x3220 => some (stitchRight s sub)
    | 0x3431 => some (headOos s sub)
    | _ => none
  | 4 => match idx with
    | 0x4002 => some (ofSigned 64 (s.enc sub).count)
    | 0x4003 => match sub with
      | 0 => some (trigStatus s)
      | 1 => some (b2n s.trig.en)
      | 3 => some (lineLimit s)
      | 4 => some (lineEnforced s)
      | _ => none
    | 0x4006 => match sub with
      | 0 => some s.trig.line
      | 1 => some s.trig.period
      | _ => some (lineRate s)
    | 0x4007 => some (reverseDepth s)
    | 0x4801 => some (s.port sub).st.code
    | 0x4803 => some (laneStatus s sub)
    | 0x4905 => some (telemAge s sub)
    | _ => none
  | 5 => if idx = 0x5003 ∧ sub = 1 then some (b2n s.webSlow.isSome) else none
  | 6 => if idx = 0x600A then some (camStatus s sub) else none
  | 7 => match idx with
    | 0x7000 => some s.place.gen
    | 0x7111 => some (ofSigned 64 (s.deficit.getD sub 0))
    | 0x7200 => if sub = 0 then some (dramTotal s) else none
    | 0x7202 => some (s.sch sub).state
    | 0x7300 => match sub with
      | 4 => some (((headPorts s).map (fun p => lineStageKib s p)).sum)
      | 5 => some (tablePool s)
      | _ => none
    | 0x7303 => some (sparesLeft s sub)
    | _ => none
  | 8 => match idx with
    | 0x8001 => some s.pair.state.code
    | 0x8002 => some (reinsStatus s)
    | 0x8004 => some (s.pair.lanes.getD sub 0)
    | 0x8007 => if sub = 0 then some (configDigest s) else none
    | 0x8100 => some (if sub = 0 then s.now % 2 ^ 64 else s.time)
    | 0x8101 => match sub with
      | 0 => some s.clock.offset
      | 1 => some s.clock.base
      | _ => some (ofSigned 64 s.clock.rate)
    | 0x8103 => if sub = 0 then some (timeStatus s) else none
    | 0x8105 => match sub with
      | 2 => some (masterOr s).1
      | 3 => some (masterOr s).2
      | _ => none
    | _ => none
  | 9 => match idx with
    | 0x9003 => if sub = 1 then some (b2n s.sched.allWaitAt.isSome) else none
    | 0x9030 => some (flowState s sub)
    | 0x9050 => match sub with
      | 0 => some (dlStatus s)
      | 1 => some (rollbackFuse s)
      | _ => some keyFuseBits
    | _ => none
  | 10 => match idx with
    | 0xA008 => some (ofSigned 64 (s.axis sub).steps)
    | 0xA009 => some (ofSigned 64 ((s.axis sub).vel / velUnit))
    | 0xA00A => some (axStatus s sub)
    | 0xA104 => some (s.cmp sub).index
    | 0xA112 => some (gpioIn s)
    | 0xA201 => some (s.supply sub).st.code
    | 0xA202 => some (hvStatus s sub)
    | _ => none
  | 11 => match idx with
    | 0xB000 => some (powerStatus s)
    | 0xB001 => some (s.power.domains.getD sub 0)
    | 0xB010 => if sub = 0 then some s.power.vcore else none
    | 0xB102 => some (fumState s sub)
    | 0xB210 => some (trimResult s sub)
    | 0xB211 => some s.mram.trimTime
    | 0xB212 => some (b2n s.mram.trimValid)
    | _ => none
  | 12 => match idx with
    | 0xC001 => some s.mram.cause
    | 0xC003 => some (b2n (replaceReq s))
    | 0xC004 => some (retiredCount s sub)
    | 0xC030 => some s.logSeq
    | 0xC031 => some s.mram.pseq
    | 0xC101 => some s.test.selftest
    | _ => none
  | _ => none

/-- Bar-scope objects that the device computes; none for one that holds a plain value. -/
def barComputed (s : State) (b idx sub : Nat) : Option Nat :=
  let q := (s.bar b).intake
  let c := (s.bar b).scan
  match idx with
  | 0x1201 => some (s.bar b).vb.code
  | 0x1221 => some (commitState s b)
  | 0x2001 => some q.wqHead
  | 0x2003 => some (if sub = 0 then q.eqHead else q.eqTail)
  | 0x2005 => some (intakeStatus s b)
  | 0x2006 => some (openPage s b sub)
  | 0x2111 => some (wagonKeys s b)
  | 0x2201 => if sub = 0 then some (((retainedPages s b).map (pageBytes (s.bar b))).sum) else some (retainedPages s b).length
  | 0x2202 => match sub with
    | 0 => some (calderaDepth s b)
    | 1 => some (match oldestPage (retainedPages s b) with | some p => p.num | none => 0)
    | _ => some (match newestPage (retainedPages s b) with | some p => p.num | none => 0)
  | 0x2301 => some q.djHead
  | 0x3120 => some (tableBytes s b)
  | 0x3433 => some (stateCount s b sub)
  | 0x4104 => match sub with
    | 0 => some c.band
    | 1 => some c.bandCand
    | _ => some c.bandDwell
  | 0x5012 => some (if sub = 0 then nextPageNum s b else startWait s b)
  | 0x5013 => some (currentGap s b)
  | 0x6200 => if sub = 4 then some (8 + s.liveN b 0x6200 1 * s.liveN b 0x6200 2) else none
  | 0x6201 => some (stripNext s b)
  | 0x7100 => if sub = 1 then some (quotaEff s b) else none
  | 0x7103 => some (dramUsed s b)
  | 0x7104 => some (quotaStatus s b)
  | 0x8015 => some (if holder s then 0 else (s.bar b).joinPage)
  | _ => none

/-- The slot value of an object that a session reaches (Table 02-2, R16, R28). -/
def slotRead (s : State) (row : Row) (bar : Option Nat) (sub : Nat) : Nat :=
  if row.ty.wide then wideLength s row bar sub % 2 ^ 32 + row.ty.code * 2 ^ 32
  else
    let v := match row.acc, bar with
      | .wo, _ => 0
      | .stg, some b => s.curN b row.idx sub
      | _, some b => (barComputed s b row.idx sub).getD (s.bo b row.idx sub)
      | _, none => (devComputed s row.idx sub).getD (s.dv row.idx sub)
    (row.ty.take (BitVec.ofNat 64 v)).toNat

/-- The objects that exist once per session or function (R31, R40, R55). -/
def ownRead (s : State) (door : Door) (who : Who) (idx sub : Nat) : Nat :=
  let own : Map Nat := match door with
    | .fn k => (s.fn k.val).own
    | .moa sid => match s.moa.sessions.get? sid.toNat with | some x => x.own | none => []
    | _ => []
  match idx, who with
  | 0x1100, .super _ => 0
  | 0x1100, _ => 1
  | 0x1101, .host b => b
  | 0x1101, .narrow (some b) => b
  | 0x1101, _ => 0xFF
  | 0x1105, .super _ => own.getD (okey idx sub) 0xFF
  | 0x1105, _ => 0
  | _, _ => own.getD (okey idx sub) (defaultNat idx sub)

/-- What a read answers: value, status, type code. -/
structure ReadResult where
  val : Nat
  status : Nat
  ty : Nat
  deriving DecidableEq, Repr

/-- R30 to R35, R394, R392, R338: a slot read through a door. -/
def readSlot (door : Door) (idx sub : Nat) (s : State) : ReadResult × State :=
  match whoIs s door with
  | none => (⟨0, stAuth, 0⟩, s)
  | some who =>
    match grant s door who false idx sub with
    | .quiet => (⟨0, stOK, 0⟩, s)
    | .hidden => (⟨0, stOK, 0⟩, violation who s)
    | .fail c => (⟨0, c, 0⟩, recordStatus door idx sub c s)
    | .ok row bar dsub =>
      (⟨if isOwn idx then ownRead s door who idx sub else slotRead s row bar dsub, stOK, row.ty.code⟩, s)

end Sys2Proof.Machine
end

