-- ==== Sys2Proof/Machine/Tokens.lean ====
section
/-!
DEFINITION. Screening commands (R89 to R108, R150, R402): a geyser's token, the dot router's line, a geyser fault, and the purge
report (R118).
-/
namespace Sys2Proof.Machine
open Sys2Proof

/-! ### What may be screened -/

/-- R402, R150: line `y` of a page may be screened now: the first min(64, LINES) lines before its flip line is fixed; then lines at
most 4,096 ahead of the datum (Table 06-3), whose place in the ring of DELAY_DEPTH + 4,096 lines of port `p` the dray has read
(DEDUCED, assumption log 115). -/
def mayScreen (s : State) (b p : Nat) (pg : Page) (y : Nat) : Bool :=
  match pg.flip with
  | none => decide (y < min 64 pg.lines)
  | some f =>
    decide (y < pg.lines) &&
    decide (f + y ≤ s.trig.line + 4096) &&
    decide (f + y + coarse s b pg p ≤ s.trig.line + leadLines s + s.dv 0x4211 p + 4096)

/-- The tables of a plane for a page. -/
def pageTables (s : State) (b plane : Nat) (pg : Page) : Tables := { state := s, bar := b, page := pg, plane := plane }

/-- R92, R97: the rows that line `y` of a span needs are in staging, or the wagon's failure has settled the line. -/
def spanReady (pg : Page) (plane span y : Nat) : Bool :=
  match pg.wagonAt plane span y with
  | some w => w.ready (y % 512)
  | none => false

/-- R126: spreading carries an error along the whole line, so that a bar with a compensated run needs every span of the line. -/
def lineReady (s : State) (b : Nat) (t : Tables) (spans : List Nat) (y : Nat) : Bool :=
  let all := if t.spread && t.runs.any (fun r => t.compensated r) then List.range (s.spanCount b) else spans
  all.all (fun sp => spanReady t.page t.plane sp y)

/-- The spans that a set of bar-relative columns touches. -/
def spansOf (cols : List Nat) : List Nat := (cols.map (fun c => c / 2048)).eraseDups

/-- R105, R106: the first page of the bar, in page order, that still needs token `k` of port `p` on line `y` and may be screened
there. -/
def tokenPage (s : State) (b p y k : Nat) (cols : List Nat) : Option Page :=
  (s.bar b).pages.find? (fun pg => !pg.cut && decide (y < pg.lines) && !pg.tokens.has (tokenKey p y k) &&
    !(spansOf cols).all (fun sp => pg.lineDone (headPlane s p) sp y) && mayScreen s b p pg y && lineReady s b (pageTables s b (headPlane s p) pg) (spansOf cols) y)

/-! ### The store -/

/-- The levels of the 16 nozzles of a token. -/
def tokenLevels (t : Tables) (ln : List (Option ColOut)) (p k : Nat) : List Nat :=
  (List.range 16).map (fun i => lineLevel t ln p (16 * k + i))

/-- R97: the logical levels of a set of columns; level 0 and the unknown are not listed. -/
def putLogical (t : Tables) (y : Nat) (cols : List Nat) (m : Map Nat) : Map Nat :=
  cols.foldl (fun m c =>
    match t.logical c y with
    | some (v + 1) => m.set ((t.plane * 2 ^ 26 + y) * 65536 + c) (v + 1)
    | _ => m.erase ((t.plane * 2 ^ 26 + y) * 65536 + c)) m

/-- R95, R126: the clips of a span's columns of a line: gain clips and takeover clips. -/
def clipsOf (ln : List (Option ColOut)) (span : Nat) : Nat × Nat :=
  let cs := ((ln.drop (2048 * span)).take 2048).filterMap id
  ((cs.filter (fun o => o.gainClip)).length, (cs.filter (fun o => o.takeClip)).length)

/-- R95: count the clips of a span's line at its first complete screening under a generation. -/
def countClips (b n plane span y : Nat) (gain : Bool) (ln : List (Option ColOut)) (s : State) : State :=
  match s.page? b n with
  | none => s
  | some pg =>
    if pg.counted.has (lineKey plane span y) then s
    else
      let c := clipsOf ln span
      let s := if gain then s.bumpBN b 0x3011 plane c.1 else s
      (s.bumpBN b 0x3422 plane c.2).modPage b n (fun q => { q with counted := q.counted.set (lineKey plane span y) true })

/-- R105, R260: a span's line is in the store once every nozzle of it is decided; the generation of its stripes is recorded. -/
def spanDone (b n plane span y : Nat) (ln : List (Option ColOut)) (gain : Bool) (s : State) : State :=
  match s.page? b n with
  | none => s
  | some pg =>
    if !pg.screened.has (lineKey plane span y) &&
        (spanTokens s b plane span).all (fun q => (tokenCols s b q.1 q.2).isEmpty || pg.tokens.has (tokenKey q.1 y q.2)) then
      countClips b n plane span y gain ln (s.modPage b n (fun q => { q with
        screened := q.screened.set (lineKey plane span y) true
        lineGen := if s.stripeGen = 0 then q.lineGen else q.lineGen.set (lineKey plane span y) s.stripeGen }))
    else s

/-! ### Geysers -/

/-- The device span key of a bar-relative span of a plane. -/
def placeKey (s : State) (b plane span : Nat) : Nat := plane * 32 + s.firstSpan b + span

/-- The tokens of a span that are its own: those whose first column in the bar lies in it (assumption log 23). -/
def spanOwn (s : State) (b plane span : Nat) : List (Nat × Nat) :=
  (spanTokens s b plane span).filter (fun q => ((tokenCols s b q.1 q.2).head?.map (fun c => c / 2048)) == some span)

/-- The geyser that decides token `k` of port `p` of a span for page `n` (assumption log 23, R239). -/
def tokenGeyser (s : State) (b n plane span p k : Nat) : Option Nat :=
  (((spanOwn s b plane span).findIdx? (fun q => q == (p, k)))).bind (runGeyser (spanRuns s (placeKey s b plane span) n))

/-! ### The order of screening (R401, R261) -/

/-- R77, R401: the key of a page's line, `pos` the page's place among the bar's pages not started. -/
def screenKey (b : Nat) (pg : Page) (pos plane span y : Nat) : List Int :=
  (match pg.flip with
   | some f => [0, (f : Int) + (y : Int), 0]
   | none => [1, (pos : Int), (y : Int)]) ++ [(plane : Int), (span : Int), (b : Int)]

/-- The key of a line of a page of bar `b`. -/
def lineOrder (s : State) (b : Nat) (pg : Page) (plane span y : Nat) : List Int :=
  screenKey b pg ((notStarted s b).takeWhile (fun q => q.num != pg.num)).length plane span y

/-- May geyser `g` (any, where it is none) take line `y` of a span of a page: a token of its own there is undecided, may be screened
under R150, and has its rows? -/
def takable (s : State) (g : Option Nat) (b : Nat) (pg : Page) (plane span y : Nat) : Bool :=
  !pg.lineDone plane span y && (spanOwn s b plane span).any (fun q =>
    !pg.tokens.has (tokenKey q.1 y q.2) && mayScreen s b q.1 pg y &&
    lineReady s b (pageTables s b plane pg) (spansOf (tokenCols s b q.1 q.2)) y &&
    (match g with
     | some g => tokenGeyser s b pg.num plane span q.1 q.2 == some g
     | none => true))

/-- Has bar `b` a contone line that geyser `g` (any, where it is none) may take and whose key `ok` admits? -/
def barTakable (s : State) (g : Option Nat) (b : Nat) (ok : List Int → Bool) : Bool :=
  (s.bar b).pages.any (fun pg => !pg.cut && s.planes.any (fun pl => isContone (s.format b pl) &&
    (List.range (s.spanCount b)).any (fun sp => (List.range pg.lines).any (fun y =>
      ok (lineOrder s b pg pl sp y) && takable s g b pg pl sp y))))

/-- R261: bars with contone lines that a geyser may take now. -/
def screeningBars (s : State) : List Nat := (List.range 16).filter (fun b => barTakable s none b (fun _ => true))

/-- R401, R261: geyser `g` takes next a line of bar `b` with the given key: no bar of a greater deficit has a line for it, and none
of an equal deficit an earlier line. -/
def geyserTurn (s : State) (g b : Nat) (key : List Int) : Bool :=
  let d (a : Nat) := s.deficit.getD (16 + a) 0
  (List.range 16).all (fun a => !((decide (d b < d a) && barTakable s (some g) a (fun _ => true)) ||
    (decide (d b = d a) && barTakable s (some g) a (fun k => keyLess k key))))

/-- R261: a token of bar `b` costs one decision quantum of the geysers. -/
def chargeToken (b : Nat) (s : State) : State :=
  { s with deficit := grantDeficit s.deficit 16 16 (screeningBars s) (fun a => s.bo a 0x7102 0) 1 b
                        (260 * popcount (s.dv 0x3010 0)) }

/-- R104: decide a token of a page. -/
def screenWith (b p y k g : Nat) (pg : Page) (s : State) : State :=
  let plane := headPlane s p
  let t := pageTables s b plane pg
  let cols := tokenCols s b p k
  let ln := t.line y
  let levels := tokenLevels t ln p k
  let s := ((chargeToken b s).count64 0x3012 g 1).wakeDomain (g / 4)
  let s := s.modPage b pg.num (fun q => { q with
    tokens := q.tokens.set (tokenKey p y k) levels
    logical := putLogical t y cols q.logical })
  let s := forAll (spansOf cols) (fun sp s => spanDone b pg.num plane sp y ln true s) s
  settle b pg.num s

/-- Is no line of a span of a page decided yet, wholly or in part? -/
def spanFresh (s : State) (b plane span : Nat) (pg : Page) : Bool :=
  !pg.screened.any (fun e => e.1 / 2 ^ 26 == plane * 32 + span) &&
  (let toks := spanOwn s b plane span
   !pg.tokens.any (fun e => toks.contains (e.1 / 512 / 2 ^ 26, e.1 % 512)))

/-- R239: the span's next page boundary, where the next line to be screened begins a page that none of the span's lines has reached. -/
def handover (b : Nat) (pg : Page) (plane span : Nat) (s : State) : State :=
  if spanFresh s b plane span pg then spanHandover b pg.num (placeKey s b plane span) s else s

/-- R104, R105, R239, R334, R401: a geyser completes a token of the line that it takes next. -/
def screenToken (b p y k : Nat) (s : State) : State :=
  let plane := headPlane s p
  let cols := tokenCols s b p k
  match tokenPage s b p y k cols, cols.head? with
  | some pg, some c =>
    if s.inUse plane && isContone (s.format b plane) then
      let s := handover b pg plane (c / 2048) s
      match tokenGeyser s b pg.num plane (c / 2048) p k with
      | some g => if s.domainOn (g / 4) && geyserTurn s g b (lineOrder s b pg plane (c / 2048) y) then screenWith b p y k g pg s else s
      | none => s
    else s
  | _, _ => s

/-- SCREEN_TOKEN (R92 to R102, R104, R105, R150, R238, R239, R261, R402). -/
def execScreenToken (dt : Nat) (bar : Fin 16) (port : Fin 64) (line : Nat) (tok : Fin 512) (s : State) :
    Host.Outcome State Fault Refusal :=
  run dt s (fun s =>
    if headEn s port && decide (tok.val < headSize s port / 16) then screenToken bar port line tok s else s)

/-! ### The dot router -/

/-- R103: the dot router writes a whole line of a span. -/
def routeWith (b plane span y : Nat) (pg : Page) (s : State) : State :=
  let t := pageTables s b plane pg
  let toks := (spanTokens s b plane span).filter (fun q => !(tokenCols s b q.1 q.2).isEmpty)
  let ln := t.line y
  let s := s.modPage b pg.num (fun q => { q with
    tokens := toks.foldl (fun (m : Map (List Nat)) x => m.set (tokenKey x.1 y x.2) (tokenLevels t ln x.1 x.2)) q.tokens
    logical := putLogical t y ((List.range 2048).map (fun i => 2048 * span + i)) q.logical })
  settle b pg.num (spanDone b pg.num plane span y ln false s)

/-- May the dot router take line `y` of a span of a page? -/
def routable (s : State) (b : Nat) (pg : Page) (plane span y : Nat) : Bool :=
  let toks := spanTokens s b plane span
  let spans := span :: spansOf (toks.flatMap (fun q => tokenCols s b q.1 q.2))
  !pg.cut && decide (y < pg.lines) && !pg.lineDone plane span y &&
    ((toks.map (fun q => q.1)).eraseDups).all (fun p => mayScreen s b p pg y) &&
    lineReady s b (pageTables s b plane pg) spans y

/-- The first page of the bar that still needs line `y` of a span and may be screened there, for every head of the span. -/
def linePage (s : State) (b plane span y : Nat) : Option Page :=
  (s.bar b).pages.find? (fun pg => routable s b pg plane span y)

/-- R401: the dot router takes next the line with the given key: no line that it may take comes before. -/
def routerTurn (s : State) (key : List Int) : Bool :=
  (List.range 16).all (fun a => (s.bar a).pages.all (fun pg => s.planes.all (fun pl => isContone (s.format a pl) ||
    (List.range (s.spanCount a)).all (fun sp => (List.range pg.lines).all (fun y =>
      !(keyLess (lineOrder s a pg pl sp y) key && routable s a pg pl sp y))))))

/-- R103, R105, R401: one line of a DOTS span, in the router's order. -/
def routeLine (b plane span y : Nat) (s : State) : State :=
  match linePage s b plane span y with
  | none => s
  | some pg =>
    if s.inUse plane && !isContone (s.format b plane) && routerTurn s (lineOrder s b pg plane span y) then
      routeWith b plane span y pg s
    else s

/-- DOT_ROUTE (R91, R99 to R103, R150, R402). -/
def execDotRoute (dt : Nat) (bar : Fin 16) (plane : Fin 8) (span : Fin 32) (line : Nat) (s : State) :
    Host.Outcome State Fault Refusal :=
  run dt s (fun s => if decide (span.val < s.spanCount bar) then routeLine bar plane span line s else s)

/-! ### Geyser faults -/

/-- R105: discard the partly decided lines of a span in every page of its bar. -/
def dropPartly (s : State) (b plane span : Nat) (pg : Page) : Page :=
  let toks := spanTokens s b plane span
  { pg with tokens := pg.tokens.filter (fun e =>
      pg.screened.has (lineKey plane span ((e.1 / 512) % 2 ^ 26)) || !toks.contains (e.1 / 512 / 2 ^ 26, e.1 % 512)) }

/-- R105: the spans whose tokens geyser `g` decides lose their partly decided lines; what is screened there from now on follows a
geyser fault (Table 04-9). -/
def dropGeyserLines (g : Nat) (s : State) : State :=
  forAll ((s.place.spans.filter (fun e => (e.2 ++ (s.place.tail.getD e.1 []).flatMap (fun t => t.2)).any (fun r => r.1 == g))).map
    (fun e => e.1)) (fun key s =>
    match s.place.owner.get? key with
    | none => s
    | some b =>
      let pl := key / 32
      let sp := key % 32 - s.firstSpan b
      s.modBar b (fun x => { x with
        pages := x.pages.map (fun pg => { dropPartly s b pl sp pg with
          moved := if pg.moved.contains (pl * 32 + sp) || pg.printed || pg.cut then pg.moved else pg.moved ++ [pl * 32 + sp] }) })) s

/-- R105, Table 10-1: the spans of a geyser that has faulted move to the others at once, as R238 gives them without it (DEDUCED,
assumption log 116); with no other geyser in service they stay. -/
def moveSpans (g : Nat) (s : State) : State :=
  if (List.range 32).any (fun k => k != g && geyserOn s k) then
    placeApply 1 true (placeAll (s.setBit 0x3010 0 g false) (s.dv 0x7004 0 == 1)) s
  else s

/-- GEYSER_FAULT (R105, R238, R356, R357). -/
def execGeyserFault (dt : Nat) (g : Fin 32) (s : State) : Host.Outcome State Fault Refusal :=
  run dt s (fun s =>
    if geyserOn s g then
      let r := channelFault 3 g (atLimit s 3) (dropGeyserLines g s)
      match r.1 with
      | .retired => placeRun 1 true r.2
      | _ => moveSpans g r.2
    else s)

/-! ### Purge reports -/

/-- R118: a purge report: a write of 1 for a head of the view's bar; a standby leaves it to the active (R121). -/
def purgeEffect : Effect := onBar (fun b p w s =>
  if w.toNat = 1 && holder s then (stOK, editEntries b p (fun _ e => purgeEntry e) s) else (stOK, s))

/-- PURGE_DONE (R118, R121). -/
def execPurgeDone (dt : Nat) (door : Door) (sub : Fin 64) (val : Slot) (s : State) : Host.Outcome State Fault Refusal :=
  run dt s (writeThrough door 0x3440 sub val purgeEffect)

end Sys2Proof.Machine
end

