-- ==== Sys2Proof/Machine/Dictionary.lean ====
section
/-!
DEFINITION. The effect of a write to each object (Table 02-2 and the object tables of the chapters): the same definitions
that the commands of their own use, and the checks and consequences of the other objects; PCIe slot accesses (R37 to R40),
environment calls (R295), and DICT_WRITE.
-/
namespace Sys2Proof.Machine
open Sys2Proof

/-! ### Helpers -/

/-- A value outside what the object's table allows is refused with RANGE (R27). -/
def checked (ok : State → Option Nat → Nat → Nat → Bool) (eff : Effect) : Effect := fun row bar sub w s =>
  if ok s bar sub w.toNat then eff row bar sub w s else (stRange, s)

/-- A check of the value alone. -/
def valueOk (ok : Nat → Bool) : Effect := checked (fun _ _ _ v => ok v) plainEffect

/-- A change that may move the configuration limit (R12, R344). -/
def rated (eff : Effect) : Effect := fun row bar sub w s =>
  let r := eff row bar sub w s
  (r.1, if r.1 = stOK then rateJudge (lineEnforced s) r.2 else r.2)

/-! ### Configuration objects -/

/-- R60: does the layout entry of bar `b` run past span 31 or overlap another bar? -/
def layoutRefused (s : State) (b v : Nat) : Bool :=
  let t := s.setDv 0x1206 b v
  decide (32 < bitsN v 15 8) || decide (31 < bitsN v 7 0) || layoutBad t

/-- 1206 VB_LAYOUT (R60, R80). -/
def layoutEffect : Effect := rated (onDev (fun b w s =>
  if layoutRefused s b w.toNat then (stRange, s)
  else if s.dv 0x1206 b = w.toNat then (stOK, s)
  else (stOK, (emptyCaldera b s).setDv 0x1206 b w.toNat)))

/-- 1211.00 VIOLATION_CLEAR (R33). -/
def violationEffect : Effect := onDev (fun _ w s =>
  (stOK, if w = 0 then s else forAll (List.range 17) (fun k s => s.setDv 0x1210 k 0) s))

/-- 3000 PLANE_CFG (R80): a change empties the calderas. -/
def planeEffect : Effect := rated (onDev (fun p w s =>
  if s.dv 0x3000 p = w.toNat then (stOK, s)
  else (stOK, (forAll (List.range 16) emptyCaldera s).setDv 0x3000 p w.toNat)))

/-- 3001 PLANE_FORMAT (R80). -/
def formatEffect : Effect := rated (onBar (fun b p w s =>
  if s.format b p = w.toNat then (stOK, s) else (stOK, (emptyCaldera b s).setBo b 0x3001 p w.toNat)))

/-- R115, R148: every copy of a port's nozzle tables takes its default. -/
def defaultTables (p : Nat) (s : State) : State :=
  let drop (m : Map Val) : Map Val := ((m.erase (okey 0x3400 p)).erase (okey 0x3410 p)).erase (okey 0x4202 p)
  forAll (List.range 16) (fun b s => s.modBar b (fun x => { x with
    live := drop x.live
    pend := drop x.pend
    opn := drop x.opn
    openDev := x.openDev.filter (fun k => k / 65536 != p)
    obj := x.obj.erase (okey 0x6240 p) })) s

/-- 3200 HP_MAP (R115, Table 07-9, Table 15-1). -/
def mapEffect : Effect := rated (onDev (fun p w s =>
  if s.dv 0x3200 p = w.toNat then (stOK, s)
  else (stOK, laneRecheck p (laneEnable p (domainsFollow (defaultTables p (s.setDv 0x3200 p w.toNat)))))))

/-- 4210 HEAD_GEOM: ROWS 3 is refused; MISMATCH is tested again (Table 07-9). -/
def geomEffect : Effect := andThen (valueOk (fun v => bitsN v 1 0 != 3)) (fun _ p s => laneRecheck p s)

/-- 4212 LEAD_LINES, 4800.00 LANE_RATE: every port in MISMATCH is tested again (Table 07-9). -/
def recheckAll : Effect := rated (andThen plainEffect (fun _ _ s => forAll (List.range 64) laneRecheck s))

/-- 6000 CAM_CFG: LANES 3 and MOSAIC above 3 are refused; the port starts afresh (R211, Table 15-1). -/
def camEffect : Effect := andThen (valueOk (fun v => bitsN v 2 1 != 3 && decide (bitsN v 10 8 ≤ 3)))
  (fun _ c s =>
    let s := domainsFollow (camReset c s)
    camJudge c (if camEn s c then s else stripsGone c s))

/-- 8104.00 PTP_DOMAIN: the messages of another domain stand no longer (assumption log 42). -/
def domainEffect : Effect := fun row bar sub w s =>
  let was := s.dv 0x8104 0
  let r := plainEffect row bar sub w s
  (r.1, if was = w.toNat then r.2 else r.2.modNet (fun n => { n with
    announces := []
    master := none
    reqAt := none
    sync := none }))

/-- 8112 PORT_CFG: a port that is disabled or changes its mode loses its link (R283). -/
def portEffect : Effect := fun row bar p w s =>
  let was := s.dv 0x8112 p
  let r := plainEffect row bar p w s
  (r.1, if bitsN was 1 0 = bitsN w.toNat 1 0 then r.2 else setLink p false false r.2)

/-- 9020 EVT_ROUTE: flag 31 is refused; what is armed changes (R307). -/
def routeEffect : Effect := andThen (valueOk (fun v => bitsN v 4 0 != 31)) (fun _ _ s => judgeWait 4 s)

/-- 9041 EXT_CFG (Table 13-2, R296). -/
def extCfgEffect : Effect := onDev (fun k w s =>
  let v := w.toNat
  let kib := bitsN v 31 20
  let bar := bitsN v 39 32
  if extRunning s k then (stState, s)
  else if (16 ≤ bar ∧ bar ≠ 0xFF) ∨ kib < 4 ∨ 1024 < kib ∨ bitsN v 19 18 = 3 ∨ 1 < bitsN v 17 16 ∨ bitsN v 2 0 < 4 then (stRange, s)
  else (stOK, s.setDv 0x9041 k (v - bitsN v 63 40 * 2 ^ 40 - 8 * bitsN v 15 3)))

/-- A00B AX_HOME_VEL: nonzero, at most AX_VMAX. -/
def homeVelOk (s : State) (_ : Option Nat) (n v : Nat) : Bool :=
  let x := toSigned 64 v
  x != 0 && decide (x.natAbs ≤ s.dv 0xA001 n)

/-- A010.01 START_SRC. -/
def startSrcOk (v : Nat) : Bool :=
  bitsN v 11 4 == 0 &&
  (match bitsN v 15 12 with | 0 => true | 1 => decide (bitsN v 3 0 < 8) | 2 => true | _ => false)

/-- A100 CMP_CFG: SOURCE above 12 is refused; reserved bits are dropped (R3). -/
def cmpCfgEffect : Effect := onDev (fun k w s =>
  if 12 < bitsN w.toNat 5 2 then (stRange, s) else (stOK, s.setDv 0xA100 k (bitsN w.toNat 23 0)))

/-- A103 CMP_PERIOD: its sign may not oppose DIR (R321). -/
def cmpPeriodOk (s : State) (_ : Option Nat) (k v : Nat) : Bool :=
  let x := toSigned 64 v
  if cmpDown s k then decide (x ≤ 0) else decide (0 ≤ x)

/-- 2302 CHAIN_TAIL through a slot: the entries made available that the device reads in host memory are open values
(assumption log 48). -/
def drawBufs : Nat → State → List (Nat × Nat) × State
  | 0, s => ([], s)
  | n + 1, s =>
    let r := s.draw
    let t := drawBufs n r.2
    ((bitsN r.1.toNat 63 0, bitsN r.1.toNat 95 64) :: t.1, t.2)

def chainSlotEffect : Effect := fun row bar sub w s =>
  match bar with
  | some b =>
    let r := drawBufs (ringAhead ((s.bar b).intake.chainTail.getD sub 0) w.toNat) s
    chainTailEffect r.1 row bar sub w r.2
  | none => (stView, s)

/-! ### Objects of a session or function -/

/-- 1105 VIEW, 1106 EVENT_MASK, 1108 LAST_ERROR, 1109 ERROR_COUNT, 1150 EVT_VECTOR, 1151 EVT_COALESCE_NS (R31, R40, R55). -/
def ownEffect (door : Door) : Effect := fun row _ sub w s =>
  let v := w.toNat
  let put (x : Nat) : State := modOwn door (fun m => m.set (okey row.idx sub) x) s
  match row.idx with
  | 0x1105 =>
    match whoIs s door with
    | some (.super _) => if v < 16 ∨ v = 0xFF then (stOK, put v) else (stRange, s)
    | _ => (stOK, s)
  | 0x1106 => (stOK, put (v &&& 0x3FFFC))
  | 0x1108 | 0x1109 =>
    (stOK, modOwn door (fun m => m.modify (okey row.idx sub) 0 (fun x => x - (x &&& v))) s)
  | _ => (stOK, put v)

/-! ### Every object -/

/-- Writes of the chapters 02 to 05. -/
def effectLow (door : Door) (idx sub : Nat) : Effect :=
  match idx with
  | 0x1105 | 0x1106 | 0x1108 | 0x1109 | 0x1150 | 0x1151 => ownEffect door
  | 0x1202 => vbTargetEffect
  | 0x1203 => devTargetEffect
  | 0x1206 => layoutEffect
  | 0x1211 => violationEffect
  | 0x1220 => commitReqEffect
  | 0x1222 => discardEffect
  | 0x2000 => if sub = 2 ∨ sub = 3 then queueEffect else plainEffect
  | 0x2001 => wqTailEffect
  | 0x2003 => eqHeadEffect
  | 0x2010 => if sub = 2 then deqEnEffect else deqRingEffect
  | 0x2011 => deqHeadEffect
  | 0x2301 => djTailEffect
  | 0x2302 => chainSlotEffect
  | 0x2303 => auditEffect
  | 0x3000 => planeEffect
  | 0x3001 => formatEffect
  | 0x3200 => mapEffect
  | 0x3440 => purgeEffect
  | _ => plainEffect

/-- Writes of the chapters 06 to 10. -/
def effectMid (idx sub : Nat) : Effect :=
  match idx with
  | 0x4001 => valueOk (fun v => bitsN v 9 8 != 3)
  | 0x4003 => if sub = 1 then trigEnEffect else rated plainEffect
  | 0x4050 => markRegEffect
  | 0x4200 => checked (fun s _ p v => decide (v ≤ s.dv 0x4211 p)) plainEffect
  | 0x4201 => checked (fun s _ p v => (rowList s p).all (fun r => decide (bitsN v (8 * r + 7) (8 * r) ≤ fineMax s p))) plainEffect
  | 0x4210 => geomEffect
  | 0x4212 | 0x4800 => recheckAll
  | 0x4802 => laneCommand
  | 0x6000 => camEffect
  | 0x6001 => valueOk (fun v => v % 4 == 0)
  | 0x6003 => pulseEffect false
  | 0x6007 => pulseEffect true
  | 0x6104 => satClearEffect
  | 0x6105 | 0x6106 => regEffect
  | 0x6110 => valueOk (fun v => bitsN v 1 0 != 3)
  | 0x6134 => valueOk (fun v => v != 0)
  | 0x6135 => valueOk (fun v => v % 2 == 1)
  | 0x6136 => focusGoEffect
  | 0x6200 => if sub = 1 then valueOk (fun v => [4, 8, 16].contains v) else plainEffect
  | 0x6201 => stripReqEffect
  | 0x6217 => checked (fun s bar p v => match bar with | some b => decide (s.bo b 0x6216 p ≤ v) | none => false) plainEffect
  | 0x7004 => placeFreezeEffect
  | 0x7100 => dramQuotaEffect
  | 0x7101 => sramQuotaEffect
  | 0x7200 => valueOk (fun v => [3200, 4000, 4800, 5600, 6400].contains v)
  | 0x7203 => subchCommand
  | 0x7205 => checked (fun s _ sub v =>
      if sub = 0 then decide (s.dv 0x7205 1 < v) && decide (v ≤ 60) else decide (v < s.dv 0x7205 0)) plainEffect
  | _ => plainEffect

/-- Writes of the chapters 11 to 13. -/
def effectPair (idx sub : Nat) : Effect :=
  match idx with
  | 0x8000 => pairModeEffect
  | 0x8003 => pairCmdEffect
  | 0x8101 => if sub = 2 then timeSetEffect else if sub = 3 then timeStepEffect else rateAdjEffect
  | 0x8102 => timeSrcEffect
  | 0x8104 => domainEffect
  | 0x8112 => portEffect
  | 0x9011 => threadPostEffect
  | 0x9012 => threadKillEffect
  | 0x9020 => routeEffect
  | 0x9041 => extCfgEffect
  | 0x9042 => extCmdEffect
  | _ => plainEffect

/-- Writes of the chapters 14 to 16. -/
def effectHigh (idx sub : Nat) : Effect :=
  match idx with
  | 0xA007 => axCommand
  | 0xA00B => checked homeVelOk plainEffect
  | 0xA010 => if sub = 0 then axStartEffect else valueOk startSrcOk
  | 0xA020 => valueOk (fun v => decide (bitsN v 4 0 ≤ 24))
  | 0xA100 => cmpCfgEffect
  | 0xA103 => checked cmpPeriodOk plainEffect
  | 0xA105 => cmpCommand
  | 0xA110 => valueOk (fun v => bitsN v 1 0 != 3 && bitsN v 3 2 != 3)
  | 0xA200 => hvCommand
  | 0xB002 => domainCtrl
  | 0xB107 => shutdownClearEffect
  | 0xB200 => trimCommand
  | 0xC002 => replaceClearEffect
  | 0xC005 => reinstateEffect
  | 0xC010 => andThen plainEffect (fun _ _ s => rejudge s)
  | 0xC040 => zeroizeEffect
  | 0xC100 => selftestEffect
  | _ => plainEffect

/-- The effect of an accepted write of object `idx`.`sub`. -/
def objectEffect (door : Door) (idx sub : Nat) : Effect :=
  if idx < 0x4000 then effectLow door idx sub
  else if idx < 0x8000 then effectMid idx sub
  else if idx < 0xA000 then effectPair idx sub
  else effectHigh idx sub

/-- A slot write of any object through a door (R30): its status and the state. -/
def slotWrite (door : Door) (idx sub : Nat) (v : Slot) (s : State) : Nat × State :=
  doorWrite door idx sub v (objectEffect door idx sub) s

/-! ### Commands -/

/-- DICT_WRITE (R30 and the rule of the object written). -/
def execDictWrite (dt : Nat) (door : Door) (idx : BitVec 16) (sub : BitVec 8) (val : Slot) (s : State) :
    Host.Outcome State Fault Refusal :=
  run dt s (fun s => (slotWrite door idx.toNat sub.toNat val s).2)

/-- VIOLATION_CLEAR (R33). -/
def execViolationClear (dt : Nat) (door : Door) (val : Slot) (s : State) : Host.Outcome State Fault Refusal :=
  run dt s (writeThrough door 0x1211 0 val violationEffect)

/-- VB_LAYOUT_WRITE (R60). -/
def execVbLayoutWrite (dt : Nat) (door : Door) (sub : Fin 16) (val : Slot) (s : State) : Host.Outcome State Fault Refusal :=
  run dt s (writeThrough door 0x1206 sub.val val layoutEffect)

/-- EXT_DICT_CALL (R295): an environment call of a running extension. -/
def execExtDictCall (dt : Nat) (ext : Fin 64) (write : Bool) (idx : BitVec 16) (sub : BitVec 8) (val : Slot) (s : State) :
    Host.Outcome State Fault Refusal :=
  run dt s (fun s =>
    if !extRunning s ext.val then s
    else if write then (slotWrite (.ext ext) idx.toNat sub.toNat val s).2
    else (readSlot (.ext ext) idx.toNat sub.toNat s).2)

/-! ### PCIe slot accesses (R37 to R40) -/

/-- The pieces of a request: the slot's number (index * 256 + sub), the first byte in the slot, the size and the data. -/
def sliceReq (slot : Nat) : Nat → List Byte → List (Nat × Nat × Nat × List Byte)
  | 0, _ => []
  | 1, bs => [(slot, 0, 4, bs.take 4)]
  | n + 2, bs => (slot, 0, 8, bs.take 8) :: sliceReq (slot + 1) n (bs.drop 8)

/-- R38: the slot accesses of a request, none when its size, alignment or byte enables are not accepted. -/
def reqPieces (r : PcieReq) : Option (List (Nat × Nat × Nat × List Byte)) :=
  let o := r.offset.toNat
  if !r.enabled then none
  else if r.len = 4 ∧ o % 8 = 4 then some [(o / 8, 4, 4, r.data.take 4)]
  else if o % 8 = 0 ∧ r.len % 4 = 0 ∧ 4 ≤ r.len ∧ r.len ≤ 64 then some (sliceReq (o / 8) (r.len / 4) r.data)
  else none

/-- Is the object of a slot of a 64-bit type (R39)? -/
def is64 (idx sub : Nat) : Bool :=
  match rowAt idx sub with
  | some r => r.ty.bits == 64
  | none => false

/-- Is the object of a slot of a type of 32 bits or fewer (R39)? -/
def fits32 (idx sub : Nat) : Bool :=
  match rowAt idx sub with
  | some r => !r.ty.wide && r.ty.bits != 64
  | none => false

/-- R39: the half of function `k` that is held, if any, is discarded, which sets status ALIGN. -/
def discardHeld (k : Fin 17) (s : State) : State :=
  match (s.fn k.val).held with
  | some h => recordStatus (.fn k) (h.1 / 256) (h.1 % 256) stAlign (s.modFn k.val (fun f => { f with held := none }))
  | none => s

/-- R39: a half that was held is discarded, which sets status ALIGN; a latch is discarded. -/
def dropHalves (k : Fin 17) (slot : Nat) (s : State) : State :=
  let other (h : Option (Nat × Nat)) : Bool := match h with | some h => h.1 != slot | none => false
  let s := if other (s.fn k.val).latch then s.modFn k.val (fun f => { f with latch := none }) else s
  if other (s.fn k.val).held then discardHeld k s else s

/-- One write of a slot or of half a slot (R39). A held half is joined by the upper half of its slot alone: an 8-byte write of
the slot and a second lower half discard it. The upper half is ignored of an object of 32 bits or fewer; of any other object
without a 64-bit value a half is a slot write, refused as one of the whole slot is (R28, R34). -/
def pieceWrite (k : Fin 17) (slot first n : Nat) (bs : List Byte) (s : State) : State :=
  let idx := slot / 256
  let sub := slot % 256
  let put (v : Nat) (s : State) : State := (slotWrite (.fn k) idx sub (BitVec.ofNat 64 v) s).2
  if n = 8 then put (leNat bs) (discardHeld k s)
  else if is64 idx sub then
    if first = 0 then (discardHeld k s).modFn k.val (fun f => { f with held := some (slot, leNat bs) })
    else match (s.fn k.val).held with
      | some h => put (h.2 + leNat bs * 2 ^ 32) (s.modFn k.val (fun f => { f with held := none }))
      | none => recordStatus (.fn k) idx sub stAlign s
  else if first = 0 then put (leNat bs) s
  else if fits32 idx sub then s
  else put (leNat bs * 2 ^ 32) s

/-- One read of a slot or of half a slot (R39): the bytes returned. -/
def pieceRead (k : Fin 17) (slot first n : Nat) (s : State) : List Byte × State :=
  let idx := slot / 256
  let sub := slot % 256
  let clear (s : State) : State := s.modFn k.val (fun f => { f with latch := none })
  match (s.fn k.val).latch with
  | some h =>
    if first = 4 then (leBytes 4 h.2, clear s)
    else
      let r := readSlot (.fn k) idx sub (clear s)
      if n = 8 then (leBytes 8 r.1.val, r.2)
      else (leBytes 4 r.1.val, r.2.modFn k.val (fun f => { f with latch := some (slot, r.1.val / 2 ^ 32) }))
  | none =>
    let r := readSlot (.fn k) idx sub s
    if n = 8 then (leBytes 8 r.1.val, r.2)
    else if first = 4 then (leBytes 4 (r.1.val / 2 ^ 32), r.2)
    else (leBytes 4 r.1.val,
      if is64 idx sub then r.2.modFn k.val (fun f => { f with latch := some (slot, r.1.val / 2 ^ 32) }) else r.2)

/-- One piece of a request. -/
def onePiece (k : Fin 17) (write : Bool) (x : Nat × Nat × Nat × List Byte) (acc : List Byte × State) : List Byte × State :=
  let s := dropHalves k x.1 acc.2
  if write then (acc.1, pieceWrite k x.1 x.2.1 x.2.2.1 x.2.2.2 s)
  else
    let r := pieceRead k x.1 x.2.1 x.2.2.1 s
    (acc.1 ++ r.1, r.2)

/-- R310, R392, Table 13-11: a byte of the download window as a read finds it in BOOT. The bytes of the image are the operand of
DL_CTRL_GO, so what a read finds there is open (assumption log 126). -/
def windowByte (s : State) (o : Nat) : Byte :=
  if o < 8 then 0
  else if o < 12 then byteAt (leBytes 4 s.boot.dlLength) (o - 8)
  else if o < 16 then 0
  else if o < 20 then byteAt (leBytes 4 (dlStatus s)) (o - 16)
  else if o < 0x100000 then 0
  else Config.windowByte s.now o

/-- R310, R392: a request to BAR4, which the PF alone has. GO and the bytes of the image reach the device in DL_CTRL_GO
(assumption log 126). -/
def windowRequest (k : Fin 17) (r : PcieReq) (s : State) : State :=
  let o := r.offset.toNat
  if s.devState = .boot ∧ k = 0 then
    if r.write then
      if r.enabled ∧ o = 8 ∧ 4 ≤ r.len then s.modBoot (fun b => { b with dlLength := leNat (r.data.take 4) }) else s
    else s.emit (.readDone k.val (tabulate r.len (fun i => windowByte s (o + i))))
  else if r.write then s
  else s.emit (.readDone k.val (List.replicate r.len 0))

/-- R38: a PCIe request to BAR0. -/
def slotRequest (k : Fin 17) (r : PcieReq) (s : State) : State :=
  match reqPieces r with
  | some ps =>
    let x := ps.foldl (fun acc p => onePiece k r.write p acc) ([], s)
    if r.write then x.2 else x.2.emit (.readDone k.val x.1)
  | none =>
    let slot := r.offset.toNat / 8
    let s := recordStatus (.fn k) (slot / 256) (slot % 256) stAlign s
    if r.write then s else s.emit (.readDone k.val (List.replicate r.len 0))

/-- SLOT_HALF_ACCESS (R37 to R40, and the download window of R310 and R392). -/
def execSlotHalfAccess (dt : Nat) (fn : Fin 17) (req : PcieReq) (s : State) : Host.Outcome State Fault Refusal :=
  run dt s (if req.bar4 then windowRequest fn req else slotRequest fn req)

end Sys2Proof.Machine
end

