-- ==== Sys2Proof/Machine/Transfers.lean ====
section
/-!
DEFINITION. Block transfers through BAR2 (R41 to R44, R392, R398): START, ABORT and the end of a transfer.
-/
namespace Sys2Proof.Machine
open Sys2Proof

/-- The bytes of an object that a block read moves; past its current length they are open (assumption log 49). -/
def readBytes (s : State) (row : Row) (bar : Option Nat) (sub off len : Nat) : List Byte :=
  let c := wideContent s row bar sub
  let own := (c.drop off).take len
  own ++ tabulate (len - own.length) (fun i => Config.pastEnd s.now (okey row.idx sub) (off + own.length + i))

/-- A block access after the checks of `blockGrant`: one that is not served in the present device state reads zero with
status OK (R338), and a hidden one is counted once (R33). -/
def blockStart (door : Door) (write : Bool) (idx sub off len : Nat) (s : State) : BlockGrant × State :=
  match blockGrant s door write idx sub off len with
  | .fail c => if c = 0 then (.hidden false, s) else (.fail c, recordStatus door idx sub c s)
  | .hidden v => (.hidden v, match v, whoIs s door with
      | true, some who => violation who s
      | _, _ => s)
  | .ok row bar dsub => (.ok row bar dsub, s)

/-- R42: apply the bytes of a completed block write to the object resolved at its start; an object that the present state
no longer lets be written is left (Table 02-2, DEDUCED, assumption log 50). -/
def applyBlock (door : Door) (bar : Option Nat) (key off : Nat) (bytes : List Byte) (s : State) : Nat × State :=
  match whoIs s door, rowAt (key / 256) (key % 256) with
  | some who, some row =>
    let c := blockCheck s true row bar (key % 256) off bytes.length
    let r := if c = 0 then wideEffect who row bar (key % 256) off bytes s else (c, s)
    (r.1, recordStatus door (key / 256) (key % 256) r.1 r.2)
  | _, _ => (stAuth, s)

/-- The bar of the object, for a write that R43 orders against seals. -/
def sealBar (toObject : Bool) (bar : Option Nat) : Option Nat := if toObject then bar else none

/-- R43: a seal that waited for a block write of a bar. -/
def sealAfter (b : Option Nat) (s : State) : State := match b with | some b => trySeal b s | none => s

/-- R43: a block write that starts after a commit request waits until the seal. DESIGN CHOICE (log 134): it waits for every
request that is held, one held only for a pending generation (R17) as well as one held for a busy block write. -/
def mustWait (s : State) (b : Option Nat) : Bool := match b with | some b => (s.bar b).heldReq.isSome | none => false

/-! ### Channels -/

def Fn.chan (f : Fn) (c : Nat) : Chan := f.chans.getD c Chan.reset

def modChan (k c : Nat) (g : Chan → Chan) (s : State) : State :=
  s.modFn k (fun f => { f with chans := f.chans.modify c Chan.reset g })

/-- R44: the event of a transfer that has ended: the bar's for a VF, device-scope for the PF. -/
def blockEvent (k c code done : Nat) (s : State) : State :=
  let data := leBytes 1 c ++ leBytes 1 code ++ [0, 0] ++ leBytes 4 done
  let flags := b2n (code != 0)
  if k = 0 then postD .blockDone flags data s else postB .blockDone (k - 1) 0 flags data s

/-- R44: write BT_DONE, BT_CRC and STATE, and post BLOCK_DONE. -/
def endChan (k c code done crc : Nat) (s : State) : State :=
  blockEvent k c code done (modChan k c (fun x => { x with
    state := if code = 0 then 2 else 3, code := code, done := done, crc := crc, snap := [], waits := false }) s)

/-- The greatest order number of any channel. -/
def lastOrder (s : State) : Nat :=
  s.fns.foldl (fun m p => p.2.chans.foldl (fun m c => max m c.2.order) m) 0

/-- R42, R43, R44: the channel begins to move its bytes. -/
def beginChan (k c : Nat) (toObject : Bool) (bar : Option Nat) (key : Nat) (hidden : Bool) (snap : List Byte) (s : State) :
    State :=
  let n := lastOrder s + 1
  let w := mustWait s (sealBar toObject bar)
  modChan k c (fun x => { x with
    toObject := toObject, state := 1, code := 0, done := 0, crc := 0, snap := snap, waits := w, order := n, bar := bar,
    key := key, hidden := hidden }) s

/-- R41: the checks of START, and the transfer that begins. -/
def startChan (k : Fin 17) (c : Nat) (r : BtRegs) (toObject : Bool) (s : State) : State :=
  let idx := bitsN r.object.toNat 31 16
  let sub := bitsN r.object.toNat 15 8
  let off := r.offset.toNat
  let len := r.length.toNat
  let s := modChan k.val c (fun x => { x with object := r.object.toNat, offset := off, length := len, addr := r.addr.toNat }) s
  if len = 0 ∨ 0x04000000 < len then endChan k.val c stRange 0 0 (recordStatus (.fn k) idx sub stRange s)
  else
    let g := blockStart (.fn k) toObject idx sub off len s
    match g.1 with
    | .fail code => endChan k.val c code 0 0 g.2
    | .hidden _ =>
      if r.addr.toNat % 64 ≠ 0 then endChan k.val c stAlign 0 0 (recordStatus (.fn k) idx sub stAlign g.2)
      else beginChan k.val c toObject none (okey idx sub) true (if toObject then [] else List.replicate len 0) g.2
    | .ok row bar dsub =>
      if r.addr.toNat % 64 ≠ 0 then endChan k.val c stAlign 0 0 (recordStatus (.fn k) idx sub stAlign g.2)
      else beginChan k.val c toObject bar (okey row.idx dsub) false
        (if toObject then [] else readBytes g.2 row bar dsub off len) g.2

/-- BT_START (R41, R42, R43, R392). The registers are those of the channel as START finds them. -/
def execBtStart (dt : Nat) (fn : Fin 17) (ch : Fin 4) (regs : BtRegs) (toObject : Bool) (s : State) :
    Host.Outcome State Fault Refusal :=
  run dt s (fun s =>
    if s.devState = .boot then s
    else if ((s.fn fn.val).chan ch.val).state = 1 then
      recordStatus (.fn fn) (bitsN regs.object.toNat 31 16) (bitsN regs.object.toNat 15 8) stBusy s
    else startChan fn ch.val regs toObject s)

/-- How many bytes a busy channel had moved when it is aborted: open (R44 covers "the bytes moved before it"), none of a write
that waits for a seal. -/
def movedBytes (x : Chan) (v : Nat) : Nat := if x.waits then 0 else v % (x.length + 1)

/-- R41, R44: a busy channel stops. The bytes that a read moved before it are in host memory. -/
def abortChan (k : Fin 17) (c : Nat) (s : State) : State :=
  let x := (s.fn k.val).chan c
  let r := s.draw
  let n := movedBytes x r.1.toNat
  let b := sealBar x.toObject x.bar
  if x.toObject then
    let q := r.2.draw
    sealAfter b (endChan k.val c stAborted n (if n = 0 then 0 else q.1.toNat % 2 ^ 32)
      (recordStatus (.fn k) (x.key / 256) (x.key % 256) stAborted q.2))
  else
    let bs := x.snap.take n
    let s := if n = 0 then r.2 else r.2.emit (.dmaWrite k.val x.addr bs)
    endChan k.val c stAborted n (crc32c bs) (recordStatus (.fn k) (x.key / 256) (x.key % 256) stAborted s)

/-- R41, R44: ABORT of a channel. -/
def abortBusy (fn : Fin 17) (ch : Fin 4) : State → State :=
  fun s =>
    if s.devState = .boot ∨ ((s.fn fn.val).chan ch.val).state ≠ 1 then s else abortChan fn ch.val s

/-- R44: is a block write to the same object, started earlier on another channel, still busy? -/
def earlierWrite (s : State) (x : Chan) : Bool :=
  s.fns.any (fun p => p.2.chans.any (fun c => c.2.state == 1 && c.2.toObject && !c.2.hidden && c.2.key == x.key &&
    c.2.bar == x.bar && decide (c.2.order < x.order)))

/-- May the channel's last byte have moved? A write has waited for its seal and for earlier writes to its object. -/
def chanReady (s : State) (x : Chan) (data : List Byte) : Bool :=
  x.state == 1 && (!x.toObject || (!x.waits && !earlierWrite s x && data.length == x.length))

/-- R42: the last byte of a transfer has moved. -/
def finishChan (k : Fin 17) (c : Nat) (x : Chan) (data : List Byte) (s : State) : State :=
  if x.toObject then
    let r := if x.hidden then (stOK, s) else applyBlock (.fn k) x.bar x.key x.offset data s
    sealAfter x.bar (endChan k.val c r.1 x.length (crc32c data) r.2)
  else endChan k.val c stOK x.length (crc32c x.snap) (s.emit (.dmaWrite k.val x.addr x.snap))

/-- R42, R43, R44: the last byte of a transfer has moved. -/
def chanDone (fn : Fin 17) (ch : Fin 4) (data : List Byte) : State → State :=
  fun s =>
    let x := (s.fn fn.val).chan ch.val
    if chanReady s x data then finishChan fn ch.val x data s else s

end Sys2Proof.Machine
end

