-- ==== Sys2Proof/Machine/Sessions.lean ====
section
/-!
DEFINITION. Merdin Object Access (R45 to R52, R54, R55): frames, authentication, the request window, reads, writes and
blocks, events acknowledged and repeated, and the timers of sessions.
-/
namespace Sys2Proof.Machine
open Sys2Proof

/-! ### Frames -/

/-- R45, Table 02-5: the datagram is accepted: unfragmented, short enough, of version 1, its LEN that of its payload
(assumption log 51). -/
def moaAccepts (f : MoaFrame) : Bool :=
  !f.fragmented && decide (f.udpLen ≤ 1472) && f.version == 1 && decide (f.len.toNat ≤ 1440) && f.payload.length == f.len.toNat

/-- R45, R392: MOA is not served in BOOT; a datagram that is not accepted is dropped and counted. -/
def moaFrame (f : MoaFrame) (serve : State → State) (s : State) : State :=
  if s.devState = .boot then s else if moaAccepts f then serve s else s.bump 0x1131 1

/-- A device frame before the session key is in force (no MAC). -/
def plainReply (f : MoaFrame) (op sid status : Nat) (payload : List Byte) (s : State) : State :=
  s.emit (.moa f.ip.toNat f.port.toNat op sid 0 status payload [])

/-! ### Authentication -/

/-- "MOA1" and a letter. -/
def moaTag (letter : Byte) : List Byte := [0x4D, 0x4F, 0x41, 0x31, letter]

/-- PROOF_H. -/
def proofH (key nonceH nonceD : List Byte) (sid role target : Nat) : List Byte :=
  (hmac key (moaTag 0x48 ++ nonceH ++ nonceD ++ beBytes 4 sid ++ beBytes 1 role ++ beBytes 1 target)).take 16

/-- PROOF_D. -/
def proofD (key nonceH nonceD : List Byte) (sid : Nat) : List Byte :=
  (hmac key (moaTag 0x44 ++ nonceD ++ nonceH ++ beBytes 4 sid)).take 16

/-- K_S. -/
def sessionKey (key nonceH nonceD : List Byte) (sid : Nat) : List Byte :=
  hmac key (moaTag 0x53 ++ nonceH ++ nonceD ++ beBytes 4 sid)

/-- The number of the key that a role and target name: 0–15 bar, 16–19 supervisor. -/
def keyNumber (role target : Nat) : Option Nat :=
  if role = 0 ∧ target < 4 then some (16 + target) else if role = 1 ∧ target < 16 then some target else none

/-- The key that a role and target name, if present. -/
def keyOf (s : State) (role target : Nat) : Option (List Byte) := (keyNumber role target).bind (fun k => s.mram.keys.get? k)

/-- R49: is the key locked out? -/
def lockedOut (s : State) (role target : Nat) : Bool :=
  match (keyNumber role target).bind (fun k => s.moa.lockout.get? k) with
  | some t => decide (s.now < t)
  | none => false

/-- R49: the SID of a new attempt: nonzero and not in use, from a free value. -/
def freshSid (s : State) (v : Nat) : Nat :=
  let used (x : Nat) : Bool := x == 0 || s.moa.sessions.has x || s.moa.challenges.has x
  let n := s.moa.sessions.length + s.moa.challenges.length + 2
  (((List.range n).map (fun i => (v + i) % 2 ^ 32)).find? (fun x => !used x)).getD 1

/-- R49: a CHALLENGE. -/
def challenge (f : MoaFrame) (role target : Nat) (s : State) : State :=
  let r := s.draw
  let q := r.2.draw
  let sid := freshSid s r.1.toNat
  let nonceD := leBytes 16 q.1.toNat
  plainReply f 0x02 sid stOK nonceD (q.2.modMoa (fun m => { m with
    challenges := m.challenges.set sid { ip := f.ip.toNat, port := f.port.toNat, role := role, target := target,
                                         nonceH := f.payload.drop 4, nonceD := nonceD, at_ := s.now } }))

/-- R49: HELLO is answered or refused. DESIGN CHOICE (log 135): a HELLO whose payload is not the 20 bytes of R49 is answered
with RANGE. -/
def helloServe (f : MoaFrame) (s : State) : State :=
  let role := (byteAt f.payload 0).toNat
  let target := (byteAt f.payload 1).toNat
  if f.payload.length ≠ 20 then plainReply f 0x02 0 stRange [] s
  else if (keyOf s role target).isNone || decide (32 ≤ s.moa.sessions.length) || lockedOut s role target then
    plainReply f 0x02 0 stAuth [] s
  else challenge f role target s

/-- HELLO (R49). -/
def execHello (dt : Nat) (f : MoaFrame) (s : State) : Host.Outcome State Fault Refusal :=
  run dt s (moaFrame f (helloServe f))

/-- R49: the refused AUTHs naming the key within the last 10 s, this one among them. -/
def refusals (s : State) (k : Nat) : List Nat :=
  ((s.moa.fails.getD k []).filter (fun t => decide (s.now ≤ t + 10 * Config.second))) ++ [s.now]

/-- R49: a refused AUTH: counted against its key, which the fourth within 10 s locks out. -/
def authRefused (f : MoaFrame) (sid : Nat) (c : Challenge) (s : State) : State :=
  let k := (keyNumber c.role c.target).getD 0
  let fs := refusals s k
  let lock := decide (4 ≤ fs.length)
  let s := s.modMoa (fun m => { m with
    fails := m.fails.set k (if lock then [] else fs),
    lockout := if lock then m.lockout.set k (s.now + 10 * Config.second) else m.lockout })
  postD .authFail (b2n lock) (leBytes 4 f.ip.toNat ++ leBytes 1 c.role ++ leBytes 1 c.target)
    (plainReply f 0x04 sid stAuth [] s)

/-- The lowest free slot of 1130 SESSION_INFO. -/
def freeSlot (s : State) : Option Nat := (List.range 32).find? (fun k => !s.moa.sessions.any (fun e => e.2.slot == k))

/-- A session as WELCOME opens it. -/
def newSession (f : MoaFrame) (c : Challenge) (slot : Nat) (key : List Byte) (now : Nat) : Session :=
  { slot := slot, ip := c.ip, port := f.port.toNat, role := c.role, target := c.target, key := key, last := 0, kept := [],
    early := [], block := none, lastAt := now, own := [], txSeq := 0, unacked := [], lost := 0 }

/-- R49: an AUTH that verifies opens the session: WELCOME is the first frame under its key. -/
def welcome (f : MoaFrame) (sid : Nat) (c : Challenge) (key : List Byte) (slot : Nat) (s : State) : State :=
  let ss := newSession f c slot (sessionKey key c.nonceH c.nonceD sid) s.now
  let s := s.modMoa (fun m => { m with challenges := m.challenges.erase sid, sessions := m.sessions.set sid ss })
  postD .sessionOpened c.role (leBytes 4 sid ++ leBytes 4 c.ip)
    (moaSend sid ss 0x04 3 0 stOK (proofD key c.nonceH c.nonceD sid) s)

/-- R49, R50: AUTH against its CHALLENGE. One that verifies when 32 sessions are open is refused with AUTH (assumption log 52). -/
def authServe (f : MoaFrame) (s : State) : State :=
  let sid := f.session.toNat
  match s.moa.challenges.get? sid with
  | none => s.bump 0x1131 2
  | some c =>
    if c.ip ≠ f.ip.toNat then s.bump 0x1131 2
    else
      match keyOf s c.role c.target with
      | none => authRefused f sid c s
      | some key =>
        if f.payload = proofH key c.nonceH c.nonceD sid c.role c.target then
          match freeSlot s with
          | some slot => welcome f sid c key slot s
          | none => plainReply f 0x04 sid stAuth [] s
        else authRefused f sid c s

/-- AUTH (R49, R50). -/
def execAuth (dt : Nat) (f : MoaFrame) (s : State) : Host.Outcome State Fault Refusal :=
  run dt s (moaFrame f (authServe f))

/-! ### Reads and writes -/

/-- Consecutive slot reads from subindex `sub`. -/
def readSlots (door : Door) (idx sub : Nat) : Nat → State → List ReadResult × State
  | 0, s => ([], s)
  | n + 1, s =>
    let r := readSlot door idx sub s
    let t := readSlots door idx (sub + 1) n r.2
    (r.1 :: t.1, t.2)

/-- The first status that is not OK. -/
def firstBad (cs : List Nat) : Nat := (cs.find? (fun c => c != 0)).getD stOK

/-- The answer to one READ item; `room` bytes are left in the response (assumption log 53). -/
def readItem (door : Door) (idx sub count room : Nat) (s : State) : List Byte × State :=
  let hdr (st ty : Nat) : List Byte := leBytes 2 idx ++ leBytes 1 sub ++ leBytes 1 count ++ leBytes 1 st ++ leBytes 1 ty ++ [0, 0]
  if count = 0 ∨ 32 < count ∨ room < 8 + 8 * count then (hdr stRange 0, recordStatus door idx sub stRange s)
  else
    let r := readSlots door idx sub count s
    let ty := match r.1.head? with | some x => x.ty | none => 0
    (hdr (firstBad (r.1.map (fun x => x.status))) ty ++ r.1.flatMap (fun x => leBytes 8 x.val), r.2)

/-- The items of a READ, in order. -/
def readItems (door : Door) : Nat → List Byte → List Byte → State → List Byte × State
  | 0, _, out, s => (out, s)
  | n + 1, bs, out, s =>
    if bs.length < 4 ∨ 1440 < out.length + 8 then (out, s)
    else
      let r := readItem door (fieldLE bs 0 2) (fieldLE bs 2 1) (fieldLE bs 3 1) (1440 - out.length) s
      readItems door n (bs.drop 4) (out ++ r.1) r.2

/-- Consecutive slot writes from subindex `sub`: the subindices and statuses. -/
def writeSlots (door : Door) (idx sub : Nat) : List Nat → State → List (Nat × Nat) × State
  | [], s => ([], s)
  | v :: vs, s =>
    let r := slotWrite door idx sub (BitVec.ofNat 64 v) s
    let t := writeSlots door idx (sub + 1) vs r.2
    ((sub, r.1) :: t.1, t.2)

/-- The answer to one WRITE item. -/
def writeAnswer (idx sub count st failSub : Nat) : List Byte :=
  leBytes 2 idx ++ leBytes 1 sub ++ leBytes 1 count ++ leBytes 1 st ++ leBytes 1 failSub ++ [0, 0]

/-- R47: the items of a WRITE, in order; `bad` once an item's COUNT was not acceptable or its values overran LEN. -/
def writeItems (door : Door) : Nat → Bool → List Byte → List Byte → State → List Byte × State
  | 0, _, _, out, s => (out, s)
  | n + 1, bad, bs, out, s =>
    if bs.length < 4 then (out, s)
    else
      let idx := fieldLE bs 0 2
      let sub := fieldLE bs 2 1
      let count := fieldLE bs 3 1
      let body := bs.drop 4
      if bad || count == 0 || decide (32 < count) || decide (body.length < 8 * count) then
        writeItems door n true (body.drop (8 * count)) (out ++ writeAnswer idx sub count stRange sub)
          (recordStatus door idx sub stRange s)
      else
        let r := writeSlots door idx sub (tabulate count (fun i => fieldLE body (8 * i) 8)) s
        let fail := r.1.find? (fun x => x.2 != 0)
        let ans := match fail with
          | some x => writeAnswer idx sub count x.2 x.1
          | none => writeAnswer idx sub count stOK 0
        writeItems door n false (body.drop (8 * count)) (out ++ ans) r.2

/-! ### Blocks (R48) -/

/-- Discard the open block of a session; a seal that waited for it may proceed (R43). -/
def dropBlock (sid : Nat) (s : State) : State :=
  match s.moa.sessions.get? sid with
  | none => s
  | some x => sealAfter x.blockBar (s.modSession sid (fun x => { x with block := none }))

/-- The lowest free block buffer of 8. -/
def freeBuffer (s : State) : Option Nat :=
  (List.range 8).find? (fun n => !s.moa.sessions.any (fun e =>
    match e.2.block with | some k => k.toObject && k.buf == n | none => false))

/-- Open a block. -/
def openBlock (sid key : Nat) (hidden : Bool) (bar : Option Nat) (toObject : Bool) (off len buf : Nat) (snap : List Byte)
    (s : State) : State :=
  let w := mustWait s (sealBar toObject bar)
  s.modSession sid (fun x => { x with
    block := some { key := key, hidden := hidden, bar := bar, toObject := toObject, offset := off, length := len, buf := buf,
                    chunks := [], snap := snap, sent := 0, bad := false, waits := w } })

/-- Take a buffer for a write, or begin a read. -/
def takeBlock (door : Door) (sid idx sub key : Nat) (hidden : Bool) (bar : Option Nat) (toObject : Bool) (off len : Nat)
    (snap : List Byte) (s : State) : Nat × State :=
  if toObject then
    match freeBuffer s with
    | some n => (stOK, openBlock sid key hidden bar true off len n [] s)
    | none => (stBusy, recordStatus door idx sub stBusy s)
  else (stOK, openBlock sid key hidden bar false off len 0 snap s)

/-- R48, R41, R398: BLOCK_BEGIN. -/
def beginBlock (sid : Nat) (f : MoaFrame) (s : State) : Nat × State :=
  let door := Door.moa (BitVec.ofNat 32 sid)
  let p := f.payload
  let idx := fieldLE p 0 2
  let sub := fieldLE p 2 1
  let toObject := fieldLE p 3 1 == 1
  let off := fieldLE p 4 4
  let len := fieldLE p 8 4
  let s := dropBlock sid s
  if p.length ≠ 12 ∨ 1 < fieldLE p 3 1 ∨ len = 0 ∨ 4194304 < len then (stRange, recordStatus door idx sub stRange s)
  else
    let g := blockStart door toObject idx sub off len s
    match g.1 with
    | .fail c => (c, g.2)
    | .hidden _ => takeBlock door sid idx sub (okey idx sub) true none toObject off len (List.replicate len 0) g.2
    | .ok row bar dsub => takeBlock door sid idx sub (okey row.idx dsub) false bar toObject off len
        (if toObject then [] else readBytes g.2 row bar dsub off len) g.2

/-- R48: BLOCK_DATA of an open block write. -/
def depositBlock (sid : Nat) (f : MoaFrame) (s : State) : Nat × State :=
  let o := fieldLE f.payload 0 4
  let bs := f.payload.drop 4
  match (s.moa.sessions.get? sid).bind (fun x => x.block) with
  | none => (stState, s)
  | some k =>
    if !k.toObject then (stState, s)
    else if f.payload.length < 4 ∨ 1408 < bs.length ∨ k.length < o + bs.length then (stRange, s)
    else (stOK, s.modSession sid (fun x => { x with block := some { k with chunks := k.chunks ++ [(o, bs)] } }))

/-- From byte `pos` on, is every byte up to `len` in some piece? -/
def coversFrom (cs : List (Nat × List Byte)) (len : Nat) : Nat → Nat → Bool
  | 0, pos => decide (len ≤ pos)
  | n + 1, pos =>
    if len ≤ pos then true
    else match cs.find? (fun c => decide (c.1 ≤ pos) && decide (pos < c.1 + c.2.length)) with
      | some c => coversFrom cs len n (c.1 + c.2.length)
      | none => false

/-- The bytes collected, a later piece over an earlier one. -/
def collected (k : MoaBlock) : List Byte := k.chunks.foldl (fun b c => overwrite b c.1 c.2) (List.replicate k.length 0)

/-- R48, Table 10-7: may the block be applied? -/
def blockWhole (k : MoaBlock) (f : MoaFrame) : Bool :=
  !k.bad && f.payload.length == 4 && coversFrom k.chunks k.length (k.chunks.length + 1) 0 &&
  fieldLE f.payload 0 4 == crc32c (collected k)

/-- R48, R42, R43: BLOCK_END. -/
def endBlock (sid : Nat) (f : MoaFrame) (s : State) : Nat × State :=
  let door := Door.moa (BitVec.ofNat 32 sid)
  match (s.moa.sessions.get? sid).bind (fun x => x.block) with
  | none => (stState, s)
  | some k =>
    if !k.toObject then (stState, s)
    else if blockWhole k f then
      let r := if k.hidden then (stOK, s) else applyBlock door k.bar k.key k.offset (collected k) s
      (r.1, dropBlock sid r.2)
    else (stRange, dropBlock sid (recordStatus door (k.key / 256) (k.key % 256) stRange s))

/-- R48: the next BLOCK_DATA frame of an open block read, sent with each request that acknowledges the one
before to the port of that request (R45). -/
def streamNext (sid port : Nat) (s : State) : State :=
  match s.moa.sessions.get? sid with
  | none => s
  | some x =>
    match x.block with
    | none => s
    | some k =>
      if k.toObject then s
      else if k.length ≤ k.sent then s.modSession sid (fun x => { x with block := none })
      else
        let part := (k.snap.drop k.sent).take 1408
        let seq := (x.txSeq + 1) % 2 ^ 32
        (moaSend sid { x with port := port } 0x21 3 seq stOK (leBytes 4 k.sent ++ part) s).modSession sid (fun x => { x with
          txSeq := seq, block := some { k with sent := k.sent + part.length } })

/-! ### Events acknowledged -/

/-- R54: when space has returned, one EVENT_OVERFLOW gives the number of events discarded. -/
def sessionOverflow (sid : Nat) (s : State) : State :=
  match s.moa.sessions.get? sid with
  | none => s
  | some x =>
    if x.lost ≠ 0 ∧ x.unacked.length < 256 then
      (moaEventSend sid x (overflowRecord s.time x.lost (if x.role = 1 then 0 else 0xFF)) s).modSession sid (fun x => { x with
        lost := 0 })
    else s

/-- R54: EVENT_ACK. -/
def ackEvent (sid : Nat) (f : MoaFrame) (s : State) : Nat × State :=
  let seq := fieldLE f.payload 0 4
  if f.payload.length ≠ 4 then (stRange, s)
  else (stOK, sessionOverflow sid (s.modSession sid (fun x => { x with
    unacked := x.unacked.filter (fun e => e.seq != seq) })))

/-! ### The request window (R50, R51) -/

/-- What a request of opcode `op` does: its status and the payload of its response. -/
def serve (op sid : Nat) (f : MoaFrame) (s : State) : (Nat × List Byte) × State :=
  let door := Door.moa (BitVec.ofNat 32 sid)
  let noPayload (r : Nat × State) : (Nat × List Byte) × State := ((r.1, []), r.2)
  match op with
  | 0x10 => let r := readItems door (f.payload.length / 4) f.payload [] s; ((stOK, r.1), r.2)
  | 0x11 => let r := writeItems door (f.payload.length / 4) false f.payload [] s; ((stOK, r.1), r.2)
  | 0x20 => noPayload (beginBlock sid f s)
  | 0x21 => noPayload (depositBlock sid f s)
  | 0x22 => noPayload (endBlock sid f s)
  | 0x31 => noPayload (ackEvent sid f s)
  | _ => noPayload (stOK, s)

/-- Send a response to request `f` and keep it among the last 8. -/
def answer (op sid : Nat) (f : MoaFrame) (status : Nat) (payload : List Byte) (s : State) : State :=
  match s.moa.sessions.get? sid with
  | none => s
  | some x =>
    let seq := (x.txSeq + 1) % 2 ^ 32
    let kept := x.kept ++ [{ req := f.seq.toNat, seq := seq, op := op, status := status, payload := payload }]
    (moaSend sid { x with port := f.port.toNat } op 3 seq status payload s).modSession sid (fun x => { x with
      txSeq := seq, last := f.seq.toNat, kept := kept.drop (kept.length - 8) })

/-- Run one request in its turn. -/
def runRequest (op sid : Nat) (f : MoaFrame) (s : State) : State :=
  let r := serve op sid f s
  let s := streamNext sid f.port.toNat (answer op sid f r.1.1 r.1.2 r.2)
  if op = 0x05 then closeSession sid false s else s

/-- R43: a BLOCK_END whose block waits for a seal waits with it. -/
def blockedEnd (x : Session) (op : Nat) : Bool :=
  op == 0x22 && (match x.block with | some k => k.toObject && k.waits | none => false)

/-- R51: run the requests that have arrived, in SEQ order. -/
def drain (sid : Nat) : Nat → State → State
  | 0, s => s
  | n + 1, s =>
    match s.moa.sessions.get? sid with
    | none => s
    | some x =>
      match x.early.find? (fun e => e.2.seq.toNat == (x.last + 1) % 2 ^ 32) with
      | none => s
      | some e =>
        if blockedEnd x e.1 then s
        else drain sid n (runRequest e.1 sid e.2 (s.modSession sid (fun x => { x with
          early := x.early.filter (fun y => y.2.seq != e.2.seq) })))

/-- A frame whose SEQ lies outside the window (R51). -/
def refuseSeq (op sid : Nat) (x : Session) (f : MoaFrame) (s : State) : State :=
  let seq := (x.txSeq + 1) % 2 ^ 32
  (moaSend sid { x with port := f.port.toNat } op 3 seq stSequence [] s).modSession sid (fun x => { x with txSeq := seq })

/-- R51: a valid request: answered again, taken into the window, or refused. -/
def windowServe (op sid : Nat) (x : Session) (f : MoaFrame) (s : State) : State :=
  let d := (f.seq.toNat + 2 ^ 32 - x.last) % 2 ^ 32
  match x.kept.find? (fun k => k.req == f.seq.toNat) with
  | some k => moaSend sid { x with port := f.port.toNat } k.op 3 k.seq k.status k.payload s
  | none =>
    if 1 ≤ d ∧ d ≤ 8 then
      drain sid 9 (s.modSession sid (fun x => { x with
        early := if x.early.any (fun e => e.2.seq == f.seq) then x.early else x.early ++ [(op, f)] }))
    else refuseSeq op sid x f s

/-- R50: does the frame verify? A frame that carries RESP is no request. -/
def frameValid (op : Nat) (x : Session) (f : MoaFrame) : Bool :=
  x.ip == f.ip.toNat && bitN f.flags.toNat 1 && !bitN f.flags.toNat 0 &&
  f.mac == (hmac x.key (moaHeader op f.flags.toNat f.session.toNat f.seq.toNat f.len.toNat f.status.toNat ++ f.payload)).take 16

/-- R50, R52: a frame of an open session. -/
def sessionServe (op : Nat) (f : MoaFrame) (s : State) : State :=
  let sid := f.session.toNat
  match s.moa.sessions.get? sid with
  | none => s.bump 0x1131 2
  | some x =>
    if frameValid op x f then windowServe op sid x f (s.modSession sid (fun x => { x with lastAt := s.now }))
    else s.bump 0x1131 2

/-! ### Timers -/

/-- CHALLENGE_TIMEOUT (R49). -/
def execChallengeTimeout (dt : Nat) (sid : BitVec 32) (s : State) : Host.Outcome State Fault Refusal :=
  run dt s (fun s =>
    match s.moa.challenges.get? sid.toNat with
    | some c => if c.at_ + Config.second ≤ s.now then
        s.modMoa (fun m => { m with challenges := m.challenges.erase sid.toNat }) else s
    | none => s)

/-- LOCKOUT_EXPIRY (R49). -/
def execLockoutExpiry (dt : Nat) (key : Fin 20) (s : State) : Host.Outcome State Fault Refusal :=
  run dt s (fun s =>
    match s.moa.lockout.get? key.val with
    | some t => if t ≤ s.now then s.modMoa (fun m => { m with lockout := m.lockout.erase key.val }) else s
    | none => s)

/-- R52: a session that has sent no valid frame for SESSION_TIMEOUT ends. -/
def sessionEnds (sid : BitVec 32) : State → State :=
  fun s =>
    match s.moa.sessions.get? sid.toNat with
    | some x => if x.lastAt + s.dv 0x1112 0 * Config.milli ≤ s.now then closeSession sid.toNat true s else s
    | none => s

/-- R54: repeat one unacknowledged EVENT frame. -/
def repeatEvent (sid : Nat) (x : Session) (e : SentEvent) (s : State) : State :=
  (moaSend sid x 0x30 2 e.seq 0 e.payload s).modSession sid (fun x => { x with
    unacked := x.unacked.map (fun y => if y.seq == e.seq then { y with sentAt := s.now, tries := y.tries + 1 } else y) })

/-- EVENT_RETRY (R54). -/
def execEventRetry (dt : Nat) (sid : BitVec 32) (seq : Nat) (s : State) : Host.Outcome State Fault Refusal :=
  run dt s (fun s =>
    match s.moa.sessions.get? sid.toNat with
    | none => s
    | some x =>
      match x.unacked.find? (fun e => e.seq == seq) with
      | some e => if e.tries < 3 ∧ e.sentAt + Config.milli ≤ s.now then repeatEvent sid.toNat x e s else s
      | none => s)

/-- EVT_COALESCE_EXPIRY (R55). -/
def execEvtCoalesceExpiry (dt : Nat) (fn : Fin 17) (s : State) : Host.Outcome State Fault Refusal :=
  run dt s (fun s =>
    let f := s.fn fn.val
    match f.unsigAt with
    | some t =>
      if t + f.own.getD (okey 0x1151 0) 0 ≤ s.now then
        (forAll f.unsig (fun v s => s.emit (.msix fn.val v)) s).modFn fn.val (fun f => { f with unsigAt := none, unsig := [] })
      else s
    | none => s)

end Sys2Proof.Machine
end

