-- ==== Sys2Proof/Machine/Settle.lean ====
section
/-!
DEFINITION. What one command's effect lets go on in another part of the block: the BLOCK_ENDs that waited for a seal (R43, R48)
and the page heads held while four pages were open (R69); and the commands whose effect can do so.
-/
namespace Sys2Proof.Machine
open Sys2Proof

/-- Is the next request of the session a BLOCK_END that waits for a seal (R43)? -/
def Session.endWaits (x : Session) : Bool :=
  match x.early.find? (fun e => e.2.seq.toNat == (x.last + 1) % 2 ^ 32) with
  | some e => blockedEnd x e.1
  | none => false

/-- The sessions whose next request is a BLOCK_END that waits for a seal (R43). -/
def waitingEnds (s : State) : List Nat :=
  s.moa.sessions.keys.filter (fun sid => match s.moa.sessions.get? sid with | some x => x.endWaits | none => false)

/-- R69, R204: entry to SAFE has closed pages: the held heads go on. -/
def resumeCut (s t : State) : State :=
  if t.devState = .safe ∧ s.devState ≠ .safe then forAll (List.range 16) resumeHold t else t

/-- The effect `f` and what it lets go on. -/
def settled (f : State → State) (s : State) : State :=
  forAll (waitingEnds s) (fun sid s => drain sid 9 s) (resumeCut s (f s))

/-- LINE_DUE (R134 to R139 and what each line brings). -/
def execLineDue (dt : Nat) (s : State) : Host.Outcome State Fault Refusal :=
  run dt s (settled (lineDue))

/-- IDLE_COMMIT_EFFECT (R20). -/
def execIdleCommitEffect (dt : Nat) (bar : Fin 16) (s : State) : Host.Outcome State Fault Refusal :=
  run dt s (settled (idleCommitDue bar))

/-- COMMIT_RECORD (R274): the standby seals at the named page and compares the digest. -/
def execCommitRecord (dt : Nat) (bar : Fin 16) (page : BitVec 32) (digest : BitVec 32) (s : State) : Host.Outcome State Fault Refusal :=
  run dt s (settled (takeCommit bar page digest))

/-- FLIP_RECORD (R196): the flip line is taken as the active fixed it; one whose page head is still to come waits. -/
def execFlipRecord (dt : Nat) (bar : Fin 16) (page : BitVec 32) (flip : Nat) (strip : Option StripPlace) (s : State) : Host.Outcome State Fault Refusal :=
  run dt s (settled (takeFlip bar page flip strip))

/-- MIRROR_RECORD (R275, Table 11-3). -/
def execMirrorRecord (dt : Nat) (item : MirrorItem) (s : State) : Host.Outcome State Fault Refusal :=
  run dt s (settled (takeMirror item))

/-- BT_ABORT (R41, R44). -/
def execBtAbort (dt : Nat) (fn : Fin 17) (ch : Fin 4) (s : State) : Host.Outcome State Fault Refusal :=
  run dt s (settled (abortBusy fn ch))

/-- BLOCK_DONE (R42, R43, R44). `data` is what a write fetched from host memory. -/
def execBlockDone (dt : Nat) (fn : Fin 17) (ch : Fin 4) (data : List Byte) (s : State) : Host.Outcome State Fault Refusal :=
  run dt s (settled (chanDone fn ch data))

/-- TRIP_ACCEPTED (R327 to R330, R332). -/
def execTripAccepted (dt : Nat) (k : Fin 16) (s : State) : Host.Outcome State Fault Refusal :=
  run dt s (settled (acceptTrip k))

/-- HV_BLANK_END (R329, Table 14-1): 200 µs after the rise. -/
def execHvBlankEnd (dt : Nat) (k : Fin 16) (s : State) : Host.Outcome State Fault Refusal :=
  run dt s (settled (blankEnds k))

/-- SESSION_TIMEOUT (R52). -/
def execSessionTimeout (dt : Nat) (sid : BitVec 32) (s : State) : Host.Outcome State Fault Refusal :=
  run dt s (settled (sessionEnds sid))

/-- CLOSE (R52). -/
def execClose (dt : Nat) (f : MoaFrame) (s : State) : Host.Outcome State Fault Refusal :=
  run dt s (settled (moaFrame f (sessionServe 0x05 f)))

/-- KEEPALIVE (R52). -/
def execKeepalive (dt : Nat) (f : MoaFrame) (s : State) : Host.Outcome State Fault Refusal :=
  run dt s (settled (moaFrame f (sessionServe 0x06 f)))

/-- READ (R51). -/
def execMoaRead (dt : Nat) (f : MoaFrame) (s : State) : Host.Outcome State Fault Refusal :=
  run dt s (settled (moaFrame f (sessionServe 0x10 f)))

/-- WRITE (R47). -/
def execMoaWrite (dt : Nat) (f : MoaFrame) (s : State) : Host.Outcome State Fault Refusal :=
  run dt s (settled (moaFrame f (sessionServe 0x11 f)))

/-- BLOCK_BEGIN (R48). -/
def execBlockBegin (dt : Nat) (f : MoaFrame) (s : State) : Host.Outcome State Fault Refusal :=
  run dt s (settled (moaFrame f (sessionServe 0x20 f)))

/-- BLOCK_DATA (R48). -/
def execBlockData (dt : Nat) (f : MoaFrame) (s : State) : Host.Outcome State Fault Refusal :=
  run dt s (settled (moaFrame f (sessionServe 0x21 f)))

/-- BLOCK_END (R48, R42, R43). -/
def execBlockEnd (dt : Nat) (f : MoaFrame) (s : State) : Host.Outcome State Fault Refusal :=
  run dt s (settled (moaFrame f (sessionServe 0x22 f)))

/-- EVENT_ACK (R54). -/
def execEventAck (dt : Nat) (f : MoaFrame) (s : State) : Host.Outcome State Fault Refusal :=
  run dt s (settled (moaFrame f (sessionServe 0x31 f)))

end Sys2Proof.Machine
end

