-- ==== Sys2Proof/Machine/Dispatch.lean ====
section
/-!
DEFINITION. The dispatcher: one arm per command, each one direct call of that command's meaning.
-/
namespace Sys2Proof.Machine
open Sys2Proof

def exec (i : Instr) (s : State) : Host.Outcome State Fault Refusal :=
  match i with
  | .dictWrite dt door idx sub val => Sys2Proof.Machine.execDictWrite dt door idx sub val s
  | .slotHalfAccess dt fn req => Sys2Proof.Machine.execSlotHalfAccess dt fn req s
  | .violationClear dt door val => Sys2Proof.Machine.execViolationClear dt door val s
  | .vbLayoutWrite dt door sub val => Sys2Proof.Machine.execVbLayoutWrite dt door sub val s
  | .btStart dt fn ch regs toObject => Sys2Proof.Machine.execBtStart dt fn ch regs toObject s
  | .btAbort dt fn ch => Sys2Proof.Machine.execBtAbort dt fn ch s
  | .blockDone dt fn ch data => Sys2Proof.Machine.execBlockDone dt fn ch data s
  | .hello dt f => Sys2Proof.Machine.execHello dt f s
  | .auth dt f => Sys2Proof.Machine.execAuth dt f s
  | .close dt f => Sys2Proof.Machine.execClose dt f s
  | .keepalive dt f => Sys2Proof.Machine.execKeepalive dt f s
  | .moaRead dt f => Sys2Proof.Machine.execMoaRead dt f s
  | .moaWrite dt f => Sys2Proof.Machine.execMoaWrite dt f s
  | .blockBegin dt f => Sys2Proof.Machine.execBlockBegin dt f s
  | .blockData dt f => Sys2Proof.Machine.execBlockData dt f s
  | .blockEnd dt f => Sys2Proof.Machine.execBlockEnd dt f s
  | .eventAck dt f => Sys2Proof.Machine.execEventAck dt f s
  | .challengeTimeout dt sid => Sys2Proof.Machine.execChallengeTimeout dt sid s
  | .lockoutExpiry dt key => Sys2Proof.Machine.execLockoutExpiry dt key s
  | .sessionTimeout dt sid => Sys2Proof.Machine.execSessionTimeout dt sid s
  | .eventRetry dt sid seq => Sys2Proof.Machine.execEventRetry dt sid seq s
  | .evtCoalesceExpiry dt fn => Sys2Proof.Machine.execEvtCoalesceExpiry dt fn s
  | .devTargetConfig dt door => Sys2Proof.Machine.execDevTargetConfig dt door s
  | .devTargetReady dt door => Sys2Proof.Machine.execDevTargetReady dt door s
  | .devTargetDoze dt door => Sys2Proof.Machine.execDevTargetDoze dt door s
  | .dozeExitDone dt => Sys2Proof.Machine.execDozeExitDone dt s
  | .vbTargetOff dt door => Sys2Proof.Machine.execVbTargetOff dt door s
  | .vbTargetArmed dt door => Sys2Proof.Machine.execVbTargetArmed dt door s
  | .vbTargetPrinting dt door => Sys2Proof.Machine.execVbTargetPrinting dt door s
  | .vbTargetHeld dt door => Sys2Proof.Machine.execVbTargetHeld dt door s
  | .vbTargetMet dt bar => Sys2Proof.Machine.execVbTargetMet dt bar s
  | .commitReq dt door val => Sys2Proof.Machine.execCommitReq dt door val s
  | .idleCommitEffect dt bar => Sys2Proof.Machine.execIdleCommitEffect dt bar s
  | .discardOpen dt door val => Sys2Proof.Machine.execDiscardOpen dt door val s
  | .wqTail dt door val => Sys2Proof.Machine.execWqTail dt door val s
  | .eqHead dt door val => Sys2Proof.Machine.execEqHead dt door val s
  | .deqHead dt door val => Sys2Proof.Machine.execDeqHead dt door val s
  | .deqEn dt door val => Sys2Proof.Machine.execDeqEn dt door val s
  | .busMasterChange dt fn en => Sys2Proof.Machine.execBusMasterChange dt fn en s
  | .fetchGrant dt kind => Sys2Proof.Machine.execFetchGrant dt kind s
  | .waybillFetched dt bar bytes => Sys2Proof.Machine.execWaybillFetched dt bar bytes s
  | .integEntriesFetched dt bar bytes => Sys2Proof.Machine.execIntegEntriesFetched dt bar bytes s
  | .payloadStored dt bar bytes => Sys2Proof.Machine.execPayloadStored dt bar bytes s
  | .fetchAbort dt bar kind => Sys2Proof.Machine.execFetchAbort dt bar kind s
  | .inflateStart dt => Sys2Proof.Machine.execInflateStart dt s
  | .inflateRowDone dt engine => Sys2Proof.Machine.execInflateRowDone dt engine s
  | .inflateDone dt engine => Sys2Proof.Machine.execInflateDone dt engine s
  | .engineFault dt engine => Sys2Proof.Machine.execEngineFault dt engine s
  | .djTail dt door val => Sys2Proof.Machine.execDjTail dt door val s
  | .djStart dt bar desc => Sys2Proof.Machine.execDjStart dt bar desc s
  | .djResume dt bar desc => Sys2Proof.Machine.execDjResume dt bar desc s
  | .djCancel dt bar desc => Sys2Proof.Machine.execDjCancel dt bar desc s
  | .deflateBlockDone dt engine src forms => Sys2Proof.Machine.execDeflateBlockDone dt engine src forms s
  | .chainTail dt door slot val bufs => Sys2Proof.Machine.execChainTail dt door slot val bufs s
  | .auditReq dt door val => Sys2Proof.Machine.execAuditReq dt door val s
  | .screenToken dt bar port line tok => Sys2Proof.Machine.execScreenToken dt bar port line tok s
  | .dotRoute dt bar plane span line => Sys2Proof.Machine.execDotRoute dt bar plane span line s
  | .geyserFault dt g => Sys2Proof.Machine.execGeyserFault dt g s
  | .purgeDone dt door sub val => Sys2Proof.Machine.execPurgeDone dt door sub val s
  | .encInputChange dt enc a b => Sys2Proof.Machine.execEncInputChange dt enc a b s
  | .encErrorClear dt => Sys2Proof.Machine.execEncErrorClear dt s
  | .webStop dt => Sys2Proof.Machine.execWebStop dt s
  | .lineDue dt => Sys2Proof.Machine.execLineDue dt s
  | .trigEnSet dt door => Sys2Proof.Machine.execTrigEnSet dt door s
  | .trigEnClear dt door => Sys2Proof.Machine.execTrigEnClear dt door s
  | .markEdge dt mark rising => Sys2Proof.Machine.execMarkEdge dt mark rising s
  | .drayReadDone dt dray => Sys2Proof.Machine.execDrayReadDone dt dray s
  | .drayPanic dt dray => Sys2Proof.Machine.execDrayPanic dt dray s
  | .flipFixed dt bar => Sys2Proof.Machine.execFlipFixed dt bar s
  | .webSlowRelease dt => Sys2Proof.Machine.execWebSlowRelease dt s
  | .upstreamBlockLock dt port => Sys2Proof.Machine.execUpstreamBlockLock dt port s
  | .lossOfLock dt port => Sys2Proof.Machine.execLossOfLock dt port s
  | .lossOfSignal dt port => Sys2Proof.Machine.execLossOfSignal dt port s
  | .upstreamIdle dt port dnLock losSeen input echo => Sys2Proof.Machine.execUpstreamIdle dt port dnLock losSeen input echo s
  | .lineStatus dt port d1 d2 line => Sys2Proof.Machine.execLineStatus dt port d1 d2 line s
  | .statusTelemetry dt port ends data => Sys2Proof.Machine.execStatusTelemetry dt port ends data s
  | .actResult dt port ends first count checkId bits => Sys2Proof.Machine.execActResult dt port ends first count checkId bits s
  | .mgmtResponse dt port ends tag status words => Sys2Proof.Machine.execMgmtResponse dt port ends tag status words s
  | .mgmtTimeout dt port tag => Sys2Proof.Machine.execMgmtTimeout dt port tag s
  | .telemTimeout dt port => Sys2Proof.Machine.execTelemTimeout dt port s
  | .trainFom dt port row h v e => Sys2Proof.Machine.execTrainFom dt port row h v e s
  | .fomTimeout dt port => Sys2Proof.Machine.execFomTimeout dt port s
  | .relockTimeout dt port => Sys2Proof.Machine.execRelockTimeout dt port s
  | .wakeTimeout dt port => Sys2Proof.Machine.execWakeTimeout dt port s
  | .upstreamDeepEnter dt port => Sys2Proof.Machine.execUpstreamDeepEnter dt port s
  | .laneCmdRetrain dt door sub => Sys2Proof.Machine.execLaneCmdRetrain dt door sub s
  | .laneCmdDeepEnter dt door sub => Sys2Proof.Machine.execLaneCmdDeepEnter dt door sub s
  | .laneCmdDeepExit dt door sub => Sys2Proof.Machine.execLaneCmdDeepExit dt door sub s
  | .laneCmdReinstate dt door sub => Sys2Proof.Machine.execLaneCmdReinstate dt door sub s
  | .csiLongPacket dt cam vc dtype wc hdr crcOk payload => Sys2Proof.Machine.execCsiLongPacket dt cam vc dtype wc hdr crcOk payload s
  | .csiShortPacket dt cam vc dtype hdr => Sys2Proof.Machine.execCsiShortPacket dt cam vc dtype hdr s
  | .camTrigStart dt cam => Sys2Proof.Machine.execCamTrigStart dt cam s
  | .camPulseEnd dt cam light => Sys2Proof.Machine.execCamPulseEnd dt cam light s
  | .stripAbandoned dt cam => Sys2Proof.Machine.execStripAbandoned dt cam s
  | .focusGo dt door sub => Sys2Proof.Machine.execFocusGo dt door sub s
  | .focusAbort dt door sub => Sys2Proof.Machine.execFocusAbort dt door sub s
  | .focusStatTimeout dt cam => Sys2Proof.Machine.execFocusStatTimeout dt cam s
  | .regOffsetWrite dt door scale sub val => Sys2Proof.Machine.execRegOffsetWrite dt door scale sub val s
  | .stripReq dt door val => Sys2Proof.Machine.execStripReq dt door val s
  | .satClear dt door sub val => Sys2Proof.Machine.execSatClear dt door sub val s
  | .placeFreezeWrite dt door val => Sys2Proof.Machine.execPlaceFreezeWrite dt door val s
  | .dramQuotaWrite dt door val => Sys2Proof.Machine.execDramQuotaWrite dt door val s
  | .sramQuotaWrite dt door val => Sys2Proof.Machine.execSramQuotaWrite dt door val s
  | .mcCommand dt sub arrivals => Sys2Proof.Machine.execMcCommand dt sub arrivals s
  | .bankIdleClose dt sub bank => Sys2Proof.Machine.execBankIdleClose dt sub bank s
  | .refreshTick dt sub hot => Sys2Proof.Machine.execRefreshTick dt sub hot s
  | .dqsTrack dt => Sys2Proof.Machine.execDqsTrack dt s
  | .scrubTick dt sub => Sys2Proof.Machine.execScrubTick dt sub s
  | .dramEcc dt sub uncorr addr loc => Sys2Proof.Machine.execDramEcc dt sub uncorr addr loc s
  | .subchFault dt sub => Sys2Proof.Machine.execSubchFault dt sub s
  | .subchRetrainDone dt sub ok => Sys2Proof.Machine.execSubchRetrainDone dt sub ok s
  | .subchRetired dt sub => Sys2Proof.Machine.execSubchRetired dt sub s
  | .subchCmdRetrain dt door sub => Sys2Proof.Machine.execSubchCmdRetrain dt door sub s
  | .subchCmdReinstate dt door sub => Sys2Proof.Machine.execSubchCmdReinstate dt door sub s
  | .sramEcc dt quarter row uncorr loc => Sys2Proof.Machine.execSramEcc dt quarter row uncorr loc s
  | .leaseSend dt => Sys2Proof.Machine.execLeaseSend dt s
  | .leaseHwExpiry dt => Sys2Proof.Machine.execLeaseHwExpiry dt s
  | .lease dt => Sys2Proof.Machine.execLease dt s
  | .release dt => Sys2Proof.Machine.execRelease dt s
  | .partnerLeaseExpiry dt => Sys2Proof.Machine.execPartnerLeaseExpiry dt s
  | .reinsPeerChange dt level => Sys2Proof.Machine.execReinsPeerChange dt level s
  | .reinsPeerLowHeld dt => Sys2Proof.Machine.execReinsPeerLowHeld dt s
  | .startupReinsWait dt => Sys2Proof.Machine.execStartupReinsWait dt s
  | .unitBRecheck dt => Sys2Proof.Machine.execUnitBRecheck dt s
  | .reinsConflict dt => Sys2Proof.Machine.execReinsConflict dt s
  | .commitRecord dt bar page digest => Sys2Proof.Machine.execCommitRecord dt bar page digest s
  | .genCopyDone dt bar objs => Sys2Proof.Machine.execGenCopyDone dt bar objs s
  | .flipRecord dt bar page flip strip => Sys2Proof.Machine.execFlipRecord dt bar page flip strip s
  | .bandRecord dt bar band change => Sys2Proof.Machine.execBandRecord dt bar band change s
  | .ackRecord dt bar port => Sys2Proof.Machine.execAckRecord dt bar port s
  | .mirrorRecord dt item => Sys2Proof.Machine.execMirrorRecord dt item s
  | .xchkRecord dt line pos h => Sys2Proof.Machine.execXchkRecord dt line pos h s
  | .forwardRecord dt bar idx sub val => Sys2Proof.Machine.execForwardRecord dt bar idx sub val s
  | .measRecord dt bar port items => Sys2Proof.Machine.execMeasRecord dt bar port items s
  | .helloRecord dt serial fw digest pairId => Sys2Proof.Machine.execHelloRecord dt serial fw digest pairId s
  | .helloSend dt => Sys2Proof.Machine.execHelloSend dt s
  | .helloTimeout dt => Sys2Proof.Machine.execHelloTimeout dt s
  | .pairLinkDown dt => Sys2Proof.Machine.execPairLinkDown dt s
  | .pairLinkUp dt => Sys2Proof.Machine.execPairLinkUp dt s
  | .pairLaneFault dt lane => Sys2Proof.Machine.execPairLaneFault dt lane s
  | .partnerPresenceCheck dt => Sys2Proof.Machine.execPartnerPresenceCheck dt s
  | .joinSnapshot dt device bars => Sys2Proof.Machine.execJoinSnapshot dt device bars s
  | .pairCmdHandover dt door => Sys2Proof.Machine.execPairCmdHandover dt door s
  | .pairCmdResync dt door => Sys2Proof.Machine.execPairCmdResync dt door s
  | .ethFrameRx dt port f => Sys2Proof.Machine.execEthFrameRx dt port f s
  | .ethFrameEgress dt port => Sys2Proof.Machine.execEthFrameEgress dt port s
  | .macAgeExpiry dt mac => Sys2Proof.Machine.execMacAgeExpiry dt mac s
  | .ptpAnnounce dt port a => Sys2Proof.Machine.execPtpAnnounce dt port a s
  | .ptpSync dt port master t1 corr => Sys2Proof.Machine.execPtpSync dt port master t1 corr s
  | .ptpDelayResp dt port master t4 corr logInterval => Sys2Proof.Machine.execPtpDelayResp dt port master t4 corr logInterval s
  | .ptpDelayReqSend dt => Sys2Proof.Machine.execPtpDelayReqSend dt s
  | .announceTimeout dt => Sys2Proof.Machine.execAnnounceTimeout dt s
  | .rebaseTick dt => Sys2Proof.Machine.execRebaseTick dt s
  | .timeSet dt door val => Sys2Proof.Machine.execTimeSet dt door val s
  | .timeStepWrite dt door val => Sys2Proof.Machine.execTimeStepWrite dt door val s
  | .rateAdjWrite dt door val => Sys2Proof.Machine.execRateAdjWrite dt door val s
  | .timeSrcWrite dt door val => Sys2Proof.Machine.execTimeSrcWrite dt door val s
  | .ethLink dt port up speed100 => Sys2Proof.Machine.execEthLink dt port up speed100 s
  | .schWait dt core val => Sys2Proof.Machine.execSchWait dt core val s
  | .schPost dt core val => Sys2Proof.Machine.execSchPost dt core val s
  | .schYield dt core => Sys2Proof.Machine.execSchYield dt core s
  | .schFlowEnter dt core val => Sys2Proof.Machine.execSchFlowEnter dt core val s
  | .schFlowExit dt core val => Sys2Proof.Machine.execSchFlowExit dt core val s
  | .schTimer dt core val => Sys2Proof.Machine.execSchTimer dt core val s
  | .schTimerExpiry dt thread => Sys2Proof.Machine.execSchTimerExpiry dt thread s
  | .schSpawn dt core val => Sys2Proof.Machine.execSchSpawn dt core val s
  | .schExit dt core => Sys2Proof.Machine.execSchExit dt core s
  | .schWakeMode dt core val => Sys2Proof.Machine.execSchWakeMode dt core val s
  | .schKill dt core val => Sys2Proof.Machine.execSchKill dt core val s
  | .quantumExpiry dt core => Sys2Proof.Machine.execQuantumExpiry dt core s
  | .windowSpill dt core => Sys2Proof.Machine.execWindowSpill dt core s
  | .deadlock dt => Sys2Proof.Machine.execDeadlock dt s
  | .extFault dt ext cause access => Sys2Proof.Machine.execExtFault dt ext cause access s
  | .threadPost dt door val => Sys2Proof.Machine.execThreadPost dt door val s
  | .threadKill dt door val => Sys2Proof.Machine.execThreadKill dt door val s
  | .extCmdStart dt door sub => Sys2Proof.Machine.execExtCmdStart dt door sub s
  | .extCmdStop dt door sub => Sys2Proof.Machine.execExtCmdStop dt door sub s
  | .extDictCall dt ext write idx sub val => Sys2Proof.Machine.execExtDictCall dt ext write idx sub val s
  | .coreFault dt core => Sys2Proof.Machine.execCoreFault dt core s
  | .bootStart dt => Sys2Proof.Machine.execBootStart dt s
  | .bootSourceDone dt answered image => Sys2Proof.Machine.execBootSourceDone dt answered image s
  | .dlCtrlGo dt length image => Sys2Proof.Machine.execDlCtrlGo dt length image s
  | .downloadCheckDone dt => Sys2Proof.Machine.execDownloadCheckDone dt s
  | .bootSelftestDone dt r => Sys2Proof.Machine.execBootSelftestDone dt r s
  | .axMoveAbs dt door axis => Sys2Proof.Machine.execAxMoveAbs dt door axis s
  | .axMoveRel dt door axis => Sys2Proof.Machine.execAxMoveRel dt door axis s
  | .axJogPos dt door axis => Sys2Proof.Machine.execAxJogPos dt door axis s
  | .axJogNeg dt door axis => Sys2Proof.Machine.execAxJogNeg dt door axis s
  | .axStopRamp dt door axis => Sys2Proof.Machine.execAxStopRamp dt door axis s
  | .axStopHard dt door axis => Sys2Proof.Machine.execAxStopHard dt door axis s
  | .axHome dt door axis => Sys2Proof.Machine.execAxHome dt door axis s
  | .axSetPos dt door axis => Sys2Proof.Machine.execAxSetPos dt door axis s
  | .axSetFromSsi dt door axis => Sys2Proof.Machine.execAxSetFromSsi dt door axis s
  | .axArm dt door axis cmd => Sys2Proof.Machine.execAxArm dt door axis cmd s
  | .axStart dt door val => Sys2Proof.Machine.execAxStart dt door val s
  | .axProfileTick dt => Sys2Proof.Machine.execAxProfileTick dt s
  | .axLimitInput dt axis positive => Sys2Proof.Machine.execAxLimitInput dt axis positive s
  | .axHomeEdge dt axis => Sys2Proof.Machine.execAxHomeEdge dt axis s
  | .axStepObserved dt axis positive => Sys2Proof.Machine.execAxStepObserved dt axis positive s
  | .ssiPeriodTick dt port => Sys2Proof.Machine.execSsiPeriodTick dt port s
  | .ssiFrameDone dt port raw idleHigh endLow => Sys2Proof.Machine.execSsiFrameDone dt port raw idleHigh endLow s
  | .cmpPulseEnd dt k => Sys2Proof.Machine.execCmpPulseEnd dt k s
  | .cmpRestart dt door k => Sys2Proof.Machine.execCmpRestart dt door k s
  | .cmpPulse dt door k => Sys2Proof.Machine.execCmpPulse dt door k s
  | .cmpListWrite dt door k bytes => Sys2Proof.Machine.execCmpListWrite dt door k bytes s
  | .hvEnable dt door k => Sys2Proof.Machine.execHvEnable dt door k s
  | .hvDisable dt door k => Sys2Proof.Machine.execHvDisable dt door k s
  | .tripClear dt door k => Sys2Proof.Machine.execTripClear dt door k s
  | .hvDeadEnd dt k => Sys2Proof.Machine.execHvDeadEnd dt k s
  | .hvBlankEnd dt k => Sys2Proof.Machine.execHvBlankEnd dt k s
  | .tripAccepted dt k => Sys2Proof.Machine.execTripAccepted dt k s
  | .domainIdleTimeout dt d => Sys2Proof.Machine.execDomainIdleTimeout dt d s
  | .domainRunReady dt d => Sys2Proof.Machine.execDomainRunReady dt d s
  | .forceOff dt door d => Sys2Proof.Machine.execForceOff dt door d s
  | .domainAuto dt door d => Sys2Proof.Machine.execDomainAuto dt door d s
  | .railTableWrite dt door bytes => Sys2Proof.Machine.execRailTableWrite dt door bytes s
  | .railGroupGood dt => Sys2Proof.Machine.execRailGroupGood dt s
  | .railDelayExpiry dt => Sys2Proof.Machine.execRailDelayExpiry dt s
  | .railRampTimeout dt entry => Sys2Proof.Machine.execRailRampTimeout dt entry s
  | .pmbusPoll dt reads => Sys2Proof.Machine.execPmbusPoll dt reads s
  | .smbalert dt reads => Sys2Proof.Machine.execSmbalert dt reads s
  | .canarySample dt canaries => Sys2Proof.Machine.execCanarySample dt canaries s
  | .avsStep dt => Sys2Proof.Machine.execAvsStep dt s
  | .fumSample dt temps volts => Sys2Proof.Machine.execFumSample dt temps volts s
  | .regionSkew dt a b voltage => Sys2Proof.Machine.execRegionSkew dt a b voltage s
  | .throttleTick dt => Sys2Proof.Machine.execThrottleTick dt s
  | .trimRun dt door item => Sys2Proof.Machine.execTrimRun dt door item s
  | .trimSave dt door item => Sys2Proof.Machine.execTrimSave dt door item s
  | .trimRestore dt door item => Sys2Proof.Machine.execTrimRestore dt door item s
  | .trimPeriodTick dt => Sys2Proof.Machine.execTrimPeriodTick dt s
  | .trimDone dt item value residual => Sys2Proof.Machine.execTrimDone dt item value residual s
  | .shutdownClear dt door val => Sys2Proof.Machine.execShutdownClear dt door val s
  | .reinstate dt door val => Sys2Proof.Machine.execReinstate dt door val s
  | .replaceClear dt door val => Sys2Proof.Machine.execReplaceClear dt door val s
  | .zeroize dt door val => Sys2Proof.Machine.execZeroize dt door val s
  | .zeroised dt readBackZero => Sys2Proof.Machine.execZeroised dt readBackZero s
  | .selftestCmd dt door val => Sys2Proof.Machine.execSelftestCmd dt door val s
  | .ictDone dt captured => Sys2Proof.Machine.execIctDone dt captured s
  | .ictTableWrite dt door bytes cells => Sys2Proof.Machine.execIctTableWrite dt door bytes cells s
  | .tapIdcode dt => Sys2Proof.Machine.execTapIdcode dt s
  | .tapSamplePreload dt => Sys2Proof.Machine.execTapSamplePreload dt s
  | .tapExtest dt => Sys2Proof.Machine.execTapExtest dt s
  | .tapClamp dt => Sys2Proof.Machine.execTapClamp dt s
  | .tapHighz dt => Sys2Proof.Machine.execTapHighz dt s
  | .tapExtestPulse dt => Sys2Proof.Machine.execTapExtestPulse dt s
  | .tapExtestTrain dt => Sys2Proof.Machine.execTapExtestTrain dt s
  | .tapBypass dt opcode => Sys2Proof.Machine.execTapBypass dt opcode s
  | .pwrgoodRise dt => Sys2Proof.Machine.execPwrgoodRise dt s
  | .pwrgoodFall dt => Sys2Proof.Machine.execPwrgoodFall dt s
  | .resetAsserted dt => Sys2Proof.Machine.execResetAsserted dt s
  | .resetReleased dt pairId bootSrc testEn => Sys2Proof.Machine.execResetReleased dt pairId bootSrc testEn s
  | .tripInputDeasserted dt k => Sys2Proof.Machine.execTripInputDeasserted dt k s
  | .axLimitRelease dt axis positive => Sys2Proof.Machine.execAxLimitRelease dt axis positive s
  | .cmpLowTimeEnd dt k => Sys2Proof.Machine.execCmpLowTimeEnd dt k s
  | .referenceClockFailure dt sds => Sys2Proof.Machine.execReferenceClockFailure dt sds s
  | .signalDetect dt port => Sys2Proof.Machine.execSignalDetect dt port s
  | .schFlagsClear dt core val => Sys2Proof.Machine.execSchFlagsClear dt core val s

end Sys2Proof.Machine
end

