-- ==== Sys2Proof/WellFormed.lean ====
section
/-!
DEFINITION. Well-formed commands: byte strings of the sizes that the manual fixes; and the instant of a command (R391).
-/
namespace Sys2Proof

/-- Which byte strings have a size that the manual fixes, and that size: a waybill (Table 03-2) and a deflate descriptor
(Table 03-9) have 64 bytes, a STATUS telemetry frame 32 (Table 07-6). -/
def Instr.wf : Instr → Bool
  | .waybillFetched _ _ bytes => bytes.length == 64
  | .djStart _ _ desc => desc.length == 64
  | .djResume _ _ desc => desc.length == 64
  | .djCancel _ _ desc => desc.length == 64
  | .statusTelemetry _ _ _ data => data.length == 32
  | _ => true

/-- Nanoseconds of LOCAL_COUNT since the previous happening (assumption log 1). -/
def Instr.dt : Instr → Nat
  | .dictWrite dt _ _ _ _ => dt
  | .slotHalfAccess dt _ _ => dt
  | .violationClear dt _ _ => dt
  | .vbLayoutWrite dt _ _ _ => dt
  | .btStart dt _ _ _ _ => dt
  | .btAbort dt _ _ => dt
  | .blockDone dt _ _ _ => dt
  | .hello dt _ => dt
  | .auth dt _ => dt
  | .close dt _ => dt
  | .keepalive dt _ => dt
  | .moaRead dt _ => dt
  | .moaWrite dt _ => dt
  | .blockBegin dt _ => dt
  | .blockData dt _ => dt
  | .blockEnd dt _ => dt
  | .eventAck dt _ => dt
  | .challengeTimeout dt _ => dt
  | .lockoutExpiry dt _ => dt
  | .sessionTimeout dt _ => dt
  | .eventRetry dt _ _ => dt
  | .evtCoalesceExpiry dt _ => dt
  | .devTargetConfig dt _ => dt
  | .devTargetReady dt _ => dt
  | .devTargetDoze dt _ => dt
  | .dozeExitDone dt => dt
  | .vbTargetOff dt _ => dt
  | .vbTargetArmed dt _ => dt
  | .vbTargetPrinting dt _ => dt
  | .vbTargetHeld dt _ => dt
  | .vbTargetMet dt _ => dt
  | .commitReq dt _ _ => dt
  | .idleCommitEffect dt _ => dt
  | .discardOpen dt _ _ => dt
  | .wqTail dt _ _ => dt
  | .eqHead dt _ _ => dt
  | .deqHead dt _ _ => dt
  | .deqEn dt _ _ => dt
  | .busMasterChange dt _ _ => dt
  | .fetchGrant dt _ => dt
  | .waybillFetched dt _ _ => dt
  | .integEntriesFetched dt _ _ => dt
  | .payloadStored dt _ _ => dt
  | .fetchAbort dt _ _ => dt
  | .inflateStart dt => dt
  | .inflateRowDone dt _ => dt
  | .inflateDone dt _ => dt
  | .engineFault dt _ => dt
  | .djTail dt _ _ => dt
  | .djStart dt _ _ => dt
  | .djResume dt _ _ => dt
  | .djCancel dt _ _ => dt
  | .deflateBlockDone dt _ _ _ => dt
  | .chainTail dt _ _ _ _ => dt
  | .auditReq dt _ _ => dt
  | .screenToken dt _ _ _ _ => dt
  | .dotRoute dt _ _ _ _ => dt
  | .geyserFault dt _ => dt
  | .purgeDone dt _ _ _ => dt
  | .encInputChange dt _ _ _ => dt
  | .encErrorClear dt => dt
  | .webStop dt => dt
  | .lineDue dt => dt
  | .trigEnSet dt _ => dt
  | .trigEnClear dt _ => dt
  | .markEdge dt _ _ => dt
  | .drayReadDone dt _ => dt
  | .drayPanic dt _ => dt
  | .flipFixed dt _ => dt
  | .webSlowRelease dt => dt
  | .upstreamBlockLock dt _ => dt
  | .lossOfLock dt _ => dt
  | .lossOfSignal dt _ => dt
  | .upstreamIdle dt _ _ _ _ _ => dt
  | .lineStatus dt _ _ _ _ => dt
  | .statusTelemetry dt _ _ _ => dt
  | .actResult dt _ _ _ _ _ _ => dt
  | .mgmtResponse dt _ _ _ _ _ => dt
  | .mgmtTimeout dt _ _ => dt
  | .telemTimeout dt _ => dt
  | .trainFom dt _ _ _ _ _ => dt
  | .fomTimeout dt _ => dt
  | .relockTimeout dt _ => dt
  | .wakeTimeout dt _ => dt
  | .upstreamDeepEnter dt _ => dt
  | .laneCmdRetrain dt _ _ => dt
  | .laneCmdDeepEnter dt _ _ => dt
  | .laneCmdDeepExit dt _ _ => dt
  | .laneCmdReinstate dt _ _ => dt
  | .csiLongPacket dt _ _ _ _ _ _ _ => dt
  | .csiShortPacket dt _ _ _ _ => dt
  | .camTrigStart dt _ => dt
  | .camPulseEnd dt _ _ => dt
  | .stripAbandoned dt _ => dt
  | .focusGo dt _ _ => dt
  | .focusAbort dt _ _ => dt
  | .focusStatTimeout dt _ => dt
  | .regOffsetWrite dt _ _ _ _ => dt
  | .stripReq dt _ _ => dt
  | .satClear dt _ _ _ => dt
  | .placeFreezeWrite dt _ _ => dt
  | .dramQuotaWrite dt _ _ => dt
  | .sramQuotaWrite dt _ _ => dt
  | .mcCommand dt _ _ => dt
  | .bankIdleClose dt _ _ => dt
  | .refreshTick dt _ _ => dt
  | .dqsTrack dt => dt
  | .scrubTick dt _ => dt
  | .dramEcc dt _ _ _ _ => dt
  | .subchFault dt _ => dt
  | .subchRetrainDone dt _ _ => dt
  | .subchRetired dt _ => dt
  | .subchCmdRetrain dt _ _ => dt
  | .subchCmdReinstate dt _ _ => dt
  | .sramEcc dt _ _ _ _ => dt
  | .leaseSend dt => dt
  | .leaseHwExpiry dt => dt
  | .lease dt => dt
  | .release dt => dt
  | .partnerLeaseExpiry dt => dt
  | .reinsPeerChange dt _ => dt
  | .reinsPeerLowHeld dt => dt
  | .startupReinsWait dt => dt
  | .unitBRecheck dt => dt
  | .reinsConflict dt => dt
  | .commitRecord dt _ _ _ => dt
  | .genCopyDone dt _ _ => dt
  | .flipRecord dt _ _ _ _ => dt
  | .bandRecord dt _ _ _ => dt
  | .ackRecord dt _ _ => dt
  | .mirrorRecord dt _ => dt
  | .xchkRecord dt _ _ _ => dt
  | .forwardRecord dt _ _ _ _ => dt
  | .measRecord dt _ _ _ => dt
  | .helloRecord dt _ _ _ _ => dt
  | .helloSend dt => dt
  | .helloTimeout dt => dt
  | .pairLinkDown dt => dt
  | .pairLinkUp dt => dt
  | .pairLaneFault dt _ => dt
  | .partnerPresenceCheck dt => dt
  | .joinSnapshot dt _ _ => dt
  | .pairCmdHandover dt _ => dt
  | .pairCmdResync dt _ => dt
  | .ethFrameRx dt _ _ => dt
  | .ethFrameEgress dt _ => dt
  | .macAgeExpiry dt _ => dt
  | .ptpAnnounce dt _ _ => dt
  | .ptpSync dt _ _ _ _ => dt
  | .ptpDelayResp dt _ _ _ _ _ => dt
  | .ptpDelayReqSend dt => dt
  | .announceTimeout dt => dt
  | .rebaseTick dt => dt
  | .timeSet dt _ _ => dt
  | .timeStepWrite dt _ _ => dt
  | .rateAdjWrite dt _ _ => dt
  | .timeSrcWrite dt _ _ => dt
  | .ethLink dt _ _ _ => dt
  | .schWait dt _ _ => dt
  | .schPost dt _ _ => dt
  | .schYield dt _ => dt
  | .schFlowEnter dt _ _ => dt
  | .schFlowExit dt _ _ => dt
  | .schTimer dt _ _ => dt
  | .schTimerExpiry dt _ => dt
  | .schSpawn dt _ _ => dt
  | .schExit dt _ => dt
  | .schWakeMode dt _ _ => dt
  | .schKill dt _ _ => dt
  | .quantumExpiry dt _ => dt
  | .windowSpill dt _ => dt
  | .deadlock dt => dt
  | .extFault dt _ _ _ => dt
  | .threadPost dt _ _ => dt
  | .threadKill dt _ _ => dt
  | .extCmdStart dt _ _ => dt
  | .extCmdStop dt _ _ => dt
  | .extDictCall dt _ _ _ _ _ => dt
  | .coreFault dt _ => dt
  | .bootStart dt => dt
  | .bootSourceDone dt _ _ => dt
  | .dlCtrlGo dt _ _ => dt
  | .downloadCheckDone dt => dt
  | .bootSelftestDone dt _ => dt
  | .axMoveAbs dt _ _ => dt
  | .axMoveRel dt _ _ => dt
  | .axJogPos dt _ _ => dt
  | .axJogNeg dt _ _ => dt
  | .axStopRamp dt _ _ => dt
  | .axStopHard dt _ _ => dt
  | .axHome dt _ _ => dt
  | .axSetPos dt _ _ => dt
  | .axSetFromSsi dt _ _ => dt
  | .axArm dt _ _ _ => dt
  | .axStart dt _ _ => dt
  | .axProfileTick dt => dt
  | .axLimitInput dt _ _ => dt
  | .axHomeEdge dt _ => dt
  | .axStepObserved dt _ _ => dt
  | .ssiPeriodTick dt _ => dt
  | .ssiFrameDone dt _ _ _ _ => dt
  | .cmpPulseEnd dt _ => dt
  | .cmpRestart dt _ _ => dt
  | .cmpPulse dt _ _ => dt
  | .cmpListWrite dt _ _ _ => dt
  | .hvEnable dt _ _ => dt
  | .hvDisable dt _ _ => dt
  | .tripClear dt _ _ => dt
  | .hvDeadEnd dt _ => dt
  | .hvBlankEnd dt _ => dt
  | .tripAccepted dt _ => dt
  | .domainIdleTimeout dt _ => dt
  | .domainRunReady dt _ => dt
  | .forceOff dt _ _ => dt
  | .domainAuto dt _ _ => dt
  | .railTableWrite dt _ _ => dt
  | .railGroupGood dt => dt
  | .railDelayExpiry dt => dt
  | .railRampTimeout dt _ => dt
  | .pmbusPoll dt _ => dt
  | .smbalert dt _ => dt
  | .canarySample dt _ => dt
  | .avsStep dt => dt
  | .fumSample dt _ _ => dt
  | .regionSkew dt _ _ _ => dt
  | .throttleTick dt => dt
  | .trimRun dt _ _ => dt
  | .trimSave dt _ _ => dt
  | .trimRestore dt _ _ => dt
  | .trimPeriodTick dt => dt
  | .trimDone dt _ _ _ => dt
  | .shutdownClear dt _ _ => dt
  | .reinstate dt _ _ => dt
  | .replaceClear dt _ _ => dt
  | .zeroize dt _ _ => dt
  | .zeroised dt _ => dt
  | .selftestCmd dt _ _ => dt
  | .ictDone dt _ => dt
  | .ictTableWrite dt _ _ _ => dt
  | .tapIdcode dt => dt
  | .tapSamplePreload dt => dt
  | .tapExtest dt => dt
  | .tapClamp dt => dt
  | .tapHighz dt => dt
  | .tapExtestPulse dt => dt
  | .tapExtestTrain dt => dt
  | .tapBypass dt _ => dt
  | .pwrgoodRise dt => dt
  | .pwrgoodFall dt => dt
  | .resetAsserted dt => dt
  | .resetReleased dt _ _ _ => dt
  | .tripInputDeasserted dt _ => dt
  | .axLimitRelease dt _ _ => dt
  | .cmpLowTimeEnd dt _ => dt
  | .referenceClockFailure dt _ => dt
  | .signalDetect dt _ => dt
  | .schFlagsClear dt _ _ => dt

end Sys2Proof
end

