-- ==== Sys2Proof/Safety.lean ====
section
/-!
DEFINITION. The terms in which claims are stated: what a safe run is, what of State events touch, the memory's canonical form,
and what a door may write.
-/
namespace Sys2Proof
open Sys2Proof.Machine

/-- R391: where a happening stands among those of one instant; none for one that R391 does not place. -/
def Instr.rank : Instr → Option Nat
  | .encInputChange _ e _ _ => some e.val
  | .markEdge _ k _ => some (4 + k.val)
  | .tripAccepted _ k => some (12 + k.val)
  | .axLimitInput _ a _ => some (28 + a.val)
  | .axHomeEdge _ a => some (28 + a.val)
  | .ssiFrameDone _ p _ _ _ => some (36 + p.val)
  | .lineDue _ => some 40
  | .upstreamBlockLock _ p => some (41 + p.val)
  | .upstreamIdle _ p _ _ _ _ => some (41 + p.val)
  | .lineStatus _ p _ _ _ => some (41 + p.val)
  | .statusTelemetry _ p _ _ => some (41 + p.val)
  | .actResult _ p _ _ _ _ _ => some (41 + p.val)
  | .mgmtResponse _ p _ _ _ _ => some (41 + p.val)
  | .trainFom _ p _ _ _ _ => some (41 + p.val)
  | .upstreamDeepEnter _ p => some (41 + p.val)
  | .lease .. | .release .. | .commitRecord .. | .genCopyDone .. | .flipRecord .. | .bandRecord .. | .ackRecord ..
  | .mirrorRecord .. | .xchkRecord .. | .forwardRecord .. | .measRecord .. | .helloRecord .. | .joinSnapshot .. => some 105
  | .dictWrite .. | .slotHalfAccess .. | .violationClear .. | .vbLayoutWrite .. | .hello .. | .auth .. | .close ..
  | .keepalive .. | .moaRead .. | .moaWrite .. | .blockBegin .. | .blockData .. | .blockEnd .. | .devTargetConfig ..
  | .devTargetReady .. | .devTargetDoze .. | .vbTargetOff .. | .vbTargetArmed .. | .vbTargetPrinting .. | .vbTargetHeld ..
  | .commitReq .. | .discardOpen .. | .wqTail .. | .eqHead .. | .deqHead .. | .deqEn .. | .djTail .. | .chainTail ..
  | .auditReq .. | .purgeDone .. | .trigEnSet .. | .trigEnClear .. | .laneCmdRetrain .. | .laneCmdDeepEnter ..
  | .laneCmdDeepExit .. | .laneCmdReinstate .. | .focusGo .. | .focusAbort .. | .regOffsetWrite .. | .stripReq ..
  | .satClear .. | .placeFreezeWrite .. | .dramQuotaWrite .. | .sramQuotaWrite .. | .subchCmdRetrain .. | .subchCmdReinstate ..
  | .pairCmdHandover .. | .pairCmdResync .. | .timeSet .. | .timeStepWrite .. | .rateAdjWrite .. | .timeSrcWrite ..
  | .threadPost .. | .threadKill .. | .extCmdStart .. | .extCmdStop .. | .extDictCall .. | .axMoveAbs .. | .axMoveRel ..
  | .axJogPos .. | .axJogNeg .. | .axStopRamp .. | .axStopHard .. | .axHome .. | .axSetPos .. | .axSetFromSsi .. | .axArm ..
  | .axStart .. | .cmpRestart .. | .cmpPulse .. | .cmpListWrite .. | .hvEnable .. | .hvDisable .. | .tripClear ..
  | .forceOff .. | .domainAuto .. | .railTableWrite .. | .trimRun .. | .trimSave .. | .trimRestore .. | .shutdownClear ..
  | .reinstate .. | .replaceClear .. | .zeroize .. | .selftestCmd .. | .ictTableWrite .. => some 106
  | _ => none

/-- R391: commands of one instant (each but the first with `dt` 0) stand in the order of their ranks; `last` is the rank reached at the
present instant. -/
def inOrder (last : Option Nat) : List Instr → Bool
  | [] => true
  | c :: cs =>
    let last := if c.dt = 0 then last else none
    match c.rank with
    | some r => (match last with | some q => decide (q ≤ r) | none => true) && inOrder (some r) cs
    | none => inOrder last cs

/-- Every command waiting is well formed, and the commands of each instant stand in the order of R391. -/
def Safe (s : State) : Prop := (∀ c ∈ s.pending, c.wf = true) ∧ inOrder none s.pending = true

/-- A step answers a next state. -/
def Goes (s : State) : Prop := ∃ t, step s = .next t

/-- The commands that leave every byte of the page memory as it is: all but a memory controller's command (R253) and those
that take its power or its contents away, or train it afresh (R251, R337, R339, R378). -/
def Instr.keepsMemory : Instr → Bool
  | .mcCommand .. | .subchRetired .. | .bootStart .. | .dozeExitDone .. | .pwrgoodRise .. | .pwrgoodFall .. | .resetAsserted ..
  | .referenceClockFailure .. => false
  | _ => true

end Sys2Proof

namespace Sys2Proof.Machine
open Sys2Proof

/-- `s` with all that posting an event may touch taken away: outputs, plain objects, bars, functions, sessions, the device
event queue and the scheduler. -/
def State.quiet (s : State) : State :=
  { s with out := [], dev := [], bars := [], fns := [], moa := Moa.reset, deqTail := 0, deqLost := 0, sched := Sched.reset }

/-- A bar without what delivering its events changes: the tail and the losses of its event ring (R64). -/
def Bar.still (x : Bar) : Bar := { x with obj := [], intake := { x.intake with eqTail := 0, eqLost := 0 } }

/-- A function without the interrupts that it owes (R55). -/
def Fn.still (f : Fn) : Fn := { f with unsigAt := none, unsig := [] }

/-- A session without its own sequence number and the events that it has not acknowledged (R54). -/
def Session.still (x : Session) : Session := { x with txSeq := 0, unacked := [], lost := 0 }

/-- MOA without its open sessions. -/
def Moa.still (m : Moa) : Moa := { m with sessions := [] }

/-- `t` differs from `s` at most in what posting events changes (R53 to R55, R64, R65, R298): outputs are added, records are
counted in the rings, sessions and 2004, 2012, and the scheduler's threads, cores and counters 9004 and 9005 move. -/
structure EventsOnly (s t : State) : Prop where
  quiet : t.quiet = s.quiet
  out : ∃ os, t.out = s.out ++ os
  dev : ∀ k, k / 256 ≠ 0x2012 → k / 256 ≠ 0x9004 → k / 256 ≠ 0x9005 → t.dev.get? k = s.dev.get? k
  bar : ∀ b, (t.bar b).still = (s.bar b).still
  obj : ∀ b k, k / 256 ≠ 0x2004 → (t.bar b).obj.get? k = (s.bar b).obj.get? k
  fn : ∀ k, (t.fn k).still = (s.fn k).still
  moa : t.moa.still = s.moa.still
  session : ∀ n, (t.moa.sessions.get? n).map Session.still = (s.moa.sessions.get? n).map Session.still

/-- The instant of a command that comes `dt` nanoseconds later (R289, R391). -/
def State.later (s : State) (dt : Nat) : State := { s with now := s.now + dt }

/-- R244: the bytes of every subchannel are held in the canonical form. -/
def MemoryCanonical (s : State) : Prop := ∀ k, Memory.wf (s.sch k).cells = true

/-- Every byte of every subchannel reads in `t` as in `s`. -/
def SameMemory (s t : State) : Prop := ∀ k a, memRead (t.sch k).cells a = memRead (s.sch k).cells a

/-- Command `c` at state `s` answers a next state, and `p` holds of it. -/
def Answers (c : Instr) (s : State) (p : State → Prop) : Prop := ∃ t, exec c s = .next t ∧ p t

/-- R27, R30 to R36, R392, R394: the write of `v` to object `idx`.`sub` through the door is accepted. It reaches the object of
bar `bar` (none for a device-scope object) at the device subindex `dsub`, with the value `w` that the object takes. -/
def Written (s : State) (door : Door) (idx sub : Nat) (v : Slot) (bar : Option Nat) (dsub : Nat) (w : Slot) : Prop :=
  ∃ who row, whoIs s door = some who ∧ grant s door who true idx sub = .ok row bar dsub ∧ slotValue s row bar v = .ok w

/-- R50, R51: a frame of opcode `op` is the next request of the open session `x`, and nothing waits before it. -/
structure InTurn (s : State) (op : Nat) (f : MoaFrame) (x : Session) : Prop where
  served : s.devState ≠ .boot
  accepted : moaAccepts f = true
  known : s.moa.sessions.get? f.session.toNat = some x
  valid : frameValid op x f = true
  next : f.seq.toNat = (x.last + 1) % 2 ^ 32
  fresh : x.kept.find? (fun k => k.req == f.seq.toNat) = none
  alone : x.early = []
  free : blockedEnd x op = false

/-- Among the outputs is the response to `f`, under some MAC. -/
def Responds (t : State) (x : Session) (op : Nat) (f : MoaFrame) (seq status : Nat) (payload : List Byte) : Prop :=
  ∃ mac, Out.moa x.ip f.port.toNat op f.session.toNat seq status payload mac ∈ t.out

/-- Core `c` runs thread `th`, the thread table lists each thread once, and ALL_WAIT does not stand. -/
structure Runs (s : State) (c th : Nat) : Prop where
  core : (s.core c).thread = some th
  state : (s.thread th).st = .running
  listed : Map.wf s.sched.threads = true
  awake : s.sched.allWaitAt = none

/-- A thread other than `th` is RUNNING, the thread table lists each thread once, and ALL_WAIT does not stand. -/
structure Other (s : State) (th : Nat) : Prop where
  running : ∃ u, u ≠ th ∧ (s.thread u).st = .running
  listed : Map.wf s.sched.threads = true
  awake : s.sched.allWaitAt = none

/-- Thread `th` is READY or RUNNING. -/
def Live (s : State) (th : Nat) : Prop := (s.thread th).st = .ready ∨ (s.thread th).st = .running

end Sys2Proof.Machine
end

