-- ==== Sys2Proof/Certificates/Slice0/Obligations.lean ====
section
/-!
DEFINITION. The statements about the machine. `Answers c s p`: command `c` at state `s` answers a next state of which `p`
holds. `Written s door idx sub v bar dsub w`: the write is accepted, and reaches that object with that value. `EventsOnly`:
nothing differs but what posting events changes.
-/
open Sys2Proof Sys2Proof.Machine

/-- A step takes the command at the front of the queue, and is exec of it at the state whose queue is the rest. On an empty
queue the block idles: the step answers the same state. (The queue and the idling are the model's own, assumption log 14.) -/
def Obligations.StepRunsTheFrontCommand : Prop :=
  (∀ (c : Instr) (rest : List Instr) (s : State), s.pending = c :: rest → step s = exec c { s with pending := rest }) ∧
  (∀ s : State, s.pending = [] → step s = .next s)

/-- Every well-formed command answers a next state in every state, and leaves the waiting commands as they are. (A happening
whose condition does not hold changes nothing, assumption log 15.) -/
def Obligations.EveryWellFormedCommandCompletes : Prop :=
  ∀ (c : Instr) (s : State), c.wf = true → Answers c s fun t => t.pending = s.pending

/-- A waybill or deflate descriptor that has not 64 bytes and a STATUS frame that has not 32 are no such commands: exec faults
with malformed. (The fault is the model's own.) -/
def Obligations.IllFormedCommandStops : Prop :=
  ∀ (c : Instr) (s : State), c.wf = false → ∃ why, exec c s = .fault (.malformed why)

/-- LOCAL_COUNT moves by the time operand of each command and by nothing else, but that a power-on reset starts it at 0. (The
time operand is the model's own, assumption log 1.) -/
def Obligations.CommandsMoveLocalCountOnly : Prop :=
  ∀ (c : Instr) (s t : State), exec c s = .next t →
    if s.pins.pwrgood = false ∧ c = .pwrgoodRise c.dt then t.now = 0 else t.now = s.now + c.dt

/-- From every state whose waiting commands are all well formed, and stand within each instant in the order of R391, a step
answers a next state; what then waits is the rest of the queue, and it is such a queue again. -/
def Obligations.SafeQueuesRunDown : Prop :=
  ∀ s : State, Safe s → ∃ t, step s = .next t ∧ Safe t ∧ t.pending = s.pending.tail

/-- An accepted write of a read-write or configuration object without an effect of its own sets that object to the value taken
and changes nothing else; of a staged object, it sets the open copy and marks it as the host's. The same holds of a bar object
in an environment call by a running extension. -/
def Obligations.DictionaryWritesReachTheObject : Prop :=
  (∀ dt door (idx : BitVec 16) (sub : BitVec 8) v dsub w row s, Written s door idx.toNat sub.toNat v none dsub w →
    rowAt idx.toNat sub.toNat = some row → (row.acc = .rw ∨ row.acc = .cfg) →
    objectEffect door idx.toNat sub.toNat = plainEffect →
    exec (.dictWrite dt door idx sub v) s = .next ((s.later dt).setDv idx.toNat dsub w.toNat)) ∧
  (∀ dt door (idx : BitVec 16) (sub : BitVec 8) v b dsub w row s, Written s door idx.toNat sub.toNat v (some b) dsub w →
    rowAt idx.toNat sub.toNat = some row → (row.acc = .rw ∨ row.acc = .cfg) →
    objectEffect door idx.toNat sub.toNat = plainEffect →
    exec (.dictWrite dt door idx sub v) s = .next ((s.later dt).setBo b idx.toNat dsub w.toNat)) ∧
  (∀ dt door (idx : BitVec 16) (sub : BitVec 8) v b dsub w row s, Written s door idx.toNat sub.toNat v (some b) dsub w →
    rowAt idx.toNat sub.toNat = some row → row.acc = .stg → objectEffect door idx.toNat sub.toNat = plainEffect →
    exec (.dictWrite dt door idx sub v) s = .next ((s.later dt).modBar b fun x => { x with
      opn := x.opn.set (okey idx.toNat dsub) (.slot w), openHost := true })) ∧
  (∀ dt (k : Fin 64) (idx : BitVec 16) (sub : BitVec 8) v b dsub w row s, extRunning s k = true →
    Written s (.ext k) idx.toNat sub.toNat v (some b) dsub w →
    rowAt idx.toNat sub.toNat = some row → (row.acc = .rw ∨ row.acc = .cfg) →
    objectEffect (.ext k) idx.toNat sub.toNat = plainEffect →
    exec (.extDictCall dt k true idx sub v) s = .next ((s.later dt).setBo b idx.toNat dsub w.toNat))

/-- Requests to BAR0. A 4-byte write of the lower half of a 64-bit slot is held and changes no object; the write of the upper
half that follows writes both halves as one value and ends the hold. A 4-byte read of the lower half returns the low 32 bits
of the value and latches the others; the read of the upper half that follows returns the latched half and ends the latch.
Neither read changes an object. -/
def Obligations.SlotHalvesAreJoined : Prop :=
  (∀ dt (k : Fin 17) (r : PcieReq) idx sub s, r.write = true → r.bar4 = false → r.enabled = true → r.len = 4 → sub < 256 →
    r.offset.toNat = (idx * 256 + sub) * 8 → is64 idx sub = true → (s.fn k).held = none →
    Answers (.slotHalfAccess dt k r) s fun t =>
      (t.fn k).held = some (idx * 256 + sub, leNat (r.data.take 4)) ∧
      t = { s.later dt with fns := t.fns } ∧ ∀ j : Fin 17, j ≠ k → t.fn j = s.fn j) ∧
  (∀ dt (k : Fin 17) (r : PcieReq) idx sub low v dsub w row s, r.write = true → r.bar4 = false → r.enabled = true → r.len = 4 →
    sub < 256 → r.offset.toNat = (idx * 256 + sub) * 8 + 4 → is64 idx sub = true →
    (s.fn k).held = some (idx * 256 + sub, low) → v = BitVec.ofNat 64 (low + leNat (r.data.take 4) * 2 ^ 32) →
    Written s (.fn k) idx sub v none dsub w → rowAt idx sub = some row → (row.acc = .rw ∨ row.acc = .cfg) →
    objectEffect (.fn k) idx sub = plainEffect →
    Answers (.slotHalfAccess dt k r) s fun t => t.dv idx dsub = w.toNat ∧ (t.fn k).held = none ∧
      t = { s.later dt with fns := t.fns, dev := ((s.later dt).setDv idx dsub w.toNat).dev }) ∧
  (∀ dt (k : Fin 17) (r : PcieReq) idx sub row bar dsub who s, r.write = false → r.bar4 = false → r.enabled = true →
    r.len = 4 → sub < 256 → r.offset.toNat = (idx * 256 + sub) * 8 → is64 idx sub = true → isOwn idx = false →
    (s.fn k).latch = none → (∀ h, (s.fn k).held = some h → h.1 = idx * 256 + sub) →
    whoIs (s.later dt) (.fn k) = some who → grant (s.later dt) (.fn k) who false idx sub = .ok row bar dsub →
    Answers (.slotHalfAccess dt k r) s fun t => let v := slotRead (s.later dt) row bar dsub
      t.out = s.out ++ [.readDone k (leBytes 4 v)] ∧ (t.fn k).latch = some (idx * 256 + sub, v / 2 ^ 32) ∧
      t = { s.later dt with fns := t.fns, out := t.out } ∧ ∀ j : Fin 17, j ≠ k → t.fn j = s.fn j) ∧
  (∀ dt (k : Fin 17) (r : PcieReq) idx sub high s, r.write = false → r.bar4 = false → r.enabled = true →
    r.len = 4 → sub < 256 → r.offset.toNat = (idx * 256 + sub) * 8 + 4 →
    (s.fn k).latch = some (idx * 256 + sub, high) → (∀ h, (s.fn k).held = some h → h.1 = idx * 256 + sub) →
    Answers (.slotHalfAccess dt k r) s fun t => t.out = s.out ++ [.readDone k (leBytes 4 high)] ∧
      t.fn k = { s.fn k with latch := none } ∧ t = { s.later dt with fns := t.fns, out := t.out } ∧
      ∀ j : Fin 17, j ≠ k → t.fn j = s.fn j)

/-- A VB_LAYOUT value with which two bars that have columns overlap, or one runs past span 31, is refused with RANGE when it
is written and no entry changes; configuration check 0x21 fails exactly when two such bars overlap or one runs past span 31.
-/
def Obligations.LayoutThatOverlapsIsRefused : Prop :=
  (∀ dt door (sub : Fin 16) v dsub w s, Written s door 0x1206 sub v none dsub w →
    (∃ b c, b < 16 ∧ c < 16 ∧ b ≠ c ∧ (let t := s.setDv 0x1206 dsub w.toNat
      0 < t.spanCount b ∧ 0 < t.spanCount c ∧ t.firstSpan b < t.firstSpan c + t.spanCount c ∧
      t.firstSpan c < t.firstSpan b + t.spanCount b)) ∨
    (∃ b, b < 16 ∧ (let t := s.setDv 0x1206 dsub w.toNat
      0 < t.spanCount b ∧ 32 < t.firstSpan b + t.spanCount b)) →
    (doorWrite door 0x1206 sub v layoutEffect s).1 = stRange ∧
    Answers (.vbLayoutWrite dt door sub v) s fun t => ∀ j < 16, t.dv 0x1206 j = s.dv 0x1206 j) ∧
  (∀ s : State, ((0x21, fun t => checkIf (layoutBad t)) ∈ configChecks) ∧
    (layoutBad s = true ↔
      (∃ b c, b < 16 ∧ c < 16 ∧ b ≠ c ∧ 0 < s.spanCount b ∧ 0 < s.spanCount c ∧
        s.firstSpan b < s.firstSpan c + s.spanCount c ∧ s.firstSpan c < s.firstSpan b + s.spanCount b) ∨
      (∃ b, b < 16 ∧ 0 < s.spanCount b ∧ 32 < s.firstSpan b + s.spanCount b)))

/-- An accepted VB_LAYOUT value is held by its entry; a nonzero write of VIOLATION_CLEAR sets all 17 violation counters to 0
and changes no other object and no other part of the state. -/
def Obligations.LayoutAndViolationWritesComplete : Prop :=
  (∀ dt door (sub : Fin 16) v dsub w s, Written s door 0x1206 sub v none dsub w → layoutRefused s dsub w.toNat = false →
    Answers (.vbLayoutWrite dt door sub v) s fun t => t.dv 0x1206 dsub = w.toNat) ∧
  (∀ dt door v dsub w s, Written s door 0x1211 0 v none dsub w → w ≠ 0 →
    Answers (.violationClear dt door v) s fun t => (∀ k < 17, t.dv 0x1210 k = 0) ∧
      (∀ idx sub, sub < 256 → idx ≠ 0x1210 → t.dv idx sub = s.dv idx sub) ∧ t = { s.later dt with dev := t.dev })

/-- START of an idle channel with an accepted object, length and address makes it BUSY: a read has fixed its bytes, a write
waits exactly when a commit request of its bar is held. ABORT of a busy read leaves state ERROR, code ABORTED, and DONE and
CRC over the bytes moved before it. When its last byte has moved, a read has written its bytes to host memory and is DONE with
their CRC-32C; a write to a wave table has replaced the range in the open copy filled from the current value, and is DONE.
Every other channel stays as it is, and so does all that posting the event does not change. -/
def Obligations.BlockTransfersRun : Prop :=
  (∀ dt (k : Fin 17) (c : Fin 4) (r : BtRegs) row bar dsub s, s.devState ≠ .boot → ((s.fn k).chan c).state ≠ 1 →
    0 < r.length.toNat → r.length.toNat ≤ 0x04000000 → r.addr.toNat % 64 = 0 →
    blockGrant (s.later dt) (.fn k) false (bitsN r.object.toNat 31 16) (bitsN r.object.toNat 15 8) r.offset.toNat
      r.length.toNat = .ok row bar dsub →
    Answers (.btStart dt k c r false) s fun t => let x := (t.fn k).chan c
      x.state = 1 ∧ x.toObject = false ∧ x.length = r.length.toNat ∧ x.addr = r.addr.toNat ∧
      x.snap = readBytes (s.later dt) row bar dsub r.offset.toNat r.length.toNat ∧ t = { s.later dt with fns := t.fns } ∧
      (∀ j : Fin 17, j ≠ k → t.fn j = s.fn j) ∧ ∀ j : Fin 4, j ≠ c → (t.fn k).chan j = (s.fn k).chan j) ∧
  (∀ dt (k : Fin 17) (c : Fin 4) (r : BtRegs) row bar dsub s, s.devState ≠ .boot → ((s.fn k).chan c).state ≠ 1 →
    0 < r.length.toNat → r.length.toNat ≤ 0x04000000 → r.addr.toNat % 64 = 0 →
    blockGrant (s.later dt) (.fn k) true (bitsN r.object.toNat 31 16) (bitsN r.object.toNat 15 8) r.offset.toNat
      r.length.toNat = .ok row bar dsub →
    Answers (.btStart dt k c r true) s fun t => let x := (t.fn k).chan c
      x.state = 1 ∧ x.toObject = true ∧ x.length = r.length.toNat ∧ x.offset = r.offset.toNat ∧ x.key = okey row.idx dsub ∧
      x.bar = bar ∧ (x.waits = true ↔ ∃ b, bar = some b ∧ (s.bar b).heldReq.isSome) ∧ t = { s.later dt with fns := t.fns } ∧
      (∀ j : Fin 17, j ≠ k → t.fn j = s.fn j) ∧ ∀ j : Fin 4, j ≠ c → (t.fn k).chan j = (s.fn k).chan j) ∧
  (∀ dt (k : Fin 17) (c : Fin 4) s, s.devState ≠ .boot → ((s.fn k).chan c).state = 1 → ((s.fn k).chan c).toObject = false →
    Answers (.btAbort dt k c) s fun t => let x := (t.fn k).chan c
      x.state = 3 ∧ x.code = 9 ∧ x.done ≤ x.length ∧ x.crc = crc32c (((s.fn k).chan c).snap.take x.done) ∧
      (0 < x.done → Out.dmaWrite k x.addr (((s.fn k).chan c).snap.take x.done) ∈ t.out) ∧
      t.quiet = { s.later dt with freeCount := t.freeCount }.quiet ∧
      (∀ j : Fin 17, j ≠ k → (t.fn j).chans = (s.fn j).chans) ∧ ∀ j : Fin 4, j ≠ c → (t.fn k).chan j = (s.fn k).chan j) ∧
  (∀ dt (k : Fin 17) (c : Fin 4) data s, ((s.fn k).chan c).state = 1 → ((s.fn k).chan c).toObject = false →
    Answers (.blockDone dt k c data) s fun t => let x := (t.fn k).chan c
      x.state = 2 ∧ x.code = 0 ∧ x.done = ((s.fn k).chan c).length ∧ x.crc = crc32c ((s.fn k).chan c).snap ∧
      Out.dmaWrite k ((s.fn k).chan c).addr ((s.fn k).chan c).snap ∈ t.out ∧ t.quiet = (s.later dt).quiet ∧
      (∀ j : Fin 17, j ≠ k → (t.fn j).chans = (s.fn j).chans) ∧ ∀ j : Fin 4, j ≠ c → (t.fn k).chan j = (s.fn k).chan j) ∧
  (∀ dt (k : Fin 17) (c : Fin 4) data who row b sub s, let x := (s.fn k).chan c
    x.state = 1 → x.toObject = true → x.waits = false → earlierWrite s x = false → data.length = x.length →
    x.hidden = false → x.bar = some b → (s.bar b).heldReq = none → x.key = okey 0x4830 sub → sub < 64 → whoIs s (.fn k) = some who →
    rowAt 0x4830 sub = some row → x.offset + data.length ≤ 4096 →
    Answers (.blockDone dt k c data) s fun t =>
      (t.bar b).opn = (s.bar b).opn.set (okey 0x4830 sub) (.wide (overwrite (s.curW b 0x4830 sub) x.offset data)) ∧
      (t.bar b).openHost = true ∧ ((t.fn k).chan c).state = 2 ∧ ((t.fn k).chan c).code = 0 ∧
      ((t.fn k).chan c).done = x.length ∧ ((t.fn k).chan c).crc = crc32c data ∧ t.quiet = (s.later dt).quiet ∧
      (∀ j : Fin 17, j ≠ k → (t.fn j).chans = (s.fn j).chans) ∧ ∀ j : Fin 4, j ≠ c → (t.fn k).chan j = (s.fn k).chan j)

/-- A HELLO naming a key that is present and not locked out, with fewer than 32 sessions open, is answered with a CHALLENGE
and nothing else changes. An AUTH whose proof verifies opens the session with its role, target, slot and session key, and ends
the challenge; one whose proof does not verify is answered with status AUTH, and opens none. -/
def Obligations.SessionsOpenByChallenge : Prop :=
  (∀ dt f role target s, s.devState ≠ .boot → moaAccepts f = true → f.payload.length = 20 →
    role = (byteAt f.payload 0).toNat → target = (byteAt f.payload 1).toNat → (keyOf s role target).isSome = true →
    s.moa.sessions.length < 32 → lockedOut (s.later dt) role target = false →
    Answers (.hello dt f) s fun t => ∃ sid nonce,
      let c : Challenge := ⟨f.ip.toNat, f.port.toNat, role, target, f.payload.drop 4, nonce, s.now + dt⟩
      t.moa = { s.moa with challenges := s.moa.challenges.set sid c } ∧
      t.out = s.out ++ [.moa f.ip.toNat f.port.toNat 0x02 sid 0 0 nonce []] ∧
      t = { s.later dt with moa := t.moa, out := t.out, freeCount := t.freeCount }) ∧
  (∀ dt f c key slot s, s.devState ≠ .boot → moaAccepts f = true → s.moa.challenges.get? f.session.toNat = some c →
    c.ip = f.ip.toNat → keyOf s c.role c.target = some key →
    f.payload = proofH key c.nonceH c.nonceD f.session.toNat c.role c.target → freeSlot s = some slot →
    Answers (.auth dt f) s fun t => ∃ x, t.moa.sessions.get? f.session.toNat = some x ∧ x.role = c.role ∧
      x.target = c.target ∧ x.slot = slot ∧ x.key = sessionKey key c.nonceH c.nonceD f.session.toNat ∧ x.last = 0 ∧
      t.moa.challenges = s.moa.challenges.erase f.session.toNat ∧ t.quiet = (s.later dt).quiet) ∧
  (∀ dt f c key s, s.devState ≠ .boot → moaAccepts f = true → s.moa.challenges.get? f.session.toNat = some c →
    c.ip = f.ip.toNat → keyOf s c.role c.target = some key →
    f.payload ≠ proofH key c.nonceH c.nonceD f.session.toNat c.role c.target →
    Answers (.auth dt f) s fun t => t.moa.challenges = s.moa.challenges ∧
      (∀ sid, (t.moa.sessions.get? sid).isSome = (s.moa.sessions.get? sid).isSome) ∧
      Out.moa f.ip.toNat f.port.toNat 0x04 f.session.toNat 0 0x0A [] [] ∈ t.out)

/-- The next request of an open session, under its MAC: CLOSE ends the session and no other; KEEPALIVE restarts its timeout;
READ of one device-scope object answers its value and type with status OK; WRITE of one plain object sets it and answers OK;
EVENT_ACK removes the event from the store. Each is answered with the next sequence number of the device's direction. -/
def Obligations.SessionRequestsAreServed : Prop :=
  (∀ dt f x s, InTurn s 0x05 f x → Answers (.close dt f) s fun t => t.moa.sessions.get? f.session.toNat = none ∧
      Responds t x 0x05 f ((x.txSeq + 1) % 2 ^ 32) 0 [] ∧
      (∀ n, n ≠ f.session.toNat → (t.moa.sessions.get? n).isSome = (s.moa.sessions.get? n).isSome) ∧
      (x.blockBar = none → t.quiet = (s.later dt).quiet)) ∧
  (∀ dt f x s, InTurn s 0x06 f x → x.block = none → Answers (.keepalive dt f) s fun t =>
      Responds t x 0x06 f ((x.txSeq + 1) % 2 ^ 32) 0 [] ∧ ∃ y, t.moa.sessions.get? f.session.toNat = some y ∧
      y.last = f.seq.toNat ∧ y.lastAt = s.now + dt ∧ t = { s.later dt with moa := t.moa, out := t.out }) ∧
  (∀ dt f x idx sub row dsub who s, InTurn s 0x10 f x → x.block = none → f.payload = leBytes 2 idx ++ [sub, 1] →
    idx < 65536 → isOwn idx = false →
    whoIs s (.moa (BitVec.ofNat 32 f.session.toNat)) = some who →
    grant s (.moa (BitVec.ofNat 32 f.session.toNat)) who false idx sub.toNat = .ok row none dsub →
    Answers (.moaRead dt f) s fun t =>
      (∃ v, v = slotRead ((s.later dt).modSession f.session.toNat fun x => { x with lastAt := s.now + dt, early := [] }) row none dsub ∧
        Responds t x 0x10 f ((x.txSeq + 1) % 2 ^ 32) 0
          (leBytes 2 idx ++ [sub, 1, 0, BitVec.ofNat 8 row.ty.code, 0, 0] ++ leBytes 8 v)) ∧
      t = { s.later dt with moa := t.moa, out := t.out }) ∧
  (∀ dt f x idx sub row dsub v w s, InTurn s 0x11 f x → x.block = none → idx < 65536 → v < 2 ^ 64 →
    f.payload = leBytes 2 idx ++ [sub, 1] ++ leBytes 8 v →
    Written s (.moa (BitVec.ofNat 32 f.session.toNat)) idx sub.toNat (BitVec.ofNat 64 v) none dsub w →
    rowAt idx sub.toNat = some row → (row.acc = .rw ∨ row.acc = .cfg) →
    objectEffect (.moa (BitVec.ofNat 32 f.session.toNat)) idx sub.toNat = plainEffect →
    Answers (.moaWrite dt f) s fun t => t.dv idx dsub = w.toNat ∧
      Responds t x 0x11 f ((x.txSeq + 1) % 2 ^ 32) 0 (leBytes 2 idx ++ [sub, 1, 0, 0, 0, 0]) ∧
      t = { s.later dt with moa := t.moa, out := t.out, dev := t.dev }) ∧
  (∀ dt f x seq s, InTurn s 0x31 f x → x.block = none → x.lost = 0 → seq < 2 ^ 32 → f.payload = leBytes 4 seq →
    Answers (.eventAck dt f) s fun t => ∃ y, t.moa.sessions.get? f.session.toNat = some y ∧
      y.unacked = x.unacked.filter (fun e => e.seq != seq) ∧ Responds t x 0x31 f ((x.txSeq + 1) % 2 ^ 32) 0 [] ∧
      t = { s.later dt with moa := t.moa, out := t.out })

/-- BLOCK_BEGIN of an accepted write takes the lowest free buffer of 8; BLOCK_DATA within the block adds its bytes; BLOCK_END
of a block that is whole and whose CRC agrees replaces the range of a wave table in the open copy, filled from the current
value, and ends the block. Each is answered with status OK. -/
def Obligations.SessionBlocksAreCollected : Prop :=
  (∀ dt f x idx sub off len row b dsub n s, InTurn s 0x20 f x → x.block = none → idx < 65536 → 0 < len → len ≤ 4194304 →
    off < 2 ^ 32 → f.payload = leBytes 2 idx ++ [sub, 1] ++ leBytes 4 off ++ leBytes 4 len →
    blockGrant s (.moa (BitVec.ofNat 32 f.session.toNat)) true idx sub.toNat off len = .ok row (some b) dsub →
    freeBuffer s = some n →
    Answers (.blockBegin dt f) s fun t => (∃ y k, t.moa.sessions.get? f.session.toNat = some y ∧ y.block = some k ∧
      k.key = okey row.idx dsub ∧ k.bar = some b ∧ k.toObject = true ∧ k.offset = off ∧ k.length = len ∧ k.buf = n ∧
      k.chunks = [] ∧ (k.waits = true ↔ (s.bar b).heldReq.isSome)) ∧
      Responds t x 0x20 f ((x.txSeq + 1) % 2 ^ 32) 0 [] ∧ t = { s.later dt with moa := t.moa, out := t.out }) ∧
  (∀ dt f x k off bytes s, InTurn s 0x21 f x → x.block = some k → k.toObject = true → off < 2 ^ 32 →
    f.payload = leBytes 4 off ++ bytes → bytes.length ≤ 1408 → off + bytes.length ≤ k.length →
    Answers (.blockData dt f) s fun t => (∃ y, t.moa.sessions.get? f.session.toNat = some y ∧
      y.block = some { k with chunks := k.chunks ++ [(off, bytes)] }) ∧
      Responds t x 0x21 f ((x.txSeq + 1) % 2 ^ 32) 0 [] ∧ t = { s.later dt with moa := t.moa, out := t.out }) ∧
  (∀ dt f x k b sub row who s, InTurn s 0x22 f x → x.block = some k → k.toObject = true → k.hidden = false →
    blockWhole k f = true → k.bar = some b → (s.bar b).heldReq = none → k.key = okey 0x4830 sub → sub < 64 →
    whoIs s (.moa (BitVec.ofNat 32 f.session.toNat)) = some who →
    rowAt 0x4830 sub = some row → k.offset + k.length ≤ 4096 → (collected k).length = k.length →
    Answers (.blockEnd dt f) s fun t =>
      (t.bar b).opn = (s.bar b).opn.set (okey 0x4830 sub) (.wide (overwrite (s.curW b 0x4830 sub) k.offset (collected k))) ∧
      (∃ y, t.moa.sessions.get? f.session.toNat = some y ∧ y.block = none) ∧
      Responds t x 0x22 f ((x.txSeq + 1) % 2 ^ 32) 0 [] ∧ t.quiet = (s.later dt).quiet)

/-- A challenge ends after 1 s, a lockout at its time, a session after SESSION_TIMEOUT without a valid frame; an event not
acknowledged for 1 ms is sent again, at most 3 times; the interrupts held for EVT_COALESCE_NS are raised together. Nothing
else changes, but that the end of a session is posted, and lets a commit that waited for its block go on. -/
def Obligations.SessionTimersRunOut : Prop :=
  (∀ dt sid c s, s.moa.challenges.get? (BitVec.toNat sid) = some c → c.at_ + 1000000000 ≤ s.now + dt →
    exec (.challengeTimeout dt sid) s = .next ((s.later dt).modMoa fun m => { m with challenges := m.challenges.erase sid.toNat })) ∧
  (∀ dt (k : Fin 20) u s, s.moa.lockout.get? k = some u → u ≤ s.now + dt →
    exec (.lockoutExpiry dt k) s = .next ((s.later dt).modMoa fun m => { m with lockout := m.lockout.erase k })) ∧
  (∀ dt sid x s, s.moa.sessions.get? (BitVec.toNat sid) = some x → x.lastAt + s.dv 0x1112 0 * 1000000 ≤ s.now + dt →
    Answers (.sessionTimeout dt sid) s fun t => t.moa.sessions.get? sid.toNat = none ∧
      (∀ n, n ≠ sid.toNat → (t.moa.sessions.get? n).isSome = (s.moa.sessions.get? n).isSome) ∧
      (x.blockBar = none → t.quiet = (s.later dt).quiet)) ∧
  (∀ dt sid seq x e s, s.moa.sessions.get? (BitVec.toNat sid) = some x → x.unacked.find? (fun e => e.seq == seq) = some e →
    e.tries < 3 → e.sentAt + 1000000 ≤ s.now + dt →
    Answers (.eventRetry dt sid seq) s fun t => (∃ mac, t.out = s.out ++ [.moa x.ip x.port 0x30 sid.toNat e.seq 0 e.payload mac]) ∧
      t.moa.sessions.get? sid.toNat = some { x with unacked := x.unacked.map fun y =>
        if y.seq == e.seq then { y with sentAt := s.now + dt, tries := y.tries + 1 } else y } ∧
      t = { s.later dt with moa := t.moa, out := t.out }) ∧
  (∀ dt (k : Fin 17) u s, (s.fn k).unsigAt = some u → u + (s.fn k).own.getD (okey 0x1151 0) 0 ≤ s.now + dt →
    Answers (.evtCoalesceExpiry dt k) s fun t => t.out = s.out ++ (s.fn k).unsig.map (fun v => Out.msix k v) ∧
      t.fn k = { s.fn k with unsigAt := none, unsig := [] } ∧ (∀ j : Fin 17, j ≠ k → t.fn j = s.fn j) ∧
      t = { s.later dt with out := t.out, fns := t.fns })

/-- With every bar VB_OFF, the holder goes from READY to CONFIG, where BAR_POOL stands, and from READY to DOZE, where no
thread and no engine is left. From CONFIG it goes to READY when no configuration check fails; else the target is refused with
STATE, CONFIG_CHECK holds the first failure, and nothing but that and events changes. The exit from DOZE ends in READY when
the resident image stands, and in BOOT otherwise. The DRAM keeps its bytes but for that reboot. -/
def Obligations.DeviceTargetsMoveTheDevice : Prop :=
  (∀ dt door w s, Written s door 0x1203 0 1 none 0 w → w = 1 → holder s = true → s.devState = .ready → allOff s = true →
    Answers (.devTargetConfig dt door) s fun t => t.devState = .config ∧ t.dv 0x7105 0 = s.dv 0x7105 0 ∧ t.subch = s.subch) ∧
  (∀ dt door w s, Written s door 0x1203 0 2 none 0 w → w = 2 → holder s = true → s.devState = .config →
    configFailure (s.later dt) = none →
    Answers (.devTargetReady dt door) s fun t => t.devState = .ready ∧ t.dv 0x1204 0 = 0 ∧ t.subch = s.subch) ∧
  (∀ dt door w n plane s, Written s door 0x1203 0 2 none 0 w → w = 2 → holder s = true → s.devState = .config →
    configFailure (s.later dt) = some (n, plane) → n < 256 → plane < 256 →
    (doorWrite door 0x1203 0 2 devTargetEffect (s.later dt)).1 = stState ∧
    Answers (.devTargetReady dt door) s fun t => t.devState = .config ∧ t.dv 0x1204 0 = plane * 256 + n ∧
      t.quiet = (s.later dt).quiet) ∧
  (∀ dt door w s, Written s door 0x1203 0 5 none 0 w → w = 5 → holder s = true → s.devState = .ready → allOff s = true →
    Answers (.devTargetDoze dt door) s fun t => t.devState = .doze ∧ t.sched = Sched.reset ∧ t.engines = [] ∧
      t.subch = s.subch) ∧
  (∀ dt a s, s.devState = .doze → s.power.dozeExitAt = some a → s.power.railPhase = 3 → imageStands s = true →
    Answers (.dozeExitDone dt) s fun t => t.devState = .ready ∧ t.power.dozeExitAt = none ∧ t.subch = s.subch) ∧
  (∀ dt a s, s.devState = .doze → s.power.dozeExitAt = some a → s.power.railPhase = 3 → imageStands s = false →
    Answers (.dozeExitDone dt) s fun t => t.devState = .boot)

/-- A target of the holder moves its bar: OFF to ARMED with its queue enabled, which takes the device to PRINT; ARMED to
PRINTING; ARMED to HELD; HELD to OFF when its fixed pages are done and it is idle, the work queue emptied. A waiting target
moves the bar once its condition holds, and not before. -/
def Obligations.BarTargetsMoveTheBar : Prop :=
  (∀ dt door b w s, Written s door 0x1202 0 1 (some b) 0 w → w = 1 → b < 16 → holder s = true → s.devState = .ready →
    (s.bar b).vb = .off → s.bo b 0x2000 3 = 1 →
    Answers (.vbTargetArmed dt door) s fun t => (t.bar b).vb = .armed ∧ (t.bar b).waiting = none ∧ t.devState = .print) ∧
  (∀ dt door b w s, Written s door 0x1202 0 2 (some b) 0 w → w = 2 → b < 16 → holder s = true → s.devState = .print →
    (s.bar b).vb = .armed →
    Answers (.vbTargetPrinting dt door) s fun t => (t.bar b).vb = .printing ∧ (t.bar b).waiting = none ∧ t.devState = .print) ∧
  (∀ dt door b w s, Written s door 0x1202 0 3 (some b) 0 w → w = 3 → b < 16 → holder s = true → s.devState = .print →
    (s.bar b).vb = .armed →
    Answers (.vbTargetHeld dt door) s fun t => (t.bar b).vb = .held ∧ (t.bar b).waiting = none) ∧
  (∀ dt door b w s, Written s door 0x1202 0 0 (some b) 0 w → w = 0 → b < 16 → holder s = true → (s.bar b).vb = .held →
    fixedDone s b = true → idleBar s b = true →
    Answers (.vbTargetOff dt door) s fun t => (t.bar b).vb = .off ∧ (t.bar b).waiting = none ∧
      (t.bar b).intake.wqHead = (s.bar b).intake.wqTail) ∧
  (∀ dt (b : Fin 16) s, holder s = true → (s.bar b).waiting = some .held → (s.bar b).vb = .printing → fixedDone s b = true →
    Answers (.vbTargetMet dt b) s fun t => (t.bar b).vb = .held ∧ (t.bar b).waiting = none) ∧
  (∀ dt (b : Fin 16) s, (s.bar b).waiting = some .held → (s.bar b).vb = .printing → fixedDone s b = false →
    exec (.vbTargetMet dt b) s = .next (s.later dt))

/-- A commit request with no generation pending and no block write under way seals the open copies for the effective page; one
that finds nothing written completes at once, and no copy changes; one that finds a generation pending is held; one that finds
a request held is merged with it for the later page. On an idle bar a generation sealed for the next page takes effect: the
live copies take the pending ones (of a generation with nothing of the screening class, and HEAD_GAP_COLS up to date).
Discarding empties the open copies alone. -/
def Obligations.CommitSealsAndTakesEffect : Prop :=
  (∀ dt door b d v w s, Written s door 0x1220 0 v (some b) d w → holder s = true → (s.bar b).heldReq = none →
    (s.bar b).gen = none → blockBusy s b = false → (s.bar b).opn ≠ [] → (s.bar b).peerSeal = none →
    Answers (.commitReq dt door v) s fun t => (t.bar b).opn = [] ∧ (t.bar b).openHost = false ∧ (t.bar b).heldReq = none ∧
      (t.bar b).live = (s.bar b).live ∧ ∃ g, (t.bar b).gen = some g ∧ g.page = (effectivePage s b w.toNat).1) ∧
  (∀ dt door b d v w g s, Written s door 0x1220 0 v (some b) d w → holder s = true → (s.bar b).heldReq = none →
    (s.bar b).gen = some g → ((s.bar b).opn ≠ [] ∨ (s.bar b).peerSeal.isSome) →
    exec (.commitReq dt door v) s = .next ((s.later dt).modBar b fun x => { x with heldReq := some (w.toNat, false) })) ∧
  (∀ dt door b d v w s, Written s door 0x1220 0 v (some b) d w → holder s = true → (s.bar b).heldReq = none →
    blockBusy s b = false → (s.bar b).opn = [] → (s.bar b).peerSeal = none →
    Answers (.commitReq dt door v) s fun t => (t.bar b).heldReq = none ∧ (t.bar b).opn = [] ∧
      (t.bar b).gen = (s.bar b).gen ∧ (t.bar b).pend = (s.bar b).pend ∧ (t.bar b).live = (s.bar b).live ∧
      t.quiet = (s.later dt).quiet) ∧
  (∀ dt door b d v w p m s, Written s door 0x1220 0 v (some b) d w → holder s = true → (s.bar b).heldReq = some (p, m) →
    exec (.commitReq dt door v) s = .next ((s.later dt).modBar b fun x => { x with heldReq := some (pageLater p w.toNat, true) })) ∧
  (∀ dt (b : Fin 16) g s, (s.bar b).gen = some g → g.idle = true → (s.bar b).heldReq = none → g.screening = false →
    (∀ p < 64, gapCols (s.later dt) p = s.dv 0x3430 p) →
    Answers (.idleCommitEffect dt b) s fun t => (t.bar b).live = overlay (s.bar b).live (s.bar b).pend ∧
      (t.bar b).pend = [] ∧ (t.bar b).gen = none ∧ (t.bar b).opn = (s.bar b).opn ∧ t.quiet = (s.later dt).quiet) ∧
  (∀ dt door b d v w s, Written s door 0x1222 0 v (some b) d w → w ≠ 0 →
    Answers (.discardOpen dt door v) s fun t => (t.bar b).opn = [] ∧ (t.bar b).openHost = false ∧ (t.bar b).openDev = [] ∧
      (t.bar b).live = (s.bar b).live ∧ (t.bar b).pend = (s.bar b).pend ∧ (t.bar b).gen = (s.bar b).gen ∧
      t.quiet = (s.later dt).quiet)

/-- An accepted tail or head takes the value written; DEQ_EN its value, unless its base is 0; Bus Master Enable its level;
while it is set, the aborted fetches of the bars that use the function are requested again. Beyond that only the records that
can now be delivered, and the events posted, change anything. A WQ_TAIL behind the present tail or more than the ring ahead of
the head is refused with RANGE, and the tail stays. -/
def Obligations.RingPointersMove : Prop :=
  (∀ dt door b d v w s, Written s door 0x2001 0 v (some b) d w →
    tailRefused (s.bar b).intake.wqHead (s.bar b).intake.wqTail (s.bo b 0x2000 1) w.toNat = false →
    Answers (.wqTail dt door v) s fun t =>
      EventsOnly ((s.later dt).modIntake b fun q => { q with wqTail := w.toNat, tailBad := false }) t) ∧
  (∀ dt door b d v w s, Written s door 0x2001 0 v (some b) d w →
    tailRefused (s.bar b).intake.wqHead (s.bar b).intake.wqTail (s.bo b 0x2000 1) w.toNat = true →
    (doorWrite door 0x2001 0 v wqTailEffect s).1 = stRange ∧ Answers (.wqTail dt door v) s fun t =>
      (t.bar b).intake.wqTail = (s.bar b).intake.wqTail ∧ (t.bar b).intake.tailBad = true ∧ t.quiet = (s.later dt).quiet) ∧
  (∀ dt door b d v w s, Written s door 0x2003 0 v (some b) d w →
    headRefused (s.bar b).intake.eqHead (s.bar b).intake.eqTail w.toNat = false →
    Answers (.eqHead dt door v) s fun t => EventsOnly ((s.later dt).modIntake b fun q => { q with eqHead := w.toNat }) t) ∧
  (∀ dt door d v w s, Written s door 0x2011 0 v none d w → headRefused s.deqHead s.deqTail w.toNat = false →
    Answers (.deqHead dt door v) s fun t => EventsOnly { s.later dt with deqHead := w.toNat } t) ∧
  (∀ dt door v d w s, Written s door 0x2010 2 v none d w → (w = 0 ∨ s.dv 0x2010 0 ≠ 0) →
    Answers (.deqEn dt door v) s fun t => EventsOnly ((s.later dt).setDv 0x2010 2 w.toNat) t) ∧
  (∀ dt door b d v w s, Written s door 0x2301 0 v (some b) d w →
    tailRefused (s.bar b).intake.djHead (s.bar b).intake.djTail (s.bo b 0x2300 1) w.toNat = false →
    exec (.djTail dt door v) s = .next ((s.later dt).modIntake b fun q => { q with djTail := w.toNat })) ∧
  (∀ dt (k : Fin 17) en s, (en = false ∨ ∀ b : Fin 16, queueFn s b = k → ∀ e ∈ (s.bar b).intake.inflight, e.again = false) →
    Answers (.busMasterChange dt k en) s fun t => EventsOnly ((s.later dt).modFn k fun f => { f with bme := en }) t) ∧
  (∀ dt (k : Fin 17) s, Answers (.busMasterChange dt k true) s fun t => (t.fn k).bme = true ∧
    t.quiet = (s.later dt).quiet ∧ ∀ b : Fin 16,
      (queueFn s b = k →
        (t.bar b).intake.inflight = (s.bar b).intake.inflight.map (fun e => { e with again := false }) ∧
        ∀ e ∈ (s.bar b).intake.inflight, e.again = true →
          Out.dmaRead k b (flightRead s b e).1 (flightRead s b e).2.1 (flightRead s b e).2.2 ∈ t.out) ∧
      (queueFn s b ≠ k → (t.bar b).intake.inflight = (s.bar b).intake.inflight))

/-- When several bars want a fetch, the one of the greatest deficit is granted: the device reads the ring entry, the integrity
entries or the payload, and no other bar changes. A fetch aborted fewer than four times within one second is requested again,
and the abort is remembered; while Bus Master Enable is clear no request goes out, and the fetch is marked to be requested
anew. -/
def Obligations.FetchesAreGrantedAndRetried : Prop :=
  (∀ dt kind b s, b < 16 → wantsFetch s kind b = true →
    (∀ a < 16, wantsAny s a = true → a = b ∨ s.deficit.getD (64 + a) 0 < s.deficit.getD (64 + b) 0) →
    Answers (.fetchGrant dt kind) s fun t =>
      t.out = s.out ++ [.dmaRead (queueFn s b) b kind (fetchOf s b kind).1 (fetchOf s b kind).2] ∧
      (kind = .waybill → (t.bar b).intake.fetchIdx = ((s.bar b).intake.fetchIdx + 1) % 2 ^ 32 ∧
        (t.bar b).intake.inflight.length = (s.bar b).intake.inflight.length + 1) ∧
      (kind ≠ .waybill → (flying t b kind).isSome = true) ∧ ∀ a, a ≠ b → t.bar a = s.bar a) ∧
  (∀ dt (b : Fin 16) kind e s, flying s b kind = some e →
    (e.aborts.filter (fun a => decide (s.now + dt < a + Config.second))).length < 3 → dmaBlocked s b = false →
    Answers (.fetchAbort dt b kind) s fun t =>
      t.out = s.out ++ [.dmaRead (queueFn s b) b (flightRead s b e).1 (flightRead s b e).2.1 (flightRead s b e).2.2] ∧
      flying t b kind = some { e with
        aborts := e.aborts.filter (fun a => decide (s.now + dt < a + Config.second)) ++ [s.now + dt] }) ∧
  (∀ dt (b : Fin 16) kind e s, flying s b kind = some e →
    (e.aborts.filter (fun a => decide (s.now + dt < a + Config.second))).length < 3 → dmaBlocked s b = true →
    Answers (.fetchAbort dt b kind) s fun t => t.out = s.out ∧ flying t b kind = some { e with
        aborts := e.aborts.filter (fun a => decide (s.now + dt < a + Config.second)) ++ [s.now + dt], again := true })

/-- For a bar with one waybill on its way: a wrong CRC ends it with code 0x01 in LAST_FAIL and WQ_HEAD passes it; a wagon that
passes every check fills its slot of the open page, its payload still to be fetched; an accepted head without integrity
entries opens its page and the next expected number follows it; a head that finds four pages open waits, and the bar's page
hold begins. -/
def Obligations.WaybillsAreChecked : Prop :=
  (∀ dt (b : Fin 16) bytes e s, bytes.length = 64 → (s.bar b).intake.inflight = [e] → e.phase = 0 →
    (s.bar b).intake.pageHold = false → crc32c (bytes.take 60) ≠ fieldLE bytes 60 4 →
    Answers (.waybillFetched dt b bytes) s fun t => (t.bar b).intake.inflight = [] ∧
      (t.bar b).intake.wqHead = ((s.bar b).intake.wqHead + 1) % 2 ^ 32 ∧ t.bo b 0x2008 0 = 1 ∧
      t.bo b 0x2007 3 = satAdd32 (s.bo b 0x2007 3) 1) ∧
  (∀ dt (b : Fin 16) bytes e s, bytes.length = 64 → (s.bar b).intake.inflight = [e] → e.phase = 0 →
    (s.bar b).intake.pageHold = false → crc32c (bytes.take 60) = fieldLE bytes 60 4 → byteAt bytes 0 = 1 →
    wagonCode s b bytes = 0 → slotCode s b bytes = 0 →
    Answers (.waybillFetched dt b bytes) s fun t => let w := wagonOf s b bytes
      (t.page? b (fieldLE bytes 4 4)).bind (fun p => p.slots.get? (slotKey w.plane w.span w.band)) = some w ∧
      (t.bar b).intake.inflight = [{ e with
        phase := 4, bytes := bytes, granted := false, page := fieldLE bytes 4 4, slot := slotKey w.plane w.span w.band
        wagon := some w }]) ∧
  (∀ dt (b : Fin 16) bytes e s, bytes.length = 64 → (s.bar b).intake.inflight = [e] → e.phase = 0 →
    (s.bar b).intake.pageHold = false → crc32c (bytes.take 60) = fieldLE bytes 60 4 → byteAt bytes 0 = 2 →
    (openPages s b).length < 4 → headCode s b bytes = 0 → byteAt bytes 12 = 0 → (s.bar b).scan.ahead = [] →
    Answers (.waybillFetched dt b bytes) s fun t => (t.bar b).intake.inflight = [] ∧
      (t.bar b).intake.expect = some (pageSucc (fieldLE bytes 4 4)) ∧
      ∃ p, t.page? b (fieldLE bytes 4 4) = some p ∧ p.lines = fieldLE bytes 8 4 ∧ p.rects = [] ∧ p.slots = []) ∧
  (∀ dt (b : Fin 16) bytes e s, bytes.length = 64 → (s.bar b).intake.inflight = [e] → e.phase = 0 →
    (s.bar b).intake.pageHold = false → crc32c (bytes.take 60) = fieldLE bytes 60 4 → byteAt bytes 0 = 2 →
    4 ≤ (openPages s b).length →
    Answers (.waybillFetched dt b bytes) s fun t => (t.bar b).intake.pageHold = true ∧
      (t.bar b).intake.inflight = [{ e with phase := 2, bytes := bytes }] ∧ (t.bar b).pages = (s.bar b).pages)

/-- Integrity entries that are all acceptable open their page with those rectangles; otherwise the head fails with code 0x0F
and no page changes. A payload with room for it, whose slot holds no other stored wagon, ends its waybill, WQ_HEAD passes it,
and where no printed page is there to be evicted the slot holds the bytes. -/
def Obligations.PayloadsAndIntegrityEntriesArrive : Prop :=
  (∀ dt (b : Fin 16) bytes e s, (s.bar b).intake.inflight = [e] → e.phase = 3 → e.granted = true →
    bytes.length = 16 * (byteAt e.bytes 12).toNat → (s.bar b).intake.pageHold = false → (s.bar b).scan.ahead = [] →
    (chunks 16 (byteAt e.bytes 12).toNat bytes).all (rectOk s b (fieldLE e.bytes 8 4)) = true →
    Answers (.integEntriesFetched dt b bytes) s fun t => (t.bar b).intake.inflight = [] ∧
      ∃ p, t.page? b (fieldLE e.bytes 4 4) = some p ∧ p.lines = fieldLE e.bytes 8 4 ∧
        p.rects = (chunks 16 (byteAt e.bytes 12).toNat bytes).map rectOf) ∧
  (∀ dt (b : Fin 16) bytes e s, (s.bar b).intake.inflight = [e] → e.phase = 3 → e.granted = true →
    bytes.length = 16 * (byteAt e.bytes 12).toNat → (s.bar b).intake.pageHold = false →
    (chunks 16 (byteAt e.bytes 12).toNat bytes).all (rectOk s b (fieldLE e.bytes 8 4)) = false →
    Answers (.integEntriesFetched dt b bytes) s fun t => (t.bar b).intake.inflight = [] ∧ (t.bar b).pages = (s.bar b).pages ∧
      t.bo b 0x2008 0 = lastFail (fieldLE e.bytes 4 4) 0 0 0 0x0F) ∧
  (∀ dt (b : Fin 16) bytes e w s, (s.bar b).intake.inflight = [e] → e.phase = 4 → e.granted = true →
    flightWagon s b e = some w → bytes.length = w.payloadLen → w.failCode = 0 → slotTaken s b e = false →
    (s.bar b).intake.pageHold = false →
    (s.bar b).intake.calderaFull = false → dramUsed s b + wagonBytes w ≤ quotaEff s b * 2 ^ 20 →
    Answers (.payloadStored dt b bytes) s fun t => (t.bar b).intake.inflight = [] ∧
      (t.bar b).intake.wqHead = ((s.bar b).intake.wqHead + 1) % 2 ^ 32 ∧
      ((∀ p ∈ (s.bar b).pages, p.retained = false) →
        (t.page? b e.page).bind (fun p => p.slots.get? e.slot) = some { w with phase := .stored, payload := bytes }))

/-- The next waiting wagon goes to the engine that R241 picks; each row done adds one decoded row; the end of a wagon that
decodes leaves all its rows, counts it and frees the engine; a retryable fault of an engine puts its wagon back for another
engine and counts. -/
def Obligations.EnginesInflateWagons : Prop :=
  (∀ dt w e passed s, nextWagon s ((List.range 16).filter (fun b => (s.bar b).vb != .off && !(waitingOf s b).isEmpty)) = some w →
    (w.wagon.encrypted = true → w.wagon.key.isSome = true) → pickEngine s w.wagon = some (e, passed) →
    Answers (.inflateStart dt) s fun t => (t.engine e).job = some (w.bar, w.page, w.slot) ∧ (t.engine e).rowsDone = 0 ∧
      ((s.page? w.bar w.page).bind (fun p => p.slots.get? w.slot) = some w.wagon →
        (t.page? w.bar w.page).bind (fun p => p.slots.get? w.slot) =
          some { w.wagon with phase := .inflating, attempts := w.wagon.attempts + 1 })) ∧
  (∀ dt (e : Fin 32) b n key w s, engineWagon s e = some (b, n, key, w) → w.phase = .inflating →
    (s.engine e).rowsDone < (wholeRows w (decodeWagon w).1).length →
    Answers (.inflateRowDone dt e) s fun t => (t.engine e).rowsDone = (s.engine e).rowsDone + 1 ∧
      engineWagon t e = some (b, n, key, withRows w (wholeRows w (decodeWagon w).1) ((s.engine e).rowsDone + 1)) ∧
      t.out = s.out) ∧
  (∀ dt (e : Fin 32) b n key w s, engineWagon s e = some (b, n, key, w) → w.phase = .inflating → (decodeWagon w).2 = 0 →
    Answers (.inflateDone dt e) s fun t => (t.engine e).job = none ∧ t.out = s.out ∧
      t.dv 0x2101 e = (s.dv 0x2101 e + 1) % 2 ^ 64 ∧
      t.dv 0x2120 0 = (s.dv 0x2120 0 + (decodeWagon w).1.length) % 2 ^ 64 ∧
      (t.page? b n).bind (fun p => p.slots.get? key) = some { w with
        phase := .done, rows := wholeRows w (decodeWagon w).1, released := (wholeRows w (decodeWagon w).1).length }) ∧
  (∀ dt (e : Fin 32) b n key w s, bitN (s.dv 0x2100 0) e = true → engineWagon s e = some (b, n, key, w) →
    w.phase = .inflating → w.attempts < 3 →
    (((s.health.getD (chanKey 4 e) Health.reset).hist.filter (fun a => decide (s.now + dt ≤ a + Config.second))).length < 3) →
    Answers (.engineFault dt e) s fun t => (t.engine e).job = none ∧ t.dv 0x2102 e = satAdd32 (s.dv 0x2102 e) 1 ∧
      (t.page? b n).bind (fun p => p.slots.get? key) = some { w with phase := .stored, tried := w.tried ++ [e.val] })

/-- A START descriptor that passes opens its job; one with a wrong CRC is written back with CRC_BAD in its place in the ring.
RESUME gives a stopped job its new buffer and starts a fresh run, CANCEL ends the job. A verified block of a STOP job is
written where its output stands and its source is consumed. CHAIN_TAIL makes the buffer available, and AUDIT_REQ sets the
capture up. -/
def Obligations.DeflateJobsRun : Prop :=
  (∀ dt (b : Fin 16) desc s, desc.length = 64 → (s.bar b).intake.djHead ≠ (s.bar b).intake.djTail → descCrc desc = true →
    byteAt desc 0 = 1 → startStatus s b desc = 0 →
    Answers (.djStart dt b desc) s fun t => (t.bar b).intake.djHead = ((s.bar b).intake.djHead + 1) % 2 ^ 32 ∧
      t.out = s.out ∧ ∃ j, jobOf t b (fieldLE desc 4 4) = some j ∧ j.phase = 0 ∧ j.consumed = 0 ∧ j.produced = 0 ∧
        j.outAddr = fieldLE desc 24 8 ∧ j.outLen = fieldLE desc 32 8 ∧ j.cookie = fieldLE desc 48 8) ∧
  (∀ dt (b : Fin 16) desc s, desc.length = 64 → (s.bar b).intake.djHead ≠ (s.bar b).intake.djTail → descCrc desc = false →
    Answers (.djStart dt b desc) s fun t => (t.bar b).intake.djHead = ((s.bar b).intake.djHead + 1) % 2 ^ 32 ∧
      ∃ bytes os, t.out = s.out ++ Out.dmaWrite (queueFn s b)
        (s.bo b 0x2300 0 + 64 * ((s.bar b).intake.djHead % s.bo b 0x2300 1)) bytes :: os ∧ bytes[1]? = some 3) ∧
  (∀ dt (b : Fin 16) desc j s, desc.length = 64 → (s.bar b).intake.djHead ≠ (s.bar b).intake.djTail → descCrc desc = true →
    byteAt desc 0 = 2 → jobOf s b (fieldLE desc 4 4) = some j → j.phase = 1 → outOk true desc = true →
    Answers (.djResume dt b desc) s fun t => t.out = s.out ∧
      jobOf t b (fieldLE desc 4 4) = some { j with
        outAddr := fieldLE desc 24 8, outLen := fieldLE desc 32 8, cookie := fieldLE desc 48 8
        descIdx := (s.bar b).intake.djHead, op := 2, phase := 0, produced := 0, inCrc := 0xFFFFFFFF, window := [] }) ∧
  (∀ dt (b : Fin 16) desc j s, desc.length = 64 → (s.bar b).intake.djHead ≠ (s.bar b).intake.djTail → descCrc desc = true →
    byteAt desc 0 = 3 → jobOf s b (fieldLE desc 4 4) = some j → (s.bar b).intake.pageHold = false →
    (s.bar b).intake.calderaFull = false →
    Answers (.djCancel dt b desc) s fun t => jobOf t b (fieldLE desc 4 4) = none ∧
      (t.bar b).intake.djHead = ((s.bar b).intake.djHead + 1) % 2 ^ 32) ∧
  (∀ dt (e : Fin 6) src enc stored b id j s, s.deflaters.get? e = some (b, id) → jobOf s b id = some j → j.source = 0 →
    j.stop = true → src ≠ [] → src.length ≤ 65536 → j.consumed + src.length < j.srcLen →
    blockGood j src enc false = true → j.produced + enc.length + 5 ≤ j.outLen →
    Answers (.deflateBlockDone dt e src ⟨enc, stored⟩) s fun t =>
      t.out = s.out ++ [.dmaWrite (queueFn s b) (j.outAddr + j.produced) enc] ∧
      jobOf t b id = some { j with
        consumed := j.consumed + src.length, produced := j.produced + enc.length, inCrc := crc32cReg j.inCrc src
        window := (j.window ++ src).drop ((j.window ++ src).length - 32768) }) ∧
  (∀ dt door (k : Fin 4) v a len b d w s, Written s door 0x2302 k v (some b) d w →
    (∀ j ∈ (s.bar b).intake.jobs, j.stop = true ∨ j.chain ≠ d) →
    Answers (.chainTail dt door k v [(a, len)]) s fun t => (t.bar b).intake.chainTail.get? d = some w.toNat ∧
      (t.bar b).intake.chainBufs.get? (d * 2 ^ 32 + (s.bar b).intake.chainTail.getD d 0 % 2 ^ 32) =
        some (a.toNat, len.toNat)) ∧
  (∀ dt door v b d w n pl size s, Written s door 0x2303 0 v (some b) d w → n = bitsN w.toNat 63 32 → pl = bitsN w.toNat 2 0 →
    screeningBegun s b n = false → s.inUse pl = true →
    size = (match s.page? b n with | some p => auditSize s b pl p.lines | none => 0) → size ≤ 2 ^ 32 →
    Answers (.auditReq dt door v) s fun t => (t.bar b).intake.audit =
      some { plane := pl, page := n, size := size, ready := false, data := [] })

/-- A token of a page not yet printed, whose geyser has its power and no line before it (R401, R261), is put into the store of
its page with the levels that the tables give, and is counted; a line of a DOTS span with none before it is screened at once.
A geyser's first three faults within one second are retried, the next retires it while fewer than four geysers are retired. A
purge report marks the nozzles of the head that are out of service and not locked as purged, in the open copy. -/
def Obligations.ScreeningDecidesDots : Prop :=
  (∀ dt (b : Fin 16) (p : Fin 64) y (k : Fin 512) pg c g s, headEn s p = true → k.val < headSize s p / 16 →
    tokenPage (s.later dt) b p y k (tokenCols s b p k) = some pg → (tokenCols s b p k).head? = some c →
    s.inUse (headPlane s p) = true → isContone (s.format b (headPlane s p)) = true → pg.printed = false →
    s.page? b pg.num = some pg →
    let u := handover b pg (headPlane s p) (c / 2048) (s.later dt)
    tokenGeyser u b pg.num (headPlane s p) (c / 2048) p k = some g → u.domainOn (g / 4) = true →
    geyserTurn u g b (lineOrder u b pg (headPlane s p) (c / 2048) y) = true →
    Answers (.screenToken dt b p y k) s fun t => t.dv 0x3012 g = (s.dv 0x3012 g + 1) % 2 ^ 64 ∧
      ∃ q, t.page? b pg.num = some q ∧ q.tokens.get? (tokenKey p y k) =
        (let v := pageTables u b (headPlane s p) pg
         some (tokenLevels v (v.line y) p k))) ∧
  (∀ dt (b : Fin 16) (pl : Fin 8) (sp : Fin 32) y pg s, sp.val < s.spanCount b → linePage (s.later dt) b pl sp y = some pg →
    s.inUse pl = true → isContone (s.format b pl) = false → s.page? b pg.num = some pg →
    routerTurn (s.later dt) (lineOrder (s.later dt) b pg pl sp y) = true →
    Answers (.dotRoute dt b pl sp y) s fun t => ∃ q, t.page? b pg.num = some q ∧
      q.screened.has (lineKey pl sp y) = true) ∧
  (∀ dt (g : Fin 32) h s, geyserOn s g = true →
    h = (s.health.getD (chanKey 3 g) Health.reset).hist.filter (fun a => decide (s.now + dt ≤ a + Config.second)) →
    h.length < 3 →
    Answers (.geyserFault dt g) s fun t => geyserOn t g = true ∧
      (t.health.getD (chanKey 3 g) Health.reset).hist = h ++ [s.now + dt]) ∧
  (∀ dt (g : Fin 32) s, geyserOn s g = true → 3 ≤ ((s.health.getD (chanKey 3 g) Health.reset).hist.filter
      (fun a => decide (s.now + dt ≤ a + Config.second))).length → retiredCount s 3 < 4 →
    Answers (.geyserFault dt g) s fun t => geyserOn t g = false ∧ isRetired t 3 g = true) ∧
  (∀ dt door (sub : Fin 64) v b d w s, Written s door 0x3440 sub v (some b) d w → w = 1 → holder s = true →
    Answers (.purgeDone dt door sub v) s fun t => ∀ k ∈ ownNozzles s b d, 2 * k + 2 ≤ (s.curW b 0x3400 d).length →
      entryAt (t.curW b 0x3400 d) k = purgeEntry (entryAt (s.curW b 0x3400 d) k))

/-- An input level changes no sooner than its filter time after its last change. A change of one encoder level counts one step
forward along 00, 10, 11, 01, or back, as DECODE and INVERT say; a change of both, or of one within the filter time of the
other, counts an error and leaves ENC_COUNT. ENC_ERROR ends after 1 ms; the web stops when no count has exceeded H for
STOP_TIME. TRIG_EN is set only in READY, PRINT or SAFE and cleared only while no bar prints. An accepted mark edge sets
MARK_POS, a rejected one is counted. -/
def Obligations.EncoderAndWebMove : Prop :=
  (∀ dt (e : Fin 4) a b s, ¬(a ≠ (s.enc e).a ∧ b ≠ (s.enc e).b) →
    withinFilter (filterTime (s.dv 0x4001 e)) (s.now + dt) (s.enc e).aAt = false →
    withinFilter (filterTime (s.dv 0x4001 e)) (s.now + dt) (s.enc e).bAt = false → bitsN (s.dv 0x4001 e) 9 8 = 0 → bitN (s.dv 0x4001 e) 10 = false →
    Answers (.encInputChange dt e a b) s fun t => (t.enc e).a = a ∧ (t.enc e).b = b ∧ (t.enc e).count = (s.enc e).count +
      (if a ≠ (s.enc e).a then (if (s.enc e).a = (s.enc e).b then 1 else -1)
       else if b ≠ (s.enc e).b then (if (s.enc e).a = (s.enc e).b then -1 else 1) else 0)) ∧
  (∀ dt (e : Fin 4) a b d s, ¬(a ≠ (s.enc e).a ∧ b ≠ (s.enc e).b) →
    withinFilter (filterTime (s.dv 0x4001 e)) (s.now + dt) (s.enc e).aAt = false →
    withinFilter (filterTime (s.dv 0x4001 e)) (s.now + dt) (s.enc e).bAt = false →
    d = decodeStep (bitsN (s.dv 0x4001 e) 9 8) (s.enc e).a (s.enc e).b a b →
    Answers (.encInputChange dt e a b) s fun t => (t.enc e).a = a ∧ (t.enc e).b = b ∧
      (t.enc e).count = (s.enc e).count + (if bitN (s.dv 0x4001 e) 10 then -d else d)) ∧
  (∀ dt (e : Fin 4) a b s, a ≠ (s.enc e).a → b = (s.enc e).b →
    withinFilter (filterTime (s.dv 0x4001 e)) (s.now + dt) (s.enc e).aAt = true →
    Answers (.encInputChange dt e a b) s fun t => t.enc e = s.enc e ∧ t.trig = s.trig) ∧
  (∀ dt (e : Fin 4) a b s, a ≠ (s.enc e).a → b = (s.enc e).b →
    withinFilter (filterTime (s.dv 0x4001 e)) (s.now + dt) (s.enc e).aAt = false →
    withinFilter (filterTime (s.dv 0x4001 e)) (s.now + dt) (s.enc e).bAt = true →
    Answers (.encInputChange dt e a b) s fun t => (t.enc e).a = a ∧ (t.enc e).count = (s.enc e).count ∧
      t.dv 0x4005 e = satAdd32 (s.dv 0x4005 e) 1 ∧ t.trig.encErrAt = some (s.now + dt)) ∧
  (∀ dt (e : Fin 4) a b s, a ≠ (s.enc e).a → b ≠ (s.enc e).b →
    withinFilter (filterTime (s.dv 0x4001 e)) (s.now + dt) (s.enc e).aAt = false →
    withinFilter (filterTime (s.dv 0x4001 e)) (s.now + dt) (s.enc e).bAt = false →
    Answers (.encInputChange dt e a b) s fun t => (t.enc e).a = a ∧ (t.enc e).b = b ∧ (t.enc e).count = (s.enc e).count ∧
      t.dv 0x4005 e = satAdd32 (s.dv 0x4005 e) 1 ∧ t.trig.encErrAt = some (s.now + dt)) ∧
  (∀ dt a s, s.trig.encErrAt = some a → exec (.encErrorClear dt) s =
    .next (if a + Config.milli ≤ s.now + dt then (s.later dt).modTrig fun x => { x with encErrAt := none } else s.later dt)) ∧
  (∀ dt s, s.trig.en = true → s.trig.moving = true →
    (∀ q, s.trig.times.head? = some q → q.2 + s.dv 0x4013 0 * Config.micro ≤ s.now + dt) →
    Answers (.webStop dt) s fun t => t.trig = Trig.stand (s.now + dt) { s.trig with moving := false, stopped := true, fresh := 0 }) ∧
  (∀ dt door d w s, Written s door 0x4003 1 1 none d w → w ≠ 0 →
    (s.devState = .ready ∨ s.devState = .print ∨ s.devState = .safe) → s.trig.en = false →
    Answers (.trigEnSet dt door) s fun t => t.trig.en = true ∧ t.trig.line = s.trig.line ∧
      t.trig.h = (s.enc (trigEnc s)).count) ∧
  (∀ dt door d w s, Written s door 0x4003 1 1 none d w → w ≠ 0 → s.devState = .config →
    (doorWrite door 0x4003 1 1 trigEnEffect s).1 = stState ∧
    Answers (.trigEnSet dt door) s fun t => t.trig = s.trig ∧ t.quiet = (s.later dt).quiet) ∧
  (∀ dt door d s, Written s door 0x4003 1 0 none d 0 → s.trig.en = true → printingBars s = [] →
    Answers (.trigEnClear dt door) s fun t =>
      t.trig = Trig.stand (s.now + dt) { s.trig with en := false, moving := false, stopped := false, reversed := false }) ∧
  (∀ dt door d s, Written s door 0x4003 1 0 none d 0 → printingBars s ≠ [] →
    (doorWrite door 0x4003 1 0 trigEnEffect s).1 = stState ∧ Answers (.trigEnClear dt door) s fun t => t.trig = s.trig) ∧
  (∀ dt (k : Fin 8) up s, bitN (s.dv 0x4040 k) 9 = true → up = !bitN (s.dv 0x4040 k) 8 → s.trig.en = true →
    withinFilter (filterTime (s.dv 0x4040 k)) (s.now + dt) (s.mark k).edgeAt = false →
    let m := lineScale s (webPosition (s.later dt))
    let u := (s.later dt).modMark k fun x => { x with edgeAt := some (s.now + dt) }
    if markRejected s k m then exec (.markEdge dt k up) s = .next (u.bump 0x4043 k)
    else Answers (.markEdge dt k up) s fun t => (t.mark k).last = some m ∧ t.dv 0x4042 k = m % 2 ^ 64) ∧
  (∀ dt (k : Fin 8) up s, withinFilter (filterTime (s.dv 0x4040 k)) (s.now + dt) (s.mark k).edgeAt = true →
    exec (.markEdge dt k up) s = .next (s.later dt))

/-- The next line takes the next number when it falls due (while no BLOCK_END waits for a seal, R43), and its period is the
time since the one before. A ready page of a bar without mark registration has its flip line fixed at the later of the present
line plus the lead and the end of the effective minimum gap. A completed read leaves the dray and ends its panic, and the
refreshes that panic held are repaid; one a quarter of a line period old raises panic and is counted; WEB_SLOW is released
once no late page waits and its minimum has passed. -/
def Obligations.LinesFallDueAndFlipsAreFixed : Prop :=
  (∀ dt d s, s.trig.en = true → numbers s = true → dueOf (s.later dt) = some d → d.at_ ≤ s.now + dt →
    waitingEnds s = [] →
    Answers (.lineDue dt) s fun t => t.trig.line = s.trig.line + 1 ∧ t.trig.lastDue = some d.at_ ∧
      t.trig.period = periodTo s d.at_) ∧
  (∀ dt s, (s.trig.en = false ∨ dueOf (s.later dt) = none) → exec (.lineDue dt) s = .next (s.later dt)) ∧
  (∀ dt (b : Fin 16) p s, holder s = true → readyPage s b = some p → markReg s b = false →
    Answers (.flipFixed dt b) s fun t => ∃ q, t.page? b p.num = some q ∧
      q.flip = some (let u := decideStrip b (s.later dt)
        max (s.trig.line + s.dv 0x5002 0) (gapE u b + effectiveMin u b))) ∧
  (∀ dt (b : Fin 16) s, (s.bar b).vb ≠ .printing → exec (.flipFixed dt b) s = .next (s.later dt)) ∧
  (∀ dt (d : Fin 8) s, (s.dray d).panic = false → exec (.drayReadDone dt d) s =
    .next ((s.later dt).modDray d fun x => { x with reading := x.reading.drop 1, panic := false })) ∧
  (∀ dt (d : Fin 8) s, (s.dray d).panic = true → Answers (.drayReadDone dt d) s fun t =>
    (t.dray d).reading = (s.dray d).reading.drop 1 ∧ (t.dray d).panic = false ∧ (∀ k : Fin 8,
      if mcPanic t k then t.sch k = s.sch k else (t.sch k).owed = 0 ∧ (t.sch k).cells = (s.sch k).cells)) ∧
  (∀ dt (d : Fin 8) q rest s, (s.dray d).reading = q :: rest → (s.dray d).panic = false → q.2 + s.trig.period / 4 ≤ s.now + dt →
    Answers (.drayPanic dt d) s fun t => (t.dray d).panic = true ∧ (t.dray d).reading = (s.dray d).reading ∧
      t.dv 0x7230 d = satAdd32 (s.dv 0x7230 d) 1) ∧
  (∀ dt a b s, s.webSlow = some (a, b) → lateBars s = [] → a + s.dv 0x5003 0 * Config.milli ≤ s.now + dt →
    Answers (.webSlowRelease dt) s fun t => EventsOnly { s.later dt with webSlow := none } t) ∧
  (∀ dt a b s, s.webSlow = some (a, b) → (lateBars s ≠ [] ∨ s.now + dt < a + s.dv 0x5003 0 * Config.milli) →
    exec (.webSlowRelease dt) s = .next (s.later dt))

/-- A locked upstream takes a lane from DETECT to TRAIN at row 0, from WAKE to RUN when both directions are locked, and from
RELOCK to RUN when both have held lock for 64 blocks. Loss of lock, loss of signal and a missing STATUS in RUN are lane
faults: counted, the lane goes to RELOCK, or is retired by the fourth fault within one second. RELOCK and WAKE that last too
long go to TRAIN. -/
def Obligations.LanesLockAndFail : Prop :=
  (∀ dt (p : Fin 64) s, (s.port p).st = .detect → Answers (.upstreamBlockLock dt p) s fun t => (t.port p).st = .train ∧
    (t.port p).upLock = true ∧ (t.port p).row = 0 ∧ ∃ os, t.out = s.out ++ os ++ [.train p 1 0]) ∧
  (∀ dt (p : Fin 64) s, (s.port p).st = .wake → (s.port p).dnLock = true →
    Answers (.upstreamBlockLock dt p) s fun t => (t.port p).st = .run ∧ (t.port p).upLock = true) ∧
  (∀ dt (p : Fin 64) s, (s.port p).st = .relock → (s.port p).dnLock = true → (s.port p).lockAt = none →
    exec (.upstreamBlockLock dt p) s = .next ((s.later dt).modPort p fun x =>
      { x with upLock := true, upLos := false, present := true, lockAt := some (s.now + dt) })) ∧
  (∀ dt (p : Fin 64) a s, (s.port p).st = .relock → (s.port p).dnLock = true → (s.port p).lockAt = some a →
    100 * a + 64 * blockTime100 s ≤ 100 * (s.now + dt) →
    Answers (.upstreamBlockLock dt p) s fun t => (t.port p).st = .run ∧ (t.port p).upLock = true) ∧
  (∀ dt (p : Fin 64) s, ((s.port p).st = .off ∨ (s.port p).st = .retired) →
    exec (.upstreamBlockLock dt p) s = .next (s.later dt) ∧ exec (.signalDetect dt p) s = .next (s.later dt)) ∧
  (∀ dt (p : Fin 64) s, (s.port p).upLock = true → (s.port p).st = .run →
    Answers (.lossOfLock dt p) s fun t => (t.port p).upLock = false ∧ t.dv 0x4804 p = satAdd32 (s.dv 0x4804 p) 1 ∧
      (t.port p).st = if ((s.health.getD (chanKey 0 p) Health.reset).hist.filter (fun a => decide (s.now + dt ≤ a + Config.second))).length < 3 then .relock else .retired) ∧
  (∀ dt (p : Fin 64) s, (s.port p).upLos = false → (s.port p).st = .run →
    Answers (.lossOfSignal dt p) s fun t => (t.port p).upLos = true ∧ t.dv 0x4804 p = satAdd32 (s.dv 0x4804 p) 1 ∧
      (t.port p).st = if ((s.health.getD (chanKey 0 p) Health.reset).hist.filter (fun a => decide (s.now + dt ≤ a + Config.second))).length < 3 then .relock else .retired) ∧
  (∀ dt (p : Fin 64) s, (s.port p).st ≠ .off → (s.port p).st ≠ .retired →
    exec (.signalDetect dt p) s = .next ((s.later dt).modPort p fun x => { x with upLos := false, present := true })) ∧
  (∀ dt (p : Fin 64) los inp echo s, (s.port p).upLock = true → ((s.port p).st = .wake ∨ ((s.port p).st = .relock ∧
      ∃ a, (s.port p).lockAt = some a ∧ 100 * a + 64 * blockTime100 s ≤ 100 * (s.now + dt))) →
    Answers (.upstreamIdle dt p true los inp echo) s fun t => (t.port p).st = .run ∧ (t.port p).dnLock = true ∧
      (t.port p).input = inp ∧ (t.port p).echo = echo.toNat) ∧
  (∀ dt (p : Fin 64) a s, (s.port p).st = .run → (s.port p).telemAt = some a →
    a + 4 * s.dv 0x4911 0 * Config.micro ≤ s.now + dt → ((s.health.getD (chanKey 0 p) Health.reset).hist.filter (fun a => decide (s.now + dt ≤ a + Config.second))).length < 3 →
    Answers (.telemTimeout dt p) s fun t => (t.port p).st = .relock ∧ t.dv 0x4804 p = satAdd32 (s.dv 0x4804 p) 1) ∧
  (∀ dt (p : Fin 64) s, (s.port p).st = .relock → (s.port p).since + 40 * Config.micro ≤ s.now + dt → ((s.health.getD (chanKey 0 p) Health.reset).hist.filter (fun a => decide (s.now + dt ≤ a + Config.second))).length < 3 →
    Answers (.relockTimeout dt p) s fun t => (t.port p).st = .train ∧ (t.port p).row = 0) ∧
  (∀ dt (p : Fin 64) s, (s.port p).st = .wake → (s.port p).since + 2 * Config.milli ≤ s.now + dt → ((s.health.getD (chanKey 0 p) Health.reset).hist.filter (fun a => decide (s.now + dt ≤ a + Config.second))).length < 3 →
    Answers (.wakeTimeout dt p) s fun t => (t.port p).st = .train ∧ (t.port p).row = 0)

/-- The FOM of a row is kept when it is the best so far and the next row is tried, its settings first and its blocks 1 µs
later; after the last row a best FOM that reaches the threshold is recorded and the lane goes to IDENT. A FOM that does not
come counts as 0. RETRAIN goes to TRAIN, DEEP_ENTER from RUN to DEEP while no bar of the head is armed or prints, DEEP_EXIT to
WAKE, and REINSTATE takes a retired lane to DETECT. -/
def Obligations.LanesTrainAndObeyCommands : Prop :=
  (∀ dt (p : Fin 64) (row : Fin 16) h v e fom s, (s.port p).st = .train → (s.port p).row = row.val → row.val + 1 < eqRows s p →
    (s.port p).rowAt ≤ s.now + dt → fom = (if e = 0#16 then h.toNat * v.toNat else 0) →
    Answers (.trainFom dt p row h v e) s fun t => (t.port p).row = row.val + 1 ∧
      t.out = s.out ++ [.txSettings p ((eqRow s p (row.val + 1)).take 5), .train p 1 (row.val + 1)] ∧
      (t.port p).rowAt = s.now + dt + Config.micro ∧
      (t.port p).best = some (match (s.port p).best with
        | some (f, r) => if f < fom then (fom, row.val) else (f, r)
        | none => (fom, row.val))) ∧
  (∀ dt (p : Fin 64) (row : Fin 16) h v e fom best s, (s.port p).st = .train → (s.port p).row = row.val →
    (s.port p).rowAt ≤ s.now + dt → eqRows s p ≤ row.val + 1 → fom = (if e = 0#16 then h.toNat * v.toNat else 0) →
    best = (match (s.port p).best with
      | some (f, r) => if f < fom then (fom, row.val) else (f, r)
      | none => (fom, row.val)) → fieldLE (eqTable s) 2 2 ≤ best.1 →
    Answers (.trainFom dt p row h v e) s fun t => (t.port p).st = .ident ∧
      t.dv 0x4811 p = (best.1 * 65536 + best.2) % 2 ^ 64) ∧
  (∀ dt (p : Fin 64) s, (s.port p).st = .train → (s.port p).rowAt + 4096 * blockTime100 s / 100 + 5 * Config.micro ≤ s.now + dt →
    (s.port p).row + 1 < eqRows s p →
    Answers (.fomTimeout dt p) s fun t => (t.port p).row = (s.port p).row + 1 ∧
      t.out = s.out ++ [.txSettings p ((eqRow s p ((s.port p).row + 1)).take 5), .train p 1 ((s.port p).row + 1)]) ∧
  (∀ dt (p : Fin 64) s, (s.port p).st = .deep →
    exec (.upstreamDeepEnter dt p) s = .next ((s.later dt).modPort p fun x => { x with deepHead := true })) ∧
  (∀ dt door (p : Fin 64) s, Written s door 0x4802 p 1 none p 1 →
    ((s.port p).st = .run ∨ (s.port p).st = .train ∨ (s.port p).st = .ident ∨ (s.port p).st = .relock ∨
      (s.port p).st = .wake ∨ (s.port p).st = .mismatch) →
    Answers (.laneCmdRetrain dt door p) s fun t => (t.port p).st = .train ∧ (t.port p).row = 0) ∧
  (∀ dt door (p : Fin 64) s, Written s door 0x4802 p 2 none p 2 → (s.port p).st = .run →
    (∀ b ∈ servedBars s p, (s.bar b).vb ≠ .armed ∧ (s.bar b).vb ≠ .printing) →
    Answers (.laneCmdDeepEnter dt door p) s fun t => (t.port p).st = .deep ∧ ∃ os, t.out = s.out ++ os ++ [.deepEnter p]) ∧
  (∀ dt door (p : Fin 64) b s, Written s door 0x4802 p 2 none p 2 → b ∈ servedBars s p → (s.bar b).vb = .printing →
    (doorWrite door 0x4802 p 2 laneCommand s).1 = stState ∧
    Answers (.laneCmdDeepEnter dt door p) s fun t => t.ports = s.ports) ∧
  (∀ dt door (p : Fin 64) s, Written s door 0x4802 p 3 none p 3 → (s.port p).st = .deep →
    Answers (.laneCmdDeepExit dt door p) s fun t => (t.port p).st = .wake ∧ (t.port p).deepHead = false) ∧
  (∀ dt door (p : Fin 64) s, Written s door 0x4802 p 4 none p 4 → (s.port p).st = .retired →
    Answers (.laneCmdReinstate dt door p) s fun t => (t.port p).st = .detect ∧ isRetired t 0 p = false)

/-- A valid STATUS frame is copied into the objects of Table 07-12; one with a wrong CRC is counted and remembered, and one
otherwise not valid is discarded. LINE_STATUS ends the lines up to its own and records each that was lost or incomplete.
ACT_RESULT sets the count of its nozzles. An OK response ends its request; the IDENT read takes the lane to RUN, or to
MISMATCH with its cause; one that shows the head without lock on this input is a lane fault. A request without a response is
repeated up to three times, and is then a lane fault; a unit without the reins repeats no WRITE and no ACTIVATE. -/
def Obligations.HeadFramesAreTaken : Prop :=
  (∀ dt (p : Fin 64) e bytes f u s, f = framed e bytes → bytes.length = 32 → (s.port p).upLock = true →
    qhlCrc f = true → qhlValid f = true → isTelemetry f 1 = true → u = b2n s.pins.pairId →
    Answers (.statusTelemetry dt p e bytes) s fun t => t.dvi 0x4900 p = toSigned 16 (fieldLE bytes 0 2) ∧
      t.dv 0x4901 p = fieldLE bytes 6 2 * 65536 + (byteAt bytes 2).toNat ∧
      t.dv 0x4902 p = fieldLE bytes (8 + 4 * u) 4 ∧ t.dv 0x4903 p = fieldLE bytes (8 + 4 * (1 - u)) 4 ∧
      t.dv 0x4904 p = fieldLE bytes 24 4) ∧
  (∀ dt (p : Fin 64) e bytes f s, f = framed e bytes → bytes.length = 32 → (s.port p).upLock = true → qhlCrc f = true →
    qhlValid f = false → exec (.statusTelemetry dt p e bytes) s = .next (s.later dt)) ∧
  (∀ dt (p : Fin 64) e bytes f s, f = framed e bytes → bytes.length = 32 → (s.port p).upLock = true → qhlCrc f = false →
    (crcWindow (s.now + dt) (s.port p).crcTimes 1).length < 16 →
    exec (.statusTelemetry dt p e bytes) s = .next (((s.later dt).bump 0x4805 p).modPort p fun x =>
      { x with crcTimes := crcWindow (s.now + dt) x.crcTimes 1 })) ∧
  (∀ dt (p : Fin 64) d1 d2 (line : BitVec 40) s, (s.port p).upLock = true → s.trig.line < 2 ^ 40 →
    Answers (.lineStatus dt p d1 d2 line) s fun t =>
      (t.port p).struck = (s.port p).struck.filter (fun m => decide (line.toNat < m)) ∧
      t.missNext = s.missNext + ((s.port p).struck.filter (fun m => decide (m < line.toNat))).length +
        (if bitsN d1.toNat 1 0 = 0 ∨ bitsN d1.toNat 3 2 = 0 then 1 else 0)) ∧
  (∀ dt (p : Fin 64) e first count id bits f s, f = framed e (actData first count id bits) → (s.port p).upLock = true → qhlCrc f = true → qhlValid f = true →
    isTelemetry f 2 = true → holder s = false →
    Answers (.actResult dt p e first count id bits) s fun t => EventsOnly ((s.later dt).setDv 0x4906 p (actFailed f.data).length) t) ∧
  (∀ dt (p : Fin 64) e first count id bits f s, f = framed e (actData first count id bits) → (s.port p).upLock = true → qhlCrc f = true → qhlValid f = true →
    isTelemetry f 2 = true → holder s = true →
    Answers (.actResult dt p e first count id bits) s fun t => t.dv 0x4906 p = (actFailed f.data).length % 2 ^ 64) ∧
  (∀ dt (p : Fin 64) e tag status ws f r s, f = mgmtAnswer e tag status ws → (s.port p).upLock = true → qhlCrc f = true → qhlValid f = true →
    inFlight s p (byteAt f.start 2).toNat = some r → byteAt f.start 0 = 0x78 → (byteAt f.start 1).toNat = r.op + 0x80 →
    byteAt f.start 3 = 0 → (r.op = 1 ∨ r.op = 3) →
    Answers (.mgmtResponse dt p e tag status ws) s fun t => ∀ q ∈ (t.port p).reqs, q.tag ≠ r.tag) ∧
  (∀ dt (p : Fin 64) e tag status ws f r s, f = mgmtAnswer e tag status ws → (s.port p).upLock = true → qhlCrc f = true → qhlValid f = true →
    inFlight s p (byteAt f.start 2).toNat = some r → byteAt f.start 0 = 0x78 → (byteAt f.start 1).toNat = r.op + 0x80 →
    byteAt f.start 3 = 0 → r.op = 2 → (s.port p).st = .ident →
    bitN ((dataWords f.data).getD 2 0).toNat (16 + b2n s.pins.pairId) = false → ((s.health.getD (chanKey 0 p) Health.reset).hist.filter (fun a => decide (s.now + dt ≤ a + Config.second))).length < 3 →
    Answers (.mgmtResponse dt p e tag status ws) s fun t => (t.port p).st = .detect ∧ t.dv 0x4804 p = satAdd32 (s.dv 0x4804 p) 1) ∧
  (∀ dt (p : Fin 64) e tag status ws f words r s, f = mgmtAnswer e tag status ws → (s.port p).upLock = true → qhlCrc f = true → qhlValid f = true →
    inFlight s p (byteAt f.start 2).toNat = some r → byteAt f.start 0 = 0x78 → (byteAt f.start 1).toNat = r.op + 0x80 →
    byteAt f.start 3 = 0 → r.op = 2 → (s.port p).st = .ident → words = dataWords f.data →
    bitN (words.getD 2 0).toNat (16 + b2n s.pins.pairId) = true →
    Answers (.mgmtResponse dt p e tag status ws) s fun t =>
      t.dv 0x4820 p = (words.getD 0 0).toNat ∧ t.dv 0x4821 p = (words.getD 1 0).toNat ∧
      (t.port p).st = (if identCause s p words = 0 then .run else .mismatch) ∧
      (identCause s p words ≠ 0 → (t.port p).mismatch = identCause s p words)) ∧
  (∀ dt (p : Fin 64) tag r s, inFlight s p tag.toNat = some r → r.sentAt + 20 * Config.micro ≤ s.now + dt →
    (s.port p).st.manages = true → mayRequest s r = true → r.tries ≤ 3 →
    Answers (.mgmtTimeout dt p tag) s fun t => t.out = s.out ++ [.mgmt p (mgmtFrame s r)] ∧
      (t.port p).st = (s.port p).st) ∧
  (∀ dt (p : Fin 64) tag r s, inFlight s p tag.toNat = some r → r.sentAt + 20 * Config.micro ≤ s.now + dt →
    (s.port p).st = .run → mayRequest s r = true → 3 < r.tries → ((s.health.getD (chanKey 0 p) Health.reset).hist.filter (fun a => decide (s.now + dt ≤ a + Config.second))).length < 3 →
    Answers (.mgmtTimeout dt p tag) s fun t => (t.port p).st = .relock ∧ t.dv 0x4804 p = satAdd32 (s.dv 0x4804 p) 1) ∧
  (∀ dt (p : Fin 64) tag r s, inFlight s p tag.toNat = some r → mayRequest s r = false →
    exec (.mgmtTimeout dt p tag) s = .next (s.later dt))

/-- A whole image line in free run takes the next index and is counted; one with a wrong CRC takes the index and counts as an
error; a frame start begins at index 0. A due camera pulse starts or extends both outputs, its instant and web position are
remembered, and both outputs end in their time. A port that is off abandons the strips that it measured. The writes of
REG_OFFSET, REG_SCALE, STRIP_REQ and SAT_CLEAR set what they name and nothing else. -/
def Obligations.CamerasReceiveAndPulse : Prop :=
  (∀ dt (c : Fin 4) (vc : Fin 16) (ty : BitVec 6) wc hdr bytes s, camOn s c = true → hdr ≠ .many → vc.val = camVc s c →
    ty.toNat = (if camRaw12 s c then 0x2C else 0x2B) → camTriggered s c = false → wc = lineWords s c →
    bytes.length = wc → (s.cam c).lastIn = none → backPressure s = false →
    Answers (.csiLongPacket dt c vc ty wc hdr true bytes) s fun t => t.dv 0x6010 c = (s.dv 0x6010 c + 1) % 2 ^ 64 ∧
      (t.cam c).index = (s.cam c).index + 1 ∧ (t.cam c).lastIn = some (s.now + dt) ∧ (t.cam c).lineAt = some (s.now + dt)) ∧
  (∀ dt (c : Fin 4) (vc : Fin 16) (ty : BitVec 6) wc hdr bytes s, camOn s c = true → hdr ≠ .many → vc.val = camVc s c →
    ty.toNat = (if camRaw12 s c then 0x2C else 0x2B) → camTriggered s c = false →
    Answers (.csiLongPacket dt c vc ty wc hdr false bytes) s fun t => t.dv 0x6013 c = satAdd32 (s.dv 0x6013 c) 1 ∧
      (t.cam c).index = (s.cam c).index + 1) ∧
  (∀ dt (c : Fin 4) (vc : Fin 16) (ty : BitVec 6) hdr s, camOn s c = true → hdr ≠ .many → vc.val = camVc s c → ty = 0 →
    camTriggered s c = false →
    Answers (.csiShortPacket dt c vc ty hdr) s fun t => (t.cam c).index = 0 ∧ (t.cam c).window = [] ∧ (t.cam c).nextOut = 0) ∧
  (∀ dt (c : Fin 4) (vc : Fin 16) ty s, camOn s c = true →
    Answers (.csiShortPacket dt c vc ty .many) s fun t => t.dv 0x6013 c = satAdd32 (s.dv 0x6013 c) 1) ∧
  (∀ dt (c : Fin 4) a rest s, (s.cam c).dueTrig = a :: rest → a ≤ s.now + dt → s.trig.en = true → camOn s c = true →
    camTriggered s c = true → 0 < s.dv 0x6006 c → 0 < s.dv 0x6007 c →
    Answers (.camTrigStart dt c) s fun t => (t.cam c).dueTrig = rest ∧
      (t.cam c).pulses = (s.cam c).pulses ++ [{ start := s.now + dt, inst := instantOf (s.later dt) c (s.now + dt) }] ∧
      (t.cam c).trigUntil = pulseEnd (s.now + dt) (s.dv 0x6006 c) (s.cam c).trigUntil ∧
      (t.cam c).lightUntil = pulseEnd (s.now + dt) (s.dv 0x6007 c) (s.cam c).lightUntil ∧
      t.out = s.out ++ [.camPulse c false (s.dv 0x6006 c), .camPulse c true (s.dv 0x6007 c)]) ∧
  (∀ dt (c : Fin 4) a s, (s.cam c).trigUntil = some a → a ≤ s.now + dt →
    exec (.camPulseEnd dt c false) s = .next ((s.later dt).modCam c fun x => { x with trigUntil := none })) ∧
  (∀ dt (c : Fin 4) a s, (s.cam c).lightUntil = some a → a ≤ s.now + dt →
    exec (.camPulseEnd dt c true) s = .next ((s.later dt).modCam c fun x => { x with lightUntil := none })) ∧
  (∀ dt (c : Fin 4) b x s, camOn s c = false → b ∈ s.barsWithCols → x ∈ (s.bar b).scan.strips → x.abandoned = false →
    x.measured = false → c.val ∉ x.ended → c.val ∈ x.ports → x.first ≤ s.trig.line →
    Answers (.stripAbandoned dt c) s fun t =>
      ∃ y ∈ (t.bar b).scan.strips, y.first = x.first ∧ c.val ∈ y.ended ∧ c.val ∈ y.gone) ∧
  (∀ dt door (scale : Bool) (k : Fin 4) v c w s, Written s door (if scale then 0x6106 else 0x6105) k v none c w →
    exec (.regOffsetWrite dt door scale k v) s = .next ((((s.later dt).setDv (if scale then 0x6106 else 0x6105) c w.toNat).setDv
      0x6108 c 0).modCam c fun x => { x with regLost := false, regGen := x.regGen + 1 })) ∧
  (∀ dt door v b d w p rs s, Written s door 0x6201 0 v (some b) d w → bitN w.toNat 7 = true → p = bitsN w.toNat 3 1 →
    rs = bitsN w.toNat 0 0 → s.inUse p = true → rs < s.rowSets p →
    exec (.stripReq dt door v) s = .next ((s.later dt).modScan b fun x => { x with stripPending := some (p, rs, false) })) ∧
  (∀ dt door (k : Fin 4) v c s, Written s door 0x6104 k v none c 1 →
    exec (.satClear dt door k v) s = .next ((s.later dt).modCam c fun x => { x with satMap := [] }))

/-- A search that the holder starts on an enabled focus axis moves the axis to its first point; a unit that does not hold the
reins refuses it with STATE and counts it. An abort, or a second without a statistic, ends the search. -/
def Obligations.FocusSearchesStartAndEnd : Prop :=
  (∀ dt door (k : Fin 4) c w q p s, Written s door 0x6136 k 1 none c w → w ≠ 0 → holder s = true → bitN (s.dv 0x6133 c) 7 = true →
    (s.cam c).search = none →
    q = { start := (s.axis (focusAxis s c)).steps, i := 0, phase := 0, scores := [], final := 0, edge := false,
          movedAt := s.now + dt, n := s.dv 0x6135 c, step := toSigned 32 (s.dv 0x6134 c), axis := focusAxis s c } →
    p = focusPoint q 0 →
    focusMayMove s (focusAxis s c) p = true →
    Answers (.focusGo dt door k) s fun t => (t.cam c).search = some q ∧ (t.axis (focusAxis s c)).mode = .move ∧
      (t.axis (focusAxis s c)).target = p * stepUnit) ∧
  (∀ dt door (k : Fin 4) c w s, Written s door 0x6136 k 1 none c w → w ≠ 0 → holder s = false →
    (doorWrite door 0x6136 k 1 focusGoEffect s).1 = stState ∧
    Answers (.focusGo dt door k) s fun t => t.axes = s.axes ∧ t.cams = s.cams ∧ t.dv 0x8014 1 = satAdd32 (s.dv 0x8014 1) 1) ∧
  (∀ dt door (k : Fin 4) c q s, Written s door 0x6136 k 0 none c 0 → (s.cam c).search = some q →
    Answers (.focusAbort dt door k) s fun t => (t.cam c).search = none) ∧
  (∀ dt (c : Fin 4) q s, (s.cam c).search = some q → q.phase = 1 → q.movedAt + Config.second ≤ s.now + dt →
    Answers (.focusStatTimeout dt c) s fun t => EventsOnly ((s.later dt).modCam c fun x => { x with search := none }) t)

/-- A nonzero PLACE_FREEZE freezes the placement and changes nothing else; 0 runs the placer: every span has its new geysers
at once, or, held by geysers in service, waits for them until its next page boundary. A quota is taken in CONFIG, when it does
not grow, or while the sum fits its pool; otherwise it is refused with RANGE and no bar changes. -/
def Obligations.QuotasAndPlacementAreWritten : Prop :=
  (∀ dt door v d w s, Written s door 0x7004 0 v none d w → w ≠ 0 →
    exec (.placeFreezeWrite dt door v) s = .next ((s.later dt).setDv 0x7004 0 w.toNat)) ∧
  (∀ dt door v d s, Written s door 0x7004 0 v none d 0 →
    Answers (.placeFreezeWrite dt door v) s fun t => t.dv 0x7004 0 = 0 ∧ ∀ k < 256,
      let new := (placeAll ((s.later dt).setDv 0x7004 0 0) false).get? k
      t.place.spans.get? k = new ∨ (t.place.waitSpans.get? k = new ∧ t.place.spans.get? k = s.place.spans.get? k ∧
        ∃ rs, s.place.spans.get? k = some rs ∧ ∀ r ∈ rs, geyserOn s r.1 = true)) ∧
  (∀ dt door v b d w s, Written s door 0x7100 0 v (some b) d w →
    (s.devState = .config ∨ w.toNat ≤ s.bo b 0x7100 0 ∨ quotaSum (s.setBo b 0x7100 0 w.toNat) ≤ s.dv 0x7105 0) →
    Answers (.dramQuotaWrite dt door v) s fun t => t.bo b 0x7100 0 = w.toNat) ∧
  (∀ dt door v b d w s, Written s door 0x7100 0 v (some b) d w → s.devState ≠ .config → s.bo b 0x7100 0 < w.toNat →
    s.dv 0x7105 0 < quotaSum (s.setBo b 0x7100 0 w.toNat) →
    (doorWrite door 0x7100 0 v dramQuotaEffect s).1 = stRange ∧
    Answers (.dramQuotaWrite dt door v) s fun t => t.bars = s.bars ∧ t.quiet = (s.later dt).quiet) ∧
  (∀ dt door v b d w s, Written s door 0x7101 0 v (some b) d w →
    (s.devState = .config ∨ w.toNat ≤ s.bo b 0x7101 0 ∨ sramQuotaSum (s.setBo b 0x7101 0 w.toNat) ≤ tablePool s) →
    Answers (.sramQuotaWrite dt door v) s fun t => t.bo b 0x7101 0 = w.toNat ∧ t.quiet = (s.later dt).quiet) ∧
  (∀ dt door v b d w s, Written s door 0x7101 0 v (some b) d w → s.devState ≠ .config → s.bo b 0x7101 0 < w.toNat →
    tablePool s < sramQuotaSum (s.setBo b 0x7101 0 w.toNat) →
    (doorWrite door 0x7101 0 v sramQuotaEffect s).1 = stRange ∧ Answers (.sramQuotaWrite dt door v) s fun t => t.bars = s.bars)

/-- A queued read answers the bytes of its subchannel; a queued write puts its bytes there; a read that one queued write
covers is answered from it. No byte changes but those that queued, held or arriving writes store to, and no other subchannel.
An idle bank is closed after its time; after an interval one more refresh is owed, and the one owed before is issued unless
panic holds it, up to the maximum; drift corrections every 100 ms and the patrol scrub take their place. -/
def Obligations.ControllersServeRequests : Prop :=
  (∀ dt (k : Fin 8) e s, ((s.sch k).state = 2 ∨ (s.sch k).state = 3) → (s.sch k).retraining = false → (s.sch k).owed = 0 →
    (s.sch k).held = [] → 0 < s.dv 0x7206 0 → (s.sch k).writeQ = [] → (s.sch k).readQ = [e] → mcIsRead e.req = true →
    Answers (.mcCommand dt k []) s fun t => t.out = s.out ++ [.mcData k e.req.addr (memBytes (s.sch k).cells e.req.addr e.req.len)] ∧
      (t.sch k).readQ = [] ∧ (t.sch k).cells = (s.sch k).cells) ∧
  (∀ dt (k : Fin 8) e s, ((s.sch k).state = 2 ∨ (s.sch k).state = 3) → (s.sch k).retraining = false → (s.sch k).owed = 0 →
    (s.sch k).held = [] → 0 < s.dv 0x7206 0 → (s.sch k).readQ = [] → (s.sch k).writeQ = [e] →
    Answers (.mcCommand dt k []) s fun t => t.out = s.out ∧ (t.sch k).writeQ = [] ∧
      (t.sch k).cells = e.segs.foldl (fun m g => memWrites m g.1 g.2) (s.sch k).cells) ∧
  (∀ dt (k : Fin 8) r e bytes s, ((s.sch k).state = 2 ∨ (s.sch k).state = 3) → mcIsRead r = true → (s.sch k).writeQ = [e] →
    coveredBy e r.addr r.len = some bytes → mcMine s k r = true → (s.sch k).held = [] →
    Answers (.mcCommand dt k [r]) s fun t => ∃ os, t.out = s.out ++ .mcData k r.addr bytes :: os) ∧
  (∀ dt (k : Fin 8) rs a s t, exec (.mcCommand dt k rs) s = .next t →
    (∀ e ∈ (s.sch k).writeQ, ∀ g ∈ e.segs, a < g.1 ∨ g.1 + g.2.length ≤ a) →
    (∀ r ∈ rs ++ (s.sch k).held, a < r.addr ∨ r.addr + r.data.length ≤ a) →
    memRead (t.sch k).cells a = memRead (s.sch k).cells a ∧ ∀ j, j ≠ k.val → t.sch j = s.sch j) ∧
  (∀ dt (k : Fin 8) bank row a s, (s.sch k).banks.get? bank = some (row, a) → exec (.bankIdleClose dt k bank) s =
    .next (if a + s.dv 0x7204 0 ≤ s.now + dt then (s.later dt).modSch k fun x => { x with banks := x.banks.erase bank }
      else s.later dt)) ∧
  (∀ dt (k : Fin 8) hot s, ((s.sch k).state = 2 ∨ (s.sch k).state = 3) →
    (s.sch k).refreshAt + refreshInterval hot ≤ s.now + dt →
    Answers (.refreshTick dt k hot) s fun t => (t.sch k).hot = hot ∧ (t.sch k).cells = (s.sch k).cells ∧
      (t.sch k).refreshAt = s.now + dt ∧
      (t.sch k).owed = if (if mcPanic s k then s.dv 0x7206 0 else 1) < (s.sch k).owed + 1 then (s.sch k).owed
        else (s.sch k).owed + 1) ∧
  (∀ dt (k : Fin 8) hot s, s.now + dt < (s.sch k).refreshAt + refreshInterval hot →
    exec (.refreshTick dt k hot) s = .next (s.later dt)) ∧
  (∀ dt s, Answers (.dqsTrack dt) s fun t => ∀ k < 8,
    if (s.sch k).state = 2 ∧ (s.sch k).trackAt + 100 * Config.milli ≤ s.now + dt then
      t.sch k = { s.sch k with drift := true, trackAt := s.now + dt }
    else t.sch k = s.sch k) ∧
  (∀ dt (k : Fin 8) s, s.dv 0x7207 0 ≠ 0 → (s.sch k).state = 2 → exec (.scrubTick dt k) s =
    .next ((s.later dt).modSch k fun x => { x with scrub := (x.scrub + 64) % (x.mib * 2 ^ 20) }))

/-- A subchannel in service that fails is counted and trained again; the fourth fault within one second retires it, unless it
is needed. Training that passes puts it into service, one returning from retirement as well, and one that fails to return
stays retired. Once copied it is retired with empty queues. SUBCH_CMD trains or returns a subchannel in CONFIG, and is refused
with STATE elsewhere. -/
def Obligations.SubchannelsFailAndReturn : Prop :=
  (∀ dt (k : Fin 8) s, (s.sch k).state = 2 → ((s.health.getD (chanKey 2 k) Health.reset).hist.filter (fun a => decide (s.now + dt ≤ a + Config.second))).length < 3 →
    Answers (.subchFault dt k) s fun t => (t.sch k).state = 2 ∧ (t.sch k).retraining = true ∧
      t.dv 0x7240 k = satAdd32 (s.dv 0x7240 k) 1) ∧
  (∀ dt (k : Fin 8) s, (s.sch k).state = 2 → 3 ≤ ((s.health.getD (chanKey 2 k) Health.reset).hist.filter (fun a => decide (s.now + dt ≤ a + Config.second))).length → schNeeded s k = false →
    Answers (.subchFault dt k) s fun t => (t.sch k).state = 3 ∧ isRetired t 2 k = true ∧
      t.stripeGen = (s.stripeGen + 1) % 256) ∧
  (∀ dt (k : Fin 8) s, (s.sch k).state = 2 → 3 ≤ ((s.health.getD (chanKey 2 k) Health.reset).hist.filter (fun a => decide (s.now + dt ≤ a + Config.second))).length → schNeeded s k = true →
    Answers (.subchFault dt k) s fun t => (t.sch k).state = 2 ∧ (t.sch k).retraining = true ∧
      isRetired t 2 k = isRetired s 2 k) ∧
  (∀ dt (k : Fin 8) s, (s.sch k).retraining = true → (s.sch k).returning = false →
    Answers (.subchRetrainDone dt k true) s fun t => (t.sch k).state = 2 ∧ (t.sch k).retraining = false) ∧
  (∀ dt (k : Fin 8) s, (s.sch k).retraining = true → (s.sch k).returning = true →
    (Answers (.subchRetrainDone dt k true) s fun t => (t.sch k).state = 2 ∧ (t.sch k).retraining = false ∧
      isRetired t 2 k = false) ∧
    Answers (.subchRetrainDone dt k false) s fun t => (t.sch k).state = 4 ∧ (t.sch k).retraining = false) ∧
  (∀ dt (k : Fin 8) s, (s.sch k).state = 3 →
    Answers (.subchRetired dt k) s fun t => (t.sch k).state = 4 ∧ (t.sch k).readQ = [] ∧ (t.sch k).writeQ = [] ∧ (t.sch k).held = []) ∧
  (∀ dt door (k : Fin 8) s, Written s door 0x7203 k 1 none k 1 → s.devState = .config → (s.sch k).state = 2 →
    exec (.subchCmdRetrain dt door k) s = .next ((s.later dt).modSch k fun x => { x with state := 1, retraining := true })) ∧
  (∀ dt door (k : Fin 8) s, Written s door 0x7203 k 2 none k 2 → s.devState = .config → (s.sch k).state = 4 →
    exec (.subchCmdReinstate dt door k) s =
      .next ((s.later dt).modSch k fun x => { x with state := 1, retraining := true, returning := true })) ∧
  (∀ dt door (k : Fin 8) s, Written s door 0x7203 k 1 none k 1 → s.devState ≠ .config →
    (doorWrite door 0x7203 k 1 subchCommand s).1 = stState ∧
    Answers (.subchCmdRetrain dt door k) s fun t => t.subch = s.subch)

/-- A corrected DRAM error is counted, an uncorrectable one as well and its place recorded; neither changes a byte of DRAM.
One in the delay store, or in the SRAM line staging, loses that line of the head. A corrected SRAM error is counted and its
row remembers it, up to three within one second. -/
def Obligations.MemoryErrorsAreCounted : Prop :=
  (∀ dt (k : Fin 8) addr loc s, ((s.sch k).state = 2 ∨ (s.sch k).state = 3) →
    Answers (.dramEcc dt k false addr loc) s fun t => t.dv 0x7220 k = satAdd32 (s.dv 0x7220 k) 1 ∧ SameMemory s t) ∧
  (∀ dt (k : Fin 8) addr (p : Fin 64) line s, ((s.sch k).state = 2 ∨ (s.sch k).state = 3) →
    Answers (.dramEcc dt k true addr (.dramDelay p line)) s fun t => t.dv 0x7221 k = satAdd32 (s.dv 0x7221 k) 1 ∧
      t.dv 0x7222 0 = k.val * 2 ^ 61 + 2 ^ 60 + 2 * 2 ^ 56 + addr.toNat ∧ SameMemory s t ∧
      (t.port p).lostLines = (s.port p).lostLines ++ [line]) ∧
  (∀ dt (k : Fin 8) addr loc s, ((s.sch k).state = 2 ∨ (s.sch k).state = 3) →
    Answers (.dramEcc dt k true addr loc) s fun t => t.dv 0x7221 k = satAdd32 (s.dv 0x7221 k) 1 ∧ SameMemory s t) ∧
  (∀ dt (q : Fin 4) row loc x s, x = s.sram.getD (rowKey q (row % 24576)) SramRow.reset →
    (x.corr.filter (fun a => decide (s.now + dt < a + Config.second))).length < 3 →
    Answers (.sramEcc dt q row false loc) s fun t => t.dv 0x7301 q = satAdd32 (s.dv 0x7301 q) 1 ∧
      t.sram.get? (rowKey q (row % 24576)) = some { x with
        corr := x.corr.filter (fun a => decide (s.now + dt < a + Config.second)) ++ [s.now + dt] }) ∧
  (∀ dt (q : Fin 4) row (p : Fin 64) line s,
    Answers (.sramEcc dt q row true (.lineStaging p line)) s fun t => t.dv 0x7302 q = satAdd32 (s.dv 0x7302 q) 1 ∧
      (t.port p).lostLines = (s.port p).lostLines ++ [line])

/-- The holder renews its lease each 2 µs and loses the reins 8 µs after the last renewal, its supplies falling to the
mirrored value. A standby counts the partner's lease for 8 µs (the first one lets a unit whose partner's HELLO matched join),
and takes the reins when that is over, or released, and REINS_PEER has been low for 0.5 µs. At start-up unit A takes them and
unit B waits 50 µs more; on a conflict unit B releases and counts it. -/
def Obligations.LeasesAndReinsPass : Prop :=
  (∀ dt s, pairMode s = true → s.pair.holder = true → s.pair.linkUp = true → s.pair.renewedAt + 2 * Config.micro ≤ s.now + dt →
    exec (.leaseSend dt) s = .next (((s.later dt).modPair fun x => { x with renewedAt := s.now + dt }).emit (.pair .lease))) ∧
  (∀ dt s, pairMode s = true → s.pair.holder = true → s.pair.renewedAt + 8 * Config.micro ≤ s.now + dt →
    Answers (.leaseHwExpiry dt) s fun t => t.pair.holder = false ∧ t.pair.reinsOut = false ∧
      ∀ k, (t.supply k).hven = (s.pair.linkUp && (s.supply k).hven)) ∧
  (∀ dt s, holder s = false → matched s = false → exec (.lease dt) s = .next ((s.later dt).modPair fun x => { x with
    recordAt := s.now + dt, partnerLease := some (s.now + dt + 8 * Config.micro), seenLease := true, byRelease := false
    recheckAt := none, released := if x.released = some 1 then some 1 else none })) ∧
  (∀ dt s, holder s = false → matched s = true → Answers (.lease dt) s fun t => t.pair.state = .joining ∧
    t.pair.joinStep = 1 ∧ t.pair.aligned = false ∧ t.pair.partnerLease = some (s.now + dt + 8 * Config.micro) ∧
    t.pair.seenLease = true) ∧
  (∀ dt s, mayHold s = true → peerLow (s.later dt) = true →
    Answers (.release dt) s fun t => t.pair.holder = true ∧ t.pair.reinsOut = true ∧
      t.dv 0x8010 0 = satAdd32 (s.dv 0x8010 0) 1) ∧
  (∀ dt s, holder s = false → s.pair.peer = true → exec (.release dt) s = .next ((s.later dt).modPair fun x => { x with
    recordAt := s.now + dt, partnerLease := some (s.now + dt), byRelease := true })) ∧
  (∀ dt s, mayHold s = true → leaseOver (s.later dt) = true → peerLow (s.later dt) = true →
    (Answers (.partnerLeaseExpiry dt) s fun t => t.pair.holder = true ∧ t.pair.reinsOut = true) ∧
    Answers (.reinsPeerLowHeld dt) s fun t => t.pair.holder = true ∧ t.pair.reinsOut = true) ∧
  (∀ dt s, leaseOver (s.later dt) = false → exec (.partnerLeaseExpiry dt) s = .next (s.later dt)) ∧
  (∀ dt level s, pairMode s = true → s.pair.peer ≠ level →
    exec (.reinsPeerChange dt level) s = .next ((s.later dt).modPair fun x => { x with
      peer := level, peerSince := s.now + dt, bothSince := if level && x.reinsOut then some (s.now + dt) else none })) ∧
  (∀ dt s, startReady (s.later dt) = true → s.pair.recheckAt = none → s.pins.pairId = true →
    exec (.startupReinsWait dt) s = .next ((s.later dt).modPair fun x => { x with
      recheckAt := some (s.now + dt + 50 * Config.micro) })) ∧
  (∀ dt s, startReady (s.later dt) = true → s.pair.recheckAt = none → s.pins.pairId = false →
    Answers (.startupReinsWait dt) s fun t => t.pair.holder = true) ∧
  (∀ dt a s, s.pair.recheckAt = some a → a ≤ s.now + dt → startReady (s.later dt) = true →
    Answers (.unitBRecheck dt) s fun t => t.pair.holder = true ∧ t.pair.recheckAt = none) ∧
  (∀ dt a s, s.pair.bothSince = some a → a + 500 ≤ s.now + dt → s.pins.pairId = true → s.pair.peer = true →
    pairMode s = true → s.pair.holder = true →
    Answers (.reinsConflict dt) s fun t => t.pair.holder = false ∧ t.pair.reinsOut = false ∧
      t.dv 0x8014 0 = satAdd32 (s.dv 0x8014 0) 1)

/-- A COMMIT record seals the standby's open copies for the named page; the copy of a generation repairs a mismatch. A flip
record fixes the flip line, or waits for the page's head; a band record stands until its line, its band-select blocks sent, or
acts at once when this unit has passed that line. Acknowledgements, mirrored axes and supplies, and the alignment of the line
numbers are taken as sent; the mirror lag reads at most 1,000 ns, in DOZE 10,000. The holder applies forwarded targets and
takes measurements. -/
def Obligations.PairRecordsAreTaken : Prop :=
  (∀ dt (b : Fin 16) (page dig : BitVec 32) s, holder s = false → (s.bar b).gen = none → blockBusy s b = false →
    waitingEnds s = [] →
    Answers (.commitRecord dt b page dig) s fun t => (t.bar b).heldReq = none ∧ (t.bar b).peerSeal = none ∧
      (t.bar b).opn = [] ∧ (t.bar b).live = (s.bar b).live ∧ ∃ g, (t.bar b).gen = some g ∧ g.page = page.toNat) ∧
  (∀ dt (b : Fin 16) objs e g s, holder s = false → (s.bar b).mismatchFrom = some e → (s.bar b).gen = some g →
    Answers (.genCopyDone dt b objs) s fun t => (t.bar b).mismatchFrom = none ∧
      (t.bar b).pend = genMap (s.bar b).pend objs ∧ (t.bar b).live = (s.bar b).live) ∧
  (∀ dt (b : Fin 16) (page : BitVec 32) flip p s, holder s = false → s.trig.line < flip → waitingEnds s = [] →
    (notStarted s b).find? (fun p => p.num == page.toNat && p.flip.isNone) = some p →
    Answers (.flipRecord dt b page flip none) s fun t => ∃ q, t.page? b page.toNat = some q ∧ q.flip = some flip) ∧
  (∀ dt (b : Fin 16) (page : BitVec 32) flip s, holder s = false → s.page? b page.toNat = none →
    waitingEnds s = [] →
    Answers (.flipRecord dt b page flip none) s fun t => (page.toNat, flip, none) ∈ (t.bar b).scan.ahead) ∧
  (∀ dt (b : Fin 16) (band : Fin 8) line stop held s, holder s = false → s.trig.line < line →
    Answers (.bandRecord dt b band ⟨line, stop, held⟩) s fun t => (t.bar b).scan.bandChange = (s.bar b).scan.bandChange ++
        [{ line := line, band := band.val, stop := stop, held := held, page := bandPageAt s b line }] ∧
      (t.bar b).scan.band = (s.bar b).scan.band ∧
      ∀ p ∈ headPorts s, governor s p = some b.val → (s.port p).st = .run →
        Out.bandSelect p (s.pageN b (bandPageAt s b line) 0x4101 band) (s.pageN b (bandPageAt s b line) 0x4102 band) line
          ∈ t.out) ∧
  (∀ dt (b : Fin 16) (band : Fin 8) line stop held s, holder s = false → line ≤ s.trig.line →
    Answers (.bandRecord dt b band ⟨line, stop, held⟩) s fun t => (t.bar b).scan.band = band.val ∧
      (t.bar b).scan.bandDwell = 0 ∧ (t.bar b).scan.bandQuiet = 0 ∧ (t.bar b).scan.bandChange = (s.bar b).scan.bandChange) ∧
  (∀ dt (b : Fin 16) (p : Fin 64) g s, holder s = false → (s.bar b).gen = some g →
    Answers (.ackRecord dt b p) s fun t => (t.bar b).gen = some { g with headWait := g.headWait.filter (fun q => q != p.val) } ∧
      (t.bar b).heads = (s.bar b).heads.map (PendGen.acked p)) ∧
  (∀ dt (a : Fin 8) (target : BitVec 64) moving v acc j s, holder s = false → waitingEnds s = [] →
    Answers (.mirrorRecord dt (.axis a target moving v acc j)) s fun t => (t.axis a).mirrorTarget = target.toInt ∧
      (t.axis a).mirrorMoving = moving ∧ (t.axis a).mirrorProfile = some (v.toNat, acc.toNat, j.toNat) ∧
      t.dv 0x8013 0 ≤ if s.devState = .doze then 10000 else 1000) ∧
  (∀ dt (k : Fin 16) en latch s, holder s = false → waitingEnds s = [] →
    Answers (.mirrorRecord dt (.supply k en latch)) s fun t => (t.supply k).mirrorEn = en ∧
      (t.supply k).mirrorLatch = latch ∧ (en = false → (t.supply k).hven = false) ∧
      (en = true → s.pair.linkUp = true → (s.supply k).st = .off → (t.supply k).hven = true)) ∧
  (∀ dt line pos h s, holder s = false → s.trig.en = true → s.pair.aligned = false → s.trig.line < line + 1 →
    Answers (.xchkRecord dt line pos h) s fun t => t.trig.line = line ∧ t.pair.aligned = true ∧ t.pair.strikesStopped = false) ∧
  (∀ dt line pos h s, holder s = false → s.trig.en = false →
    exec (.xchkRecord dt line pos h) s = .next ((s.later dt).modPair fun x => { x with recordAt := s.now + dt })) ∧
  (∀ dt (b : Fin 16) s, pairMode s = true → s.pair.holder = true → s.devState = .print → (s.bar b).vb = .armed →
    Answers (.forwardRecord dt (some b) 0x1202 0 2) s fun t => (t.bar b).vb = .printing) ∧
  (∀ dt (b : Fin 16) (p : Fin 64) i x s, pairMode s = true → s.pair.holder = true → recordStrip s b p = some x →
    x.measured = false → (∃ c ∈ stripPorts s x, c ∉ x.gone) → (∀ y, stripAt s b x.first = some y → ownEnded s y = false) →
    x.got.get? (p * 65536 + i.nozzle) = none →
    Answers (.measRecord dt b p [i]) s fun t => ∃ y ∈ (t.bar b).scan.strips, y.first = x.first ∧
      y.got.get? (p * 65536 + i.nozzle) = some { integral := i.integral, e := i.e, n := i.n, excluded := i.excluded, own := false })

/-- A HELLO whose digest, firmware major version or PAIR_ID does not fit records the partner's values and takes a standby to
DIVERGED, a holder that was not DIVERGED to NO_PARTNER; one that fits lets a unit join a partner that holds a lease, and the
holder send its snapshot. Without one for 10 ms the unit is in NO_PARTNER. The link goes down without lanes or records: the
unit is ISOLATED, the holder holds on, and a standby drives HVEN low. It comes up when a lane holds block lock, with a HELLO
sent; a fourth fault of a lane within a second retires it. A snapshot replaces the copies of a joining unit. HANDOVER releases
the reins of a paired holder and is refused with STATE otherwise; RESYNC begins a join. -/
def Obligations.PairLinkAndJoin : Prop :=
  (∀ dt serial fw dig pid s, pairMode s = true →
    (dig.toNat ≠ configDigest s ∨ fw.toNat / 65536 ≠ fwVersion s / 65536 ∨ pid = s.pins.pairId) →
    Answers (.helloRecord dt serial fw dig pid) s fun t =>
      t.pair.state = (if holder s = true ∧ s.pair.barred = false then .noPartner else .diverged) ∧
      (t.pair.barred = true ↔ ¬ (holder s = true ∧ s.pair.barred = false)) ∧ t.dv 0x8006 0 = serial.toNat ∧
      t.dv 0x8006 1 = fw.toNat ∧ t.dv 0x8007 1 = dig.toNat ∧ t.pair.helloAt = some (s.now + dt)) ∧
  (∀ dt (serial : BitVec 64) (fw dig : BitVec 32) a s, pairMode s = true → dig.toNat = configDigest s →
    fw.toNat / 65536 = fwVersion s / 65536 → fresh s = true → (s.pair.barred = true → s.devState = .config) →
    holder s = false → s.pair.partnerLease = some a → s.now + dt < a →
    Answers (.helloRecord dt serial fw dig (!s.pins.pairId)) s fun t => t.pair.state = .joining ∧ t.pair.joinStep = 1 ∧
      t.pair.aligned = false ∧ t.pair.barred = false) ∧
  (∀ dt (serial : BitVec 64) (fw dig : BitVec 32) s, pairMode s = true → dig.toNat = configDigest s →
    fw.toNat / 65536 = fwVersion s / 65536 → fresh s = true → (s.pair.barred = true → s.devState = .config) →
    s.pair.holder = true → s.pair.linkUp = true →
    Answers (.helloRecord dt serial fw dig (!s.pins.pairId)) s fun t => Out.pair .snapshot ∈ t.out ∧
      (t.pair.state = .joining ∨ t.pair.state = .paired) ∧ t.pair.joinStep = 2 ∧ t.pair.holder = true) ∧
  (∀ dt s, pairMode s = true → s.pair.linkUp = true → exec (.helloSend dt) s =
    .next ((s.later dt).emit (.pair (.hello Config.serialNumber (fwVersion s) (configDigest s) s.pins.pairId)))) ∧
  (∀ dt s, pairMode s = true → s.pair.linkUp = true → (∀ a, s.pair.helloAt = some a → a + 10 * Config.milli ≤ s.now + dt) →
    Answers (.helloTimeout dt) s fun t => t.pair.state = .noPartner ∧ t.pair.helloAt = none) ∧
  (∀ dt s, pairMode s = true → s.pair.linkUp = true → (lanesUp s = 0 ∨ s.pair.recordAt + 4 * Config.micro ≤ s.now + dt) →
    Answers (.pairLinkDown dt) s fun t => t.pair.linkUp = false ∧ t.pair.state = .isolated ∧
      t.pair.holder = s.pair.holder ∧ (holder s = false → ∀ k, (t.supply k).hven = false)) ∧
  (∀ dt s, pairMode s = true → s.pair.linkUp = false → (∃ n ∈ linkLanes s, pairLane s n ≠ 3) →
    Answers (.pairLinkUp dt) s fun t => t.pair.linkUp = true ∧ t.pair.recordAt = s.now + dt ∧
      (∀ n ∈ linkLanes s, pairLane t n = if pairLane s n = 3 then 3 else 2) ∧
      Out.pair (.hello Config.serialNumber (fwVersion s) (configDigest s) s.pins.pairId) ∈ t.out ∧
      (holder s = false → ∀ k : Fin 16, (s.supply k).mirrorEn = true → (s.supply k).st = .off → (t.supply k).hven = true)) ∧
  (∀ dt (n : Fin 4) s, pairMode s = true → pairLane s n ≠ 3 →
    ((s.health.getD (chanKey 1 n) Health.reset).hist.filter (fun a => decide (s.now + dt ≤ a + Config.second))).length < 3 →
    Answers (.pairLaneFault dt n) s fun t => pairLane t n = 1 ∧ t.dv 0x8005 0 = satAdd32 (s.dv 0x8005 0) 1) ∧
  (∀ dt (n : Fin 4) s, pairMode s = true → pairLane s n ≠ 3 →
    3 ≤ ((s.health.getD (chanKey 1 n) Health.reset).hist.filter (fun a => decide (s.now + dt ≤ a + Config.second))).length →
    Answers (.pairLaneFault dt n) s fun t => pairLane t n = 3 ∧ t.dv 0x8005 0 = satAdd32 (s.dv 0x8005 0) 1) ∧
  (∀ dt s, pairMode s = true → exec (.partnerPresenceCheck dt) s = .next ((s.later dt).modPair fun x => { x with
    partnerSeen := (headPorts s).any fun p => (s.port p).st == .run && decide ((s.port p).partnerAt + Config.milli ≤ s.now + dt) })) ∧
  (∀ dt (d : Fin 7) s, holder s = false → s.pair.state = .joining → devOf d = s.devState →
    Answers (.joinSnapshot dt ⟨d, []⟩ []) s fun t => t.pair.state = .joining ∧ t.pair.joinStep = 2 ∧
      t.pair.aligned = false) ∧
  (∀ dt (d : Fin 7) j s, holder s = false → s.pair.state = .joining → devOf d = s.devState →
    vbCode j.state = (s.bar j.bar).vb →
    Answers (.joinSnapshot dt ⟨d, []⟩ [j]) s fun t => (t.bar j.bar).live = genMap [] j.live ∧
      (t.bar j.bar).pend = genMap [] j.pending ∧ (t.bar j.bar).joinPage = j.nextPage.toNat ∧
      (t.bar j.bar).gen.map (fun g => g.page) = j.pendingPage.map (fun e => e.toNat)) ∧
  (∀ dt door d s, Written s door 0x8003 0 1 none d 1 → pairMode s = true → s.pair.holder = true → s.pair.state = .paired →
    Answers (.pairCmdHandover dt door) s fun t => t.pair.holder = false ∧ t.pair.reinsOut = false ∧ t.pair.released = some 2) ∧
  (∀ dt door d s, Written s door 0x8003 0 1 none d 1 → s.pair.state ≠ .paired →
    (doorWrite door 0x8003 0 1 pairCmdEffect s).1 = stState ∧
    Answers (.pairCmdHandover dt door) s fun t => t.pair = s.pair) ∧
  (∀ dt door d s, Written s door 0x8003 0 2 none d 2 → holder s = false →
    Answers (.pairCmdResync dt door) s fun t => t.pair.state = .joining ∧ t.pair.joinStep = 1 ∧ t.pair.resyncOnly = false)

/-- A good frame teaches its source address and is queued by its priority at the port that its destination was learnt at; one
without room in the queue, and a bad one, is counted and dropped. A port sends its high queue first, an event message of PTP
between the external ports with its residence added. An address is forgotten after the ageing time; a link that comes up or
goes down shows in PORT_STATUS. -/
def Obligations.FramesPassTheSwitch : Prop :=
  (∀ dt (p : Fin 3) f e q l s, ethUp s p = true → ethGood f = true → macGroup f.src.toNat = false → macGroup f.dst.toNat = false →
    f.dst ≠ f.src → ((s.net.macs.get? f.src.toNat).isSome = true ∨ s.net.macs.length < 1024) →
    s.net.macs.get? f.dst.toNat = some e → e.port = q → q ≠ p.val → q < 2 → ethUp s q = true →
    l = s.net.queues.getD (q * 2 + b2n (ethHigh f)) [] → queueBytes l + f.len ≤ 16384 →
    Answers (.ethFrameRx dt p f) s fun t => t.net.macs.get? f.src.toNat = some { port := p, at_ := s.now + dt } ∧
      t.net.queues.get? (q * 2 + b2n (ethHigh f)) = some (l ++ [{ f := f, inPort := p, inAt := ingressAt (s.later dt) p }]) ∧
      t.out = s.out) ∧
  (∀ dt (p : Fin 3) f e q l s, ethUp s p = true → ethGood f = true → macGroup f.src.toNat = false → macGroup f.dst.toNat = false →
    f.dst ≠ f.src → s.net.macs.get? f.dst.toNat = some e → e.port = q → q ≠ p.val → q < 2 → ethUp s q = true →
    l = s.net.queues.getD (q * 2 + b2n (ethHigh f)) [] → 16384 < queueBytes l + f.len →
    Answers (.ethFrameRx dt p f) s fun t => t.dv 0x8115 q = satAdd32 (s.dv 0x8115 q) 1 ∧
      t.net.queues = s.net.queues ∧ t.out = s.out) ∧
  (∀ dt (p : Fin 3) f s, ethUp s p = true → ethGood f = false → exec (.ethFrameRx dt p f) s = .next ((s.later dt).bump 0x8115 p)) ∧
  (∀ dt (p : Fin 3) x rest s, ethUp s p = true → s.net.queues.getD (p * 2 + 1) [] = x :: rest → x.f.ptp = none →
    exec (.ethFrameEgress dt p) s = .next (((s.later dt).modNet fun n =>
      { n with queues := n.queues.set (p * 2 + 1) rest }).emit (.eth p x.f))) ∧
  (∀ dt (p : Fin 3) x rest s, ethUp s p = true → s.net.queues.getD (p * 2 + 1) [] = [] →
    s.net.queues.getD (p * 2) [] = x :: rest → x.f.ptp = none →
    exec (.ethFrameEgress dt p) s = .next (((s.later dt).modNet fun n =>
      { n with queues := n.queues.set (p * 2) rest }).emit (.eth p x.f))) ∧
  (∀ dt (p : Fin 2) x rest kind s, ethUp s p = true → s.net.queues.getD (p * 2 + 1) [] = x :: rest →
    x.f.ptp = some (kind, 2) → kind ≤ 1 → x.inPort < 2 →
    exec (.ethFrameEgress dt (p.castLE (by decide))) s = .next ((((s.later dt).modNet fun n =>
      { n with queues := n.queues.set (p * 2 + 1) rest }).count64 0x8116 0 1).emit
        (.eth p (corrected x.f (residence (s.later dt) x.inAt p (s.now + dt)))))) ∧
  (∀ dt mac e s, s.net.macs.get? mac.toNat = some e → exec (.macAgeExpiry dt mac) s =
    .next (if e.at_ + s.dv 0x8117 0 * Config.second ≤ s.now + dt
      then (s.later dt).modNet fun n => { n with macs := n.macs.erase mac.toNat } else s.later dt)) ∧
  (∀ dt (p : Fin 2) slow s, linkAllowed s p slow = true →
    Answers (.ethLink dt p true slow) s fun t => EventsOnly ((s.later dt).setDv 0x8113 p (1 + 2 * b2n slow)) t ∨
      (t = s.later dt ∧ s.dv 0x8113 p = 1 + 2 * b2n slow)) ∧
  (∀ dt (p : Fin 2) slow s, Answers (.ethLink dt p false slow) s fun t => t.dv 0x8113 p = 0 ∧ t.quiet = (s.later dt).quiet)

/-- A sender's first Announce is kept, its second within four announce intervals makes it the master (IEEE 1588's
qualification: the model's choice, assumption log 43); with none left the clock is in holdover. A Sync records its offset:
beyond the step limit TIME is stepped by it and counted, and older timestamps are dropped, otherwise only the rate changes and
TIME goes on from where it is. The path delay is the mean of the two directions. TIME_SET, TIME_STEP and RATE_ADJ act while
TIME_SRC is 0, and are refused with STATE otherwise. -/
def Obligations.TimeFollowsItsMaster : Prop :=
  (∀ dt (p : Fin 2) a s, ptpOn s = true → a.domain.toNat = s.dv 0x8104 0 → s.net.announces = [] → s.net.master = none →
    exec (.ptpAnnounce dt p a) s = .next (hearAnnounce p a (s.later dt))) ∧
  (∀ dt (p : Fin 2) a b t0 s, ptpOn s = true → a.domain.toNat = s.dv 0x8104 0 → 0 < announceGap a → a.steps.toNat < 255 →
    s.net.announces = [(announceKey p a, { dataset := b, times := [t0] })] → s.now + dt < t0 + 3 * announceGap b →
    s.now + dt < t0 + 4 * announceGap a →
    Answers (.ptpAnnounce dt p a) s fun t => t.net.master = some (p.val, a.source.toNat) ∧ t.net.holdover = false ∧
      t.net.arb = !a.ptpTimescale) ∧
  (∀ dt (p : Fin 2) m (t1 : Nat) corr sent got off s, ptpOn s = true → s.net.master = some (p.val, m.toNat) →
    sent = (t1 : Int) + corrNs corr → got = (arrivalTime (s.later dt) p : Int) → off = got - sent - (s.dv 0x8105 1 : Int) →
    Answers (.ptpSync dt p m t1 corr) s fun t => t.dv 0x8105 0 = ofSigned 64 off ∧
      if s.dv 0x8106 0 < off.natAbs then
        t.clock.base = s.now + dt ∧ t.clock.offset = ofSigned 64 ((s.later dt).time - off) ∧ t.clock.rate = s.clock.rate ∧
        t.dv 0x8103 1 = satAdd32 (s.dv 0x8103 1) 1 ∧ t.net.sync = none ∧ t.net.reqAt = none
      else t.time = (s.later dt).time ∧ t.net.sync = some (sent, got)) ∧
  (∀ dt (p : Fin 2) m (t4 : Nat) corr iv t3 sent got d s, ptpOn s = true → s.net.master = some (p.val, m.toNat) →
    s.net.reqAt = some t3 → s.net.sync = some (sent, got) → (d : Int) = (got - sent + ((t4 : Int) - corrNs corr - (t3 : Int))) / 2 →
    0 ≤ d → d < 2 ^ 32 →
    Answers (.ptpDelayResp dt p m t4 corr iv) s fun t => t.dv 0x8105 1 = d.toNat ∧ t.net.reqAt = none ∧ t.net.reqInterval = iv) ∧
  (∀ dt p i s, ptpOn s = true → s.net.master = some (p, i) → s.net.sync.isSome = true → s.net.reqSentAt = none →
    exec (.ptpDelayReqSend dt) s = .next (((s.later dt).modNet fun n =>
      { n with reqAt := some (departureTime (s.later dt) p), reqSentAt := some (s.now + dt) }).emit (.delayReq p))) ∧
  (∀ dt p i s, ptpOn s = true → s.net.master = some (p, i) →
    (∀ e ∈ s.net.announces, announceFresh (s.later dt) e.2 = false) →
    Answers (.announceTimeout dt) s fun t => t.net.master = none ∧ t.net.holdover = true) ∧
  (∀ dt s, exec (.rebaseTick dt) s = .next (if s.clock.base + 2 ^ 30 ≤ s.now + dt
    then rebase (s.clock.base + 2 ^ 30) (s.later dt) else s.later dt)) ∧
  (∀ dt door v d w s, Written s door 0x8101 2 v none d w → ptpOn s = false →
    Answers (.timeSet dt door v) s fun t => t.time = w.toNat ∧ t.clock.rate = s.clock.rate ∧
      t.dv 0x8103 1 = satAdd32 (s.dv 0x8103 1) 1) ∧
  (∀ dt door v d w s, Written s door 0x8101 3 v none d w → ptpOn s = false →
    Answers (.timeStepWrite dt door v) s fun t => (t.time : Int) = (((s.later dt).time : Int) + w.toInt) % 2 ^ 64) ∧
  (∀ dt door v d w s, Written s door 0x8101 4 v none d w → ptpOn s = false → toSigned 32 w.toNat ≤ rateMax →
    -rateMax ≤ toSigned 32 w.toNat →
    Answers (.rateAdjWrite dt door v) s fun t => t.clock.rate = toSigned 32 w.toNat ∧ t.time = (s.later dt).time) ∧
  (∀ dt door v d w s, Written s door 0x8101 2 v none d w → ptpOn s = true →
    (doorWrite door 0x8101 2 v timeSetEffect s).1 = stState ∧
    Answers (.timeSet dt door v) s fun t => t.clock = s.clock) ∧
  (∀ dt door v d w s, Written s door 0x8102 0 v none d w → w.toNat ≤ 1 → w.toNat ≠ s.dv 0x8102 0 →
    Answers (.timeSrcWrite dt door v) s fun t => t.dv 0x8102 0 = w.toNat ∧ t.net.master = none ∧ t.clock = s.clock)

/-- A wait that is satisfied when it is written takes the flags of its mask into SCH_WOKE and goes on; one that is not leaves
the core, and the thread waits. A post sets its flag, and a thread whose wait it satisfies becomes READY with the flags taken.
A timer sets flag 30 at its end. A thread that yields goes to the back of the ready order; SCH_FLAGS clears the flags written
as 1. -/
def Obligations.WaitsPostsAndTimersActOnThreads : Prop :=
  (∀ dt (c : Fin 8) v th m s, Runs s c th → v.bits 31 0 = m → m ≠ 0 → waitMet (s.thread th).flags m (bitN v.toNat 32) = true →
    Answers (.schWait dt c v) s fun t => t.core c = s.core c ∧ t.thread th = { s.thread th with
      status := 0, mask := 0, andMode := bitN v.toNat 32, woke := (s.thread th).flags &&& m
      flags := (s.thread th).flags - ((s.thread th).flags &&& m) }) ∧
  (∀ dt (c : Fin 8) v th s, Runs s c th → v.bits 31 0 = 0 →
    Answers (.schWait dt c v) s fun t => t.thread th = { s.thread th with status := 0, woke := 0 } ∧ t.core c = s.core c) ∧
  (∀ dt (c : Fin 8) v th m s, Runs s c th → Other s th → v.bits 31 0 = m → m ≠ 0 →
    waitMet (s.thread th).flags m (bitN v.toNat 32) = false →
    Answers (.schWait dt c v) s fun t => (t.thread th).st = .waiting ∧ (t.thread th).mask = m ∧
      (t.thread th).andMode = bitN v.toNat 32 ∧ (t.thread th).flags = (s.thread th).flags ∧ (t.core c).thread ≠ some th) ∧
  (∀ dt (c : Fin 8) v th u f s, Runs s c th → v.bits 24 16 = u → v.bits 4 0 = f → f ≠ 31 → (448 ≤ th → 448 ≤ u) →
    (s.thread u).st ≠ .free → (s.thread u).st ≠ .faulted → (s.thread u).st ≠ .waiting →
    Answers (.schPost dt c v) s fun t => (t.thread u).flags = (s.thread u).flags ||| 2 ^ f ∧ (t.thread u).st = (s.thread u).st) ∧
  (∀ dt (c : Fin 8) v th u f s x, Runs s c th → v.bits 24 16 = u → v.bits 4 0 = f → f ≠ 31 → (448 ≤ th → 448 ≤ u) →
    s.thread u = x → x.st = .waiting → waitMet (x.flags ||| 2 ^ f) x.mask x.andMode = true →
    Answers (.schPost dt c v) s fun t => Live t u ∧ (t.thread u).woke = (x.flags ||| 2 ^ f) &&& x.mask ∧
      (t.thread u).flags = (x.flags ||| 2 ^ f) - ((x.flags ||| 2 ^ f) &&& x.mask)) ∧
  (∀ dt (c : Fin 8) v th d s, Runs s c th → v.bits 31 0 = d →
    Answers (.schTimer dt c v) s fun t => t.core c = s.core c ∧ t.thread th = { s.thread th with
      status := 0, timer := if d = 0 then none else some (s.now + dt + 1000 * d) }) ∧
  (∀ dt (th : Fin 512) e s, Other s th → (s.thread th).timer = some e → e ≤ s.now + dt → (s.thread th).st ≠ .free →
    (s.thread th).st ≠ .faulted → (s.thread th).st ≠ .waiting →
    Answers (.schTimerExpiry dt th) s fun t => t.thread th = { s.thread th with
      timer := none, flags := (s.thread th).flags ||| 2 ^ 30 }) ∧
  (∀ dt (th : Fin 512) s, (∀ e, (s.thread th).timer = some e → s.now + dt < e) →
    exec (.schTimerExpiry dt th) s = .next (s.later dt)) ∧
  (∀ dt (c : Fin 8) th s, Runs s c th →
    Answers (.schYield dt c) s fun t => Live t th ∧ (t.thread th).ready = s.sched.readySeq ∧
      t.sched.readySeq = s.sched.readySeq + 1) ∧
  (∀ dt (c : Fin 8) v th s, Runs s c th →
    Answers (.schFlagsClear dt c v) s fun t => t.core c = s.core c ∧ t.thread th = { s.thread th with
      status := 0, flags := (s.thread th).flags - ((s.thread th).flags &&& v.bits 31 0) })

/-- R300: a scheduler CSR write that fails leaves every thread, flag and flow unchanged and sets SCH_STATUS; only a successful
one changes the thread's state. An extension thread may post to the threads 448 to 511; its post to a firmware thread is
ignored, counted in POSTS_DROPPED, and reports OK. -/
def Obligations.FailedSchedulerWritesChangeOnlyStatus : Prop :=
  (∀ dt (c : Fin 8) v th s, Runs s c th → v.bits 4 0 = 31 →
    exec (.schPost dt c v) s = .next ((s.later dt).modThread th fun x => { x with status := 6 })) ∧
  (∀ dt (c : Fin 8) v th code s, Runs s c th → flowEnterStatus (s.thread th).held (v.bits 7 0) = code → code ≠ 0 →
    exec (.schFlowEnter dt c v) s = .next ((s.later dt).modThread th fun x => { x with status := code })) ∧
  (∀ dt (c : Fin 8) v th s, Runs s c th → (s.flow (v.bits 7 0)).holder ≠ some th →
    exec (.schFlowExit dt c v) s = .next ((s.later dt).modThread th fun x => { x with status := 4 })) ∧
  (∀ dt (c : Fin 8) v th s, Runs s c th → th < 448 → (s.thread (v.bits 8 0)).st ≠ .free →
    exec (.schSpawn dt c v) s = .next ((s.later dt).modThread th fun x => { x with status := 1 })) ∧
  (∀ dt (c : Fin 8) v th u s, Runs s c th → th < 448 → v.bits 8 0 = u →
    ((s.thread u).st = .free ∨ u = th ∨ u = 0 ∨ u = 1) →
    exec (.schKill dt c v) s = .next ((s.later dt).modThread th fun x => { x with status := 1 })) ∧
  (∀ dt (c : Fin 8) v th u s, Runs s c th → 448 ≤ th → v.bits 24 16 = u → v.bits 4 0 ≠ 31 → u < 448 →
    exec (.schPost dt c v) s = .next (((s.later dt).bump 0x9005 1).modThread th fun x => { x with status := 0 })) ∧
  (∀ dt (c : Fin 8) v th u s, Runs s c th → 448 ≤ th → v.bits 24 16 = u → v.bits 4 0 ≠ 31 → 448 ≤ u →
    exec (.schPost dt c v) s = .next (judgeWait 4 (postFlag u (v.bits 4 0) ((s.later dt).modThread th fun x => { x with
      status := 0 }))))

/-- A thread holds a free flow at once and waits for a held one at the back of its queue; the holder passes it to the first of
the queue, or frees it. A spawned thread takes its group, cluster, entry and modes; SCH_EXIT frees the running thread;
SCH_KILL frees a firmware thread and faults an extension, which a fault of its own and a machine-only CSR do as well, with the
cause in EXT_STATUS; an access that Table 13-1 and PMP allow is none. -/
def Obligations.FlowsPassAndThreadsComeAndGo : Prop :=
  (∀ dt (c : Fin 8) v th f s, Runs s c th → v.bits 7 0 = f → flowEnterStatus (s.thread th).held f = 0 →
    (s.flow f).holder = none →
    Answers (.schFlowEnter dt c v) s fun t => (t.flow f).holder = some th ∧ (t.thread th).held = (s.thread th).held ++ [f] ∧
      (t.thread th).st = .running ∧ (t.flow f).queue = (s.flow f).queue) ∧
  (∀ dt (c : Fin 8) v th f u s, Runs s c th → Other s th → v.bits 7 0 = f → flowEnterStatus (s.thread th).held f = 0 →
    (s.flow f).holder = some u →
    Answers (.schFlowEnter dt c v) s fun t => (t.flow f).queue = (s.flow f).queue ++ [th] ∧ (t.thread th).st = .flowWait ∧
      (t.thread th).flow = f ∧ (t.flow f).holder = some u ∧ (t.core c).thread ≠ some th) ∧
  (∀ dt (c : Fin 8) v th f s, Runs s c th → v.bits 7 0 = f → (s.flow f).holder = some th → (s.flow f).queue = [] →
    Answers (.schFlowExit dt c v) s fun t => (t.flow f).holder = none ∧
      (t.thread th).held = (s.thread th).held.filter (fun h => h != f)) ∧
  (∀ dt (c : Fin 8) v th f u rest s, Runs s c th → v.bits 7 0 = f → (s.flow f).holder = some th →
    (s.flow f).queue = u :: rest → u ≠ th →
    Answers (.schFlowExit dt c v) s fun t => (t.flow f).holder = some u ∧ (t.flow f).queue = rest ∧ Live t u ∧
      (t.thread u).held = (s.thread u).held ++ [f]) ∧
  (∀ dt (c : Fin 8) v th u s, Runs s c th → th < 448 → v.bits 8 0 = u → (s.thread u).st = .free →
    Answers (.schSpawn dt c v) s fun t => Live t u ∧ (t.thread u).group = v.bits 15 13 ∧
      (t.thread u).entry = 4 * v.bits 63 16 ∧ (t.thread u).noPreempt = bitN v.toNat 10 ∧
      (t.thread u).cluster = min (v.bits 12 11) 2 ∧ (t.thread u).wake = 2 * v.bits 9 9) ∧
  (∀ dt (c : Fin 8) th s, Runs s c th → th < 448 →
    Answers (.schExit dt c) s fun t => t.thread th = { Thread.reset with
      st := .free, group := (s.thread th).group, cluster := (s.thread th).cluster }) ∧
  (∀ dt (c : Fin 8) th s, Runs s c th → 448 ≤ th → th < 512 →
    Answers (.schExit dt c) s fun t => (t.thread th).st = .faulted ∧ t.dv 0x9043 (th - 448) = 2 * 2 ^ 24 + 3) ∧
  (∀ dt (c : Fin 8) v th s, Runs s c th → th < 448 → v.bits 1 0 ≠ 3 →
    Answers (.schWakeMode dt c v) s fun t => t.thread th = { s.thread th with status := 0, wake := v.bits 1 0 }) ∧
  (∀ dt (c : Fin 8) v th u s, Runs s c th → th < 448 → v.bits 8 0 = u → (s.thread u).st ≠ .free → u ≠ th → 2 ≤ u →
    Answers (.schKill dt c v) s fun t => (t.thread u).held = [] ∧ (t.thread u).timer = none ∧
      if u < 448 then (t.thread u).st = .free
      else (t.thread u).st = .faulted ∧ t.dv 0x9043 (u - 448) = 4 * 2 ^ 24 + 3) ∧
  (∀ dt (k : Fin 64) (cause : Fin 4) acc (a : BitVec 64) s, Map.wf s.sched.threads = true → extRunning s k = true →
    cause ≠ 0 → (cause ≠ 1 ∨ extMay s k acc a.toNat = false) →
    Answers (.extFault dt k cause ⟨acc, a⟩) s fun t => (t.thread (448 + k.val)).st = .faulted ∧
      t.dv 0x9043 k = cause * 2 ^ 24 + 3) ∧
  (∀ dt (k : Fin 64) acc (a : BitVec 64) s, extMay s k acc a.toNat = true →
    exec (.extFault dt k 1 ⟨acc, a⟩) s = .next (s.later dt))

/-- A thread whose quantum is over while another waits goes to the back of the ready order, or is deferred and counted where
no window is free. The window of the least recently run waiting thread is spilled while fewer than WIN_SPARE are free. A
deadlock is counted and wakes thread 0 where it waits for flag 31. A core that faults is retried three times in a second and
then retired. -/
def Obligations.CoresChangeThreads : Prop :=
  (∀ dt (c : Fin 8) th s, Runs s c th → quantumDue (s.later dt) c = true → 0 < freeWindows s c →
    Answers (.quantumExpiry dt c) s fun t => Live t th ∧ (t.thread th).ready = s.sched.readySeq ∧
      t.sched.readySeq = s.sched.readySeq + 1) ∧
  (∀ dt (c : Fin 8) th x s, Runs s c th → quantumDue (s.later dt) c = true → freeWindows s c = 0 →
    (s.core c).reserved = some x →
    Answers (.quantumExpiry dt c) s fun t => (t.core c).deferred = true ∧ (t.core c).thread = some th ∧
      t.dv 0x9004 0 = satAdd32 (s.dv 0x9004 0) 1) ∧
  (∀ dt (c : Fin 8) s, quantumDue (s.later dt) c = false → exec (.quantumExpiry dt c) s = .next (s.later dt)) ∧
  (∀ dt (c : Fin 8) v s, freeWindows s c < s.dv 0x9006 0 → spillVictim s c = some v →
    Answers (.windowSpill dt c) s fun t => t.thread v = { s.thread v with window := none } ∧
      (t.core c).reserved ≠ some v ∧ t.quiet = (s.later dt).quiet) ∧
  (∀ dt (c : Fin 8) s, s.dv 0x9006 0 ≤ freeWindows s c → exec (.windowSpill dt c) s = .next (s.later dt)) ∧
  (∀ dt a s, s.sched.allWaitAt = some a → s.sched.deadlockDone = false → a + 1000 * s.dv 0x9003 0 ≤ s.now + dt →
    Answers (.deadlock dt) s fun t => t.dv 0x9005 0 = satAdd32 (s.dv 0x9005 0) 1 ∧
      ((s.thread 0).st = .waiting → bitN (s.thread 0).mask 31 = true → (s.thread 0).andMode = false → Live t 0)) ∧
  (∀ dt s, deadlockDue (s.later dt) = false → exec (.deadlock dt) s = .next (s.later dt)) ∧
  (∀ dt (c : Fin 8) s, coreOn s c = true →
    ((s.health.getD (chanKey 7 c) Health.reset).hist.filter (fun a => decide (s.now + dt ≤ a + Config.second))).length < 3 →
    Answers (.coreFault dt c) s fun t => t.mram.retired = s.mram.retired ∧
      s.now + dt ∈ (t.health.getD (chanKey 7 c) Health.reset).hist) ∧
  (∀ dt (c : Fin 8) s, coreOn s c = true → retiredCount s 7 < 2 →
    3 ≤ ((s.health.getD (chanKey 7 c) Health.reset).hist.filter
      (fun a => decide (s.now + dt ≤ a + Config.second))).length →
    Answers (.coreFault dt c) s fun t => coreOn t c = false ∧ isRetired t 7 c = true ∧ (t.core c).retired = true)

/-- BOOT starts when power, reset and the die allow it; it takes the sources in the order of the straps. An image that passes
every check of Table 13-10 is kept and self-test follows; a failure records its code and the next source is tried. A download
is checked on GO. A self-test that leaves the device able to run ends in CONFIG with the firmware thread at its entry, and one
that does not leaves it in BOOT. -/
def Obligations.BootChecksItsImageAndStarts : Prop :=
  (∀ dt s, bootReady (s.later dt) = true → s.pins.testEn = false →
    Answers (.bootStart dt) s fun t => t.devState = .boot ∧ t.boot.sources = bootOrder s.pins.bootSrc ∧
      t.boot.phase = bootPhase (bootOrder s.pins.bootSrc) ∧ t.power.trimAll = true) ∧
  (∀ dt s, bootReady (s.later dt) = false → exec (.bootStart dt) s = .next (s.later dt)) ∧
  (∀ dt img src rest s, s.devState = .boot → s.boot.phase = 2 → s.boot.sources = src :: rest → imgCode s img = 0 →
    Answers (.bootSourceDone dt true img) s fun t => t.boot.image = img ∧ t.boot.phase = 5 ∧ t.quiet = { (s.later dt).quiet with
      boot := t.boot }) ∧
  (∀ dt img src rest s, s.devState = .boot → s.boot.phase = 2 → s.boot.sources = src :: rest → imgCode s img ≠ 0 →
    Answers (.bootSourceDone dt true img) s fun t => t.boot.sources = rest ∧ t.boot.phase = bootPhase rest ∧
      t.devState = .boot ∧ (src = 0 → t.boot.slotA = imgCode s img) ∧ (src = 1 → t.boot.slotB = imgCode s img)) ∧
  (∀ dt img rest s, s.devState = .boot → s.boot.phase = 2 → s.boot.sources = 0 :: rest →
    Answers (.bootSourceDone dt false img) s fun t => t.boot.slotA = 8 ∧ t.boot.sources = rest) ∧
  (∀ dt n img s, s.devState = .boot → s.boot.phase = 3 →
    exec (.dlCtrlGo dt n img) s = .next ((s.later dt).modBoot fun b => { b with
      dlLength := n.toNat, dlImage := img.take n.toNat, phase := 4 })) ∧
  (∀ dt n img s, (s.devState ≠ .boot ∨ s.boot.phase ≠ 3) → exec (.dlCtrlGo dt n img) s = .next (s.later dt)) ∧
  (∀ dt s, s.devState = .boot → s.boot.phase = 4 → imgCode s s.boot.dlImage = 0 → dlFits s.boot.dlLength = true →
    Answers (.downloadCheckDone dt) s fun t => t.boot.image = s.boot.dlImage ∧ t.boot.phase = 5 ∧ t.boot.dlCode = 0) ∧
  (∀ dt s, s.devState = .boot → s.boot.phase = 4 → imgCode s s.boot.dlImage ≠ 0 →
    Answers (.downloadCheckDone dt) s fun t => t.boot.phase = 3 ∧ t.boot.dlCode ≠ 0 ∧ t.devState = .boot) ∧
  (∀ dt r s, s.devState = .boot → s.boot.phase = 5 → bootFails r (selftestApply r (s.later dt)) = false →
    Answers (.bootSelftestDone dt r) s fun t => t.devState = .config ∧ t.boot.phase = 6 ∧ t.pair.bootAt = s.now + dt ∧
      (t.thread 0).entry = imgField s.boot.image 32 8) ∧
  (∀ dt r s, s.devState = .boot → s.boot.phase = 5 → bootFails r (selftestApply r (s.later dt)) = true →
    Answers (.bootSelftestDone dt r) s fun t => t.boot.phase = 0 ∧ t.devState = .boot)

/-- THREAD_POST sets a flag of a thread and is refused with RANGE for flag 31; THREAD_KILL and EXT_CMD STOP stop a running
extension, and firmware threads are refused with RANGE. EXT_CMD START starts an extension with the group, cluster and wake
mode of EXT_CFG, and is refused with STATE while it has no image. -/
def Obligations.ThreadAndExtensionObjectsAct : Prop :=
  (∀ dt door v d w u f s, Written s door 0x9011 0 v none d w → Other s 512 → w.bits 24 16 = u → w.bits 4 0 = f → f ≠ 31 →
    (s.thread u).st ≠ .free → (s.thread u).st ≠ .faulted → (s.thread u).st ≠ .waiting →
    Answers (.threadPost dt door v) s fun t => t.thread u = { s.thread u with flags := (s.thread u).flags ||| 2 ^ f }) ∧
  (∀ dt door v d w s, Written s door 0x9011 0 v none d w → w.bits 4 0 = 31 →
    (doorWrite door 0x9011 0 v threadPostEffect s).1 = stRange ∧
    Answers (.threadPost dt door v) s fun t => t.sched = s.sched) ∧
  (∀ dt door v d w k s, Written s door 0x9012 0 v none d w → w.toNat = 448 + k → k < 64 → extRunning s k = true →
    Map.wf s.sched.threads = true →
    Answers (.threadKill dt door v) s fun t => (t.thread (448 + k)).st = .faulted ∧ t.dv 0x9043 k = 4 * 2 ^ 24 + 3) ∧
  (∀ dt door v d w s, Written s door 0x9012 0 v none d w → w.toNat < 448 →
    (doorWrite door 0x9012 0 v threadKillEffect s).1 = stRange ∧
    Answers (.threadKill dt door v) s fun t => t.sched = s.sched) ∧
  (∀ dt door (k : Fin 64) s, Written s door 0x9042 k 1 none k 1 → ((s.dwide 0x9040 k).getD []).length ≠ 0 →
    (s.thread (448 + k.val)).st = .free → extRunning s k = false →
    Answers (.extCmdStart dt door k) s fun t => t.dv 0x9043 k = 2 ∧ (t.thread (448 + k.val)).group = bitsN (s.dv 0x9041 k) 2 0 ∧
      (t.thread (448 + k.val)).cluster = min (bitsN (s.dv 0x9041 k) 19 18) 2 ∧
      (t.thread (448 + k.val)).wake = bitsN (s.dv 0x9041 k) 17 16) ∧
  (∀ dt door (k : Fin 64) s, Written s door 0x9042 k 1 none k 1 → (s.dwide 0x9040 k).getD [] = [] →
    (doorWrite door 0x9042 k 1 extCmdEffect s).1 = stState ∧
    Answers (.extCmdStart dt door k) s fun t => t.sched = s.sched) ∧
  (∀ dt door (k : Fin 64) s, Written s door 0x9042 k 2 none k 2 → extRunning s k = true → Map.wf s.sched.threads = true →
    Answers (.extCmdStop dt door k) s fun t => (t.thread (448 + k.val)).st = .faulted ∧ t.dv 0x9043 k = 4 * 2 ^ 24 + 3)

/-- An accepted move waits for the next update and cancels an armed command; stops and position settings act at once, a hard
stop above AX_START_RATE leaving the position uncertain. AX_ARM holds a command, and AX_START starts every armed one. A
command that R311, R315 or R319 does not allow is refused with STATE, and one by a unit without the reins is counted; the axes
stay as they are. -/
def Obligations.AxisCommandsAreTakenUp : Prop :=
  (∀ dt door (n : Fin 8) i c s, (i, c) ∈ [(Instr.axMoveAbs dt door n, 1), (.axMoveRel dt door n, 2), (.axJogPos dt door n, 3),
      (.axJogNeg dt door n, 4)] → Written s door 0xA007 n (BitVec.ofNat 64 c) none n (BitVec.ofNat 64 c) → holder s = true →
    axAllowed s n c = true →
    Answers i s fun t => t.axis n = { s.axis n with armed := none, next := some c } ∧ t.quiet = { (s.later dt).quiet with
      axes := t.axes }) ∧
  (∀ dt door (n : Fin 8) s, Written s door 0xA007 n 7 none n 7 → holder s = true → axAllowed s n 7 = true →
    exec (.axHome dt door n) s = .next ((s.later dt).modAxis n fun x => { x with next := some 7 })) ∧
  (∀ dt door (n : Fin 8) s, Written s door 0xA007 n 5 none n 5 → holder s = true → axAllowed s n 5 = true →
    (s.axis n).moving = true →
    exec (.axStopRamp dt door n) s = .next ((s.later dt).modAxis n fun x => { x with
      mode := .stop, cause := 1, decel := stopDecel s n, next := none, acc := 0 })) ∧
  (∀ dt door (n : Fin 8) s, Written s door 0xA007 n 6 none n 6 → holder s = true → axAllowed s n 6 = true →
    (s.axis n).moving = true →
    Answers (.axStopHard dt door n) s fun t => t.axis n = { s.axis n with
      mode := .idle, vel := 0, acc := 0, next := none
      uncertain := (s.axis n).uncertain || decide (((s.dv 0xA005 n : Nat) : Int) * velUnit < (s.axis n).vel.natAbs) }) ∧
  (∀ dt door (n : Fin 8) s, Written s door 0xA007 n 8 none n 8 → holder s = true → axAllowed s n 8 = true →
    exec (.axSetPos dt door n) s = .next ((s.later dt).modAxis n fun x => { x with
      pos := s.dvi 0xA006 n * stepUnit, uncertain := false })) ∧
  (∀ dt door (n : Fin 8) s, Written s door 0xA007 n 9 none n 9 → holder s = true → axAllowed s n 9 = true →
    exec (.axSetFromSsi dt door n) s = .next ((s.later dt).modAxis n fun x => { x with
      pos := ssiPosition s n (s.dv 0xA023 (ssiPort s n)) * stepUnit, uncertain := false, followErr := false })) ∧
  (∀ dt door (n : Fin 8) (c : BitVec 7) v s, v = BitVec.ofNat 64 (128 + c.toNat) → Written s door 0xA007 n v none n v →
    holder s = true → 0 < c.toNat → c.toNat ≤ 9 → axAllowed s n c.toNat = true →
    exec (.axArm dt door n c) s = .next ((s.later dt).modAxis n fun x => { x with armed := some c.toNat })) ∧
  (∀ dt door (n : Fin 8) (c : BitVec 7) v s, v = BitVec.ofNat 64 (128 + c.toNat) → Written s door 0xA007 n v none n v →
    (c.toNat = 0 ∨ 9 < c.toNat) →
    (doorWrite door 0xA007 n v axCommand s).1 = stRange ∧ Answers (.axArm dt door n c) s fun t => t.axes = s.axes) ∧
  (∀ dt door v (n : Fin 8) c s, Written s door 0xA010 0 v none 0 1 → holder s = true → (s.axis n).armed = some c →
    c ∈ [1, 2, 3, 4, 7] →
    Answers (.axStart dt door v) s fun t => t.axis n = { s.axis n with armed := none, next := some c }) ∧
  (∀ dt door (n : Fin 8) i c s, (i, c) ∈ [(Instr.axMoveAbs dt door n, 1), (.axMoveRel dt door n, 2), (.axJogPos dt door n, 3),
      (.axJogNeg dt door n, 4), (.axStopRamp dt door n, 5), (.axStopHard dt door n, 6), (.axHome dt door n, 7),
      (.axSetPos dt door n, 8), (.axSetFromSsi dt door n, 9)] →
    Written s door 0xA007 n (BitVec.ofNat 64 c) none n (BitVec.ofNat 64 c) → (holder s = true → axAllowed s n c = false) →
    (doorWrite door 0xA007 n (BitVec.ofNat 64 c) axCommand s).1 = stState ∧
    Answers i s fun t => t.axes = s.axes ∧
      t.dv 0x8014 1 = if holder s then s.dv 0x8014 1 else satAdd32 (s.dv 0x8014 1) 1)

/-- An update takes up the waiting command: a jog runs toward AX_VMAX, within the step rate of R387, at AX_ACCEL where AX_JERK
is 0, the holder driving its steps, and no step within AX_DIR_SETUP of a change of DIR, an absolute move has its target. A
limit met in the direction of motion stops the axis; the home edge sets AX_HOME_OFFSET and begins the ramp; a standby counts
the holder's steps. A read of an SSI port latches AX_POS; a valid frame gives the value and ends a fault, the third invalid
one in a row stops the moving axes that use the port. -/
def Obligations.AxesMoveAndReportBack : Prop :=
  (∀ dt (n : Fin 8) v d w s, (∀ c < 4, (s.cam c).search = none) → (s.axis n).next = some 3 → limitRefuses s n 3 = false →
    s.dv 0xA004 n = 0 → v = toward (s.axis n).vel ((axVmax s n : Nat) * velUnit) (s.dv 0xA002 n) →
    d = ({ s.axis n with pos := (s.axis n).pos + v } : Axis).steps - (s.axis n).steps →
    w = (if v = 0 ∨ v.sign = (s.axis n).dir then (s.axis n).dirAt else some (s.now + dt)) →
    Answers (.axProfileTick dt) s fun t => (t.axis n).dirAt = w ∧
      if d ≠ 0 ∧ withinFilter (s.dv 0xA00E n) (s.now + dt) w = true then
        (t.axis n).mode = (s.axis n).mode ∧ (t.axis n).vel = 0 ∧ (t.axis n).pos = (s.axis n).pos ∧ (t.axis n).next = some 3
      else (t.axis n).mode = .jog ∧ (t.axis n).vel = v ∧ (t.axis n).pos = (s.axis n).pos + v ∧ (t.axis n).next = none ∧
        (d ≠ 0 → holder s = true → Out.steps n (decide (0 < d) != axCfg s n 1) d.natAbs ∈ t.out)) ∧
  (∀ dt (n : Fin 8) s, (∀ c < 4, (s.cam c).search = none) → (s.axis n).next = some 1 → limitRefuses s n 1 = false →
    (s.axis n).vel = 0 → (s.dvi 0xA006 n - (s.axis n).steps).sign = (s.axis n).dir →
    withinFilter (s.dv 0xA00E n) (s.now + dt) (s.axis n).dirAt = false →
    Answers (.axProfileTick dt) s fun t => (t.axis n).target = s.dvi 0xA006 n * stepUnit ∧ (t.axis n).next = none ∧
      ((t.axis n).mode = .move ∨ (t.axis n).pos = s.dvi 0xA006 n * stepUnit)) ∧
  (∀ dt (n : Fin 8) c s, (∀ c < 4, (s.cam c).search = none) → (s.axis n).next = some c → limitRefuses s n c = true →
    Answers (.axProfileTick dt) s fun t => t.axis n = { s.axis n with next := none, runs := (t.axis n).runs }) ∧
  (∀ dt (n : Fin 8) s, (∀ c < 4, (s.cam c).search = none) → (s.axis n).next = none → (s.axis n).mode = .idle →
    Answers (.axProfileTick dt) s fun t => t.axis n = { s.axis n with runs := (t.axis n).runs }) ∧
  (∀ dt (n : Fin 8) up s, axCfg s n (if up then 4 else 5) = true → (s.axis n).moving = true →
    (s.axis n).heading = (if up then 1 else -1) → axCfg s n 8 = false →
    Answers (.axLimitInput dt n up) s fun t => (t.axis n).mode = .idle ∧ (t.axis n).vel = 0 ∧
      (if up then (t.axis n).atP else (t.axis n).atN) = true ∧ (t.axis n).pos = (s.axis n).pos) ∧
  (∀ dt (n : Fin 8) up s, axCfg s n (if up then 4 else 5) = false → exec (.axLimitInput dt n up) s =
    .next ((s.later dt).modAxis n fun x => if up then { x with atP := true } else { x with atN := true })) ∧
  (∀ dt (n : Fin 8) up s, exec (.axLimitRelease dt n up) s = .next ((s.later dt).modAxis n fun x =>
    if up then { x with atP := false, both := false } else { x with atN := false, both := false })) ∧
  (∀ dt (n : Fin 8) s, (s.axis n).mode = .home → axCfg s n 6 = true →
    exec (.axHomeEdge dt n) s = .next ((s.later dt).modAxis n fun x => { x with
      pos := s.dvi 0xA00C n * stepUnit, mode := .homed, decel := stopDecel s n, uncertain := false, homed := true })) ∧
  (∀ dt (n : Fin 8) up s, holder s = false →
    Answers (.axStepObserved dt n up) s fun t => (t.axis n).pos = (s.axis n).pos + (if up then stepUnit else -stepUnit) ∧
      (t.axis n).uncertain = (s.axis n).uncertain ∧ (t.axis n).mode = (s.axis n).mode) ∧
  (∀ dt (p : Fin 4) s, bitN (s.dv 0xA020 p) 6 = true → (s.ssi p).busy = false →
    exec (.ssiPeriodTick dt p) s = .next ((s.later dt).modSsi p fun x => { x with
      busy := true, latched := (ssiAxes s p).map (fun n => (n, (s.axis n).steps)) })) ∧
  (∀ dt (p : Fin 4) raw s, (s.ssi p).busy = true → bitN (s.dv 0xA020 p) 5 = false →
    Answers (.ssiFrameDone dt p raw true true) s fun t => t.dv 0xA023 p = raw.toNat % 2 ^ (bitsN (s.dv 0xA020 p) 4 0 + 8) ∧
      (t.ssi p).bad = 0 ∧ (t.ssi p).busy = false ∧ t.dv 0xA024 p = s.dv 0xA024 p ∧
      (3 ≤ (s.ssi p).bad → ∀ n ∈ ssiAxes s p, (t.axis n).ssiFault = false)) ∧
  (∀ dt (p : Fin 4) raw hi lo s, (s.ssi p).busy = true → (hi && lo) = false →
    Answers (.ssiFrameDone dt p raw hi lo) s fun t => t.dv 0xA023 p = s.dv 0xA023 p ∧
      t.dv 0xA024 p = satAdd32 (s.dv 0xA024 p) 1 ∧ (t.ssi p).bad = (s.ssi p).bad + 1 ∧
      ((s.ssi p).bad = 2 → ∀ n ∈ ssiAxes s p, (t.axis n).ssiFault = true ∧
        ((s.axis n).moving = true → (t.axis n).mode = .stop ∧ (t.axis n).cause = 7)))

/-- A pulse ends after CMP_WIDTH; a waiting request starts its low time and then its own pulse. RESTART sets CMP_INDEX to 0,
PULSE pulses in manual mode, and a standby refuses both with STATE. A list is stored where its entries are strictly monotonic
in DIR and refused with RANGE otherwise. -/
def Obligations.CompareOutputsPulse : Prop :=
  (∀ dt (k : Fin 8) e s, (s.cmp k).until_ = some e → e ≤ s.now + dt →
    exec (.cmpPulseEnd dt k) s = .next ((s.later dt).modCmp k fun x => { x with
      until_ := none, lowUntil := if 0 < (s.cmp k).waiting then some (s.now + dt + s.dv 0xA101 k) else none })) ∧
  (∀ dt (k : Fin 8) s, (∀ e, (s.cmp k).until_ = some e → s.now + dt < e) → exec (.cmpPulseEnd dt k) s = .next (s.later dt)) ∧
  (∀ dt (k : Fin 8) e s, (s.cmp k).lowUntil = some e → e ≤ s.now + dt → (s.cmp k).until_ = none →
    Answers (.cmpLowTimeEnd dt k) s fun t => (t.cmp k).until_ = some (s.now + dt + s.dv 0xA101 k) ∧
      (t.cmp k).waiting = (s.cmp k).waiting - 1 ∧ (t.cmp k).lowUntil = none ∧
      t.dv 0xA106 k = (s.dv 0xA106 k + 1) % 2 ^ 32) ∧
  (∀ dt door (k : Fin 8) s, Written s door 0xA105 k 1 none k 1 → holder s = true →
    exec (.cmpRestart dt door k) s = .next ((s.later dt).modCmp k fun x => { x with index := 0, next := none })) ∧
  (∀ dt door (k : Fin 8) s, Written s door 0xA105 k 2 none k 2 → holder s = true → cmpMode s k = 3 →
    Answers (.cmpPulse dt door k) s fun t => (t.cmp k).until_ = some (s.now + dt + s.dv 0xA101 k) ∧
      t.dv 0xA106 k = if (s.cmp k).until_.isSome then s.dv 0xA106 k else (s.dv 0xA106 k + 1) % 2 ^ 32) ∧
  (∀ dt door (k : Fin 8) s, Written s door 0xA105 k 2 none k 2 → holder s = false →
    (doorWrite door 0xA105 k 2 cmpCommand s).1 = stState ∧
    Answers (.cmpPulse dt door k) s fun t => t.cmps = s.cmps ∧ t.dv 0x8014 1 = satAdd32 (s.dv 0x8014 1) 1) ∧
  (∀ dt door (k : Fin 8) bytes who row s, whoIs s door = some who →
    blockGrant s door true 0xA102 k 0 bytes.length = .ok row none k → cmpListOk s k bytes = true →
    Answers (.cmpListWrite dt door k bytes) s fun t => t.dwide 0xA102 k = some bytes ∧ t.cmps = s.cmps) ∧
  (∀ dt door (k : Fin 8) bytes who row s, whoIs s door = some who →
    blockGrant s door true 0xA102 k 0 bytes.length = .ok row none k → cmpListOk s k bytes = false →
    (blockWrite door 0xA102 k 0 bytes s).1 = stRange ∧
    Answers (.cmpListWrite dt door k bytes) s fun t => t.dwide 0xA102 k = s.dwide 0xA102 k)

/-- An accepted ENABLE raises HVEN at once or after the strike of the last line launched, and DEAD, BLANK and ON follow 20 µs
and 200 µs after the rise. A trip in ON or DEAD trips the supply at once and is counted; one in BLANK is judged at its end; a
level that has not been held for TRIP_FILTER + 1 samples is none. Two supplies that trip within 1 ms take the device to SAFE
with every supply off or tripped. A standby's latch clears with the holder's. -/
def Obligations.SuppliesRiseTripAndFall : Prop :=
  (∀ dt door (k : Fin 16) s, Written s door 0xA200 k 1 none k 1 → holder s = true → hvFitted s k = true →
    (s.supply k).st = .off → (s.devState = .ready ∨ s.devState = .print) →
    Answers (.hvEnable dt door k) s fun t => match lastLaunched s k with
      | some l => if s.trig.en && s.trig.moving then (t.supply k).riseLine = some l ∧ (t.supply k).st = .off
          else (t.supply k).hven = true ∧ (t.supply k).riseAt = some (s.now + dt) ∧ (t.supply k).st = .dead
      | none => (t.supply k).hven = true ∧ (t.supply k).riseAt = some (s.now + dt) ∧ (t.supply k).st = .dead) ∧
  (∀ dt door (k : Fin 16) s, Written s door 0xA200 k 1 none k 1 → hvFitted s k = true →
    (holder s = false ∨ (s.supply k).st ≠ .off ∨ (s.devState ≠ .ready ∧ s.devState ≠ .print)) →
    (doorWrite door 0xA200 k 1 hvCommand s).1 = stState ∧
    Answers (.hvEnable dt door k) s fun t => t.supplies = s.supplies) ∧
  (∀ dt door (k : Fin 16) s, Written s door 0xA200 k 2 none k 2 → holder s = true → (s.supply k).st ≠ .tripped →
    Answers (.hvDisable dt door k) s fun t => (t.supply k).st = .off ∧ (t.supply k).hven = false) ∧
  (∀ dt (k : Fin 16) a s, (s.supply k).st = .dead → (s.supply k).riseAt = some a → a + 20 * Config.micro ≤ s.now + dt →
    Answers (.hvDeadEnd dt k) s fun t => (t.supply k).st = .blank ∧ (t.supply k).hven = (s.supply k).hven) ∧
  (∀ dt (k : Fin 16) a s, (s.supply k).st = .blank → (s.supply k).riseAt = some a → a + 200 * Config.micro ≤ s.now + dt →
    waitingEnds s = [] →
    Answers (.hvBlankEnd dt k) s fun t =>
      if (s.supply k).inBlank && tripNow s k then
        (t.supply k).st = .tripped ∧ (t.supply k).hven = false ∧ t.dv 0xA204 k = satAdd32 (s.dv 0xA204 k) 1
      else (t.supply k).st = .on ∧ (t.supply k).hven = (s.supply k).hven ∧ (t.supply k).inBlank = false ∧
        t.dv 0xA206 k = if (s.supply k).inBlank then satAdd32 (s.dv 0xA206 k) 1 else s.dv 0xA206 k) ∧
  (∀ dt (k : Fin 16) s, hvFitted s k = true → ((s.supply k).st = .on ∨ (s.supply k).st = .dead) → waitingEnds s = [] →
    withinFilter (filterTime (s.dv 0xA203 0)) (s.now + dt) (s.supply k).inputAt = false →
    Answers (.tripAccepted dt k) s fun t => (t.supply k).st = .tripped ∧ (t.supply k).hven = false ∧
      t.dv 0xA204 k = satAdd32 (s.dv 0xA204 k) 1 ∧ t.lastTrip = some (k.val, s.now + dt) ∧
      ∀ j u, s.lastTrip = some (j, u) → j ≠ k.val → s.now + dt ≤ u + Config.milli → t.devState = .safe ∧
        ∀ i < 16, (t.supply i).st = .off ∨ (t.supply i).st = .tripped) ∧
  (∀ dt (k : Fin 16) s, hvFitted s k = true → (s.supply k).st = .blank → waitingEnds s = [] →
    withinFilter (filterTime (s.dv 0xA203 0)) (s.now + dt) (s.supply k).inputAt = false →
    exec (.tripAccepted dt k) s = .next (((s.later dt).modSupply k fun x => { x with
      trip := true, tripAt := s.now + dt, inputAt := some (s.now + dt) }).modSupply k fun x => { x with inBlank := true })) ∧
  (∀ dt (k : Fin 16) s, waitingEnds s = [] →
    withinFilter (filterTime (s.dv 0xA203 0)) (s.now + dt) (s.supply k).inputAt = true →
    exec (.tripAccepted dt k) s = .next (s.later dt) ∧ exec (.tripInputDeasserted dt k) s = .next (s.later dt)) ∧
  (∀ dt (k : Fin 16) s, (s.supply k).trip = true →
    withinFilter (filterTime (s.dv 0xA203 0)) (s.now + dt) (s.supply k).inputAt = false →
    Answers (.tripInputDeasserted dt k) s fun t => (t.supply k).trip = false ∧ (t.supply k).st =
      if !holder s && (s.supply k).st == .tripped && !(s.supply k).mirrorLatch then .off else (s.supply k).st)

/-- R331: TRIP_CLEAR on a TRIPPED supply whose filtered input is deasserted returns it to OFF. While the input is asserted the
clear is ignored with status OK, 1 is added to TRIP_CLEAR_REFUSED, and the supply stays TRIPPED. In any other state it has no
effect. -/
def Obligations.TripClearActsOnTrippedSupplies : Prop :=
  (∀ dt door (k : Fin 16) s, Written s door 0xA200 k 3 none k 3 → holder s = true → (s.supply k).st = .tripped →
    tripNow s k = false →
    (doorWrite door 0xA200 k 3 hvCommand s).1 = stOK ∧
    Answers (.tripClear dt door k) s fun t => t.supply k = { s.supply k with st := .off } ∧ t.dv 0xA205 k = s.dv 0xA205 k) ∧
  (∀ dt door (k : Fin 16) s, Written s door 0xA200 k 3 none k 3 → holder s = true → (s.supply k).st = .tripped →
    tripNow s k = true →
    (doorWrite door 0xA200 k 3 hvCommand s).1 = stOK ∧
    exec (.tripClear dt door k) s = .next ((s.later dt).bump 0xA205 k)) ∧
  (∀ dt door (k : Fin 16) s, Written s door 0xA200 k 3 none k 3 → holder s = true → (s.supply k).st ≠ .tripped →
    (doorWrite door 0xA200 k 3 hvCommand s).1 = stOK ∧ exec (.tripClear dt door k) s = .next (s.later dt))

/-- A domain without work goes idle and a wanted one comes to RUN; FORCE_OFF turns a geyser or engine domain off with its
service bits, in CONFIG and READY only, and AUTO returns what is not retired. A valid rail table is stored, its flags at once;
groups follow one another after their delay, an entry late is tried three times more, readings are judged against their
tolerance. AVS raises VDD_CORE by 5 mV while a rate waits. -/
def Obligations.DomainsAndRailsFollow : Prop :=
  (∀ dt (d : Fin 36) s, domainsLive s = true → s.power.domains.getD d 0 = 2 → domainBusy s d = false →
    (d < 8 ∨ s.power.idleSince.getD d 0 + s.dv 0xB003 0 * Config.micro ≤ s.now + dt) →
    exec (.domainIdleTimeout dt d) s = .next ((s.later dt).modPower fun p => { p with
      domains := p.domains.set d 1, idleSince := p.idleSince.set d (s.now + dt) })) ∧
  (∀ dt (d : Fin 36) s, domainBusy s d = true → exec (.domainIdleTimeout dt d) s = .next (s.later dt)) ∧
  (∀ dt (d : Fin 36) s, domainsLive s = true → domainOff s d = false → s.power.domains.getD d 0 = 0 →
    Answers (.domainRunReady dt d) s fun t => t.power.domains.getD d 0 = 2) ∧
  (∀ dt door (d : Fin 36) s, Written s door 0xB002 d 1 none d 1 → d < 12 → s.dv 0xB002 d ≠ 1 →
    (s.devState = .config ∨ s.devState = .ready) →
    Answers (.forceOff dt door d) s fun t => t.dv 0xB002 d = 1 ∧ t.power.domains.getD d 0 = 0 ∧
      if d.val < 8 then ∀ k < 4, bitN (t.dv 0x3010 0) (4 * d.val + k) = false
      else ∀ k < 8, bitN (t.dv 0x2100 0) (8 * (d.val - 8) + k) = false) ∧
  (∀ dt door (d : Fin 36) s, Written s door 0xB002 d 1 none d 1 → (12 ≤ d ∨ (s.devState ≠ .config ∧ s.devState ≠ .ready)) →
    (doorWrite door 0xB002 d 1 domainCtrl s).1 = (if 12 ≤ d then stRange else stState) ∧
    Answers (.forceOff dt door d) s fun t => t.power = s.power ∧ t.dev = s.dev) ∧
  (∀ dt door (d : Fin 36) s, Written s door 0xB002 d 0 none d 0 → s.dv 0xB002 d = 1 →
    Answers (.domainAuto dt door d) s fun t => t.dv 0xB002 d = 0 ∧
      (d.val < 8 → ∀ k < 4, bitN (t.dv 0x3010 0) (4 * d.val + k) = !isRetired s 3 (4 * d.val + k))) ∧
  (∀ dt door bytes who row s, whoIs s door = some who → blockGrant s door true 0xB020 0 0 bytes.length = .ok row none 0 →
    Answers (.railTableWrite dt door bytes) s fun t => if railOk bytes then
        t.mram.railTable = bytes ∧ t.power.table = flagTable bytes s.power.table
      else t.mram = s.mram ∧ t.power = s.power) ∧
  (∀ dt s, s.power.railPhase = 1 → exec (.railGroupGood dt) s = .next ((s.later dt).modPower fun p => { p with
    railPhase := 2, railSince := s.now + dt, railTries := [] })) ∧
  (∀ dt s, s.power.railPhase = 2 → s.power.railSince + groupDelay s * Config.micro ≤ s.now + dt →
    Answers (.railDelayExpiry dt) s fun t => match nextGroup s (s.power.railOrder + 1) with
      | some g => t.power.railPhase = 1 ∧ t.power.railOrder = g ∧ t.power.railSince = s.now + dt
      | none => t.power.railPhase = 3) ∧
  (∀ dt (e : Fin 12) a s, s.power.railPhase = 1 → e.val ∈ railGroup s s.power.railOrder → s.power.railAt.get? e = some a →
    a + railField s.power.table e 8 * Config.micro ≤ s.now + dt →
    Answers (.railRampTimeout dt e) s fun t => if s.power.railTries.getD e 0 < 3 then
        t.power.railTries.getD e 0 = s.power.railTries.getD e 0 + 1 ∧ t.power.railPhase = 1 ∧
        t.out = s.out ++ [.pmbus e pmOperation pmOff, .pmbus e pmClear 0, .pmbus e pmVout (railNominal s.power.table e),
          .pmbus e pmOperation pmOn]
      else t.power.railPhase = 4 ∧ t.power.railFail = true) ∧
  (∀ dt (r : RailRead) i s, i = Instr.pmbusPoll dt [r] ∨ i = .smbalert dt [r] → s.power.railPhase = 3 → s.devState ≠ .halted →
    r.ok = true → r.entry < railCount s.power.table → r.voutMv < 2 ^ 16 → railFaultBits r.status.toNat = false →
    Answers i s fun t => t.dv 0xB021 r.entry = r.voutMv ∧ t.dv 0xB023 r.entry = r.status.toNat ∧
      t.power.railBad.getD r.entry 0 =
        if r.voutMv + railTol s.power.table r.entry < railLevel s r.entry ∨
          railLevel s r.entry + railTol s.power.table r.entry < r.voutMv then min 3 (s.power.railBad.getD r.entry 0 + 1) else 0) ∧
  (∀ dt (r : RailRead) i s, i = Instr.pmbusPoll dt [r] ∨ i = .smbalert dt [r] → s.power.railPhase = 3 → s.devState ≠ .halted →
    r.ok = true → r.entry < railCount s.power.table → railFaultBits r.status.toNat = true → s.power.railBad.getD r.entry 0 < 3 →
    Answers i s fun t => t.power.railFaultAt = some (s.now + dt) ∧
      (railKind s.power.table r.entry ≤ 4 → t.dv 0xC006 0 = satAdd32 (s.dv 0xC006 0) 1)) ∧
  (∀ dt (c : Canary) s, Answers (.canarySample dt [c]) s fun t =>
    t.power.caps.get? (c.kind.val * 16 + c.idx.val) = some c.capacity ∧ (s.power.enforced = none → t.power.enforced = none)) ∧
  (∀ dt s, avsEntries s ≠ [] → s.power.railPhase = 3 → trimRunning s 0x20 = false → domainsLive s = true →
    s.power.enforced.isSome = true → s.power.vcore < 900 →
    Answers (.avsStep dt) s fun t => t.power.vcore = min 900 (s.power.vcore + 5) ∧
      t.dv 0xB011 0 = satAdd32 (s.dv 0xB011 0) 1) ∧
  (∀ dt s, avsEntries s = [] → exec (.avsStep dt) s = .next (s.later dt))

/-- An implausible reading is counted; plausible ones give the effective temperatures, and 125 °C on two samples halts the
device with its outputs safe. A lasting difference of regions is counted and a device-class fault. THROTTLE_DUTY moves by one
between its thresholds. TRIM_CMD runs, saves (item 0xFF: every item that has passed) and restores as R352 lets it; the
periodic run starts its items; a run records PASS with its value, or FAIL with the value kept outside BOOT. -/
def Obligations.ThermalAndTrimAct : Prop :=
  (∀ dt temps volts (n : Nat) r s, n < 16 → s.pins.pwrgood = true → (s.fum n).retired = false → fumStale s n = false →
    temps[n]? = some r → 2400 < r →
    Answers (.fumSample dt temps volts) s fun t => t.dv 0xB10A n = satAdd32 (s.dv 0xB10A n) 1) ∧
  (∀ dt volts (r : Int) s, s.pins.pwrgood = true → -720 ≤ r → r ≤ 2400 →
    (∀ n < 16, (s.fum n).retired = false ∧ fumStale s n = false ∧ ∀ q, (s.fum n).prev = some q → (r - q).natAbs ≤ 80) →
    Answers (.fumSample dt (List.replicate 16 r) volts) s fun t =>
      (∀ n < 16, fumTemp t n = r ∧ t.dv 0xB10A n = s.dv 0xB10A n) ∧ t.dvi 0xB106 0 = r ∧
      (2000 ≤ r → s.power.shutdown = false → (∃ n < 16, 1 ≤ (s.fum n).hotRuns) →
        t.devState = .halted ∧ t.power.shutdown = true ∧ t.trig.en = false ∧ ∀ k, (t.supply k).hven = false)) ∧
  (∀ dt temps volts s, s.pins.pwrgood = false → exec (.fumSample dt temps volts) s = .next (s.later dt)) ∧
  (∀ dt (a b : Fin 16) v u s, s.power.skewSince.get? (skewKey a b v) = some u →
    Answers (.regionSkew dt a b v) s fun t =>
      if u + (if v then 10 * Config.micro else 100 * Config.milli) ≤ s.now + dt then
        t.power.skew = true ∧ t.dv 0xB109 0 = satAdd32 (s.dv 0xB109 0) 1 ∧ t.dv 0xC006 0 = satAdd32 (s.dv 0xC006 0) 1
      else t = s.later dt) ∧
  (∀ dt s, s.devState ≠ .halted → s.dv 0xB104 0 ≤ 12 →
    Answers (.throttleTick dt) s fun t => t.dv 0xB104 0 =
      if 16 * ((s.dv 0xB103 0 : Nat) : Int) ≤ s.dvi 0xB106 0 then min 12 (s.dv 0xB104 0 + 1)
      else if s.dvi 0xB106 0 < 16 * (((s.dv 0xB103 0 : Nat) : Int) - (s.dv 0xB103 1 : Nat)) then s.dv 0xB104 0 - 1
      else s.dv 0xB104 0) ∧
  (∀ dt door v s, Written s door 0xB107 1 v none 1 1 → exec (.shutdownClear dt door v) s =
    .next ((s.later dt).modMram fun m => { m with shutdownRec := List.replicate 32 0 })) ∧
  (∀ dt door (i : BitVec 8) v s, v = BitVec.ofNat 64 (256 * i.toNat + 1) → Written s door 0xB200 0 v none 0 v →
    trimExists i.toNat = true → (i = 0x20 → s.devState = .config) → trimRunning s i.toNat = false →
    s.power.trimWait.contains i.toNat = false →
    (doorWrite door 0xB200 0 v trimCommand s).1 = stOK ∧
    Answers (.trimRun dt door i) s fun t => if trimBlocked s i.toNat then i.toNat ∈ t.power.trimWait ∧ t.trim = s.trim
      else trimRunning t i.toNat = true) ∧
  (∀ dt door (i : BitVec 8) v s, v = BitVec.ofNat 64 (256 * i.toNat + 1) → Written s door 0xB200 0 v none 0 v →
    (i = 0x20 ∧ s.devState ≠ .config ∨ i ≠ 0x20 ∧ trimExists i.toNat = true ∧ trimRunning s i.toNat = true) →
    (doorWrite door 0xB200 0 v trimCommand s).1 = (if i = 0x20 then stState else stBusy) ∧
    Answers (.trimRun dt door i) s fun t => t.trim = s.trim ∧ t.power = s.power) ∧
  (∀ dt door (i : BitVec 8) v s, v = BitVec.ofNat 64 (256 * i.toNat + 2) → Written s door 0xB200 0 v none 0 v →
    trimExists i.toNat = true → (s.trimItem i.toNat).result = 1 →
    Answers (.trimSave dt door i) s fun t => t.mram.trim.get? i.toNat = some (s.trimItem i.toNat).value ∧
      t.mram.trimValid = true ∧ t.mram.trimTime = (s.later dt).time) ∧
  (∀ dt door v s, v = BitVec.ofNat 64 (256 * 0xFF + 2) → Written s door 0xB200 0 v none 0 v →
    Answers (.trimSave dt door 0xFF) s fun t => ∀ i ∈ trimItems, (s.trimItem i).result = 1 →
      t.mram.trim.get? i = some (s.trimItem i).value) ∧
  (∀ dt door (i : BitVec 8) v x s, v = BitVec.ofNat 64 (256 * i.toNat + 3) → Written s door 0xB200 0 v none 0 v →
    trimExists i.toNat = true → s.mram.trimValid = true → s.mram.trim.get? i.toNat = some x →
    (doorWrite door 0xB200 0 v trimCommand s).1 = (if s.devState = .config then stOK else stState) ∧
    Answers (.trimRestore dt door i) s fun t => if s.devState = .config then
        t.trimItem i.toNat = { s.trimItem i.toNat with value := x, fromSaved := true }
      else t.trim = s.trim) ∧
  (∀ dt s, s.dv 0xB202 0 ≠ 0 → s.power.trimAt + s.dv 0xB202 0 * Config.second ≤ s.now + dt → s.devState ≠ .halted →
    Answers (.trimPeriodTick dt) s fun t => t.power.trimAt = s.now + dt ∧ trimRunning t 0x21 = true ∧
      (s.devState ≠ .doze → ∀ i, 16 ≤ i → i < 32 → trimRunning t i = true)) ∧
  (∀ dt s, s.dv 0xB202 0 = 0 → exec (.trimPeriodTick dt) s = .next (s.later dt)) ∧
  (∀ dt (i : BitVec 8) (v : BitVec 16) (r : Byte) s, trimRunning s i.toNat = true → s.power.trimWait = [] →
    Answers (.trimDone dt i v r) s fun t => (t.trimItem i.toNat).running = false ∧ (t.trimItem i.toNat).residual = r.toNat ∧
      if r.toNat ≤ trimLimit i.toNat then (t.trimItem i.toNat).result = 1 ∧ (t.trimItem i.toNat).value = v.toNat ∧
        (t.trimItem i.toNat).fails = 0
      else (t.trimItem i.toNat).result = 2 ∧ (t.trimItem i.toNat).fails = (s.trimItem i.toNat).fails + 1 ∧
        (s.devState ≠ .boot → (t.trimItem i.toNat).value = (s.trimItem i.toNat).value))

/-- R363: a write of 1 to REPLACE_CLEAR clears the DEVICE and HEAD bits, and is accepted only in CONFIG, with status STATE
otherwise. Every other cause is judged again at once, so that a threshold still reached sets its bit again in the same update;
a bit of self-diagnosis newly set releases the reins. -/
def Obligations.ReplaceClearJudgesAgain : Prop :=
  (∀ dt door v s, Written s door 0xC002 0 v none 0 1 → s.devState = .config →
    (doorWrite door 0xC002 0 v replaceClearEffect s).1 = stOK ∧
    Answers (.replaceClear dt door v) s fun t => bitN t.mram.cause 9 = false ∧ bitN t.mram.cause 10 = false ∧
      t.mram.cause = classCause s ||| rateCause s ∧
      (selfDiagnosis (t.mram.cause - (t.mram.cause &&& s.mram.cause)) = true → pairMode s = true → t.pair.holder = false)) ∧
  (∀ dt door v s, Written s door 0xC002 0 v none 0 1 → s.devState ≠ .config →
    (doorWrite door 0xC002 0 v replaceClearEffect s).1 = stState ∧
    Answers (.replaceClear dt door v) s fun t => t.mram = s.mram)

/-- A retired geyser, engine, core or sensor returns to service in CONFIG with its history cleared. ZEROIZE clears every key
and closes every session; a read-back that is not zero repeats it three times and is then a device-class fault that locks the
scan. The interconnect test runs in CONFIG with every supply off, and gives each group pass, fail or skipped. A TAP opcode
other than IDCODE acts only with TEST_EN after zeroisation. -/
def Obligations.ReinstatementZeroisationAndTests : Prop :=
  (∀ dt door v w cls ch s, Written s door 0xC005 0 v none 0 w → w.bits 15 8 = cls → w.bits 7 0 = ch → s.devState = .config →
    reinstatable cls = true → isRetired s cls ch = true →
    (doorWrite door 0xC005 0 v reinstateEffect s).1 = stOK ∧
    Answers (.reinstate dt door v) s fun t => isRetired t cls ch = false ∧ t.health.get? (chanKey cls ch) = none ∧
      (cls = 7 → ch < 8 → coreOn t ch = true) ∧ (cls = 8 → (t.fum ch).retired = false) ∧
      (cls = 3 → ch < 32 → bitN (t.dv 0x3010 0) ch = decide (s.dv 0xB002 (ch / 4) ≠ 1))) ∧
  (∀ dt door v w s, Written s door 0xC005 0 v none 0 w →
    (s.devState ≠ .config ∨ reinstatable (w.bits 15 8) = false ∨ isRetired s (w.bits 15 8) (w.bits 7 0) = false) →
    (doorWrite door 0xC005 0 v reinstateEffect s).1 = (if s.devState = .config then stRange else stState) ∧
    Answers (.reinstate dt door v) s fun t => t.mram = s.mram) ∧
  (∀ dt door v s, Written s door 0xC040 0 v none 0 1 → s.test.zeroising = false →
    Answers (.zeroize dt door v) s fun t => t.mram.keys = [] ∧ (∀ b, (t.bar b).keys = []) ∧ t.moa.sessions = [] ∧
      t.test.zeroising = true ∧ t.test.zeroDone = false) ∧
  (∀ dt s, s.test.zeroising = true →
    Answers (.zeroised dt true) s fun t => t.test.zeroising = false ∧ t.test.zeroDone = true ∧
      t.mram.zeroisations = min (s.mram.zeroisations + 1) 65535) ∧
  (∀ dt s, s.test.zeroising = true →
    Answers (.zeroised dt false) s fun t => if s.test.zeroTries < 3 then
        t.test.zeroising = true ∧ t.test.zeroTries = s.test.zeroTries + 1 ∧ t.mram.keys = []
      else t.test.zeroising = false ∧ t.test.scanLocked = true ∧ t.test.zeroDone = s.test.zeroDone ∧
        t.dv 0xC006 0 = satAdd32 (s.dv 0xC006 0) 1) ∧
  (∀ dt door v s, Written s door 0xC100 0 v none 0 1 → s.devState = .config → (∀ k < 16, (s.supply k).st = .off) →
    s.test.selftest = 0 →
    (doorWrite door 0xC100 0 v selftestEffect s).1 = stOK ∧
    Answers (.selftestCmd dt door v) s fun t => t.test.selftest = 1 ∨ t.test.selftest = 2) ∧
  (∀ dt door v s, Written s door 0xC100 0 v none 0 1 → (s.devState ≠ .config ∨ ∃ k < 16, (s.supply k).st ≠ .off) →
    (doorWrite door 0xC100 0 v selftestEffect s).1 = stState ∧
    Answers (.selftestCmd dt door v) s fun t => t.test = s.test) ∧
  (∀ dt vs s, s.test.selftest ≠ 0 →
    Answers (.ictDone dt vs) s fun t => t.test.selftest = 0 ∧ ∀ g < ictGroups s, bitsN (t.dv 0xC111 g) 7 0 =
      if ictRuns s g then
        (if crc32c ((vs.getD g []).take (ictBytes s g)) = ictField (ictTable s) g 8 4 then 1 else 2) else 3) ∧
  (∀ dt door bytes cells who row s, whoIs s door = some who →
    blockGrant s door true 0xC110 0 0 bytes.length = .ok row none 0 →
    Answers (.ictTableWrite dt door bytes cells) s fun t => t.test.ictCells = cells ∧
      t.dwide 0xC110 0 = if ictOk cells bytes then some bytes else s.dwide 0xC110 0) ∧
  (∀ dt i c s, (i, c) ∈ [(Instr.tapIdcode dt, 1), (.tapSamplePreload dt, 2), (.tapExtest dt, 3), (.tapClamp dt, 4),
      (.tapHighz dt, 5), (.tapExtestPulse dt, 6), (.tapExtestTrain dt, 7)] →
    exec i s = .next (((s.later dt).modTest fun x => { x with opcode := tapActs s c }).emit (.tap (tapActs s c))) ∧
    (s.pins.testEn = false ∨ s.test.zeroDone = false → c ≠ 1 → tapActs s c = 0xFF)) ∧
  (∀ dt (op : Byte) s, exec (.tapBypass dt op) s = .next
    (((s.later dt).modTest fun x => { x with opcode := tapActs s op.toNat }).emit (.tap (tapActs s op.toNat))))

/-- RST_N low, a failed reference clock and the fall of PWRGOOD leave the device HALTED with every object at its default and
its outputs unconfigured, MRAM and the fused counter as they are. At the rise of RST_N the straps are latched, TEST_EN
zeroising. The rise of PWRGOOD is a power-on reset: LOCAL_COUNT starts at 0 and the power-on is counted. -/
def Obligations.ResetLeavesTheDefaults : Prop :=
  (∀ dt i s, i = Instr.resetAsserted dt ∧ s.pins.rstN = true ∨ i = .referenceClockFailure dt true ∧ s.pins.sdsclk = true ∨
      i = .referenceClockFailure dt false ∧ s.pins.refclk = true ∨ i = .pwrgoodFall dt ∧ s.pins.pwrgood = true →
    Answers i s fun t => t.devState = .halted ∧ t.dev = State.reset.dev ∧ t.bars = State.reset.bars ∧ t.moa = State.reset.moa ∧
      t.supplies = State.reset.supplies ∧ t.axes = State.reset.axes ∧ t.subch = [] ∧ t.sched = State.reset.sched ∧
      t.mram.keys = s.mram.keys ∧ t.mram.retired = s.mram.retired ∧ t.mram.log = s.mram.log ∧
      rollbackFuse t = rollbackFuse s) ∧
  (∀ dt s, s.pins.rstN = true → Answers (.resetAsserted dt) s fun t => t.pins = { s.pins with rstN := false }) ∧
  (∀ dt sds s, (if sds then s.pins.sdsclk else s.pins.refclk) = false →
    exec (.referenceClockFailure dt sds) s = .next (s.later dt)) ∧
  (∀ dt pid (src : Fin 4) s, s.pins.rstN = false →
    exec (.resetReleased dt pid src false) s = .next ((s.later dt).modPins fun p => { p with
      rstN := true, pairId := pid, bootSrc := src.val, testEn := false })) ∧
  (∀ dt pid (src : Fin 4) s, s.pins.rstN = false →
    Answers (.resetReleased dt pid src true) s fun t => t.pins.testEn = true ∧ t.test.zeroising = true ∧ t.mram.keys = []) ∧
  (∀ dt pid (src : Fin 4) te s, s.pins.rstN = true → exec (.resetReleased dt pid src te) s = .next (s.later dt)) ∧
  (∀ dt s, s.pins.pwrgood = false →
    Answers (.pwrgoodRise dt) s fun t => t.pins.pwrgood = true ∧ t.now = 0 ∧ t.devState = .halted ∧
      t.mram.powerOns = s.mram.powerOns + 1 ∧ t.dev = State.reset.dev ∧ t.subch = [] ∧
      (railUsable s.mram.railTable = false → t.power.railPhase = 3)) ∧
  (∀ dt s, s.pins.pwrgood = true → Answers (.pwrgoodFall dt) s fun t => t.pins.pwrgood = false ∧ t.power.raised = [])

/-- From every state in which the bytes of each subchannel are listed by strictly rising address without a byte 0, every step
leads to a state in which they are again, whatever the command at the front of the queue. -/
def Obligations.MemoryStaysCanonical : Prop :=
  ∀ s t : State, MemoryCanonical s → step s = .next t → MemoryCanonical t

/-- State.reset lists no byte of any subchannel, which is the canonical form. (What DRAM reads as before it is written is the
model's choice, assumption log 11.) -/
def Obligations.MemoryIsCanonicalAtReset : Prop :=
  MemoryCanonical State.reset

/-- Of every command other than a memory controller's own (R253), the start of BOOT, the end of DOZE, and the loss or rise of
power, reset and clocks, every byte of every subchannel reads after it as it read before. -/
def Obligations.OnlyTheControllersChangeMemory : Prop :=
  ∀ (c : Instr) (s t : State), c.keepsMemory = true → exec c s = .next t → SameMemory s t

/-- No command lowers the fused rollback counter, power and reset included. Only the end of BOOT raises it, to the version of
the image that passed its checks and whose ADVANCE flag is set. -/
def Obligations.RollbackCounterNeverFalls : Prop :=
  ∀ (c : Instr) (s t : State), exec c s = .next t → rollbackFuse s ≤ rollbackFuse t ∧
    (rollbackFuse s ≠ rollbackFuse t → ∃ dt r, c = .bootSelftestDone dt r ∧ s.devState = .boot ∧
      bitN (imgField s.boot.image 19 1) 0 = true ∧ rollbackFuse t = imgField s.boot.image 16 2)
end

