-- ==== Sys2Proof/Laws/State.lean ====
section
/-!
SUPPORT. One lemma per field of State and named update: what the update leaves as it was. All hold by computation, so that
no later proof unfolds a record update.
-/
namespace Sys2Proof.Machine
open Sys2Proof

/-! ### modBar -/

@[simp] theorem modBar_now : ∀ s b f, (State.modBar s b f).now = s.now := fun _ _ _ => rfl
@[simp] theorem modBar_pending : ∀ s b f, (State.modBar s b f).pending = s.pending := fun _ _ _ => rfl
@[simp] theorem modBar_out : ∀ s b f, (State.modBar s b f).out = s.out := fun _ _ _ => rfl
@[simp] theorem modBar_freeCount : ∀ s b f, (State.modBar s b f).freeCount = s.freeCount := fun _ _ _ => rfl
@[simp] theorem modBar_devState : ∀ s b f, (State.modBar s b f).devState = s.devState := fun _ _ _ => rfl
@[simp] theorem modBar_printAt : ∀ s b f, (State.modBar s b f).printAt = s.printAt := fun _ _ _ => rfl
@[simp] theorem modBar_dev : ∀ s b f, (State.modBar s b f).dev = s.dev := fun _ _ _ => rfl
@[simp] theorem modBar_fns : ∀ s b f, (State.modBar s b f).fns = s.fns := fun _ _ _ => rfl
@[simp] theorem modBar_moa : ∀ s b f, (State.modBar s b f).moa = s.moa := fun _ _ _ => rfl
@[simp] theorem modBar_deqHead : ∀ s b f, (State.modBar s b f).deqHead = s.deqHead := fun _ _ _ => rfl
@[simp] theorem modBar_deqTail : ∀ s b f, (State.modBar s b f).deqTail = s.deqTail := fun _ _ _ => rfl
@[simp] theorem modBar_deqLost : ∀ s b f, (State.modBar s b f).deqLost = s.deqLost := fun _ _ _ => rfl
@[simp] theorem modBar_clock : ∀ s b f, (State.modBar s b f).clock = s.clock := fun _ _ _ => rfl
@[simp] theorem modBar_net : ∀ s b f, (State.modBar s b f).net = s.net := fun _ _ _ => rfl
@[simp] theorem modBar_encs : ∀ s b f, (State.modBar s b f).encs = s.encs := fun _ _ _ => rfl
@[simp] theorem modBar_trig : ∀ s b f, (State.modBar s b f).trig = s.trig := fun _ _ _ => rfl
@[simp] theorem modBar_marks : ∀ s b f, (State.modBar s b f).marks = s.marks := fun _ _ _ => rfl
@[simp] theorem modBar_ports : ∀ s b f, (State.modBar s b f).ports = s.ports := fun _ _ _ => rfl
@[simp] theorem modBar_drays : ∀ s b f, (State.modBar s b f).drays = s.drays := fun _ _ _ => rfl
@[simp] theorem modBar_supplies : ∀ s b f, (State.modBar s b f).supplies = s.supplies := fun _ _ _ => rfl
@[simp] theorem modBar_lastTrip : ∀ s b f, (State.modBar s b f).lastTrip = s.lastTrip := fun _ _ _ => rfl
@[simp] theorem modBar_safeCause : ∀ s b f, (State.modBar s b f).safeCause = s.safeCause := fun _ _ _ => rfl
@[simp] theorem modBar_axes : ∀ s b f, (State.modBar s b f).axes = s.axes := fun _ _ _ => rfl
@[simp] theorem modBar_ssis : ∀ s b f, (State.modBar s b f).ssis = s.ssis := fun _ _ _ => rfl
@[simp] theorem modBar_cmps : ∀ s b f, (State.modBar s b f).cmps = s.cmps := fun _ _ _ => rfl
@[simp] theorem modBar_cams : ∀ s b f, (State.modBar s b f).cams = s.cams := fun _ _ _ => rfl
@[simp] theorem modBar_health : ∀ s b f, (State.modBar s b f).health = s.health := fun _ _ _ => rfl
@[simp] theorem modBar_engines : ∀ s b f, (State.modBar s b f).engines = s.engines := fun _ _ _ => rfl
@[simp] theorem modBar_deflaters : ∀ s b f, (State.modBar s b f).deflaters = s.deflaters := fun _ _ _ => rfl
@[simp] theorem modBar_place : ∀ s b f, (State.modBar s b f).place = s.place := fun _ _ _ => rfl
@[simp] theorem modBar_deficit : ∀ s b f, (State.modBar s b f).deficit = s.deficit := fun _ _ _ => rfl
@[simp] theorem modBar_subch : ∀ s b f, (State.modBar s b f).subch = s.subch := fun _ _ _ => rfl
@[simp] theorem modBar_stripeGen : ∀ s b f, (State.modBar s b f).stripeGen = s.stripeGen := fun _ _ _ => rfl
@[simp] theorem modBar_sram : ∀ s b f, (State.modBar s b f).sram = s.sram := fun _ _ _ => rfl
@[simp] theorem modBar_pair : ∀ s b f, (State.modBar s b f).pair = s.pair := fun _ _ _ => rfl
@[simp] theorem modBar_sched : ∀ s b f, (State.modBar s b f).sched = s.sched := fun _ _ _ => rfl
@[simp] theorem modBar_boot : ∀ s b f, (State.modBar s b f).boot = s.boot := fun _ _ _ => rfl
@[simp] theorem modBar_power : ∀ s b f, (State.modBar s b f).power = s.power := fun _ _ _ => rfl
@[simp] theorem modBar_trim : ∀ s b f, (State.modBar s b f).trim = s.trim := fun _ _ _ => rfl
@[simp] theorem modBar_mram : ∀ s b f, (State.modBar s b f).mram = s.mram := fun _ _ _ => rfl
@[simp] theorem modBar_errLog : ∀ s b f, (State.modBar s b f).errLog = s.errLog := fun _ _ _ => rfl
@[simp] theorem modBar_logSeq : ∀ s b f, (State.modBar s b f).logSeq = s.logSeq := fun _ _ _ => rfl
@[simp] theorem modBar_missLog : ∀ s b f, (State.modBar s b f).missLog = s.missLog := fun _ _ _ => rfl
@[simp] theorem modBar_missNext : ∀ s b f, (State.modBar s b f).missNext = s.missNext := fun _ _ _ => rfl
@[simp] theorem modBar_webSlow : ∀ s b f, (State.modBar s b f).webSlow = s.webSlow := fun _ _ _ => rfl
@[simp] theorem modBar_test : ∀ s b f, (State.modBar s b f).test = s.test := fun _ _ _ => rfl
@[simp] theorem modBar_pins : ∀ s b f, (State.modBar s b f).pins = s.pins := fun _ _ _ => rfl

/-! ### modPort -/

@[simp] theorem modPort_now : ∀ s p f, (State.modPort s p f).now = s.now := fun _ _ _ => rfl
@[simp] theorem modPort_pending : ∀ s p f, (State.modPort s p f).pending = s.pending := fun _ _ _ => rfl
@[simp] theorem modPort_out : ∀ s p f, (State.modPort s p f).out = s.out := fun _ _ _ => rfl
@[simp] theorem modPort_freeCount : ∀ s p f, (State.modPort s p f).freeCount = s.freeCount := fun _ _ _ => rfl
@[simp] theorem modPort_devState : ∀ s p f, (State.modPort s p f).devState = s.devState := fun _ _ _ => rfl
@[simp] theorem modPort_printAt : ∀ s p f, (State.modPort s p f).printAt = s.printAt := fun _ _ _ => rfl
@[simp] theorem modPort_dev : ∀ s p f, (State.modPort s p f).dev = s.dev := fun _ _ _ => rfl
@[simp] theorem modPort_bars : ∀ s p f, (State.modPort s p f).bars = s.bars := fun _ _ _ => rfl
@[simp] theorem modPort_fns : ∀ s p f, (State.modPort s p f).fns = s.fns := fun _ _ _ => rfl
@[simp] theorem modPort_moa : ∀ s p f, (State.modPort s p f).moa = s.moa := fun _ _ _ => rfl
@[simp] theorem modPort_deqHead : ∀ s p f, (State.modPort s p f).deqHead = s.deqHead := fun _ _ _ => rfl
@[simp] theorem modPort_deqTail : ∀ s p f, (State.modPort s p f).deqTail = s.deqTail := fun _ _ _ => rfl
@[simp] theorem modPort_deqLost : ∀ s p f, (State.modPort s p f).deqLost = s.deqLost := fun _ _ _ => rfl
@[simp] theorem modPort_clock : ∀ s p f, (State.modPort s p f).clock = s.clock := fun _ _ _ => rfl
@[simp] theorem modPort_net : ∀ s p f, (State.modPort s p f).net = s.net := fun _ _ _ => rfl
@[simp] theorem modPort_encs : ∀ s p f, (State.modPort s p f).encs = s.encs := fun _ _ _ => rfl
@[simp] theorem modPort_trig : ∀ s p f, (State.modPort s p f).trig = s.trig := fun _ _ _ => rfl
@[simp] theorem modPort_marks : ∀ s p f, (State.modPort s p f).marks = s.marks := fun _ _ _ => rfl
@[simp] theorem modPort_drays : ∀ s p f, (State.modPort s p f).drays = s.drays := fun _ _ _ => rfl
@[simp] theorem modPort_supplies : ∀ s p f, (State.modPort s p f).supplies = s.supplies := fun _ _ _ => rfl
@[simp] theorem modPort_lastTrip : ∀ s p f, (State.modPort s p f).lastTrip = s.lastTrip := fun _ _ _ => rfl
@[simp] theorem modPort_safeCause : ∀ s p f, (State.modPort s p f).safeCause = s.safeCause := fun _ _ _ => rfl
@[simp] theorem modPort_axes : ∀ s p f, (State.modPort s p f).axes = s.axes := fun _ _ _ => rfl
@[simp] theorem modPort_ssis : ∀ s p f, (State.modPort s p f).ssis = s.ssis := fun _ _ _ => rfl
@[simp] theorem modPort_cmps : ∀ s p f, (State.modPort s p f).cmps = s.cmps := fun _ _ _ => rfl
@[simp] theorem modPort_cams : ∀ s p f, (State.modPort s p f).cams = s.cams := fun _ _ _ => rfl
@[simp] theorem modPort_health : ∀ s p f, (State.modPort s p f).health = s.health := fun _ _ _ => rfl
@[simp] theorem modPort_engines : ∀ s p f, (State.modPort s p f).engines = s.engines := fun _ _ _ => rfl
@[simp] theorem modPort_deflaters : ∀ s p f, (State.modPort s p f).deflaters = s.deflaters := fun _ _ _ => rfl
@[simp] theorem modPort_place : ∀ s p f, (State.modPort s p f).place = s.place := fun _ _ _ => rfl
@[simp] theorem modPort_deficit : ∀ s p f, (State.modPort s p f).deficit = s.deficit := fun _ _ _ => rfl
@[simp] theorem modPort_subch : ∀ s p f, (State.modPort s p f).subch = s.subch := fun _ _ _ => rfl
@[simp] theorem modPort_stripeGen : ∀ s p f, (State.modPort s p f).stripeGen = s.stripeGen := fun _ _ _ => rfl
@[simp] theorem modPort_sram : ∀ s p f, (State.modPort s p f).sram = s.sram := fun _ _ _ => rfl
@[simp] theorem modPort_pair : ∀ s p f, (State.modPort s p f).pair = s.pair := fun _ _ _ => rfl
@[simp] theorem modPort_sched : ∀ s p f, (State.modPort s p f).sched = s.sched := fun _ _ _ => rfl
@[simp] theorem modPort_boot : ∀ s p f, (State.modPort s p f).boot = s.boot := fun _ _ _ => rfl
@[simp] theorem modPort_power : ∀ s p f, (State.modPort s p f).power = s.power := fun _ _ _ => rfl
@[simp] theorem modPort_trim : ∀ s p f, (State.modPort s p f).trim = s.trim := fun _ _ _ => rfl
@[simp] theorem modPort_mram : ∀ s p f, (State.modPort s p f).mram = s.mram := fun _ _ _ => rfl
@[simp] theorem modPort_errLog : ∀ s p f, (State.modPort s p f).errLog = s.errLog := fun _ _ _ => rfl
@[simp] theorem modPort_logSeq : ∀ s p f, (State.modPort s p f).logSeq = s.logSeq := fun _ _ _ => rfl
@[simp] theorem modPort_missLog : ∀ s p f, (State.modPort s p f).missLog = s.missLog := fun _ _ _ => rfl
@[simp] theorem modPort_missNext : ∀ s p f, (State.modPort s p f).missNext = s.missNext := fun _ _ _ => rfl
@[simp] theorem modPort_webSlow : ∀ s p f, (State.modPort s p f).webSlow = s.webSlow := fun _ _ _ => rfl
@[simp] theorem modPort_test : ∀ s p f, (State.modPort s p f).test = s.test := fun _ _ _ => rfl
@[simp] theorem modPort_pins : ∀ s p f, (State.modPort s p f).pins = s.pins := fun _ _ _ => rfl

/-! ### modFn -/

@[simp] theorem modFn_now : ∀ s k f, (State.modFn s k f).now = s.now := fun _ _ _ => rfl
@[simp] theorem modFn_pending : ∀ s k f, (State.modFn s k f).pending = s.pending := fun _ _ _ => rfl
@[simp] theorem modFn_out : ∀ s k f, (State.modFn s k f).out = s.out := fun _ _ _ => rfl
@[simp] theorem modFn_freeCount : ∀ s k f, (State.modFn s k f).freeCount = s.freeCount := fun _ _ _ => rfl
@[simp] theorem modFn_devState : ∀ s k f, (State.modFn s k f).devState = s.devState := fun _ _ _ => rfl
@[simp] theorem modFn_printAt : ∀ s k f, (State.modFn s k f).printAt = s.printAt := fun _ _ _ => rfl
@[simp] theorem modFn_dev : ∀ s k f, (State.modFn s k f).dev = s.dev := fun _ _ _ => rfl
@[simp] theorem modFn_bars : ∀ s k f, (State.modFn s k f).bars = s.bars := fun _ _ _ => rfl
@[simp] theorem modFn_moa : ∀ s k f, (State.modFn s k f).moa = s.moa := fun _ _ _ => rfl
@[simp] theorem modFn_deqHead : ∀ s k f, (State.modFn s k f).deqHead = s.deqHead := fun _ _ _ => rfl
@[simp] theorem modFn_deqTail : ∀ s k f, (State.modFn s k f).deqTail = s.deqTail := fun _ _ _ => rfl
@[simp] theorem modFn_deqLost : ∀ s k f, (State.modFn s k f).deqLost = s.deqLost := fun _ _ _ => rfl
@[simp] theorem modFn_clock : ∀ s k f, (State.modFn s k f).clock = s.clock := fun _ _ _ => rfl
@[simp] theorem modFn_net : ∀ s k f, (State.modFn s k f).net = s.net := fun _ _ _ => rfl
@[simp] theorem modFn_encs : ∀ s k f, (State.modFn s k f).encs = s.encs := fun _ _ _ => rfl
@[simp] theorem modFn_trig : ∀ s k f, (State.modFn s k f).trig = s.trig := fun _ _ _ => rfl
@[simp] theorem modFn_marks : ∀ s k f, (State.modFn s k f).marks = s.marks := fun _ _ _ => rfl
@[simp] theorem modFn_ports : ∀ s k f, (State.modFn s k f).ports = s.ports := fun _ _ _ => rfl
@[simp] theorem modFn_drays : ∀ s k f, (State.modFn s k f).drays = s.drays := fun _ _ _ => rfl
@[simp] theorem modFn_supplies : ∀ s k f, (State.modFn s k f).supplies = s.supplies := fun _ _ _ => rfl
@[simp] theorem modFn_lastTrip : ∀ s k f, (State.modFn s k f).lastTrip = s.lastTrip := fun _ _ _ => rfl
@[simp] theorem modFn_safeCause : ∀ s k f, (State.modFn s k f).safeCause = s.safeCause := fun _ _ _ => rfl
@[simp] theorem modFn_axes : ∀ s k f, (State.modFn s k f).axes = s.axes := fun _ _ _ => rfl
@[simp] theorem modFn_ssis : ∀ s k f, (State.modFn s k f).ssis = s.ssis := fun _ _ _ => rfl
@[simp] theorem modFn_cmps : ∀ s k f, (State.modFn s k f).cmps = s.cmps := fun _ _ _ => rfl
@[simp] theorem modFn_cams : ∀ s k f, (State.modFn s k f).cams = s.cams := fun _ _ _ => rfl
@[simp] theorem modFn_health : ∀ s k f, (State.modFn s k f).health = s.health := fun _ _ _ => rfl
@[simp] theorem modFn_engines : ∀ s k f, (State.modFn s k f).engines = s.engines := fun _ _ _ => rfl
@[simp] theorem modFn_deflaters : ∀ s k f, (State.modFn s k f).deflaters = s.deflaters := fun _ _ _ => rfl
@[simp] theorem modFn_place : ∀ s k f, (State.modFn s k f).place = s.place := fun _ _ _ => rfl
@[simp] theorem modFn_deficit : ∀ s k f, (State.modFn s k f).deficit = s.deficit := fun _ _ _ => rfl
@[simp] theorem modFn_subch : ∀ s k f, (State.modFn s k f).subch = s.subch := fun _ _ _ => rfl
@[simp] theorem modFn_stripeGen : ∀ s k f, (State.modFn s k f).stripeGen = s.stripeGen := fun _ _ _ => rfl
@[simp] theorem modFn_sram : ∀ s k f, (State.modFn s k f).sram = s.sram := fun _ _ _ => rfl
@[simp] theorem modFn_pair : ∀ s k f, (State.modFn s k f).pair = s.pair := fun _ _ _ => rfl
@[simp] theorem modFn_sched : ∀ s k f, (State.modFn s k f).sched = s.sched := fun _ _ _ => rfl
@[simp] theorem modFn_boot : ∀ s k f, (State.modFn s k f).boot = s.boot := fun _ _ _ => rfl
@[simp] theorem modFn_power : ∀ s k f, (State.modFn s k f).power = s.power := fun _ _ _ => rfl
@[simp] theorem modFn_trim : ∀ s k f, (State.modFn s k f).trim = s.trim := fun _ _ _ => rfl
@[simp] theorem modFn_mram : ∀ s k f, (State.modFn s k f).mram = s.mram := fun _ _ _ => rfl
@[simp] theorem modFn_errLog : ∀ s k f, (State.modFn s k f).errLog = s.errLog := fun _ _ _ => rfl
@[simp] theorem modFn_logSeq : ∀ s k f, (State.modFn s k f).logSeq = s.logSeq := fun _ _ _ => rfl
@[simp] theorem modFn_missLog : ∀ s k f, (State.modFn s k f).missLog = s.missLog := fun _ _ _ => rfl
@[simp] theorem modFn_missNext : ∀ s k f, (State.modFn s k f).missNext = s.missNext := fun _ _ _ => rfl
@[simp] theorem modFn_webSlow : ∀ s k f, (State.modFn s k f).webSlow = s.webSlow := fun _ _ _ => rfl
@[simp] theorem modFn_test : ∀ s k f, (State.modFn s k f).test = s.test := fun _ _ _ => rfl
@[simp] theorem modFn_pins : ∀ s k f, (State.modFn s k f).pins = s.pins := fun _ _ _ => rfl

/-! ### modEnc -/

@[simp] theorem modEnc_now : ∀ s k f, (State.modEnc s k f).now = s.now := fun _ _ _ => rfl
@[simp] theorem modEnc_pending : ∀ s k f, (State.modEnc s k f).pending = s.pending := fun _ _ _ => rfl
@[simp] theorem modEnc_out : ∀ s k f, (State.modEnc s k f).out = s.out := fun _ _ _ => rfl
@[simp] theorem modEnc_freeCount : ∀ s k f, (State.modEnc s k f).freeCount = s.freeCount := fun _ _ _ => rfl
@[simp] theorem modEnc_devState : ∀ s k f, (State.modEnc s k f).devState = s.devState := fun _ _ _ => rfl
@[simp] theorem modEnc_printAt : ∀ s k f, (State.modEnc s k f).printAt = s.printAt := fun _ _ _ => rfl
@[simp] theorem modEnc_dev : ∀ s k f, (State.modEnc s k f).dev = s.dev := fun _ _ _ => rfl
@[simp] theorem modEnc_bars : ∀ s k f, (State.modEnc s k f).bars = s.bars := fun _ _ _ => rfl
@[simp] theorem modEnc_fns : ∀ s k f, (State.modEnc s k f).fns = s.fns := fun _ _ _ => rfl
@[simp] theorem modEnc_moa : ∀ s k f, (State.modEnc s k f).moa = s.moa := fun _ _ _ => rfl
@[simp] theorem modEnc_deqHead : ∀ s k f, (State.modEnc s k f).deqHead = s.deqHead := fun _ _ _ => rfl
@[simp] theorem modEnc_deqTail : ∀ s k f, (State.modEnc s k f).deqTail = s.deqTail := fun _ _ _ => rfl
@[simp] theorem modEnc_deqLost : ∀ s k f, (State.modEnc s k f).deqLost = s.deqLost := fun _ _ _ => rfl
@[simp] theorem modEnc_clock : ∀ s k f, (State.modEnc s k f).clock = s.clock := fun _ _ _ => rfl
@[simp] theorem modEnc_net : ∀ s k f, (State.modEnc s k f).net = s.net := fun _ _ _ => rfl
@[simp] theorem modEnc_trig : ∀ s k f, (State.modEnc s k f).trig = s.trig := fun _ _ _ => rfl
@[simp] theorem modEnc_marks : ∀ s k f, (State.modEnc s k f).marks = s.marks := fun _ _ _ => rfl
@[simp] theorem modEnc_ports : ∀ s k f, (State.modEnc s k f).ports = s.ports := fun _ _ _ => rfl
@[simp] theorem modEnc_drays : ∀ s k f, (State.modEnc s k f).drays = s.drays := fun _ _ _ => rfl
@[simp] theorem modEnc_supplies : ∀ s k f, (State.modEnc s k f).supplies = s.supplies := fun _ _ _ => rfl
@[simp] theorem modEnc_lastTrip : ∀ s k f, (State.modEnc s k f).lastTrip = s.lastTrip := fun _ _ _ => rfl
@[simp] theorem modEnc_safeCause : ∀ s k f, (State.modEnc s k f).safeCause = s.safeCause := fun _ _ _ => rfl
@[simp] theorem modEnc_axes : ∀ s k f, (State.modEnc s k f).axes = s.axes := fun _ _ _ => rfl
@[simp] theorem modEnc_ssis : ∀ s k f, (State.modEnc s k f).ssis = s.ssis := fun _ _ _ => rfl
@[simp] theorem modEnc_cmps : ∀ s k f, (State.modEnc s k f).cmps = s.cmps := fun _ _ _ => rfl
@[simp] theorem modEnc_cams : ∀ s k f, (State.modEnc s k f).cams = s.cams := fun _ _ _ => rfl
@[simp] theorem modEnc_health : ∀ s k f, (State.modEnc s k f).health = s.health := fun _ _ _ => rfl
@[simp] theorem modEnc_engines : ∀ s k f, (State.modEnc s k f).engines = s.engines := fun _ _ _ => rfl
@[simp] theorem modEnc_deflaters : ∀ s k f, (State.modEnc s k f).deflaters = s.deflaters := fun _ _ _ => rfl
@[simp] theorem modEnc_place : ∀ s k f, (State.modEnc s k f).place = s.place := fun _ _ _ => rfl
@[simp] theorem modEnc_deficit : ∀ s k f, (State.modEnc s k f).deficit = s.deficit := fun _ _ _ => rfl
@[simp] theorem modEnc_subch : ∀ s k f, (State.modEnc s k f).subch = s.subch := fun _ _ _ => rfl
@[simp] theorem modEnc_stripeGen : ∀ s k f, (State.modEnc s k f).stripeGen = s.stripeGen := fun _ _ _ => rfl
@[simp] theorem modEnc_sram : ∀ s k f, (State.modEnc s k f).sram = s.sram := fun _ _ _ => rfl
@[simp] theorem modEnc_pair : ∀ s k f, (State.modEnc s k f).pair = s.pair := fun _ _ _ => rfl
@[simp] theorem modEnc_sched : ∀ s k f, (State.modEnc s k f).sched = s.sched := fun _ _ _ => rfl
@[simp] theorem modEnc_boot : ∀ s k f, (State.modEnc s k f).boot = s.boot := fun _ _ _ => rfl
@[simp] theorem modEnc_power : ∀ s k f, (State.modEnc s k f).power = s.power := fun _ _ _ => rfl
@[simp] theorem modEnc_trim : ∀ s k f, (State.modEnc s k f).trim = s.trim := fun _ _ _ => rfl
@[simp] theorem modEnc_mram : ∀ s k f, (State.modEnc s k f).mram = s.mram := fun _ _ _ => rfl
@[simp] theorem modEnc_errLog : ∀ s k f, (State.modEnc s k f).errLog = s.errLog := fun _ _ _ => rfl
@[simp] theorem modEnc_logSeq : ∀ s k f, (State.modEnc s k f).logSeq = s.logSeq := fun _ _ _ => rfl
@[simp] theorem modEnc_missLog : ∀ s k f, (State.modEnc s k f).missLog = s.missLog := fun _ _ _ => rfl
@[simp] theorem modEnc_missNext : ∀ s k f, (State.modEnc s k f).missNext = s.missNext := fun _ _ _ => rfl
@[simp] theorem modEnc_webSlow : ∀ s k f, (State.modEnc s k f).webSlow = s.webSlow := fun _ _ _ => rfl
@[simp] theorem modEnc_test : ∀ s k f, (State.modEnc s k f).test = s.test := fun _ _ _ => rfl
@[simp] theorem modEnc_pins : ∀ s k f, (State.modEnc s k f).pins = s.pins := fun _ _ _ => rfl

/-! ### modMark -/

@[simp] theorem modMark_now : ∀ s k f, (State.modMark s k f).now = s.now := fun _ _ _ => rfl
@[simp] theorem modMark_pending : ∀ s k f, (State.modMark s k f).pending = s.pending := fun _ _ _ => rfl
@[simp] theorem modMark_out : ∀ s k f, (State.modMark s k f).out = s.out := fun _ _ _ => rfl
@[simp] theorem modMark_freeCount : ∀ s k f, (State.modMark s k f).freeCount = s.freeCount := fun _ _ _ => rfl
@[simp] theorem modMark_devState : ∀ s k f, (State.modMark s k f).devState = s.devState := fun _ _ _ => rfl
@[simp] theorem modMark_printAt : ∀ s k f, (State.modMark s k f).printAt = s.printAt := fun _ _ _ => rfl
@[simp] theorem modMark_dev : ∀ s k f, (State.modMark s k f).dev = s.dev := fun _ _ _ => rfl
@[simp] theorem modMark_bars : ∀ s k f, (State.modMark s k f).bars = s.bars := fun _ _ _ => rfl
@[simp] theorem modMark_fns : ∀ s k f, (State.modMark s k f).fns = s.fns := fun _ _ _ => rfl
@[simp] theorem modMark_moa : ∀ s k f, (State.modMark s k f).moa = s.moa := fun _ _ _ => rfl
@[simp] theorem modMark_deqHead : ∀ s k f, (State.modMark s k f).deqHead = s.deqHead := fun _ _ _ => rfl
@[simp] theorem modMark_deqTail : ∀ s k f, (State.modMark s k f).deqTail = s.deqTail := fun _ _ _ => rfl
@[simp] theorem modMark_deqLost : ∀ s k f, (State.modMark s k f).deqLost = s.deqLost := fun _ _ _ => rfl
@[simp] theorem modMark_clock : ∀ s k f, (State.modMark s k f).clock = s.clock := fun _ _ _ => rfl
@[simp] theorem modMark_net : ∀ s k f, (State.modMark s k f).net = s.net := fun _ _ _ => rfl
@[simp] theorem modMark_encs : ∀ s k f, (State.modMark s k f).encs = s.encs := fun _ _ _ => rfl
@[simp] theorem modMark_trig : ∀ s k f, (State.modMark s k f).trig = s.trig := fun _ _ _ => rfl
@[simp] theorem modMark_ports : ∀ s k f, (State.modMark s k f).ports = s.ports := fun _ _ _ => rfl
@[simp] theorem modMark_drays : ∀ s k f, (State.modMark s k f).drays = s.drays := fun _ _ _ => rfl
@[simp] theorem modMark_supplies : ∀ s k f, (State.modMark s k f).supplies = s.supplies := fun _ _ _ => rfl
@[simp] theorem modMark_lastTrip : ∀ s k f, (State.modMark s k f).lastTrip = s.lastTrip := fun _ _ _ => rfl
@[simp] theorem modMark_safeCause : ∀ s k f, (State.modMark s k f).safeCause = s.safeCause := fun _ _ _ => rfl
@[simp] theorem modMark_axes : ∀ s k f, (State.modMark s k f).axes = s.axes := fun _ _ _ => rfl
@[simp] theorem modMark_ssis : ∀ s k f, (State.modMark s k f).ssis = s.ssis := fun _ _ _ => rfl
@[simp] theorem modMark_cmps : ∀ s k f, (State.modMark s k f).cmps = s.cmps := fun _ _ _ => rfl
@[simp] theorem modMark_cams : ∀ s k f, (State.modMark s k f).cams = s.cams := fun _ _ _ => rfl
@[simp] theorem modMark_health : ∀ s k f, (State.modMark s k f).health = s.health := fun _ _ _ => rfl
@[simp] theorem modMark_engines : ∀ s k f, (State.modMark s k f).engines = s.engines := fun _ _ _ => rfl
@[simp] theorem modMark_deflaters : ∀ s k f, (State.modMark s k f).deflaters = s.deflaters := fun _ _ _ => rfl
@[simp] theorem modMark_place : ∀ s k f, (State.modMark s k f).place = s.place := fun _ _ _ => rfl
@[simp] theorem modMark_deficit : ∀ s k f, (State.modMark s k f).deficit = s.deficit := fun _ _ _ => rfl
@[simp] theorem modMark_subch : ∀ s k f, (State.modMark s k f).subch = s.subch := fun _ _ _ => rfl
@[simp] theorem modMark_stripeGen : ∀ s k f, (State.modMark s k f).stripeGen = s.stripeGen := fun _ _ _ => rfl
@[simp] theorem modMark_sram : ∀ s k f, (State.modMark s k f).sram = s.sram := fun _ _ _ => rfl
@[simp] theorem modMark_pair : ∀ s k f, (State.modMark s k f).pair = s.pair := fun _ _ _ => rfl
@[simp] theorem modMark_sched : ∀ s k f, (State.modMark s k f).sched = s.sched := fun _ _ _ => rfl
@[simp] theorem modMark_boot : ∀ s k f, (State.modMark s k f).boot = s.boot := fun _ _ _ => rfl
@[simp] theorem modMark_power : ∀ s k f, (State.modMark s k f).power = s.power := fun _ _ _ => rfl
@[simp] theorem modMark_trim : ∀ s k f, (State.modMark s k f).trim = s.trim := fun _ _ _ => rfl
@[simp] theorem modMark_mram : ∀ s k f, (State.modMark s k f).mram = s.mram := fun _ _ _ => rfl
@[simp] theorem modMark_errLog : ∀ s k f, (State.modMark s k f).errLog = s.errLog := fun _ _ _ => rfl
@[simp] theorem modMark_logSeq : ∀ s k f, (State.modMark s k f).logSeq = s.logSeq := fun _ _ _ => rfl
@[simp] theorem modMark_missLog : ∀ s k f, (State.modMark s k f).missLog = s.missLog := fun _ _ _ => rfl
@[simp] theorem modMark_missNext : ∀ s k f, (State.modMark s k f).missNext = s.missNext := fun _ _ _ => rfl
@[simp] theorem modMark_webSlow : ∀ s k f, (State.modMark s k f).webSlow = s.webSlow := fun _ _ _ => rfl
@[simp] theorem modMark_test : ∀ s k f, (State.modMark s k f).test = s.test := fun _ _ _ => rfl
@[simp] theorem modMark_pins : ∀ s k f, (State.modMark s k f).pins = s.pins := fun _ _ _ => rfl

/-! ### modDray -/

@[simp] theorem modDray_now : ∀ s k f, (State.modDray s k f).now = s.now := fun _ _ _ => rfl
@[simp] theorem modDray_pending : ∀ s k f, (State.modDray s k f).pending = s.pending := fun _ _ _ => rfl
@[simp] theorem modDray_out : ∀ s k f, (State.modDray s k f).out = s.out := fun _ _ _ => rfl
@[simp] theorem modDray_freeCount : ∀ s k f, (State.modDray s k f).freeCount = s.freeCount := fun _ _ _ => rfl
@[simp] theorem modDray_devState : ∀ s k f, (State.modDray s k f).devState = s.devState := fun _ _ _ => rfl
@[simp] theorem modDray_printAt : ∀ s k f, (State.modDray s k f).printAt = s.printAt := fun _ _ _ => rfl
@[simp] theorem modDray_dev : ∀ s k f, (State.modDray s k f).dev = s.dev := fun _ _ _ => rfl
@[simp] theorem modDray_bars : ∀ s k f, (State.modDray s k f).bars = s.bars := fun _ _ _ => rfl
@[simp] theorem modDray_fns : ∀ s k f, (State.modDray s k f).fns = s.fns := fun _ _ _ => rfl
@[simp] theorem modDray_moa : ∀ s k f, (State.modDray s k f).moa = s.moa := fun _ _ _ => rfl
@[simp] theorem modDray_deqHead : ∀ s k f, (State.modDray s k f).deqHead = s.deqHead := fun _ _ _ => rfl
@[simp] theorem modDray_deqTail : ∀ s k f, (State.modDray s k f).deqTail = s.deqTail := fun _ _ _ => rfl
@[simp] theorem modDray_deqLost : ∀ s k f, (State.modDray s k f).deqLost = s.deqLost := fun _ _ _ => rfl
@[simp] theorem modDray_clock : ∀ s k f, (State.modDray s k f).clock = s.clock := fun _ _ _ => rfl
@[simp] theorem modDray_net : ∀ s k f, (State.modDray s k f).net = s.net := fun _ _ _ => rfl
@[simp] theorem modDray_encs : ∀ s k f, (State.modDray s k f).encs = s.encs := fun _ _ _ => rfl
@[simp] theorem modDray_trig : ∀ s k f, (State.modDray s k f).trig = s.trig := fun _ _ _ => rfl
@[simp] theorem modDray_marks : ∀ s k f, (State.modDray s k f).marks = s.marks := fun _ _ _ => rfl
@[simp] theorem modDray_ports : ∀ s k f, (State.modDray s k f).ports = s.ports := fun _ _ _ => rfl
@[simp] theorem modDray_supplies : ∀ s k f, (State.modDray s k f).supplies = s.supplies := fun _ _ _ => rfl
@[simp] theorem modDray_lastTrip : ∀ s k f, (State.modDray s k f).lastTrip = s.lastTrip := fun _ _ _ => rfl
@[simp] theorem modDray_safeCause : ∀ s k f, (State.modDray s k f).safeCause = s.safeCause := fun _ _ _ => rfl
@[simp] theorem modDray_axes : ∀ s k f, (State.modDray s k f).axes = s.axes := fun _ _ _ => rfl
@[simp] theorem modDray_ssis : ∀ s k f, (State.modDray s k f).ssis = s.ssis := fun _ _ _ => rfl
@[simp] theorem modDray_cmps : ∀ s k f, (State.modDray s k f).cmps = s.cmps := fun _ _ _ => rfl
@[simp] theorem modDray_cams : ∀ s k f, (State.modDray s k f).cams = s.cams := fun _ _ _ => rfl
@[simp] theorem modDray_health : ∀ s k f, (State.modDray s k f).health = s.health := fun _ _ _ => rfl
@[simp] theorem modDray_engines : ∀ s k f, (State.modDray s k f).engines = s.engines := fun _ _ _ => rfl
@[simp] theorem modDray_deflaters : ∀ s k f, (State.modDray s k f).deflaters = s.deflaters := fun _ _ _ => rfl
@[simp] theorem modDray_place : ∀ s k f, (State.modDray s k f).place = s.place := fun _ _ _ => rfl
@[simp] theorem modDray_deficit : ∀ s k f, (State.modDray s k f).deficit = s.deficit := fun _ _ _ => rfl
@[simp] theorem modDray_subch : ∀ s k f, (State.modDray s k f).subch = s.subch := fun _ _ _ => rfl
@[simp] theorem modDray_stripeGen : ∀ s k f, (State.modDray s k f).stripeGen = s.stripeGen := fun _ _ _ => rfl
@[simp] theorem modDray_sram : ∀ s k f, (State.modDray s k f).sram = s.sram := fun _ _ _ => rfl
@[simp] theorem modDray_pair : ∀ s k f, (State.modDray s k f).pair = s.pair := fun _ _ _ => rfl
@[simp] theorem modDray_sched : ∀ s k f, (State.modDray s k f).sched = s.sched := fun _ _ _ => rfl
@[simp] theorem modDray_boot : ∀ s k f, (State.modDray s k f).boot = s.boot := fun _ _ _ => rfl
@[simp] theorem modDray_power : ∀ s k f, (State.modDray s k f).power = s.power := fun _ _ _ => rfl
@[simp] theorem modDray_trim : ∀ s k f, (State.modDray s k f).trim = s.trim := fun _ _ _ => rfl
@[simp] theorem modDray_mram : ∀ s k f, (State.modDray s k f).mram = s.mram := fun _ _ _ => rfl
@[simp] theorem modDray_errLog : ∀ s k f, (State.modDray s k f).errLog = s.errLog := fun _ _ _ => rfl
@[simp] theorem modDray_logSeq : ∀ s k f, (State.modDray s k f).logSeq = s.logSeq := fun _ _ _ => rfl
@[simp] theorem modDray_missLog : ∀ s k f, (State.modDray s k f).missLog = s.missLog := fun _ _ _ => rfl
@[simp] theorem modDray_missNext : ∀ s k f, (State.modDray s k f).missNext = s.missNext := fun _ _ _ => rfl
@[simp] theorem modDray_webSlow : ∀ s k f, (State.modDray s k f).webSlow = s.webSlow := fun _ _ _ => rfl
@[simp] theorem modDray_test : ∀ s k f, (State.modDray s k f).test = s.test := fun _ _ _ => rfl
@[simp] theorem modDray_pins : ∀ s k f, (State.modDray s k f).pins = s.pins := fun _ _ _ => rfl

/-! ### modSupply -/

@[simp] theorem modSupply_now : ∀ s k f, (State.modSupply s k f).now = s.now := fun _ _ _ => rfl
@[simp] theorem modSupply_pending : ∀ s k f, (State.modSupply s k f).pending = s.pending := fun _ _ _ => rfl
@[simp] theorem modSupply_out : ∀ s k f, (State.modSupply s k f).out = s.out := fun _ _ _ => rfl
@[simp] theorem modSupply_freeCount : ∀ s k f, (State.modSupply s k f).freeCount = s.freeCount := fun _ _ _ => rfl
@[simp] theorem modSupply_devState : ∀ s k f, (State.modSupply s k f).devState = s.devState := fun _ _ _ => rfl
@[simp] theorem modSupply_printAt : ∀ s k f, (State.modSupply s k f).printAt = s.printAt := fun _ _ _ => rfl
@[simp] theorem modSupply_dev : ∀ s k f, (State.modSupply s k f).dev = s.dev := fun _ _ _ => rfl
@[simp] theorem modSupply_bars : ∀ s k f, (State.modSupply s k f).bars = s.bars := fun _ _ _ => rfl
@[simp] theorem modSupply_fns : ∀ s k f, (State.modSupply s k f).fns = s.fns := fun _ _ _ => rfl
@[simp] theorem modSupply_moa : ∀ s k f, (State.modSupply s k f).moa = s.moa := fun _ _ _ => rfl
@[simp] theorem modSupply_deqHead : ∀ s k f, (State.modSupply s k f).deqHead = s.deqHead := fun _ _ _ => rfl
@[simp] theorem modSupply_deqTail : ∀ s k f, (State.modSupply s k f).deqTail = s.deqTail := fun _ _ _ => rfl
@[simp] theorem modSupply_deqLost : ∀ s k f, (State.modSupply s k f).deqLost = s.deqLost := fun _ _ _ => rfl
@[simp] theorem modSupply_clock : ∀ s k f, (State.modSupply s k f).clock = s.clock := fun _ _ _ => rfl
@[simp] theorem modSupply_net : ∀ s k f, (State.modSupply s k f).net = s.net := fun _ _ _ => rfl
@[simp] theorem modSupply_encs : ∀ s k f, (State.modSupply s k f).encs = s.encs := fun _ _ _ => rfl
@[simp] theorem modSupply_trig : ∀ s k f, (State.modSupply s k f).trig = s.trig := fun _ _ _ => rfl
@[simp] theorem modSupply_marks : ∀ s k f, (State.modSupply s k f).marks = s.marks := fun _ _ _ => rfl
@[simp] theorem modSupply_ports : ∀ s k f, (State.modSupply s k f).ports = s.ports := fun _ _ _ => rfl
@[simp] theorem modSupply_drays : ∀ s k f, (State.modSupply s k f).drays = s.drays := fun _ _ _ => rfl
@[simp] theorem modSupply_lastTrip : ∀ s k f, (State.modSupply s k f).lastTrip = s.lastTrip := fun _ _ _ => rfl
@[simp] theorem modSupply_safeCause : ∀ s k f, (State.modSupply s k f).safeCause = s.safeCause := fun _ _ _ => rfl
@[simp] theorem modSupply_axes : ∀ s k f, (State.modSupply s k f).axes = s.axes := fun _ _ _ => rfl
@[simp] theorem modSupply_ssis : ∀ s k f, (State.modSupply s k f).ssis = s.ssis := fun _ _ _ => rfl
@[simp] theorem modSupply_cmps : ∀ s k f, (State.modSupply s k f).cmps = s.cmps := fun _ _ _ => rfl
@[simp] theorem modSupply_cams : ∀ s k f, (State.modSupply s k f).cams = s.cams := fun _ _ _ => rfl
@[simp] theorem modSupply_health : ∀ s k f, (State.modSupply s k f).health = s.health := fun _ _ _ => rfl
@[simp] theorem modSupply_engines : ∀ s k f, (State.modSupply s k f).engines = s.engines := fun _ _ _ => rfl
@[simp] theorem modSupply_deflaters : ∀ s k f, (State.modSupply s k f).deflaters = s.deflaters := fun _ _ _ => rfl
@[simp] theorem modSupply_place : ∀ s k f, (State.modSupply s k f).place = s.place := fun _ _ _ => rfl
@[simp] theorem modSupply_deficit : ∀ s k f, (State.modSupply s k f).deficit = s.deficit := fun _ _ _ => rfl
@[simp] theorem modSupply_subch : ∀ s k f, (State.modSupply s k f).subch = s.subch := fun _ _ _ => rfl
@[simp] theorem modSupply_stripeGen : ∀ s k f, (State.modSupply s k f).stripeGen = s.stripeGen := fun _ _ _ => rfl
@[simp] theorem modSupply_sram : ∀ s k f, (State.modSupply s k f).sram = s.sram := fun _ _ _ => rfl
@[simp] theorem modSupply_pair : ∀ s k f, (State.modSupply s k f).pair = s.pair := fun _ _ _ => rfl
@[simp] theorem modSupply_sched : ∀ s k f, (State.modSupply s k f).sched = s.sched := fun _ _ _ => rfl
@[simp] theorem modSupply_boot : ∀ s k f, (State.modSupply s k f).boot = s.boot := fun _ _ _ => rfl
@[simp] theorem modSupply_power : ∀ s k f, (State.modSupply s k f).power = s.power := fun _ _ _ => rfl
@[simp] theorem modSupply_trim : ∀ s k f, (State.modSupply s k f).trim = s.trim := fun _ _ _ => rfl
@[simp] theorem modSupply_mram : ∀ s k f, (State.modSupply s k f).mram = s.mram := fun _ _ _ => rfl
@[simp] theorem modSupply_errLog : ∀ s k f, (State.modSupply s k f).errLog = s.errLog := fun _ _ _ => rfl
@[simp] theorem modSupply_logSeq : ∀ s k f, (State.modSupply s k f).logSeq = s.logSeq := fun _ _ _ => rfl
@[simp] theorem modSupply_missLog : ∀ s k f, (State.modSupply s k f).missLog = s.missLog := fun _ _ _ => rfl
@[simp] theorem modSupply_missNext : ∀ s k f, (State.modSupply s k f).missNext = s.missNext := fun _ _ _ => rfl
@[simp] theorem modSupply_webSlow : ∀ s k f, (State.modSupply s k f).webSlow = s.webSlow := fun _ _ _ => rfl
@[simp] theorem modSupply_test : ∀ s k f, (State.modSupply s k f).test = s.test := fun _ _ _ => rfl
@[simp] theorem modSupply_pins : ∀ s k f, (State.modSupply s k f).pins = s.pins := fun _ _ _ => rfl

/-! ### modAxis -/

@[simp] theorem modAxis_now : ∀ s k f, (State.modAxis s k f).now = s.now := fun _ _ _ => rfl
@[simp] theorem modAxis_pending : ∀ s k f, (State.modAxis s k f).pending = s.pending := fun _ _ _ => rfl
@[simp] theorem modAxis_out : ∀ s k f, (State.modAxis s k f).out = s.out := fun _ _ _ => rfl
@[simp] theorem modAxis_freeCount : ∀ s k f, (State.modAxis s k f).freeCount = s.freeCount := fun _ _ _ => rfl
@[simp] theorem modAxis_devState : ∀ s k f, (State.modAxis s k f).devState = s.devState := fun _ _ _ => rfl
@[simp] theorem modAxis_printAt : ∀ s k f, (State.modAxis s k f).printAt = s.printAt := fun _ _ _ => rfl
@[simp] theorem modAxis_dev : ∀ s k f, (State.modAxis s k f).dev = s.dev := fun _ _ _ => rfl
@[simp] theorem modAxis_bars : ∀ s k f, (State.modAxis s k f).bars = s.bars := fun _ _ _ => rfl
@[simp] theorem modAxis_fns : ∀ s k f, (State.modAxis s k f).fns = s.fns := fun _ _ _ => rfl
@[simp] theorem modAxis_moa : ∀ s k f, (State.modAxis s k f).moa = s.moa := fun _ _ _ => rfl
@[simp] theorem modAxis_deqHead : ∀ s k f, (State.modAxis s k f).deqHead = s.deqHead := fun _ _ _ => rfl
@[simp] theorem modAxis_deqTail : ∀ s k f, (State.modAxis s k f).deqTail = s.deqTail := fun _ _ _ => rfl
@[simp] theorem modAxis_deqLost : ∀ s k f, (State.modAxis s k f).deqLost = s.deqLost := fun _ _ _ => rfl
@[simp] theorem modAxis_clock : ∀ s k f, (State.modAxis s k f).clock = s.clock := fun _ _ _ => rfl
@[simp] theorem modAxis_net : ∀ s k f, (State.modAxis s k f).net = s.net := fun _ _ _ => rfl
@[simp] theorem modAxis_encs : ∀ s k f, (State.modAxis s k f).encs = s.encs := fun _ _ _ => rfl
@[simp] theorem modAxis_trig : ∀ s k f, (State.modAxis s k f).trig = s.trig := fun _ _ _ => rfl
@[simp] theorem modAxis_marks : ∀ s k f, (State.modAxis s k f).marks = s.marks := fun _ _ _ => rfl
@[simp] theorem modAxis_ports : ∀ s k f, (State.modAxis s k f).ports = s.ports := fun _ _ _ => rfl
@[simp] theorem modAxis_drays : ∀ s k f, (State.modAxis s k f).drays = s.drays := fun _ _ _ => rfl
@[simp] theorem modAxis_supplies : ∀ s k f, (State.modAxis s k f).supplies = s.supplies := fun _ _ _ => rfl
@[simp] theorem modAxis_lastTrip : ∀ s k f, (State.modAxis s k f).lastTrip = s.lastTrip := fun _ _ _ => rfl
@[simp] theorem modAxis_safeCause : ∀ s k f, (State.modAxis s k f).safeCause = s.safeCause := fun _ _ _ => rfl
@[simp] theorem modAxis_ssis : ∀ s k f, (State.modAxis s k f).ssis = s.ssis := fun _ _ _ => rfl
@[simp] theorem modAxis_cmps : ∀ s k f, (State.modAxis s k f).cmps = s.cmps := fun _ _ _ => rfl
@[simp] theorem modAxis_cams : ∀ s k f, (State.modAxis s k f).cams = s.cams := fun _ _ _ => rfl
@[simp] theorem modAxis_health : ∀ s k f, (State.modAxis s k f).health = s.health := fun _ _ _ => rfl
@[simp] theorem modAxis_engines : ∀ s k f, (State.modAxis s k f).engines = s.engines := fun _ _ _ => rfl
@[simp] theorem modAxis_deflaters : ∀ s k f, (State.modAxis s k f).deflaters = s.deflaters := fun _ _ _ => rfl
@[simp] theorem modAxis_place : ∀ s k f, (State.modAxis s k f).place = s.place := fun _ _ _ => rfl
@[simp] theorem modAxis_deficit : ∀ s k f, (State.modAxis s k f).deficit = s.deficit := fun _ _ _ => rfl
@[simp] theorem modAxis_subch : ∀ s k f, (State.modAxis s k f).subch = s.subch := fun _ _ _ => rfl
@[simp] theorem modAxis_stripeGen : ∀ s k f, (State.modAxis s k f).stripeGen = s.stripeGen := fun _ _ _ => rfl
@[simp] theorem modAxis_sram : ∀ s k f, (State.modAxis s k f).sram = s.sram := fun _ _ _ => rfl
@[simp] theorem modAxis_pair : ∀ s k f, (State.modAxis s k f).pair = s.pair := fun _ _ _ => rfl
@[simp] theorem modAxis_sched : ∀ s k f, (State.modAxis s k f).sched = s.sched := fun _ _ _ => rfl
@[simp] theorem modAxis_boot : ∀ s k f, (State.modAxis s k f).boot = s.boot := fun _ _ _ => rfl
@[simp] theorem modAxis_power : ∀ s k f, (State.modAxis s k f).power = s.power := fun _ _ _ => rfl
@[simp] theorem modAxis_trim : ∀ s k f, (State.modAxis s k f).trim = s.trim := fun _ _ _ => rfl
@[simp] theorem modAxis_mram : ∀ s k f, (State.modAxis s k f).mram = s.mram := fun _ _ _ => rfl
@[simp] theorem modAxis_errLog : ∀ s k f, (State.modAxis s k f).errLog = s.errLog := fun _ _ _ => rfl
@[simp] theorem modAxis_logSeq : ∀ s k f, (State.modAxis s k f).logSeq = s.logSeq := fun _ _ _ => rfl
@[simp] theorem modAxis_missLog : ∀ s k f, (State.modAxis s k f).missLog = s.missLog := fun _ _ _ => rfl
@[simp] theorem modAxis_missNext : ∀ s k f, (State.modAxis s k f).missNext = s.missNext := fun _ _ _ => rfl
@[simp] theorem modAxis_webSlow : ∀ s k f, (State.modAxis s k f).webSlow = s.webSlow := fun _ _ _ => rfl
@[simp] theorem modAxis_test : ∀ s k f, (State.modAxis s k f).test = s.test := fun _ _ _ => rfl
@[simp] theorem modAxis_pins : ∀ s k f, (State.modAxis s k f).pins = s.pins := fun _ _ _ => rfl

/-! ### modSsi -/

@[simp] theorem modSsi_now : ∀ s k f, (State.modSsi s k f).now = s.now := fun _ _ _ => rfl
@[simp] theorem modSsi_pending : ∀ s k f, (State.modSsi s k f).pending = s.pending := fun _ _ _ => rfl
@[simp] theorem modSsi_out : ∀ s k f, (State.modSsi s k f).out = s.out := fun _ _ _ => rfl
@[simp] theorem modSsi_freeCount : ∀ s k f, (State.modSsi s k f).freeCount = s.freeCount := fun _ _ _ => rfl
@[simp] theorem modSsi_devState : ∀ s k f, (State.modSsi s k f).devState = s.devState := fun _ _ _ => rfl
@[simp] theorem modSsi_printAt : ∀ s k f, (State.modSsi s k f).printAt = s.printAt := fun _ _ _ => rfl
@[simp] theorem modSsi_dev : ∀ s k f, (State.modSsi s k f).dev = s.dev := fun _ _ _ => rfl
@[simp] theorem modSsi_bars : ∀ s k f, (State.modSsi s k f).bars = s.bars := fun _ _ _ => rfl
@[simp] theorem modSsi_fns : ∀ s k f, (State.modSsi s k f).fns = s.fns := fun _ _ _ => rfl
@[simp] theorem modSsi_moa : ∀ s k f, (State.modSsi s k f).moa = s.moa := fun _ _ _ => rfl
@[simp] theorem modSsi_deqHead : ∀ s k f, (State.modSsi s k f).deqHead = s.deqHead := fun _ _ _ => rfl
@[simp] theorem modSsi_deqTail : ∀ s k f, (State.modSsi s k f).deqTail = s.deqTail := fun _ _ _ => rfl
@[simp] theorem modSsi_deqLost : ∀ s k f, (State.modSsi s k f).deqLost = s.deqLost := fun _ _ _ => rfl
@[simp] theorem modSsi_clock : ∀ s k f, (State.modSsi s k f).clock = s.clock := fun _ _ _ => rfl
@[simp] theorem modSsi_net : ∀ s k f, (State.modSsi s k f).net = s.net := fun _ _ _ => rfl
@[simp] theorem modSsi_encs : ∀ s k f, (State.modSsi s k f).encs = s.encs := fun _ _ _ => rfl
@[simp] theorem modSsi_trig : ∀ s k f, (State.modSsi s k f).trig = s.trig := fun _ _ _ => rfl
@[simp] theorem modSsi_marks : ∀ s k f, (State.modSsi s k f).marks = s.marks := fun _ _ _ => rfl
@[simp] theorem modSsi_ports : ∀ s k f, (State.modSsi s k f).ports = s.ports := fun _ _ _ => rfl
@[simp] theorem modSsi_drays : ∀ s k f, (State.modSsi s k f).drays = s.drays := fun _ _ _ => rfl
@[simp] theorem modSsi_supplies : ∀ s k f, (State.modSsi s k f).supplies = s.supplies := fun _ _ _ => rfl
@[simp] theorem modSsi_lastTrip : ∀ s k f, (State.modSsi s k f).lastTrip = s.lastTrip := fun _ _ _ => rfl
@[simp] theorem modSsi_safeCause : ∀ s k f, (State.modSsi s k f).safeCause = s.safeCause := fun _ _ _ => rfl
@[simp] theorem modSsi_axes : ∀ s k f, (State.modSsi s k f).axes = s.axes := fun _ _ _ => rfl
@[simp] theorem modSsi_cmps : ∀ s k f, (State.modSsi s k f).cmps = s.cmps := fun _ _ _ => rfl
@[simp] theorem modSsi_cams : ∀ s k f, (State.modSsi s k f).cams = s.cams := fun _ _ _ => rfl
@[simp] theorem modSsi_health : ∀ s k f, (State.modSsi s k f).health = s.health := fun _ _ _ => rfl
@[simp] theorem modSsi_engines : ∀ s k f, (State.modSsi s k f).engines = s.engines := fun _ _ _ => rfl
@[simp] theorem modSsi_deflaters : ∀ s k f, (State.modSsi s k f).deflaters = s.deflaters := fun _ _ _ => rfl
@[simp] theorem modSsi_place : ∀ s k f, (State.modSsi s k f).place = s.place := fun _ _ _ => rfl
@[simp] theorem modSsi_deficit : ∀ s k f, (State.modSsi s k f).deficit = s.deficit := fun _ _ _ => rfl
@[simp] theorem modSsi_subch : ∀ s k f, (State.modSsi s k f).subch = s.subch := fun _ _ _ => rfl
@[simp] theorem modSsi_stripeGen : ∀ s k f, (State.modSsi s k f).stripeGen = s.stripeGen := fun _ _ _ => rfl
@[simp] theorem modSsi_sram : ∀ s k f, (State.modSsi s k f).sram = s.sram := fun _ _ _ => rfl
@[simp] theorem modSsi_pair : ∀ s k f, (State.modSsi s k f).pair = s.pair := fun _ _ _ => rfl
@[simp] theorem modSsi_sched : ∀ s k f, (State.modSsi s k f).sched = s.sched := fun _ _ _ => rfl
@[simp] theorem modSsi_boot : ∀ s k f, (State.modSsi s k f).boot = s.boot := fun _ _ _ => rfl
@[simp] theorem modSsi_power : ∀ s k f, (State.modSsi s k f).power = s.power := fun _ _ _ => rfl
@[simp] theorem modSsi_trim : ∀ s k f, (State.modSsi s k f).trim = s.trim := fun _ _ _ => rfl
@[simp] theorem modSsi_mram : ∀ s k f, (State.modSsi s k f).mram = s.mram := fun _ _ _ => rfl
@[simp] theorem modSsi_errLog : ∀ s k f, (State.modSsi s k f).errLog = s.errLog := fun _ _ _ => rfl
@[simp] theorem modSsi_logSeq : ∀ s k f, (State.modSsi s k f).logSeq = s.logSeq := fun _ _ _ => rfl
@[simp] theorem modSsi_missLog : ∀ s k f, (State.modSsi s k f).missLog = s.missLog := fun _ _ _ => rfl
@[simp] theorem modSsi_missNext : ∀ s k f, (State.modSsi s k f).missNext = s.missNext := fun _ _ _ => rfl
@[simp] theorem modSsi_webSlow : ∀ s k f, (State.modSsi s k f).webSlow = s.webSlow := fun _ _ _ => rfl
@[simp] theorem modSsi_test : ∀ s k f, (State.modSsi s k f).test = s.test := fun _ _ _ => rfl
@[simp] theorem modSsi_pins : ∀ s k f, (State.modSsi s k f).pins = s.pins := fun _ _ _ => rfl

/-! ### modCmp -/

@[simp] theorem modCmp_now : ∀ s k f, (State.modCmp s k f).now = s.now := fun _ _ _ => rfl
@[simp] theorem modCmp_pending : ∀ s k f, (State.modCmp s k f).pending = s.pending := fun _ _ _ => rfl
@[simp] theorem modCmp_out : ∀ s k f, (State.modCmp s k f).out = s.out := fun _ _ _ => rfl
@[simp] theorem modCmp_freeCount : ∀ s k f, (State.modCmp s k f).freeCount = s.freeCount := fun _ _ _ => rfl
@[simp] theorem modCmp_devState : ∀ s k f, (State.modCmp s k f).devState = s.devState := fun _ _ _ => rfl
@[simp] theorem modCmp_printAt : ∀ s k f, (State.modCmp s k f).printAt = s.printAt := fun _ _ _ => rfl
@[simp] theorem modCmp_dev : ∀ s k f, (State.modCmp s k f).dev = s.dev := fun _ _ _ => rfl
@[simp] theorem modCmp_bars : ∀ s k f, (State.modCmp s k f).bars = s.bars := fun _ _ _ => rfl
@[simp] theorem modCmp_fns : ∀ s k f, (State.modCmp s k f).fns = s.fns := fun _ _ _ => rfl
@[simp] theorem modCmp_moa : ∀ s k f, (State.modCmp s k f).moa = s.moa := fun _ _ _ => rfl
@[simp] theorem modCmp_deqHead : ∀ s k f, (State.modCmp s k f).deqHead = s.deqHead := fun _ _ _ => rfl
@[simp] theorem modCmp_deqTail : ∀ s k f, (State.modCmp s k f).deqTail = s.deqTail := fun _ _ _ => rfl
@[simp] theorem modCmp_deqLost : ∀ s k f, (State.modCmp s k f).deqLost = s.deqLost := fun _ _ _ => rfl
@[simp] theorem modCmp_clock : ∀ s k f, (State.modCmp s k f).clock = s.clock := fun _ _ _ => rfl
@[simp] theorem modCmp_net : ∀ s k f, (State.modCmp s k f).net = s.net := fun _ _ _ => rfl
@[simp] theorem modCmp_encs : ∀ s k f, (State.modCmp s k f).encs = s.encs := fun _ _ _ => rfl
@[simp] theorem modCmp_trig : ∀ s k f, (State.modCmp s k f).trig = s.trig := fun _ _ _ => rfl
@[simp] theorem modCmp_marks : ∀ s k f, (State.modCmp s k f).marks = s.marks := fun _ _ _ => rfl
@[simp] theorem modCmp_ports : ∀ s k f, (State.modCmp s k f).ports = s.ports := fun _ _ _ => rfl
@[simp] theorem modCmp_drays : ∀ s k f, (State.modCmp s k f).drays = s.drays := fun _ _ _ => rfl
@[simp] theorem modCmp_supplies : ∀ s k f, (State.modCmp s k f).supplies = s.supplies := fun _ _ _ => rfl
@[simp] theorem modCmp_lastTrip : ∀ s k f, (State.modCmp s k f).lastTrip = s.lastTrip := fun _ _ _ => rfl
@[simp] theorem modCmp_safeCause : ∀ s k f, (State.modCmp s k f).safeCause = s.safeCause := fun _ _ _ => rfl
@[simp] theorem modCmp_axes : ∀ s k f, (State.modCmp s k f).axes = s.axes := fun _ _ _ => rfl
@[simp] theorem modCmp_ssis : ∀ s k f, (State.modCmp s k f).ssis = s.ssis := fun _ _ _ => rfl
@[simp] theorem modCmp_cams : ∀ s k f, (State.modCmp s k f).cams = s.cams := fun _ _ _ => rfl
@[simp] theorem modCmp_health : ∀ s k f, (State.modCmp s k f).health = s.health := fun _ _ _ => rfl
@[simp] theorem modCmp_engines : ∀ s k f, (State.modCmp s k f).engines = s.engines := fun _ _ _ => rfl
@[simp] theorem modCmp_deflaters : ∀ s k f, (State.modCmp s k f).deflaters = s.deflaters := fun _ _ _ => rfl
@[simp] theorem modCmp_place : ∀ s k f, (State.modCmp s k f).place = s.place := fun _ _ _ => rfl
@[simp] theorem modCmp_deficit : ∀ s k f, (State.modCmp s k f).deficit = s.deficit := fun _ _ _ => rfl
@[simp] theorem modCmp_subch : ∀ s k f, (State.modCmp s k f).subch = s.subch := fun _ _ _ => rfl
@[simp] theorem modCmp_stripeGen : ∀ s k f, (State.modCmp s k f).stripeGen = s.stripeGen := fun _ _ _ => rfl
@[simp] theorem modCmp_sram : ∀ s k f, (State.modCmp s k f).sram = s.sram := fun _ _ _ => rfl
@[simp] theorem modCmp_pair : ∀ s k f, (State.modCmp s k f).pair = s.pair := fun _ _ _ => rfl
@[simp] theorem modCmp_sched : ∀ s k f, (State.modCmp s k f).sched = s.sched := fun _ _ _ => rfl
@[simp] theorem modCmp_boot : ∀ s k f, (State.modCmp s k f).boot = s.boot := fun _ _ _ => rfl
@[simp] theorem modCmp_power : ∀ s k f, (State.modCmp s k f).power = s.power := fun _ _ _ => rfl
@[simp] theorem modCmp_trim : ∀ s k f, (State.modCmp s k f).trim = s.trim := fun _ _ _ => rfl
@[simp] theorem modCmp_mram : ∀ s k f, (State.modCmp s k f).mram = s.mram := fun _ _ _ => rfl
@[simp] theorem modCmp_errLog : ∀ s k f, (State.modCmp s k f).errLog = s.errLog := fun _ _ _ => rfl
@[simp] theorem modCmp_logSeq : ∀ s k f, (State.modCmp s k f).logSeq = s.logSeq := fun _ _ _ => rfl
@[simp] theorem modCmp_missLog : ∀ s k f, (State.modCmp s k f).missLog = s.missLog := fun _ _ _ => rfl
@[simp] theorem modCmp_missNext : ∀ s k f, (State.modCmp s k f).missNext = s.missNext := fun _ _ _ => rfl
@[simp] theorem modCmp_webSlow : ∀ s k f, (State.modCmp s k f).webSlow = s.webSlow := fun _ _ _ => rfl
@[simp] theorem modCmp_test : ∀ s k f, (State.modCmp s k f).test = s.test := fun _ _ _ => rfl
@[simp] theorem modCmp_pins : ∀ s k f, (State.modCmp s k f).pins = s.pins := fun _ _ _ => rfl

/-! ### modCam -/

@[simp] theorem modCam_now : ∀ s k f, (State.modCam s k f).now = s.now := fun _ _ _ => rfl
@[simp] theorem modCam_pending : ∀ s k f, (State.modCam s k f).pending = s.pending := fun _ _ _ => rfl
@[simp] theorem modCam_out : ∀ s k f, (State.modCam s k f).out = s.out := fun _ _ _ => rfl
@[simp] theorem modCam_freeCount : ∀ s k f, (State.modCam s k f).freeCount = s.freeCount := fun _ _ _ => rfl
@[simp] theorem modCam_devState : ∀ s k f, (State.modCam s k f).devState = s.devState := fun _ _ _ => rfl
@[simp] theorem modCam_printAt : ∀ s k f, (State.modCam s k f).printAt = s.printAt := fun _ _ _ => rfl
@[simp] theorem modCam_dev : ∀ s k f, (State.modCam s k f).dev = s.dev := fun _ _ _ => rfl
@[simp] theorem modCam_bars : ∀ s k f, (State.modCam s k f).bars = s.bars := fun _ _ _ => rfl
@[simp] theorem modCam_fns : ∀ s k f, (State.modCam s k f).fns = s.fns := fun _ _ _ => rfl
@[simp] theorem modCam_moa : ∀ s k f, (State.modCam s k f).moa = s.moa := fun _ _ _ => rfl
@[simp] theorem modCam_deqHead : ∀ s k f, (State.modCam s k f).deqHead = s.deqHead := fun _ _ _ => rfl
@[simp] theorem modCam_deqTail : ∀ s k f, (State.modCam s k f).deqTail = s.deqTail := fun _ _ _ => rfl
@[simp] theorem modCam_deqLost : ∀ s k f, (State.modCam s k f).deqLost = s.deqLost := fun _ _ _ => rfl
@[simp] theorem modCam_clock : ∀ s k f, (State.modCam s k f).clock = s.clock := fun _ _ _ => rfl
@[simp] theorem modCam_net : ∀ s k f, (State.modCam s k f).net = s.net := fun _ _ _ => rfl
@[simp] theorem modCam_encs : ∀ s k f, (State.modCam s k f).encs = s.encs := fun _ _ _ => rfl
@[simp] theorem modCam_trig : ∀ s k f, (State.modCam s k f).trig = s.trig := fun _ _ _ => rfl
@[simp] theorem modCam_marks : ∀ s k f, (State.modCam s k f).marks = s.marks := fun _ _ _ => rfl
@[simp] theorem modCam_ports : ∀ s k f, (State.modCam s k f).ports = s.ports := fun _ _ _ => rfl
@[simp] theorem modCam_drays : ∀ s k f, (State.modCam s k f).drays = s.drays := fun _ _ _ => rfl
@[simp] theorem modCam_supplies : ∀ s k f, (State.modCam s k f).supplies = s.supplies := fun _ _ _ => rfl
@[simp] theorem modCam_lastTrip : ∀ s k f, (State.modCam s k f).lastTrip = s.lastTrip := fun _ _ _ => rfl
@[simp] theorem modCam_safeCause : ∀ s k f, (State.modCam s k f).safeCause = s.safeCause := fun _ _ _ => rfl
@[simp] theorem modCam_axes : ∀ s k f, (State.modCam s k f).axes = s.axes := fun _ _ _ => rfl
@[simp] theorem modCam_ssis : ∀ s k f, (State.modCam s k f).ssis = s.ssis := fun _ _ _ => rfl
@[simp] theorem modCam_cmps : ∀ s k f, (State.modCam s k f).cmps = s.cmps := fun _ _ _ => rfl
@[simp] theorem modCam_health : ∀ s k f, (State.modCam s k f).health = s.health := fun _ _ _ => rfl
@[simp] theorem modCam_engines : ∀ s k f, (State.modCam s k f).engines = s.engines := fun _ _ _ => rfl
@[simp] theorem modCam_deflaters : ∀ s k f, (State.modCam s k f).deflaters = s.deflaters := fun _ _ _ => rfl
@[simp] theorem modCam_place : ∀ s k f, (State.modCam s k f).place = s.place := fun _ _ _ => rfl
@[simp] theorem modCam_deficit : ∀ s k f, (State.modCam s k f).deficit = s.deficit := fun _ _ _ => rfl
@[simp] theorem modCam_subch : ∀ s k f, (State.modCam s k f).subch = s.subch := fun _ _ _ => rfl
@[simp] theorem modCam_stripeGen : ∀ s k f, (State.modCam s k f).stripeGen = s.stripeGen := fun _ _ _ => rfl
@[simp] theorem modCam_sram : ∀ s k f, (State.modCam s k f).sram = s.sram := fun _ _ _ => rfl
@[simp] theorem modCam_pair : ∀ s k f, (State.modCam s k f).pair = s.pair := fun _ _ _ => rfl
@[simp] theorem modCam_sched : ∀ s k f, (State.modCam s k f).sched = s.sched := fun _ _ _ => rfl
@[simp] theorem modCam_boot : ∀ s k f, (State.modCam s k f).boot = s.boot := fun _ _ _ => rfl
@[simp] theorem modCam_power : ∀ s k f, (State.modCam s k f).power = s.power := fun _ _ _ => rfl
@[simp] theorem modCam_trim : ∀ s k f, (State.modCam s k f).trim = s.trim := fun _ _ _ => rfl
@[simp] theorem modCam_mram : ∀ s k f, (State.modCam s k f).mram = s.mram := fun _ _ _ => rfl
@[simp] theorem modCam_errLog : ∀ s k f, (State.modCam s k f).errLog = s.errLog := fun _ _ _ => rfl
@[simp] theorem modCam_logSeq : ∀ s k f, (State.modCam s k f).logSeq = s.logSeq := fun _ _ _ => rfl
@[simp] theorem modCam_missLog : ∀ s k f, (State.modCam s k f).missLog = s.missLog := fun _ _ _ => rfl
@[simp] theorem modCam_missNext : ∀ s k f, (State.modCam s k f).missNext = s.missNext := fun _ _ _ => rfl
@[simp] theorem modCam_webSlow : ∀ s k f, (State.modCam s k f).webSlow = s.webSlow := fun _ _ _ => rfl
@[simp] theorem modCam_test : ∀ s k f, (State.modCam s k f).test = s.test := fun _ _ _ => rfl
@[simp] theorem modCam_pins : ∀ s k f, (State.modCam s k f).pins = s.pins := fun _ _ _ => rfl

/-! ### modEngine -/

@[simp] theorem modEngine_now : ∀ s k f, (State.modEngine s k f).now = s.now := fun _ _ _ => rfl
@[simp] theorem modEngine_pending : ∀ s k f, (State.modEngine s k f).pending = s.pending := fun _ _ _ => rfl
@[simp] theorem modEngine_out : ∀ s k f, (State.modEngine s k f).out = s.out := fun _ _ _ => rfl
@[simp] theorem modEngine_freeCount : ∀ s k f, (State.modEngine s k f).freeCount = s.freeCount := fun _ _ _ => rfl
@[simp] theorem modEngine_devState : ∀ s k f, (State.modEngine s k f).devState = s.devState := fun _ _ _ => rfl
@[simp] theorem modEngine_printAt : ∀ s k f, (State.modEngine s k f).printAt = s.printAt := fun _ _ _ => rfl
@[simp] theorem modEngine_dev : ∀ s k f, (State.modEngine s k f).dev = s.dev := fun _ _ _ => rfl
@[simp] theorem modEngine_bars : ∀ s k f, (State.modEngine s k f).bars = s.bars := fun _ _ _ => rfl
@[simp] theorem modEngine_fns : ∀ s k f, (State.modEngine s k f).fns = s.fns := fun _ _ _ => rfl
@[simp] theorem modEngine_moa : ∀ s k f, (State.modEngine s k f).moa = s.moa := fun _ _ _ => rfl
@[simp] theorem modEngine_deqHead : ∀ s k f, (State.modEngine s k f).deqHead = s.deqHead := fun _ _ _ => rfl
@[simp] theorem modEngine_deqTail : ∀ s k f, (State.modEngine s k f).deqTail = s.deqTail := fun _ _ _ => rfl
@[simp] theorem modEngine_deqLost : ∀ s k f, (State.modEngine s k f).deqLost = s.deqLost := fun _ _ _ => rfl
@[simp] theorem modEngine_clock : ∀ s k f, (State.modEngine s k f).clock = s.clock := fun _ _ _ => rfl
@[simp] theorem modEngine_net : ∀ s k f, (State.modEngine s k f).net = s.net := fun _ _ _ => rfl
@[simp] theorem modEngine_encs : ∀ s k f, (State.modEngine s k f).encs = s.encs := fun _ _ _ => rfl
@[simp] theorem modEngine_trig : ∀ s k f, (State.modEngine s k f).trig = s.trig := fun _ _ _ => rfl
@[simp] theorem modEngine_marks : ∀ s k f, (State.modEngine s k f).marks = s.marks := fun _ _ _ => rfl
@[simp] theorem modEngine_ports : ∀ s k f, (State.modEngine s k f).ports = s.ports := fun _ _ _ => rfl
@[simp] theorem modEngine_drays : ∀ s k f, (State.modEngine s k f).drays = s.drays := fun _ _ _ => rfl
@[simp] theorem modEngine_supplies : ∀ s k f, (State.modEngine s k f).supplies = s.supplies := fun _ _ _ => rfl
@[simp] theorem modEngine_lastTrip : ∀ s k f, (State.modEngine s k f).lastTrip = s.lastTrip := fun _ _ _ => rfl
@[simp] theorem modEngine_safeCause : ∀ s k f, (State.modEngine s k f).safeCause = s.safeCause := fun _ _ _ => rfl
@[simp] theorem modEngine_axes : ∀ s k f, (State.modEngine s k f).axes = s.axes := fun _ _ _ => rfl
@[simp] theorem modEngine_ssis : ∀ s k f, (State.modEngine s k f).ssis = s.ssis := fun _ _ _ => rfl
@[simp] theorem modEngine_cmps : ∀ s k f, (State.modEngine s k f).cmps = s.cmps := fun _ _ _ => rfl
@[simp] theorem modEngine_cams : ∀ s k f, (State.modEngine s k f).cams = s.cams := fun _ _ _ => rfl
@[simp] theorem modEngine_health : ∀ s k f, (State.modEngine s k f).health = s.health := fun _ _ _ => rfl
@[simp] theorem modEngine_deflaters : ∀ s k f, (State.modEngine s k f).deflaters = s.deflaters := fun _ _ _ => rfl
@[simp] theorem modEngine_place : ∀ s k f, (State.modEngine s k f).place = s.place := fun _ _ _ => rfl
@[simp] theorem modEngine_deficit : ∀ s k f, (State.modEngine s k f).deficit = s.deficit := fun _ _ _ => rfl
@[simp] theorem modEngine_subch : ∀ s k f, (State.modEngine s k f).subch = s.subch := fun _ _ _ => rfl
@[simp] theorem modEngine_stripeGen : ∀ s k f, (State.modEngine s k f).stripeGen = s.stripeGen := fun _ _ _ => rfl
@[simp] theorem modEngine_sram : ∀ s k f, (State.modEngine s k f).sram = s.sram := fun _ _ _ => rfl
@[simp] theorem modEngine_pair : ∀ s k f, (State.modEngine s k f).pair = s.pair := fun _ _ _ => rfl
@[simp] theorem modEngine_sched : ∀ s k f, (State.modEngine s k f).sched = s.sched := fun _ _ _ => rfl
@[simp] theorem modEngine_boot : ∀ s k f, (State.modEngine s k f).boot = s.boot := fun _ _ _ => rfl
@[simp] theorem modEngine_power : ∀ s k f, (State.modEngine s k f).power = s.power := fun _ _ _ => rfl
@[simp] theorem modEngine_trim : ∀ s k f, (State.modEngine s k f).trim = s.trim := fun _ _ _ => rfl
@[simp] theorem modEngine_mram : ∀ s k f, (State.modEngine s k f).mram = s.mram := fun _ _ _ => rfl
@[simp] theorem modEngine_errLog : ∀ s k f, (State.modEngine s k f).errLog = s.errLog := fun _ _ _ => rfl
@[simp] theorem modEngine_logSeq : ∀ s k f, (State.modEngine s k f).logSeq = s.logSeq := fun _ _ _ => rfl
@[simp] theorem modEngine_missLog : ∀ s k f, (State.modEngine s k f).missLog = s.missLog := fun _ _ _ => rfl
@[simp] theorem modEngine_missNext : ∀ s k f, (State.modEngine s k f).missNext = s.missNext := fun _ _ _ => rfl
@[simp] theorem modEngine_webSlow : ∀ s k f, (State.modEngine s k f).webSlow = s.webSlow := fun _ _ _ => rfl
@[simp] theorem modEngine_test : ∀ s k f, (State.modEngine s k f).test = s.test := fun _ _ _ => rfl
@[simp] theorem modEngine_pins : ∀ s k f, (State.modEngine s k f).pins = s.pins := fun _ _ _ => rfl

/-! ### modSch -/

@[simp] theorem modSch_now : ∀ s k f, (State.modSch s k f).now = s.now := fun _ _ _ => rfl
@[simp] theorem modSch_pending : ∀ s k f, (State.modSch s k f).pending = s.pending := fun _ _ _ => rfl
@[simp] theorem modSch_out : ∀ s k f, (State.modSch s k f).out = s.out := fun _ _ _ => rfl
@[simp] theorem modSch_freeCount : ∀ s k f, (State.modSch s k f).freeCount = s.freeCount := fun _ _ _ => rfl
@[simp] theorem modSch_devState : ∀ s k f, (State.modSch s k f).devState = s.devState := fun _ _ _ => rfl
@[simp] theorem modSch_printAt : ∀ s k f, (State.modSch s k f).printAt = s.printAt := fun _ _ _ => rfl
@[simp] theorem modSch_dev : ∀ s k f, (State.modSch s k f).dev = s.dev := fun _ _ _ => rfl
@[simp] theorem modSch_bars : ∀ s k f, (State.modSch s k f).bars = s.bars := fun _ _ _ => rfl
@[simp] theorem modSch_fns : ∀ s k f, (State.modSch s k f).fns = s.fns := fun _ _ _ => rfl
@[simp] theorem modSch_moa : ∀ s k f, (State.modSch s k f).moa = s.moa := fun _ _ _ => rfl
@[simp] theorem modSch_deqHead : ∀ s k f, (State.modSch s k f).deqHead = s.deqHead := fun _ _ _ => rfl
@[simp] theorem modSch_deqTail : ∀ s k f, (State.modSch s k f).deqTail = s.deqTail := fun _ _ _ => rfl
@[simp] theorem modSch_deqLost : ∀ s k f, (State.modSch s k f).deqLost = s.deqLost := fun _ _ _ => rfl
@[simp] theorem modSch_clock : ∀ s k f, (State.modSch s k f).clock = s.clock := fun _ _ _ => rfl
@[simp] theorem modSch_net : ∀ s k f, (State.modSch s k f).net = s.net := fun _ _ _ => rfl
@[simp] theorem modSch_encs : ∀ s k f, (State.modSch s k f).encs = s.encs := fun _ _ _ => rfl
@[simp] theorem modSch_trig : ∀ s k f, (State.modSch s k f).trig = s.trig := fun _ _ _ => rfl
@[simp] theorem modSch_marks : ∀ s k f, (State.modSch s k f).marks = s.marks := fun _ _ _ => rfl
@[simp] theorem modSch_ports : ∀ s k f, (State.modSch s k f).ports = s.ports := fun _ _ _ => rfl
@[simp] theorem modSch_drays : ∀ s k f, (State.modSch s k f).drays = s.drays := fun _ _ _ => rfl
@[simp] theorem modSch_supplies : ∀ s k f, (State.modSch s k f).supplies = s.supplies := fun _ _ _ => rfl
@[simp] theorem modSch_lastTrip : ∀ s k f, (State.modSch s k f).lastTrip = s.lastTrip := fun _ _ _ => rfl
@[simp] theorem modSch_safeCause : ∀ s k f, (State.modSch s k f).safeCause = s.safeCause := fun _ _ _ => rfl
@[simp] theorem modSch_axes : ∀ s k f, (State.modSch s k f).axes = s.axes := fun _ _ _ => rfl
@[simp] theorem modSch_ssis : ∀ s k f, (State.modSch s k f).ssis = s.ssis := fun _ _ _ => rfl
@[simp] theorem modSch_cmps : ∀ s k f, (State.modSch s k f).cmps = s.cmps := fun _ _ _ => rfl
@[simp] theorem modSch_cams : ∀ s k f, (State.modSch s k f).cams = s.cams := fun _ _ _ => rfl
@[simp] theorem modSch_health : ∀ s k f, (State.modSch s k f).health = s.health := fun _ _ _ => rfl
@[simp] theorem modSch_engines : ∀ s k f, (State.modSch s k f).engines = s.engines := fun _ _ _ => rfl
@[simp] theorem modSch_deflaters : ∀ s k f, (State.modSch s k f).deflaters = s.deflaters := fun _ _ _ => rfl
@[simp] theorem modSch_place : ∀ s k f, (State.modSch s k f).place = s.place := fun _ _ _ => rfl
@[simp] theorem modSch_deficit : ∀ s k f, (State.modSch s k f).deficit = s.deficit := fun _ _ _ => rfl
@[simp] theorem modSch_stripeGen : ∀ s k f, (State.modSch s k f).stripeGen = s.stripeGen := fun _ _ _ => rfl
@[simp] theorem modSch_sram : ∀ s k f, (State.modSch s k f).sram = s.sram := fun _ _ _ => rfl
@[simp] theorem modSch_pair : ∀ s k f, (State.modSch s k f).pair = s.pair := fun _ _ _ => rfl
@[simp] theorem modSch_sched : ∀ s k f, (State.modSch s k f).sched = s.sched := fun _ _ _ => rfl
@[simp] theorem modSch_boot : ∀ s k f, (State.modSch s k f).boot = s.boot := fun _ _ _ => rfl
@[simp] theorem modSch_power : ∀ s k f, (State.modSch s k f).power = s.power := fun _ _ _ => rfl
@[simp] theorem modSch_trim : ∀ s k f, (State.modSch s k f).trim = s.trim := fun _ _ _ => rfl
@[simp] theorem modSch_mram : ∀ s k f, (State.modSch s k f).mram = s.mram := fun _ _ _ => rfl
@[simp] theorem modSch_errLog : ∀ s k f, (State.modSch s k f).errLog = s.errLog := fun _ _ _ => rfl
@[simp] theorem modSch_logSeq : ∀ s k f, (State.modSch s k f).logSeq = s.logSeq := fun _ _ _ => rfl
@[simp] theorem modSch_missLog : ∀ s k f, (State.modSch s k f).missLog = s.missLog := fun _ _ _ => rfl
@[simp] theorem modSch_missNext : ∀ s k f, (State.modSch s k f).missNext = s.missNext := fun _ _ _ => rfl
@[simp] theorem modSch_webSlow : ∀ s k f, (State.modSch s k f).webSlow = s.webSlow := fun _ _ _ => rfl
@[simp] theorem modSch_test : ∀ s k f, (State.modSch s k f).test = s.test := fun _ _ _ => rfl
@[simp] theorem modSch_pins : ∀ s k f, (State.modSch s k f).pins = s.pins := fun _ _ _ => rfl

/-! ### modThread -/

@[simp] theorem modThread_now : ∀ s t f, (State.modThread s t f).now = s.now := fun _ _ _ => rfl
@[simp] theorem modThread_pending : ∀ s t f, (State.modThread s t f).pending = s.pending := fun _ _ _ => rfl
@[simp] theorem modThread_out : ∀ s t f, (State.modThread s t f).out = s.out := fun _ _ _ => rfl
@[simp] theorem modThread_freeCount : ∀ s t f, (State.modThread s t f).freeCount = s.freeCount := fun _ _ _ => rfl
@[simp] theorem modThread_devState : ∀ s t f, (State.modThread s t f).devState = s.devState := fun _ _ _ => rfl
@[simp] theorem modThread_printAt : ∀ s t f, (State.modThread s t f).printAt = s.printAt := fun _ _ _ => rfl
@[simp] theorem modThread_dev : ∀ s t f, (State.modThread s t f).dev = s.dev := fun _ _ _ => rfl
@[simp] theorem modThread_bars : ∀ s t f, (State.modThread s t f).bars = s.bars := fun _ _ _ => rfl
@[simp] theorem modThread_fns : ∀ s t f, (State.modThread s t f).fns = s.fns := fun _ _ _ => rfl
@[simp] theorem modThread_moa : ∀ s t f, (State.modThread s t f).moa = s.moa := fun _ _ _ => rfl
@[simp] theorem modThread_deqHead : ∀ s t f, (State.modThread s t f).deqHead = s.deqHead := fun _ _ _ => rfl
@[simp] theorem modThread_deqTail : ∀ s t f, (State.modThread s t f).deqTail = s.deqTail := fun _ _ _ => rfl
@[simp] theorem modThread_deqLost : ∀ s t f, (State.modThread s t f).deqLost = s.deqLost := fun _ _ _ => rfl
@[simp] theorem modThread_clock : ∀ s t f, (State.modThread s t f).clock = s.clock := fun _ _ _ => rfl
@[simp] theorem modThread_net : ∀ s t f, (State.modThread s t f).net = s.net := fun _ _ _ => rfl
@[simp] theorem modThread_encs : ∀ s t f, (State.modThread s t f).encs = s.encs := fun _ _ _ => rfl
@[simp] theorem modThread_trig : ∀ s t f, (State.modThread s t f).trig = s.trig := fun _ _ _ => rfl
@[simp] theorem modThread_marks : ∀ s t f, (State.modThread s t f).marks = s.marks := fun _ _ _ => rfl
@[simp] theorem modThread_ports : ∀ s t f, (State.modThread s t f).ports = s.ports := fun _ _ _ => rfl
@[simp] theorem modThread_drays : ∀ s t f, (State.modThread s t f).drays = s.drays := fun _ _ _ => rfl
@[simp] theorem modThread_supplies : ∀ s t f, (State.modThread s t f).supplies = s.supplies := fun _ _ _ => rfl
@[simp] theorem modThread_lastTrip : ∀ s t f, (State.modThread s t f).lastTrip = s.lastTrip := fun _ _ _ => rfl
@[simp] theorem modThread_safeCause : ∀ s t f, (State.modThread s t f).safeCause = s.safeCause := fun _ _ _ => rfl
@[simp] theorem modThread_axes : ∀ s t f, (State.modThread s t f).axes = s.axes := fun _ _ _ => rfl
@[simp] theorem modThread_ssis : ∀ s t f, (State.modThread s t f).ssis = s.ssis := fun _ _ _ => rfl
@[simp] theorem modThread_cmps : ∀ s t f, (State.modThread s t f).cmps = s.cmps := fun _ _ _ => rfl
@[simp] theorem modThread_cams : ∀ s t f, (State.modThread s t f).cams = s.cams := fun _ _ _ => rfl
@[simp] theorem modThread_health : ∀ s t f, (State.modThread s t f).health = s.health := fun _ _ _ => rfl
@[simp] theorem modThread_engines : ∀ s t f, (State.modThread s t f).engines = s.engines := fun _ _ _ => rfl
@[simp] theorem modThread_deflaters : ∀ s t f, (State.modThread s t f).deflaters = s.deflaters := fun _ _ _ => rfl
@[simp] theorem modThread_place : ∀ s t f, (State.modThread s t f).place = s.place := fun _ _ _ => rfl
@[simp] theorem modThread_deficit : ∀ s t f, (State.modThread s t f).deficit = s.deficit := fun _ _ _ => rfl
@[simp] theorem modThread_subch : ∀ s t f, (State.modThread s t f).subch = s.subch := fun _ _ _ => rfl
@[simp] theorem modThread_stripeGen : ∀ s t f, (State.modThread s t f).stripeGen = s.stripeGen := fun _ _ _ => rfl
@[simp] theorem modThread_sram : ∀ s t f, (State.modThread s t f).sram = s.sram := fun _ _ _ => rfl
@[simp] theorem modThread_pair : ∀ s t f, (State.modThread s t f).pair = s.pair := fun _ _ _ => rfl
@[simp] theorem modThread_boot : ∀ s t f, (State.modThread s t f).boot = s.boot := fun _ _ _ => rfl
@[simp] theorem modThread_power : ∀ s t f, (State.modThread s t f).power = s.power := fun _ _ _ => rfl
@[simp] theorem modThread_trim : ∀ s t f, (State.modThread s t f).trim = s.trim := fun _ _ _ => rfl
@[simp] theorem modThread_mram : ∀ s t f, (State.modThread s t f).mram = s.mram := fun _ _ _ => rfl
@[simp] theorem modThread_errLog : ∀ s t f, (State.modThread s t f).errLog = s.errLog := fun _ _ _ => rfl
@[simp] theorem modThread_logSeq : ∀ s t f, (State.modThread s t f).logSeq = s.logSeq := fun _ _ _ => rfl
@[simp] theorem modThread_missLog : ∀ s t f, (State.modThread s t f).missLog = s.missLog := fun _ _ _ => rfl
@[simp] theorem modThread_missNext : ∀ s t f, (State.modThread s t f).missNext = s.missNext := fun _ _ _ => rfl
@[simp] theorem modThread_webSlow : ∀ s t f, (State.modThread s t f).webSlow = s.webSlow := fun _ _ _ => rfl
@[simp] theorem modThread_test : ∀ s t f, (State.modThread s t f).test = s.test := fun _ _ _ => rfl
@[simp] theorem modThread_pins : ∀ s t f, (State.modThread s t f).pins = s.pins := fun _ _ _ => rfl

/-! ### modFlow -/

@[simp] theorem modFlow_now : ∀ s t f, (State.modFlow s t f).now = s.now := fun _ _ _ => rfl
@[simp] theorem modFlow_pending : ∀ s t f, (State.modFlow s t f).pending = s.pending := fun _ _ _ => rfl
@[simp] theorem modFlow_out : ∀ s t f, (State.modFlow s t f).out = s.out := fun _ _ _ => rfl
@[simp] theorem modFlow_freeCount : ∀ s t f, (State.modFlow s t f).freeCount = s.freeCount := fun _ _ _ => rfl
@[simp] theorem modFlow_devState : ∀ s t f, (State.modFlow s t f).devState = s.devState := fun _ _ _ => rfl
@[simp] theorem modFlow_printAt : ∀ s t f, (State.modFlow s t f).printAt = s.printAt := fun _ _ _ => rfl
@[simp] theorem modFlow_dev : ∀ s t f, (State.modFlow s t f).dev = s.dev := fun _ _ _ => rfl
@[simp] theorem modFlow_bars : ∀ s t f, (State.modFlow s t f).bars = s.bars := fun _ _ _ => rfl
@[simp] theorem modFlow_fns : ∀ s t f, (State.modFlow s t f).fns = s.fns := fun _ _ _ => rfl
@[simp] theorem modFlow_moa : ∀ s t f, (State.modFlow s t f).moa = s.moa := fun _ _ _ => rfl
@[simp] theorem modFlow_deqHead : ∀ s t f, (State.modFlow s t f).deqHead = s.deqHead := fun _ _ _ => rfl
@[simp] theorem modFlow_deqTail : ∀ s t f, (State.modFlow s t f).deqTail = s.deqTail := fun _ _ _ => rfl
@[simp] theorem modFlow_deqLost : ∀ s t f, (State.modFlow s t f).deqLost = s.deqLost := fun _ _ _ => rfl
@[simp] theorem modFlow_clock : ∀ s t f, (State.modFlow s t f).clock = s.clock := fun _ _ _ => rfl
@[simp] theorem modFlow_net : ∀ s t f, (State.modFlow s t f).net = s.net := fun _ _ _ => rfl
@[simp] theorem modFlow_encs : ∀ s t f, (State.modFlow s t f).encs = s.encs := fun _ _ _ => rfl
@[simp] theorem modFlow_trig : ∀ s t f, (State.modFlow s t f).trig = s.trig := fun _ _ _ => rfl
@[simp] theorem modFlow_marks : ∀ s t f, (State.modFlow s t f).marks = s.marks := fun _ _ _ => rfl
@[simp] theorem modFlow_ports : ∀ s t f, (State.modFlow s t f).ports = s.ports := fun _ _ _ => rfl
@[simp] theorem modFlow_drays : ∀ s t f, (State.modFlow s t f).drays = s.drays := fun _ _ _ => rfl
@[simp] theorem modFlow_supplies : ∀ s t f, (State.modFlow s t f).supplies = s.supplies := fun _ _ _ => rfl
@[simp] theorem modFlow_lastTrip : ∀ s t f, (State.modFlow s t f).lastTrip = s.lastTrip := fun _ _ _ => rfl
@[simp] theorem modFlow_safeCause : ∀ s t f, (State.modFlow s t f).safeCause = s.safeCause := fun _ _ _ => rfl
@[simp] theorem modFlow_axes : ∀ s t f, (State.modFlow s t f).axes = s.axes := fun _ _ _ => rfl
@[simp] theorem modFlow_ssis : ∀ s t f, (State.modFlow s t f).ssis = s.ssis := fun _ _ _ => rfl
@[simp] theorem modFlow_cmps : ∀ s t f, (State.modFlow s t f).cmps = s.cmps := fun _ _ _ => rfl
@[simp] theorem modFlow_cams : ∀ s t f, (State.modFlow s t f).cams = s.cams := fun _ _ _ => rfl
@[simp] theorem modFlow_health : ∀ s t f, (State.modFlow s t f).health = s.health := fun _ _ _ => rfl
@[simp] theorem modFlow_engines : ∀ s t f, (State.modFlow s t f).engines = s.engines := fun _ _ _ => rfl
@[simp] theorem modFlow_deflaters : ∀ s t f, (State.modFlow s t f).deflaters = s.deflaters := fun _ _ _ => rfl
@[simp] theorem modFlow_place : ∀ s t f, (State.modFlow s t f).place = s.place := fun _ _ _ => rfl
@[simp] theorem modFlow_deficit : ∀ s t f, (State.modFlow s t f).deficit = s.deficit := fun _ _ _ => rfl
@[simp] theorem modFlow_subch : ∀ s t f, (State.modFlow s t f).subch = s.subch := fun _ _ _ => rfl
@[simp] theorem modFlow_stripeGen : ∀ s t f, (State.modFlow s t f).stripeGen = s.stripeGen := fun _ _ _ => rfl
@[simp] theorem modFlow_sram : ∀ s t f, (State.modFlow s t f).sram = s.sram := fun _ _ _ => rfl
@[simp] theorem modFlow_pair : ∀ s t f, (State.modFlow s t f).pair = s.pair := fun _ _ _ => rfl
@[simp] theorem modFlow_boot : ∀ s t f, (State.modFlow s t f).boot = s.boot := fun _ _ _ => rfl
@[simp] theorem modFlow_power : ∀ s t f, (State.modFlow s t f).power = s.power := fun _ _ _ => rfl
@[simp] theorem modFlow_trim : ∀ s t f, (State.modFlow s t f).trim = s.trim := fun _ _ _ => rfl
@[simp] theorem modFlow_mram : ∀ s t f, (State.modFlow s t f).mram = s.mram := fun _ _ _ => rfl
@[simp] theorem modFlow_errLog : ∀ s t f, (State.modFlow s t f).errLog = s.errLog := fun _ _ _ => rfl
@[simp] theorem modFlow_logSeq : ∀ s t f, (State.modFlow s t f).logSeq = s.logSeq := fun _ _ _ => rfl
@[simp] theorem modFlow_missLog : ∀ s t f, (State.modFlow s t f).missLog = s.missLog := fun _ _ _ => rfl
@[simp] theorem modFlow_missNext : ∀ s t f, (State.modFlow s t f).missNext = s.missNext := fun _ _ _ => rfl
@[simp] theorem modFlow_webSlow : ∀ s t f, (State.modFlow s t f).webSlow = s.webSlow := fun _ _ _ => rfl
@[simp] theorem modFlow_test : ∀ s t f, (State.modFlow s t f).test = s.test := fun _ _ _ => rfl
@[simp] theorem modFlow_pins : ∀ s t f, (State.modFlow s t f).pins = s.pins := fun _ _ _ => rfl

/-! ### modCore -/

@[simp] theorem modCore_now : ∀ s c f, (State.modCore s c f).now = s.now := fun _ _ _ => rfl
@[simp] theorem modCore_pending : ∀ s c f, (State.modCore s c f).pending = s.pending := fun _ _ _ => rfl
@[simp] theorem modCore_out : ∀ s c f, (State.modCore s c f).out = s.out := fun _ _ _ => rfl
@[simp] theorem modCore_freeCount : ∀ s c f, (State.modCore s c f).freeCount = s.freeCount := fun _ _ _ => rfl
@[simp] theorem modCore_devState : ∀ s c f, (State.modCore s c f).devState = s.devState := fun _ _ _ => rfl
@[simp] theorem modCore_printAt : ∀ s c f, (State.modCore s c f).printAt = s.printAt := fun _ _ _ => rfl
@[simp] theorem modCore_dev : ∀ s c f, (State.modCore s c f).dev = s.dev := fun _ _ _ => rfl
@[simp] theorem modCore_bars : ∀ s c f, (State.modCore s c f).bars = s.bars := fun _ _ _ => rfl
@[simp] theorem modCore_fns : ∀ s c f, (State.modCore s c f).fns = s.fns := fun _ _ _ => rfl
@[simp] theorem modCore_moa : ∀ s c f, (State.modCore s c f).moa = s.moa := fun _ _ _ => rfl
@[simp] theorem modCore_deqHead : ∀ s c f, (State.modCore s c f).deqHead = s.deqHead := fun _ _ _ => rfl
@[simp] theorem modCore_deqTail : ∀ s c f, (State.modCore s c f).deqTail = s.deqTail := fun _ _ _ => rfl
@[simp] theorem modCore_deqLost : ∀ s c f, (State.modCore s c f).deqLost = s.deqLost := fun _ _ _ => rfl
@[simp] theorem modCore_clock : ∀ s c f, (State.modCore s c f).clock = s.clock := fun _ _ _ => rfl
@[simp] theorem modCore_net : ∀ s c f, (State.modCore s c f).net = s.net := fun _ _ _ => rfl
@[simp] theorem modCore_encs : ∀ s c f, (State.modCore s c f).encs = s.encs := fun _ _ _ => rfl
@[simp] theorem modCore_trig : ∀ s c f, (State.modCore s c f).trig = s.trig := fun _ _ _ => rfl
@[simp] theorem modCore_marks : ∀ s c f, (State.modCore s c f).marks = s.marks := fun _ _ _ => rfl
@[simp] theorem modCore_ports : ∀ s c f, (State.modCore s c f).ports = s.ports := fun _ _ _ => rfl
@[simp] theorem modCore_drays : ∀ s c f, (State.modCore s c f).drays = s.drays := fun _ _ _ => rfl
@[simp] theorem modCore_supplies : ∀ s c f, (State.modCore s c f).supplies = s.supplies := fun _ _ _ => rfl
@[simp] theorem modCore_lastTrip : ∀ s c f, (State.modCore s c f).lastTrip = s.lastTrip := fun _ _ _ => rfl
@[simp] theorem modCore_safeCause : ∀ s c f, (State.modCore s c f).safeCause = s.safeCause := fun _ _ _ => rfl
@[simp] theorem modCore_axes : ∀ s c f, (State.modCore s c f).axes = s.axes := fun _ _ _ => rfl
@[simp] theorem modCore_ssis : ∀ s c f, (State.modCore s c f).ssis = s.ssis := fun _ _ _ => rfl
@[simp] theorem modCore_cmps : ∀ s c f, (State.modCore s c f).cmps = s.cmps := fun _ _ _ => rfl
@[simp] theorem modCore_cams : ∀ s c f, (State.modCore s c f).cams = s.cams := fun _ _ _ => rfl
@[simp] theorem modCore_health : ∀ s c f, (State.modCore s c f).health = s.health := fun _ _ _ => rfl
@[simp] theorem modCore_engines : ∀ s c f, (State.modCore s c f).engines = s.engines := fun _ _ _ => rfl
@[simp] theorem modCore_deflaters : ∀ s c f, (State.modCore s c f).deflaters = s.deflaters := fun _ _ _ => rfl
@[simp] theorem modCore_place : ∀ s c f, (State.modCore s c f).place = s.place := fun _ _ _ => rfl
@[simp] theorem modCore_deficit : ∀ s c f, (State.modCore s c f).deficit = s.deficit := fun _ _ _ => rfl
@[simp] theorem modCore_subch : ∀ s c f, (State.modCore s c f).subch = s.subch := fun _ _ _ => rfl
@[simp] theorem modCore_stripeGen : ∀ s c f, (State.modCore s c f).stripeGen = s.stripeGen := fun _ _ _ => rfl
@[simp] theorem modCore_sram : ∀ s c f, (State.modCore s c f).sram = s.sram := fun _ _ _ => rfl
@[simp] theorem modCore_pair : ∀ s c f, (State.modCore s c f).pair = s.pair := fun _ _ _ => rfl
@[simp] theorem modCore_boot : ∀ s c f, (State.modCore s c f).boot = s.boot := fun _ _ _ => rfl
@[simp] theorem modCore_power : ∀ s c f, (State.modCore s c f).power = s.power := fun _ _ _ => rfl
@[simp] theorem modCore_trim : ∀ s c f, (State.modCore s c f).trim = s.trim := fun _ _ _ => rfl
@[simp] theorem modCore_mram : ∀ s c f, (State.modCore s c f).mram = s.mram := fun _ _ _ => rfl
@[simp] theorem modCore_errLog : ∀ s c f, (State.modCore s c f).errLog = s.errLog := fun _ _ _ => rfl
@[simp] theorem modCore_logSeq : ∀ s c f, (State.modCore s c f).logSeq = s.logSeq := fun _ _ _ => rfl
@[simp] theorem modCore_missLog : ∀ s c f, (State.modCore s c f).missLog = s.missLog := fun _ _ _ => rfl
@[simp] theorem modCore_missNext : ∀ s c f, (State.modCore s c f).missNext = s.missNext := fun _ _ _ => rfl
@[simp] theorem modCore_webSlow : ∀ s c f, (State.modCore s c f).webSlow = s.webSlow := fun _ _ _ => rfl
@[simp] theorem modCore_test : ∀ s c f, (State.modCore s c f).test = s.test := fun _ _ _ => rfl
@[simp] theorem modCore_pins : ∀ s c f, (State.modCore s c f).pins = s.pins := fun _ _ _ => rfl

/-! ### modFum -/

@[simp] theorem modFum_now : ∀ s k f, (State.modFum s k f).now = s.now := fun _ _ _ => rfl
@[simp] theorem modFum_pending : ∀ s k f, (State.modFum s k f).pending = s.pending := fun _ _ _ => rfl
@[simp] theorem modFum_out : ∀ s k f, (State.modFum s k f).out = s.out := fun _ _ _ => rfl
@[simp] theorem modFum_freeCount : ∀ s k f, (State.modFum s k f).freeCount = s.freeCount := fun _ _ _ => rfl
@[simp] theorem modFum_devState : ∀ s k f, (State.modFum s k f).devState = s.devState := fun _ _ _ => rfl
@[simp] theorem modFum_printAt : ∀ s k f, (State.modFum s k f).printAt = s.printAt := fun _ _ _ => rfl
@[simp] theorem modFum_dev : ∀ s k f, (State.modFum s k f).dev = s.dev := fun _ _ _ => rfl
@[simp] theorem modFum_bars : ∀ s k f, (State.modFum s k f).bars = s.bars := fun _ _ _ => rfl
@[simp] theorem modFum_fns : ∀ s k f, (State.modFum s k f).fns = s.fns := fun _ _ _ => rfl
@[simp] theorem modFum_moa : ∀ s k f, (State.modFum s k f).moa = s.moa := fun _ _ _ => rfl
@[simp] theorem modFum_deqHead : ∀ s k f, (State.modFum s k f).deqHead = s.deqHead := fun _ _ _ => rfl
@[simp] theorem modFum_deqTail : ∀ s k f, (State.modFum s k f).deqTail = s.deqTail := fun _ _ _ => rfl
@[simp] theorem modFum_deqLost : ∀ s k f, (State.modFum s k f).deqLost = s.deqLost := fun _ _ _ => rfl
@[simp] theorem modFum_clock : ∀ s k f, (State.modFum s k f).clock = s.clock := fun _ _ _ => rfl
@[simp] theorem modFum_net : ∀ s k f, (State.modFum s k f).net = s.net := fun _ _ _ => rfl
@[simp] theorem modFum_encs : ∀ s k f, (State.modFum s k f).encs = s.encs := fun _ _ _ => rfl
@[simp] theorem modFum_trig : ∀ s k f, (State.modFum s k f).trig = s.trig := fun _ _ _ => rfl
@[simp] theorem modFum_marks : ∀ s k f, (State.modFum s k f).marks = s.marks := fun _ _ _ => rfl
@[simp] theorem modFum_ports : ∀ s k f, (State.modFum s k f).ports = s.ports := fun _ _ _ => rfl
@[simp] theorem modFum_drays : ∀ s k f, (State.modFum s k f).drays = s.drays := fun _ _ _ => rfl
@[simp] theorem modFum_supplies : ∀ s k f, (State.modFum s k f).supplies = s.supplies := fun _ _ _ => rfl
@[simp] theorem modFum_lastTrip : ∀ s k f, (State.modFum s k f).lastTrip = s.lastTrip := fun _ _ _ => rfl
@[simp] theorem modFum_safeCause : ∀ s k f, (State.modFum s k f).safeCause = s.safeCause := fun _ _ _ => rfl
@[simp] theorem modFum_axes : ∀ s k f, (State.modFum s k f).axes = s.axes := fun _ _ _ => rfl
@[simp] theorem modFum_ssis : ∀ s k f, (State.modFum s k f).ssis = s.ssis := fun _ _ _ => rfl
@[simp] theorem modFum_cmps : ∀ s k f, (State.modFum s k f).cmps = s.cmps := fun _ _ _ => rfl
@[simp] theorem modFum_cams : ∀ s k f, (State.modFum s k f).cams = s.cams := fun _ _ _ => rfl
@[simp] theorem modFum_health : ∀ s k f, (State.modFum s k f).health = s.health := fun _ _ _ => rfl
@[simp] theorem modFum_engines : ∀ s k f, (State.modFum s k f).engines = s.engines := fun _ _ _ => rfl
@[simp] theorem modFum_deflaters : ∀ s k f, (State.modFum s k f).deflaters = s.deflaters := fun _ _ _ => rfl
@[simp] theorem modFum_place : ∀ s k f, (State.modFum s k f).place = s.place := fun _ _ _ => rfl
@[simp] theorem modFum_deficit : ∀ s k f, (State.modFum s k f).deficit = s.deficit := fun _ _ _ => rfl
@[simp] theorem modFum_subch : ∀ s k f, (State.modFum s k f).subch = s.subch := fun _ _ _ => rfl
@[simp] theorem modFum_stripeGen : ∀ s k f, (State.modFum s k f).stripeGen = s.stripeGen := fun _ _ _ => rfl
@[simp] theorem modFum_sram : ∀ s k f, (State.modFum s k f).sram = s.sram := fun _ _ _ => rfl
@[simp] theorem modFum_pair : ∀ s k f, (State.modFum s k f).pair = s.pair := fun _ _ _ => rfl
@[simp] theorem modFum_sched : ∀ s k f, (State.modFum s k f).sched = s.sched := fun _ _ _ => rfl
@[simp] theorem modFum_boot : ∀ s k f, (State.modFum s k f).boot = s.boot := fun _ _ _ => rfl
@[simp] theorem modFum_trim : ∀ s k f, (State.modFum s k f).trim = s.trim := fun _ _ _ => rfl
@[simp] theorem modFum_mram : ∀ s k f, (State.modFum s k f).mram = s.mram := fun _ _ _ => rfl
@[simp] theorem modFum_errLog : ∀ s k f, (State.modFum s k f).errLog = s.errLog := fun _ _ _ => rfl
@[simp] theorem modFum_logSeq : ∀ s k f, (State.modFum s k f).logSeq = s.logSeq := fun _ _ _ => rfl
@[simp] theorem modFum_missLog : ∀ s k f, (State.modFum s k f).missLog = s.missLog := fun _ _ _ => rfl
@[simp] theorem modFum_missNext : ∀ s k f, (State.modFum s k f).missNext = s.missNext := fun _ _ _ => rfl
@[simp] theorem modFum_webSlow : ∀ s k f, (State.modFum s k f).webSlow = s.webSlow := fun _ _ _ => rfl
@[simp] theorem modFum_test : ∀ s k f, (State.modFum s k f).test = s.test := fun _ _ _ => rfl
@[simp] theorem modFum_pins : ∀ s k f, (State.modFum s k f).pins = s.pins := fun _ _ _ => rfl

/-! ### modPower -/

@[simp] theorem modPower_now : ∀ s f, (State.modPower s f).now = s.now := fun _ _ => rfl
@[simp] theorem modPower_pending : ∀ s f, (State.modPower s f).pending = s.pending := fun _ _ => rfl
@[simp] theorem modPower_out : ∀ s f, (State.modPower s f).out = s.out := fun _ _ => rfl
@[simp] theorem modPower_freeCount : ∀ s f, (State.modPower s f).freeCount = s.freeCount := fun _ _ => rfl
@[simp] theorem modPower_devState : ∀ s f, (State.modPower s f).devState = s.devState := fun _ _ => rfl
@[simp] theorem modPower_printAt : ∀ s f, (State.modPower s f).printAt = s.printAt := fun _ _ => rfl
@[simp] theorem modPower_dev : ∀ s f, (State.modPower s f).dev = s.dev := fun _ _ => rfl
@[simp] theorem modPower_bars : ∀ s f, (State.modPower s f).bars = s.bars := fun _ _ => rfl
@[simp] theorem modPower_fns : ∀ s f, (State.modPower s f).fns = s.fns := fun _ _ => rfl
@[simp] theorem modPower_moa : ∀ s f, (State.modPower s f).moa = s.moa := fun _ _ => rfl
@[simp] theorem modPower_deqHead : ∀ s f, (State.modPower s f).deqHead = s.deqHead := fun _ _ => rfl
@[simp] theorem modPower_deqTail : ∀ s f, (State.modPower s f).deqTail = s.deqTail := fun _ _ => rfl
@[simp] theorem modPower_deqLost : ∀ s f, (State.modPower s f).deqLost = s.deqLost := fun _ _ => rfl
@[simp] theorem modPower_clock : ∀ s f, (State.modPower s f).clock = s.clock := fun _ _ => rfl
@[simp] theorem modPower_net : ∀ s f, (State.modPower s f).net = s.net := fun _ _ => rfl
@[simp] theorem modPower_encs : ∀ s f, (State.modPower s f).encs = s.encs := fun _ _ => rfl
@[simp] theorem modPower_trig : ∀ s f, (State.modPower s f).trig = s.trig := fun _ _ => rfl
@[simp] theorem modPower_marks : ∀ s f, (State.modPower s f).marks = s.marks := fun _ _ => rfl
@[simp] theorem modPower_ports : ∀ s f, (State.modPower s f).ports = s.ports := fun _ _ => rfl
@[simp] theorem modPower_drays : ∀ s f, (State.modPower s f).drays = s.drays := fun _ _ => rfl
@[simp] theorem modPower_supplies : ∀ s f, (State.modPower s f).supplies = s.supplies := fun _ _ => rfl
@[simp] theorem modPower_lastTrip : ∀ s f, (State.modPower s f).lastTrip = s.lastTrip := fun _ _ => rfl
@[simp] theorem modPower_safeCause : ∀ s f, (State.modPower s f).safeCause = s.safeCause := fun _ _ => rfl
@[simp] theorem modPower_axes : ∀ s f, (State.modPower s f).axes = s.axes := fun _ _ => rfl
@[simp] theorem modPower_ssis : ∀ s f, (State.modPower s f).ssis = s.ssis := fun _ _ => rfl
@[simp] theorem modPower_cmps : ∀ s f, (State.modPower s f).cmps = s.cmps := fun _ _ => rfl
@[simp] theorem modPower_cams : ∀ s f, (State.modPower s f).cams = s.cams := fun _ _ => rfl
@[simp] theorem modPower_health : ∀ s f, (State.modPower s f).health = s.health := fun _ _ => rfl
@[simp] theorem modPower_engines : ∀ s f, (State.modPower s f).engines = s.engines := fun _ _ => rfl
@[simp] theorem modPower_deflaters : ∀ s f, (State.modPower s f).deflaters = s.deflaters := fun _ _ => rfl
@[simp] theorem modPower_place : ∀ s f, (State.modPower s f).place = s.place := fun _ _ => rfl
@[simp] theorem modPower_deficit : ∀ s f, (State.modPower s f).deficit = s.deficit := fun _ _ => rfl
@[simp] theorem modPower_subch : ∀ s f, (State.modPower s f).subch = s.subch := fun _ _ => rfl
@[simp] theorem modPower_stripeGen : ∀ s f, (State.modPower s f).stripeGen = s.stripeGen := fun _ _ => rfl
@[simp] theorem modPower_sram : ∀ s f, (State.modPower s f).sram = s.sram := fun _ _ => rfl
@[simp] theorem modPower_pair : ∀ s f, (State.modPower s f).pair = s.pair := fun _ _ => rfl
@[simp] theorem modPower_sched : ∀ s f, (State.modPower s f).sched = s.sched := fun _ _ => rfl
@[simp] theorem modPower_boot : ∀ s f, (State.modPower s f).boot = s.boot := fun _ _ => rfl
@[simp] theorem modPower_trim : ∀ s f, (State.modPower s f).trim = s.trim := fun _ _ => rfl
@[simp] theorem modPower_mram : ∀ s f, (State.modPower s f).mram = s.mram := fun _ _ => rfl
@[simp] theorem modPower_errLog : ∀ s f, (State.modPower s f).errLog = s.errLog := fun _ _ => rfl
@[simp] theorem modPower_logSeq : ∀ s f, (State.modPower s f).logSeq = s.logSeq := fun _ _ => rfl
@[simp] theorem modPower_missLog : ∀ s f, (State.modPower s f).missLog = s.missLog := fun _ _ => rfl
@[simp] theorem modPower_missNext : ∀ s f, (State.modPower s f).missNext = s.missNext := fun _ _ => rfl
@[simp] theorem modPower_webSlow : ∀ s f, (State.modPower s f).webSlow = s.webSlow := fun _ _ => rfl
@[simp] theorem modPower_test : ∀ s f, (State.modPower s f).test = s.test := fun _ _ => rfl
@[simp] theorem modPower_pins : ∀ s f, (State.modPower s f).pins = s.pins := fun _ _ => rfl

/-! ### modPair -/

@[simp] theorem modPair_now : ∀ s f, (State.modPair s f).now = s.now := fun _ _ => rfl
@[simp] theorem modPair_pending : ∀ s f, (State.modPair s f).pending = s.pending := fun _ _ => rfl
@[simp] theorem modPair_out : ∀ s f, (State.modPair s f).out = s.out := fun _ _ => rfl
@[simp] theorem modPair_freeCount : ∀ s f, (State.modPair s f).freeCount = s.freeCount := fun _ _ => rfl
@[simp] theorem modPair_devState : ∀ s f, (State.modPair s f).devState = s.devState := fun _ _ => rfl
@[simp] theorem modPair_printAt : ∀ s f, (State.modPair s f).printAt = s.printAt := fun _ _ => rfl
@[simp] theorem modPair_dev : ∀ s f, (State.modPair s f).dev = s.dev := fun _ _ => rfl
@[simp] theorem modPair_bars : ∀ s f, (State.modPair s f).bars = s.bars := fun _ _ => rfl
@[simp] theorem modPair_fns : ∀ s f, (State.modPair s f).fns = s.fns := fun _ _ => rfl
@[simp] theorem modPair_moa : ∀ s f, (State.modPair s f).moa = s.moa := fun _ _ => rfl
@[simp] theorem modPair_deqHead : ∀ s f, (State.modPair s f).deqHead = s.deqHead := fun _ _ => rfl
@[simp] theorem modPair_deqTail : ∀ s f, (State.modPair s f).deqTail = s.deqTail := fun _ _ => rfl
@[simp] theorem modPair_deqLost : ∀ s f, (State.modPair s f).deqLost = s.deqLost := fun _ _ => rfl
@[simp] theorem modPair_clock : ∀ s f, (State.modPair s f).clock = s.clock := fun _ _ => rfl
@[simp] theorem modPair_net : ∀ s f, (State.modPair s f).net = s.net := fun _ _ => rfl
@[simp] theorem modPair_encs : ∀ s f, (State.modPair s f).encs = s.encs := fun _ _ => rfl
@[simp] theorem modPair_trig : ∀ s f, (State.modPair s f).trig = s.trig := fun _ _ => rfl
@[simp] theorem modPair_marks : ∀ s f, (State.modPair s f).marks = s.marks := fun _ _ => rfl
@[simp] theorem modPair_ports : ∀ s f, (State.modPair s f).ports = s.ports := fun _ _ => rfl
@[simp] theorem modPair_drays : ∀ s f, (State.modPair s f).drays = s.drays := fun _ _ => rfl
@[simp] theorem modPair_supplies : ∀ s f, (State.modPair s f).supplies = s.supplies := fun _ _ => rfl
@[simp] theorem modPair_lastTrip : ∀ s f, (State.modPair s f).lastTrip = s.lastTrip := fun _ _ => rfl
@[simp] theorem modPair_safeCause : ∀ s f, (State.modPair s f).safeCause = s.safeCause := fun _ _ => rfl
@[simp] theorem modPair_axes : ∀ s f, (State.modPair s f).axes = s.axes := fun _ _ => rfl
@[simp] theorem modPair_ssis : ∀ s f, (State.modPair s f).ssis = s.ssis := fun _ _ => rfl
@[simp] theorem modPair_cmps : ∀ s f, (State.modPair s f).cmps = s.cmps := fun _ _ => rfl
@[simp] theorem modPair_cams : ∀ s f, (State.modPair s f).cams = s.cams := fun _ _ => rfl
@[simp] theorem modPair_health : ∀ s f, (State.modPair s f).health = s.health := fun _ _ => rfl
@[simp] theorem modPair_engines : ∀ s f, (State.modPair s f).engines = s.engines := fun _ _ => rfl
@[simp] theorem modPair_deflaters : ∀ s f, (State.modPair s f).deflaters = s.deflaters := fun _ _ => rfl
@[simp] theorem modPair_place : ∀ s f, (State.modPair s f).place = s.place := fun _ _ => rfl
@[simp] theorem modPair_deficit : ∀ s f, (State.modPair s f).deficit = s.deficit := fun _ _ => rfl
@[simp] theorem modPair_subch : ∀ s f, (State.modPair s f).subch = s.subch := fun _ _ => rfl
@[simp] theorem modPair_stripeGen : ∀ s f, (State.modPair s f).stripeGen = s.stripeGen := fun _ _ => rfl
@[simp] theorem modPair_sram : ∀ s f, (State.modPair s f).sram = s.sram := fun _ _ => rfl
@[simp] theorem modPair_sched : ∀ s f, (State.modPair s f).sched = s.sched := fun _ _ => rfl
@[simp] theorem modPair_boot : ∀ s f, (State.modPair s f).boot = s.boot := fun _ _ => rfl
@[simp] theorem modPair_power : ∀ s f, (State.modPair s f).power = s.power := fun _ _ => rfl
@[simp] theorem modPair_trim : ∀ s f, (State.modPair s f).trim = s.trim := fun _ _ => rfl
@[simp] theorem modPair_mram : ∀ s f, (State.modPair s f).mram = s.mram := fun _ _ => rfl
@[simp] theorem modPair_errLog : ∀ s f, (State.modPair s f).errLog = s.errLog := fun _ _ => rfl
@[simp] theorem modPair_logSeq : ∀ s f, (State.modPair s f).logSeq = s.logSeq := fun _ _ => rfl
@[simp] theorem modPair_missLog : ∀ s f, (State.modPair s f).missLog = s.missLog := fun _ _ => rfl
@[simp] theorem modPair_missNext : ∀ s f, (State.modPair s f).missNext = s.missNext := fun _ _ => rfl
@[simp] theorem modPair_webSlow : ∀ s f, (State.modPair s f).webSlow = s.webSlow := fun _ _ => rfl
@[simp] theorem modPair_test : ∀ s f, (State.modPair s f).test = s.test := fun _ _ => rfl
@[simp] theorem modPair_pins : ∀ s f, (State.modPair s f).pins = s.pins := fun _ _ => rfl

/-! ### modTrig -/

@[simp] theorem modTrig_now : ∀ s f, (State.modTrig s f).now = s.now := fun _ _ => rfl
@[simp] theorem modTrig_pending : ∀ s f, (State.modTrig s f).pending = s.pending := fun _ _ => rfl
@[simp] theorem modTrig_out : ∀ s f, (State.modTrig s f).out = s.out := fun _ _ => rfl
@[simp] theorem modTrig_freeCount : ∀ s f, (State.modTrig s f).freeCount = s.freeCount := fun _ _ => rfl
@[simp] theorem modTrig_devState : ∀ s f, (State.modTrig s f).devState = s.devState := fun _ _ => rfl
@[simp] theorem modTrig_printAt : ∀ s f, (State.modTrig s f).printAt = s.printAt := fun _ _ => rfl
@[simp] theorem modTrig_dev : ∀ s f, (State.modTrig s f).dev = s.dev := fun _ _ => rfl
@[simp] theorem modTrig_bars : ∀ s f, (State.modTrig s f).bars = s.bars := fun _ _ => rfl
@[simp] theorem modTrig_fns : ∀ s f, (State.modTrig s f).fns = s.fns := fun _ _ => rfl
@[simp] theorem modTrig_moa : ∀ s f, (State.modTrig s f).moa = s.moa := fun _ _ => rfl
@[simp] theorem modTrig_deqHead : ∀ s f, (State.modTrig s f).deqHead = s.deqHead := fun _ _ => rfl
@[simp] theorem modTrig_deqTail : ∀ s f, (State.modTrig s f).deqTail = s.deqTail := fun _ _ => rfl
@[simp] theorem modTrig_deqLost : ∀ s f, (State.modTrig s f).deqLost = s.deqLost := fun _ _ => rfl
@[simp] theorem modTrig_clock : ∀ s f, (State.modTrig s f).clock = s.clock := fun _ _ => rfl
@[simp] theorem modTrig_net : ∀ s f, (State.modTrig s f).net = s.net := fun _ _ => rfl
@[simp] theorem modTrig_encs : ∀ s f, (State.modTrig s f).encs = s.encs := fun _ _ => rfl
@[simp] theorem modTrig_marks : ∀ s f, (State.modTrig s f).marks = s.marks := fun _ _ => rfl
@[simp] theorem modTrig_ports : ∀ s f, (State.modTrig s f).ports = s.ports := fun _ _ => rfl
@[simp] theorem modTrig_drays : ∀ s f, (State.modTrig s f).drays = s.drays := fun _ _ => rfl
@[simp] theorem modTrig_supplies : ∀ s f, (State.modTrig s f).supplies = s.supplies := fun _ _ => rfl
@[simp] theorem modTrig_lastTrip : ∀ s f, (State.modTrig s f).lastTrip = s.lastTrip := fun _ _ => rfl
@[simp] theorem modTrig_safeCause : ∀ s f, (State.modTrig s f).safeCause = s.safeCause := fun _ _ => rfl
@[simp] theorem modTrig_axes : ∀ s f, (State.modTrig s f).axes = s.axes := fun _ _ => rfl
@[simp] theorem modTrig_ssis : ∀ s f, (State.modTrig s f).ssis = s.ssis := fun _ _ => rfl
@[simp] theorem modTrig_cmps : ∀ s f, (State.modTrig s f).cmps = s.cmps := fun _ _ => rfl
@[simp] theorem modTrig_cams : ∀ s f, (State.modTrig s f).cams = s.cams := fun _ _ => rfl
@[simp] theorem modTrig_health : ∀ s f, (State.modTrig s f).health = s.health := fun _ _ => rfl
@[simp] theorem modTrig_engines : ∀ s f, (State.modTrig s f).engines = s.engines := fun _ _ => rfl
@[simp] theorem modTrig_deflaters : ∀ s f, (State.modTrig s f).deflaters = s.deflaters := fun _ _ => rfl
@[simp] theorem modTrig_place : ∀ s f, (State.modTrig s f).place = s.place := fun _ _ => rfl
@[simp] theorem modTrig_deficit : ∀ s f, (State.modTrig s f).deficit = s.deficit := fun _ _ => rfl
@[simp] theorem modTrig_subch : ∀ s f, (State.modTrig s f).subch = s.subch := fun _ _ => rfl
@[simp] theorem modTrig_stripeGen : ∀ s f, (State.modTrig s f).stripeGen = s.stripeGen := fun _ _ => rfl
@[simp] theorem modTrig_sram : ∀ s f, (State.modTrig s f).sram = s.sram := fun _ _ => rfl
@[simp] theorem modTrig_pair : ∀ s f, (State.modTrig s f).pair = s.pair := fun _ _ => rfl
@[simp] theorem modTrig_sched : ∀ s f, (State.modTrig s f).sched = s.sched := fun _ _ => rfl
@[simp] theorem modTrig_boot : ∀ s f, (State.modTrig s f).boot = s.boot := fun _ _ => rfl
@[simp] theorem modTrig_power : ∀ s f, (State.modTrig s f).power = s.power := fun _ _ => rfl
@[simp] theorem modTrig_trim : ∀ s f, (State.modTrig s f).trim = s.trim := fun _ _ => rfl
@[simp] theorem modTrig_mram : ∀ s f, (State.modTrig s f).mram = s.mram := fun _ _ => rfl
@[simp] theorem modTrig_errLog : ∀ s f, (State.modTrig s f).errLog = s.errLog := fun _ _ => rfl
@[simp] theorem modTrig_logSeq : ∀ s f, (State.modTrig s f).logSeq = s.logSeq := fun _ _ => rfl
@[simp] theorem modTrig_missLog : ∀ s f, (State.modTrig s f).missLog = s.missLog := fun _ _ => rfl
@[simp] theorem modTrig_missNext : ∀ s f, (State.modTrig s f).missNext = s.missNext := fun _ _ => rfl
@[simp] theorem modTrig_webSlow : ∀ s f, (State.modTrig s f).webSlow = s.webSlow := fun _ _ => rfl
@[simp] theorem modTrig_test : ∀ s f, (State.modTrig s f).test = s.test := fun _ _ => rfl
@[simp] theorem modTrig_pins : ∀ s f, (State.modTrig s f).pins = s.pins := fun _ _ => rfl

/-! ### modNet -/

@[simp] theorem modNet_now : ∀ s f, (State.modNet s f).now = s.now := fun _ _ => rfl
@[simp] theorem modNet_pending : ∀ s f, (State.modNet s f).pending = s.pending := fun _ _ => rfl
@[simp] theorem modNet_out : ∀ s f, (State.modNet s f).out = s.out := fun _ _ => rfl
@[simp] theorem modNet_freeCount : ∀ s f, (State.modNet s f).freeCount = s.freeCount := fun _ _ => rfl
@[simp] theorem modNet_devState : ∀ s f, (State.modNet s f).devState = s.devState := fun _ _ => rfl
@[simp] theorem modNet_printAt : ∀ s f, (State.modNet s f).printAt = s.printAt := fun _ _ => rfl
@[simp] theorem modNet_dev : ∀ s f, (State.modNet s f).dev = s.dev := fun _ _ => rfl
@[simp] theorem modNet_bars : ∀ s f, (State.modNet s f).bars = s.bars := fun _ _ => rfl
@[simp] theorem modNet_fns : ∀ s f, (State.modNet s f).fns = s.fns := fun _ _ => rfl
@[simp] theorem modNet_moa : ∀ s f, (State.modNet s f).moa = s.moa := fun _ _ => rfl
@[simp] theorem modNet_deqHead : ∀ s f, (State.modNet s f).deqHead = s.deqHead := fun _ _ => rfl
@[simp] theorem modNet_deqTail : ∀ s f, (State.modNet s f).deqTail = s.deqTail := fun _ _ => rfl
@[simp] theorem modNet_deqLost : ∀ s f, (State.modNet s f).deqLost = s.deqLost := fun _ _ => rfl
@[simp] theorem modNet_clock : ∀ s f, (State.modNet s f).clock = s.clock := fun _ _ => rfl
@[simp] theorem modNet_encs : ∀ s f, (State.modNet s f).encs = s.encs := fun _ _ => rfl
@[simp] theorem modNet_trig : ∀ s f, (State.modNet s f).trig = s.trig := fun _ _ => rfl
@[simp] theorem modNet_marks : ∀ s f, (State.modNet s f).marks = s.marks := fun _ _ => rfl
@[simp] theorem modNet_ports : ∀ s f, (State.modNet s f).ports = s.ports := fun _ _ => rfl
@[simp] theorem modNet_drays : ∀ s f, (State.modNet s f).drays = s.drays := fun _ _ => rfl
@[simp] theorem modNet_supplies : ∀ s f, (State.modNet s f).supplies = s.supplies := fun _ _ => rfl
@[simp] theorem modNet_lastTrip : ∀ s f, (State.modNet s f).lastTrip = s.lastTrip := fun _ _ => rfl
@[simp] theorem modNet_safeCause : ∀ s f, (State.modNet s f).safeCause = s.safeCause := fun _ _ => rfl
@[simp] theorem modNet_axes : ∀ s f, (State.modNet s f).axes = s.axes := fun _ _ => rfl
@[simp] theorem modNet_ssis : ∀ s f, (State.modNet s f).ssis = s.ssis := fun _ _ => rfl
@[simp] theorem modNet_cmps : ∀ s f, (State.modNet s f).cmps = s.cmps := fun _ _ => rfl
@[simp] theorem modNet_cams : ∀ s f, (State.modNet s f).cams = s.cams := fun _ _ => rfl
@[simp] theorem modNet_health : ∀ s f, (State.modNet s f).health = s.health := fun _ _ => rfl
@[simp] theorem modNet_engines : ∀ s f, (State.modNet s f).engines = s.engines := fun _ _ => rfl
@[simp] theorem modNet_deflaters : ∀ s f, (State.modNet s f).deflaters = s.deflaters := fun _ _ => rfl
@[simp] theorem modNet_place : ∀ s f, (State.modNet s f).place = s.place := fun _ _ => rfl
@[simp] theorem modNet_deficit : ∀ s f, (State.modNet s f).deficit = s.deficit := fun _ _ => rfl
@[simp] theorem modNet_subch : ∀ s f, (State.modNet s f).subch = s.subch := fun _ _ => rfl
@[simp] theorem modNet_stripeGen : ∀ s f, (State.modNet s f).stripeGen = s.stripeGen := fun _ _ => rfl
@[simp] theorem modNet_sram : ∀ s f, (State.modNet s f).sram = s.sram := fun _ _ => rfl
@[simp] theorem modNet_pair : ∀ s f, (State.modNet s f).pair = s.pair := fun _ _ => rfl
@[simp] theorem modNet_sched : ∀ s f, (State.modNet s f).sched = s.sched := fun _ _ => rfl
@[simp] theorem modNet_boot : ∀ s f, (State.modNet s f).boot = s.boot := fun _ _ => rfl
@[simp] theorem modNet_power : ∀ s f, (State.modNet s f).power = s.power := fun _ _ => rfl
@[simp] theorem modNet_trim : ∀ s f, (State.modNet s f).trim = s.trim := fun _ _ => rfl
@[simp] theorem modNet_mram : ∀ s f, (State.modNet s f).mram = s.mram := fun _ _ => rfl
@[simp] theorem modNet_errLog : ∀ s f, (State.modNet s f).errLog = s.errLog := fun _ _ => rfl
@[simp] theorem modNet_logSeq : ∀ s f, (State.modNet s f).logSeq = s.logSeq := fun _ _ => rfl
@[simp] theorem modNet_missLog : ∀ s f, (State.modNet s f).missLog = s.missLog := fun _ _ => rfl
@[simp] theorem modNet_missNext : ∀ s f, (State.modNet s f).missNext = s.missNext := fun _ _ => rfl
@[simp] theorem modNet_webSlow : ∀ s f, (State.modNet s f).webSlow = s.webSlow := fun _ _ => rfl
@[simp] theorem modNet_test : ∀ s f, (State.modNet s f).test = s.test := fun _ _ => rfl
@[simp] theorem modNet_pins : ∀ s f, (State.modNet s f).pins = s.pins := fun _ _ => rfl

/-! ### modMoa -/

@[simp] theorem modMoa_now : ∀ s f, (State.modMoa s f).now = s.now := fun _ _ => rfl
@[simp] theorem modMoa_pending : ∀ s f, (State.modMoa s f).pending = s.pending := fun _ _ => rfl
@[simp] theorem modMoa_out : ∀ s f, (State.modMoa s f).out = s.out := fun _ _ => rfl
@[simp] theorem modMoa_freeCount : ∀ s f, (State.modMoa s f).freeCount = s.freeCount := fun _ _ => rfl
@[simp] theorem modMoa_devState : ∀ s f, (State.modMoa s f).devState = s.devState := fun _ _ => rfl
@[simp] theorem modMoa_printAt : ∀ s f, (State.modMoa s f).printAt = s.printAt := fun _ _ => rfl
@[simp] theorem modMoa_dev : ∀ s f, (State.modMoa s f).dev = s.dev := fun _ _ => rfl
@[simp] theorem modMoa_bars : ∀ s f, (State.modMoa s f).bars = s.bars := fun _ _ => rfl
@[simp] theorem modMoa_fns : ∀ s f, (State.modMoa s f).fns = s.fns := fun _ _ => rfl
@[simp] theorem modMoa_deqHead : ∀ s f, (State.modMoa s f).deqHead = s.deqHead := fun _ _ => rfl
@[simp] theorem modMoa_deqTail : ∀ s f, (State.modMoa s f).deqTail = s.deqTail := fun _ _ => rfl
@[simp] theorem modMoa_deqLost : ∀ s f, (State.modMoa s f).deqLost = s.deqLost := fun _ _ => rfl
@[simp] theorem modMoa_clock : ∀ s f, (State.modMoa s f).clock = s.clock := fun _ _ => rfl
@[simp] theorem modMoa_net : ∀ s f, (State.modMoa s f).net = s.net := fun _ _ => rfl
@[simp] theorem modMoa_encs : ∀ s f, (State.modMoa s f).encs = s.encs := fun _ _ => rfl
@[simp] theorem modMoa_trig : ∀ s f, (State.modMoa s f).trig = s.trig := fun _ _ => rfl
@[simp] theorem modMoa_marks : ∀ s f, (State.modMoa s f).marks = s.marks := fun _ _ => rfl
@[simp] theorem modMoa_ports : ∀ s f, (State.modMoa s f).ports = s.ports := fun _ _ => rfl
@[simp] theorem modMoa_drays : ∀ s f, (State.modMoa s f).drays = s.drays := fun _ _ => rfl
@[simp] theorem modMoa_supplies : ∀ s f, (State.modMoa s f).supplies = s.supplies := fun _ _ => rfl
@[simp] theorem modMoa_lastTrip : ∀ s f, (State.modMoa s f).lastTrip = s.lastTrip := fun _ _ => rfl
@[simp] theorem modMoa_safeCause : ∀ s f, (State.modMoa s f).safeCause = s.safeCause := fun _ _ => rfl
@[simp] theorem modMoa_axes : ∀ s f, (State.modMoa s f).axes = s.axes := fun _ _ => rfl
@[simp] theorem modMoa_ssis : ∀ s f, (State.modMoa s f).ssis = s.ssis := fun _ _ => rfl
@[simp] theorem modMoa_cmps : ∀ s f, (State.modMoa s f).cmps = s.cmps := fun _ _ => rfl
@[simp] theorem modMoa_cams : ∀ s f, (State.modMoa s f).cams = s.cams := fun _ _ => rfl
@[simp] theorem modMoa_health : ∀ s f, (State.modMoa s f).health = s.health := fun _ _ => rfl
@[simp] theorem modMoa_engines : ∀ s f, (State.modMoa s f).engines = s.engines := fun _ _ => rfl
@[simp] theorem modMoa_deflaters : ∀ s f, (State.modMoa s f).deflaters = s.deflaters := fun _ _ => rfl
@[simp] theorem modMoa_place : ∀ s f, (State.modMoa s f).place = s.place := fun _ _ => rfl
@[simp] theorem modMoa_deficit : ∀ s f, (State.modMoa s f).deficit = s.deficit := fun _ _ => rfl
@[simp] theorem modMoa_subch : ∀ s f, (State.modMoa s f).subch = s.subch := fun _ _ => rfl
@[simp] theorem modMoa_stripeGen : ∀ s f, (State.modMoa s f).stripeGen = s.stripeGen := fun _ _ => rfl
@[simp] theorem modMoa_sram : ∀ s f, (State.modMoa s f).sram = s.sram := fun _ _ => rfl
@[simp] theorem modMoa_pair : ∀ s f, (State.modMoa s f).pair = s.pair := fun _ _ => rfl
@[simp] theorem modMoa_sched : ∀ s f, (State.modMoa s f).sched = s.sched := fun _ _ => rfl
@[simp] theorem modMoa_boot : ∀ s f, (State.modMoa s f).boot = s.boot := fun _ _ => rfl
@[simp] theorem modMoa_power : ∀ s f, (State.modMoa s f).power = s.power := fun _ _ => rfl
@[simp] theorem modMoa_trim : ∀ s f, (State.modMoa s f).trim = s.trim := fun _ _ => rfl
@[simp] theorem modMoa_mram : ∀ s f, (State.modMoa s f).mram = s.mram := fun _ _ => rfl
@[simp] theorem modMoa_errLog : ∀ s f, (State.modMoa s f).errLog = s.errLog := fun _ _ => rfl
@[simp] theorem modMoa_logSeq : ∀ s f, (State.modMoa s f).logSeq = s.logSeq := fun _ _ => rfl
@[simp] theorem modMoa_missLog : ∀ s f, (State.modMoa s f).missLog = s.missLog := fun _ _ => rfl
@[simp] theorem modMoa_missNext : ∀ s f, (State.modMoa s f).missNext = s.missNext := fun _ _ => rfl
@[simp] theorem modMoa_webSlow : ∀ s f, (State.modMoa s f).webSlow = s.webSlow := fun _ _ => rfl
@[simp] theorem modMoa_test : ∀ s f, (State.modMoa s f).test = s.test := fun _ _ => rfl
@[simp] theorem modMoa_pins : ∀ s f, (State.modMoa s f).pins = s.pins := fun _ _ => rfl

/-! ### modBoot -/

@[simp] theorem modBoot_now : ∀ s f, (State.modBoot s f).now = s.now := fun _ _ => rfl
@[simp] theorem modBoot_pending : ∀ s f, (State.modBoot s f).pending = s.pending := fun _ _ => rfl
@[simp] theorem modBoot_out : ∀ s f, (State.modBoot s f).out = s.out := fun _ _ => rfl
@[simp] theorem modBoot_freeCount : ∀ s f, (State.modBoot s f).freeCount = s.freeCount := fun _ _ => rfl
@[simp] theorem modBoot_devState : ∀ s f, (State.modBoot s f).devState = s.devState := fun _ _ => rfl
@[simp] theorem modBoot_printAt : ∀ s f, (State.modBoot s f).printAt = s.printAt := fun _ _ => rfl
@[simp] theorem modBoot_dev : ∀ s f, (State.modBoot s f).dev = s.dev := fun _ _ => rfl
@[simp] theorem modBoot_bars : ∀ s f, (State.modBoot s f).bars = s.bars := fun _ _ => rfl
@[simp] theorem modBoot_fns : ∀ s f, (State.modBoot s f).fns = s.fns := fun _ _ => rfl
@[simp] theorem modBoot_moa : ∀ s f, (State.modBoot s f).moa = s.moa := fun _ _ => rfl
@[simp] theorem modBoot_deqHead : ∀ s f, (State.modBoot s f).deqHead = s.deqHead := fun _ _ => rfl
@[simp] theorem modBoot_deqTail : ∀ s f, (State.modBoot s f).deqTail = s.deqTail := fun _ _ => rfl
@[simp] theorem modBoot_deqLost : ∀ s f, (State.modBoot s f).deqLost = s.deqLost := fun _ _ => rfl
@[simp] theorem modBoot_clock : ∀ s f, (State.modBoot s f).clock = s.clock := fun _ _ => rfl
@[simp] theorem modBoot_net : ∀ s f, (State.modBoot s f).net = s.net := fun _ _ => rfl
@[simp] theorem modBoot_encs : ∀ s f, (State.modBoot s f).encs = s.encs := fun _ _ => rfl
@[simp] theorem modBoot_trig : ∀ s f, (State.modBoot s f).trig = s.trig := fun _ _ => rfl
@[simp] theorem modBoot_marks : ∀ s f, (State.modBoot s f).marks = s.marks := fun _ _ => rfl
@[simp] theorem modBoot_ports : ∀ s f, (State.modBoot s f).ports = s.ports := fun _ _ => rfl
@[simp] theorem modBoot_drays : ∀ s f, (State.modBoot s f).drays = s.drays := fun _ _ => rfl
@[simp] theorem modBoot_supplies : ∀ s f, (State.modBoot s f).supplies = s.supplies := fun _ _ => rfl
@[simp] theorem modBoot_lastTrip : ∀ s f, (State.modBoot s f).lastTrip = s.lastTrip := fun _ _ => rfl
@[simp] theorem modBoot_safeCause : ∀ s f, (State.modBoot s f).safeCause = s.safeCause := fun _ _ => rfl
@[simp] theorem modBoot_axes : ∀ s f, (State.modBoot s f).axes = s.axes := fun _ _ => rfl
@[simp] theorem modBoot_ssis : ∀ s f, (State.modBoot s f).ssis = s.ssis := fun _ _ => rfl
@[simp] theorem modBoot_cmps : ∀ s f, (State.modBoot s f).cmps = s.cmps := fun _ _ => rfl
@[simp] theorem modBoot_cams : ∀ s f, (State.modBoot s f).cams = s.cams := fun _ _ => rfl
@[simp] theorem modBoot_health : ∀ s f, (State.modBoot s f).health = s.health := fun _ _ => rfl
@[simp] theorem modBoot_engines : ∀ s f, (State.modBoot s f).engines = s.engines := fun _ _ => rfl
@[simp] theorem modBoot_deflaters : ∀ s f, (State.modBoot s f).deflaters = s.deflaters := fun _ _ => rfl
@[simp] theorem modBoot_place : ∀ s f, (State.modBoot s f).place = s.place := fun _ _ => rfl
@[simp] theorem modBoot_deficit : ∀ s f, (State.modBoot s f).deficit = s.deficit := fun _ _ => rfl
@[simp] theorem modBoot_subch : ∀ s f, (State.modBoot s f).subch = s.subch := fun _ _ => rfl
@[simp] theorem modBoot_stripeGen : ∀ s f, (State.modBoot s f).stripeGen = s.stripeGen := fun _ _ => rfl
@[simp] theorem modBoot_sram : ∀ s f, (State.modBoot s f).sram = s.sram := fun _ _ => rfl
@[simp] theorem modBoot_pair : ∀ s f, (State.modBoot s f).pair = s.pair := fun _ _ => rfl
@[simp] theorem modBoot_sched : ∀ s f, (State.modBoot s f).sched = s.sched := fun _ _ => rfl
@[simp] theorem modBoot_power : ∀ s f, (State.modBoot s f).power = s.power := fun _ _ => rfl
@[simp] theorem modBoot_trim : ∀ s f, (State.modBoot s f).trim = s.trim := fun _ _ => rfl
@[simp] theorem modBoot_mram : ∀ s f, (State.modBoot s f).mram = s.mram := fun _ _ => rfl
@[simp] theorem modBoot_errLog : ∀ s f, (State.modBoot s f).errLog = s.errLog := fun _ _ => rfl
@[simp] theorem modBoot_logSeq : ∀ s f, (State.modBoot s f).logSeq = s.logSeq := fun _ _ => rfl
@[simp] theorem modBoot_missLog : ∀ s f, (State.modBoot s f).missLog = s.missLog := fun _ _ => rfl
@[simp] theorem modBoot_missNext : ∀ s f, (State.modBoot s f).missNext = s.missNext := fun _ _ => rfl
@[simp] theorem modBoot_webSlow : ∀ s f, (State.modBoot s f).webSlow = s.webSlow := fun _ _ => rfl
@[simp] theorem modBoot_test : ∀ s f, (State.modBoot s f).test = s.test := fun _ _ => rfl
@[simp] theorem modBoot_pins : ∀ s f, (State.modBoot s f).pins = s.pins := fun _ _ => rfl

/-! ### modMram -/

@[simp] theorem modMram_now : ∀ s f, (State.modMram s f).now = s.now := fun _ _ => rfl
@[simp] theorem modMram_pending : ∀ s f, (State.modMram s f).pending = s.pending := fun _ _ => rfl
@[simp] theorem modMram_out : ∀ s f, (State.modMram s f).out = s.out := fun _ _ => rfl
@[simp] theorem modMram_freeCount : ∀ s f, (State.modMram s f).freeCount = s.freeCount := fun _ _ => rfl
@[simp] theorem modMram_devState : ∀ s f, (State.modMram s f).devState = s.devState := fun _ _ => rfl
@[simp] theorem modMram_printAt : ∀ s f, (State.modMram s f).printAt = s.printAt := fun _ _ => rfl
@[simp] theorem modMram_dev : ∀ s f, (State.modMram s f).dev = s.dev := fun _ _ => rfl
@[simp] theorem modMram_bars : ∀ s f, (State.modMram s f).bars = s.bars := fun _ _ => rfl
@[simp] theorem modMram_fns : ∀ s f, (State.modMram s f).fns = s.fns := fun _ _ => rfl
@[simp] theorem modMram_moa : ∀ s f, (State.modMram s f).moa = s.moa := fun _ _ => rfl
@[simp] theorem modMram_deqHead : ∀ s f, (State.modMram s f).deqHead = s.deqHead := fun _ _ => rfl
@[simp] theorem modMram_deqTail : ∀ s f, (State.modMram s f).deqTail = s.deqTail := fun _ _ => rfl
@[simp] theorem modMram_deqLost : ∀ s f, (State.modMram s f).deqLost = s.deqLost := fun _ _ => rfl
@[simp] theorem modMram_clock : ∀ s f, (State.modMram s f).clock = s.clock := fun _ _ => rfl
@[simp] theorem modMram_net : ∀ s f, (State.modMram s f).net = s.net := fun _ _ => rfl
@[simp] theorem modMram_encs : ∀ s f, (State.modMram s f).encs = s.encs := fun _ _ => rfl
@[simp] theorem modMram_trig : ∀ s f, (State.modMram s f).trig = s.trig := fun _ _ => rfl
@[simp] theorem modMram_marks : ∀ s f, (State.modMram s f).marks = s.marks := fun _ _ => rfl
@[simp] theorem modMram_ports : ∀ s f, (State.modMram s f).ports = s.ports := fun _ _ => rfl
@[simp] theorem modMram_drays : ∀ s f, (State.modMram s f).drays = s.drays := fun _ _ => rfl
@[simp] theorem modMram_supplies : ∀ s f, (State.modMram s f).supplies = s.supplies := fun _ _ => rfl
@[simp] theorem modMram_lastTrip : ∀ s f, (State.modMram s f).lastTrip = s.lastTrip := fun _ _ => rfl
@[simp] theorem modMram_safeCause : ∀ s f, (State.modMram s f).safeCause = s.safeCause := fun _ _ => rfl
@[simp] theorem modMram_axes : ∀ s f, (State.modMram s f).axes = s.axes := fun _ _ => rfl
@[simp] theorem modMram_ssis : ∀ s f, (State.modMram s f).ssis = s.ssis := fun _ _ => rfl
@[simp] theorem modMram_cmps : ∀ s f, (State.modMram s f).cmps = s.cmps := fun _ _ => rfl
@[simp] theorem modMram_cams : ∀ s f, (State.modMram s f).cams = s.cams := fun _ _ => rfl
@[simp] theorem modMram_health : ∀ s f, (State.modMram s f).health = s.health := fun _ _ => rfl
@[simp] theorem modMram_engines : ∀ s f, (State.modMram s f).engines = s.engines := fun _ _ => rfl
@[simp] theorem modMram_deflaters : ∀ s f, (State.modMram s f).deflaters = s.deflaters := fun _ _ => rfl
@[simp] theorem modMram_place : ∀ s f, (State.modMram s f).place = s.place := fun _ _ => rfl
@[simp] theorem modMram_deficit : ∀ s f, (State.modMram s f).deficit = s.deficit := fun _ _ => rfl
@[simp] theorem modMram_subch : ∀ s f, (State.modMram s f).subch = s.subch := fun _ _ => rfl
@[simp] theorem modMram_stripeGen : ∀ s f, (State.modMram s f).stripeGen = s.stripeGen := fun _ _ => rfl
@[simp] theorem modMram_sram : ∀ s f, (State.modMram s f).sram = s.sram := fun _ _ => rfl
@[simp] theorem modMram_pair : ∀ s f, (State.modMram s f).pair = s.pair := fun _ _ => rfl
@[simp] theorem modMram_sched : ∀ s f, (State.modMram s f).sched = s.sched := fun _ _ => rfl
@[simp] theorem modMram_boot : ∀ s f, (State.modMram s f).boot = s.boot := fun _ _ => rfl
@[simp] theorem modMram_power : ∀ s f, (State.modMram s f).power = s.power := fun _ _ => rfl
@[simp] theorem modMram_trim : ∀ s f, (State.modMram s f).trim = s.trim := fun _ _ => rfl
@[simp] theorem modMram_errLog : ∀ s f, (State.modMram s f).errLog = s.errLog := fun _ _ => rfl
@[simp] theorem modMram_logSeq : ∀ s f, (State.modMram s f).logSeq = s.logSeq := fun _ _ => rfl
@[simp] theorem modMram_missLog : ∀ s f, (State.modMram s f).missLog = s.missLog := fun _ _ => rfl
@[simp] theorem modMram_missNext : ∀ s f, (State.modMram s f).missNext = s.missNext := fun _ _ => rfl
@[simp] theorem modMram_webSlow : ∀ s f, (State.modMram s f).webSlow = s.webSlow := fun _ _ => rfl
@[simp] theorem modMram_test : ∀ s f, (State.modMram s f).test = s.test := fun _ _ => rfl
@[simp] theorem modMram_pins : ∀ s f, (State.modMram s f).pins = s.pins := fun _ _ => rfl

/-! ### modTest -/

@[simp] theorem modTest_now : ∀ s f, (State.modTest s f).now = s.now := fun _ _ => rfl
@[simp] theorem modTest_pending : ∀ s f, (State.modTest s f).pending = s.pending := fun _ _ => rfl
@[simp] theorem modTest_out : ∀ s f, (State.modTest s f).out = s.out := fun _ _ => rfl
@[simp] theorem modTest_freeCount : ∀ s f, (State.modTest s f).freeCount = s.freeCount := fun _ _ => rfl
@[simp] theorem modTest_devState : ∀ s f, (State.modTest s f).devState = s.devState := fun _ _ => rfl
@[simp] theorem modTest_printAt : ∀ s f, (State.modTest s f).printAt = s.printAt := fun _ _ => rfl
@[simp] theorem modTest_dev : ∀ s f, (State.modTest s f).dev = s.dev := fun _ _ => rfl
@[simp] theorem modTest_bars : ∀ s f, (State.modTest s f).bars = s.bars := fun _ _ => rfl
@[simp] theorem modTest_fns : ∀ s f, (State.modTest s f).fns = s.fns := fun _ _ => rfl
@[simp] theorem modTest_moa : ∀ s f, (State.modTest s f).moa = s.moa := fun _ _ => rfl
@[simp] theorem modTest_deqHead : ∀ s f, (State.modTest s f).deqHead = s.deqHead := fun _ _ => rfl
@[simp] theorem modTest_deqTail : ∀ s f, (State.modTest s f).deqTail = s.deqTail := fun _ _ => rfl
@[simp] theorem modTest_deqLost : ∀ s f, (State.modTest s f).deqLost = s.deqLost := fun _ _ => rfl
@[simp] theorem modTest_clock : ∀ s f, (State.modTest s f).clock = s.clock := fun _ _ => rfl
@[simp] theorem modTest_net : ∀ s f, (State.modTest s f).net = s.net := fun _ _ => rfl
@[simp] theorem modTest_encs : ∀ s f, (State.modTest s f).encs = s.encs := fun _ _ => rfl
@[simp] theorem modTest_trig : ∀ s f, (State.modTest s f).trig = s.trig := fun _ _ => rfl
@[simp] theorem modTest_marks : ∀ s f, (State.modTest s f).marks = s.marks := fun _ _ => rfl
@[simp] theorem modTest_ports : ∀ s f, (State.modTest s f).ports = s.ports := fun _ _ => rfl
@[simp] theorem modTest_drays : ∀ s f, (State.modTest s f).drays = s.drays := fun _ _ => rfl
@[simp] theorem modTest_supplies : ∀ s f, (State.modTest s f).supplies = s.supplies := fun _ _ => rfl
@[simp] theorem modTest_lastTrip : ∀ s f, (State.modTest s f).lastTrip = s.lastTrip := fun _ _ => rfl
@[simp] theorem modTest_safeCause : ∀ s f, (State.modTest s f).safeCause = s.safeCause := fun _ _ => rfl
@[simp] theorem modTest_axes : ∀ s f, (State.modTest s f).axes = s.axes := fun _ _ => rfl
@[simp] theorem modTest_ssis : ∀ s f, (State.modTest s f).ssis = s.ssis := fun _ _ => rfl
@[simp] theorem modTest_cmps : ∀ s f, (State.modTest s f).cmps = s.cmps := fun _ _ => rfl
@[simp] theorem modTest_cams : ∀ s f, (State.modTest s f).cams = s.cams := fun _ _ => rfl
@[simp] theorem modTest_health : ∀ s f, (State.modTest s f).health = s.health := fun _ _ => rfl
@[simp] theorem modTest_engines : ∀ s f, (State.modTest s f).engines = s.engines := fun _ _ => rfl
@[simp] theorem modTest_deflaters : ∀ s f, (State.modTest s f).deflaters = s.deflaters := fun _ _ => rfl
@[simp] theorem modTest_place : ∀ s f, (State.modTest s f).place = s.place := fun _ _ => rfl
@[simp] theorem modTest_deficit : ∀ s f, (State.modTest s f).deficit = s.deficit := fun _ _ => rfl
@[simp] theorem modTest_subch : ∀ s f, (State.modTest s f).subch = s.subch := fun _ _ => rfl
@[simp] theorem modTest_stripeGen : ∀ s f, (State.modTest s f).stripeGen = s.stripeGen := fun _ _ => rfl
@[simp] theorem modTest_sram : ∀ s f, (State.modTest s f).sram = s.sram := fun _ _ => rfl
@[simp] theorem modTest_pair : ∀ s f, (State.modTest s f).pair = s.pair := fun _ _ => rfl
@[simp] theorem modTest_sched : ∀ s f, (State.modTest s f).sched = s.sched := fun _ _ => rfl
@[simp] theorem modTest_boot : ∀ s f, (State.modTest s f).boot = s.boot := fun _ _ => rfl
@[simp] theorem modTest_power : ∀ s f, (State.modTest s f).power = s.power := fun _ _ => rfl
@[simp] theorem modTest_trim : ∀ s f, (State.modTest s f).trim = s.trim := fun _ _ => rfl
@[simp] theorem modTest_mram : ∀ s f, (State.modTest s f).mram = s.mram := fun _ _ => rfl
@[simp] theorem modTest_errLog : ∀ s f, (State.modTest s f).errLog = s.errLog := fun _ _ => rfl
@[simp] theorem modTest_logSeq : ∀ s f, (State.modTest s f).logSeq = s.logSeq := fun _ _ => rfl
@[simp] theorem modTest_missLog : ∀ s f, (State.modTest s f).missLog = s.missLog := fun _ _ => rfl
@[simp] theorem modTest_missNext : ∀ s f, (State.modTest s f).missNext = s.missNext := fun _ _ => rfl
@[simp] theorem modTest_webSlow : ∀ s f, (State.modTest s f).webSlow = s.webSlow := fun _ _ => rfl
@[simp] theorem modTest_pins : ∀ s f, (State.modTest s f).pins = s.pins := fun _ _ => rfl

/-! ### modPins -/

@[simp] theorem modPins_now : ∀ s f, (State.modPins s f).now = s.now := fun _ _ => rfl
@[simp] theorem modPins_pending : ∀ s f, (State.modPins s f).pending = s.pending := fun _ _ => rfl
@[simp] theorem modPins_out : ∀ s f, (State.modPins s f).out = s.out := fun _ _ => rfl
@[simp] theorem modPins_freeCount : ∀ s f, (State.modPins s f).freeCount = s.freeCount := fun _ _ => rfl
@[simp] theorem modPins_devState : ∀ s f, (State.modPins s f).devState = s.devState := fun _ _ => rfl
@[simp] theorem modPins_printAt : ∀ s f, (State.modPins s f).printAt = s.printAt := fun _ _ => rfl
@[simp] theorem modPins_dev : ∀ s f, (State.modPins s f).dev = s.dev := fun _ _ => rfl
@[simp] theorem modPins_bars : ∀ s f, (State.modPins s f).bars = s.bars := fun _ _ => rfl
@[simp] theorem modPins_fns : ∀ s f, (State.modPins s f).fns = s.fns := fun _ _ => rfl
@[simp] theorem modPins_moa : ∀ s f, (State.modPins s f).moa = s.moa := fun _ _ => rfl
@[simp] theorem modPins_deqHead : ∀ s f, (State.modPins s f).deqHead = s.deqHead := fun _ _ => rfl
@[simp] theorem modPins_deqTail : ∀ s f, (State.modPins s f).deqTail = s.deqTail := fun _ _ => rfl
@[simp] theorem modPins_deqLost : ∀ s f, (State.modPins s f).deqLost = s.deqLost := fun _ _ => rfl
@[simp] theorem modPins_clock : ∀ s f, (State.modPins s f).clock = s.clock := fun _ _ => rfl
@[simp] theorem modPins_net : ∀ s f, (State.modPins s f).net = s.net := fun _ _ => rfl
@[simp] theorem modPins_encs : ∀ s f, (State.modPins s f).encs = s.encs := fun _ _ => rfl
@[simp] theorem modPins_trig : ∀ s f, (State.modPins s f).trig = s.trig := fun _ _ => rfl
@[simp] theorem modPins_marks : ∀ s f, (State.modPins s f).marks = s.marks := fun _ _ => rfl
@[simp] theorem modPins_ports : ∀ s f, (State.modPins s f).ports = s.ports := fun _ _ => rfl
@[simp] theorem modPins_drays : ∀ s f, (State.modPins s f).drays = s.drays := fun _ _ => rfl
@[simp] theorem modPins_supplies : ∀ s f, (State.modPins s f).supplies = s.supplies := fun _ _ => rfl
@[simp] theorem modPins_lastTrip : ∀ s f, (State.modPins s f).lastTrip = s.lastTrip := fun _ _ => rfl
@[simp] theorem modPins_safeCause : ∀ s f, (State.modPins s f).safeCause = s.safeCause := fun _ _ => rfl
@[simp] theorem modPins_axes : ∀ s f, (State.modPins s f).axes = s.axes := fun _ _ => rfl
@[simp] theorem modPins_ssis : ∀ s f, (State.modPins s f).ssis = s.ssis := fun _ _ => rfl
@[simp] theorem modPins_cmps : ∀ s f, (State.modPins s f).cmps = s.cmps := fun _ _ => rfl
@[simp] theorem modPins_cams : ∀ s f, (State.modPins s f).cams = s.cams := fun _ _ => rfl
@[simp] theorem modPins_health : ∀ s f, (State.modPins s f).health = s.health := fun _ _ => rfl
@[simp] theorem modPins_engines : ∀ s f, (State.modPins s f).engines = s.engines := fun _ _ => rfl
@[simp] theorem modPins_deflaters : ∀ s f, (State.modPins s f).deflaters = s.deflaters := fun _ _ => rfl
@[simp] theorem modPins_place : ∀ s f, (State.modPins s f).place = s.place := fun _ _ => rfl
@[simp] theorem modPins_deficit : ∀ s f, (State.modPins s f).deficit = s.deficit := fun _ _ => rfl
@[simp] theorem modPins_subch : ∀ s f, (State.modPins s f).subch = s.subch := fun _ _ => rfl
@[simp] theorem modPins_stripeGen : ∀ s f, (State.modPins s f).stripeGen = s.stripeGen := fun _ _ => rfl
@[simp] theorem modPins_sram : ∀ s f, (State.modPins s f).sram = s.sram := fun _ _ => rfl
@[simp] theorem modPins_pair : ∀ s f, (State.modPins s f).pair = s.pair := fun _ _ => rfl
@[simp] theorem modPins_sched : ∀ s f, (State.modPins s f).sched = s.sched := fun _ _ => rfl
@[simp] theorem modPins_boot : ∀ s f, (State.modPins s f).boot = s.boot := fun _ _ => rfl
@[simp] theorem modPins_power : ∀ s f, (State.modPins s f).power = s.power := fun _ _ => rfl
@[simp] theorem modPins_trim : ∀ s f, (State.modPins s f).trim = s.trim := fun _ _ => rfl
@[simp] theorem modPins_mram : ∀ s f, (State.modPins s f).mram = s.mram := fun _ _ => rfl
@[simp] theorem modPins_errLog : ∀ s f, (State.modPins s f).errLog = s.errLog := fun _ _ => rfl
@[simp] theorem modPins_logSeq : ∀ s f, (State.modPins s f).logSeq = s.logSeq := fun _ _ => rfl
@[simp] theorem modPins_missLog : ∀ s f, (State.modPins s f).missLog = s.missLog := fun _ _ => rfl
@[simp] theorem modPins_missNext : ∀ s f, (State.modPins s f).missNext = s.missNext := fun _ _ => rfl
@[simp] theorem modPins_webSlow : ∀ s f, (State.modPins s f).webSlow = s.webSlow := fun _ _ => rfl
@[simp] theorem modPins_test : ∀ s f, (State.modPins s f).test = s.test := fun _ _ => rfl

/-! ### modSched -/

@[simp] theorem modSched_now : ∀ s f, (State.modSched s f).now = s.now := fun _ _ => rfl
@[simp] theorem modSched_pending : ∀ s f, (State.modSched s f).pending = s.pending := fun _ _ => rfl
@[simp] theorem modSched_out : ∀ s f, (State.modSched s f).out = s.out := fun _ _ => rfl
@[simp] theorem modSched_freeCount : ∀ s f, (State.modSched s f).freeCount = s.freeCount := fun _ _ => rfl
@[simp] theorem modSched_devState : ∀ s f, (State.modSched s f).devState = s.devState := fun _ _ => rfl
@[simp] theorem modSched_printAt : ∀ s f, (State.modSched s f).printAt = s.printAt := fun _ _ => rfl
@[simp] theorem modSched_dev : ∀ s f, (State.modSched s f).dev = s.dev := fun _ _ => rfl
@[simp] theorem modSched_bars : ∀ s f, (State.modSched s f).bars = s.bars := fun _ _ => rfl
@[simp] theorem modSched_fns : ∀ s f, (State.modSched s f).fns = s.fns := fun _ _ => rfl
@[simp] theorem modSched_moa : ∀ s f, (State.modSched s f).moa = s.moa := fun _ _ => rfl
@[simp] theorem modSched_deqHead : ∀ s f, (State.modSched s f).deqHead = s.deqHead := fun _ _ => rfl
@[simp] theorem modSched_deqTail : ∀ s f, (State.modSched s f).deqTail = s.deqTail := fun _ _ => rfl
@[simp] theorem modSched_deqLost : ∀ s f, (State.modSched s f).deqLost = s.deqLost := fun _ _ => rfl
@[simp] theorem modSched_clock : ∀ s f, (State.modSched s f).clock = s.clock := fun _ _ => rfl
@[simp] theorem modSched_net : ∀ s f, (State.modSched s f).net = s.net := fun _ _ => rfl
@[simp] theorem modSched_encs : ∀ s f, (State.modSched s f).encs = s.encs := fun _ _ => rfl
@[simp] theorem modSched_trig : ∀ s f, (State.modSched s f).trig = s.trig := fun _ _ => rfl
@[simp] theorem modSched_marks : ∀ s f, (State.modSched s f).marks = s.marks := fun _ _ => rfl
@[simp] theorem modSched_ports : ∀ s f, (State.modSched s f).ports = s.ports := fun _ _ => rfl
@[simp] theorem modSched_drays : ∀ s f, (State.modSched s f).drays = s.drays := fun _ _ => rfl
@[simp] theorem modSched_supplies : ∀ s f, (State.modSched s f).supplies = s.supplies := fun _ _ => rfl
@[simp] theorem modSched_lastTrip : ∀ s f, (State.modSched s f).lastTrip = s.lastTrip := fun _ _ => rfl
@[simp] theorem modSched_safeCause : ∀ s f, (State.modSched s f).safeCause = s.safeCause := fun _ _ => rfl
@[simp] theorem modSched_axes : ∀ s f, (State.modSched s f).axes = s.axes := fun _ _ => rfl
@[simp] theorem modSched_ssis : ∀ s f, (State.modSched s f).ssis = s.ssis := fun _ _ => rfl
@[simp] theorem modSched_cmps : ∀ s f, (State.modSched s f).cmps = s.cmps := fun _ _ => rfl
@[simp] theorem modSched_cams : ∀ s f, (State.modSched s f).cams = s.cams := fun _ _ => rfl
@[simp] theorem modSched_health : ∀ s f, (State.modSched s f).health = s.health := fun _ _ => rfl
@[simp] theorem modSched_engines : ∀ s f, (State.modSched s f).engines = s.engines := fun _ _ => rfl
@[simp] theorem modSched_deflaters : ∀ s f, (State.modSched s f).deflaters = s.deflaters := fun _ _ => rfl
@[simp] theorem modSched_place : ∀ s f, (State.modSched s f).place = s.place := fun _ _ => rfl
@[simp] theorem modSched_deficit : ∀ s f, (State.modSched s f).deficit = s.deficit := fun _ _ => rfl
@[simp] theorem modSched_subch : ∀ s f, (State.modSched s f).subch = s.subch := fun _ _ => rfl
@[simp] theorem modSched_stripeGen : ∀ s f, (State.modSched s f).stripeGen = s.stripeGen := fun _ _ => rfl
@[simp] theorem modSched_sram : ∀ s f, (State.modSched s f).sram = s.sram := fun _ _ => rfl
@[simp] theorem modSched_pair : ∀ s f, (State.modSched s f).pair = s.pair := fun _ _ => rfl
@[simp] theorem modSched_boot : ∀ s f, (State.modSched s f).boot = s.boot := fun _ _ => rfl
@[simp] theorem modSched_power : ∀ s f, (State.modSched s f).power = s.power := fun _ _ => rfl
@[simp] theorem modSched_trim : ∀ s f, (State.modSched s f).trim = s.trim := fun _ _ => rfl
@[simp] theorem modSched_mram : ∀ s f, (State.modSched s f).mram = s.mram := fun _ _ => rfl
@[simp] theorem modSched_errLog : ∀ s f, (State.modSched s f).errLog = s.errLog := fun _ _ => rfl
@[simp] theorem modSched_logSeq : ∀ s f, (State.modSched s f).logSeq = s.logSeq := fun _ _ => rfl
@[simp] theorem modSched_missLog : ∀ s f, (State.modSched s f).missLog = s.missLog := fun _ _ => rfl
@[simp] theorem modSched_missNext : ∀ s f, (State.modSched s f).missNext = s.missNext := fun _ _ => rfl
@[simp] theorem modSched_webSlow : ∀ s f, (State.modSched s f).webSlow = s.webSlow := fun _ _ => rfl
@[simp] theorem modSched_test : ∀ s f, (State.modSched s f).test = s.test := fun _ _ => rfl
@[simp] theorem modSched_pins : ∀ s f, (State.modSched s f).pins = s.pins := fun _ _ => rfl

/-! ### modIntake -/

@[simp] theorem modIntake_now : ∀ s b f, (State.modIntake s b f).now = s.now := fun _ _ _ => rfl
@[simp] theorem modIntake_pending : ∀ s b f, (State.modIntake s b f).pending = s.pending := fun _ _ _ => rfl
@[simp] theorem modIntake_out : ∀ s b f, (State.modIntake s b f).out = s.out := fun _ _ _ => rfl
@[simp] theorem modIntake_freeCount : ∀ s b f, (State.modIntake s b f).freeCount = s.freeCount := fun _ _ _ => rfl
@[simp] theorem modIntake_devState : ∀ s b f, (State.modIntake s b f).devState = s.devState := fun _ _ _ => rfl
@[simp] theorem modIntake_printAt : ∀ s b f, (State.modIntake s b f).printAt = s.printAt := fun _ _ _ => rfl
@[simp] theorem modIntake_dev : ∀ s b f, (State.modIntake s b f).dev = s.dev := fun _ _ _ => rfl
@[simp] theorem modIntake_fns : ∀ s b f, (State.modIntake s b f).fns = s.fns := fun _ _ _ => rfl
@[simp] theorem modIntake_moa : ∀ s b f, (State.modIntake s b f).moa = s.moa := fun _ _ _ => rfl
@[simp] theorem modIntake_deqHead : ∀ s b f, (State.modIntake s b f).deqHead = s.deqHead := fun _ _ _ => rfl
@[simp] theorem modIntake_deqTail : ∀ s b f, (State.modIntake s b f).deqTail = s.deqTail := fun _ _ _ => rfl
@[simp] theorem modIntake_deqLost : ∀ s b f, (State.modIntake s b f).deqLost = s.deqLost := fun _ _ _ => rfl
@[simp] theorem modIntake_clock : ∀ s b f, (State.modIntake s b f).clock = s.clock := fun _ _ _ => rfl
@[simp] theorem modIntake_net : ∀ s b f, (State.modIntake s b f).net = s.net := fun _ _ _ => rfl
@[simp] theorem modIntake_encs : ∀ s b f, (State.modIntake s b f).encs = s.encs := fun _ _ _ => rfl
@[simp] theorem modIntake_trig : ∀ s b f, (State.modIntake s b f).trig = s.trig := fun _ _ _ => rfl
@[simp] theorem modIntake_marks : ∀ s b f, (State.modIntake s b f).marks = s.marks := fun _ _ _ => rfl
@[simp] theorem modIntake_ports : ∀ s b f, (State.modIntake s b f).ports = s.ports := fun _ _ _ => rfl
@[simp] theorem modIntake_drays : ∀ s b f, (State.modIntake s b f).drays = s.drays := fun _ _ _ => rfl
@[simp] theorem modIntake_supplies : ∀ s b f, (State.modIntake s b f).supplies = s.supplies := fun _ _ _ => rfl
@[simp] theorem modIntake_lastTrip : ∀ s b f, (State.modIntake s b f).lastTrip = s.lastTrip := fun _ _ _ => rfl
@[simp] theorem modIntake_safeCause : ∀ s b f, (State.modIntake s b f).safeCause = s.safeCause := fun _ _ _ => rfl
@[simp] theorem modIntake_axes : ∀ s b f, (State.modIntake s b f).axes = s.axes := fun _ _ _ => rfl
@[simp] theorem modIntake_ssis : ∀ s b f, (State.modIntake s b f).ssis = s.ssis := fun _ _ _ => rfl
@[simp] theorem modIntake_cmps : ∀ s b f, (State.modIntake s b f).cmps = s.cmps := fun _ _ _ => rfl
@[simp] theorem modIntake_cams : ∀ s b f, (State.modIntake s b f).cams = s.cams := fun _ _ _ => rfl
@[simp] theorem modIntake_health : ∀ s b f, (State.modIntake s b f).health = s.health := fun _ _ _ => rfl
@[simp] theorem modIntake_engines : ∀ s b f, (State.modIntake s b f).engines = s.engines := fun _ _ _ => rfl
@[simp] theorem modIntake_deflaters : ∀ s b f, (State.modIntake s b f).deflaters = s.deflaters := fun _ _ _ => rfl
@[simp] theorem modIntake_place : ∀ s b f, (State.modIntake s b f).place = s.place := fun _ _ _ => rfl
@[simp] theorem modIntake_deficit : ∀ s b f, (State.modIntake s b f).deficit = s.deficit := fun _ _ _ => rfl
@[simp] theorem modIntake_subch : ∀ s b f, (State.modIntake s b f).subch = s.subch := fun _ _ _ => rfl
@[simp] theorem modIntake_stripeGen : ∀ s b f, (State.modIntake s b f).stripeGen = s.stripeGen := fun _ _ _ => rfl
@[simp] theorem modIntake_sram : ∀ s b f, (State.modIntake s b f).sram = s.sram := fun _ _ _ => rfl
@[simp] theorem modIntake_pair : ∀ s b f, (State.modIntake s b f).pair = s.pair := fun _ _ _ => rfl
@[simp] theorem modIntake_sched : ∀ s b f, (State.modIntake s b f).sched = s.sched := fun _ _ _ => rfl
@[simp] theorem modIntake_boot : ∀ s b f, (State.modIntake s b f).boot = s.boot := fun _ _ _ => rfl
@[simp] theorem modIntake_power : ∀ s b f, (State.modIntake s b f).power = s.power := fun _ _ _ => rfl
@[simp] theorem modIntake_trim : ∀ s b f, (State.modIntake s b f).trim = s.trim := fun _ _ _ => rfl
@[simp] theorem modIntake_mram : ∀ s b f, (State.modIntake s b f).mram = s.mram := fun _ _ _ => rfl
@[simp] theorem modIntake_errLog : ∀ s b f, (State.modIntake s b f).errLog = s.errLog := fun _ _ _ => rfl
@[simp] theorem modIntake_logSeq : ∀ s b f, (State.modIntake s b f).logSeq = s.logSeq := fun _ _ _ => rfl
@[simp] theorem modIntake_missLog : ∀ s b f, (State.modIntake s b f).missLog = s.missLog := fun _ _ _ => rfl
@[simp] theorem modIntake_missNext : ∀ s b f, (State.modIntake s b f).missNext = s.missNext := fun _ _ _ => rfl
@[simp] theorem modIntake_webSlow : ∀ s b f, (State.modIntake s b f).webSlow = s.webSlow := fun _ _ _ => rfl
@[simp] theorem modIntake_test : ∀ s b f, (State.modIntake s b f).test = s.test := fun _ _ _ => rfl
@[simp] theorem modIntake_pins : ∀ s b f, (State.modIntake s b f).pins = s.pins := fun _ _ _ => rfl

/-! ### modScan -/

@[simp] theorem modScan_now : ∀ s b f, (State.modScan s b f).now = s.now := fun _ _ _ => rfl
@[simp] theorem modScan_pending : ∀ s b f, (State.modScan s b f).pending = s.pending := fun _ _ _ => rfl
@[simp] theorem modScan_out : ∀ s b f, (State.modScan s b f).out = s.out := fun _ _ _ => rfl
@[simp] theorem modScan_freeCount : ∀ s b f, (State.modScan s b f).freeCount = s.freeCount := fun _ _ _ => rfl
@[simp] theorem modScan_devState : ∀ s b f, (State.modScan s b f).devState = s.devState := fun _ _ _ => rfl
@[simp] theorem modScan_printAt : ∀ s b f, (State.modScan s b f).printAt = s.printAt := fun _ _ _ => rfl
@[simp] theorem modScan_dev : ∀ s b f, (State.modScan s b f).dev = s.dev := fun _ _ _ => rfl
@[simp] theorem modScan_fns : ∀ s b f, (State.modScan s b f).fns = s.fns := fun _ _ _ => rfl
@[simp] theorem modScan_moa : ∀ s b f, (State.modScan s b f).moa = s.moa := fun _ _ _ => rfl
@[simp] theorem modScan_deqHead : ∀ s b f, (State.modScan s b f).deqHead = s.deqHead := fun _ _ _ => rfl
@[simp] theorem modScan_deqTail : ∀ s b f, (State.modScan s b f).deqTail = s.deqTail := fun _ _ _ => rfl
@[simp] theorem modScan_deqLost : ∀ s b f, (State.modScan s b f).deqLost = s.deqLost := fun _ _ _ => rfl
@[simp] theorem modScan_clock : ∀ s b f, (State.modScan s b f).clock = s.clock := fun _ _ _ => rfl
@[simp] theorem modScan_net : ∀ s b f, (State.modScan s b f).net = s.net := fun _ _ _ => rfl
@[simp] theorem modScan_encs : ∀ s b f, (State.modScan s b f).encs = s.encs := fun _ _ _ => rfl
@[simp] theorem modScan_trig : ∀ s b f, (State.modScan s b f).trig = s.trig := fun _ _ _ => rfl
@[simp] theorem modScan_marks : ∀ s b f, (State.modScan s b f).marks = s.marks := fun _ _ _ => rfl
@[simp] theorem modScan_ports : ∀ s b f, (State.modScan s b f).ports = s.ports := fun _ _ _ => rfl
@[simp] theorem modScan_drays : ∀ s b f, (State.modScan s b f).drays = s.drays := fun _ _ _ => rfl
@[simp] theorem modScan_supplies : ∀ s b f, (State.modScan s b f).supplies = s.supplies := fun _ _ _ => rfl
@[simp] theorem modScan_lastTrip : ∀ s b f, (State.modScan s b f).lastTrip = s.lastTrip := fun _ _ _ => rfl
@[simp] theorem modScan_safeCause : ∀ s b f, (State.modScan s b f).safeCause = s.safeCause := fun _ _ _ => rfl
@[simp] theorem modScan_axes : ∀ s b f, (State.modScan s b f).axes = s.axes := fun _ _ _ => rfl
@[simp] theorem modScan_ssis : ∀ s b f, (State.modScan s b f).ssis = s.ssis := fun _ _ _ => rfl
@[simp] theorem modScan_cmps : ∀ s b f, (State.modScan s b f).cmps = s.cmps := fun _ _ _ => rfl
@[simp] theorem modScan_cams : ∀ s b f, (State.modScan s b f).cams = s.cams := fun _ _ _ => rfl
@[simp] theorem modScan_health : ∀ s b f, (State.modScan s b f).health = s.health := fun _ _ _ => rfl
@[simp] theorem modScan_engines : ∀ s b f, (State.modScan s b f).engines = s.engines := fun _ _ _ => rfl
@[simp] theorem modScan_deflaters : ∀ s b f, (State.modScan s b f).deflaters = s.deflaters := fun _ _ _ => rfl
@[simp] theorem modScan_place : ∀ s b f, (State.modScan s b f).place = s.place := fun _ _ _ => rfl
@[simp] theorem modScan_deficit : ∀ s b f, (State.modScan s b f).deficit = s.deficit := fun _ _ _ => rfl
@[simp] theorem modScan_subch : ∀ s b f, (State.modScan s b f).subch = s.subch := fun _ _ _ => rfl
@[simp] theorem modScan_stripeGen : ∀ s b f, (State.modScan s b f).stripeGen = s.stripeGen := fun _ _ _ => rfl
@[simp] theorem modScan_sram : ∀ s b f, (State.modScan s b f).sram = s.sram := fun _ _ _ => rfl
@[simp] theorem modScan_pair : ∀ s b f, (State.modScan s b f).pair = s.pair := fun _ _ _ => rfl
@[simp] theorem modScan_sched : ∀ s b f, (State.modScan s b f).sched = s.sched := fun _ _ _ => rfl
@[simp] theorem modScan_boot : ∀ s b f, (State.modScan s b f).boot = s.boot := fun _ _ _ => rfl
@[simp] theorem modScan_power : ∀ s b f, (State.modScan s b f).power = s.power := fun _ _ _ => rfl
@[simp] theorem modScan_trim : ∀ s b f, (State.modScan s b f).trim = s.trim := fun _ _ _ => rfl
@[simp] theorem modScan_mram : ∀ s b f, (State.modScan s b f).mram = s.mram := fun _ _ _ => rfl
@[simp] theorem modScan_errLog : ∀ s b f, (State.modScan s b f).errLog = s.errLog := fun _ _ _ => rfl
@[simp] theorem modScan_logSeq : ∀ s b f, (State.modScan s b f).logSeq = s.logSeq := fun _ _ _ => rfl
@[simp] theorem modScan_missLog : ∀ s b f, (State.modScan s b f).missLog = s.missLog := fun _ _ _ => rfl
@[simp] theorem modScan_missNext : ∀ s b f, (State.modScan s b f).missNext = s.missNext := fun _ _ _ => rfl
@[simp] theorem modScan_webSlow : ∀ s b f, (State.modScan s b f).webSlow = s.webSlow := fun _ _ _ => rfl
@[simp] theorem modScan_test : ∀ s b f, (State.modScan s b f).test = s.test := fun _ _ _ => rfl
@[simp] theorem modScan_pins : ∀ s b f, (State.modScan s b f).pins = s.pins := fun _ _ _ => rfl

/-! ### idleDomain -/

@[simp] theorem idleDomain_now : ∀ s d, (State.idleDomain s d).now = s.now := fun _ _ => rfl
@[simp] theorem idleDomain_pending : ∀ s d, (State.idleDomain s d).pending = s.pending := fun _ _ => rfl
@[simp] theorem idleDomain_out : ∀ s d, (State.idleDomain s d).out = s.out := fun _ _ => rfl
@[simp] theorem idleDomain_freeCount : ∀ s d, (State.idleDomain s d).freeCount = s.freeCount := fun _ _ => rfl
@[simp] theorem idleDomain_devState : ∀ s d, (State.idleDomain s d).devState = s.devState := fun _ _ => rfl
@[simp] theorem idleDomain_printAt : ∀ s d, (State.idleDomain s d).printAt = s.printAt := fun _ _ => rfl
@[simp] theorem idleDomain_dev : ∀ s d, (State.idleDomain s d).dev = s.dev := fun _ _ => rfl
@[simp] theorem idleDomain_bars : ∀ s d, (State.idleDomain s d).bars = s.bars := fun _ _ => rfl
@[simp] theorem idleDomain_fns : ∀ s d, (State.idleDomain s d).fns = s.fns := fun _ _ => rfl
@[simp] theorem idleDomain_moa : ∀ s d, (State.idleDomain s d).moa = s.moa := fun _ _ => rfl
@[simp] theorem idleDomain_deqHead : ∀ s d, (State.idleDomain s d).deqHead = s.deqHead := fun _ _ => rfl
@[simp] theorem idleDomain_deqTail : ∀ s d, (State.idleDomain s d).deqTail = s.deqTail := fun _ _ => rfl
@[simp] theorem idleDomain_deqLost : ∀ s d, (State.idleDomain s d).deqLost = s.deqLost := fun _ _ => rfl
@[simp] theorem idleDomain_clock : ∀ s d, (State.idleDomain s d).clock = s.clock := fun _ _ => rfl
@[simp] theorem idleDomain_net : ∀ s d, (State.idleDomain s d).net = s.net := fun _ _ => rfl
@[simp] theorem idleDomain_encs : ∀ s d, (State.idleDomain s d).encs = s.encs := fun _ _ => rfl
@[simp] theorem idleDomain_trig : ∀ s d, (State.idleDomain s d).trig = s.trig := fun _ _ => rfl
@[simp] theorem idleDomain_marks : ∀ s d, (State.idleDomain s d).marks = s.marks := fun _ _ => rfl
@[simp] theorem idleDomain_ports : ∀ s d, (State.idleDomain s d).ports = s.ports := fun _ _ => rfl
@[simp] theorem idleDomain_drays : ∀ s d, (State.idleDomain s d).drays = s.drays := fun _ _ => rfl
@[simp] theorem idleDomain_supplies : ∀ s d, (State.idleDomain s d).supplies = s.supplies := fun _ _ => rfl
@[simp] theorem idleDomain_lastTrip : ∀ s d, (State.idleDomain s d).lastTrip = s.lastTrip := fun _ _ => rfl
@[simp] theorem idleDomain_safeCause : ∀ s d, (State.idleDomain s d).safeCause = s.safeCause := fun _ _ => rfl
@[simp] theorem idleDomain_axes : ∀ s d, (State.idleDomain s d).axes = s.axes := fun _ _ => rfl
@[simp] theorem idleDomain_ssis : ∀ s d, (State.idleDomain s d).ssis = s.ssis := fun _ _ => rfl
@[simp] theorem idleDomain_cmps : ∀ s d, (State.idleDomain s d).cmps = s.cmps := fun _ _ => rfl
@[simp] theorem idleDomain_cams : ∀ s d, (State.idleDomain s d).cams = s.cams := fun _ _ => rfl
@[simp] theorem idleDomain_health : ∀ s d, (State.idleDomain s d).health = s.health := fun _ _ => rfl
@[simp] theorem idleDomain_engines : ∀ s d, (State.idleDomain s d).engines = s.engines := fun _ _ => rfl
@[simp] theorem idleDomain_deflaters : ∀ s d, (State.idleDomain s d).deflaters = s.deflaters := fun _ _ => rfl
@[simp] theorem idleDomain_place : ∀ s d, (State.idleDomain s d).place = s.place := fun _ _ => rfl
@[simp] theorem idleDomain_deficit : ∀ s d, (State.idleDomain s d).deficit = s.deficit := fun _ _ => rfl
@[simp] theorem idleDomain_subch : ∀ s d, (State.idleDomain s d).subch = s.subch := fun _ _ => rfl
@[simp] theorem idleDomain_stripeGen : ∀ s d, (State.idleDomain s d).stripeGen = s.stripeGen := fun _ _ => rfl
@[simp] theorem idleDomain_sram : ∀ s d, (State.idleDomain s d).sram = s.sram := fun _ _ => rfl
@[simp] theorem idleDomain_pair : ∀ s d, (State.idleDomain s d).pair = s.pair := fun _ _ => rfl
@[simp] theorem idleDomain_sched : ∀ s d, (State.idleDomain s d).sched = s.sched := fun _ _ => rfl
@[simp] theorem idleDomain_boot : ∀ s d, (State.idleDomain s d).boot = s.boot := fun _ _ => rfl
@[simp] theorem idleDomain_trim : ∀ s d, (State.idleDomain s d).trim = s.trim := fun _ _ => rfl
@[simp] theorem idleDomain_mram : ∀ s d, (State.idleDomain s d).mram = s.mram := fun _ _ => rfl
@[simp] theorem idleDomain_errLog : ∀ s d, (State.idleDomain s d).errLog = s.errLog := fun _ _ => rfl
@[simp] theorem idleDomain_logSeq : ∀ s d, (State.idleDomain s d).logSeq = s.logSeq := fun _ _ => rfl
@[simp] theorem idleDomain_missLog : ∀ s d, (State.idleDomain s d).missLog = s.missLog := fun _ _ => rfl
@[simp] theorem idleDomain_missNext : ∀ s d, (State.idleDomain s d).missNext = s.missNext := fun _ _ => rfl
@[simp] theorem idleDomain_webSlow : ∀ s d, (State.idleDomain s d).webSlow = s.webSlow := fun _ _ => rfl
@[simp] theorem idleDomain_test : ∀ s d, (State.idleDomain s d).test = s.test := fun _ _ => rfl
@[simp] theorem idleDomain_pins : ∀ s d, (State.idleDomain s d).pins = s.pins := fun _ _ => rfl

/-! ### trimBegin -/

@[simp] theorem trimBegin_now : ∀ s i, (State.trimBegin s i).now = s.now := fun _ _ => rfl
@[simp] theorem trimBegin_pending : ∀ s i, (State.trimBegin s i).pending = s.pending := fun _ _ => rfl
@[simp] theorem trimBegin_out : ∀ s i, (State.trimBegin s i).out = s.out := fun _ _ => rfl
@[simp] theorem trimBegin_freeCount : ∀ s i, (State.trimBegin s i).freeCount = s.freeCount := fun _ _ => rfl
@[simp] theorem trimBegin_devState : ∀ s i, (State.trimBegin s i).devState = s.devState := fun _ _ => rfl
@[simp] theorem trimBegin_printAt : ∀ s i, (State.trimBegin s i).printAt = s.printAt := fun _ _ => rfl
@[simp] theorem trimBegin_dev : ∀ s i, (State.trimBegin s i).dev = s.dev := fun _ _ => rfl
@[simp] theorem trimBegin_bars : ∀ s i, (State.trimBegin s i).bars = s.bars := fun _ _ => rfl
@[simp] theorem trimBegin_fns : ∀ s i, (State.trimBegin s i).fns = s.fns := fun _ _ => rfl
@[simp] theorem trimBegin_moa : ∀ s i, (State.trimBegin s i).moa = s.moa := fun _ _ => rfl
@[simp] theorem trimBegin_deqHead : ∀ s i, (State.trimBegin s i).deqHead = s.deqHead := fun _ _ => rfl
@[simp] theorem trimBegin_deqTail : ∀ s i, (State.trimBegin s i).deqTail = s.deqTail := fun _ _ => rfl
@[simp] theorem trimBegin_deqLost : ∀ s i, (State.trimBegin s i).deqLost = s.deqLost := fun _ _ => rfl
@[simp] theorem trimBegin_clock : ∀ s i, (State.trimBegin s i).clock = s.clock := fun _ _ => rfl
@[simp] theorem trimBegin_net : ∀ s i, (State.trimBegin s i).net = s.net := fun _ _ => rfl
@[simp] theorem trimBegin_encs : ∀ s i, (State.trimBegin s i).encs = s.encs := fun _ _ => rfl
@[simp] theorem trimBegin_trig : ∀ s i, (State.trimBegin s i).trig = s.trig := fun _ _ => rfl
@[simp] theorem trimBegin_marks : ∀ s i, (State.trimBegin s i).marks = s.marks := fun _ _ => rfl
@[simp] theorem trimBegin_ports : ∀ s i, (State.trimBegin s i).ports = s.ports := fun _ _ => rfl
@[simp] theorem trimBegin_drays : ∀ s i, (State.trimBegin s i).drays = s.drays := fun _ _ => rfl
@[simp] theorem trimBegin_supplies : ∀ s i, (State.trimBegin s i).supplies = s.supplies := fun _ _ => rfl
@[simp] theorem trimBegin_lastTrip : ∀ s i, (State.trimBegin s i).lastTrip = s.lastTrip := fun _ _ => rfl
@[simp] theorem trimBegin_safeCause : ∀ s i, (State.trimBegin s i).safeCause = s.safeCause := fun _ _ => rfl
@[simp] theorem trimBegin_axes : ∀ s i, (State.trimBegin s i).axes = s.axes := fun _ _ => rfl
@[simp] theorem trimBegin_ssis : ∀ s i, (State.trimBegin s i).ssis = s.ssis := fun _ _ => rfl
@[simp] theorem trimBegin_cmps : ∀ s i, (State.trimBegin s i).cmps = s.cmps := fun _ _ => rfl
@[simp] theorem trimBegin_cams : ∀ s i, (State.trimBegin s i).cams = s.cams := fun _ _ => rfl
@[simp] theorem trimBegin_health : ∀ s i, (State.trimBegin s i).health = s.health := fun _ _ => rfl
@[simp] theorem trimBegin_engines : ∀ s i, (State.trimBegin s i).engines = s.engines := fun _ _ => rfl
@[simp] theorem trimBegin_deflaters : ∀ s i, (State.trimBegin s i).deflaters = s.deflaters := fun _ _ => rfl
@[simp] theorem trimBegin_place : ∀ s i, (State.trimBegin s i).place = s.place := fun _ _ => rfl
@[simp] theorem trimBegin_deficit : ∀ s i, (State.trimBegin s i).deficit = s.deficit := fun _ _ => rfl
@[simp] theorem trimBegin_subch : ∀ s i, (State.trimBegin s i).subch = s.subch := fun _ _ => rfl
@[simp] theorem trimBegin_stripeGen : ∀ s i, (State.trimBegin s i).stripeGen = s.stripeGen := fun _ _ => rfl
@[simp] theorem trimBegin_sram : ∀ s i, (State.trimBegin s i).sram = s.sram := fun _ _ => rfl
@[simp] theorem trimBegin_pair : ∀ s i, (State.trimBegin s i).pair = s.pair := fun _ _ => rfl
@[simp] theorem trimBegin_sched : ∀ s i, (State.trimBegin s i).sched = s.sched := fun _ _ => rfl
@[simp] theorem trimBegin_boot : ∀ s i, (State.trimBegin s i).boot = s.boot := fun _ _ => rfl
@[simp] theorem trimBegin_power : ∀ s i, (State.trimBegin s i).power = s.power := fun _ _ => rfl
@[simp] theorem trimBegin_mram : ∀ s i, (State.trimBegin s i).mram = s.mram := fun _ _ => rfl
@[simp] theorem trimBegin_errLog : ∀ s i, (State.trimBegin s i).errLog = s.errLog := fun _ _ => rfl
@[simp] theorem trimBegin_logSeq : ∀ s i, (State.trimBegin s i).logSeq = s.logSeq := fun _ _ => rfl
@[simp] theorem trimBegin_missLog : ∀ s i, (State.trimBegin s i).missLog = s.missLog := fun _ _ => rfl
@[simp] theorem trimBegin_missNext : ∀ s i, (State.trimBegin s i).missNext = s.missNext := fun _ _ => rfl
@[simp] theorem trimBegin_webSlow : ∀ s i, (State.trimBegin s i).webSlow = s.webSlow := fun _ _ => rfl
@[simp] theorem trimBegin_test : ∀ s i, (State.trimBegin s i).test = s.test := fun _ _ => rfl
@[simp] theorem trimBegin_pins : ∀ s i, (State.trimBegin s i).pins = s.pins := fun _ _ => rfl

/-! ### emit -/

@[simp] theorem emit_now : ∀ s o, (State.emit s o).now = s.now := fun _ _ => rfl
@[simp] theorem emit_pending : ∀ s o, (State.emit s o).pending = s.pending := fun _ _ => rfl
@[simp] theorem emit_freeCount : ∀ s o, (State.emit s o).freeCount = s.freeCount := fun _ _ => rfl
@[simp] theorem emit_devState : ∀ s o, (State.emit s o).devState = s.devState := fun _ _ => rfl
@[simp] theorem emit_printAt : ∀ s o, (State.emit s o).printAt = s.printAt := fun _ _ => rfl
@[simp] theorem emit_dev : ∀ s o, (State.emit s o).dev = s.dev := fun _ _ => rfl
@[simp] theorem emit_bars : ∀ s o, (State.emit s o).bars = s.bars := fun _ _ => rfl
@[simp] theorem emit_fns : ∀ s o, (State.emit s o).fns = s.fns := fun _ _ => rfl
@[simp] theorem emit_moa : ∀ s o, (State.emit s o).moa = s.moa := fun _ _ => rfl
@[simp] theorem emit_deqHead : ∀ s o, (State.emit s o).deqHead = s.deqHead := fun _ _ => rfl
@[simp] theorem emit_deqTail : ∀ s o, (State.emit s o).deqTail = s.deqTail := fun _ _ => rfl
@[simp] theorem emit_deqLost : ∀ s o, (State.emit s o).deqLost = s.deqLost := fun _ _ => rfl
@[simp] theorem emit_clock : ∀ s o, (State.emit s o).clock = s.clock := fun _ _ => rfl
@[simp] theorem emit_net : ∀ s o, (State.emit s o).net = s.net := fun _ _ => rfl
@[simp] theorem emit_encs : ∀ s o, (State.emit s o).encs = s.encs := fun _ _ => rfl
@[simp] theorem emit_trig : ∀ s o, (State.emit s o).trig = s.trig := fun _ _ => rfl
@[simp] theorem emit_marks : ∀ s o, (State.emit s o).marks = s.marks := fun _ _ => rfl
@[simp] theorem emit_ports : ∀ s o, (State.emit s o).ports = s.ports := fun _ _ => rfl
@[simp] theorem emit_drays : ∀ s o, (State.emit s o).drays = s.drays := fun _ _ => rfl
@[simp] theorem emit_supplies : ∀ s o, (State.emit s o).supplies = s.supplies := fun _ _ => rfl
@[simp] theorem emit_lastTrip : ∀ s o, (State.emit s o).lastTrip = s.lastTrip := fun _ _ => rfl
@[simp] theorem emit_safeCause : ∀ s o, (State.emit s o).safeCause = s.safeCause := fun _ _ => rfl
@[simp] theorem emit_axes : ∀ s o, (State.emit s o).axes = s.axes := fun _ _ => rfl
@[simp] theorem emit_ssis : ∀ s o, (State.emit s o).ssis = s.ssis := fun _ _ => rfl
@[simp] theorem emit_cmps : ∀ s o, (State.emit s o).cmps = s.cmps := fun _ _ => rfl
@[simp] theorem emit_cams : ∀ s o, (State.emit s o).cams = s.cams := fun _ _ => rfl
@[simp] theorem emit_health : ∀ s o, (State.emit s o).health = s.health := fun _ _ => rfl
@[simp] theorem emit_engines : ∀ s o, (State.emit s o).engines = s.engines := fun _ _ => rfl
@[simp] theorem emit_deflaters : ∀ s o, (State.emit s o).deflaters = s.deflaters := fun _ _ => rfl
@[simp] theorem emit_place : ∀ s o, (State.emit s o).place = s.place := fun _ _ => rfl
@[simp] theorem emit_deficit : ∀ s o, (State.emit s o).deficit = s.deficit := fun _ _ => rfl
@[simp] theorem emit_subch : ∀ s o, (State.emit s o).subch = s.subch := fun _ _ => rfl
@[simp] theorem emit_stripeGen : ∀ s o, (State.emit s o).stripeGen = s.stripeGen := fun _ _ => rfl
@[simp] theorem emit_sram : ∀ s o, (State.emit s o).sram = s.sram := fun _ _ => rfl
@[simp] theorem emit_pair : ∀ s o, (State.emit s o).pair = s.pair := fun _ _ => rfl
@[simp] theorem emit_sched : ∀ s o, (State.emit s o).sched = s.sched := fun _ _ => rfl
@[simp] theorem emit_boot : ∀ s o, (State.emit s o).boot = s.boot := fun _ _ => rfl
@[simp] theorem emit_power : ∀ s o, (State.emit s o).power = s.power := fun _ _ => rfl
@[simp] theorem emit_trim : ∀ s o, (State.emit s o).trim = s.trim := fun _ _ => rfl
@[simp] theorem emit_mram : ∀ s o, (State.emit s o).mram = s.mram := fun _ _ => rfl
@[simp] theorem emit_errLog : ∀ s o, (State.emit s o).errLog = s.errLog := fun _ _ => rfl
@[simp] theorem emit_logSeq : ∀ s o, (State.emit s o).logSeq = s.logSeq := fun _ _ => rfl
@[simp] theorem emit_missLog : ∀ s o, (State.emit s o).missLog = s.missLog := fun _ _ => rfl
@[simp] theorem emit_missNext : ∀ s o, (State.emit s o).missNext = s.missNext := fun _ _ => rfl
@[simp] theorem emit_webSlow : ∀ s o, (State.emit s o).webSlow = s.webSlow := fun _ _ => rfl
@[simp] theorem emit_test : ∀ s o, (State.emit s o).test = s.test := fun _ _ => rfl
@[simp] theorem emit_pins : ∀ s o, (State.emit s o).pins = s.pins := fun _ _ => rfl

/-! ### setDv -/

@[simp] theorem setDv_now : ∀ s i j v, (State.setDv s i j v).now = s.now := fun _ _ _ _ => rfl
@[simp] theorem setDv_pending : ∀ s i j v, (State.setDv s i j v).pending = s.pending := fun _ _ _ _ => rfl
@[simp] theorem setDv_out : ∀ s i j v, (State.setDv s i j v).out = s.out := fun _ _ _ _ => rfl
@[simp] theorem setDv_freeCount : ∀ s i j v, (State.setDv s i j v).freeCount = s.freeCount := fun _ _ _ _ => rfl
@[simp] theorem setDv_devState : ∀ s i j v, (State.setDv s i j v).devState = s.devState := fun _ _ _ _ => rfl
@[simp] theorem setDv_printAt : ∀ s i j v, (State.setDv s i j v).printAt = s.printAt := fun _ _ _ _ => rfl
@[simp] theorem setDv_bars : ∀ s i j v, (State.setDv s i j v).bars = s.bars := fun _ _ _ _ => rfl
@[simp] theorem setDv_fns : ∀ s i j v, (State.setDv s i j v).fns = s.fns := fun _ _ _ _ => rfl
@[simp] theorem setDv_moa : ∀ s i j v, (State.setDv s i j v).moa = s.moa := fun _ _ _ _ => rfl
@[simp] theorem setDv_deqHead : ∀ s i j v, (State.setDv s i j v).deqHead = s.deqHead := fun _ _ _ _ => rfl
@[simp] theorem setDv_deqTail : ∀ s i j v, (State.setDv s i j v).deqTail = s.deqTail := fun _ _ _ _ => rfl
@[simp] theorem setDv_deqLost : ∀ s i j v, (State.setDv s i j v).deqLost = s.deqLost := fun _ _ _ _ => rfl
@[simp] theorem setDv_clock : ∀ s i j v, (State.setDv s i j v).clock = s.clock := fun _ _ _ _ => rfl
@[simp] theorem setDv_net : ∀ s i j v, (State.setDv s i j v).net = s.net := fun _ _ _ _ => rfl
@[simp] theorem setDv_encs : ∀ s i j v, (State.setDv s i j v).encs = s.encs := fun _ _ _ _ => rfl
@[simp] theorem setDv_trig : ∀ s i j v, (State.setDv s i j v).trig = s.trig := fun _ _ _ _ => rfl
@[simp] theorem setDv_marks : ∀ s i j v, (State.setDv s i j v).marks = s.marks := fun _ _ _ _ => rfl
@[simp] theorem setDv_ports : ∀ s i j v, (State.setDv s i j v).ports = s.ports := fun _ _ _ _ => rfl
@[simp] theorem setDv_drays : ∀ s i j v, (State.setDv s i j v).drays = s.drays := fun _ _ _ _ => rfl
@[simp] theorem setDv_supplies : ∀ s i j v, (State.setDv s i j v).supplies = s.supplies := fun _ _ _ _ => rfl
@[simp] theorem setDv_lastTrip : ∀ s i j v, (State.setDv s i j v).lastTrip = s.lastTrip := fun _ _ _ _ => rfl
@[simp] theorem setDv_safeCause : ∀ s i j v, (State.setDv s i j v).safeCause = s.safeCause := fun _ _ _ _ => rfl
@[simp] theorem setDv_axes : ∀ s i j v, (State.setDv s i j v).axes = s.axes := fun _ _ _ _ => rfl
@[simp] theorem setDv_ssis : ∀ s i j v, (State.setDv s i j v).ssis = s.ssis := fun _ _ _ _ => rfl
@[simp] theorem setDv_cmps : ∀ s i j v, (State.setDv s i j v).cmps = s.cmps := fun _ _ _ _ => rfl
@[simp] theorem setDv_cams : ∀ s i j v, (State.setDv s i j v).cams = s.cams := fun _ _ _ _ => rfl
@[simp] theorem setDv_health : ∀ s i j v, (State.setDv s i j v).health = s.health := fun _ _ _ _ => rfl
@[simp] theorem setDv_engines : ∀ s i j v, (State.setDv s i j v).engines = s.engines := fun _ _ _ _ => rfl
@[simp] theorem setDv_deflaters : ∀ s i j v, (State.setDv s i j v).deflaters = s.deflaters := fun _ _ _ _ => rfl
@[simp] theorem setDv_place : ∀ s i j v, (State.setDv s i j v).place = s.place := fun _ _ _ _ => rfl
@[simp] theorem setDv_deficit : ∀ s i j v, (State.setDv s i j v).deficit = s.deficit := fun _ _ _ _ => rfl
@[simp] theorem setDv_subch : ∀ s i j v, (State.setDv s i j v).subch = s.subch := fun _ _ _ _ => rfl
@[simp] theorem setDv_stripeGen : ∀ s i j v, (State.setDv s i j v).stripeGen = s.stripeGen := fun _ _ _ _ => rfl
@[simp] theorem setDv_sram : ∀ s i j v, (State.setDv s i j v).sram = s.sram := fun _ _ _ _ => rfl
@[simp] theorem setDv_pair : ∀ s i j v, (State.setDv s i j v).pair = s.pair := fun _ _ _ _ => rfl
@[simp] theorem setDv_sched : ∀ s i j v, (State.setDv s i j v).sched = s.sched := fun _ _ _ _ => rfl
@[simp] theorem setDv_boot : ∀ s i j v, (State.setDv s i j v).boot = s.boot := fun _ _ _ _ => rfl
@[simp] theorem setDv_power : ∀ s i j v, (State.setDv s i j v).power = s.power := fun _ _ _ _ => rfl
@[simp] theorem setDv_trim : ∀ s i j v, (State.setDv s i j v).trim = s.trim := fun _ _ _ _ => rfl
@[simp] theorem setDv_mram : ∀ s i j v, (State.setDv s i j v).mram = s.mram := fun _ _ _ _ => rfl
@[simp] theorem setDv_errLog : ∀ s i j v, (State.setDv s i j v).errLog = s.errLog := fun _ _ _ _ => rfl
@[simp] theorem setDv_logSeq : ∀ s i j v, (State.setDv s i j v).logSeq = s.logSeq := fun _ _ _ _ => rfl
@[simp] theorem setDv_missLog : ∀ s i j v, (State.setDv s i j v).missLog = s.missLog := fun _ _ _ _ => rfl
@[simp] theorem setDv_missNext : ∀ s i j v, (State.setDv s i j v).missNext = s.missNext := fun _ _ _ _ => rfl
@[simp] theorem setDv_webSlow : ∀ s i j v, (State.setDv s i j v).webSlow = s.webSlow := fun _ _ _ _ => rfl
@[simp] theorem setDv_test : ∀ s i j v, (State.setDv s i j v).test = s.test := fun _ _ _ _ => rfl
@[simp] theorem setDv_pins : ∀ s i j v, (State.setDv s i j v).pins = s.pins := fun _ _ _ _ => rfl

/-! ### setDvi -/

@[simp] theorem setDvi_now : ∀ s i j v, (State.setDvi s i j v).now = s.now := fun _ _ _ _ => rfl
@[simp] theorem setDvi_pending : ∀ s i j v, (State.setDvi s i j v).pending = s.pending := fun _ _ _ _ => rfl
@[simp] theorem setDvi_out : ∀ s i j v, (State.setDvi s i j v).out = s.out := fun _ _ _ _ => rfl
@[simp] theorem setDvi_freeCount : ∀ s i j v, (State.setDvi s i j v).freeCount = s.freeCount := fun _ _ _ _ => rfl
@[simp] theorem setDvi_devState : ∀ s i j v, (State.setDvi s i j v).devState = s.devState := fun _ _ _ _ => rfl
@[simp] theorem setDvi_printAt : ∀ s i j v, (State.setDvi s i j v).printAt = s.printAt := fun _ _ _ _ => rfl
@[simp] theorem setDvi_bars : ∀ s i j v, (State.setDvi s i j v).bars = s.bars := fun _ _ _ _ => rfl
@[simp] theorem setDvi_fns : ∀ s i j v, (State.setDvi s i j v).fns = s.fns := fun _ _ _ _ => rfl
@[simp] theorem setDvi_moa : ∀ s i j v, (State.setDvi s i j v).moa = s.moa := fun _ _ _ _ => rfl
@[simp] theorem setDvi_deqHead : ∀ s i j v, (State.setDvi s i j v).deqHead = s.deqHead := fun _ _ _ _ => rfl
@[simp] theorem setDvi_deqTail : ∀ s i j v, (State.setDvi s i j v).deqTail = s.deqTail := fun _ _ _ _ => rfl
@[simp] theorem setDvi_deqLost : ∀ s i j v, (State.setDvi s i j v).deqLost = s.deqLost := fun _ _ _ _ => rfl
@[simp] theorem setDvi_clock : ∀ s i j v, (State.setDvi s i j v).clock = s.clock := fun _ _ _ _ => rfl
@[simp] theorem setDvi_net : ∀ s i j v, (State.setDvi s i j v).net = s.net := fun _ _ _ _ => rfl
@[simp] theorem setDvi_encs : ∀ s i j v, (State.setDvi s i j v).encs = s.encs := fun _ _ _ _ => rfl
@[simp] theorem setDvi_trig : ∀ s i j v, (State.setDvi s i j v).trig = s.trig := fun _ _ _ _ => rfl
@[simp] theorem setDvi_marks : ∀ s i j v, (State.setDvi s i j v).marks = s.marks := fun _ _ _ _ => rfl
@[simp] theorem setDvi_ports : ∀ s i j v, (State.setDvi s i j v).ports = s.ports := fun _ _ _ _ => rfl
@[simp] theorem setDvi_drays : ∀ s i j v, (State.setDvi s i j v).drays = s.drays := fun _ _ _ _ => rfl
@[simp] theorem setDvi_supplies : ∀ s i j v, (State.setDvi s i j v).supplies = s.supplies := fun _ _ _ _ => rfl
@[simp] theorem setDvi_lastTrip : ∀ s i j v, (State.setDvi s i j v).lastTrip = s.lastTrip := fun _ _ _ _ => rfl
@[simp] theorem setDvi_safeCause : ∀ s i j v, (State.setDvi s i j v).safeCause = s.safeCause := fun _ _ _ _ => rfl
@[simp] theorem setDvi_axes : ∀ s i j v, (State.setDvi s i j v).axes = s.axes := fun _ _ _ _ => rfl
@[simp] theorem setDvi_ssis : ∀ s i j v, (State.setDvi s i j v).ssis = s.ssis := fun _ _ _ _ => rfl
@[simp] theorem setDvi_cmps : ∀ s i j v, (State.setDvi s i j v).cmps = s.cmps := fun _ _ _ _ => rfl
@[simp] theorem setDvi_cams : ∀ s i j v, (State.setDvi s i j v).cams = s.cams := fun _ _ _ _ => rfl
@[simp] theorem setDvi_health : ∀ s i j v, (State.setDvi s i j v).health = s.health := fun _ _ _ _ => rfl
@[simp] theorem setDvi_engines : ∀ s i j v, (State.setDvi s i j v).engines = s.engines := fun _ _ _ _ => rfl
@[simp] theorem setDvi_deflaters : ∀ s i j v, (State.setDvi s i j v).deflaters = s.deflaters := fun _ _ _ _ => rfl
@[simp] theorem setDvi_place : ∀ s i j v, (State.setDvi s i j v).place = s.place := fun _ _ _ _ => rfl
@[simp] theorem setDvi_deficit : ∀ s i j v, (State.setDvi s i j v).deficit = s.deficit := fun _ _ _ _ => rfl
@[simp] theorem setDvi_subch : ∀ s i j v, (State.setDvi s i j v).subch = s.subch := fun _ _ _ _ => rfl
@[simp] theorem setDvi_stripeGen : ∀ s i j v, (State.setDvi s i j v).stripeGen = s.stripeGen := fun _ _ _ _ => rfl
@[simp] theorem setDvi_sram : ∀ s i j v, (State.setDvi s i j v).sram = s.sram := fun _ _ _ _ => rfl
@[simp] theorem setDvi_pair : ∀ s i j v, (State.setDvi s i j v).pair = s.pair := fun _ _ _ _ => rfl
@[simp] theorem setDvi_sched : ∀ s i j v, (State.setDvi s i j v).sched = s.sched := fun _ _ _ _ => rfl
@[simp] theorem setDvi_boot : ∀ s i j v, (State.setDvi s i j v).boot = s.boot := fun _ _ _ _ => rfl
@[simp] theorem setDvi_power : ∀ s i j v, (State.setDvi s i j v).power = s.power := fun _ _ _ _ => rfl
@[simp] theorem setDvi_trim : ∀ s i j v, (State.setDvi s i j v).trim = s.trim := fun _ _ _ _ => rfl
@[simp] theorem setDvi_mram : ∀ s i j v, (State.setDvi s i j v).mram = s.mram := fun _ _ _ _ => rfl
@[simp] theorem setDvi_errLog : ∀ s i j v, (State.setDvi s i j v).errLog = s.errLog := fun _ _ _ _ => rfl
@[simp] theorem setDvi_logSeq : ∀ s i j v, (State.setDvi s i j v).logSeq = s.logSeq := fun _ _ _ _ => rfl
@[simp] theorem setDvi_missLog : ∀ s i j v, (State.setDvi s i j v).missLog = s.missLog := fun _ _ _ _ => rfl
@[simp] theorem setDvi_missNext : ∀ s i j v, (State.setDvi s i j v).missNext = s.missNext := fun _ _ _ _ => rfl
@[simp] theorem setDvi_webSlow : ∀ s i j v, (State.setDvi s i j v).webSlow = s.webSlow := fun _ _ _ _ => rfl
@[simp] theorem setDvi_test : ∀ s i j v, (State.setDvi s i j v).test = s.test := fun _ _ _ _ => rfl
@[simp] theorem setDvi_pins : ∀ s i j v, (State.setDvi s i j v).pins = s.pins := fun _ _ _ _ => rfl

/-! ### setBo -/

@[simp] theorem setBo_now : ∀ s b i j v, (State.setBo s b i j v).now = s.now := fun _ _ _ _ _ => rfl
@[simp] theorem setBo_pending : ∀ s b i j v, (State.setBo s b i j v).pending = s.pending := fun _ _ _ _ _ => rfl
@[simp] theorem setBo_out : ∀ s b i j v, (State.setBo s b i j v).out = s.out := fun _ _ _ _ _ => rfl
@[simp] theorem setBo_freeCount : ∀ s b i j v, (State.setBo s b i j v).freeCount = s.freeCount := fun _ _ _ _ _ => rfl
@[simp] theorem setBo_devState : ∀ s b i j v, (State.setBo s b i j v).devState = s.devState := fun _ _ _ _ _ => rfl
@[simp] theorem setBo_printAt : ∀ s b i j v, (State.setBo s b i j v).printAt = s.printAt := fun _ _ _ _ _ => rfl
@[simp] theorem setBo_dev : ∀ s b i j v, (State.setBo s b i j v).dev = s.dev := fun _ _ _ _ _ => rfl
@[simp] theorem setBo_fns : ∀ s b i j v, (State.setBo s b i j v).fns = s.fns := fun _ _ _ _ _ => rfl
@[simp] theorem setBo_moa : ∀ s b i j v, (State.setBo s b i j v).moa = s.moa := fun _ _ _ _ _ => rfl
@[simp] theorem setBo_deqHead : ∀ s b i j v, (State.setBo s b i j v).deqHead = s.deqHead := fun _ _ _ _ _ => rfl
@[simp] theorem setBo_deqTail : ∀ s b i j v, (State.setBo s b i j v).deqTail = s.deqTail := fun _ _ _ _ _ => rfl
@[simp] theorem setBo_deqLost : ∀ s b i j v, (State.setBo s b i j v).deqLost = s.deqLost := fun _ _ _ _ _ => rfl
@[simp] theorem setBo_clock : ∀ s b i j v, (State.setBo s b i j v).clock = s.clock := fun _ _ _ _ _ => rfl
@[simp] theorem setBo_net : ∀ s b i j v, (State.setBo s b i j v).net = s.net := fun _ _ _ _ _ => rfl
@[simp] theorem setBo_encs : ∀ s b i j v, (State.setBo s b i j v).encs = s.encs := fun _ _ _ _ _ => rfl
@[simp] theorem setBo_trig : ∀ s b i j v, (State.setBo s b i j v).trig = s.trig := fun _ _ _ _ _ => rfl
@[simp] theorem setBo_marks : ∀ s b i j v, (State.setBo s b i j v).marks = s.marks := fun _ _ _ _ _ => rfl
@[simp] theorem setBo_ports : ∀ s b i j v, (State.setBo s b i j v).ports = s.ports := fun _ _ _ _ _ => rfl
@[simp] theorem setBo_drays : ∀ s b i j v, (State.setBo s b i j v).drays = s.drays := fun _ _ _ _ _ => rfl
@[simp] theorem setBo_supplies : ∀ s b i j v, (State.setBo s b i j v).supplies = s.supplies := fun _ _ _ _ _ => rfl
@[simp] theorem setBo_lastTrip : ∀ s b i j v, (State.setBo s b i j v).lastTrip = s.lastTrip := fun _ _ _ _ _ => rfl
@[simp] theorem setBo_safeCause : ∀ s b i j v, (State.setBo s b i j v).safeCause = s.safeCause := fun _ _ _ _ _ => rfl
@[simp] theorem setBo_axes : ∀ s b i j v, (State.setBo s b i j v).axes = s.axes := fun _ _ _ _ _ => rfl
@[simp] theorem setBo_ssis : ∀ s b i j v, (State.setBo s b i j v).ssis = s.ssis := fun _ _ _ _ _ => rfl
@[simp] theorem setBo_cmps : ∀ s b i j v, (State.setBo s b i j v).cmps = s.cmps := fun _ _ _ _ _ => rfl
@[simp] theorem setBo_cams : ∀ s b i j v, (State.setBo s b i j v).cams = s.cams := fun _ _ _ _ _ => rfl
@[simp] theorem setBo_health : ∀ s b i j v, (State.setBo s b i j v).health = s.health := fun _ _ _ _ _ => rfl
@[simp] theorem setBo_engines : ∀ s b i j v, (State.setBo s b i j v).engines = s.engines := fun _ _ _ _ _ => rfl
@[simp] theorem setBo_deflaters : ∀ s b i j v, (State.setBo s b i j v).deflaters = s.deflaters := fun _ _ _ _ _ => rfl
@[simp] theorem setBo_place : ∀ s b i j v, (State.setBo s b i j v).place = s.place := fun _ _ _ _ _ => rfl
@[simp] theorem setBo_deficit : ∀ s b i j v, (State.setBo s b i j v).deficit = s.deficit := fun _ _ _ _ _ => rfl
@[simp] theorem setBo_subch : ∀ s b i j v, (State.setBo s b i j v).subch = s.subch := fun _ _ _ _ _ => rfl
@[simp] theorem setBo_stripeGen : ∀ s b i j v, (State.setBo s b i j v).stripeGen = s.stripeGen := fun _ _ _ _ _ => rfl
@[simp] theorem setBo_sram : ∀ s b i j v, (State.setBo s b i j v).sram = s.sram := fun _ _ _ _ _ => rfl
@[simp] theorem setBo_pair : ∀ s b i j v, (State.setBo s b i j v).pair = s.pair := fun _ _ _ _ _ => rfl
@[simp] theorem setBo_sched : ∀ s b i j v, (State.setBo s b i j v).sched = s.sched := fun _ _ _ _ _ => rfl
@[simp] theorem setBo_boot : ∀ s b i j v, (State.setBo s b i j v).boot = s.boot := fun _ _ _ _ _ => rfl
@[simp] theorem setBo_power : ∀ s b i j v, (State.setBo s b i j v).power = s.power := fun _ _ _ _ _ => rfl
@[simp] theorem setBo_trim : ∀ s b i j v, (State.setBo s b i j v).trim = s.trim := fun _ _ _ _ _ => rfl
@[simp] theorem setBo_mram : ∀ s b i j v, (State.setBo s b i j v).mram = s.mram := fun _ _ _ _ _ => rfl
@[simp] theorem setBo_errLog : ∀ s b i j v, (State.setBo s b i j v).errLog = s.errLog := fun _ _ _ _ _ => rfl
@[simp] theorem setBo_logSeq : ∀ s b i j v, (State.setBo s b i j v).logSeq = s.logSeq := fun _ _ _ _ _ => rfl
@[simp] theorem setBo_missLog : ∀ s b i j v, (State.setBo s b i j v).missLog = s.missLog := fun _ _ _ _ _ => rfl
@[simp] theorem setBo_missNext : ∀ s b i j v, (State.setBo s b i j v).missNext = s.missNext := fun _ _ _ _ _ => rfl
@[simp] theorem setBo_webSlow : ∀ s b i j v, (State.setBo s b i j v).webSlow = s.webSlow := fun _ _ _ _ _ => rfl
@[simp] theorem setBo_test : ∀ s b i j v, (State.setBo s b i j v).test = s.test := fun _ _ _ _ _ => rfl
@[simp] theorem setBo_pins : ∀ s b i j v, (State.setBo s b i j v).pins = s.pins := fun _ _ _ _ _ => rfl

/-! ### setBoi -/

@[simp] theorem setBoi_now : ∀ s b i j v, (State.setBoi s b i j v).now = s.now := fun _ _ _ _ _ => rfl
@[simp] theorem setBoi_pending : ∀ s b i j v, (State.setBoi s b i j v).pending = s.pending := fun _ _ _ _ _ => rfl
@[simp] theorem setBoi_out : ∀ s b i j v, (State.setBoi s b i j v).out = s.out := fun _ _ _ _ _ => rfl
@[simp] theorem setBoi_freeCount : ∀ s b i j v, (State.setBoi s b i j v).freeCount = s.freeCount := fun _ _ _ _ _ => rfl
@[simp] theorem setBoi_devState : ∀ s b i j v, (State.setBoi s b i j v).devState = s.devState := fun _ _ _ _ _ => rfl
@[simp] theorem setBoi_printAt : ∀ s b i j v, (State.setBoi s b i j v).printAt = s.printAt := fun _ _ _ _ _ => rfl
@[simp] theorem setBoi_dev : ∀ s b i j v, (State.setBoi s b i j v).dev = s.dev := fun _ _ _ _ _ => rfl
@[simp] theorem setBoi_fns : ∀ s b i j v, (State.setBoi s b i j v).fns = s.fns := fun _ _ _ _ _ => rfl
@[simp] theorem setBoi_moa : ∀ s b i j v, (State.setBoi s b i j v).moa = s.moa := fun _ _ _ _ _ => rfl
@[simp] theorem setBoi_deqHead : ∀ s b i j v, (State.setBoi s b i j v).deqHead = s.deqHead := fun _ _ _ _ _ => rfl
@[simp] theorem setBoi_deqTail : ∀ s b i j v, (State.setBoi s b i j v).deqTail = s.deqTail := fun _ _ _ _ _ => rfl
@[simp] theorem setBoi_deqLost : ∀ s b i j v, (State.setBoi s b i j v).deqLost = s.deqLost := fun _ _ _ _ _ => rfl
@[simp] theorem setBoi_clock : ∀ s b i j v, (State.setBoi s b i j v).clock = s.clock := fun _ _ _ _ _ => rfl
@[simp] theorem setBoi_net : ∀ s b i j v, (State.setBoi s b i j v).net = s.net := fun _ _ _ _ _ => rfl
@[simp] theorem setBoi_encs : ∀ s b i j v, (State.setBoi s b i j v).encs = s.encs := fun _ _ _ _ _ => rfl
@[simp] theorem setBoi_trig : ∀ s b i j v, (State.setBoi s b i j v).trig = s.trig := fun _ _ _ _ _ => rfl
@[simp] theorem setBoi_marks : ∀ s b i j v, (State.setBoi s b i j v).marks = s.marks := fun _ _ _ _ _ => rfl
@[simp] theorem setBoi_ports : ∀ s b i j v, (State.setBoi s b i j v).ports = s.ports := fun _ _ _ _ _ => rfl
@[simp] theorem setBoi_drays : ∀ s b i j v, (State.setBoi s b i j v).drays = s.drays := fun _ _ _ _ _ => rfl
@[simp] theorem setBoi_supplies : ∀ s b i j v, (State.setBoi s b i j v).supplies = s.supplies := fun _ _ _ _ _ => rfl
@[simp] theorem setBoi_lastTrip : ∀ s b i j v, (State.setBoi s b i j v).lastTrip = s.lastTrip := fun _ _ _ _ _ => rfl
@[simp] theorem setBoi_safeCause : ∀ s b i j v, (State.setBoi s b i j v).safeCause = s.safeCause := fun _ _ _ _ _ => rfl
@[simp] theorem setBoi_axes : ∀ s b i j v, (State.setBoi s b i j v).axes = s.axes := fun _ _ _ _ _ => rfl
@[simp] theorem setBoi_ssis : ∀ s b i j v, (State.setBoi s b i j v).ssis = s.ssis := fun _ _ _ _ _ => rfl
@[simp] theorem setBoi_cmps : ∀ s b i j v, (State.setBoi s b i j v).cmps = s.cmps := fun _ _ _ _ _ => rfl
@[simp] theorem setBoi_cams : ∀ s b i j v, (State.setBoi s b i j v).cams = s.cams := fun _ _ _ _ _ => rfl
@[simp] theorem setBoi_health : ∀ s b i j v, (State.setBoi s b i j v).health = s.health := fun _ _ _ _ _ => rfl
@[simp] theorem setBoi_engines : ∀ s b i j v, (State.setBoi s b i j v).engines = s.engines := fun _ _ _ _ _ => rfl
@[simp] theorem setBoi_deflaters : ∀ s b i j v, (State.setBoi s b i j v).deflaters = s.deflaters := fun _ _ _ _ _ => rfl
@[simp] theorem setBoi_place : ∀ s b i j v, (State.setBoi s b i j v).place = s.place := fun _ _ _ _ _ => rfl
@[simp] theorem setBoi_deficit : ∀ s b i j v, (State.setBoi s b i j v).deficit = s.deficit := fun _ _ _ _ _ => rfl
@[simp] theorem setBoi_subch : ∀ s b i j v, (State.setBoi s b i j v).subch = s.subch := fun _ _ _ _ _ => rfl
@[simp] theorem setBoi_stripeGen : ∀ s b i j v, (State.setBoi s b i j v).stripeGen = s.stripeGen := fun _ _ _ _ _ => rfl
@[simp] theorem setBoi_sram : ∀ s b i j v, (State.setBoi s b i j v).sram = s.sram := fun _ _ _ _ _ => rfl
@[simp] theorem setBoi_pair : ∀ s b i j v, (State.setBoi s b i j v).pair = s.pair := fun _ _ _ _ _ => rfl
@[simp] theorem setBoi_sched : ∀ s b i j v, (State.setBoi s b i j v).sched = s.sched := fun _ _ _ _ _ => rfl
@[simp] theorem setBoi_boot : ∀ s b i j v, (State.setBoi s b i j v).boot = s.boot := fun _ _ _ _ _ => rfl
@[simp] theorem setBoi_power : ∀ s b i j v, (State.setBoi s b i j v).power = s.power := fun _ _ _ _ _ => rfl
@[simp] theorem setBoi_trim : ∀ s b i j v, (State.setBoi s b i j v).trim = s.trim := fun _ _ _ _ _ => rfl
@[simp] theorem setBoi_mram : ∀ s b i j v, (State.setBoi s b i j v).mram = s.mram := fun _ _ _ _ _ => rfl
@[simp] theorem setBoi_errLog : ∀ s b i j v, (State.setBoi s b i j v).errLog = s.errLog := fun _ _ _ _ _ => rfl
@[simp] theorem setBoi_logSeq : ∀ s b i j v, (State.setBoi s b i j v).logSeq = s.logSeq := fun _ _ _ _ _ => rfl
@[simp] theorem setBoi_missLog : ∀ s b i j v, (State.setBoi s b i j v).missLog = s.missLog := fun _ _ _ _ _ => rfl
@[simp] theorem setBoi_missNext : ∀ s b i j v, (State.setBoi s b i j v).missNext = s.missNext := fun _ _ _ _ _ => rfl
@[simp] theorem setBoi_webSlow : ∀ s b i j v, (State.setBoi s b i j v).webSlow = s.webSlow := fun _ _ _ _ _ => rfl
@[simp] theorem setBoi_test : ∀ s b i j v, (State.setBoi s b i j v).test = s.test := fun _ _ _ _ _ => rfl
@[simp] theorem setBoi_pins : ∀ s b i j v, (State.setBoi s b i j v).pins = s.pins := fun _ _ _ _ _ => rfl

/-! ### bumpN -/

@[simp] theorem bumpN_now : ∀ s i j n, (State.bumpN s i j n).now = s.now := fun _ _ _ _ => rfl
@[simp] theorem bumpN_pending : ∀ s i j n, (State.bumpN s i j n).pending = s.pending := fun _ _ _ _ => rfl
@[simp] theorem bumpN_out : ∀ s i j n, (State.bumpN s i j n).out = s.out := fun _ _ _ _ => rfl
@[simp] theorem bumpN_freeCount : ∀ s i j n, (State.bumpN s i j n).freeCount = s.freeCount := fun _ _ _ _ => rfl
@[simp] theorem bumpN_devState : ∀ s i j n, (State.bumpN s i j n).devState = s.devState := fun _ _ _ _ => rfl
@[simp] theorem bumpN_printAt : ∀ s i j n, (State.bumpN s i j n).printAt = s.printAt := fun _ _ _ _ => rfl
@[simp] theorem bumpN_bars : ∀ s i j n, (State.bumpN s i j n).bars = s.bars := fun _ _ _ _ => rfl
@[simp] theorem bumpN_fns : ∀ s i j n, (State.bumpN s i j n).fns = s.fns := fun _ _ _ _ => rfl
@[simp] theorem bumpN_moa : ∀ s i j n, (State.bumpN s i j n).moa = s.moa := fun _ _ _ _ => rfl
@[simp] theorem bumpN_deqHead : ∀ s i j n, (State.bumpN s i j n).deqHead = s.deqHead := fun _ _ _ _ => rfl
@[simp] theorem bumpN_deqTail : ∀ s i j n, (State.bumpN s i j n).deqTail = s.deqTail := fun _ _ _ _ => rfl
@[simp] theorem bumpN_deqLost : ∀ s i j n, (State.bumpN s i j n).deqLost = s.deqLost := fun _ _ _ _ => rfl
@[simp] theorem bumpN_clock : ∀ s i j n, (State.bumpN s i j n).clock = s.clock := fun _ _ _ _ => rfl
@[simp] theorem bumpN_net : ∀ s i j n, (State.bumpN s i j n).net = s.net := fun _ _ _ _ => rfl
@[simp] theorem bumpN_encs : ∀ s i j n, (State.bumpN s i j n).encs = s.encs := fun _ _ _ _ => rfl
@[simp] theorem bumpN_trig : ∀ s i j n, (State.bumpN s i j n).trig = s.trig := fun _ _ _ _ => rfl
@[simp] theorem bumpN_marks : ∀ s i j n, (State.bumpN s i j n).marks = s.marks := fun _ _ _ _ => rfl
@[simp] theorem bumpN_ports : ∀ s i j n, (State.bumpN s i j n).ports = s.ports := fun _ _ _ _ => rfl
@[simp] theorem bumpN_drays : ∀ s i j n, (State.bumpN s i j n).drays = s.drays := fun _ _ _ _ => rfl
@[simp] theorem bumpN_supplies : ∀ s i j n, (State.bumpN s i j n).supplies = s.supplies := fun _ _ _ _ => rfl
@[simp] theorem bumpN_lastTrip : ∀ s i j n, (State.bumpN s i j n).lastTrip = s.lastTrip := fun _ _ _ _ => rfl
@[simp] theorem bumpN_safeCause : ∀ s i j n, (State.bumpN s i j n).safeCause = s.safeCause := fun _ _ _ _ => rfl
@[simp] theorem bumpN_axes : ∀ s i j n, (State.bumpN s i j n).axes = s.axes := fun _ _ _ _ => rfl
@[simp] theorem bumpN_ssis : ∀ s i j n, (State.bumpN s i j n).ssis = s.ssis := fun _ _ _ _ => rfl
@[simp] theorem bumpN_cmps : ∀ s i j n, (State.bumpN s i j n).cmps = s.cmps := fun _ _ _ _ => rfl
@[simp] theorem bumpN_cams : ∀ s i j n, (State.bumpN s i j n).cams = s.cams := fun _ _ _ _ => rfl
@[simp] theorem bumpN_health : ∀ s i j n, (State.bumpN s i j n).health = s.health := fun _ _ _ _ => rfl
@[simp] theorem bumpN_engines : ∀ s i j n, (State.bumpN s i j n).engines = s.engines := fun _ _ _ _ => rfl
@[simp] theorem bumpN_deflaters : ∀ s i j n, (State.bumpN s i j n).deflaters = s.deflaters := fun _ _ _ _ => rfl
@[simp] theorem bumpN_place : ∀ s i j n, (State.bumpN s i j n).place = s.place := fun _ _ _ _ => rfl
@[simp] theorem bumpN_deficit : ∀ s i j n, (State.bumpN s i j n).deficit = s.deficit := fun _ _ _ _ => rfl
@[simp] theorem bumpN_subch : ∀ s i j n, (State.bumpN s i j n).subch = s.subch := fun _ _ _ _ => rfl
@[simp] theorem bumpN_stripeGen : ∀ s i j n, (State.bumpN s i j n).stripeGen = s.stripeGen := fun _ _ _ _ => rfl
@[simp] theorem bumpN_sram : ∀ s i j n, (State.bumpN s i j n).sram = s.sram := fun _ _ _ _ => rfl
@[simp] theorem bumpN_pair : ∀ s i j n, (State.bumpN s i j n).pair = s.pair := fun _ _ _ _ => rfl
@[simp] theorem bumpN_sched : ∀ s i j n, (State.bumpN s i j n).sched = s.sched := fun _ _ _ _ => rfl
@[simp] theorem bumpN_boot : ∀ s i j n, (State.bumpN s i j n).boot = s.boot := fun _ _ _ _ => rfl
@[simp] theorem bumpN_power : ∀ s i j n, (State.bumpN s i j n).power = s.power := fun _ _ _ _ => rfl
@[simp] theorem bumpN_trim : ∀ s i j n, (State.bumpN s i j n).trim = s.trim := fun _ _ _ _ => rfl
@[simp] theorem bumpN_mram : ∀ s i j n, (State.bumpN s i j n).mram = s.mram := fun _ _ _ _ => rfl
@[simp] theorem bumpN_errLog : ∀ s i j n, (State.bumpN s i j n).errLog = s.errLog := fun _ _ _ _ => rfl
@[simp] theorem bumpN_logSeq : ∀ s i j n, (State.bumpN s i j n).logSeq = s.logSeq := fun _ _ _ _ => rfl
@[simp] theorem bumpN_missLog : ∀ s i j n, (State.bumpN s i j n).missLog = s.missLog := fun _ _ _ _ => rfl
@[simp] theorem bumpN_missNext : ∀ s i j n, (State.bumpN s i j n).missNext = s.missNext := fun _ _ _ _ => rfl
@[simp] theorem bumpN_webSlow : ∀ s i j n, (State.bumpN s i j n).webSlow = s.webSlow := fun _ _ _ _ => rfl
@[simp] theorem bumpN_test : ∀ s i j n, (State.bumpN s i j n).test = s.test := fun _ _ _ _ => rfl
@[simp] theorem bumpN_pins : ∀ s i j n, (State.bumpN s i j n).pins = s.pins := fun _ _ _ _ => rfl

/-! ### bump -/

@[simp] theorem bump_now : ∀ s i j, (State.bump s i j).now = s.now := fun _ _ _ => rfl
@[simp] theorem bump_pending : ∀ s i j, (State.bump s i j).pending = s.pending := fun _ _ _ => rfl
@[simp] theorem bump_out : ∀ s i j, (State.bump s i j).out = s.out := fun _ _ _ => rfl
@[simp] theorem bump_freeCount : ∀ s i j, (State.bump s i j).freeCount = s.freeCount := fun _ _ _ => rfl
@[simp] theorem bump_devState : ∀ s i j, (State.bump s i j).devState = s.devState := fun _ _ _ => rfl
@[simp] theorem bump_printAt : ∀ s i j, (State.bump s i j).printAt = s.printAt := fun _ _ _ => rfl
@[simp] theorem bump_bars : ∀ s i j, (State.bump s i j).bars = s.bars := fun _ _ _ => rfl
@[simp] theorem bump_fns : ∀ s i j, (State.bump s i j).fns = s.fns := fun _ _ _ => rfl
@[simp] theorem bump_moa : ∀ s i j, (State.bump s i j).moa = s.moa := fun _ _ _ => rfl
@[simp] theorem bump_deqHead : ∀ s i j, (State.bump s i j).deqHead = s.deqHead := fun _ _ _ => rfl
@[simp] theorem bump_deqTail : ∀ s i j, (State.bump s i j).deqTail = s.deqTail := fun _ _ _ => rfl
@[simp] theorem bump_deqLost : ∀ s i j, (State.bump s i j).deqLost = s.deqLost := fun _ _ _ => rfl
@[simp] theorem bump_clock : ∀ s i j, (State.bump s i j).clock = s.clock := fun _ _ _ => rfl
@[simp] theorem bump_net : ∀ s i j, (State.bump s i j).net = s.net := fun _ _ _ => rfl
@[simp] theorem bump_encs : ∀ s i j, (State.bump s i j).encs = s.encs := fun _ _ _ => rfl
@[simp] theorem bump_trig : ∀ s i j, (State.bump s i j).trig = s.trig := fun _ _ _ => rfl
@[simp] theorem bump_marks : ∀ s i j, (State.bump s i j).marks = s.marks := fun _ _ _ => rfl
@[simp] theorem bump_ports : ∀ s i j, (State.bump s i j).ports = s.ports := fun _ _ _ => rfl
@[simp] theorem bump_drays : ∀ s i j, (State.bump s i j).drays = s.drays := fun _ _ _ => rfl
@[simp] theorem bump_supplies : ∀ s i j, (State.bump s i j).supplies = s.supplies := fun _ _ _ => rfl
@[simp] theorem bump_lastTrip : ∀ s i j, (State.bump s i j).lastTrip = s.lastTrip := fun _ _ _ => rfl
@[simp] theorem bump_safeCause : ∀ s i j, (State.bump s i j).safeCause = s.safeCause := fun _ _ _ => rfl
@[simp] theorem bump_axes : ∀ s i j, (State.bump s i j).axes = s.axes := fun _ _ _ => rfl
@[simp] theorem bump_ssis : ∀ s i j, (State.bump s i j).ssis = s.ssis := fun _ _ _ => rfl
@[simp] theorem bump_cmps : ∀ s i j, (State.bump s i j).cmps = s.cmps := fun _ _ _ => rfl
@[simp] theorem bump_cams : ∀ s i j, (State.bump s i j).cams = s.cams := fun _ _ _ => rfl
@[simp] theorem bump_health : ∀ s i j, (State.bump s i j).health = s.health := fun _ _ _ => rfl
@[simp] theorem bump_engines : ∀ s i j, (State.bump s i j).engines = s.engines := fun _ _ _ => rfl
@[simp] theorem bump_deflaters : ∀ s i j, (State.bump s i j).deflaters = s.deflaters := fun _ _ _ => rfl
@[simp] theorem bump_place : ∀ s i j, (State.bump s i j).place = s.place := fun _ _ _ => rfl
@[simp] theorem bump_deficit : ∀ s i j, (State.bump s i j).deficit = s.deficit := fun _ _ _ => rfl
@[simp] theorem bump_subch : ∀ s i j, (State.bump s i j).subch = s.subch := fun _ _ _ => rfl
@[simp] theorem bump_stripeGen : ∀ s i j, (State.bump s i j).stripeGen = s.stripeGen := fun _ _ _ => rfl
@[simp] theorem bump_sram : ∀ s i j, (State.bump s i j).sram = s.sram := fun _ _ _ => rfl
@[simp] theorem bump_pair : ∀ s i j, (State.bump s i j).pair = s.pair := fun _ _ _ => rfl
@[simp] theorem bump_sched : ∀ s i j, (State.bump s i j).sched = s.sched := fun _ _ _ => rfl
@[simp] theorem bump_boot : ∀ s i j, (State.bump s i j).boot = s.boot := fun _ _ _ => rfl
@[simp] theorem bump_power : ∀ s i j, (State.bump s i j).power = s.power := fun _ _ _ => rfl
@[simp] theorem bump_trim : ∀ s i j, (State.bump s i j).trim = s.trim := fun _ _ _ => rfl
@[simp] theorem bump_mram : ∀ s i j, (State.bump s i j).mram = s.mram := fun _ _ _ => rfl
@[simp] theorem bump_errLog : ∀ s i j, (State.bump s i j).errLog = s.errLog := fun _ _ _ => rfl
@[simp] theorem bump_logSeq : ∀ s i j, (State.bump s i j).logSeq = s.logSeq := fun _ _ _ => rfl
@[simp] theorem bump_missLog : ∀ s i j, (State.bump s i j).missLog = s.missLog := fun _ _ _ => rfl
@[simp] theorem bump_missNext : ∀ s i j, (State.bump s i j).missNext = s.missNext := fun _ _ _ => rfl
@[simp] theorem bump_webSlow : ∀ s i j, (State.bump s i j).webSlow = s.webSlow := fun _ _ _ => rfl
@[simp] theorem bump_test : ∀ s i j, (State.bump s i j).test = s.test := fun _ _ _ => rfl
@[simp] theorem bump_pins : ∀ s i j, (State.bump s i j).pins = s.pins := fun _ _ _ => rfl

/-! ### bumpBN -/

@[simp] theorem bumpBN_now : ∀ s b i j n, (State.bumpBN s b i j n).now = s.now := fun _ _ _ _ _ => rfl
@[simp] theorem bumpBN_pending : ∀ s b i j n, (State.bumpBN s b i j n).pending = s.pending := fun _ _ _ _ _ => rfl
@[simp] theorem bumpBN_out : ∀ s b i j n, (State.bumpBN s b i j n).out = s.out := fun _ _ _ _ _ => rfl
@[simp] theorem bumpBN_freeCount : ∀ s b i j n, (State.bumpBN s b i j n).freeCount = s.freeCount := fun _ _ _ _ _ => rfl
@[simp] theorem bumpBN_devState : ∀ s b i j n, (State.bumpBN s b i j n).devState = s.devState := fun _ _ _ _ _ => rfl
@[simp] theorem bumpBN_printAt : ∀ s b i j n, (State.bumpBN s b i j n).printAt = s.printAt := fun _ _ _ _ _ => rfl
@[simp] theorem bumpBN_dev : ∀ s b i j n, (State.bumpBN s b i j n).dev = s.dev := fun _ _ _ _ _ => rfl
@[simp] theorem bumpBN_fns : ∀ s b i j n, (State.bumpBN s b i j n).fns = s.fns := fun _ _ _ _ _ => rfl
@[simp] theorem bumpBN_moa : ∀ s b i j n, (State.bumpBN s b i j n).moa = s.moa := fun _ _ _ _ _ => rfl
@[simp] theorem bumpBN_deqHead : ∀ s b i j n, (State.bumpBN s b i j n).deqHead = s.deqHead := fun _ _ _ _ _ => rfl
@[simp] theorem bumpBN_deqTail : ∀ s b i j n, (State.bumpBN s b i j n).deqTail = s.deqTail := fun _ _ _ _ _ => rfl
@[simp] theorem bumpBN_deqLost : ∀ s b i j n, (State.bumpBN s b i j n).deqLost = s.deqLost := fun _ _ _ _ _ => rfl
@[simp] theorem bumpBN_clock : ∀ s b i j n, (State.bumpBN s b i j n).clock = s.clock := fun _ _ _ _ _ => rfl
@[simp] theorem bumpBN_net : ∀ s b i j n, (State.bumpBN s b i j n).net = s.net := fun _ _ _ _ _ => rfl
@[simp] theorem bumpBN_encs : ∀ s b i j n, (State.bumpBN s b i j n).encs = s.encs := fun _ _ _ _ _ => rfl
@[simp] theorem bumpBN_trig : ∀ s b i j n, (State.bumpBN s b i j n).trig = s.trig := fun _ _ _ _ _ => rfl
@[simp] theorem bumpBN_marks : ∀ s b i j n, (State.bumpBN s b i j n).marks = s.marks := fun _ _ _ _ _ => rfl
@[simp] theorem bumpBN_ports : ∀ s b i j n, (State.bumpBN s b i j n).ports = s.ports := fun _ _ _ _ _ => rfl
@[simp] theorem bumpBN_drays : ∀ s b i j n, (State.bumpBN s b i j n).drays = s.drays := fun _ _ _ _ _ => rfl
@[simp] theorem bumpBN_supplies : ∀ s b i j n, (State.bumpBN s b i j n).supplies = s.supplies := fun _ _ _ _ _ => rfl
@[simp] theorem bumpBN_lastTrip : ∀ s b i j n, (State.bumpBN s b i j n).lastTrip = s.lastTrip := fun _ _ _ _ _ => rfl
@[simp] theorem bumpBN_safeCause : ∀ s b i j n, (State.bumpBN s b i j n).safeCause = s.safeCause := fun _ _ _ _ _ => rfl
@[simp] theorem bumpBN_axes : ∀ s b i j n, (State.bumpBN s b i j n).axes = s.axes := fun _ _ _ _ _ => rfl
@[simp] theorem bumpBN_ssis : ∀ s b i j n, (State.bumpBN s b i j n).ssis = s.ssis := fun _ _ _ _ _ => rfl
@[simp] theorem bumpBN_cmps : ∀ s b i j n, (State.bumpBN s b i j n).cmps = s.cmps := fun _ _ _ _ _ => rfl
@[simp] theorem bumpBN_cams : ∀ s b i j n, (State.bumpBN s b i j n).cams = s.cams := fun _ _ _ _ _ => rfl
@[simp] theorem bumpBN_health : ∀ s b i j n, (State.bumpBN s b i j n).health = s.health := fun _ _ _ _ _ => rfl
@[simp] theorem bumpBN_engines : ∀ s b i j n, (State.bumpBN s b i j n).engines = s.engines := fun _ _ _ _ _ => rfl
@[simp] theorem bumpBN_deflaters : ∀ s b i j n, (State.bumpBN s b i j n).deflaters = s.deflaters := fun _ _ _ _ _ => rfl
@[simp] theorem bumpBN_place : ∀ s b i j n, (State.bumpBN s b i j n).place = s.place := fun _ _ _ _ _ => rfl
@[simp] theorem bumpBN_deficit : ∀ s b i j n, (State.bumpBN s b i j n).deficit = s.deficit := fun _ _ _ _ _ => rfl
@[simp] theorem bumpBN_subch : ∀ s b i j n, (State.bumpBN s b i j n).subch = s.subch := fun _ _ _ _ _ => rfl
@[simp] theorem bumpBN_stripeGen : ∀ s b i j n, (State.bumpBN s b i j n).stripeGen = s.stripeGen := fun _ _ _ _ _ => rfl
@[simp] theorem bumpBN_sram : ∀ s b i j n, (State.bumpBN s b i j n).sram = s.sram := fun _ _ _ _ _ => rfl
@[simp] theorem bumpBN_pair : ∀ s b i j n, (State.bumpBN s b i j n).pair = s.pair := fun _ _ _ _ _ => rfl
@[simp] theorem bumpBN_sched : ∀ s b i j n, (State.bumpBN s b i j n).sched = s.sched := fun _ _ _ _ _ => rfl
@[simp] theorem bumpBN_boot : ∀ s b i j n, (State.bumpBN s b i j n).boot = s.boot := fun _ _ _ _ _ => rfl
@[simp] theorem bumpBN_power : ∀ s b i j n, (State.bumpBN s b i j n).power = s.power := fun _ _ _ _ _ => rfl
@[simp] theorem bumpBN_trim : ∀ s b i j n, (State.bumpBN s b i j n).trim = s.trim := fun _ _ _ _ _ => rfl
@[simp] theorem bumpBN_mram : ∀ s b i j n, (State.bumpBN s b i j n).mram = s.mram := fun _ _ _ _ _ => rfl
@[simp] theorem bumpBN_errLog : ∀ s b i j n, (State.bumpBN s b i j n).errLog = s.errLog := fun _ _ _ _ _ => rfl
@[simp] theorem bumpBN_logSeq : ∀ s b i j n, (State.bumpBN s b i j n).logSeq = s.logSeq := fun _ _ _ _ _ => rfl
@[simp] theorem bumpBN_missLog : ∀ s b i j n, (State.bumpBN s b i j n).missLog = s.missLog := fun _ _ _ _ _ => rfl
@[simp] theorem bumpBN_missNext : ∀ s b i j n, (State.bumpBN s b i j n).missNext = s.missNext := fun _ _ _ _ _ => rfl
@[simp] theorem bumpBN_webSlow : ∀ s b i j n, (State.bumpBN s b i j n).webSlow = s.webSlow := fun _ _ _ _ _ => rfl
@[simp] theorem bumpBN_test : ∀ s b i j n, (State.bumpBN s b i j n).test = s.test := fun _ _ _ _ _ => rfl
@[simp] theorem bumpBN_pins : ∀ s b i j n, (State.bumpBN s b i j n).pins = s.pins := fun _ _ _ _ _ => rfl

/-! ### bumpB -/

@[simp] theorem bumpB_now : ∀ s b i j, (State.bumpB s b i j).now = s.now := fun _ _ _ _ => rfl
@[simp] theorem bumpB_pending : ∀ s b i j, (State.bumpB s b i j).pending = s.pending := fun _ _ _ _ => rfl
@[simp] theorem bumpB_out : ∀ s b i j, (State.bumpB s b i j).out = s.out := fun _ _ _ _ => rfl
@[simp] theorem bumpB_freeCount : ∀ s b i j, (State.bumpB s b i j).freeCount = s.freeCount := fun _ _ _ _ => rfl
@[simp] theorem bumpB_devState : ∀ s b i j, (State.bumpB s b i j).devState = s.devState := fun _ _ _ _ => rfl
@[simp] theorem bumpB_printAt : ∀ s b i j, (State.bumpB s b i j).printAt = s.printAt := fun _ _ _ _ => rfl
@[simp] theorem bumpB_dev : ∀ s b i j, (State.bumpB s b i j).dev = s.dev := fun _ _ _ _ => rfl
@[simp] theorem bumpB_fns : ∀ s b i j, (State.bumpB s b i j).fns = s.fns := fun _ _ _ _ => rfl
@[simp] theorem bumpB_moa : ∀ s b i j, (State.bumpB s b i j).moa = s.moa := fun _ _ _ _ => rfl
@[simp] theorem bumpB_deqHead : ∀ s b i j, (State.bumpB s b i j).deqHead = s.deqHead := fun _ _ _ _ => rfl
@[simp] theorem bumpB_deqTail : ∀ s b i j, (State.bumpB s b i j).deqTail = s.deqTail := fun _ _ _ _ => rfl
@[simp] theorem bumpB_deqLost : ∀ s b i j, (State.bumpB s b i j).deqLost = s.deqLost := fun _ _ _ _ => rfl
@[simp] theorem bumpB_clock : ∀ s b i j, (State.bumpB s b i j).clock = s.clock := fun _ _ _ _ => rfl
@[simp] theorem bumpB_net : ∀ s b i j, (State.bumpB s b i j).net = s.net := fun _ _ _ _ => rfl
@[simp] theorem bumpB_encs : ∀ s b i j, (State.bumpB s b i j).encs = s.encs := fun _ _ _ _ => rfl
@[simp] theorem bumpB_trig : ∀ s b i j, (State.bumpB s b i j).trig = s.trig := fun _ _ _ _ => rfl
@[simp] theorem bumpB_marks : ∀ s b i j, (State.bumpB s b i j).marks = s.marks := fun _ _ _ _ => rfl
@[simp] theorem bumpB_ports : ∀ s b i j, (State.bumpB s b i j).ports = s.ports := fun _ _ _ _ => rfl
@[simp] theorem bumpB_drays : ∀ s b i j, (State.bumpB s b i j).drays = s.drays := fun _ _ _ _ => rfl
@[simp] theorem bumpB_supplies : ∀ s b i j, (State.bumpB s b i j).supplies = s.supplies := fun _ _ _ _ => rfl
@[simp] theorem bumpB_lastTrip : ∀ s b i j, (State.bumpB s b i j).lastTrip = s.lastTrip := fun _ _ _ _ => rfl
@[simp] theorem bumpB_safeCause : ∀ s b i j, (State.bumpB s b i j).safeCause = s.safeCause := fun _ _ _ _ => rfl
@[simp] theorem bumpB_axes : ∀ s b i j, (State.bumpB s b i j).axes = s.axes := fun _ _ _ _ => rfl
@[simp] theorem bumpB_ssis : ∀ s b i j, (State.bumpB s b i j).ssis = s.ssis := fun _ _ _ _ => rfl
@[simp] theorem bumpB_cmps : ∀ s b i j, (State.bumpB s b i j).cmps = s.cmps := fun _ _ _ _ => rfl
@[simp] theorem bumpB_cams : ∀ s b i j, (State.bumpB s b i j).cams = s.cams := fun _ _ _ _ => rfl
@[simp] theorem bumpB_health : ∀ s b i j, (State.bumpB s b i j).health = s.health := fun _ _ _ _ => rfl
@[simp] theorem bumpB_engines : ∀ s b i j, (State.bumpB s b i j).engines = s.engines := fun _ _ _ _ => rfl
@[simp] theorem bumpB_deflaters : ∀ s b i j, (State.bumpB s b i j).deflaters = s.deflaters := fun _ _ _ _ => rfl
@[simp] theorem bumpB_place : ∀ s b i j, (State.bumpB s b i j).place = s.place := fun _ _ _ _ => rfl
@[simp] theorem bumpB_deficit : ∀ s b i j, (State.bumpB s b i j).deficit = s.deficit := fun _ _ _ _ => rfl
@[simp] theorem bumpB_subch : ∀ s b i j, (State.bumpB s b i j).subch = s.subch := fun _ _ _ _ => rfl
@[simp] theorem bumpB_stripeGen : ∀ s b i j, (State.bumpB s b i j).stripeGen = s.stripeGen := fun _ _ _ _ => rfl
@[simp] theorem bumpB_sram : ∀ s b i j, (State.bumpB s b i j).sram = s.sram := fun _ _ _ _ => rfl
@[simp] theorem bumpB_pair : ∀ s b i j, (State.bumpB s b i j).pair = s.pair := fun _ _ _ _ => rfl
@[simp] theorem bumpB_sched : ∀ s b i j, (State.bumpB s b i j).sched = s.sched := fun _ _ _ _ => rfl
@[simp] theorem bumpB_boot : ∀ s b i j, (State.bumpB s b i j).boot = s.boot := fun _ _ _ _ => rfl
@[simp] theorem bumpB_power : ∀ s b i j, (State.bumpB s b i j).power = s.power := fun _ _ _ _ => rfl
@[simp] theorem bumpB_trim : ∀ s b i j, (State.bumpB s b i j).trim = s.trim := fun _ _ _ _ => rfl
@[simp] theorem bumpB_mram : ∀ s b i j, (State.bumpB s b i j).mram = s.mram := fun _ _ _ _ => rfl
@[simp] theorem bumpB_errLog : ∀ s b i j, (State.bumpB s b i j).errLog = s.errLog := fun _ _ _ _ => rfl
@[simp] theorem bumpB_logSeq : ∀ s b i j, (State.bumpB s b i j).logSeq = s.logSeq := fun _ _ _ _ => rfl
@[simp] theorem bumpB_missLog : ∀ s b i j, (State.bumpB s b i j).missLog = s.missLog := fun _ _ _ _ => rfl
@[simp] theorem bumpB_missNext : ∀ s b i j, (State.bumpB s b i j).missNext = s.missNext := fun _ _ _ _ => rfl
@[simp] theorem bumpB_webSlow : ∀ s b i j, (State.bumpB s b i j).webSlow = s.webSlow := fun _ _ _ _ => rfl
@[simp] theorem bumpB_test : ∀ s b i j, (State.bumpB s b i j).test = s.test := fun _ _ _ _ => rfl
@[simp] theorem bumpB_pins : ∀ s b i j, (State.bumpB s b i j).pins = s.pins := fun _ _ _ _ => rfl

/-! ### count64 -/

@[simp] theorem count64_now : ∀ s i j n, (State.count64 s i j n).now = s.now := fun _ _ _ _ => rfl
@[simp] theorem count64_pending : ∀ s i j n, (State.count64 s i j n).pending = s.pending := fun _ _ _ _ => rfl
@[simp] theorem count64_out : ∀ s i j n, (State.count64 s i j n).out = s.out := fun _ _ _ _ => rfl
@[simp] theorem count64_freeCount : ∀ s i j n, (State.count64 s i j n).freeCount = s.freeCount := fun _ _ _ _ => rfl
@[simp] theorem count64_devState : ∀ s i j n, (State.count64 s i j n).devState = s.devState := fun _ _ _ _ => rfl
@[simp] theorem count64_printAt : ∀ s i j n, (State.count64 s i j n).printAt = s.printAt := fun _ _ _ _ => rfl
@[simp] theorem count64_bars : ∀ s i j n, (State.count64 s i j n).bars = s.bars := fun _ _ _ _ => rfl
@[simp] theorem count64_fns : ∀ s i j n, (State.count64 s i j n).fns = s.fns := fun _ _ _ _ => rfl
@[simp] theorem count64_moa : ∀ s i j n, (State.count64 s i j n).moa = s.moa := fun _ _ _ _ => rfl
@[simp] theorem count64_deqHead : ∀ s i j n, (State.count64 s i j n).deqHead = s.deqHead := fun _ _ _ _ => rfl
@[simp] theorem count64_deqTail : ∀ s i j n, (State.count64 s i j n).deqTail = s.deqTail := fun _ _ _ _ => rfl
@[simp] theorem count64_deqLost : ∀ s i j n, (State.count64 s i j n).deqLost = s.deqLost := fun _ _ _ _ => rfl
@[simp] theorem count64_clock : ∀ s i j n, (State.count64 s i j n).clock = s.clock := fun _ _ _ _ => rfl
@[simp] theorem count64_net : ∀ s i j n, (State.count64 s i j n).net = s.net := fun _ _ _ _ => rfl
@[simp] theorem count64_encs : ∀ s i j n, (State.count64 s i j n).encs = s.encs := fun _ _ _ _ => rfl
@[simp] theorem count64_trig : ∀ s i j n, (State.count64 s i j n).trig = s.trig := fun _ _ _ _ => rfl
@[simp] theorem count64_marks : ∀ s i j n, (State.count64 s i j n).marks = s.marks := fun _ _ _ _ => rfl
@[simp] theorem count64_ports : ∀ s i j n, (State.count64 s i j n).ports = s.ports := fun _ _ _ _ => rfl
@[simp] theorem count64_drays : ∀ s i j n, (State.count64 s i j n).drays = s.drays := fun _ _ _ _ => rfl
@[simp] theorem count64_supplies : ∀ s i j n, (State.count64 s i j n).supplies = s.supplies := fun _ _ _ _ => rfl
@[simp] theorem count64_lastTrip : ∀ s i j n, (State.count64 s i j n).lastTrip = s.lastTrip := fun _ _ _ _ => rfl
@[simp] theorem count64_safeCause : ∀ s i j n, (State.count64 s i j n).safeCause = s.safeCause := fun _ _ _ _ => rfl
@[simp] theorem count64_axes : ∀ s i j n, (State.count64 s i j n).axes = s.axes := fun _ _ _ _ => rfl
@[simp] theorem count64_ssis : ∀ s i j n, (State.count64 s i j n).ssis = s.ssis := fun _ _ _ _ => rfl
@[simp] theorem count64_cmps : ∀ s i j n, (State.count64 s i j n).cmps = s.cmps := fun _ _ _ _ => rfl
@[simp] theorem count64_cams : ∀ s i j n, (State.count64 s i j n).cams = s.cams := fun _ _ _ _ => rfl
@[simp] theorem count64_health : ∀ s i j n, (State.count64 s i j n).health = s.health := fun _ _ _ _ => rfl
@[simp] theorem count64_engines : ∀ s i j n, (State.count64 s i j n).engines = s.engines := fun _ _ _ _ => rfl
@[simp] theorem count64_deflaters : ∀ s i j n, (State.count64 s i j n).deflaters = s.deflaters := fun _ _ _ _ => rfl
@[simp] theorem count64_place : ∀ s i j n, (State.count64 s i j n).place = s.place := fun _ _ _ _ => rfl
@[simp] theorem count64_deficit : ∀ s i j n, (State.count64 s i j n).deficit = s.deficit := fun _ _ _ _ => rfl
@[simp] theorem count64_subch : ∀ s i j n, (State.count64 s i j n).subch = s.subch := fun _ _ _ _ => rfl
@[simp] theorem count64_stripeGen : ∀ s i j n, (State.count64 s i j n).stripeGen = s.stripeGen := fun _ _ _ _ => rfl
@[simp] theorem count64_sram : ∀ s i j n, (State.count64 s i j n).sram = s.sram := fun _ _ _ _ => rfl
@[simp] theorem count64_pair : ∀ s i j n, (State.count64 s i j n).pair = s.pair := fun _ _ _ _ => rfl
@[simp] theorem count64_sched : ∀ s i j n, (State.count64 s i j n).sched = s.sched := fun _ _ _ _ => rfl
@[simp] theorem count64_boot : ∀ s i j n, (State.count64 s i j n).boot = s.boot := fun _ _ _ _ => rfl
@[simp] theorem count64_power : ∀ s i j n, (State.count64 s i j n).power = s.power := fun _ _ _ _ => rfl
@[simp] theorem count64_trim : ∀ s i j n, (State.count64 s i j n).trim = s.trim := fun _ _ _ _ => rfl
@[simp] theorem count64_mram : ∀ s i j n, (State.count64 s i j n).mram = s.mram := fun _ _ _ _ => rfl
@[simp] theorem count64_errLog : ∀ s i j n, (State.count64 s i j n).errLog = s.errLog := fun _ _ _ _ => rfl
@[simp] theorem count64_logSeq : ∀ s i j n, (State.count64 s i j n).logSeq = s.logSeq := fun _ _ _ _ => rfl
@[simp] theorem count64_missLog : ∀ s i j n, (State.count64 s i j n).missLog = s.missLog := fun _ _ _ _ => rfl
@[simp] theorem count64_missNext : ∀ s i j n, (State.count64 s i j n).missNext = s.missNext := fun _ _ _ _ => rfl
@[simp] theorem count64_webSlow : ∀ s i j n, (State.count64 s i j n).webSlow = s.webSlow := fun _ _ _ _ => rfl
@[simp] theorem count64_test : ∀ s i j n, (State.count64 s i j n).test = s.test := fun _ _ _ _ => rfl
@[simp] theorem count64_pins : ∀ s i j n, (State.count64 s i j n).pins = s.pins := fun _ _ _ _ => rfl

/-! ### countB64 -/

@[simp] theorem countB64_now : ∀ s b i j n, (State.countB64 s b i j n).now = s.now := fun _ _ _ _ _ => rfl
@[simp] theorem countB64_pending : ∀ s b i j n, (State.countB64 s b i j n).pending = s.pending := fun _ _ _ _ _ => rfl
@[simp] theorem countB64_out : ∀ s b i j n, (State.countB64 s b i j n).out = s.out := fun _ _ _ _ _ => rfl
@[simp] theorem countB64_freeCount : ∀ s b i j n, (State.countB64 s b i j n).freeCount = s.freeCount := fun _ _ _ _ _ => rfl
@[simp] theorem countB64_devState : ∀ s b i j n, (State.countB64 s b i j n).devState = s.devState := fun _ _ _ _ _ => rfl
@[simp] theorem countB64_printAt : ∀ s b i j n, (State.countB64 s b i j n).printAt = s.printAt := fun _ _ _ _ _ => rfl
@[simp] theorem countB64_dev : ∀ s b i j n, (State.countB64 s b i j n).dev = s.dev := fun _ _ _ _ _ => rfl
@[simp] theorem countB64_fns : ∀ s b i j n, (State.countB64 s b i j n).fns = s.fns := fun _ _ _ _ _ => rfl
@[simp] theorem countB64_moa : ∀ s b i j n, (State.countB64 s b i j n).moa = s.moa := fun _ _ _ _ _ => rfl
@[simp] theorem countB64_deqHead : ∀ s b i j n, (State.countB64 s b i j n).deqHead = s.deqHead := fun _ _ _ _ _ => rfl
@[simp] theorem countB64_deqTail : ∀ s b i j n, (State.countB64 s b i j n).deqTail = s.deqTail := fun _ _ _ _ _ => rfl
@[simp] theorem countB64_deqLost : ∀ s b i j n, (State.countB64 s b i j n).deqLost = s.deqLost := fun _ _ _ _ _ => rfl
@[simp] theorem countB64_clock : ∀ s b i j n, (State.countB64 s b i j n).clock = s.clock := fun _ _ _ _ _ => rfl
@[simp] theorem countB64_net : ∀ s b i j n, (State.countB64 s b i j n).net = s.net := fun _ _ _ _ _ => rfl
@[simp] theorem countB64_encs : ∀ s b i j n, (State.countB64 s b i j n).encs = s.encs := fun _ _ _ _ _ => rfl
@[simp] theorem countB64_trig : ∀ s b i j n, (State.countB64 s b i j n).trig = s.trig := fun _ _ _ _ _ => rfl
@[simp] theorem countB64_marks : ∀ s b i j n, (State.countB64 s b i j n).marks = s.marks := fun _ _ _ _ _ => rfl
@[simp] theorem countB64_ports : ∀ s b i j n, (State.countB64 s b i j n).ports = s.ports := fun _ _ _ _ _ => rfl
@[simp] theorem countB64_drays : ∀ s b i j n, (State.countB64 s b i j n).drays = s.drays := fun _ _ _ _ _ => rfl
@[simp] theorem countB64_supplies : ∀ s b i j n, (State.countB64 s b i j n).supplies = s.supplies := fun _ _ _ _ _ => rfl
@[simp] theorem countB64_lastTrip : ∀ s b i j n, (State.countB64 s b i j n).lastTrip = s.lastTrip := fun _ _ _ _ _ => rfl
@[simp] theorem countB64_safeCause : ∀ s b i j n, (State.countB64 s b i j n).safeCause = s.safeCause := fun _ _ _ _ _ => rfl
@[simp] theorem countB64_axes : ∀ s b i j n, (State.countB64 s b i j n).axes = s.axes := fun _ _ _ _ _ => rfl
@[simp] theorem countB64_ssis : ∀ s b i j n, (State.countB64 s b i j n).ssis = s.ssis := fun _ _ _ _ _ => rfl
@[simp] theorem countB64_cmps : ∀ s b i j n, (State.countB64 s b i j n).cmps = s.cmps := fun _ _ _ _ _ => rfl
@[simp] theorem countB64_cams : ∀ s b i j n, (State.countB64 s b i j n).cams = s.cams := fun _ _ _ _ _ => rfl
@[simp] theorem countB64_health : ∀ s b i j n, (State.countB64 s b i j n).health = s.health := fun _ _ _ _ _ => rfl
@[simp] theorem countB64_engines : ∀ s b i j n, (State.countB64 s b i j n).engines = s.engines := fun _ _ _ _ _ => rfl
@[simp] theorem countB64_deflaters : ∀ s b i j n, (State.countB64 s b i j n).deflaters = s.deflaters := fun _ _ _ _ _ => rfl
@[simp] theorem countB64_place : ∀ s b i j n, (State.countB64 s b i j n).place = s.place := fun _ _ _ _ _ => rfl
@[simp] theorem countB64_deficit : ∀ s b i j n, (State.countB64 s b i j n).deficit = s.deficit := fun _ _ _ _ _ => rfl
@[simp] theorem countB64_subch : ∀ s b i j n, (State.countB64 s b i j n).subch = s.subch := fun _ _ _ _ _ => rfl
@[simp] theorem countB64_stripeGen : ∀ s b i j n, (State.countB64 s b i j n).stripeGen = s.stripeGen := fun _ _ _ _ _ => rfl
@[simp] theorem countB64_sram : ∀ s b i j n, (State.countB64 s b i j n).sram = s.sram := fun _ _ _ _ _ => rfl
@[simp] theorem countB64_pair : ∀ s b i j n, (State.countB64 s b i j n).pair = s.pair := fun _ _ _ _ _ => rfl
@[simp] theorem countB64_sched : ∀ s b i j n, (State.countB64 s b i j n).sched = s.sched := fun _ _ _ _ _ => rfl
@[simp] theorem countB64_boot : ∀ s b i j n, (State.countB64 s b i j n).boot = s.boot := fun _ _ _ _ _ => rfl
@[simp] theorem countB64_power : ∀ s b i j n, (State.countB64 s b i j n).power = s.power := fun _ _ _ _ _ => rfl
@[simp] theorem countB64_trim : ∀ s b i j n, (State.countB64 s b i j n).trim = s.trim := fun _ _ _ _ _ => rfl
@[simp] theorem countB64_mram : ∀ s b i j n, (State.countB64 s b i j n).mram = s.mram := fun _ _ _ _ _ => rfl
@[simp] theorem countB64_errLog : ∀ s b i j n, (State.countB64 s b i j n).errLog = s.errLog := fun _ _ _ _ _ => rfl
@[simp] theorem countB64_logSeq : ∀ s b i j n, (State.countB64 s b i j n).logSeq = s.logSeq := fun _ _ _ _ _ => rfl
@[simp] theorem countB64_missLog : ∀ s b i j n, (State.countB64 s b i j n).missLog = s.missLog := fun _ _ _ _ _ => rfl
@[simp] theorem countB64_missNext : ∀ s b i j n, (State.countB64 s b i j n).missNext = s.missNext := fun _ _ _ _ _ => rfl
@[simp] theorem countB64_webSlow : ∀ s b i j n, (State.countB64 s b i j n).webSlow = s.webSlow := fun _ _ _ _ _ => rfl
@[simp] theorem countB64_test : ∀ s b i j n, (State.countB64 s b i j n).test = s.test := fun _ _ _ _ _ => rfl
@[simp] theorem countB64_pins : ∀ s b i j n, (State.countB64 s b i j n).pins = s.pins := fun _ _ _ _ _ => rfl

/-! ### setDw -/

@[simp] theorem setDw_now : ∀ s i j v, (State.setDw s i j v).now = s.now := fun _ _ _ _ => rfl
@[simp] theorem setDw_pending : ∀ s i j v, (State.setDw s i j v).pending = s.pending := fun _ _ _ _ => rfl
@[simp] theorem setDw_out : ∀ s i j v, (State.setDw s i j v).out = s.out := fun _ _ _ _ => rfl
@[simp] theorem setDw_freeCount : ∀ s i j v, (State.setDw s i j v).freeCount = s.freeCount := fun _ _ _ _ => rfl
@[simp] theorem setDw_devState : ∀ s i j v, (State.setDw s i j v).devState = s.devState := fun _ _ _ _ => rfl
@[simp] theorem setDw_printAt : ∀ s i j v, (State.setDw s i j v).printAt = s.printAt := fun _ _ _ _ => rfl
@[simp] theorem setDw_bars : ∀ s i j v, (State.setDw s i j v).bars = s.bars := fun _ _ _ _ => rfl
@[simp] theorem setDw_fns : ∀ s i j v, (State.setDw s i j v).fns = s.fns := fun _ _ _ _ => rfl
@[simp] theorem setDw_moa : ∀ s i j v, (State.setDw s i j v).moa = s.moa := fun _ _ _ _ => rfl
@[simp] theorem setDw_deqHead : ∀ s i j v, (State.setDw s i j v).deqHead = s.deqHead := fun _ _ _ _ => rfl
@[simp] theorem setDw_deqTail : ∀ s i j v, (State.setDw s i j v).deqTail = s.deqTail := fun _ _ _ _ => rfl
@[simp] theorem setDw_deqLost : ∀ s i j v, (State.setDw s i j v).deqLost = s.deqLost := fun _ _ _ _ => rfl
@[simp] theorem setDw_clock : ∀ s i j v, (State.setDw s i j v).clock = s.clock := fun _ _ _ _ => rfl
@[simp] theorem setDw_net : ∀ s i j v, (State.setDw s i j v).net = s.net := fun _ _ _ _ => rfl
@[simp] theorem setDw_encs : ∀ s i j v, (State.setDw s i j v).encs = s.encs := fun _ _ _ _ => rfl
@[simp] theorem setDw_trig : ∀ s i j v, (State.setDw s i j v).trig = s.trig := fun _ _ _ _ => rfl
@[simp] theorem setDw_marks : ∀ s i j v, (State.setDw s i j v).marks = s.marks := fun _ _ _ _ => rfl
@[simp] theorem setDw_ports : ∀ s i j v, (State.setDw s i j v).ports = s.ports := fun _ _ _ _ => rfl
@[simp] theorem setDw_drays : ∀ s i j v, (State.setDw s i j v).drays = s.drays := fun _ _ _ _ => rfl
@[simp] theorem setDw_supplies : ∀ s i j v, (State.setDw s i j v).supplies = s.supplies := fun _ _ _ _ => rfl
@[simp] theorem setDw_lastTrip : ∀ s i j v, (State.setDw s i j v).lastTrip = s.lastTrip := fun _ _ _ _ => rfl
@[simp] theorem setDw_safeCause : ∀ s i j v, (State.setDw s i j v).safeCause = s.safeCause := fun _ _ _ _ => rfl
@[simp] theorem setDw_axes : ∀ s i j v, (State.setDw s i j v).axes = s.axes := fun _ _ _ _ => rfl
@[simp] theorem setDw_ssis : ∀ s i j v, (State.setDw s i j v).ssis = s.ssis := fun _ _ _ _ => rfl
@[simp] theorem setDw_cmps : ∀ s i j v, (State.setDw s i j v).cmps = s.cmps := fun _ _ _ _ => rfl
@[simp] theorem setDw_cams : ∀ s i j v, (State.setDw s i j v).cams = s.cams := fun _ _ _ _ => rfl
@[simp] theorem setDw_health : ∀ s i j v, (State.setDw s i j v).health = s.health := fun _ _ _ _ => rfl
@[simp] theorem setDw_engines : ∀ s i j v, (State.setDw s i j v).engines = s.engines := fun _ _ _ _ => rfl
@[simp] theorem setDw_deflaters : ∀ s i j v, (State.setDw s i j v).deflaters = s.deflaters := fun _ _ _ _ => rfl
@[simp] theorem setDw_place : ∀ s i j v, (State.setDw s i j v).place = s.place := fun _ _ _ _ => rfl
@[simp] theorem setDw_deficit : ∀ s i j v, (State.setDw s i j v).deficit = s.deficit := fun _ _ _ _ => rfl
@[simp] theorem setDw_subch : ∀ s i j v, (State.setDw s i j v).subch = s.subch := fun _ _ _ _ => rfl
@[simp] theorem setDw_stripeGen : ∀ s i j v, (State.setDw s i j v).stripeGen = s.stripeGen := fun _ _ _ _ => rfl
@[simp] theorem setDw_sram : ∀ s i j v, (State.setDw s i j v).sram = s.sram := fun _ _ _ _ => rfl
@[simp] theorem setDw_pair : ∀ s i j v, (State.setDw s i j v).pair = s.pair := fun _ _ _ _ => rfl
@[simp] theorem setDw_sched : ∀ s i j v, (State.setDw s i j v).sched = s.sched := fun _ _ _ _ => rfl
@[simp] theorem setDw_boot : ∀ s i j v, (State.setDw s i j v).boot = s.boot := fun _ _ _ _ => rfl
@[simp] theorem setDw_power : ∀ s i j v, (State.setDw s i j v).power = s.power := fun _ _ _ _ => rfl
@[simp] theorem setDw_trim : ∀ s i j v, (State.setDw s i j v).trim = s.trim := fun _ _ _ _ => rfl
@[simp] theorem setDw_mram : ∀ s i j v, (State.setDw s i j v).mram = s.mram := fun _ _ _ _ => rfl
@[simp] theorem setDw_errLog : ∀ s i j v, (State.setDw s i j v).errLog = s.errLog := fun _ _ _ _ => rfl
@[simp] theorem setDw_logSeq : ∀ s i j v, (State.setDw s i j v).logSeq = s.logSeq := fun _ _ _ _ => rfl
@[simp] theorem setDw_missLog : ∀ s i j v, (State.setDw s i j v).missLog = s.missLog := fun _ _ _ _ => rfl
@[simp] theorem setDw_missNext : ∀ s i j v, (State.setDw s i j v).missNext = s.missNext := fun _ _ _ _ => rfl
@[simp] theorem setDw_webSlow : ∀ s i j v, (State.setDw s i j v).webSlow = s.webSlow := fun _ _ _ _ => rfl
@[simp] theorem setDw_test : ∀ s i j v, (State.setDw s i j v).test = s.test := fun _ _ _ _ => rfl
@[simp] theorem setDw_pins : ∀ s i j v, (State.setDw s i j v).pins = s.pins := fun _ _ _ _ => rfl

/-! ### setBw -/

@[simp] theorem setBw_now : ∀ s b i j v, (State.setBw s b i j v).now = s.now := fun _ _ _ _ _ => rfl
@[simp] theorem setBw_pending : ∀ s b i j v, (State.setBw s b i j v).pending = s.pending := fun _ _ _ _ _ => rfl
@[simp] theorem setBw_out : ∀ s b i j v, (State.setBw s b i j v).out = s.out := fun _ _ _ _ _ => rfl
@[simp] theorem setBw_freeCount : ∀ s b i j v, (State.setBw s b i j v).freeCount = s.freeCount := fun _ _ _ _ _ => rfl
@[simp] theorem setBw_devState : ∀ s b i j v, (State.setBw s b i j v).devState = s.devState := fun _ _ _ _ _ => rfl
@[simp] theorem setBw_printAt : ∀ s b i j v, (State.setBw s b i j v).printAt = s.printAt := fun _ _ _ _ _ => rfl
@[simp] theorem setBw_dev : ∀ s b i j v, (State.setBw s b i j v).dev = s.dev := fun _ _ _ _ _ => rfl
@[simp] theorem setBw_fns : ∀ s b i j v, (State.setBw s b i j v).fns = s.fns := fun _ _ _ _ _ => rfl
@[simp] theorem setBw_moa : ∀ s b i j v, (State.setBw s b i j v).moa = s.moa := fun _ _ _ _ _ => rfl
@[simp] theorem setBw_deqHead : ∀ s b i j v, (State.setBw s b i j v).deqHead = s.deqHead := fun _ _ _ _ _ => rfl
@[simp] theorem setBw_deqTail : ∀ s b i j v, (State.setBw s b i j v).deqTail = s.deqTail := fun _ _ _ _ _ => rfl
@[simp] theorem setBw_deqLost : ∀ s b i j v, (State.setBw s b i j v).deqLost = s.deqLost := fun _ _ _ _ _ => rfl
@[simp] theorem setBw_clock : ∀ s b i j v, (State.setBw s b i j v).clock = s.clock := fun _ _ _ _ _ => rfl
@[simp] theorem setBw_net : ∀ s b i j v, (State.setBw s b i j v).net = s.net := fun _ _ _ _ _ => rfl
@[simp] theorem setBw_encs : ∀ s b i j v, (State.setBw s b i j v).encs = s.encs := fun _ _ _ _ _ => rfl
@[simp] theorem setBw_trig : ∀ s b i j v, (State.setBw s b i j v).trig = s.trig := fun _ _ _ _ _ => rfl
@[simp] theorem setBw_marks : ∀ s b i j v, (State.setBw s b i j v).marks = s.marks := fun _ _ _ _ _ => rfl
@[simp] theorem setBw_ports : ∀ s b i j v, (State.setBw s b i j v).ports = s.ports := fun _ _ _ _ _ => rfl
@[simp] theorem setBw_drays : ∀ s b i j v, (State.setBw s b i j v).drays = s.drays := fun _ _ _ _ _ => rfl
@[simp] theorem setBw_supplies : ∀ s b i j v, (State.setBw s b i j v).supplies = s.supplies := fun _ _ _ _ _ => rfl
@[simp] theorem setBw_lastTrip : ∀ s b i j v, (State.setBw s b i j v).lastTrip = s.lastTrip := fun _ _ _ _ _ => rfl
@[simp] theorem setBw_safeCause : ∀ s b i j v, (State.setBw s b i j v).safeCause = s.safeCause := fun _ _ _ _ _ => rfl
@[simp] theorem setBw_axes : ∀ s b i j v, (State.setBw s b i j v).axes = s.axes := fun _ _ _ _ _ => rfl
@[simp] theorem setBw_ssis : ∀ s b i j v, (State.setBw s b i j v).ssis = s.ssis := fun _ _ _ _ _ => rfl
@[simp] theorem setBw_cmps : ∀ s b i j v, (State.setBw s b i j v).cmps = s.cmps := fun _ _ _ _ _ => rfl
@[simp] theorem setBw_cams : ∀ s b i j v, (State.setBw s b i j v).cams = s.cams := fun _ _ _ _ _ => rfl
@[simp] theorem setBw_health : ∀ s b i j v, (State.setBw s b i j v).health = s.health := fun _ _ _ _ _ => rfl
@[simp] theorem setBw_engines : ∀ s b i j v, (State.setBw s b i j v).engines = s.engines := fun _ _ _ _ _ => rfl
@[simp] theorem setBw_deflaters : ∀ s b i j v, (State.setBw s b i j v).deflaters = s.deflaters := fun _ _ _ _ _ => rfl
@[simp] theorem setBw_place : ∀ s b i j v, (State.setBw s b i j v).place = s.place := fun _ _ _ _ _ => rfl
@[simp] theorem setBw_deficit : ∀ s b i j v, (State.setBw s b i j v).deficit = s.deficit := fun _ _ _ _ _ => rfl
@[simp] theorem setBw_subch : ∀ s b i j v, (State.setBw s b i j v).subch = s.subch := fun _ _ _ _ _ => rfl
@[simp] theorem setBw_stripeGen : ∀ s b i j v, (State.setBw s b i j v).stripeGen = s.stripeGen := fun _ _ _ _ _ => rfl
@[simp] theorem setBw_sram : ∀ s b i j v, (State.setBw s b i j v).sram = s.sram := fun _ _ _ _ _ => rfl
@[simp] theorem setBw_pair : ∀ s b i j v, (State.setBw s b i j v).pair = s.pair := fun _ _ _ _ _ => rfl
@[simp] theorem setBw_sched : ∀ s b i j v, (State.setBw s b i j v).sched = s.sched := fun _ _ _ _ _ => rfl
@[simp] theorem setBw_boot : ∀ s b i j v, (State.setBw s b i j v).boot = s.boot := fun _ _ _ _ _ => rfl
@[simp] theorem setBw_power : ∀ s b i j v, (State.setBw s b i j v).power = s.power := fun _ _ _ _ _ => rfl
@[simp] theorem setBw_trim : ∀ s b i j v, (State.setBw s b i j v).trim = s.trim := fun _ _ _ _ _ => rfl
@[simp] theorem setBw_mram : ∀ s b i j v, (State.setBw s b i j v).mram = s.mram := fun _ _ _ _ _ => rfl
@[simp] theorem setBw_errLog : ∀ s b i j v, (State.setBw s b i j v).errLog = s.errLog := fun _ _ _ _ _ => rfl
@[simp] theorem setBw_logSeq : ∀ s b i j v, (State.setBw s b i j v).logSeq = s.logSeq := fun _ _ _ _ _ => rfl
@[simp] theorem setBw_missLog : ∀ s b i j v, (State.setBw s b i j v).missLog = s.missLog := fun _ _ _ _ _ => rfl
@[simp] theorem setBw_missNext : ∀ s b i j v, (State.setBw s b i j v).missNext = s.missNext := fun _ _ _ _ _ => rfl
@[simp] theorem setBw_webSlow : ∀ s b i j v, (State.setBw s b i j v).webSlow = s.webSlow := fun _ _ _ _ _ => rfl
@[simp] theorem setBw_test : ∀ s b i j v, (State.setBw s b i j v).test = s.test := fun _ _ _ _ _ => rfl
@[simp] theorem setBw_pins : ∀ s b i j v, (State.setBw s b i j v).pins = s.pins := fun _ _ _ _ _ => rfl

/-! ### setBit -/

@[simp] theorem setBit_now : ∀ s i j k v, (State.setBit s i j k v).now = s.now := fun _ _ _ _ _ => rfl
@[simp] theorem setBit_pending : ∀ s i j k v, (State.setBit s i j k v).pending = s.pending := fun _ _ _ _ _ => rfl
@[simp] theorem setBit_out : ∀ s i j k v, (State.setBit s i j k v).out = s.out := fun _ _ _ _ _ => rfl
@[simp] theorem setBit_freeCount : ∀ s i j k v, (State.setBit s i j k v).freeCount = s.freeCount := fun _ _ _ _ _ => rfl
@[simp] theorem setBit_devState : ∀ s i j k v, (State.setBit s i j k v).devState = s.devState := fun _ _ _ _ _ => rfl
@[simp] theorem setBit_printAt : ∀ s i j k v, (State.setBit s i j k v).printAt = s.printAt := fun _ _ _ _ _ => rfl
@[simp] theorem setBit_bars : ∀ s i j k v, (State.setBit s i j k v).bars = s.bars := fun _ _ _ _ _ => rfl
@[simp] theorem setBit_fns : ∀ s i j k v, (State.setBit s i j k v).fns = s.fns := fun _ _ _ _ _ => rfl
@[simp] theorem setBit_moa : ∀ s i j k v, (State.setBit s i j k v).moa = s.moa := fun _ _ _ _ _ => rfl
@[simp] theorem setBit_deqHead : ∀ s i j k v, (State.setBit s i j k v).deqHead = s.deqHead := fun _ _ _ _ _ => rfl
@[simp] theorem setBit_deqTail : ∀ s i j k v, (State.setBit s i j k v).deqTail = s.deqTail := fun _ _ _ _ _ => rfl
@[simp] theorem setBit_deqLost : ∀ s i j k v, (State.setBit s i j k v).deqLost = s.deqLost := fun _ _ _ _ _ => rfl
@[simp] theorem setBit_clock : ∀ s i j k v, (State.setBit s i j k v).clock = s.clock := fun _ _ _ _ _ => rfl
@[simp] theorem setBit_net : ∀ s i j k v, (State.setBit s i j k v).net = s.net := fun _ _ _ _ _ => rfl
@[simp] theorem setBit_encs : ∀ s i j k v, (State.setBit s i j k v).encs = s.encs := fun _ _ _ _ _ => rfl
@[simp] theorem setBit_trig : ∀ s i j k v, (State.setBit s i j k v).trig = s.trig := fun _ _ _ _ _ => rfl
@[simp] theorem setBit_marks : ∀ s i j k v, (State.setBit s i j k v).marks = s.marks := fun _ _ _ _ _ => rfl
@[simp] theorem setBit_ports : ∀ s i j k v, (State.setBit s i j k v).ports = s.ports := fun _ _ _ _ _ => rfl
@[simp] theorem setBit_drays : ∀ s i j k v, (State.setBit s i j k v).drays = s.drays := fun _ _ _ _ _ => rfl
@[simp] theorem setBit_supplies : ∀ s i j k v, (State.setBit s i j k v).supplies = s.supplies := fun _ _ _ _ _ => rfl
@[simp] theorem setBit_lastTrip : ∀ s i j k v, (State.setBit s i j k v).lastTrip = s.lastTrip := fun _ _ _ _ _ => rfl
@[simp] theorem setBit_safeCause : ∀ s i j k v, (State.setBit s i j k v).safeCause = s.safeCause := fun _ _ _ _ _ => rfl
@[simp] theorem setBit_axes : ∀ s i j k v, (State.setBit s i j k v).axes = s.axes := fun _ _ _ _ _ => rfl
@[simp] theorem setBit_ssis : ∀ s i j k v, (State.setBit s i j k v).ssis = s.ssis := fun _ _ _ _ _ => rfl
@[simp] theorem setBit_cmps : ∀ s i j k v, (State.setBit s i j k v).cmps = s.cmps := fun _ _ _ _ _ => rfl
@[simp] theorem setBit_cams : ∀ s i j k v, (State.setBit s i j k v).cams = s.cams := fun _ _ _ _ _ => rfl
@[simp] theorem setBit_health : ∀ s i j k v, (State.setBit s i j k v).health = s.health := fun _ _ _ _ _ => rfl
@[simp] theorem setBit_engines : ∀ s i j k v, (State.setBit s i j k v).engines = s.engines := fun _ _ _ _ _ => rfl
@[simp] theorem setBit_deflaters : ∀ s i j k v, (State.setBit s i j k v).deflaters = s.deflaters := fun _ _ _ _ _ => rfl
@[simp] theorem setBit_place : ∀ s i j k v, (State.setBit s i j k v).place = s.place := fun _ _ _ _ _ => rfl
@[simp] theorem setBit_deficit : ∀ s i j k v, (State.setBit s i j k v).deficit = s.deficit := fun _ _ _ _ _ => rfl
@[simp] theorem setBit_subch : ∀ s i j k v, (State.setBit s i j k v).subch = s.subch := fun _ _ _ _ _ => rfl
@[simp] theorem setBit_stripeGen : ∀ s i j k v, (State.setBit s i j k v).stripeGen = s.stripeGen := fun _ _ _ _ _ => rfl
@[simp] theorem setBit_sram : ∀ s i j k v, (State.setBit s i j k v).sram = s.sram := fun _ _ _ _ _ => rfl
@[simp] theorem setBit_pair : ∀ s i j k v, (State.setBit s i j k v).pair = s.pair := fun _ _ _ _ _ => rfl
@[simp] theorem setBit_sched : ∀ s i j k v, (State.setBit s i j k v).sched = s.sched := fun _ _ _ _ _ => rfl
@[simp] theorem setBit_boot : ∀ s i j k v, (State.setBit s i j k v).boot = s.boot := fun _ _ _ _ _ => rfl
@[simp] theorem setBit_power : ∀ s i j k v, (State.setBit s i j k v).power = s.power := fun _ _ _ _ _ => rfl
@[simp] theorem setBit_trim : ∀ s i j k v, (State.setBit s i j k v).trim = s.trim := fun _ _ _ _ _ => rfl
@[simp] theorem setBit_mram : ∀ s i j k v, (State.setBit s i j k v).mram = s.mram := fun _ _ _ _ _ => rfl
@[simp] theorem setBit_errLog : ∀ s i j k v, (State.setBit s i j k v).errLog = s.errLog := fun _ _ _ _ _ => rfl
@[simp] theorem setBit_logSeq : ∀ s i j k v, (State.setBit s i j k v).logSeq = s.logSeq := fun _ _ _ _ _ => rfl
@[simp] theorem setBit_missLog : ∀ s i j k v, (State.setBit s i j k v).missLog = s.missLog := fun _ _ _ _ _ => rfl
@[simp] theorem setBit_missNext : ∀ s i j k v, (State.setBit s i j k v).missNext = s.missNext := fun _ _ _ _ _ => rfl
@[simp] theorem setBit_webSlow : ∀ s i j k v, (State.setBit s i j k v).webSlow = s.webSlow := fun _ _ _ _ _ => rfl
@[simp] theorem setBit_test : ∀ s i j k v, (State.setBit s i j k v).test = s.test := fun _ _ _ _ _ => rfl
@[simp] theorem setBit_pins : ∀ s i j k v, (State.setBit s i j k v).pins = s.pins := fun _ _ _ _ _ => rfl

/-! ### A free value drawn -/

@[simp] theorem draw_now (s : State) : (State.draw s).2.now = s.now := rfl
@[simp] theorem draw_pending (s : State) : (State.draw s).2.pending = s.pending := rfl
@[simp] theorem draw_out (s : State) : (State.draw s).2.out = s.out := rfl
@[simp] theorem draw_devState (s : State) : (State.draw s).2.devState = s.devState := rfl
@[simp] theorem draw_printAt (s : State) : (State.draw s).2.printAt = s.printAt := rfl
@[simp] theorem draw_dev (s : State) : (State.draw s).2.dev = s.dev := rfl
@[simp] theorem draw_bars (s : State) : (State.draw s).2.bars = s.bars := rfl
@[simp] theorem draw_fns (s : State) : (State.draw s).2.fns = s.fns := rfl
@[simp] theorem draw_moa (s : State) : (State.draw s).2.moa = s.moa := rfl
@[simp] theorem draw_deqHead (s : State) : (State.draw s).2.deqHead = s.deqHead := rfl
@[simp] theorem draw_deqTail (s : State) : (State.draw s).2.deqTail = s.deqTail := rfl
@[simp] theorem draw_deqLost (s : State) : (State.draw s).2.deqLost = s.deqLost := rfl
@[simp] theorem draw_clock (s : State) : (State.draw s).2.clock = s.clock := rfl
@[simp] theorem draw_net (s : State) : (State.draw s).2.net = s.net := rfl
@[simp] theorem draw_encs (s : State) : (State.draw s).2.encs = s.encs := rfl
@[simp] theorem draw_trig (s : State) : (State.draw s).2.trig = s.trig := rfl
@[simp] theorem draw_marks (s : State) : (State.draw s).2.marks = s.marks := rfl
@[simp] theorem draw_ports (s : State) : (State.draw s).2.ports = s.ports := rfl
@[simp] theorem draw_drays (s : State) : (State.draw s).2.drays = s.drays := rfl
@[simp] theorem draw_supplies (s : State) : (State.draw s).2.supplies = s.supplies := rfl
@[simp] theorem draw_lastTrip (s : State) : (State.draw s).2.lastTrip = s.lastTrip := rfl
@[simp] theorem draw_safeCause (s : State) : (State.draw s).2.safeCause = s.safeCause := rfl
@[simp] theorem draw_axes (s : State) : (State.draw s).2.axes = s.axes := rfl
@[simp] theorem draw_ssis (s : State) : (State.draw s).2.ssis = s.ssis := rfl
@[simp] theorem draw_cmps (s : State) : (State.draw s).2.cmps = s.cmps := rfl
@[simp] theorem draw_cams (s : State) : (State.draw s).2.cams = s.cams := rfl
@[simp] theorem draw_health (s : State) : (State.draw s).2.health = s.health := rfl
@[simp] theorem draw_engines (s : State) : (State.draw s).2.engines = s.engines := rfl
@[simp] theorem draw_deflaters (s : State) : (State.draw s).2.deflaters = s.deflaters := rfl
@[simp] theorem draw_place (s : State) : (State.draw s).2.place = s.place := rfl
@[simp] theorem draw_deficit (s : State) : (State.draw s).2.deficit = s.deficit := rfl
@[simp] theorem draw_subch (s : State) : (State.draw s).2.subch = s.subch := rfl
@[simp] theorem draw_stripeGen (s : State) : (State.draw s).2.stripeGen = s.stripeGen := rfl
@[simp] theorem draw_sram (s : State) : (State.draw s).2.sram = s.sram := rfl
@[simp] theorem draw_pair (s : State) : (State.draw s).2.pair = s.pair := rfl
@[simp] theorem draw_sched (s : State) : (State.draw s).2.sched = s.sched := rfl
@[simp] theorem draw_boot (s : State) : (State.draw s).2.boot = s.boot := rfl
@[simp] theorem draw_power (s : State) : (State.draw s).2.power = s.power := rfl
@[simp] theorem draw_trim (s : State) : (State.draw s).2.trim = s.trim := rfl
@[simp] theorem draw_mram (s : State) : (State.draw s).2.mram = s.mram := rfl
@[simp] theorem draw_errLog (s : State) : (State.draw s).2.errLog = s.errLog := rfl
@[simp] theorem draw_logSeq (s : State) : (State.draw s).2.logSeq = s.logSeq := rfl
@[simp] theorem draw_missLog (s : State) : (State.draw s).2.missLog = s.missLog := rfl
@[simp] theorem draw_missNext (s : State) : (State.draw s).2.missNext = s.missNext := rfl
@[simp] theorem draw_webSlow (s : State) : (State.draw s).2.webSlow = s.webSlow := rfl
@[simp] theorem draw_test (s : State) : (State.draw s).2.test = s.test := rfl
@[simp] theorem draw_pins (s : State) : (State.draw s).2.pins = s.pins := rfl

/-! ### The frame of a command -/

/-- What a command answers: its effect at the instant it happens, the queue as it was. -/
@[simp] theorem run_eq (dt : Nat) (s : State) (f : State → State) :
    run dt s f = .next { f { s with now := s.now + dt } with now := s.now + dt, pending := s.pending } := rfl

end Sys2Proof.Machine
end

