-- ==== Sys2Proof/Laws/Maps.lean ====
section
/-!
SUPPORT. Sparse tables: what is read after a write, that writes keep the canonical form, and the same for the parts of State
that are read through them.
-/
namespace Sys2Proof

variable {α : Type}

/-- A read of the entry just written. -/
@[simp] theorem Map.get?_set_self (m : Map α) (k : Nat) (v : α) : (m.set k v).get? k = some v := by
  induction m with
  | nil => simp [Map.set, Map.get?]
  | cons p t ih =>
    obtain ⟨j, w⟩ := p
    unfold Map.set
    split
    · simp [Map.get?]
    · split
      · simp [Map.get?]
      · simp [Map.get?, *]

/-- A read of another entry. -/
theorem Map.get?_set_of_ne (m : Map α) {k j : Nat} (v : α) (h : j ≠ k) : (m.set k v).get? j = m.get? j := by
  induction m with
  | nil => simp [Map.set, Map.get?, h]
  | cons p t ih =>
    obtain ⟨i, w⟩ := p
    unfold Map.set
    split
    · simp [Map.get?, h]
    · split
      · subst_vars; simp [Map.get?, h]
      · simp [Map.get?, ih]

@[simp] theorem Map.getD_set_self (m : Map α) (k : Nat) (v d : α) : (m.set k v).getD k d = v := by
  simp [Map.getD]

theorem Map.getD_set_of_ne (m : Map α) {k j : Nat} (v d : α) (h : j ≠ k) : (m.set k v).getD j d = m.getD j d := by
  simp [Map.getD, Map.get?_set_of_ne _ _ h]

/-- A read after an update of one entry. -/
theorem Map.getD_set (m : Map α) (k j : Nat) (v d : α) : (m.set k v).getD j d = if j = k then v else m.getD j d := by
  split
  · subst_vars; simp
  · rename_i h; exact Map.getD_set_of_ne m v d h

/-- The second of two writes to one entry stands. -/
@[simp] theorem Map.set_set (m : Map α) (k : Nat) (v w : α) : (m.set k v).set k w = m.set k w := by
  induction m with
  | nil => simp [Map.set]
  | cons p t ih =>
    obtain ⟨j, u⟩ := p
    by_cases h1 : k < j
    · simp [Map.set, h1]
    · by_cases h2 : k = j
      · simp [Map.set, h2]
      · simp [Map.set, h1, h2, ih]

/-- A read of the entry removed. -/
@[simp] theorem Map.get?_erase_self (m : Map α) (k : Nat) : (m.erase k).get? k = none := by
  unfold Map.erase
  induction m with
  | nil => rfl
  | cons p t ih =>
    obtain ⟨j, u⟩ := p
    by_cases h : j = k
    · rw [List.filter_cons_of_neg (by simp [h])]; exact ih
    · rw [List.filter_cons_of_pos (by simp [h]), Map.get?, if_neg (Ne.symm h)]; exact ih

/-- A read of another entry. -/
theorem Map.get?_erase_of_ne (m : Map α) {k j : Nat} (h : j ≠ k) : (m.erase k).get? j = m.get? j := by
  unfold Map.erase
  induction m with
  | nil => rfl
  | cons p t ih =>
    obtain ⟨i, u⟩ := p
    by_cases h1 : i = k
    · subst h1; rw [List.filter_cons_of_neg (by simp), Map.get?, if_neg h]; exact ih
    · rw [List.filter_cons_of_pos (by simp [h1]), Map.get?, Map.get?, ih]

/-- A table of which every value changes. -/
theorem Map.get?_mapVals (m : Map α) (f : α → α) (k : Nat) : (m.mapVals f).get? k = (m.get? k).map f := by
  induction m with
  | nil => rfl
  | cons p t ih =>
    obtain ⟨j, u⟩ := p
    unfold Map.mapVals at ih ⊢
    simp only [List.map_cons, Map.get?]
    split
    · rfl
    · exact ih

theorem Map.above_set (m : Map α) (b k : Nat) (v : α) (h : b < k) (hm : Map.above b m = true) : Map.above b (m.set k v) = true := by
  induction m with
  | nil => simp [Map.set, Map.above, h]
  | cons p t ih =>
    obtain ⟨j, w⟩ := p
    simp only [Map.above, Bool.and_eq_true, decide_eq_true_eq] at hm
    unfold Map.set
    split
    · simp [Map.above, h, hm]
    · split
      · subst_vars; simp [Map.above, hm]
      · simp [Map.above, hm, ih hm.2]

theorem Map.above_of_lt {m : Map α} {a b : Nat} (h : a ≤ b) (hm : Map.above b m = true) : Map.above a m = true := by
  induction m with
  | nil => rfl
  | cons p t ih =>
    obtain ⟨j, w⟩ := p
    simp only [Map.above, Bool.and_eq_true, decide_eq_true_eq] at hm ⊢
    exact ⟨by omega, ih hm.2⟩

/-- A write keeps the keys strictly rising. -/
theorem Map.wf_set (m : Map α) (k : Nat) (v : α) (hm : Map.wf m = true) : Map.wf (m.set k v) = true := by
  induction m with
  | nil => rfl
  | cons p t ih =>
    obtain ⟨j, w⟩ := p
    simp only [Map.wf, Bool.and_eq_true] at hm
    unfold Map.set
    split
    · rename_i h; simp [Map.wf, Map.above, hm, h, Map.above_of_lt (Nat.le_of_lt h) hm.1]
    · split
      · simp [Map.wf, hm]; subst_vars; exact hm.1
      · rename_i h1 h2
        simp [Map.wf, ih hm.2, Map.above_set t j k v (by omega) hm.1]

end Sys2Proof

namespace Sys2Proof.Machine
open Sys2Proof

/-! ### Parts of State after an update of them -/

@[simp] theorem bar_modBar_self (s : State) (k : Nat) (f) : (s.modBar k f).bar k = f (s.bar k) := by
  simp [State.bar, State.modBar]
theorem bar_modBar_of_ne (s : State) {k j : Nat} (f) (h : j ≠ k) : (s.modBar k f).bar j = s.bar j := by
  simp [State.bar, State.modBar, Map.getD_set_of_ne _ _ _ h]
@[simp] theorem port_modPort_self (s : State) (k : Nat) (f) : (s.modPort k f).port k = f (s.port k) := by
  simp [State.port, State.modPort]
theorem port_modPort_of_ne (s : State) {k j : Nat} (f) (h : j ≠ k) : (s.modPort k f).port j = s.port j := by
  simp [State.port, State.modPort, Map.getD_set_of_ne _ _ _ h]
@[simp] theorem fn_modFn_self (s : State) (k : Nat) (f) : (s.modFn k f).fn k = f (s.fn k) := by
  simp [State.fn, State.modFn]
theorem fn_modFn_of_ne (s : State) {k j : Nat} (f) (h : j ≠ k) : (s.modFn k f).fn j = s.fn j := by
  simp [State.fn, State.modFn, Map.getD_set_of_ne _ _ _ h]
@[simp] theorem enc_modEnc_self (s : State) (k : Nat) (f) : (s.modEnc k f).enc k = f (s.enc k) := by
  simp [State.enc, State.modEnc]
theorem enc_modEnc_of_ne (s : State) {k j : Nat} (f) (h : j ≠ k) : (s.modEnc k f).enc j = s.enc j := by
  simp [State.enc, State.modEnc, Map.getD_set_of_ne _ _ _ h]
@[simp] theorem mark_modMark_self (s : State) (k : Nat) (f) : (s.modMark k f).mark k = f (s.mark k) := by
  simp [State.mark, State.modMark]
theorem mark_modMark_of_ne (s : State) {k j : Nat} (f) (h : j ≠ k) : (s.modMark k f).mark j = s.mark j := by
  simp [State.mark, State.modMark, Map.getD_set_of_ne _ _ _ h]
@[simp] theorem dray_modDray_self (s : State) (k : Nat) (f) : (s.modDray k f).dray k = f (s.dray k) := by
  simp [State.dray, State.modDray]
theorem dray_modDray_of_ne (s : State) {k j : Nat} (f) (h : j ≠ k) : (s.modDray k f).dray j = s.dray j := by
  simp [State.dray, State.modDray, Map.getD_set_of_ne _ _ _ h]
@[simp] theorem supply_modSupply_self (s : State) (k : Nat) (f) : (s.modSupply k f).supply k = f (s.supply k) := by
  simp [State.supply, State.modSupply]
theorem supply_modSupply_of_ne (s : State) {k j : Nat} (f) (h : j ≠ k) : (s.modSupply k f).supply j = s.supply j := by
  simp [State.supply, State.modSupply, Map.getD_set_of_ne _ _ _ h]
@[simp] theorem axis_modAxis_self (s : State) (k : Nat) (f) : (s.modAxis k f).axis k = f (s.axis k) := by
  simp [State.axis, State.modAxis]
theorem axis_modAxis_of_ne (s : State) {k j : Nat} (f) (h : j ≠ k) : (s.modAxis k f).axis j = s.axis j := by
  simp [State.axis, State.modAxis, Map.getD_set_of_ne _ _ _ h]
@[simp] theorem ssi_modSsi_self (s : State) (k : Nat) (f) : (s.modSsi k f).ssi k = f (s.ssi k) := by
  simp [State.ssi, State.modSsi]
theorem ssi_modSsi_of_ne (s : State) {k j : Nat} (f) (h : j ≠ k) : (s.modSsi k f).ssi j = s.ssi j := by
  simp [State.ssi, State.modSsi, Map.getD_set_of_ne _ _ _ h]
@[simp] theorem cmp_modCmp_self (s : State) (k : Nat) (f) : (s.modCmp k f).cmp k = f (s.cmp k) := by
  simp [State.cmp, State.modCmp]
theorem cmp_modCmp_of_ne (s : State) {k j : Nat} (f) (h : j ≠ k) : (s.modCmp k f).cmp j = s.cmp j := by
  simp [State.cmp, State.modCmp, Map.getD_set_of_ne _ _ _ h]
@[simp] theorem cam_modCam_self (s : State) (k : Nat) (f) : (s.modCam k f).cam k = f (s.cam k) := by
  simp [State.cam, State.modCam]
theorem cam_modCam_of_ne (s : State) {k j : Nat} (f) (h : j ≠ k) : (s.modCam k f).cam j = s.cam j := by
  simp [State.cam, State.modCam, Map.getD_set_of_ne _ _ _ h]
@[simp] theorem engine_modEngine_self (s : State) (k : Nat) (f) : (s.modEngine k f).engine k = f (s.engine k) := by
  simp [State.engine, State.modEngine]
theorem engine_modEngine_of_ne (s : State) {k j : Nat} (f) (h : j ≠ k) : (s.modEngine k f).engine j = s.engine j := by
  simp [State.engine, State.modEngine, Map.getD_set_of_ne _ _ _ h]
@[simp] theorem sch_modSch_self (s : State) (k : Nat) (f) : (s.modSch k f).sch k = f (s.sch k) := by
  simp [State.sch, State.modSch]
theorem sch_modSch_of_ne (s : State) {k j : Nat} (f) (h : j ≠ k) : (s.modSch k f).sch j = s.sch j := by
  simp [State.sch, State.modSch, Map.getD_set_of_ne _ _ _ h]
@[simp] theorem thread_modThread_self (s : State) (k : Nat) (f) : (s.modThread k f).thread k = f (s.thread k) := by
  simp [State.thread, State.modThread]
theorem thread_modThread_of_ne (s : State) {k j : Nat} (f) (h : j ≠ k) : (s.modThread k f).thread j = s.thread j := by
  simp [State.thread, State.modThread, Map.getD_set_of_ne _ _ _ h]
@[simp] theorem flow_modFlow_self (s : State) (k : Nat) (f) : (s.modFlow k f).flow k = f (s.flow k) := by
  simp [State.flow, State.modFlow]
theorem flow_modFlow_of_ne (s : State) {k j : Nat} (f) (h : j ≠ k) : (s.modFlow k f).flow j = s.flow j := by
  simp [State.flow, State.modFlow, Map.getD_set_of_ne _ _ _ h]
@[simp] theorem core_modCore_self (s : State) (k : Nat) (f) : (s.modCore k f).core k = f (s.core k) := by
  simp [State.core, State.modCore]
theorem core_modCore_of_ne (s : State) {k j : Nat} (f) (h : j ≠ k) : (s.modCore k f).core j = s.core j := by
  simp [State.core, State.modCore, Map.getD_set_of_ne _ _ _ h]
@[simp] theorem fum_modFum_self (s : State) (k : Nat) (f) : (s.modFum k f).fum k = f (s.fum k) := by
  simp [State.fum, State.modFum]
theorem fum_modFum_of_ne (s : State) {k j : Nat} (f) (h : j ≠ k) : (s.modFum k f).fum j = s.fum j := by
  simp [State.fum, State.modFum, Map.getD_set_of_ne _ _ _ h]

/-! ### Plain objects -/

/-- The slot just written, as it reads. -/
theorem modBar_modBar (s : State) (k : Nat) (f g) : (s.modBar k f).modBar k g = s.modBar k (fun x => g (f x)) :=
  congrArg (fun m => ({ s with bars := m } : State)) (show (s.bars.set k (f (s.bar k))).set k (g ((s.modBar k f).bar k)) = _ by
    rw [bar_modBar_self, Map.set_set])
theorem modPort_modPort (s : State) (k : Nat) (f g) : (s.modPort k f).modPort k g = s.modPort k (fun x => g (f x)) :=
  congrArg (fun m => ({ s with ports := m } : State)) (show (s.ports.set k (f (s.port k))).set k (g ((s.modPort k f).port k)) = _ by
    rw [port_modPort_self, Map.set_set])
theorem modFn_modFn (s : State) (k : Nat) (f g) : (s.modFn k f).modFn k g = s.modFn k (fun x => g (f x)) :=
  congrArg (fun m => ({ s with fns := m } : State)) (show (s.fns.set k (f (s.fn k))).set k (g ((s.modFn k f).fn k)) = _ by
    rw [fn_modFn_self, Map.set_set])
theorem modEnc_modEnc (s : State) (k : Nat) (f g) : (s.modEnc k f).modEnc k g = s.modEnc k (fun x => g (f x)) :=
  congrArg (fun m => ({ s with encs := m } : State)) (show (s.encs.set k (f (s.enc k))).set k (g ((s.modEnc k f).enc k)) = _ by
    rw [enc_modEnc_self, Map.set_set])
theorem modMark_modMark (s : State) (k : Nat) (f g) : (s.modMark k f).modMark k g = s.modMark k (fun x => g (f x)) :=
  congrArg (fun m => ({ s with marks := m } : State)) (show (s.marks.set k (f (s.mark k))).set k (g ((s.modMark k f).mark k)) = _ by
    rw [mark_modMark_self, Map.set_set])
theorem modDray_modDray (s : State) (k : Nat) (f g) : (s.modDray k f).modDray k g = s.modDray k (fun x => g (f x)) :=
  congrArg (fun m => ({ s with drays := m } : State)) (show (s.drays.set k (f (s.dray k))).set k (g ((s.modDray k f).dray k)) = _ by
    rw [dray_modDray_self, Map.set_set])
theorem modSupply_modSupply (s : State) (k : Nat) (f g) : (s.modSupply k f).modSupply k g = s.modSupply k (fun x => g (f x)) :=
  congrArg (fun m => ({ s with supplies := m } : State)) (show (s.supplies.set k (f (s.supply k))).set k (g ((s.modSupply k f).supply k)) = _ by
    rw [supply_modSupply_self, Map.set_set])
theorem modAxis_modAxis (s : State) (k : Nat) (f g) : (s.modAxis k f).modAxis k g = s.modAxis k (fun x => g (f x)) :=
  congrArg (fun m => ({ s with axes := m } : State)) (show (s.axes.set k (f (s.axis k))).set k (g ((s.modAxis k f).axis k)) = _ by
    rw [axis_modAxis_self, Map.set_set])
theorem modSsi_modSsi (s : State) (k : Nat) (f g) : (s.modSsi k f).modSsi k g = s.modSsi k (fun x => g (f x)) :=
  congrArg (fun m => ({ s with ssis := m } : State)) (show (s.ssis.set k (f (s.ssi k))).set k (g ((s.modSsi k f).ssi k)) = _ by
    rw [ssi_modSsi_self, Map.set_set])
theorem modCmp_modCmp (s : State) (k : Nat) (f g) : (s.modCmp k f).modCmp k g = s.modCmp k (fun x => g (f x)) :=
  congrArg (fun m => ({ s with cmps := m } : State)) (show (s.cmps.set k (f (s.cmp k))).set k (g ((s.modCmp k f).cmp k)) = _ by
    rw [cmp_modCmp_self, Map.set_set])
theorem modCam_modCam (s : State) (k : Nat) (f g) : (s.modCam k f).modCam k g = s.modCam k (fun x => g (f x)) :=
  congrArg (fun m => ({ s with cams := m } : State)) (show (s.cams.set k (f (s.cam k))).set k (g ((s.modCam k f).cam k)) = _ by
    rw [cam_modCam_self, Map.set_set])
theorem modEngine_modEngine (s : State) (k : Nat) (f g) : (s.modEngine k f).modEngine k g = s.modEngine k (fun x => g (f x)) :=
  congrArg (fun m => ({ s with engines := m } : State)) (show (s.engines.set k (f (s.engine k))).set k (g ((s.modEngine k f).engine k)) = _ by
    rw [engine_modEngine_self, Map.set_set])
theorem modSch_modSch (s : State) (k : Nat) (f g) : (s.modSch k f).modSch k g = s.modSch k (fun x => g (f x)) :=
  congrArg (fun m => ({ s with subch := m } : State)) (show (s.subch.set k (f (s.sch k))).set k (g ((s.modSch k f).sch k)) = _ by
    rw [sch_modSch_self, Map.set_set])
theorem modThread_modThread (s : State) (k : Nat) (f g) : (s.modThread k f).modThread k g = s.modThread k (fun x => g (f x)) :=
  congrArg (fun m => ({ s with sched := { s.sched with threads := m } } : State)) (show (s.sched.threads.set k (f (s.thread k))).set k (g ((s.modThread k f).thread k)) = _ by
    rw [thread_modThread_self, Map.set_set])
theorem modFlow_modFlow (s : State) (k : Nat) (f g) : (s.modFlow k f).modFlow k g = s.modFlow k (fun x => g (f x)) :=
  congrArg (fun m => ({ s with sched := { s.sched with flows := m } } : State)) (show (s.sched.flows.set k (f (s.flow k))).set k (g ((s.modFlow k f).flow k)) = _ by
    rw [flow_modFlow_self, Map.set_set])
theorem modCore_modCore (s : State) (k : Nat) (f g) : (s.modCore k f).modCore k g = s.modCore k (fun x => g (f x)) :=
  congrArg (fun m => ({ s with sched := { s.sched with cores := m } } : State)) (show (s.sched.cores.set k (f (s.core k))).set k (g ((s.modCore k f).core k)) = _ by
    rw [core_modCore_self, Map.set_set])
theorem modFum_modFum (s : State) (k : Nat) (f g) : (s.modFum k f).modFum k g = s.modFum k (fun x => g (f x)) :=
  congrArg (fun m => ({ s with power := { s.power with fums := m } } : State)) (show (s.power.fums.set k (f (s.fum k))).set k (g ((s.modFum k f).fum k)) = _ by
    rw [fum_modFum_self, Map.set_set])

@[simp] theorem dv_setDv_self (s : State) (i j v : Nat) : (s.setDv i j v).dv i j = v % 2 ^ 64 := by
  simp [State.dv, State.setDv, slotIn]

theorem dv_setDv_of_ne (s : State) (i j v i' j' : Nat) (h : okey i' j' ≠ okey i j) : (s.setDv i j v).dv i' j' = s.dv i' j' := by
  simp [State.dv, State.setDv, slotIn, Map.get?_set_of_ne _ _ h]

/-- A slot value is below 2^64. -/
theorem dv_lt (s : State) (i j : Nat) (h : defaultNat i j < 2 ^ 64) : s.dv i j < 2 ^ 64 := by
  unfold State.dv slotIn
  split
  · exact BitVec.isLt _
  · exact h

@[simp] theorem bo_setBo_self (s : State) (b i j v : Nat) : (s.setBo b i j v).bo b i j = v % 2 ^ 64 := by
  simp [State.bo, State.setBo, slotIn]

/-! ### Loops -/

/-- What every turn keeps, the loop keeps. -/
theorem forAll_keeps {α β : Type} (g : State → β) (xs : List α) (f : α → State → State) (s : State)
    (h : ∀ x t, g (f x t) = g t) : g (forAll xs f s) = g s := by
  unfold forAll
  induction xs generalizing s with
  | nil => rfl
  | cons x xs ih => simp only [List.foldl_cons]; rw [ih, h]

/-- What every turn of a fold keeps, the fold keeps. -/
theorem foldl_keeps {α β γ : Type} (g : γ → β) (xs : List α) (f : γ → α → γ) (a : γ) (h : ∀ a x, g (f a x) = g a) :
    g (xs.foldl f a) = g a := by
  induction xs generalizing a with
  | nil => rfl
  | cons x xs ih => simp only [List.foldl_cons]; rw [ih, h]

/-- What every turn preserves, the loop preserves. -/
theorem forAll_induct {α : Type} (P : State → Prop) (xs : List α) (f : α → State → State) (s : State)
    (h : ∀ x t, P t → P (f x t)) (hs : P s) : P (forAll xs f s) := by
  unfold forAll
  induction xs generalizing s with
  | nil => exact hs
  | cons x xs ih => exact ih _ (h _ _ hs)

theorem forAll_nil {α : Type} (f : α → State → State) (s : State) : forAll [] f s = s := rfl
theorem forAll_cons {α : Type} (x : α) (xs : List α) (f : α → State → State) (s : State) :
    forAll (x :: xs) f s = forAll xs f (f x s) := rfl

end Sys2Proof.Machine
end

