-- ==== Sys2Proof/Laws/Quiet.lean ====
section
/-!
SUPPORT. The operations that touch nothing but what events touch (R53 to R55, R64, R65, R298): outputs, plain objects, bars, functions,
sessions, the device event queue and the scheduler. For each of them one lemma: all else of State is left as it was.
-/
set_option linter.unusedSimpArgs false
set_option linter.unusedVariables false
namespace Sys2Proof.Machine
open Sys2Proof

@[simp] theorem quiet_out (s : State) (v) : State.quiet { s with out := v } = s.quiet := rfl
@[simp] theorem quiet_dev (s : State) (v) : State.quiet { s with dev := v } = s.quiet := rfl
@[simp] theorem quiet_bars (s : State) (v) : State.quiet { s with bars := v } = s.quiet := rfl
@[simp] theorem quiet_fns (s : State) (v) : State.quiet { s with fns := v } = s.quiet := rfl
@[simp] theorem quiet_moa (s : State) (v) : State.quiet { s with moa := v } = s.quiet := rfl
@[simp] theorem quiet_deqTail (s : State) (v) : State.quiet { s with deqTail := v } = s.quiet := rfl
@[simp] theorem quiet_deqLost (s : State) (v) : State.quiet { s with deqLost := v } = s.quiet := rfl
@[simp] theorem quiet_sched (s : State) (v) : State.quiet { s with sched := v } = s.quiet := rfl
@[simp] theorem forAll_quiet {α : Type} (xs : List α) (f : α → State → State) (s : State)
    (h : ∀ x t, (f x t).quiet = t.quiet) : (forAll xs f s).quiet = s.quiet := forAll_keeps State.quiet xs f s h

@[simp] theorem State_modBar_quiet : ∀ s x1 x2, (State.modBar s x1 x2).quiet = s.quiet := by intros; unfold State.modBar; simp
@[simp] theorem State_modFn_quiet : ∀ s x1 x2, (State.modFn s x1 x2).quiet = s.quiet := by intros; unfold State.modFn; simp
@[simp] theorem State_modThread_quiet : ∀ s x1 x2, (State.modThread s x1 x2).quiet = s.quiet := by intros; unfold State.modThread; simp
@[simp] theorem State_modFlow_quiet : ∀ s x1 x2, (State.modFlow s x1 x2).quiet = s.quiet := by intros; unfold State.modFlow; simp
@[simp] theorem State_modCore_quiet : ∀ s x1 x2, (State.modCore s x1 x2).quiet = s.quiet := by intros; unfold State.modCore; simp
@[simp] theorem State_modMoa_quiet : ∀ s x1, (State.modMoa s x1).quiet = s.quiet := by intros; unfold State.modMoa; simp
@[simp] theorem State_modSched_quiet : ∀ s x1, (State.modSched s x1).quiet = s.quiet := by intros; unfold State.modSched; simp
@[simp] theorem State_modIntake_quiet : ∀ s x1 x2, (State.modIntake s x1 x2).quiet = s.quiet := by intros; unfold State.modIntake; simp
@[simp] theorem State_modScan_quiet : ∀ s x1 x2, (State.modScan s x1 x2).quiet = s.quiet := by intros; unfold State.modScan; simp
@[simp] theorem State_emit_quiet : ∀ s x1, (State.emit s x1).quiet = s.quiet := by intros; unfold State.emit; simp
@[simp] theorem State_setDv_quiet : ∀ s x1 x2 x3, (State.setDv s x1 x2 x3).quiet = s.quiet := by intros; unfold State.setDv; simp
@[simp] theorem State_setDvi_quiet : ∀ s x1 x2 x3, (State.setDvi s x1 x2 x3).quiet = s.quiet := by intros; unfold State.setDvi; simp
@[simp] theorem State_setBo_quiet : ∀ s x1 x2 x3 x4, (State.setBo s x1 x2 x3 x4).quiet = s.quiet := by intros; unfold State.setBo; simp
@[simp] theorem State_setBoi_quiet : ∀ s x1 x2 x3 x4, (State.setBoi s x1 x2 x3 x4).quiet = s.quiet := by intros; unfold State.setBoi; simp
@[simp] theorem State_bumpN_quiet : ∀ s x1 x2 x3, (State.bumpN s x1 x2 x3).quiet = s.quiet := by intros; unfold State.bumpN; simp
@[simp] theorem State_bump_quiet : ∀ s x1 x2, (State.bump s x1 x2).quiet = s.quiet := by intros; unfold State.bump; simp
@[simp] theorem State_bumpBN_quiet : ∀ s x1 x2 x3 x4, (State.bumpBN s x1 x2 x3 x4).quiet = s.quiet := by intros; unfold State.bumpBN; simp
@[simp] theorem State_bumpB_quiet : ∀ s x1 x2 x3, (State.bumpB s x1 x2 x3).quiet = s.quiet := by intros; unfold State.bumpB; simp
@[simp] theorem State_count64_quiet : ∀ s x1 x2 x3, (State.count64 s x1 x2 x3).quiet = s.quiet := by intros; unfold State.count64; simp
@[simp] theorem State_countB64_quiet : ∀ s x1 x2 x3 x4, (State.countB64 s x1 x2 x3 x4).quiet = s.quiet := by intros; unfold State.countB64; simp
@[simp] theorem State_setBit_quiet : ∀ s x1 x2 x3 x4, (State.setBit s x1 x2 x3 x4).quiet = s.quiet := by intros; unfold State.setBit; simp
@[simp] theorem State_setDw_quiet : ∀ s x1 x2 x3, (State.setDw s x1 x2 x3).quiet = s.quiet := by intros; unfold State.setDw; simp
@[simp] theorem State_setBw_quiet : ∀ s x1 x2 x3 x4, (State.setBw s x1 x2 x3 x4).quiet = s.quiet := by intros; unfold State.setBw; simp
@[simp] theorem signal_quiet : ∀ x0 x1 s, (signal x0 x1 s).quiet = s.quiet := by
  intros; unfold signal; try dsimp only
  repeat' first | with_reducible rfl | (simp; done) | split | refine Eq.trans (forAll_quiet _ _ _ fun _ _ => ?_) ?_ |
    (simp only [onBar, onDev, andThen, valueOk, checked, rated, holderOnly, forwarded]; try dsimp only) | (simp; intros)
@[simp] theorem eqWrite_quiet : ∀ x0 x1 x2 s, (eqWrite x0 x1 x2 s).quiet = s.quiet := by intros; unfold eqWrite; simp
@[simp] theorem eqFlush_quiet : ∀ x0 s, (eqFlush x0 s).quiet = s.quiet := by
  intros; unfold eqFlush; try dsimp only
  repeat' first | with_reducible rfl | (simp; done) | split | refine Eq.trans (forAll_quiet _ _ _ fun _ _ => ?_) ?_ |
    (simp only [onBar, onDev, andThen, valueOk, checked, rated, holderOnly, forwarded]; try dsimp only) | (simp; intros)
@[simp] theorem eqPush_quiet : ∀ x0 x1 x2 s, (eqPush x0 x1 x2 s).quiet = s.quiet := by
  intros; unfold eqPush; try dsimp only
  repeat' first | with_reducible rfl | (simp; done) | split | refine Eq.trans (forAll_quiet _ _ _ fun _ _ => ?_) ?_ |
    (simp only [onBar, onDev, andThen, valueOk, checked, rated, holderOnly, forwarded]; try dsimp only) | (simp; intros)
@[simp] theorem deqWrite_quiet : ∀ x0 x1 s, (deqWrite x0 x1 s).quiet = s.quiet := by
  intros; unfold deqWrite; simp; rfl
@[simp] theorem deqFlush_quiet : ∀ s, (deqFlush s).quiet = s.quiet := by
  intros; unfold deqFlush; repeat' first | with_reducible rfl | (simp; done) | split
@[simp] theorem deqPush_quiet : ∀ x0 x1 s, (deqPush x0 x1 s).quiet = s.quiet := by
  intro x0 x1 s; unfold deqPush; dsimp only
  split
  · simp
  · exact deqFlush_quiet s
@[simp] theorem moaSend_quiet : ∀ x0 x1 x2 x3 x4 x5 x6 s, (moaSend x0 x1 x2 x3 x4 x5 x6 s).quiet = s.quiet := by intros; unfold moaSend; simp
@[simp] theorem State_modSession_quiet : ∀ s x1 x2, (State.modSession s x1 x2).quiet = s.quiet := by
  intros; unfold State.modSession; repeat' first | with_reducible rfl | (simp; done) | split
@[simp] theorem moaEventSend_quiet : ∀ x0 x1 x2 s, (moaEventSend x0 x1 x2 s).quiet = s.quiet := by intros; unfold moaEventSend; simp
@[simp] theorem moaEvent_quiet : ∀ x0 x1 s, (moaEvent x0 x1 s).quiet = s.quiet := by
  intros; unfold moaEvent; repeat' first | with_reducible rfl | (simp; done) | split
@[simp] theorem deliverAll_quiet : ∀ x0 s, (deliverAll x0 s).quiet = s.quiet := by
  intro e s; unfold deliverAll; dsimp only
  have h : ∀ (t : State) xs, (forAll xs (fun (p : Nat × Session) u =>
      if sessionTakes p.2 e then moaEvent p.1 (sessionRecord t.time p.2 e) u else u) s).quiet = s.quiet := by
    intro t xs
    refine forAll_quiet _ _ _ fun _ _ => ?_
    split <;> simp
  cases hb : e.bar with
  | none => simp only [deqPush_quiet]; exact h _ _
  | some b => dsimp only; split <;> simp only [deqPush_quiet, eqPush_quiet] <;> exact h _ _
@[simp] theorem deliver_quiet : ∀ x0 s, (deliver x0 s).quiet = s.quiet := by
  intros; unfold deliver; repeat' first | with_reducible rfl | (simp; done) | split
@[simp] theorem chargeCore_quiet : ∀ x0 s, (chargeCore x0 s).quiet = s.quiet := by
  intros; unfold chargeCore; try dsimp only
  repeat' first | with_reducible rfl | (simp; done) | split | refine Eq.trans (forAll_quiet _ _ _ fun _ _ => ?_) ?_ |
    (simp only [onBar, onDev, andThen, valueOk, checked, rated, holderOnly, forwarded]; try dsimp only) | (simp; intros)
@[simp] theorem chargeAll_quiet : ∀ s, (chargeAll s).quiet = s.quiet := by intros; unfold chargeAll; simp
@[simp] theorem leaveCore_quiet : ∀ x0 s, (leaveCore x0 s).quiet = s.quiet := by
  intros; unfold leaveCore; try dsimp only
  repeat' first | with_reducible rfl | (simp; done) | split | refine Eq.trans (forAll_quiet _ _ _ fun _ _ => ?_) ?_ |
    (simp only [onBar, onDev, andThen, valueOk, checked, rated, holderOnly, forwarded]; try dsimp only) | (simp; intros)
@[simp] theorem runOn_quiet : ∀ x0 x1 s, (runOn x0 x1 s).quiet = s.quiet := by
  intro c t s; unfold runOn; dsimp only
  simp only [State_modThread_quiet, State_modCore_quiet]
  refine forAll_quiet _ _ _ fun _ _ => ?_
  split <;> simp
@[simp] theorem dispatch_quiet : ∀ s, (dispatch s).quiet = s.quiet := by
  intros; unfold dispatch; try dsimp only
  repeat' first | with_reducible rfl | (simp; done) | split | refine Eq.trans (forAll_quiet _ _ _ fun _ _ => ?_) ?_ |
    (simp only [onBar, onDev, andThen, valueOk, checked, rated, holderOnly, forwarded]; try dsimp only) | (simp; intros)
@[simp] theorem preempt_quiet : ∀ x0 s, (preempt x0 s).2.quiet = s.quiet := by
  intros; unfold preempt; try dsimp only
  repeat' first | with_reducible rfl | (simp; done) | split | refine Eq.trans (forAll_quiet _ _ _ fun _ _ => ?_) ?_ |
    (simp only [onBar, onDev, andThen, valueOk, checked, rated, holderOnly, forwarded]; try dsimp only) | (simp; intros)
@[simp] theorem makeReady_quiet : ∀ x0 s, (makeReady x0 s).quiet = s.quiet := by
  intros; unfold makeReady; try dsimp only
  repeat' first | with_reducible rfl | (simp; done) | split | refine Eq.trans (forAll_quiet _ _ _ fun _ _ => ?_) ?_ |
    (simp only [onBar, onDev, andThen, valueOk, checked, rated, holderOnly, forwarded]; try dsimp only) | (simp; intros)
@[simp] theorem setFlag_quiet : ∀ x0 x1 s, (setFlag x0 x1 s).quiet = s.quiet := by
  intros; unfold setFlag; try dsimp only
  repeat' first | with_reducible rfl | (simp; done) | split | refine Eq.trans (forAll_quiet _ _ _ fun _ _ => ?_) ?_ |
    (simp only [onBar, onDev, andThen, valueOk, checked, rated, holderOnly, forwarded]; try dsimp only) | (simp; intros)
@[simp] theorem postFlag_quiet : ∀ x0 x1 s, (postFlag x0 x1 s).quiet = s.quiet := by
  intros; unfold postFlag; repeat' first | with_reducible rfl | (simp; done) | split
@[simp] theorem raiseQuiet_quiet : ∀ x0 s, (raiseQuiet x0 s).quiet = s.quiet := by
  intros; unfold raiseQuiet; try dsimp only
  repeat' first | with_reducible rfl | (simp; done) | split | refine Eq.trans (forAll_quiet _ _ _ fun _ _ => ?_) ?_ |
    (simp only [onBar, onDev, andThen, valueOk, checked, rated, holderOnly, forwarded]; try dsimp only) | (simp; intros)
@[simp] theorem judgeWait_quiet : ∀ x0 s, (judgeWait x0 s).quiet = s.quiet := by
  intro n
  induction n with
  | zero => intro s; rfl
  | succ n ih => intro s; unfold judgeWait; dsimp only; split <;> simp [ih]
@[simp] theorem raiseSource_quiet : ∀ x0 s, (raiseSource x0 s).quiet = s.quiet := by intros; unfold raiseSource; simp
@[simp] theorem post_quiet : ∀ x0 s, (post x0 s).quiet = s.quiet := by intros; unfold post; simp
@[simp] theorem postD_quiet : ∀ x0 x1 x2 s, (postD x0 x1 x2 s).quiet = s.quiet := by intros; unfold postD; simp
@[simp] theorem postB_quiet : ∀ x0 x1 x2 x3 x4 s, (postB x0 x1 x2 x3 x4 s).quiet = s.quiet := by intros; unfold postB; simp
@[simp] theorem pairSend_quiet : ∀ x0 s, (pairSend x0 s).quiet = s.quiet := by
  intros; unfold pairSend; repeat' first | with_reducible rfl | (simp; done) | split
@[simp] theorem mirror_quiet : ∀ x0 s, (mirror x0 s).quiet = s.quiet := by
  intros; unfold mirror; repeat' first | with_reducible rfl | (simp; done) | split
@[simp] theorem State_modPage_quiet : ∀ s x1 x2 x3, (State.modPage s x1 x2 x3).quiet = s.quiet := by
  intros; unfold State.modPage; repeat' first | with_reducible rfl | (simp; done) | split
@[simp] theorem State_flagPage_quiet : ∀ s x1 x2 x3, (State.flagPage s x1 x2 x3).quiet = s.quiet := by intros; unfold State.flagPage; simp
@[simp] theorem flagNext_quiet : ∀ x0 x1 s, (flagNext x0 x1 s).quiet = s.quiet := by
  intros; unfold flagNext; repeat' first | with_reducible rfl | (simp; done) | split
@[simp] theorem evictPage_quiet : ∀ x0 x1 s, (evictPage x0 x1 s).quiet = s.quiet := by
  intros; unfold evictPage; try dsimp only
  repeat' first | with_reducible rfl | (simp; done) | split | refine Eq.trans (forAll_quiet _ _ _ fun _ _ => ?_) ?_ |
    (simp only [onBar, onDev, andThen, valueOk, checked, rated, holderOnly, forwarded]; try dsimp only) | (simp; intros)
@[simp] theorem postPaused_quiet : ∀ x0 x1 x2 s, (postPaused x0 x1 x2 s).quiet = s.quiet := by intros; unfold postPaused; simp
@[simp] theorem makeRoom_quiet : ∀ x0 x1 x2 s, (makeRoom x0 x1 x2 s).quiet = s.quiet := by
  intro x0 x1 n
  induction n with
  | zero => intro s; rfl
  | succ n ih => intro s; unfold makeRoom; try dsimp only
                 repeat' first | with_reducible rfl | (simp [ih]; done) | split
@[simp] theorem retryRoom_quiet : ∀ x0 s, (retryRoom x0 s).quiet = s.quiet := by
  intros; unfold retryRoom; repeat' first | with_reducible rfl | (simp; done) | split
@[simp] theorem evictToQuota_quiet : ∀ x0 x1 s, (evictToQuota x0 x1 s).quiet = s.quiet := by
  intro x0 n
  induction n with
  | zero => intro s; rfl
  | succ n ih => intro s; unfold evictToQuota; repeat' first | with_reducible rfl | (simp [ih]; done) | split
@[simp] theorem applyQuota_quiet : ∀ x0 s, (applyQuota x0 s).quiet = s.quiet := by
  intros; unfold applyQuota; try dsimp only
  repeat' first | with_reducible rfl | (simp; done) | split | refine Eq.trans (forAll_quiet _ _ _ fun _ _ => ?_) ?_ |
    (simp only [onBar, onDev, andThen, valueOk, checked, rated, holderOnly, forwarded]; try dsimp only) | (simp; intros)
@[simp] theorem retainPrinted_quiet : ∀ x0 x1 s, (retainPrinted x0 x1 s).quiet = s.quiet := by
  intros; unfold retainPrinted; repeat' first | with_reducible rfl | (simp; done) | split
@[simp] theorem closeIfDone_quiet : ∀ x0 x1 s, (closeIfDone x0 x1 s).quiet = s.quiet := by
  intros; unfold closeIfDone; repeat' first | with_reducible rfl | (simp; done) | split
@[simp] theorem rectIncomplete_quiet : ∀ x0 x1 x2 s, (rectIncomplete x0 x1 x2 s).quiet = s.quiet := by
  intros; unfold rectIncomplete; repeat' first | with_reducible rfl | (simp; done) | split
@[simp] theorem rectsUnknown_quiet : ∀ x0 x1 x2 x3 x4 x5 s, (rectsUnknown x0 x1 x2 x3 x4 x5 s).quiet = s.quiet := by
  intros; unfold rectsUnknown; try dsimp only
  repeat' first | with_reducible rfl | (simp; done) | split | refine Eq.trans (forAll_quiet _ _ _ fun _ _ => ?_) ?_ |
    (simp only [onBar, onDev, andThen, valueOk, checked, rated, holderOnly, forwarded]; try dsimp only) | (simp; intros)
@[simp] theorem quotaAfterLoss_quiet : ∀ x0 x1 s, (quotaAfterLoss x0 x1 s).quiet = s.quiet := by
  intro b stored s; unfold quotaAfterLoss; split
  · exact applyQuota_quiet b s
  · with_reducible rfl
@[simp] theorem postSpan_quiet : ∀ x0 x1 x2 x3 x4 x5 s, (postSpan x0 x1 x2 x3 x4 x5 s).quiet = s.quiet := by intros; unfold postSpan; simp
@[simp] theorem wagonFail_quiet : ∀ x0 x1 x2 x3 s, (wagonFail x0 x1 x2 x3 s).quiet = s.quiet := by
  intro b n w code s; unfold wagonFail; dsimp only
  rw [closeIfDone_quiet, quotaAfterLoss_quiet]
  generalize (unitLocal code && !alone s) = held
  generalize failLine w code = line
  cases held
  · by_cases h : code = 0x30 <;> simp [h]
  · by_cases h : code = 0x30 <;> simp [h]
@[simp] theorem writeInteg_quiet : ∀ x0 x1 s, (writeInteg x0 x1 s).quiet = s.quiet := by
  intros; unfold writeInteg; repeat' first | with_reducible rfl | (simp; done) | split
@[simp] theorem rectFinal_quiet : ∀ x0 x1 x2 s, (rectFinal x0 x1 x2 s).quiet = s.quiet := by
  intros; unfold rectFinal; try dsimp only
  repeat' first | with_reducible rfl | (simp; done) | split | refine Eq.trans (forAll_quiet _ _ _ fun _ _ => ?_) ?_ |
    (simp only [onBar, onDev, andThen, valueOk, checked, rated, holderOnly, forwarded]; try dsimp only) | (simp; intros)
@[simp] theorem integCheck_quiet : ∀ x0 x1 s, (integCheck x0 x1 s).quiet = s.quiet := by
  intros; unfold integCheck; try dsimp only
  repeat' first | with_reducible rfl | (simp; done) | split | refine Eq.trans (forAll_quiet _ _ _ fun _ _ => ?_) ?_ |
    (simp only [onBar, onDev, andThen, valueOk, checked, rated, holderOnly, forwarded]; try dsimp only) | (simp; intros)
@[simp] theorem integCut_quiet : ∀ x0 x1 s, (integCut x0 x1 s).quiet = s.quiet := by
  intros; unfold integCut; repeat' first | with_reducible rfl | (simp; done) | split
@[simp] theorem auditCheck_quiet : ∀ x0 s, (auditCheck x0 s).quiet = s.quiet := by
  intros; unfold auditCheck; repeat' first | with_reducible rfl | (simp; done) | split
@[simp] theorem sendIdle_quiet : ∀ x0 s, (sendIdle x0 s).quiet = s.quiet := by intros; unfold sendIdle; simp
@[simp] theorem State_modGen_quiet : ∀ s x1 x2, (State.modGen s x1 x2).quiet = s.quiet := by intros; unfold State.modGen; simp
@[simp] theorem State_modHeads_quiet : ∀ s x1 x2, (State.modHeads s x1 x2).quiet = s.quiet := by intros; unfold State.modHeads; simp
@[simp] theorem State_modWaits_quiet : ∀ s x1 x2, (State.modWaits s x1 x2).quiet = s.quiet := by intros; unfold State.modWaits; simp
@[simp] theorem joinHeads_quiet : ∀ x0 s, (joinHeads x0 s).quiet = s.quiet := by
  intros; unfold joinHeads; try dsimp only
  repeat' first | with_reducible rfl | (simp; done) | split | refine Eq.trans (forAll_quiet _ _ _ fun _ _ => ?_) ?_ |
    (simp only [onBar, onDev, andThen, valueOk, checked, rated, holderOnly, forwarded, withRate, hostTime, toStandby, onRecord, byThread, byMachine, upFrame]; try dsimp only) | (simp; intros)
@[simp] theorem bandSelect_quiet : ∀ x0 x1 x2 s, (bandSelect x0 x1 x2 s).quiet = s.quiet := by intros; unfold bandSelect; simp
@[simp] theorem runBands_quiet : ∀ x0 s, (runBands x0 s).quiet = s.quiet := by
  intros; unfold runBands; try dsimp only
  repeat' first | with_reducible rfl | (simp; done) | split | refine Eq.trans (forAll_quiet _ _ _ fun _ _ => ?_) ?_ |
    (simp only [onBar, onDev, andThen, valueOk, checked, rated, holderOnly, forwarded, withRate, hostTime, toStandby, onRecord, byThread, byMachine, upFrame]; try dsimp only) | (simp; intros)
@[simp] theorem openSet_quiet : ∀ x0 x1 x2 s, (openSet x0 x1 x2 s).quiet = s.quiet := by intros; unfold openSet; simp
@[simp] theorem openHostSet_quiet : ∀ x0 x1 x2 s, (openHostSet x0 x1 x2 s).quiet = s.quiet := by intros; unfold openHostSet; simp
@[simp] theorem mirrorNozzles_quiet : ∀ x0 x1 x2 s, (mirrorNozzles x0 x1 x2 s).quiet = s.quiet := by intros; unfold mirrorNozzles; simp
@[simp] theorem editEntries_quiet : ∀ x0 x1 x2 s, (editEntries x0 x1 x2 s).quiet = s.quiet := by
  intros; unfold editEntries; try dsimp only
  repeat' first | with_reducible rfl | (simp; done) | split | refine Eq.trans (forAll_quiet _ _ _ fun _ _ => ?_) ?_ |
    (simp only [onBar, onDev, andThen, valueOk, checked, rated, holderOnly, forwarded]; try dsimp only) | (simp; intros)
@[simp] theorem gapDecide_quiet : ∀ x0 s, (gapDecide x0 s).quiet = s.quiet := by
  intros; unfold gapDecide; try dsimp only
  repeat' first | with_reducible rfl | (simp; done) | split | refine Eq.trans (forAll_quiet _ _ _ fun _ _ => ?_) ?_ |
    (simp only [onBar, onDev, andThen, valueOk, checked, rated, holderOnly, forwarded]; try dsimp only) | (simp; intros)
@[simp] theorem rescreen_quiet : ∀ x0 x1 s, (rescreen x0 x1 s).quiet = s.quiet := by
  intros; unfold rescreen; try dsimp only
  repeat' first | with_reducible rfl | (simp; done) | split | refine Eq.trans (forAll_quiet _ _ _ fun _ _ => ?_) ?_ |
    (simp only [onBar, onDev, andThen, valueOk, checked, rated, holderOnly, forwarded]; try dsimp only) | (simp; intros)
@[simp] theorem digestJudge_quiet : ∀ x0 x1 x2 s, (digestJudge x0 x1 x2 s).quiet = s.quiet := by
  intros; unfold digestJudge; try dsimp only
  repeat' first | with_reducible rfl | (simp; done) | split | refine Eq.trans (forAll_quiet _ _ _ fun _ _ => ?_) ?_ |
    (simp only [onBar, onDev, andThen, valueOk, checked, rated, holderOnly, forwarded]; try dsimp only) | (simp; intros)
@[simp] theorem releaseWaits_quiet : ∀ x0 s, (releaseWaits x0 s).quiet = s.quiet := fun _ _ => rfl
@[simp] theorem nozzleEvents_quiet : ∀ x0 x1 x2 x3 x4 x5 s, (nozzleEvents x0 x1 x2 x3 x4 x5 s).quiet = s.quiet := by
  intros; unfold nozzleEvents; try dsimp only
  repeat' first | with_reducible rfl | (simp; done) | split | refine Eq.trans (forAll_quiet _ _ _ fun _ _ => ?_) ?_ |
    (simp only [onBar, onDev, andThen, valueOk, checked, rated, holderOnly, forwarded]; try dsimp only) | (simp; intros)
@[simp] theorem applyOutcomes_quiet : ∀ x0 x1 x2 s, (applyOutcomes x0 x1 x2 s).quiet = s.quiet := by
  intros; unfold applyOutcomes; try dsimp only
  repeat' first | with_reducible rfl | (simp; done) | split | refine Eq.trans (forAll_quiet _ _ _ fun _ _ => ?_) ?_ |
    (simp only [onBar, onDev, andThen, valueOk, checked, rated, holderOnly, forwarded]; try dsimp only) | (simp; intros)
@[simp] theorem releaseFlow_quiet : ∀ x0 x1 s, (releaseFlow x0 x1 s).quiet = s.quiet := by
  intros; unfold releaseFlow; repeat' first | with_reducible rfl | (simp; done) | split
@[simp] theorem offCore_quiet : ∀ x0 s, (offCore x0 s).quiet = s.quiet := by
  intros; unfold offCore; try dsimp only
  repeat' first | with_reducible rfl | (simp; done) | split | refine Eq.trans (forAll_quiet _ _ _ fun _ _ => ?_) ?_ |
    (simp only [onBar, onDev, andThen, valueOk, checked, rated, holderOnly, forwarded]; try dsimp only) | (simp; intros)
@[simp] theorem stopThread_quiet : ∀ x0 x1 s, (stopThread x0 x1 s).quiet = s.quiet := by intros; unfold stopThread; simp
@[simp] theorem setExtStatus_quiet : ∀ x0 x1 x2 s, (setExtStatus x0 x1 x2 s).quiet = s.quiet := by intros; unfold setExtStatus; simp
@[simp] theorem stopExt_quiet : ∀ x0 x1 x2 x3 s, (stopExt x0 x1 x2 x3 s).quiet = s.quiet := by intros; unfold stopExt; simp
@[simp] theorem schStatus_quiet : ∀ x0 x1 s, (schStatus x0 x1 s).quiet = s.quiet := by intros; unfold schStatus; simp
@[simp] theorem waitEffect_quiet : ∀ x0 x1 x2 s, (waitEffect x0 x1 x2 s).quiet = s.quiet := by
  intros; unfold waitEffect; try dsimp only
  repeat' first | with_reducible rfl | (simp; done) | split | refine Eq.trans (forAll_quiet _ _ _ fun _ _ => ?_) ?_ |
    (simp only [onBar, onDev, andThen, valueOk, checked, rated, holderOnly, forwarded]; try dsimp only) | (simp; intros)
@[simp] theorem postEffect_quiet : ∀ x0 x1 s, (postEffect x0 x1 s).quiet = s.quiet := by
  intros; unfold postEffect; try dsimp only
  repeat' first | with_reducible rfl | (simp; done) | split | refine Eq.trans (forAll_quiet _ _ _ fun _ _ => ?_) ?_ |
    (simp only [onBar, onDev, andThen, valueOk, checked, rated, holderOnly, forwarded]; try dsimp only) | (simp; intros)
@[simp] theorem yieldEffect_quiet : ∀ x0 x1 s, (yieldEffect x0 x1 s).quiet = s.quiet := by intros; unfold yieldEffect; simp
@[simp] theorem flowEnterEffect_quiet : ∀ x0 x1 x2 s, (flowEnterEffect x0 x1 x2 s).quiet = s.quiet := by
  intros; unfold flowEnterEffect; try dsimp only
  repeat' first | with_reducible rfl | (simp; done) | split | refine Eq.trans (forAll_quiet _ _ _ fun _ _ => ?_) ?_ |
    (simp only [onBar, onDev, andThen, valueOk, checked, rated, holderOnly, forwarded]; try dsimp only) | (simp; intros)
@[simp] theorem flowExitEffect_quiet : ∀ x0 x1 s, (flowExitEffect x0 x1 s).quiet = s.quiet := by
  intros; unfold flowExitEffect; try dsimp only
  repeat' first | with_reducible rfl | (simp; done) | split | refine Eq.trans (forAll_quiet _ _ _ fun _ _ => ?_) ?_ |
    (simp only [onBar, onDev, andThen, valueOk, checked, rated, holderOnly, forwarded]; try dsimp only) | (simp; intros)
@[simp] theorem timerEffect_quiet : ∀ x0 x1 s, (timerEffect x0 x1 s).quiet = s.quiet := by intros; unfold timerEffect; simp
@[simp] theorem spawnEffect_quiet : ∀ x0 x1 s, (spawnEffect x0 x1 s).quiet = s.quiet := by
  intros; unfold spawnEffect; try dsimp only
  repeat' first | with_reducible rfl | (simp; done) | split | refine Eq.trans (forAll_quiet _ _ _ fun _ _ => ?_) ?_ |
    (simp only [onBar, onDev, andThen, valueOk, checked, rated, holderOnly, forwarded]; try dsimp only) | (simp; intros)
@[simp] theorem wakeModeEffect_quiet : ∀ x0 x1 s, (wakeModeEffect x0 x1 s).quiet = s.quiet := by
  intros; unfold wakeModeEffect; repeat' first | with_reducible rfl | (simp; done) | split
@[simp] theorem killEffect_quiet : ∀ x0 x1 s, (killEffect x0 x1 s).quiet = s.quiet := by
  intros; unfold killEffect; try dsimp only
  repeat' first | with_reducible rfl | (simp; done) | split | refine Eq.trans (forAll_quiet _ _ _ fun _ _ => ?_) ?_ |
    (simp only [onBar, onDev, andThen, valueOk, checked, rated, holderOnly, forwarded]; try dsimp only) | (simp; intros)
@[simp] theorem flagsClearEffect_quiet : ∀ x0 x1 s, (flagsClearEffect x0 x1 s).quiet = s.quiet := by intros; unfold flagsClearEffect; simp
@[simp] theorem deadlockEffect_quiet : ∀ s, (deadlockEffect s).quiet = s.quiet := by
  intros; unfold deadlockEffect; try dsimp only
  repeat' first | with_reducible rfl | (simp; done) | split | refine Eq.trans (forAll_quiet _ _ _ fun _ _ => ?_) ?_ |
    (simp only [onBar, onDev, andThen, valueOk, checked, rated, holderOnly, forwarded]; try dsimp only) | (simp; intros)
@[simp] theorem dropCore_quiet : ∀ x0 s, (dropCore x0 s).quiet = s.quiet := by intros; unfold dropCore; simp
@[simp] theorem modOwn_quiet : ∀ x0 x1 s, (modOwn x0 x1 s).quiet = s.quiet := by
  intros; unfold modOwn; repeat' first | with_reducible rfl | (simp; done) | split
@[simp] theorem recordStatus_quiet : ∀ x0 x1 x2 x3 s, (recordStatus x0 x1 x2 x3 s).quiet = s.quiet := by
  intros; unfold recordStatus; repeat' first | with_reducible rfl | (simp; done) | split
@[simp] theorem violation_quiet : ∀ x0 s, (violation x0 s).quiet = s.quiet := by
  intros; unfold violation; repeat' first | with_reducible rfl | (simp; done) | split
theorem doorWrite_quiet (door idx sub v) (eff : Effect) (s : State)
    (h : ∀ row bar sub w s, (eff row bar sub w s).2.quiet = s.quiet) : (doorWrite door idx sub v eff s).2.quiet = s.quiet := by
  unfold doorWrite
  split
  · rfl
  · split
    · rfl
    · simp
    · simp
    · split <;> simp [h]
theorem writeThrough_quiet (door idx sub v) (eff : Effect) (s : State)
    (h : ∀ row bar sub w s, (eff row bar sub w s).2.quiet = s.quiet) : (writeThrough door idx sub v eff s).quiet = s.quiet :=
  doorWrite_quiet door idx sub v eff s h
@[simp] theorem plainEffect_quiet : ∀ x0 x1 x2 x3 s, (plainEffect x0 x1 x2 x3 s).2.quiet = s.quiet := by
  intros; unfold plainEffect; repeat' first | with_reducible rfl | (simp; done) | split
@[simp] theorem putTable_quiet : ∀ x0 x1 x2 x3 s, (putTable x0 x1 x2 x3 s).quiet = s.quiet := by intros; unfold putTable; simp
@[simp] theorem sramJudge_quiet : ∀ x0 s, (sramJudge x0 s).quiet = s.quiet := by
  intros; unfold sramJudge; try dsimp only
  repeat' first | with_reducible rfl | (simp; done) | split | refine Eq.trans (forAll_quiet _ _ _ fun _ _ => ?_) ?_ |
    (simp only [onBar, onDev, andThen, valueOk, checked, rated, holderOnly, forwarded]; try dsimp only) | (simp; intros)
@[simp] theorem partViolation_quiet : ∀ x0 s, (partViolation x0 s).quiet = s.quiet := by
  intros; unfold partViolation; repeat' first | with_reducible rfl | (simp; done) | split
@[simp] theorem postStop_quiet : ∀ x0 x1 x2 s, (postStop x0 x1 x2 s).quiet = s.quiet := by intros; unfold postStop; simp
@[simp] theorem mirrorAxis_quiet : ∀ x0 s, (mirrorAxis x0 s).quiet = s.quiet := by intros; unfold mirrorAxis; simp
@[simp] theorem lapseAll_quiet : ∀ s, (lapseAll s).quiet = s.quiet := by intros; unfold lapseAll; simp
@[simp] theorem unpin_quiet : ∀ x0 x1 s, (unpin x0 x1 s).quiet = s.quiet := by
  intros; unfold unpin; repeat' first | with_reducible rfl | (simp; done) | split
@[simp] theorem clearBar_quiet : ∀ x0 s, (clearBar x0 s).quiet = s.quiet := by intros; unfold clearBar; simp
@[simp] theorem pageEnd_quiet : ∀ x0 x1 x2 x3 s, (pageEnd x0 x1 x2 x3 s).quiet = s.quiet := by
  intros; unfold pageEnd; try dsimp only
  repeat' first | with_reducible rfl | (simp; done) | split | refine Eq.trans (forAll_quiet _ _ _ fun _ _ => ?_) ?_ |
    (simp only [onBar, onDev, andThen, valueOk, checked, rated, holderOnly, forwarded]; try dsimp only) | (simp; intros)
@[simp] theorem mirrorSupply_quiet : ∀ x0 s, (mirrorSupply x0 s).quiet = s.quiet := by intros; unfold mirrorSupply; simp
@[simp] theorem abandonStrips_quiet : ∀ x0 x1 s, (abandonStrips x0 x1 s).quiet = s.quiet := by
  intros; unfold abandonStrips; try dsimp only
  repeat' first | with_reducible rfl | (simp; done) | split | refine Eq.trans (forAll_quiet _ _ _ fun _ _ => ?_) ?_ |
    (simp only [onBar, onDev, andThen, valueOk, checked, rated, holderOnly, forwarded, withRate, hostTime, toStandby, onRecord, byThread, byMachine, upFrame]; try dsimp only) | (simp; intros)
@[simp] theorem cutStrips_quiet : ∀ x0 s, (cutStrips x0 s).quiet = s.quiet := by intros; unfold cutStrips; simp
@[simp] theorem cutBar_quiet : ∀ x0 s, (cutBar x0 s).quiet = s.quiet := by
  intros; unfold cutBar; try dsimp only
  repeat' first | with_reducible rfl | (simp; done) | split | refine Eq.trans (forAll_quiet _ _ _ fun _ _ => ?_) ?_ |
    (simp only [onBar, onDev, andThen, valueOk, checked, rated, holderOnly, forwarded]; try dsimp only) | (simp; intros)
@[simp] theorem markRows_quiet : ∀ x0 x1 x2 x3 x4 s, (markRows x0 x1 x2 x3 x4 s).quiet = s.quiet := by intros; unfold markRows; simp
@[simp] theorem dropWaits_quiet : ∀ x0 s, (dropWaits x0 s).quiet = s.quiet := by intros; unfold dropWaits; simp
@[simp] theorem ackWrite_quiet : ∀ x0 x1 x2 s, (ackWrite x0 x1 x2 s).quiet = s.quiet := by
  intros; unfold ackWrite; repeat' first | with_reducible rfl | (simp; done) | split
@[simp] theorem noteOverlaps_quiet : ∀ x0 x1 s, (noteOverlaps x0 x1 s).quiet = s.quiet := by intros; unfold noteOverlaps; simp
@[simp] theorem screenLate_quiet : ∀ x0 x1 x2 s, (screenLate x0 x1 x2 s).quiet = s.quiet := by
  intros; unfold screenLate; try dsimp only
  repeat' first | with_reducible rfl | (simp; done) | split | refine Eq.trans (forAll_quiet _ _ _ fun _ _ => ?_) ?_ |
    (simp only [onBar, onDev, andThen, valueOk, checked, rated, holderOnly, forwarded, withRate, hostTime, toStandby, onRecord, byThread, byMachine, upFrame]; try dsimp only) | (simp; intros)
@[simp] theorem awaitLate_quiet : ∀ x0 x1 s, (awaitLate x0 x1 s).quiet = s.quiet := by intros; unfold awaitLate; simp
@[simp] theorem drayLate_quiet : ∀ x0 x1 x2 s, (drayLate x0 x1 x2 s).quiet = s.quiet := by intros; unfold drayLate; simp
@[simp] theorem countWithheld_quiet : ∀ x0 s, (countWithheld x0 s).quiet = s.quiet := by intros; unfold countWithheld; simp
@[simp] theorem placeStrip_quiet : ∀ x0 x1 x2 s, (placeStrip x0 x1 x2 s).quiet = s.quiet := by intros; unfold placeStrip; simp
@[simp] theorem decideStrip_quiet : ∀ x0 s, (decideStrip x0 s).quiet = s.quiet := by
  intros; unfold decideStrip; try dsimp only
  repeat' first | with_reducible rfl | (simp; done) | split | refine Eq.trans (forAll_quiet _ _ _ fun _ _ => ?_) ?_ |
    (simp only [onBar, onDev, andThen, valueOk, checked, rated, holderOnly, forwarded]; try dsimp only) | (simp; intros)
@[simp] theorem missMark_quiet : ∀ x0 x1 x2 x3 s, (missMark x0 x1 x2 x3 s).quiet = s.quiet := by intros; unfold missMark; simp
@[simp] theorem dropMarks_quiet : ∀ x0 x1 s, (dropMarks x0 x1 s).quiet = s.quiet := by intros; unfold dropMarks; simp
@[simp] theorem noteReady_quiet : ∀ x0 s, (noteReady x0 s).quiet = s.quiet := by
  intros; unfold noteReady; try dsimp only
  repeat' first | with_reducible rfl | (simp; done) | split | refine Eq.trans (forAll_quiet _ _ _ fun _ _ => ?_) ?_ |
    (simp only [onBar, onDev, andThen, valueOk, checked, rated, holderOnly, forwarded, withRate, hostTime, toStandby, onRecord, byThread, byMachine, upFrame]; try dsimp only) | (simp; intros)
@[simp] theorem bandSelects_quiet : ∀ x0 x1 s, (bandSelects x0 x1 s).quiet = s.quiet := by intros; unfold bandSelects; simp
@[simp] theorem decideBand_quiet : ∀ x0 x1 s, (decideBand x0 x1 s).quiet = s.quiet := by intros; unfold decideBand; simp
@[simp] theorem freezeBand_quiet : ∀ x0 x1 x2 s, (freezeBand x0 x1 x2 s).quiet = s.quiet := by
  intros; unfold freezeBand; repeat' first | with_reducible rfl | (simp; done) | split
@[simp] theorem wqTailEffect_quiet : ∀ x0 x1 x2 x3 s, (wqTailEffect x0 x1 x2 x3 s).2.quiet = s.quiet := by
  intros; unfold wqTailEffect; try dsimp only
  repeat' first | with_reducible rfl | (simp; done) | split | refine Eq.trans (forAll_quiet _ _ _ fun _ _ => ?_) ?_ |
    (simp only [onBar, onDev, andThen, valueOk, checked, rated, holderOnly, forwarded]; try dsimp only) | (simp; intros)
@[simp] theorem eqHeadEffect_quiet : ∀ x0 x1 x2 x3 s, (eqHeadEffect x0 x1 x2 x3 s).2.quiet = s.quiet := by
  intros; unfold eqHeadEffect; try dsimp only
  repeat' first | with_reducible rfl | (simp; done) | split | refine Eq.trans (forAll_quiet _ _ _ fun _ _ => ?_) ?_ |
    (simp only [onBar, onDev, andThen, valueOk, checked, rated, holderOnly, forwarded]; try dsimp only) | (simp; intros)
@[simp] theorem deqEnEffect_quiet : ∀ x0 x1 x2 x3 s, (deqEnEffect x0 x1 x2 x3 s).2.quiet = s.quiet := by
  intros; unfold deqEnEffect; try dsimp only
  repeat' first | with_reducible rfl | (simp; done) | split | refine Eq.trans (forAll_quiet _ _ _ fun _ _ => ?_) ?_ |
    (simp only [onBar, onDev, andThen, valueOk, checked, rated, holderOnly, forwarded]; try dsimp only) | (simp; intros)
@[simp] theorem dmaJudge_quiet : ∀ x0 x1 s, (dmaJudge x0 x1 s).quiet = s.quiet := by
  intros; unfold dmaJudge; repeat' first | with_reducible rfl | (simp; done) | split
@[simp] theorem fetchAgain_quiet : ∀ x0 s, (fetchAgain x0 s).quiet = s.quiet := by
  intros; unfold fetchAgain; try dsimp only
  repeat' first | with_reducible rfl | (simp; done) | split | refine Eq.trans (forAll_quiet _ _ _ fun _ _ => ?_) ?_ |
    (simp only [onBar, onDev, andThen, valueOk, checked, rated, holderOnly, forwarded, withRate, hostTime, toStandby, onRecord, byThread, byMachine, upFrame]; try dsimp only) | (simp; intros)
@[simp] theorem busMaster_quiet : ∀ x0 x1 s, (busMaster x0 x1 s).quiet = s.quiet := by
  intros; unfold busMaster; repeat' first | with_reducible rfl | (simp; done) | split
@[simp] theorem deqRingEffect_quiet : ∀ x0 x1 x2 x3 s, (deqRingEffect x0 x1 x2 x3 s).2.quiet = s.quiet := by
  intros; unfold deqRingEffect; try dsimp only
  repeat' first | with_reducible rfl | (simp; done) | split | refine Eq.trans (forAll_quiet _ _ _ fun _ _ => ?_) ?_ |
    (simp only [onBar, onDev, andThen, valueOk, checked, rated, holderOnly, forwarded]; try dsimp only) | (simp; intros)
@[simp] theorem djTailEffect_quiet : ∀ x0 x1 x2 x3 s, (djTailEffect x0 x1 x2 x3 s).2.quiet = s.quiet := by
  intros; unfold djTailEffect; try dsimp only
  repeat' first | with_reducible rfl | (simp; done) | split | refine Eq.trans (forAll_quiet _ _ _ fun _ _ => ?_) ?_ |
    (simp only [onBar, onDev, andThen, valueOk, checked, rated, holderOnly, forwarded]; try dsimp only) | (simp; intros)
@[simp] theorem modFlight_quiet : ∀ x0 x1 x2 s, (modFlight x0 x1 x2 s).quiet = s.quiet := by intros; unfold modFlight; simp
@[simp] theorem advanceHead_quiet : ∀ x0 s, (advanceHead x0 s).quiet = s.quiet := by intros; unfold advanceHead; simp
@[simp] theorem flightDone_quiet : ∀ x0 x1 s, (flightDone x0 x1 s).quiet = s.quiet := by intros; unfold flightDone; simp
@[simp] theorem beginFetch_quiet : ∀ x0 x1 s, (beginFetch x0 x1 s).quiet = s.quiet := by
  intros; unfold beginFetch; try dsimp only
  repeat' first | with_reducible rfl | (simp; done) | split | refine Eq.trans (forAll_quiet _ _ _ fun _ _ => ?_) ?_ |
    (simp only [onBar, onDev, andThen, valueOk, checked, rated, holderOnly, forwarded]; try dsimp only) | (simp; intros)
@[simp] theorem wbFail_quiet : ∀ x0 x1 x2 x3 x4 x5 s, (wbFail x0 x1 x2 x3 x4 x5 s).quiet = s.quiet := by
  intros; unfold wbFail; try dsimp only
  repeat' first | with_reducible rfl | (simp; done) | split | refine Eq.trans (forAll_quiet _ _ _ fun _ _ => ?_) ?_ |
    (simp only [onBar, onDev, andThen, valueOk, checked, rated, holderOnly, forwarded, withRate, hostTime, toStandby, onRecord, byThread, byMachine, upFrame]; try dsimp only) | (simp; intros)
@[simp] theorem notify_quiet : ∀ x0 x1 x2 s, (notify x0 x1 x2 s).quiet = s.quiet := by
  intros; unfold notify; repeat' first | with_reducible rfl | (simp; done) | split
@[simp] theorem addPage_quiet : ∀ x0 x1 s, (addPage x0 x1 s).quiet = s.quiet := by
  intros; unfold addPage; try dsimp only
  repeat' first | with_reducible rfl | (simp; done) | split | refine Eq.trans (forAll_quiet _ _ _ fun _ _ => ?_) ?_ |
    (simp only [onBar, onDev, andThen, valueOk, checked, rated, holderOnly, forwarded]; try dsimp only) | (simp; intros)
@[simp] theorem finishPage_quiet : ∀ x0 x1 s, (finishPage x0 x1 s).quiet = s.quiet := by
  intros; unfold finishPage; try dsimp only
  repeat' first | with_reducible rfl | (simp; done) | split | refine Eq.trans (forAll_quiet _ _ _ fun _ _ => ?_) ?_ |
    (simp only [onBar, onDev, andThen, valueOk, checked, rated, holderOnly, forwarded, withRate, hostTime, toStandby, onRecord, byThread, byMachine, upFrame]; try dsimp only) | (simp; intros)
@[simp] theorem settle_quiet : ∀ x0 x1 s, (settle x0 x1 s).quiet = s.quiet := by intros; unfold settle; simp
@[simp] theorem checkWagon_quiet : ∀ x0 x1 s, (checkWagon x0 x1 s).quiet = s.quiet := by
  intros; unfold checkWagon; try dsimp only
  repeat' first | with_reducible rfl | (simp; done) | split | refine Eq.trans (forAll_quiet _ _ _ fun _ _ => ?_) ?_ |
    (simp only [onBar, onDev, andThen, valueOk, checked, rated, holderOnly, forwarded]; try dsimp only) | (simp; intros)
@[simp] theorem haltPayloads_quiet : ∀ x0 s, (haltPayloads x0 s).quiet = s.quiet := by intros; unfold haltPayloads; simp
@[simp] theorem modSlot_quiet : ∀ x0 x1 x2 x3 s, (modSlot x0 x1 x2 x3 s).quiet = s.quiet := by intros; unfold modSlot; simp
@[simp] theorem modJob_quiet : ∀ x0 x1 x2 s, (modJob x0 x1 x2 s).quiet = s.quiet := by intros; unfold modJob; simp
@[simp] theorem writeBack_quiet : ∀ x0 x1 x2 x3 x4 s, (writeBack x0 x1 x2 x3 x4 s).quiet = s.quiet := by intros; unfold writeBack; simp
@[simp] theorem takeDesc_quiet : ∀ x0 s, (takeDesc x0 s).2.quiet = s.quiet := by intros; unfold takeDesc; simp
@[simp] theorem resumeJob_quiet : ∀ x0 x1 x2 s, (resumeJob x0 x1 x2 s).quiet = s.quiet := by intros; unfold resumeJob; simp
@[simp] theorem closeBuf_quiet : ∀ x0 x1 x2 s, (closeBuf x0 x1 x2 s).quiet = s.quiet := by
  intros; unfold closeBuf; try dsimp only
  repeat' first | with_reducible rfl | (simp; done) | split | refine Eq.trans (forAll_quiet _ _ _ fun _ _ => ?_) ?_ |
    (simp only [onBar, onDev, andThen, valueOk, checked, rated, holderOnly, forwarded, withRate, hostTime, toStandby, onRecord, byThread, byMachine, upFrame]; try dsimp only) | (simp; intros)
@[simp] theorem bufWrite_quiet : ∀ x0 x1 x2 x3 s, (bufWrite x0 x1 x2 x3 s).quiet = s.quiet := by
  intros; unfold bufWrite; try dsimp only
  repeat' first | with_reducible rfl | (simp; done) | split | refine Eq.trans (forAll_quiet _ _ _ fun _ _ => ?_) ?_ |
    (simp only [onBar, onDev, andThen, valueOk, checked, rated, holderOnly, forwarded, withRate, hostTime, toStandby, onRecord, byThread, byMachine, upFrame]; try dsimp only) | (simp; intros)
@[simp] theorem chainPut_quiet : ∀ x0 x1 x2 x3 x4 x5 s, (chainPut x0 x1 x2 x3 x4 x5 s).2.quiet = s.quiet := by
  intro x0 x1 x2 n
  induction n with
  | zero => intros; rfl
  | succ n ih => intros; unfold chainPut; try dsimp only
                 repeat' first | with_reducible rfl | (simp [ih]; done) | split
@[simp] theorem flushStore_quiet : ∀ x0 x1 x2 s, (flushStore x0 x1 x2 s).quiet = s.quiet := by
  intro b id l
  induction l with
  | nil => intro s; simp [flushStore]
  | cons x t ih => intro s; unfold flushStore; dsimp only; split <;> simp [ih]
@[simp] theorem chainReturn_quiet : ∀ x0 x1 s, (chainReturn x0 x1 s).quiet = s.quiet := by
  intros; unfold chainReturn; try dsimp only
  repeat' first | with_reducible rfl | (simp; done) | split | refine Eq.trans (forAll_quiet _ _ _ fun _ _ => ?_) ?_ |
    (simp only [onBar, onDev, andThen, valueOk, checked, rated, holderOnly, forwarded]; try dsimp only) | (simp; intros)
@[simp] theorem releaseAudit_quiet : ∀ x0 x1 s, (releaseAudit x0 x1 s).quiet = s.quiet := by
  intros; unfold releaseAudit; repeat' first | with_reducible rfl | (simp; done) | split
@[simp] theorem cancelBuf_quiet : ∀ x0 x1 s, (cancelBuf x0 x1 s).quiet = s.quiet := by
  intros; unfold cancelBuf; repeat' first | with_reducible rfl | (simp; done) | split
@[simp] theorem blockWritten_quiet : ∀ x0 x1 x2 x3 s, (blockWritten x0 x1 x2 x3 s).quiet = s.quiet := by intros; unfold blockWritten; simp
@[simp] theorem storeBlock_quiet : ∀ x0 x1 x2 x3 x4 s, (storeBlock x0 x1 x2 x3 x4 s).quiet = s.quiet := by
  intros; unfold storeBlock; repeat' first | with_reducible rfl | (simp; done) | split
@[simp] theorem flagProgress_quiet : ∀ x0 x1 s, (flagProgress x0 x1 s).quiet = s.quiet := by intros; unfold flagProgress; simp
@[simp] theorem flagAll_quiet : ∀ x0 s, (flagAll x0 s).quiet = s.quiet := by intros; unfold flagAll; simp
@[simp] theorem bandStops_quiet : ∀ s, (bandStops s).quiet = s.quiet := by intros; unfold bandStops; simp
@[simp] theorem registerMark_quiet : ∀ x0 x1 x2 s, (registerMark x0 x1 x2 s).quiet = s.quiet := by
  intros; unfold registerMark; try dsimp only
  repeat' first | with_reducible rfl | (simp; done) | split | refine Eq.trans (forAll_quiet _ _ _ fun _ _ => ?_) ?_ |
    (simp only [onBar, onDev, andThen, valueOk, checked, rated, holderOnly, forwarded]; try dsimp only) | (simp; intros)
@[simp] theorem markRegEffect_quiet : ∀ x0 x1 x2 x3 s, (markRegEffect x0 x1 x2 x3 s).2.quiet = s.quiet := by
  intros; unfold markRegEffect; try dsimp only
  repeat' first | with_reducible rfl | (simp; done) | split | refine Eq.trans (forAll_quiet _ _ _ fun _ _ => ?_) ?_ |
    (simp only [onBar, onDev, andThen, valueOk, checked, rated, holderOnly, forwarded]; try dsimp only) | (simp; intros)
@[simp] theorem putResults_quiet : ∀ x0 x1 x2 s, (putResults x0 x1 x2 s).quiet = s.quiet := by intros; unfold putResults; simp
@[simp] theorem editGains_quiet : ∀ x0 x1 x2 s, (editGains x0 x1 x2 s).quiet = s.quiet := by
  intros; unfold editGains; try dsimp only
  repeat' first | with_reducible rfl | (simp; done) | split | refine Eq.trans (forAll_quiet _ _ _ fun _ _ => ?_) ?_ |
    (simp only [onBar, onDev, andThen, valueOk, checked, rated, holderOnly, forwarded]; try dsimp only) | (simp; intros)
@[simp] theorem modStrip_quiet : ∀ x0 x1 x2 s, (modStrip x0 x1 x2 s).quiet = s.quiet := by intros; unfold modStrip; simp
@[simp] theorem sendMeas_quiet : ∀ x0 x1 s, (sendMeas x0 x1 s).quiet = s.quiet := by
  intros; unfold sendMeas; repeat' first | with_reducible rfl | (simp; done) | split
@[simp] theorem stripReqEffect_quiet : ∀ x0 x1 x2 x3 s, (stripReqEffect x0 x1 x2 x3 s).2.quiet = s.quiet := by
  intros; unfold stripReqEffect; try dsimp only
  repeat' first | with_reducible rfl | (simp; done) | split | refine Eq.trans (forAll_quiet _ _ _ fun _ _ => ?_) ?_ |
    (simp only [onBar, onDev, andThen, valueOk, checked, rated, holderOnly, forwarded]; try dsimp only) | (simp; intros)
@[simp] theorem domainService_quiet : ∀ x0 x1 s, (domainService x0 x1 s).quiet = s.quiet := by
  intros; unfold domainService; repeat' first | with_reducible rfl | (simp; done) | split
@[simp] theorem calderaEcc_quiet : ∀ x0 x1 s, (calderaEcc x0 x1 s).quiet = s.quiet := by
  intros; unfold calderaEcc; repeat' first | with_reducible rfl | (simp; done) | split
@[simp] theorem tableEcc_quiet : ∀ x0 x1 s, (tableEcc x0 x1 s).quiet = s.quiet := by intros; unfold tableEcc; simp
@[simp] theorem sramQuotaEffect_quiet : ∀ x0 x1 x2 x3 s, (sramQuotaEffect x0 x1 x2 x3 s).2.quiet = s.quiet := by
  intros; unfold sramQuotaEffect; try dsimp only
  repeat' first | with_reducible rfl | (simp; done) | split | refine Eq.trans (forAll_quiet _ _ _ fun _ _ => ?_) ?_ |
    (simp only [onBar, onDev, andThen, valueOk, checked, rated, holderOnly, forwarded]; try dsimp only) | (simp; intros)
@[simp] theorem lowerRails_quiet : ∀ x0 s, (lowerRails x0 s).quiet = s.quiet := by intros; unfold lowerRails; simp
@[simp] theorem fumStore_quiet : ∀ s, (fumStore s).quiet = s.quiet := by intros; unfold fumStore; simp
@[simp] theorem trimPost_quiet : ∀ x0 x1 x2 x3 s, (trimPost x0 x1 x2 x3 s).quiet = s.quiet := by intros; unfold trimPost; simp
@[simp] theorem darkBit_quiet : ∀ x0 x1 s, (darkBit x0 x1 s).quiet = s.quiet := by
  intros; unfold darkBit; repeat' first | with_reducible rfl | (simp; done) | split
@[simp] theorem ictSet_quiet : ∀ x0 x1 x2 s, (ictSet x0 x1 x2 s).quiet = s.quiet := by intros; unfold ictSet; simp
@[simp] theorem ictOne_quiet : ∀ x0 x1 s, (ictOne x0 x1 s).quiet = s.quiet := by
  intros; unfold ictOne; repeat' first | with_reducible rfl | (simp; done) | split
@[simp] theorem bootIct_quiet : ∀ x0 s, (bootIct x0 s).quiet = s.quiet := by
  intros; unfold bootIct; repeat' first | with_reducible rfl | (simp; done) | split
@[simp] theorem firmwareStart_quiet : ∀ s, (firmwareStart s).quiet = s.quiet := by intros; unfold firmwareStart; simp
@[simp] theorem shutdownPost_quiet : ∀ s, (shutdownPost s).quiet = s.quiet := by
  intros; unfold shutdownPost; try dsimp only
  repeat' first | with_reducible rfl | (simp; done) | split | refine Eq.trans (forAll_quiet _ _ _ fun _ _ => ?_) ?_ |
    (simp only [onBar, onDev, andThen, valueOk, checked, rated, holderOnly, forwarded]; try dsimp only) | (simp; intros)
@[simp] theorem threadPostEffect_quiet : ∀ x0 x1 x2 x3 s, (threadPostEffect x0 x1 x2 x3 s).2.quiet = s.quiet := by
  intros; unfold threadPostEffect; try dsimp only
  repeat' first | with_reducible rfl | (simp; done) | split | refine Eq.trans (forAll_quiet _ _ _ fun _ _ => ?_) ?_ |
    (simp only [onBar, onDev, andThen, valueOk, checked, rated, holderOnly, forwarded]; try dsimp only) | (simp; intros)
@[simp] theorem extStop_quiet : ∀ x0 s, (extStop x0 s).quiet = s.quiet := by
  intros; unfold extStop; repeat' first | with_reducible rfl | (simp; done) | split
@[simp] theorem threadKillEffect_quiet : ∀ x0 x1 x2 x3 s, (threadKillEffect x0 x1 x2 x3 s).2.quiet = s.quiet := by
  intros; unfold threadKillEffect; try dsimp only
  repeat' first | with_reducible rfl | (simp; done) | split | refine Eq.trans (forAll_quiet _ _ _ fun _ _ => ?_) ?_ |
    (simp only [onBar, onDev, andThen, valueOk, checked, rated, holderOnly, forwarded]; try dsimp only) | (simp; intros)
@[simp] theorem transparent_quiet : ∀ x0 x1 s, (transparent x0 x1 s).2.quiet = s.quiet := by
  intros; unfold transparent; repeat' first | with_reducible rfl | (simp; done) | split
@[simp] theorem timeStepped_quiet : ∀ x0 x1 s, (timeStepped x0 x1 s).quiet = s.quiet := by intros; unfold timeStepped; simp
@[simp] theorem postPtp_quiet : ∀ x0 x1 s, (postPtp x0 x1 s).quiet = s.quiet := by intros; unfold postPtp; simp
@[simp] theorem setLink_quiet : ∀ x0 x1 x2 s, (setLink x0 x1 x2 s).quiet = s.quiet := by
  intros; unfold setLink; try dsimp only
  repeat' first | with_reducible rfl | (simp; done) | split | refine Eq.trans (forAll_quiet _ _ _ fun _ _ => ?_) ?_ |
    (simp only [onBar, onDev, andThen, valueOk, checked, rated, holderOnly, forwarded]; try dsimp only) | (simp; intros)
@[simp] theorem advertise_quiet : ∀ x0 x1 s, (advertise x0 x1 s).quiet = s.quiet := by
  intros; unfold advertise; try dsimp only
  repeat' first | with_reducible rfl | (simp; done) | split | refine Eq.trans (forAll_quiet _ _ _ fun _ _ => ?_) ?_ |
    (simp only [onBar, onDev, andThen, valueOk, checked, rated, holderOnly, forwarded, withRate, hostTime, toStandby, onRecord, byThread, byMachine, upFrame]; try dsimp only) | (simp; intros)
@[simp] theorem relink_quiet : ∀ x0 s, (relink x0 s).quiet = s.quiet := by intros; unfold relink; simp
@[simp] theorem discardOpen_quiet : ∀ x0 s, (discardOpen x0 s).quiet = s.quiet := by intros; unfold discardOpen; simp
@[simp] theorem discardEffect_quiet : ∀ x0 x1 x2 x3 s, (discardEffect x0 x1 x2 x3 s).2.quiet = s.quiet := by
  intros; unfold discardEffect; try dsimp only
  repeat' first | with_reducible rfl | (simp; done) | split | refine Eq.trans (forAll_quiet _ _ _ fun _ _ => ?_) ?_ |
    (simp only [onBar, onDev, andThen, valueOk, checked, rated, holderOnly, forwarded]; try dsimp only) | (simp; intros)
@[simp] theorem judgeColumns_quiet : ∀ x0 s, (judgeColumns x0 s).quiet = s.quiet := by intros; unfold judgeColumns; simp
@[simp] theorem emptyCaldera_quiet : ∀ x0 s, (emptyCaldera x0 s).quiet = s.quiet := by intros; unfold emptyCaldera; simp
@[simp] theorem dozeExt_quiet : ∀ x0 s, (dozeExt x0 s).quiet = s.quiet := by
  intros; unfold dozeExt; repeat' first | with_reducible rfl | (simp; done) | split
@[simp] theorem driveSteps_quiet : ∀ x0 x1 s, (driveSteps x0 x1 s).quiet = s.quiet := by
  intros; unfold driveSteps; try dsimp only
  repeat' first | with_reducible rfl | (simp; done) | split | refine Eq.trans (forAll_quiet _ _ _ fun _ _ => ?_) ?_ |
    (simp only [onBar, onDev, andThen, valueOk, checked, rated, holderOnly, forwarded, withRate, hostTime, toStandby, onRecord, byThread, byMachine, upFrame]; try dsimp only) | (simp; intros)
@[simp] theorem bandLog_quiet : ∀ x0 x1 x2 x3 x4 x5 s, (bandLog x0 x1 x2 x3 x4 x5 s).quiet = s.quiet := by intros; unfold bandLog; simp
@[simp] theorem changeBand_quiet : ∀ x0 x1 x2 x3 x4 s, (changeBand x0 x1 x2 x3 x4 s).quiet = s.quiet := by
  intros; unfold changeBand; try dsimp only
  repeat' first | with_reducible rfl | (simp; done) | split | refine Eq.trans (forAll_quiet _ _ _ fun _ _ => ?_) ?_ |
    (simp only [onBar, onDev, andThen, valueOk, checked, rated, holderOnly, forwarded]; try dsimp only) | (simp; intros)
@[simp] theorem applyBand_quiet : ∀ x0 x1 s, (applyBand x0 x1 s).quiet = s.quiet := by
  intros; unfold applyBand; repeat' first | with_reducible rfl | (simp; done) | split
@[simp] theorem stopBand_quiet : ∀ x0 x1 s, (stopBand x0 x1 s).quiet = s.quiet := by
  intros; unfold stopBand; try dsimp only
  repeat' first | with_reducible rfl | (simp; done) | split | refine Eq.trans (forAll_quiet _ _ _ fun _ _ => ?_) ?_ |
    (simp only [onBar, onDev, andThen, valueOk, checked, rated, holderOnly, forwarded]; try dsimp only) | (simp; intros)
@[simp] theorem dwellDone_quiet : ∀ x0 x1 x2 s, (dwellDone x0 x1 x2 s).quiet = s.quiet := by
  intros; unfold dwellDone; try dsimp only
  repeat' first | with_reducible rfl | (simp; done) | split | refine Eq.trans (forAll_quiet _ _ _ fun _ _ => ?_) ?_ |
    (simp only [onBar, onDev, andThen, valueOk, checked, rated, holderOnly, forwarded, withRate, hostTime, toStandby, onRecord, byThread, byMachine, upFrame]; try dsimp only) | (simp; intros)
@[simp] theorem bandLineDue_quiet : ∀ x0 x1 x2 s, (bandLineDue x0 x1 x2 s).quiet = s.quiet := by
  intros; unfold bandLineDue; try dsimp only
  repeat' first | with_reducible rfl | (simp; done) | split | refine Eq.trans (forAll_quiet _ _ _ fun _ _ => ?_) ?_ |
    (simp only [onBar, onDev, andThen, valueOk, checked, rated, holderOnly, forwarded]; try dsimp only) | (simp; intros)
@[simp] theorem safeStrips_quiet : ∀ x0 x1 s, (safeStrips x0 x1 s).quiet = s.quiet := by
  intros; unfold safeStrips; try dsimp only
  repeat' first | with_reducible rfl | (simp; done) | split | refine Eq.trans (forAll_quiet _ _ _ fun _ _ => ?_) ?_ |
    (simp only [onBar, onDev, andThen, valueOk, checked, rated, holderOnly, forwarded, withRate, hostTime, toStandby, onRecord, byThread, byMachine, upFrame]; try dsimp only) | (simp; intros)
@[simp] theorem gapLineDue_quiet : ∀ x0 x1 s, (gapLineDue x0 x1 s).quiet = s.quiet := by
  intros; unfold gapLineDue; try dsimp only
  repeat' first | with_reducible rfl | (simp; done) | split | refine Eq.trans (forAll_quiet _ _ _ fun _ _ => ?_) ?_ |
    (simp only [onBar, onDev, andThen, valueOk, checked, rated, holderOnly, forwarded]; try dsimp only) | (simp; intros)
@[simp] theorem marksLineDue_quiet : ∀ x0 x1 s, (marksLineDue x0 x1 s).quiet = s.quiet := by
  intros; unfold marksLineDue; try dsimp only
  repeat' first | with_reducible rfl | (simp; done) | split | refine Eq.trans (forAll_quiet _ _ _ fun _ _ => ?_) ?_ |
    (simp only [onBar, onDev, andThen, valueOk, checked, rated, holderOnly, forwarded]; try dsimp only) | (simp; intros)
@[simp] theorem lateWagon_quiet : ∀ x0 x1 x2 x3 x4 s, (lateWagon x0 x1 x2 x3 x4 s).quiet = s.quiet := by
  intros; unfold lateWagon; repeat' first | with_reducible rfl | (simp; done) | split
@[simp] theorem wagonsLineDue_quiet : ∀ x0 x1 s, (wagonsLineDue x0 x1 s).quiet = s.quiet := by
  intros; unfold wagonsLineDue; try dsimp only
  repeat' first | with_reducible rfl | (simp; done) | split | refine Eq.trans (forAll_quiet _ _ _ fun _ _ => ?_) ?_ |
    (simp only [onBar, onDev, andThen, valueOk, checked, rated, holderOnly, forwarded]; try dsimp only) | (simp; intros)
@[simp] theorem deadFired_quiet : ∀ x0 s, (deadFired x0 s).quiet = s.quiet := by intros; unfold deadFired; simp
@[simp] theorem lastStruck_quiet : ∀ x0 x1 s, (lastStruck x0 x1 s).quiet = s.quiet := by
  intros; unfold lastStruck; try dsimp only
  repeat' first | with_reducible rfl | (simp; done) | split | refine Eq.trans (forAll_quiet _ _ _ fun _ _ => ?_) ?_ |
    (simp only [onBar, onDev, andThen, valueOk, checked, rated, holderOnly, forwarded]; try dsimp only) | (simp; intros)
@[simp] theorem strikeSources_quiet : ∀ x0 s, (strikeSources x0 s).quiet = s.quiet := by intros; unfold strikeSources; simp
@[simp] theorem printedLineDue_quiet : ∀ x0 x1 s, (printedLineDue x0 x1 s).quiet = s.quiet := by intros; unfold printedLineDue; simp
@[simp] theorem sendXchk_quiet : ∀ x0 x1 s, (sendXchk x0 x1 s).quiet = s.quiet := by
  intros; unfold sendXchk; repeat' first | with_reducible rfl | (simp; done) | split
@[simp] theorem holdFixed_quiet : ∀ x0 s, (holdFixed x0 s).quiet = s.quiet := by
  intros; unfold holdFixed; repeat' first | with_reducible rfl | (simp; done) | split
@[simp] theorem peerStrip_quiet : ∀ x0 x1 s, (peerStrip x0 x1 s).quiet = s.quiet := by
  intros; unfold peerStrip; repeat' first | with_reducible rfl | (simp; done) | split
@[simp] theorem peerBand_quiet : ∀ x0 x1 s, (peerBand x0 x1 s).quiet = s.quiet := by
  intros; unfold peerBand; try dsimp only
  repeat' first | with_reducible rfl | (simp; done) | split | refine Eq.trans (forAll_quiet _ _ _ fun _ _ => ?_) ?_ |
    (simp only [onBar, onDev, andThen, valueOk, checked, rated, holderOnly, forwarded, withRate, hostTime, toStandby, onRecord, byThread, byMachine, upFrame]; try dsimp only) | (simp; intros)
@[simp] theorem mirrorNozzle_quiet : ∀ x0 x1 x2 x3 x4 s, (mirrorNozzle x0 x1 x2 x3 x4 s).quiet = s.quiet := by
  intros; unfold mirrorNozzle; try dsimp only
  repeat' first | with_reducible rfl | (simp; done) | split | refine Eq.trans (forAll_quiet _ _ _ fun _ _ => ?_) ?_ |
    (simp only [onBar, onDev, andThen, valueOk, checked, rated, holderOnly, forwarded]; try dsimp only) | (simp; intros)
@[simp] theorem mirrorCaldera_quiet : ∀ x0 x1 x2 s, (mirrorCaldera x0 x1 x2 s).quiet = s.quiet := by
  intros; unfold mirrorCaldera; repeat' first | with_reducible rfl | (simp; done) | split
@[simp] theorem xchkPost_quiet : ∀ x0 x1 x2 s, (xchkPost x0 x1 x2 s).quiet = s.quiet := by intros; unfold xchkPost; simp
@[simp] theorem sendHello_quiet : ∀ s, (sendHello s).quiet = s.quiet := by intros; unfold sendHello; simp
@[simp] theorem readSlot_quiet : ∀ x0 x1 x2 s, (readSlot x0 x1 x2 s).2.quiet = s.quiet := by
  intros; unfold readSlot; repeat' first | with_reducible rfl | (simp; done) | split
@[simp] theorem countClips_quiet : ∀ x0 x1 x2 x3 x4 x5 x6 s, (countClips x0 x1 x2 x3 x4 x5 x6 s).quiet = s.quiet := by
  intros; unfold countClips; repeat' first | with_reducible rfl | (simp; done) | split
@[simp] theorem spanDone_quiet : ∀ x0 x1 x2 x3 x4 x5 x6 s, (spanDone x0 x1 x2 x3 x4 x5 x6 s).quiet = s.quiet := by
  intros; unfold spanDone; repeat' first | with_reducible rfl | (simp; done) | split
@[simp] theorem routeWith_quiet : ∀ x0 x1 x2 x3 x4 s, (routeWith x0 x1 x2 x3 x4 s).quiet = s.quiet := by intros; unfold routeWith; simp
@[simp] theorem routeLine_quiet : ∀ x0 x1 x2 x3 s, (routeLine x0 x1 x2 x3 s).quiet = s.quiet := by
  intros; unfold routeLine; repeat' first | with_reducible rfl | (simp; done) | split
@[simp] theorem dropGeyserLines_quiet : ∀ x0 s, (dropGeyserLines x0 s).quiet = s.quiet := by
  intros; unfold dropGeyserLines; try dsimp only
  repeat' first | with_reducible rfl | (simp; done) | split | refine Eq.trans (forAll_quiet _ _ _ fun _ _ => ?_) ?_ |
    (simp only [onBar, onDev, andThen, valueOk, checked, rated, holderOnly, forwarded]; try dsimp only) | (simp; intros)
@[simp] theorem purgeEffect_quiet : ∀ x0 x1 x2 x3 s, (purgeEffect x0 x1 x2 x3 s).2.quiet = s.quiet := by
  intros; unfold purgeEffect; try dsimp only
  repeat' first | with_reducible rfl | (simp; done) | split | refine Eq.trans (forAll_quiet _ _ _ fun _ _ => ?_) ?_ |
    (simp only [onBar, onDev, andThen, valueOk, checked, rated, holderOnly, forwarded]; try dsimp only) | (simp; intros)
@[simp] theorem valueOk_quiet : ∀ x0 x1 x2 x3 x4 s, (valueOk x0 x1 x2 x3 x4 s).2.quiet = s.quiet := by
  intros; unfold valueOk; try dsimp only
  repeat' first | with_reducible rfl | (simp; done) | split | refine Eq.trans (forAll_quiet _ _ _ fun _ _ => ?_) ?_ |
    (simp only [onBar, onDev, andThen, valueOk, checked, rated, holderOnly, forwarded]; try dsimp only) | (simp; intros)
@[simp] theorem violationEffect_quiet : ∀ x0 x1 x2 x3 s, (violationEffect x0 x1 x2 x3 s).2.quiet = s.quiet := by
  intros; unfold violationEffect; try dsimp only
  repeat' first | with_reducible rfl | (simp; done) | split | refine Eq.trans (forAll_quiet _ _ _ fun _ _ => ?_) ?_ |
    (simp only [onBar, onDev, andThen, valueOk, checked, rated, holderOnly, forwarded]; try dsimp only) | (simp; intros)
@[simp] theorem defaultTables_quiet : ∀ x0 s, (defaultTables x0 s).quiet = s.quiet := by intros; unfold defaultTables; simp
@[simp] theorem portEffect_quiet : ∀ x0 x1 x2 x3 s, (portEffect x0 x1 x2 x3 s).2.quiet = s.quiet := by
  intros; unfold portEffect; try dsimp only
  repeat' first | with_reducible rfl | (simp; done) | split | refine Eq.trans (forAll_quiet _ _ _ fun _ _ => ?_) ?_ |
    (simp only [onBar, onDev, andThen, valueOk, checked, rated, holderOnly, forwarded]; try dsimp only) | (simp; intros)
@[simp] theorem routeEffect_quiet : ∀ x0 x1 x2 x3 s, (routeEffect x0 x1 x2 x3 s).2.quiet = s.quiet := by
  intros; unfold routeEffect; try dsimp only
  repeat' first | with_reducible rfl | (simp; done) | split | refine Eq.trans (forAll_quiet _ _ _ fun _ _ => ?_) ?_ |
    (simp only [onBar, onDev, andThen, valueOk, checked, rated, holderOnly, forwarded]; try dsimp only) | (simp; intros)
@[simp] theorem extCfgEffect_quiet : ∀ x0 x1 x2 x3 s, (extCfgEffect x0 x1 x2 x3 s).2.quiet = s.quiet := by
  intros; unfold extCfgEffect; try dsimp only
  repeat' first | with_reducible rfl | (simp; done) | split | refine Eq.trans (forAll_quiet _ _ _ fun _ _ => ?_) ?_ |
    (simp only [onBar, onDev, andThen, valueOk, checked, rated, holderOnly, forwarded]; try dsimp only) | (simp; intros)
@[simp] theorem cmpCfgEffect_quiet : ∀ x0 x1 x2 x3 s, (cmpCfgEffect x0 x1 x2 x3 s).2.quiet = s.quiet := by
  intros; unfold cmpCfgEffect; try dsimp only
  repeat' first | with_reducible rfl | (simp; done) | split | refine Eq.trans (forAll_quiet _ _ _ fun _ _ => ?_) ?_ |
    (simp only [onBar, onDev, andThen, valueOk, checked, rated, holderOnly, forwarded]; try dsimp only) | (simp; intros)
@[simp] theorem ownEffect_quiet : ∀ x0 x1 x2 x3 x4 s, (ownEffect x0 x1 x2 x3 x4 s).2.quiet = s.quiet := by
  intros; unfold ownEffect; try dsimp only
  repeat' first | with_reducible rfl | (simp; done) | split | refine Eq.trans (forAll_quiet _ _ _ fun _ _ => ?_) ?_ |
    (simp only [onBar, onDev, andThen, valueOk, checked, rated, holderOnly, forwarded]; try dsimp only) | (simp; intros)
@[simp] theorem discardHeld_quiet : ∀ x0 s, (discardHeld x0 s).quiet = s.quiet := by
  intros; unfold discardHeld; try dsimp only
  repeat' first | with_reducible rfl | (simp; done) | split | refine Eq.trans (forAll_quiet _ _ _ fun _ _ => ?_) ?_ |
    (simp only [onBar, onDev, andThen, valueOk, checked, rated, holderOnly, forwarded, withRate, hostTime, toStandby, onRecord, byThread, byMachine, upFrame]; try dsimp only) | (simp; intros)
@[simp] theorem dropHalves_quiet : ∀ x0 x1 s, (dropHalves x0 x1 s).quiet = s.quiet := by
  intros; unfold dropHalves; try dsimp only
  repeat' first | with_reducible rfl | (simp; done) | split | refine Eq.trans (forAll_quiet _ _ _ fun _ _ => ?_) ?_ |
    (simp only [onBar, onDev, andThen, valueOk, checked, rated, holderOnly, forwarded]; try dsimp only) | (simp; intros)
@[simp] theorem pieceRead_quiet : ∀ x0 x1 x2 x3 s, (pieceRead x0 x1 x2 x3 s).2.quiet = s.quiet := by
  intros; unfold pieceRead; try dsimp only
  repeat' first | with_reducible rfl | (simp; done) | split | refine Eq.trans (forAll_quiet _ _ _ fun _ _ => ?_) ?_ |
    (simp only [onBar, onDev, andThen, valueOk, checked, rated, holderOnly, forwarded]; try dsimp only) | (simp; intros)
@[simp] theorem blockStart_quiet : ∀ x0 x1 x2 x3 x4 x5 s, (blockStart x0 x1 x2 x3 x4 x5 s).2.quiet = s.quiet := by
  intros; unfold blockStart; repeat' first | with_reducible rfl | (simp; done) | split
@[simp] theorem modChan_quiet : ∀ x0 x1 x2 s, (modChan x0 x1 x2 s).quiet = s.quiet := by intros; unfold modChan; simp
@[simp] theorem blockEvent_quiet : ∀ x0 x1 x2 x3 s, (blockEvent x0 x1 x2 x3 s).quiet = s.quiet := by
  intros; unfold blockEvent; repeat' first | with_reducible rfl | (simp; done) | split
@[simp] theorem endChan_quiet : ∀ x0 x1 x2 x3 x4 s, (endChan x0 x1 x2 x3 x4 s).quiet = s.quiet := by intros; unfold endChan; simp
@[simp] theorem beginChan_quiet : ∀ x0 x1 x2 x3 x4 x5 x6 s, (beginChan x0 x1 x2 x3 x4 x5 x6 s).quiet = s.quiet := by intros; unfold beginChan; simp
@[simp] theorem startChan_quiet : ∀ x0 x1 x2 x3 s, (startChan x0 x1 x2 x3 s).quiet = s.quiet := by
  intros; unfold startChan; try dsimp only
  repeat' first | with_reducible rfl | (simp; done) | split | refine Eq.trans (forAll_quiet _ _ _ fun _ _ => ?_) ?_ |
    (simp only [onBar, onDev, andThen, valueOk, checked, rated, holderOnly, forwarded]; try dsimp only) | (simp; intros)
@[simp] theorem plainReply_quiet : ∀ x0 x1 x2 x3 x4 s, (plainReply x0 x1 x2 x3 x4 s).quiet = s.quiet := by intros; unfold plainReply; simp
@[simp] theorem authRefused_quiet : ∀ x0 x1 x2 s, (authRefused x0 x1 x2 s).quiet = s.quiet := by intros; unfold authRefused; simp
@[simp] theorem welcome_quiet : ∀ x0 x1 x2 x3 x4 s, (welcome x0 x1 x2 x3 x4 s).quiet = s.quiet := by intros; unfold welcome; simp
@[simp] theorem authServe_quiet : ∀ x0 s, (authServe x0 s).quiet = s.quiet := by
  intros; unfold authServe; try dsimp only
  repeat' first | with_reducible rfl | (simp; done) | split | refine Eq.trans (forAll_quiet _ _ _ fun _ _ => ?_) ?_ |
    (simp only [onBar, onDev, andThen, valueOk, checked, rated, holderOnly, forwarded]; try dsimp only) | (simp; intros)
@[simp] theorem readSlots_quiet : ∀ x0 x1 x2 x3 s, (readSlots x0 x1 x2 x3 s).2.quiet = s.quiet := by
  intro x0 x1 x2 n
  induction n generalizing x2 with
  | zero => intro s; rfl
  | succ n ih => intro s; unfold readSlots; simp [ih]
@[simp] theorem readItem_quiet : ∀ x0 x1 x2 x3 x4 s, (readItem x0 x1 x2 x3 x4 s).2.quiet = s.quiet := by
  intros; unfold readItem; repeat' first | with_reducible rfl | (simp; done) | split
@[simp] theorem readItems_quiet : ∀ x0 x1 x2 x3 s, (readItems x0 x1 x2 x3 s).2.quiet = s.quiet := by
  intro x0 n
  induction n with
  | zero => intro _ _ s; rfl
  | succ n ih => intro _ _ s; unfold readItems; dsimp only; split <;> simp [ih]
@[simp] theorem openBlock_quiet : ∀ x0 x1 x2 x3 x4 x5 x6 x7 x8 s, (openBlock x0 x1 x2 x3 x4 x5 x6 x7 x8 s).quiet = s.quiet := by intros; unfold openBlock; simp
@[simp] theorem takeBlock_quiet : ∀ x0 x1 x2 x3 x4 x5 x6 x7 x8 x9 x10 s, (takeBlock x0 x1 x2 x3 x4 x5 x6 x7 x8 x9 x10 s).2.quiet = s.quiet := by
  intros; unfold takeBlock; repeat' first | with_reducible rfl | (simp; done) | split
@[simp] theorem depositBlock_quiet : ∀ x0 x1 s, (depositBlock x0 x1 s).2.quiet = s.quiet := by
  intros; unfold depositBlock; try dsimp only
  repeat' first | with_reducible rfl | (simp; done) | split | refine Eq.trans (forAll_quiet _ _ _ fun _ _ => ?_) ?_ |
    (simp only [onBar, onDev, andThen, valueOk, checked, rated, holderOnly, forwarded]; try dsimp only) | (simp; intros)
@[simp] theorem streamNext_quiet : ∀ x0 x1 s, (streamNext x0 x1 s).quiet = s.quiet := by
  intros; unfold streamNext; try dsimp only
  repeat' first | with_reducible rfl | (simp; done) | split | refine Eq.trans (forAll_quiet _ _ _ fun _ _ => ?_) ?_ |
    (simp only [onBar, onDev, andThen, valueOk, checked, rated, holderOnly, forwarded, withRate, hostTime, toStandby, onRecord, byThread, byMachine, upFrame]; try dsimp only) | (simp; intros)
@[simp] theorem sessionOverflow_quiet : ∀ x0 s, (sessionOverflow x0 s).quiet = s.quiet := by
  intros; unfold sessionOverflow; repeat' first | with_reducible rfl | (simp; done) | split
@[simp] theorem ackEvent_quiet : ∀ x0 x1 s, (ackEvent x0 x1 s).2.quiet = s.quiet := by
  intros; unfold ackEvent; repeat' first | with_reducible rfl | (simp; done) | split
@[simp] theorem answer_quiet : ∀ x0 x1 x2 x3 x4 s, (answer x0 x1 x2 x3 x4 s).quiet = s.quiet := by
  intros; unfold answer; repeat' first | with_reducible rfl | (simp; done) | split
@[simp] theorem refuseSeq_quiet : ∀ x0 x1 x2 x3 s, (refuseSeq x0 x1 x2 x3 s).quiet = s.quiet := by intros; unfold refuseSeq; simp
@[simp] theorem repeatEvent_quiet : ∀ x0 x1 x2 s, (repeatEvent x0 x1 x2 s).quiet = s.quiet := by intros; unfold repeatEvent; simp

end Sys2Proof.Machine
end

