-- ==== Sys2Proof/Laws/Dram.lean ====
section
/-!
SUPPORT. The operations that leave the memory subchannels alone (R244 to R260), one lemma each.
-/
set_option linter.unusedSimpArgs false
set_option linter.unusedVariables false
namespace Sys2Proof.Machine
open Sys2Proof

@[simp] theorem forAll_subch {α : Type} (xs : List α) (f : α → State → State) (s : State)
    (h : ∀ x t, (f x t).subch = t.subch) : (forAll xs f s).subch = s.subch := forAll_keeps State.subch xs f s h

theorem quiet_to_subch {s t : State} (h : t.quiet = s.quiet) : t.subch = s.subch := (congrArg State.subch h : t.quiet.subch = s.quiet.subch)

@[simp] theorem State_modBar_subch : ∀ s x1 x2, (State.modBar s x1 x2).subch = s.subch := fun s x1 x2 => quiet_to_subch (State_modBar_quiet _ _ _)
@[simp] theorem State_modPort_subch : ∀ s x1 x2, (State.modPort s x1 x2).subch = s.subch := by intros; unfold State.modPort; simp
@[simp] theorem State_modFn_subch : ∀ s x1 x2, (State.modFn s x1 x2).subch = s.subch := fun s x1 x2 => quiet_to_subch (State_modFn_quiet _ _ _)
@[simp] theorem State_modEnc_subch : ∀ s x1 x2, (State.modEnc s x1 x2).subch = s.subch := by intros; unfold State.modEnc; simp
@[simp] theorem State_modMark_subch : ∀ s x1 x2, (State.modMark s x1 x2).subch = s.subch := by intros; unfold State.modMark; simp
@[simp] theorem State_modDray_subch : ∀ s x1 x2, (State.modDray s x1 x2).subch = s.subch := by intros; unfold State.modDray; simp
@[simp] theorem State_modSupply_subch : ∀ s x1 x2, (State.modSupply s x1 x2).subch = s.subch := by intros; unfold State.modSupply; simp
@[simp] theorem State_modAxis_subch : ∀ s x1 x2, (State.modAxis s x1 x2).subch = s.subch := by intros; unfold State.modAxis; simp
@[simp] theorem State_modSsi_subch : ∀ s x1 x2, (State.modSsi s x1 x2).subch = s.subch := by intros; unfold State.modSsi; simp
@[simp] theorem State_modCmp_subch : ∀ s x1 x2, (State.modCmp s x1 x2).subch = s.subch := by intros; unfold State.modCmp; simp
@[simp] theorem State_modCam_subch : ∀ s x1 x2, (State.modCam s x1 x2).subch = s.subch := by intros; unfold State.modCam; simp
@[simp] theorem State_modEngine_subch : ∀ s x1 x2, (State.modEngine s x1 x2).subch = s.subch := by intros; unfold State.modEngine; simp
@[simp] theorem State_modThread_subch : ∀ s x1 x2, (State.modThread s x1 x2).subch = s.subch := fun s x1 x2 => quiet_to_subch (State_modThread_quiet _ _ _)
@[simp] theorem State_modFlow_subch : ∀ s x1 x2, (State.modFlow s x1 x2).subch = s.subch := fun s x1 x2 => quiet_to_subch (State_modFlow_quiet _ _ _)
@[simp] theorem State_modCore_subch : ∀ s x1 x2, (State.modCore s x1 x2).subch = s.subch := fun s x1 x2 => quiet_to_subch (State_modCore_quiet _ _ _)
@[simp] theorem State_modFum_subch : ∀ s x1 x2, (State.modFum s x1 x2).subch = s.subch := by intros; unfold State.modFum; simp
@[simp] theorem State_modPower_subch : ∀ s x1, (State.modPower s x1).subch = s.subch := by intros; unfold State.modPower; simp
@[simp] theorem State_modPair_subch : ∀ s x1, (State.modPair s x1).subch = s.subch := by intros; unfold State.modPair; simp
@[simp] theorem State_modTrig_subch : ∀ s x1, (State.modTrig s x1).subch = s.subch := by intros; unfold State.modTrig; simp
@[simp] theorem State_modNet_subch : ∀ s x1, (State.modNet s x1).subch = s.subch := by intros; unfold State.modNet; simp
@[simp] theorem State_modMoa_subch : ∀ s x1, (State.modMoa s x1).subch = s.subch := fun s x1 => quiet_to_subch (State_modMoa_quiet _ _)
@[simp] theorem State_modBoot_subch : ∀ s x1, (State.modBoot s x1).subch = s.subch := by intros; unfold State.modBoot; simp
@[simp] theorem State_modMram_subch : ∀ s x1, (State.modMram s x1).subch = s.subch := by intros; unfold State.modMram; simp
@[simp] theorem State_modTest_subch : ∀ s x1, (State.modTest s x1).subch = s.subch := by intros; unfold State.modTest; simp
@[simp] theorem State_modPins_subch : ∀ s x1, (State.modPins s x1).subch = s.subch := by intros; unfold State.modPins; simp
@[simp] theorem State_modSched_subch : ∀ s x1, (State.modSched s x1).subch = s.subch := fun s x1 => quiet_to_subch (State_modSched_quiet _ _)
@[simp] theorem State_modIntake_subch : ∀ s x1 x2, (State.modIntake s x1 x2).subch = s.subch := fun s x1 x2 => quiet_to_subch (State_modIntake_quiet _ _ _)
@[simp] theorem State_modScan_subch : ∀ s x1 x2, (State.modScan s x1 x2).subch = s.subch := fun s x1 x2 => quiet_to_subch (State_modScan_quiet _ _ _)
@[simp] theorem State_wakeDomain_subch : ∀ s x1, (State.wakeDomain s x1).subch = s.subch := by
  intros; unfold State.wakeDomain; repeat' first | with_reducible rfl | (simp; done) | split
@[simp] theorem State_idleDomain_subch : ∀ s x1, (State.idleDomain s x1).subch = s.subch := by intros; unfold State.idleDomain; simp
@[simp] theorem State_trimBegin_subch : ∀ s x1, (State.trimBegin s x1).subch = s.subch := by intros; unfold State.trimBegin; simp
@[simp] theorem State_emit_subch : ∀ s x1, (State.emit s x1).subch = s.subch := fun s x1 => quiet_to_subch (State_emit_quiet _ _)
@[simp] theorem State_draw_subch : ∀ s, (State.draw s).2.subch = s.subch := by intros; unfold State.draw; simp
@[simp] theorem State_setDv_subch : ∀ s x1 x2 x3, (State.setDv s x1 x2 x3).subch = s.subch := fun s x1 x2 x3 => quiet_to_subch (State_setDv_quiet _ _ _ _)
@[simp] theorem State_setDvi_subch : ∀ s x1 x2 x3, (State.setDvi s x1 x2 x3).subch = s.subch := fun s x1 x2 x3 => quiet_to_subch (State_setDvi_quiet _ _ _ _)
@[simp] theorem State_setBo_subch : ∀ s x1 x2 x3 x4, (State.setBo s x1 x2 x3 x4).subch = s.subch := fun s x1 x2 x3 x4 => quiet_to_subch (State_setBo_quiet _ _ _ _ _)
@[simp] theorem State_setBoi_subch : ∀ s x1 x2 x3 x4, (State.setBoi s x1 x2 x3 x4).subch = s.subch := fun s x1 x2 x3 x4 => quiet_to_subch (State_setBoi_quiet _ _ _ _ _)
@[simp] theorem State_bumpN_subch : ∀ s x1 x2 x3, (State.bumpN s x1 x2 x3).subch = s.subch := fun s x1 x2 x3 => quiet_to_subch (State_bumpN_quiet _ _ _ _)
@[simp] theorem State_bump_subch : ∀ s x1 x2, (State.bump s x1 x2).subch = s.subch := fun s x1 x2 => quiet_to_subch (State_bump_quiet _ _ _)
@[simp] theorem State_bumpBN_subch : ∀ s x1 x2 x3 x4, (State.bumpBN s x1 x2 x3 x4).subch = s.subch := fun s x1 x2 x3 x4 => quiet_to_subch (State_bumpBN_quiet _ _ _ _ _)
@[simp] theorem State_bumpB_subch : ∀ s x1 x2 x3, (State.bumpB s x1 x2 x3).subch = s.subch := fun s x1 x2 x3 => quiet_to_subch (State_bumpB_quiet _ _ _ _)
@[simp] theorem State_count64_subch : ∀ s x1 x2 x3, (State.count64 s x1 x2 x3).subch = s.subch := fun s x1 x2 x3 => quiet_to_subch (State_count64_quiet _ _ _ _)
@[simp] theorem State_countB64_subch : ∀ s x1 x2 x3 x4, (State.countB64 s x1 x2 x3 x4).subch = s.subch := fun s x1 x2 x3 x4 => quiet_to_subch (State_countB64_quiet _ _ _ _ _)
@[simp] theorem State_setBit_subch : ∀ s x1 x2 x3 x4, (State.setBit s x1 x2 x3 x4).subch = s.subch := fun s x1 x2 x3 x4 => quiet_to_subch (State_setBit_quiet _ _ _ _ _)
@[simp] theorem State_setDw_subch : ∀ s x1 x2 x3, (State.setDw s x1 x2 x3).subch = s.subch := fun s x1 x2 x3 => quiet_to_subch (State_setDw_quiet _ _ _ _)
@[simp] theorem State_setBw_subch : ∀ s x1 x2 x3 x4, (State.setBw s x1 x2 x3 x4).subch = s.subch := fun s x1 x2 x3 x4 => quiet_to_subch (State_setBw_quiet _ _ _ _ _)
@[simp] theorem signal_subch : ∀ x0 x1 s, (signal x0 x1 s).subch = s.subch := fun x0 x1 s => quiet_to_subch (signal_quiet _ _ _)
@[simp] theorem eqWrite_subch : ∀ x0 x1 x2 s, (eqWrite x0 x1 x2 s).subch = s.subch := fun x0 x1 x2 s => quiet_to_subch (eqWrite_quiet _ _ _ _)
@[simp] theorem eqFlush_subch : ∀ x0 s, (eqFlush x0 s).subch = s.subch := fun x0 s => quiet_to_subch (eqFlush_quiet _ _)
@[simp] theorem eqPush_subch : ∀ x0 x1 x2 s, (eqPush x0 x1 x2 s).subch = s.subch := fun x0 x1 x2 s => quiet_to_subch (eqPush_quiet _ _ _ _)
@[simp] theorem deqWrite_subch : ∀ x0 x1 s, (deqWrite x0 x1 s).subch = s.subch := fun x0 x1 s => quiet_to_subch (deqWrite_quiet _ _ _)
@[simp] theorem deqFlush_subch : ∀ s, (deqFlush s).subch = s.subch := fun s => quiet_to_subch (deqFlush_quiet _)
@[simp] theorem deqPush_subch : ∀ x0 x1 s, (deqPush x0 x1 s).subch = s.subch := fun x0 x1 s => quiet_to_subch (deqPush_quiet _ _ _)
@[simp] theorem moaSend_subch : ∀ x0 x1 x2 x3 x4 x5 x6 s, (moaSend x0 x1 x2 x3 x4 x5 x6 s).subch = s.subch := fun x0 x1 x2 x3 x4 x5 x6 s => quiet_to_subch (moaSend_quiet _ _ _ _ _ _ _ _)
@[simp] theorem State_modSession_subch : ∀ s x1 x2, (State.modSession s x1 x2).subch = s.subch := fun s x1 x2 => quiet_to_subch (State_modSession_quiet _ _ _)
@[simp] theorem moaEventSend_subch : ∀ x0 x1 x2 s, (moaEventSend x0 x1 x2 s).subch = s.subch := fun x0 x1 x2 s => quiet_to_subch (moaEventSend_quiet _ _ _ _)
@[simp] theorem moaEvent_subch : ∀ x0 x1 s, (moaEvent x0 x1 s).subch = s.subch := fun x0 x1 s => quiet_to_subch (moaEvent_quiet _ _ _)
@[simp] theorem deliverAll_subch : ∀ x0 s, (deliverAll x0 s).subch = s.subch := fun x0 s => quiet_to_subch (deliverAll_quiet _ _)
@[simp] theorem deliver_subch : ∀ x0 s, (deliver x0 s).subch = s.subch := fun x0 s => quiet_to_subch (deliver_quiet _ _)
@[simp] theorem chargeCore_subch : ∀ x0 s, (chargeCore x0 s).subch = s.subch := fun x0 s => quiet_to_subch (chargeCore_quiet _ _)
@[simp] theorem chargeAll_subch : ∀ s, (chargeAll s).subch = s.subch := fun s => quiet_to_subch (chargeAll_quiet _)
@[simp] theorem leaveCore_subch : ∀ x0 s, (leaveCore x0 s).subch = s.subch := fun x0 s => quiet_to_subch (leaveCore_quiet _ _)
@[simp] theorem runOn_subch : ∀ x0 x1 s, (runOn x0 x1 s).subch = s.subch := fun x0 x1 s => quiet_to_subch (runOn_quiet _ _ _)
@[simp] theorem dispatch_subch : ∀ s, (dispatch s).subch = s.subch := fun s => quiet_to_subch (dispatch_quiet _)
@[simp] theorem preempt_subch : ∀ x0 s, (preempt x0 s).2.subch = s.subch := fun x0 s => quiet_to_subch (preempt_quiet _ _)
@[simp] theorem makeReady_subch : ∀ x0 s, (makeReady x0 s).subch = s.subch := fun x0 s => quiet_to_subch (makeReady_quiet _ _)
@[simp] theorem setFlag_subch : ∀ x0 x1 s, (setFlag x0 x1 s).subch = s.subch := fun x0 x1 s => quiet_to_subch (setFlag_quiet _ _ _)
@[simp] theorem postFlag_subch : ∀ x0 x1 s, (postFlag x0 x1 s).subch = s.subch := fun x0 x1 s => quiet_to_subch (postFlag_quiet _ _ _)
@[simp] theorem raiseQuiet_subch : ∀ x0 s, (raiseQuiet x0 s).subch = s.subch := fun x0 s => quiet_to_subch (raiseQuiet_quiet _ _)
@[simp] theorem judgeWait_subch : ∀ x0 s, (judgeWait x0 s).subch = s.subch := fun x0 s => quiet_to_subch (judgeWait_quiet _ _)
@[simp] theorem raiseSource_subch : ∀ x0 s, (raiseSource x0 s).subch = s.subch := fun x0 s => quiet_to_subch (raiseSource_quiet _ _)
@[simp] theorem post_subch : ∀ x0 s, (post x0 s).subch = s.subch := fun x0 s => quiet_to_subch (post_quiet _ _)
@[simp] theorem postD_subch : ∀ x0 x1 x2 s, (postD x0 x1 x2 s).subch = s.subch := fun x0 x1 x2 s => quiet_to_subch (postD_quiet _ _ _ _)
@[simp] theorem postB_subch : ∀ x0 x1 x2 x3 x4 s, (postB x0 x1 x2 x3 x4 s).subch = s.subch := fun x0 x1 x2 x3 x4 s => quiet_to_subch (postB_quiet _ _ _ _ _ _)
@[simp] theorem setPairState_subch : ∀ x0 s, (setPairState x0 s).subch = s.subch := by
  intros; unfold setPairState; repeat' first | with_reducible rfl | (simp; done) | split
@[simp] theorem pairSend_subch : ∀ x0 s, (pairSend x0 s).subch = s.subch := fun x0 s => quiet_to_subch (pairSend_quiet _ _)
@[simp] theorem mirror_subch : ∀ x0 s, (mirror x0 s).subch = s.subch := fun x0 s => quiet_to_subch (mirror_quiet _ _)
@[simp] theorem dropWebSlow_subch : ∀ s, (dropWebSlow s).subch = s.subch := by intros; unfold dropWebSlow; simp
@[simp] theorem standbyOutputs_subch : ∀ s, (standbyOutputs s).subch = s.subch := by intros; unfold standbyOutputs; simp
@[simp] theorem abandonSearch_subch : ∀ x0 s, (abandonSearch x0 s).subch = s.subch := by
  intros; unfold abandonSearch; repeat' first | with_reducible rfl | (simp; done) | split
@[simp] theorem abandonSearches_subch : ∀ s, (abandonSearches s).subch = s.subch := by intros; unfold abandonSearches; simp
@[simp] theorem ownMirror_subch : ∀ s, (ownMirror s).subch = s.subch := by intros; unfold ownMirror; simp
@[simp] theorem dropWrites_subch : ∀ s, (dropWrites s).subch = s.subch := by intros; unfold dropWrites; simp
@[simp] theorem releaseReins_subch : ∀ x0 s, (releaseReins x0 s).subch = s.subch := by
  intros; unfold releaseReins; repeat' first | with_reducible rfl | (simp; done) | split
@[simp] theorem logVolatile_subch : ∀ x0 s, (logVolatile x0 s).subch = s.subch := by intros; unfold logVolatile; simp
@[simp] theorem logMram_subch : ∀ x0 x1 s, (logMram x0 x1 s).subch = s.subch := by
  intros; unfold logMram; try dsimp only
  repeat' first | with_reducible rfl | (simp; done) | split | refine Eq.trans (forAll_subch _ _ _ fun _ _ => ?_) ?_ |
    (simp only [onBar, onDev, andThen, valueOk, checked, rated, holderOnly, forwarded]; try dsimp only) | (simp; intros)
@[simp] theorem logBoth_subch : ∀ x0 s, (logBoth x0 s).subch = s.subch := by intros; unfold logBoth; simp
@[simp] theorem setCause_subch : ∀ x0 s, (setCause x0 s).subch = s.subch := by
  intros; unfold setCause; try dsimp only
  repeat' first | with_reducible rfl | (simp; done) | split | refine Eq.trans (forAll_subch _ _ _ fun _ _ => ?_) ?_ |
    (simp only [onBar, onDev, andThen, valueOk, checked, rated, holderOnly, forwarded]; try dsimp only) | (simp; intros)
@[simp] theorem deviceFault_subch : ∀ x0 s, (deviceFault x0 s).subch = s.subch := by intros; unfold deviceFault; simp
@[simp] theorem retire_subch : ∀ x0 x1 x2 s, (retire x0 x1 x2 s).subch = s.subch := by
  intros; unfold retire; repeat' first | with_reducible rfl | (simp; done) | split
@[simp] theorem noteFault_subch : ∀ x0 x1 x2 s, (noteFault x0 x1 x2 s).subch = s.subch := by
  intros; unfold noteFault; try dsimp only
  repeat' first | with_reducible rfl | (simp; done) | split | refine Eq.trans (forAll_subch _ _ _ fun _ _ => ?_) ?_ |
    (simp only [onBar, onDev, andThen, valueOk, checked, rated, holderOnly, forwarded]; try dsimp only) | (simp; intros)
@[simp] theorem channelFault_subch : ∀ x0 x1 x2 s, (channelFault x0 x1 x2 s).2.subch = s.subch := by
  intros; unfold channelFault; try dsimp only
  repeat' first | with_reducible rfl | (simp; done) | split | refine Eq.trans (forAll_subch _ _ _ fun _ _ => ?_) ?_ |
    (simp only [onBar, onDev, andThen, valueOk, checked, rated, holderOnly, forwarded]; try dsimp only) | (simp; intros)
@[simp] theorem reinstateChan_subch : ∀ x0 x1 s, (reinstateChan x0 x1 s).subch = s.subch := by
  intros; unfold reinstateChan; repeat' first | with_reducible rfl | (simp; done) | split
@[simp] theorem rejudge_subch : ∀ s, (rejudge s).subch = s.subch := by intros; unfold rejudge; simp
@[simp] theorem State_modPage_subch : ∀ s x1 x2 x3, (State.modPage s x1 x2 x3).subch = s.subch := fun s x1 x2 x3 => quiet_to_subch (State_modPage_quiet _ _ _ _)
@[simp] theorem State_flagPage_subch : ∀ s x1 x2 x3, (State.flagPage s x1 x2 x3).subch = s.subch := fun s x1 x2 x3 => quiet_to_subch (State_flagPage_quiet _ _ _ _)
@[simp] theorem flagNext_subch : ∀ x0 x1 s, (flagNext x0 x1 s).subch = s.subch := fun x0 x1 s => quiet_to_subch (flagNext_quiet _ _ _)
@[simp] theorem evictPage_subch : ∀ x0 x1 s, (evictPage x0 x1 s).subch = s.subch := fun x0 x1 s => quiet_to_subch (evictPage_quiet _ _ _)
@[simp] theorem postPaused_subch : ∀ x0 x1 x2 s, (postPaused x0 x1 x2 s).subch = s.subch := fun x0 x1 x2 s => quiet_to_subch (postPaused_quiet _ _ _ _)
@[simp] theorem makeRoom_subch : ∀ x0 x1 x2 s, (makeRoom x0 x1 x2 s).subch = s.subch := fun x0 x1 x2 s => quiet_to_subch (makeRoom_quiet _ _ _ _)
@[simp] theorem retryRoom_subch : ∀ x0 s, (retryRoom x0 s).subch = s.subch := fun x0 s => quiet_to_subch (retryRoom_quiet _ _)
@[simp] theorem evictToQuota_subch : ∀ x0 x1 s, (evictToQuota x0 x1 s).subch = s.subch := fun x0 x1 s => quiet_to_subch (evictToQuota_quiet _ _ _)
@[simp] theorem applyQuota_subch : ∀ x0 s, (applyQuota x0 s).subch = s.subch := fun x0 s => quiet_to_subch (applyQuota_quiet _ _)
@[simp] theorem retainPrinted_subch : ∀ x0 x1 s, (retainPrinted x0 x1 s).subch = s.subch := fun x0 x1 s => quiet_to_subch (retainPrinted_quiet _ _ _)
@[simp] theorem closeIfDone_subch : ∀ x0 x1 s, (closeIfDone x0 x1 s).subch = s.subch := fun x0 x1 s => quiet_to_subch (closeIfDone_quiet _ _ _)
@[simp] theorem rectIncomplete_subch : ∀ x0 x1 x2 s, (rectIncomplete x0 x1 x2 s).subch = s.subch := fun x0 x1 x2 s => quiet_to_subch (rectIncomplete_quiet _ _ _ _)
@[simp] theorem rectsUnknown_subch : ∀ x0 x1 x2 x3 x4 x5 s, (rectsUnknown x0 x1 x2 x3 x4 x5 s).subch = s.subch := fun x0 x1 x2 x3 x4 x5 s => quiet_to_subch (rectsUnknown_quiet _ _ _ _ _ _ _)
@[simp] theorem quotaAfterLoss_subch : ∀ x0 x1 s, (quotaAfterLoss x0 x1 s).subch = s.subch := fun x0 x1 s => quiet_to_subch (quotaAfterLoss_quiet _ _ _)
@[simp] theorem postSpan_subch : ∀ x0 x1 x2 x3 x4 x5 s, (postSpan x0 x1 x2 x3 x4 x5 s).subch = s.subch := fun x0 x1 x2 x3 x4 x5 s => quiet_to_subch (postSpan_quiet _ _ _ _ _ _ _)
@[simp] theorem wagonFail_subch : ∀ x0 x1 x2 x3 s, (wagonFail x0 x1 x2 x3 s).subch = s.subch := fun x0 x1 x2 x3 s => quiet_to_subch (wagonFail_quiet _ _ _ _ _)
@[simp] theorem writeInteg_subch : ∀ x0 x1 s, (writeInteg x0 x1 s).subch = s.subch := fun x0 x1 s => quiet_to_subch (writeInteg_quiet _ _ _)
@[simp] theorem rectFinal_subch : ∀ x0 x1 x2 s, (rectFinal x0 x1 x2 s).subch = s.subch := fun x0 x1 x2 s => quiet_to_subch (rectFinal_quiet _ _ _ _)
@[simp] theorem integCheck_subch : ∀ x0 x1 s, (integCheck x0 x1 s).subch = s.subch := fun x0 x1 s => quiet_to_subch (integCheck_quiet _ _ _)
@[simp] theorem integCut_subch : ∀ x0 x1 s, (integCut x0 x1 s).subch = s.subch := fun x0 x1 s => quiet_to_subch (integCut_quiet _ _ _)
@[simp] theorem auditCheck_subch : ∀ x0 s, (auditCheck x0 s).subch = s.subch := fun x0 s => quiet_to_subch (auditCheck_quiet _ _)
@[simp] theorem countFrame_subch : ∀ x0 s, (countFrame x0 s).subch = s.subch := by intros; unfold countFrame; simp
@[simp] theorem sendIdle_subch : ∀ x0 s, (sendIdle x0 s).subch = s.subch := fun x0 s => quiet_to_subch (sendIdle_quiet _ _)
@[simp] theorem sendReq_subch : ∀ x0 x1 s, (sendReq x0 x1 s).subch = s.subch := by intros; unfold sendReq; simp
@[simp] theorem pumpReqs_subch : ∀ x0 s, (pumpReqs x0 s).subch = s.subch := by
  intros; unfold pumpReqs; try dsimp only
  repeat' first | with_reducible rfl | (simp; done) | split | refine Eq.trans (forAll_subch _ _ _ fun _ _ => ?_) ?_ |
    (simp only [onBar, onDev, andThen, valueOk, checked, rated, holderOnly, forwarded]; try dsimp only) | (simp; intros)
@[simp] theorem addReq_subch : ∀ x0 x1 x2 x3 x4 x5 x6 s, (addReq x0 x1 x2 x3 x4 x5 x6 s).subch = s.subch := by intros; unfold addReq; simp
@[simp] theorem writeWords_subch : ∀ x0 x1 x2 x3 x4 s, (writeWords x0 x1 x2 x3 x4 s).subch = s.subch := by
  intro x0 x1 x2 n
  induction n generalizing x1 with
  | zero => intro _ s; rfl
  | succ n ih => intro _ s; unfold writeWords; split <;> simp [ih]
@[simp] theorem writePhase_subch : ∀ x0 x1 x2 x3 x4 s, (writePhase x0 x1 x2 x3 x4 s).subch = s.subch := by intros; unfold writePhase; simp
@[simp] theorem writeWave_subch : ∀ x0 x1 x2 s, (writeWave x0 x1 x2 s).subch = s.subch := fun _ _ _ s =>
  writeWords_subch _ _ _ _ _ s
@[simp] theorem shadowPort_subch : ∀ x0 x1 x2 x3 s, (shadowPort x0 x1 x2 x3 s).subch = s.subch := by
  intros; unfold shadowPort; try dsimp only
  repeat' first | with_reducible rfl | (simp; done) | split | refine Eq.trans (forAll_subch _ _ _ fun _ _ => ?_) ?_ |
    (simp only [onBar, onDev, andThen, valueOk, checked, rated, holderOnly, forwarded]; try dsimp only) | (simp; intros)
@[simp] theorem State_modGen_subch : ∀ s x1 x2, (State.modGen s x1 x2).subch = s.subch := fun s x1 x2 => quiet_to_subch (State_modGen_quiet _ _ _)
@[simp] theorem State_modHeads_subch : ∀ s x1 x2, (State.modHeads s x1 x2).subch = s.subch := fun s x1 x2 => quiet_to_subch (State_modHeads_quiet _ _ _)
@[simp] theorem State_modWaits_subch : ∀ s x1 x2, (State.modWaits s x1 x2).subch = s.subch := fun s x1 x2 => quiet_to_subch (State_modWaits_quiet _ _ _)
@[simp] theorem joinHeads_subch : ∀ x0 s, (joinHeads x0 s).subch = s.subch := fun x0 s => quiet_to_subch (joinHeads_quiet _ _)
@[simp] theorem shadowWrites_subch : ∀ x0 s, (shadowWrites x0 s).subch = s.subch := by
  intros; unfold shadowWrites; repeat' first | with_reducible rfl | (simp; done) | split
@[simp] theorem sealWrites_subch : ∀ x0 s, (sealWrites x0 s).subch = s.subch := by
  intros; unfold sealWrites; try dsimp only
  repeat' first | with_reducible rfl | (simp; done) | split | refine Eq.trans (forAll_subch _ _ _ fun _ _ => ?_) ?_ |
    (simp only [onBar, onDev, andThen, valueOk, checked, rated, holderOnly, forwarded, withRate, hostTime, toStandby, onRecord, byThread, byMachine, upFrame]; try dsimp only) | (simp; intros)
@[simp] theorem activatePort_subch : ∀ x0 x1 x2 x3 x4 s, (activatePort x0 x1 x2 x3 x4 s).subch = s.subch := by intros; unfold activatePort; simp
@[simp] theorem activateKeys_subch : ∀ x0 x1 x2 x3 s, (activateKeys x0 x1 x2 x3 s).subch = s.subch := by
  intros; unfold activateKeys; try dsimp only
  repeat' first | with_reducible rfl | (simp; done) | split | refine Eq.trans (forAll_subch _ _ _ fun _ _ => ?_) ?_ |
    (simp only [onBar, onDev, andThen, valueOk, checked, rated, holderOnly, forwarded, withRate, hostTime, toStandby, onRecord, byThread, byMachine, upFrame]; try dsimp only) | (simp; intros)
@[simp] theorem activates_subch : ∀ x0 x1 x2 s, (activates x0 x1 x2 s).subch = s.subch := by
  intros; unfold activates; repeat' first | with_reducible rfl | (simp; done) | split
@[simp] theorem setLane_subch : ∀ x0 x1 s, (setLane x0 x1 s).subch = s.subch := by
  intros; unfold setLane; try dsimp only
  repeat' first | with_reducible rfl | (simp; done) | split | refine Eq.trans (forAll_subch _ _ _ fun _ _ => ?_) ?_ |
    (simp only [onBar, onDev, andThen, valueOk, checked, rated, holderOnly, forwarded]; try dsimp only) | (simp; intros)
@[simp] theorem applyRow_subch : ∀ x0 x1 s, (applyRow x0 x1 s).subch = s.subch := by intros; unfold applyRow; simp
@[simp] theorem startRow_subch : ∀ x0 x1 s, (startRow x0 x1 s).subch = s.subch := by intros; unfold startRow; simp
@[simp] theorem enterTrain_subch : ∀ x0 s, (enterTrain x0 s).subch = s.subch := by intros; unfold enterTrain; simp
@[simp] theorem enterDetect_subch : ∀ x0 s, (enterDetect x0 s).subch = s.subch := by intros; unfold enterDetect; simp
@[simp] theorem enterIdent_subch : ∀ x0 s, (enterIdent x0 s).subch = s.subch := by intros; unfold enterIdent; simp
@[simp] theorem runBar_subch : ∀ x0 x1 s, (runBar x0 x1 s).subch = s.subch := by
  intros; unfold runBar; try dsimp only
  repeat' first | with_reducible rfl | (simp; done) | split | refine Eq.trans (forAll_subch _ _ _ fun _ _ => ?_) ?_ |
    (simp; intros)
@[simp] theorem runWrites_subch : ∀ x0 s, (runWrites x0 s).subch = s.subch := by
  intros; unfold runWrites; try dsimp only
  repeat' first | with_reducible rfl | (simp; done) | split | refine Eq.trans (forAll_subch _ _ _ fun _ _ => ?_) ?_ |
    (simp only [onBar, onDev, andThen, valueOk, checked, rated, holderOnly, forwarded]; try dsimp only) | (simp; intros)
@[simp] theorem bandSelect_subch : ∀ x0 x1 x2 s, (bandSelect x0 x1 x2 s).subch = s.subch := fun x0 x1 x2 s => quiet_to_subch (bandSelect_quiet _ _ _ _)
@[simp] theorem runBands_subch : ∀ x0 s, (runBands x0 s).subch = s.subch := fun x0 s => quiet_to_subch (runBands_quiet _ _)
@[simp] theorem enterRun_subch : ∀ x0 s, (enterRun x0 s).subch = s.subch := by
  intros; unfold enterRun; try dsimp only
  repeat' first | with_reducible rfl | (simp; done) | split | refine Eq.trans (forAll_subch _ _ _ fun _ _ => ?_) ?_ |
    (simp only [onBar, onDev, andThen, valueOk, checked, rated, holderOnly, forwarded]; try dsimp only) | (simp; intros)
@[simp] theorem openSet_subch : ∀ x0 x1 x2 s, (openSet x0 x1 x2 s).subch = s.subch := fun x0 x1 x2 s => quiet_to_subch (openSet_quiet _ _ _ _)
@[simp] theorem openHostSet_subch : ∀ x0 x1 x2 s, (openHostSet x0 x1 x2 s).subch = s.subch := fun x0 x1 x2 s => quiet_to_subch (openHostSet_quiet _ _ _ _)
@[simp] theorem mirrorNozzles_subch : ∀ x0 x1 x2 s, (mirrorNozzles x0 x1 x2 s).subch = s.subch := fun x0 x1 x2 s => quiet_to_subch (mirrorNozzles_quiet _ _ _ _)
@[simp] theorem editEntries_subch : ∀ x0 x1 x2 s, (editEntries x0 x1 x2 s).subch = s.subch := fun x0 x1 x2 s => quiet_to_subch (editEntries_quiet _ _ _ _)
@[simp] theorem gapDecide_subch : ∀ x0 s, (gapDecide x0 s).subch = s.subch := fun x0 s => quiet_to_subch (gapDecide_quiet _ _)
@[simp] theorem rescreen_subch : ∀ x0 x1 s, (rescreen x0 x1 s).subch = s.subch := fun x0 x1 s => quiet_to_subch (rescreen_quiet _ _ _)
@[simp] theorem sealAt_subch : ∀ x0 x1 x2 x3 x4 s, (sealAt x0 x1 x2 x3 x4 s).subch = s.subch := by
  intros; unfold sealAt; try dsimp only
  repeat' first | with_reducible rfl | (simp; done) | split | refine Eq.trans (forAll_subch _ _ _ fun _ _ => ?_) ?_ |
    (simp only [onBar, onDev, andThen, valueOk, checked, rated, holderOnly, forwarded]; try dsimp only) | (simp; intros)
@[simp] theorem digestJudge_subch : ∀ x0 x1 x2 s, (digestJudge x0 x1 x2 s).subch = s.subch := fun x0 x1 x2 s => quiet_to_subch (digestJudge_quiet _ _ _ _)
@[simp] theorem sealPeer_subch : ∀ x0 x1 x2 x3 s, (sealPeer x0 x1 x2 x3 s).subch = s.subch := by intros; unfold sealPeer; simp
@[simp] theorem sealNow_subch : ∀ x0 x1 x2 s, (sealNow x0 x1 x2 s).subch = s.subch := by
  intros; unfold sealNow; try dsimp only
  repeat' first | with_reducible rfl | (simp; done) | split | refine Eq.trans (forAll_subch _ _ _ fun _ _ => ?_) ?_ |
    (simp only [onBar, onDev, andThen, valueOk, checked, rated, holderOnly, forwarded]; try dsimp only) | (simp; intros)
@[simp] theorem releaseWaits_subch : ∀ x0 s, (releaseWaits x0 s).subch = s.subch := fun x0 s => quiet_to_subch (releaseWaits_quiet _ _)
@[simp] theorem trySeal_subch : ∀ x0 s, (trySeal x0 s).subch = s.subch := by
  intros; unfold trySeal; try dsimp only
  repeat' first | with_reducible rfl | (simp; done) | split | refine Eq.trans (forAll_subch _ _ _ fun _ _ => ?_) ?_ |
    (simp only [onBar, onDev, andThen, valueOk, checked, rated, holderOnly, forwarded]; try dsimp only) | (simp; intros)
@[simp] theorem commitRequest_subch : ∀ x0 x1 s, (commitRequest x0 x1 s).subch = s.subch := by
  intros; unfold commitRequest; repeat' first | with_reducible rfl | (simp; done) | split
@[simp] theorem autoCommit_subch : ∀ x0 s, (autoCommit x0 s).subch = s.subch := by
  intros; unfold autoCommit; repeat' first | with_reducible rfl | (simp; done) | split
@[simp] theorem headGapPort_subch : ∀ x0 s, (headGapPort x0 s).subch = s.subch := by
  intros; unfold headGapPort; try dsimp only
  repeat' first | with_reducible rfl | (simp; done) | split | refine Eq.trans (forAll_subch _ _ _ fun _ _ => ?_) ?_ |
    (simp only [onBar, onDev, andThen, valueOk, checked, rated, holderOnly, forwarded]; try dsimp only) | (simp; intros)
@[simp] theorem nozzleEvents_subch : ∀ x0 x1 x2 x3 x4 x5 s, (nozzleEvents x0 x1 x2 x3 x4 x5 s).subch = s.subch := fun x0 x1 x2 x3 x4 x5 s => quiet_to_subch (nozzleEvents_quiet _ _ _ _ _ _ _)
@[simp] theorem headGaps_subch : ∀ s, (headGaps s).subch = s.subch := by intros; unfold headGaps; simp
@[simp] theorem commitLive_subch : ∀ x0 x1 s, (commitLive x0 x1 s).subch = s.subch := by
  intros; unfold commitLive; repeat' first | with_reducible rfl | (simp; done) | split
@[simp] theorem liveAtPage_subch : ∀ x0 x1 s, (liveAtPage x0 x1 s).subch = s.subch := by
  intros; unfold liveAtPage; repeat' first | with_reducible rfl | (simp; done) | split
@[simp] theorem applyOutcomes_subch : ∀ x0 x1 x2 s, (applyOutcomes x0 x1 x2 s).subch = s.subch := fun x0 x1 x2 s => quiet_to_subch (applyOutcomes_quiet _ _ _ _)
@[simp] theorem retireNozzles_subch : ∀ x0 s, (retireNozzles x0 s).subch = s.subch := by
  intros; unfold retireNozzles; try dsimp only
  repeat' first | with_reducible rfl | (simp; done) | split | refine Eq.trans (forAll_subch _ _ _ fun _ _ => ?_) ?_ |
    (simp only [onBar, onDev, andThen, valueOk, checked, rated, holderOnly, forwarded]; try dsimp only) | (simp; intros)
@[simp] theorem placeChanged_subch : ∀ s, (placeChanged s).subch = s.subch := by intros; unfold placeChanged; simp
@[simp] theorem placeApply_subch : ∀ x0 x1 x2 s, (placeApply x0 x1 x2 s).subch = s.subch := by
  intros; unfold placeApply; try dsimp only
  repeat' first | with_reducible rfl | (simp; done) | split | refine Eq.trans (forAll_subch _ _ _ fun _ _ => ?_) ?_ |
    (simp only [onBar, onDev, andThen, valueOk, checked, rated, holderOnly, forwarded]; try dsimp only) | (simp; intros)
@[simp] theorem placeFull_subch : ∀ x0 x1 x2 s, (placeFull x0 x1 x2 s).subch = s.subch := by intros; unfold placeFull; simp
@[simp] theorem placeRun_subch : ∀ x0 x1 s, (placeRun x0 x1 s).subch = s.subch := by
  intros; unfold placeRun; try dsimp only
  repeat' first | with_reducible rfl | (simp; done) | split | refine Eq.trans (forAll_subch _ _ _ fun _ _ => ?_) ?_ |
    (simp only [onBar, onDev, andThen, valueOk, checked, rated, holderOnly, forwarded, withRate, hostTime, toStandby, onRecord, byThread, byMachine, upFrame]; try dsimp only) | (simp; intros)
@[simp] theorem placeBar_subch : ∀ x0 x1 s, (placeBar x0 x1 s).subch = s.subch := by
  intros; unfold placeBar; try dsimp only
  repeat' first | with_reducible rfl | (simp; done) | split | refine Eq.trans (forAll_subch _ _ _ fun _ _ => ?_) ?_ |
    (simp only [onBar, onDev, andThen, valueOk, checked, rated, holderOnly, forwarded]; try dsimp only) | (simp; intros)
@[simp] theorem spanHandover_subch : ∀ x0 x1 x2 s, (spanHandover x0 x1 x2 s).subch = s.subch := by
  intro b n key s
  rcases h : s.place.waitSpans.get? key with _ | r
  · unfold spanHandover; rw [h]
  · unfold spanHandover; rw [h]; dsimp only; rw [placeChanged_subch]
@[simp] theorem releaseFlow_subch : ∀ x0 x1 s, (releaseFlow x0 x1 s).subch = s.subch := fun x0 x1 s => quiet_to_subch (releaseFlow_quiet _ _ _)
@[simp] theorem offCore_subch : ∀ x0 s, (offCore x0 s).subch = s.subch := fun x0 s => quiet_to_subch (offCore_quiet _ _)
@[simp] theorem stopThread_subch : ∀ x0 x1 s, (stopThread x0 x1 s).subch = s.subch := fun x0 x1 s => quiet_to_subch (stopThread_quiet _ _ _)
@[simp] theorem setExtStatus_subch : ∀ x0 x1 x2 s, (setExtStatus x0 x1 x2 s).subch = s.subch := fun x0 x1 x2 s => quiet_to_subch (setExtStatus_quiet _ _ _ _)
@[simp] theorem stopExt_subch : ∀ x0 x1 x2 x3 s, (stopExt x0 x1 x2 x3 s).subch = s.subch := fun x0 x1 x2 x3 s => quiet_to_subch (stopExt_quiet _ _ _ _ _)
@[simp] theorem illegalCsr_subch : ∀ x0 s, (illegalCsr x0 s).subch = s.subch := by intros; unfold illegalCsr; simp
@[simp] theorem schStatus_subch : ∀ x0 x1 s, (schStatus x0 x1 s).subch = s.subch := fun x0 x1 s => quiet_to_subch (schStatus_quiet _ _ _)
@[simp] theorem waitEffect_subch : ∀ x0 x1 x2 s, (waitEffect x0 x1 x2 s).subch = s.subch := fun x0 x1 x2 s => quiet_to_subch (waitEffect_quiet _ _ _ _)
@[simp] theorem postEffect_subch : ∀ x0 x1 s, (postEffect x0 x1 s).subch = s.subch := fun x0 x1 s => quiet_to_subch (postEffect_quiet _ _ _)
@[simp] theorem yieldEffect_subch : ∀ x0 x1 s, (yieldEffect x0 x1 s).subch = s.subch := fun x0 x1 s => quiet_to_subch (yieldEffect_quiet _ _ _)
@[simp] theorem flowEnterEffect_subch : ∀ x0 x1 x2 s, (flowEnterEffect x0 x1 x2 s).subch = s.subch := fun x0 x1 x2 s => quiet_to_subch (flowEnterEffect_quiet _ _ _ _)
@[simp] theorem flowExitEffect_subch : ∀ x0 x1 s, (flowExitEffect x0 x1 s).subch = s.subch := fun x0 x1 s => quiet_to_subch (flowExitEffect_quiet _ _ _)
@[simp] theorem timerEffect_subch : ∀ x0 x1 s, (timerEffect x0 x1 s).subch = s.subch := fun x0 x1 s => quiet_to_subch (timerEffect_quiet _ _ _)
@[simp] theorem spawnEffect_subch : ∀ x0 x1 s, (spawnEffect x0 x1 s).subch = s.subch := fun x0 x1 s => quiet_to_subch (spawnEffect_quiet _ _ _)
@[simp] theorem wakeModeEffect_subch : ∀ x0 x1 s, (wakeModeEffect x0 x1 s).subch = s.subch := fun x0 x1 s => quiet_to_subch (wakeModeEffect_quiet _ _ _)
@[simp] theorem killEffect_subch : ∀ x0 x1 s, (killEffect x0 x1 s).subch = s.subch := fun x0 x1 s => quiet_to_subch (killEffect_quiet _ _ _)
@[simp] theorem flagsClearEffect_subch : ∀ x0 x1 s, (flagsClearEffect x0 x1 s).subch = s.subch := fun x0 x1 s => quiet_to_subch (flagsClearEffect_quiet _ _ _)
@[simp] theorem deadlockEffect_subch : ∀ s, (deadlockEffect s).subch = s.subch := fun s => quiet_to_subch (deadlockEffect_quiet _)
@[simp] theorem coreThread_subch : ∀ x0 s, (coreThread x0 s).subch = s.subch := by
  intros; unfold coreThread; repeat' first | with_reducible rfl | (simp; done) | split
@[simp] theorem dropCore_subch : ∀ x0 s, (dropCore x0 s).subch = s.subch := fun x0 s => quiet_to_subch (dropCore_quiet _ _)
@[simp] theorem modOwn_subch : ∀ x0 x1 s, (modOwn x0 x1 s).subch = s.subch := fun x0 x1 s => quiet_to_subch (modOwn_quiet _ _ _)
@[simp] theorem recordStatus_subch : ∀ x0 x1 x2 x3 s, (recordStatus x0 x1 x2 x3 s).subch = s.subch := fun x0 x1 x2 x3 s => quiet_to_subch (recordStatus_quiet _ _ _ _ _)
@[simp] theorem violation_subch : ∀ x0 s, (violation x0 s).subch = s.subch := fun x0 s => quiet_to_subch (violation_quiet _ _)
theorem doorWrite_subch (door idx sub v) (eff : Effect) (s : State)
    (h : ∀ row bar sub w s, (eff row bar sub w s).2.subch = s.subch) : (doorWrite door idx sub v eff s).2.subch = s.subch := by
  unfold doorWrite
  split
  · rfl
  · split
    · rfl
    · simp
    · simp
    · split <;> simp [h]
theorem writeThrough_subch (door idx sub v) (eff : Effect) (s : State)
    (h : ∀ row bar sub w s, (eff row bar sub w s).2.subch = s.subch) : (writeThrough door idx sub v eff s).subch = s.subch :=
  doorWrite_subch door idx sub v eff s h
@[simp] theorem plainEffect_subch : ∀ x0 x1 x2 x3 s, (plainEffect x0 x1 x2 x3 s).2.subch = s.subch := fun x0 x1 x2 x3 s => quiet_to_subch (plainEffect_quiet _ _ _ _ _)
@[simp] theorem putTable_subch : ∀ x0 x1 x2 x3 s, (putTable x0 x1 x2 x3 s).subch = s.subch := fun x0 x1 x2 x3 s => quiet_to_subch (putTable_quiet _ _ _ _ _)
@[simp] theorem moveTable_subch : ∀ x0 x1 s, (moveTable x0 x1 s).subch = s.subch := by
  intros; unfold moveTable; try dsimp only
  repeat' first | with_reducible rfl | (simp; done) | split | refine Eq.trans (forAll_subch _ _ _ fun _ _ => ?_) ?_ |
    (simp only [onBar, onDev, andThen, valueOk, checked, rated, holderOnly, forwarded, withRate, hostTime, toStandby, onRecord, byThread, byMachine, upFrame]; try dsimp only) | (simp; intros)
@[simp] theorem moveTables_subch : ∀ x0 s, (moveTables x0 s).subch = s.subch := by intros; unfold moveTables; simp
@[simp] theorem sramJudge_subch : ∀ x0 s, (sramJudge x0 s).subch = s.subch := fun x0 s => quiet_to_subch (sramJudge_quiet _ _)
@[simp] theorem storeKey_subch : ∀ x0 x1 x2 x3 s, (storeKey x0 x1 x2 x3 s).subch = s.subch := by
  intros; unfold storeKey; repeat' first | with_reducible rfl | (simp; done) | split
@[simp] theorem partViolation_subch : ∀ x0 s, (partViolation x0 s).subch = s.subch := fun x0 s => quiet_to_subch (partViolation_quiet _ _)
@[simp] theorem railFlags_subch : ∀ s x1, (railFlags s x1).subch = s.subch := by intros; unfold railFlags; simp
@[simp] theorem storeWide_subch : ∀ x0 x1 x2 x3 x4 x5 x6 s, (storeWide x0 x1 x2 x3 x4 x5 x6 s).subch = s.subch := by
  intros; unfold storeWide; try dsimp only
  repeat' first | with_reducible rfl | (simp; done) | split | refine Eq.trans (forAll_subch _ _ _ fun _ _ => ?_) ?_ |
    (simp only [onBar, onDev, andThen, valueOk, checked, rated, holderOnly, forwarded]; try dsimp only) | (simp; intros)
@[simp] theorem wideEffect_subch : ∀ x0 x1 x2 x3 x4 x5 s, (wideEffect x0 x1 x2 x3 x4 x5 s).2.subch = s.subch := by
  intros; unfold wideEffect; try dsimp only
  repeat' first | with_reducible rfl | (simp; done) | split | refine Eq.trans (forAll_subch _ _ _ fun _ _ => ?_) ?_ |
    (simp only [onBar, onDev, andThen, valueOk, checked, rated, holderOnly, forwarded]; try dsimp only) | (simp; intros)
@[simp] theorem blockWrite_subch : ∀ x0 x1 x2 x3 x4 s, (blockWrite x0 x1 x2 x3 x4 s).2.subch = s.subch := by
  intros; unfold blockWrite; repeat' first | with_reducible rfl | (simp; done) | split
@[simp] theorem cmpFire_subch : ∀ x0 s, (cmpFire x0 s).subch = s.subch := by
  intros; unfold cmpFire; try dsimp only
  repeat' first | with_reducible rfl | (simp; done) | split | refine Eq.trans (forAll_subch _ _ _ fun _ _ => ?_) ?_ |
    (simp only [onBar, onDev, andThen, valueOk, checked, rated, holderOnly, forwarded]; try dsimp only) | (simp; intros)
@[simp] theorem cmpMove_subch : ∀ x0 x1 x2 s, (cmpMove x0 x1 x2 s).subch = s.subch := by
  intros; unfold cmpMove; try dsimp only
  repeat' first | with_reducible rfl | (simp; done) | split | refine Eq.trans (forAll_subch _ _ _ fun _ _ => ?_) ?_ |
    (simp only [onBar, onDev, andThen, valueOk, checked, rated, holderOnly, forwarded]; try dsimp only) | (simp; intros)
@[simp] theorem cmpMotion_subch : ∀ x0 x1 x2 s, (cmpMotion x0 x1 x2 s).subch = s.subch := by
  intros; unfold cmpMotion; repeat' first | with_reducible rfl | (simp; done) | split
@[simp] theorem cmpMarkOne_subch : ∀ x0 x1 s, (cmpMarkOne x0 x1 s).subch = s.subch := by
  intros; unfold cmpMarkOne; try dsimp only
  repeat' first | with_reducible rfl | (simp; done) | split | refine Eq.trans (forAll_subch _ _ _ fun _ _ => ?_) ?_ |
    (simp only [onBar, onDev, andThen, valueOk, checked, rated, holderOnly, forwarded]; try dsimp only) | (simp; intros)
@[simp] theorem cmpMark_subch : ∀ x0 s, (cmpMark x0 s).subch = s.subch := by intros; unfold cmpMark; simp
@[simp] theorem cmpCommand_subch : ∀ x0 x1 x2 x3 s, (cmpCommand x0 x1 x2 x3 s).2.subch = s.subch := by
  intros; unfold cmpCommand; try dsimp only
  repeat' first | with_reducible rfl | (simp; done) | split | refine Eq.trans (forAll_subch _ _ _ fun _ _ => ?_) ?_ |
    (simp only [onBar, onDev, andThen, valueOk, checked, rated, holderOnly, forwarded]; try dsimp only) | (simp; intros)
@[simp] theorem postStop_subch : ∀ x0 x1 x2 s, (postStop x0 x1 x2 s).subch = s.subch := fun x0 x1 x2 s => quiet_to_subch (postStop_quiet _ _ _ _)
@[simp] theorem mirrorAxis_subch : ∀ x0 s, (mirrorAxis x0 s).subch = s.subch := fun x0 s => quiet_to_subch (mirrorAxis_quiet _ _)
@[simp] theorem stopNow_subch : ∀ x0 x1 x2 s, (stopNow x0 x1 x2 s).subch = s.subch := by intros; unfold stopNow; simp
@[simp] theorem stopHard_subch : ∀ x0 x1 s, (stopHard x0 x1 s).subch = s.subch := by intros; unfold stopHard; simp
@[simp] theorem stopRamp_subch : ∀ x0 x1 x2 s, (stopRamp x0 x1 x2 s).subch = s.subch := by
  intros; unfold stopRamp; repeat' first | with_reducible rfl | (simp; done) | split
@[simp] theorem safeStop_subch : ∀ x0 s, (safeStop x0 s).subch = s.subch := by
  intros; unfold safeStop; repeat' first | with_reducible rfl | (simp; done) | split
@[simp] theorem axDo_subch : ∀ x0 x1 s, (axDo x0 x1 s).subch = s.subch := by
  intros; unfold axDo; repeat' first | with_reducible rfl | (simp; done) | split
@[simp] theorem axCommand_subch : ∀ x0 x1 x2 x3 s, (axCommand x0 x1 x2 x3 s).2.subch = s.subch := by
  intros; unfold axCommand; try dsimp only
  repeat' first | with_reducible rfl | (simp; done) | split | refine Eq.trans (forAll_subch _ _ _ fun _ _ => ?_) ?_ |
    (simp only [onBar, onDev, andThen, valueOk, checked, rated, holderOnly, forwarded]; try dsimp only) | (simp; intros)
@[simp] theorem axWrite_subch : ∀ x0 x1 x2 s, (axWrite x0 x1 x2 s).subch = s.subch := fun _ _ _ s =>
  writeThrough_subch _ _ _ _ _ s (fun _ _ _ _ t => axCommand_subch _ _ _ _ t)
@[simp] theorem startArmed_subch : ∀ s, (startArmed s).subch = s.subch := by
  intros; unfold startArmed; try dsimp only
  repeat' first | with_reducible rfl | (simp; done) | split | refine Eq.trans (forAll_subch _ _ _ fun _ _ => ?_) ?_ |
    (simp only [onBar, onDev, andThen, valueOk, checked, rated, holderOnly, forwarded]; try dsimp only) | (simp; intros)
@[simp] theorem axStartEffect_subch : ∀ x0 x1 x2 x3 s, (axStartEffect x0 x1 x2 x3 s).2.subch = s.subch := by
  intros; unfold axStartEffect; try dsimp only
  repeat' first | with_reducible rfl | (simp; done) | split | refine Eq.trans (forAll_subch _ _ _ fun _ _ => ?_) ?_ |
    (simp only [onBar, onDev, andThen, valueOk, checked, rated, holderOnly, forwarded]; try dsimp only) | (simp; intros)
@[simp] theorem homeFails_subch : ∀ x0 s, (homeFails x0 s).subch = s.subch := by intros; unfold homeFails; split <;> simp
@[simp] theorem stopEnd_subch : ∀ x0 x1 s, (stopEnd x0 x1 s).subch = s.subch := by
  intros; unfold stopEnd; repeat' first | with_reducible rfl | (simp; done) | split
@[simp] theorem axisTick_subch : ∀ x0 s, (axisTick x0 s).subch = s.subch := by
  intros; unfold axisTick; try dsimp only
  repeat' first | with_reducible rfl | (simp; done) | split | refine Eq.trans (forAll_subch _ _ _ fun _ _ => ?_) ?_ |
    (simp only [onBar, onDev, andThen, valueOk, checked, rated, holderOnly, forwarded]; try dsimp only) | (simp; intros)
@[simp] theorem axisUpdate_subch : ∀ x0 s, (axisUpdate x0 s).subch = s.subch := by
  intros; unfold axisUpdate; repeat' first | with_reducible rfl | (simp; done) | split
@[simp] theorem limitStop_subch : ∀ x0 s, (limitStop x0 s).subch = s.subch := by
  intros; unfold limitStop; dsimp only; repeat' first | with_reducible rfl | (simp; done) | split
@[simp] theorem mirroredProfile_subch : ∀ x0 s, (mirroredProfile x0 s).subch = s.subch := by
  intros; unfold mirroredProfile; try dsimp only
  repeat' first | with_reducible rfl | (simp; done) | split | refine Eq.trans (forAll_subch _ _ _ fun _ _ => ?_) ?_ |
    (simp only [onBar, onDev, andThen, valueOk, checked, rated, holderOnly, forwarded, withRate, hostTime, toStandby, onRecord, byThread, byMachine, upFrame]; try dsimp only) | (simp; intros)
@[simp] theorem takeoverAxis_subch : ∀ x0 s, (takeoverAxis x0 s).subch = s.subch := by
  intros; unfold takeoverAxis; try dsimp only
  repeat' first | with_reducible rfl | (simp; done) | split | refine Eq.trans (forAll_subch _ _ _ fun _ _ => ?_) ?_ |
    (simp only [onBar, onDev, andThen, valueOk, checked, rated, holderOnly, forwarded]; try dsimp only) | (simp; intros)
@[simp] theorem followCheck_subch : ∀ x0 x1 x2 s, (followCheck x0 x1 x2 s).subch = s.subch := by
  intros; unfold followCheck; try dsimp only
  repeat' first | with_reducible rfl | (simp; done) | split | refine Eq.trans (forAll_subch _ _ _ fun _ _ => ?_) ?_ |
    (simp only [onBar, onDev, andThen, valueOk, checked, rated, holderOnly, forwarded]; try dsimp only) | (simp; intros)
@[simp] theorem ssiValid_subch : ∀ x0 x1 s, (ssiValid x0 x1 s).subch = s.subch := by
  intros; unfold ssiValid; try dsimp only
  repeat' first | with_reducible rfl | (simp; done) | split | refine Eq.trans (forAll_subch _ _ _ fun _ _ => ?_) ?_ |
    (simp only [onBar, onDev, andThen, valueOk, checked, rated, holderOnly, forwarded]; try dsimp only) | (simp; intros)
@[simp] theorem ssiInvalid_subch : ∀ x0 s, (ssiInvalid x0 s).subch = s.subch := by
  intros; unfold ssiInvalid; try dsimp only
  repeat' first | with_reducible rfl | (simp; done) | split | refine Eq.trans (forAll_subch _ _ _ fun _ _ => ?_) ?_ |
    (simp only [onBar, onDev, andThen, valueOk, checked, rated, holderOnly, forwarded]; try dsimp only) | (simp; intros)
@[simp] theorem webSlowAsk_subch : ∀ x0 s, (webSlowAsk x0 s).subch = s.subch := by
  intros; unfold webSlowAsk; repeat' first | with_reducible rfl | (simp; done) | split
@[simp] theorem webSlowJudge_subch : ∀ s, (webSlowJudge s).subch = s.subch := by
  intros; unfold webSlowJudge; repeat' first | with_reducible rfl | (simp; done) | split
@[simp] theorem lapseAll_subch : ∀ s, (lapseAll s).subch = s.subch := fun s => quiet_to_subch (lapseAll_quiet _)
@[simp] theorem printClock_subch : ∀ x0 s, (printClock x0 s).subch = s.subch := by
  intros; unfold printClock; repeat' first | with_reducible rfl | (simp; done) | split
@[simp] theorem setDev_subch : ∀ x0 x1 s, (setDev x0 x1 s).subch = s.subch := by
  intros; unfold setDev; repeat' first | with_reducible rfl | (simp; done) | split
@[simp] theorem wakeLane_subch : ∀ x0 s, (wakeLane x0 s).subch = s.subch := by
  intros; unfold wakeLane; repeat' first | with_reducible rfl | (simp; done) | split
@[simp] theorem unpin_subch : ∀ x0 x1 s, (unpin x0 x1 s).subch = s.subch := fun x0 x1 s => quiet_to_subch (unpin_quiet _ _ _)
@[simp] theorem dropJobs_subch : ∀ x0 x1 s, (dropJobs x0 x1 s).subch = s.subch := by intros; unfold dropJobs; simp
@[simp] theorem clearBar_subch : ∀ x0 s, (clearBar x0 s).subch = s.subch := fun x0 s => quiet_to_subch (clearBar_quiet _ _)
@[simp] theorem emptyBar_subch : ∀ x0 s, (emptyBar x0 s).subch = s.subch := by
  intro b s
  have e : emptyBar b s = webSlowJudge (applyQuota b (clearBar b (dropJobs b (notStarted s b) (forAll (notStarted s b)
      (unpin b) s)))) := rfl
  rw [e, webSlowJudge_subch, applyQuota_subch, clearBar_subch, dropJobs_subch]
  exact forAll_subch _ _ s (unpin_subch b)
@[simp] theorem moveVb_subch : ∀ x0 x1 s, (moveVb x0 x1 s).subch = s.subch := by
  intros; unfold moveVb; try dsimp only
  repeat' first | with_reducible rfl | (simp; done) | split | refine Eq.trans (forAll_subch _ _ _ fun _ _ => ?_) ?_ |
    (simp only [onBar, onDev, andThen, valueOk, checked, rated, holderOnly, forwarded]; try dsimp only) | (simp; intros)
@[simp] theorem followBars_subch : ∀ s, (followBars s).subch = s.subch := by
  intros; unfold followBars; repeat' first | with_reducible rfl | (simp; done) | split
@[simp] theorem setVb_subch : ∀ x0 x1 s, (setVb x0 x1 s).subch = s.subch := by
  intros; unfold setVb; try dsimp only
  repeat' first | with_reducible rfl | (simp; done) | split | refine Eq.trans (forAll_subch _ _ _ fun _ _ => ?_) ?_ |
    (simp only [onBar, onDev, andThen, valueOk, checked, rated, holderOnly, forwarded]; try dsimp only) | (simp; intros)
@[simp] theorem advanceBar_subch : ∀ x0 x1 s, (advanceBar x0 x1 s).subch = s.subch := by
  intro x0 n
  induction n with
  | zero => intro s; rfl
  | succ n ih => intro s; unfold advanceBar; repeat' first | with_reducible rfl | (simp [ih]; done) | split
@[simp] theorem advanceBars_subch : ∀ s, (advanceBars s).subch = s.subch := by
  intros; unfold advanceBars; repeat' first | with_reducible rfl | (simp; done) | split
@[simp] theorem targetBar_subch : ∀ x0 x1 s, (targetBar x0 x1 s).2.subch = s.subch := by
  intros; unfold targetBar; repeat' first | with_reducible rfl | (simp; done) | split
@[simp] theorem pageEnd_subch : ∀ x0 x1 x2 x3 s, (pageEnd x0 x1 x2 x3 s).subch = s.subch := fun x0 x1 x2 x3 s => quiet_to_subch (pageEnd_quiet _ _ _ _ _)
@[simp] theorem setSupply_subch : ∀ x0 x1 s, (setSupply x0 x1 s).subch = s.subch := by
  intros; unfold setSupply; try dsimp only
  repeat' first | with_reducible rfl | (simp; done) | split | refine Eq.trans (forAll_subch _ _ _ fun _ _ => ?_) ?_ |
    (simp only [onBar, onDev, andThen, valueOk, checked, rated, holderOnly, forwarded]; try dsimp only) | (simp; intros)
@[simp] theorem mirrorSupply_subch : ∀ x0 s, (mirrorSupply x0 s).subch = s.subch := fun x0 s => quiet_to_subch (mirrorSupply_quiet _ _)
@[simp] theorem disableSupply_subch : ∀ x0 s, (disableSupply x0 s).subch = s.subch := by
  intros; unfold disableSupply; repeat' first | with_reducible rfl | (simp; done) | split
@[simp] theorem disableAll_subch : ∀ s, (disableAll s).subch = s.subch := by intros; unfold disableAll; simp
@[simp] theorem abandonStrips_subch : ∀ x0 x1 s, (abandonStrips x0 x1 s).subch = s.subch := fun x0 x1 s => quiet_to_subch (abandonStrips_quiet _ _ _)
@[simp] theorem cutStrips_subch : ∀ x0 s, (cutStrips x0 s).subch = s.subch := fun x0 s => quiet_to_subch (cutStrips_quiet _ _)
@[simp] theorem cutBar_subch : ∀ x0 s, (cutBar x0 s).subch = s.subch := fun x0 s => quiet_to_subch (cutBar_quiet _ _)
@[simp] theorem enterSafe_subch : ∀ s, (enterSafe s).subch = s.subch := by intros; unfold enterSafe; simp
@[simp] theorem riseSupply_subch : ∀ x0 s, (riseSupply x0 s).subch = s.subch := by intros; unfold riseSupply; simp
@[simp] theorem enableSupply_subch : ∀ x0 s, (enableSupply x0 s).subch = s.subch := by
  intros; unfold enableSupply; repeat' first | with_reducible rfl | (simp; done) | split
@[simp] theorem riseWaiting_subch : ∀ s, (riseWaiting s).subch = s.subch := by intros; unfold riseWaiting; simp
@[simp] theorem hvCommand_subch : ∀ x0 x1 x2 x3 s, (hvCommand x0 x1 x2 x3 s).2.subch = s.subch := by
  intros; unfold hvCommand; try dsimp only
  repeat' first | with_reducible rfl | (simp; done) | split | refine Eq.trans (forAll_subch _ _ _ fun _ _ => ?_) ?_ |
    (simp only [onBar, onDev, andThen, valueOk, checked, rated, holderOnly, forwarded]; try dsimp only) | (simp; intros)
@[simp] theorem barFault_subch : ∀ x0 x1 x2 s, (barFault x0 x1 x2 s).subch = s.subch := by intros; unfold barFault; simp
@[simp] theorem takeTrip_subch : ∀ x0 x1 s, (takeTrip x0 x1 s).subch = s.subch := by
  intros; unfold takeTrip; dsimp only
  split
  · split <;> simp
  · simp
@[simp] theorem acceptTrip_subch : ∀ x0 s, (acceptTrip x0 s).subch = s.subch := by
  intros; unfold acceptTrip; try dsimp only
  repeat' first | with_reducible rfl | (simp; done) | split | refine Eq.trans (forAll_subch _ _ _ fun _ _ => ?_) ?_ |
    (simp only [onBar, onDev, andThen, valueOk, checked, rated, holderOnly, forwarded, withRate, hostTime, toStandby, onRecord, byThread, byMachine, upFrame]; try dsimp only) | (simp; intros)
@[simp] theorem standbyClear_subch : ∀ x0 s, (standbyClear x0 s).subch = s.subch := by
  intros; unfold standbyClear; try dsimp only
  repeat' first | with_reducible rfl | (simp; done) | split | refine Eq.trans (forAll_subch _ _ _ fun _ _ => ?_) ?_ |
    (simp only [onBar, onDev, andThen, valueOk, checked, rated, holderOnly, forwarded]; try dsimp only) | (simp; intros)
@[simp] theorem endBlank_subch : ∀ x0 s, (endBlank x0 s).subch = s.subch := by
  intros; unfold endBlank; try dsimp only
  repeat' first | with_reducible rfl | (simp; done) | split | refine Eq.trans (forAll_subch _ _ _ fun _ _ => ?_) ?_ |
    (simp only [onBar, onDev, andThen, valueOk, checked, rated, holderOnly, forwarded]; try dsimp only) | (simp; intros)
@[simp] theorem blankEnds_subch : ∀ x0 s, (blankEnds x0 s).subch = s.subch := by
  intros; unfold blankEnds; try dsimp only
  repeat' first | with_reducible rfl | (simp; done) | split | refine Eq.trans (forAll_subch _ _ _ fun _ _ => ?_) ?_ |
    (simp only [onBar, onDev, andThen, valueOk, checked, rated, holderOnly, forwarded, withRate, hostTime, toStandby, onRecord, byThread, byMachine, upFrame]; try dsimp only) | (simp; intros)
@[simp] theorem markRows_subch : ∀ x0 x1 x2 x3 x4 s, (markRows x0 x1 x2 x3 x4 s).subch = s.subch := fun x0 x1 x2 x3 x4 s => quiet_to_subch (markRows_quiet _ _ _ _ _ _)
@[simp] theorem dropWaits_subch : ∀ x0 s, (dropWaits x0 s).subch = s.subch := fun x0 s => quiet_to_subch (dropWaits_quiet _ _)
@[simp] theorem resetTries_subch : ∀ x0 s, (resetTries x0 s).subch = s.subch := by intros; unfold resetTries; simp
@[simp] theorem faultNext_subch : ∀ x0 x1 s, (faultNext x0 x1 s).subch = s.subch := by
  intros; unfold faultNext; repeat' first | with_reducible rfl | (simp; done) | split
@[simp] theorem laneFault_subch : ∀ x0 x1 s, (laneFault x0 x1 s).subch = s.subch := by
  intros; unfold laneFault; try dsimp only
  repeat' first | with_reducible rfl | (simp; done) | split | refine Eq.trans (forAll_subch _ _ _ fun _ _ => ?_) ?_ |
    (simp only [onBar, onDev, andThen, valueOk, checked, rated, holderOnly, forwarded]; try dsimp only) | (simp; intros)
@[simp] theorem frameCrc_subch : ∀ x0 s, (frameCrc x0 s).subch = s.subch := by
  intros; unfold frameCrc; try dsimp only
  repeat' first | with_reducible rfl | (simp; done) | split | refine Eq.trans (forAll_subch _ _ _ fun _ _ => ?_) ?_ |
    (simp only [onBar, onDev, andThen, valueOk, checked, rated, holderOnly, forwarded]; try dsimp only) | (simp; intros)
@[simp] theorem trainEnd_subch : ∀ x0 s, (trainEnd x0 s).subch = s.subch := by
  intros; unfold trainEnd; repeat' first | with_reducible rfl | (simp; done) | split
@[simp] theorem trainStep_subch : ∀ x0 x1 s, (trainStep x0 x1 s).subch = s.subch := by
  intros; unfold trainStep; try dsimp only
  repeat' first | with_reducible rfl | (simp; done) | split | refine Eq.trans (forAll_subch _ _ _ fun _ _ => ?_) ?_ |
    (simp only [onBar, onDev, andThen, valueOk, checked, rated, holderOnly, forwarded]; try dsimp only) | (simp; intros)
@[simp] theorem identDone_subch : ∀ x0 x1 s, (identDone x0 x1 s).subch = s.subch := by
  intros; unfold identDone; try dsimp only
  repeat' first | with_reducible rfl | (simp; done) | split | refine Eq.trans (forAll_subch _ _ _ fun _ _ => ?_) ?_ |
    (simp only [onBar, onDev, andThen, valueOk, checked, rated, holderOnly, forwarded]; try dsimp only) | (simp; intros)
@[simp] theorem identRead_subch : ∀ x0 x1 s, (identRead x0 x1 s).subch = s.subch := by
  intros; unfold identRead; try dsimp only
  repeat' first | with_reducible rfl | (simp; done) | split | refine Eq.trans (forAll_subch _ _ _ fun _ _ => ?_) ?_ |
    (simp only [onBar, onDev, andThen, valueOk, checked, rated, holderOnly, forwarded, withRate, hostTime, toStandby, onRecord, byThread, byMachine, upFrame]; try dsimp only) | (simp; intros)
@[simp] theorem ackWrite_subch : ∀ x0 x1 x2 s, (ackWrite x0 x1 x2 s).subch = s.subch := fun x0 x1 x2 s => quiet_to_subch (ackWrite_quiet _ _ _ _)
@[simp] theorem answered_subch : ∀ x0 x1 x2 s, (answered x0 x1 x2 s).subch = s.subch := by
  intros; unfold answered; try dsimp only
  repeat' first | with_reducible rfl | (simp; done) | split | refine Eq.trans (forAll_subch _ _ _ fun _ _ => ?_) ?_ |
    (simp only [onBar, onDev, andThen, valueOk, checked, rated, holderOnly, forwarded]; try dsimp only) | (simp; intros)
@[simp] theorem reqTimeout_subch : ∀ x0 x1 s, (reqTimeout x0 x1 s).subch = s.subch := by
  intros; unfold reqTimeout; repeat' first | with_reducible rfl | (simp; done) | split
@[simp] theorem activateLate_subch : ∀ x0 x1 s, (activateLate x0 x1 s).subch = s.subch := by
  intros; unfold activateLate; try dsimp only
  repeat' first | with_reducible rfl | (simp; done) | split | refine Eq.trans (forAll_subch _ _ _ fun _ _ => ?_) ?_ |
    (simp only [onBar, onDev, andThen, valueOk, checked, rated, holderOnly, forwarded]; try dsimp only) | (simp; intros)
@[simp] theorem laneEnable_subch : ∀ x0 s, (laneEnable x0 s).subch = s.subch := by
  intros; unfold laneEnable; repeat' first | with_reducible rfl | (simp; done) | split
@[simp] theorem laneRecheck_subch : ∀ x0 s, (laneRecheck x0 s).subch = s.subch := by
  intros; unfold laneRecheck; repeat' first | with_reducible rfl | (simp; done) | split
@[simp] theorem drayPort_subch : ∀ x0 x1 s, (drayPort x0 x1 s).subch = s.subch := by
  intros; unfold drayPort; try dsimp only
  repeat' first | with_reducible rfl | (simp; done) | split | refine Eq.trans (forAll_subch _ _ _ fun _ _ => ?_) ?_ |
    (simp only [onBar, onDev, andThen, valueOk, checked, rated, holderOnly, forwarded]; try dsimp only) | (simp; intros)
@[simp] theorem drayReads_subch : ∀ x0 s, (drayReads x0 s).subch = s.subch := by intros; unfold drayReads; simp
@[simp] theorem noteOverlaps_subch : ∀ x0 x1 s, (noteOverlaps x0 x1 s).subch = s.subch := fun x0 x1 s => quiet_to_subch (noteOverlaps_quiet _ _ _)
@[simp] theorem screenLate_subch : ∀ x0 x1 x2 s, (screenLate x0 x1 x2 s).subch = s.subch := fun x0 x1 x2 s => quiet_to_subch (screenLate_quiet _ _ _ _)
@[simp] theorem awaitLate_subch : ∀ x0 x1 s, (awaitLate x0 x1 s).subch = s.subch := fun x0 x1 s => quiet_to_subch (awaitLate_quiet _ _ _)
@[simp] theorem drayLate_subch : ∀ x0 x1 x2 s, (drayLate x0 x1 x2 s).subch = s.subch := fun x0 x1 x2 s => quiet_to_subch (drayLate_quiet _ _ _ _)
@[simp] theorem countWithheld_subch : ∀ x0 s, (countWithheld x0 s).subch = s.subch := fun x0 s => quiet_to_subch (countWithheld_quiet _ _)
@[simp] theorem sendBurst_subch : ∀ x0 x1 x2 s, (sendBurst x0 x1 x2 s).subch = s.subch := by intros; unfold sendBurst; simp
@[simp] theorem sendBursts_subch : ∀ x0 x1 x2 x3 s, (sendBursts x0 x1 x2 x3 s).subch = s.subch := by
  intros; unfold sendBursts; repeat' first | with_reducible rfl | (simp; done) | split
@[simp] theorem launchPort_subch : ∀ x0 x1 x2 s, (launchPort x0 x1 x2 s).subch = s.subch := by
  intros; unfold launchPort; try dsimp only
  repeat' first | with_reducible rfl | (simp; done) | split | refine Eq.trans (forAll_subch _ _ _ fun _ _ => ?_) ?_ |
    (simp only [onBar, onDev, andThen, valueOk, checked, rated, holderOnly, forwarded]; try dsimp only) | (simp; intros)
@[simp] theorem launchLine_subch : ∀ x0 x1 s, (launchLine x0 x1 s).subch = s.subch := by
  intros; unfold launchLine; repeat' first | with_reducible rfl | (simp; done) | split
@[simp] theorem placeStrip_subch : ∀ x0 x1 x2 s, (placeStrip x0 x1 x2 s).subch = s.subch := fun x0 x1 x2 s => quiet_to_subch (placeStrip_quiet _ _ _ _)
@[simp] theorem decideStrip_subch : ∀ x0 s, (decideStrip x0 s).subch = s.subch := fun x0 s => quiet_to_subch (decideStrip_quiet _ _)
@[simp] theorem missMark_subch : ∀ x0 x1 x2 x3 s, (missMark x0 x1 x2 x3 s).subch = s.subch := fun x0 x1 x2 x3 s => quiet_to_subch (missMark_quiet _ _ _ _ _)
@[simp] theorem dropMarks_subch : ∀ x0 x1 s, (dropMarks x0 x1 s).subch = s.subch := fun x0 x1 s => quiet_to_subch (dropMarks_quiet _ _ _)
@[simp] theorem noteReady_subch : ∀ x0 s, (noteReady x0 s).subch = s.subch := fun x0 s => quiet_to_subch (noteReady_quiet _ _)
@[simp] theorem bandSelects_subch : ∀ x0 x1 s, (bandSelects x0 x1 s).subch = s.subch := fun x0 x1 s => quiet_to_subch (bandSelects_quiet _ _ _)
@[simp] theorem decideBand_subch : ∀ x0 x1 s, (decideBand x0 x1 s).subch = s.subch := fun x0 x1 s => quiet_to_subch (decideBand_quiet _ _ _)
@[simp] theorem freezeBand_subch : ∀ x0 x1 x2 s, (freezeBand x0 x1 x2 s).subch = s.subch := fun x0 x1 x2 s => quiet_to_subch (freezeBand_quiet _ _ _ _)
@[simp] theorem fixFlip_subch : ∀ x0 x1 x2 x3 s, (fixFlip x0 x1 x2 x3 s).subch = s.subch := by
  intros; unfold fixFlip; try dsimp only
  repeat' first | with_reducible rfl | (simp; done) | split | refine Eq.trans (forAll_subch _ _ _ fun _ _ => ?_) ?_ |
    (simp only [onBar, onDev, andThen, valueOk, checked, rated, holderOnly, forwarded]; try dsimp only) | (simp; intros)
@[simp] theorem judgeLate_subch : ∀ x0 x1 s, (judgeLate x0 x1 s).subch = s.subch := by
  intros; unfold judgeLate; try dsimp only
  repeat' first | with_reducible rfl | (simp; done) | split | refine Eq.trans (forAll_subch _ _ _ fun _ _ => ?_) ?_ |
    (simp only [onBar, onDev, andThen, valueOk, checked, rated, holderOnly, forwarded]; try dsimp only) | (simp; intros)
@[simp] theorem headsStarted_subch : ∀ x0 s, (headsStarted x0 s).subch = s.subch := by
  intros; unfold headsStarted; try dsimp only
  repeat' first | with_reducible rfl | (simp; done) | split | refine Eq.trans (forAll_subch _ _ _ fun _ _ => ?_) ?_ |
    (simp only [onBar, onDev, andThen, valueOk, checked, rated, holderOnly, forwarded, withRate, hostTime, toStandby, onRecord, byThread, byMachine, upFrame]; try dsimp only) | (simp; intros)
@[simp] theorem startPage_subch : ∀ x0 x1 x2 x3 s, (startPage x0 x1 x2 x3 s).subch = s.subch := by
  intros; unfold startPage; try dsimp only
  repeat' first | with_reducible rfl | (simp; done) | split | refine Eq.trans (forAll_subch _ _ _ fun _ _ => ?_) ?_ |
    (simp only [onBar, onDev, andThen, valueOk, checked, rated, holderOnly, forwarded]; try dsimp only) | (simp; intros)
@[simp] theorem wqTailEffect_subch : ∀ x0 x1 x2 x3 s, (wqTailEffect x0 x1 x2 x3 s).2.subch = s.subch := fun x0 x1 x2 x3 s => quiet_to_subch (wqTailEffect_quiet _ _ _ _ _)
@[simp] theorem eqHeadEffect_subch : ∀ x0 x1 x2 x3 s, (eqHeadEffect x0 x1 x2 x3 s).2.subch = s.subch := fun x0 x1 x2 x3 s => quiet_to_subch (eqHeadEffect_quiet _ _ _ _ _)
@[simp] theorem deqHeadEffect_subch : ∀ x0 x1 x2 x3 s, (deqHeadEffect x0 x1 x2 x3 s).2.subch = s.subch := by
  intro x0 x1 x2 w s
  have e : deqHeadEffect x0 x1 x2 w s = if headRefused s.deqHead s.deqTail w.toNat = true then (stRange, s)
      else (stOK, deqFlush { s with deqHead := w.toNat }) := by rw [deqHeadEffect, onDev]
  have e' : (stOK, deqFlush { s with deqHead := w.toNat }).2 = deqFlush { s with deqHead := w.toNat } := rfl
  by_cases h : headRefused s.deqHead s.deqTail w.toNat = true
  · rw [e, if_pos h]
  · rw [e, if_neg h, e', deqFlush_subch]
@[simp] theorem deqEnEffect_subch : ∀ x0 x1 x2 x3 s, (deqEnEffect x0 x1 x2 x3 s).2.subch = s.subch := fun x0 x1 x2 x3 s => quiet_to_subch (deqEnEffect_quiet _ _ _ _ _)
@[simp] theorem dmaJudge_subch : ∀ x0 x1 s, (dmaJudge x0 x1 s).subch = s.subch := fun x0 x1 s => quiet_to_subch (dmaJudge_quiet _ _ _)
@[simp] theorem fetchAgain_subch : ∀ x0 s, (fetchAgain x0 s).subch = s.subch := fun x0 s => quiet_to_subch (fetchAgain_quiet _ _)
@[simp] theorem busMaster_subch : ∀ x0 x1 s, (busMaster x0 x1 s).subch = s.subch := fun x0 x1 s => quiet_to_subch (busMaster_quiet _ _ _)
@[simp] theorem queueEffect_subch : ∀ x0 x1 x2 x3 s, (queueEffect x0 x1 x2 x3 s).2.subch = s.subch := by
  intros; unfold queueEffect; try dsimp only
  repeat' first | with_reducible rfl | (simp; done) | split | refine Eq.trans (forAll_subch _ _ _ fun _ _ => ?_) ?_ |
    (simp only [onBar, onDev, andThen, valueOk, checked, rated, holderOnly, forwarded]; try dsimp only) | (simp; intros)
@[simp] theorem deqRingEffect_subch : ∀ x0 x1 x2 x3 s, (deqRingEffect x0 x1 x2 x3 s).2.subch = s.subch := fun x0 x1 x2 x3 s => quiet_to_subch (deqRingEffect_quiet _ _ _ _ _)
@[simp] theorem djTailEffect_subch : ∀ x0 x1 x2 x3 s, (djTailEffect x0 x1 x2 x3 s).2.subch = s.subch := fun x0 x1 x2 x3 s => quiet_to_subch (djTailEffect_quiet _ _ _ _ _)
@[simp] theorem modFlight_subch : ∀ x0 x1 x2 s, (modFlight x0 x1 x2 s).subch = s.subch := fun x0 x1 x2 s => quiet_to_subch (modFlight_quiet _ _ _ _)
@[simp] theorem advanceHead_subch : ∀ x0 s, (advanceHead x0 s).subch = s.subch := fun x0 s => quiet_to_subch (advanceHead_quiet _ _)
@[simp] theorem flightDone_subch : ∀ x0 x1 s, (flightDone x0 x1 s).subch = s.subch := fun x0 x1 s => quiet_to_subch (flightDone_quiet _ _ _)
@[simp] theorem beginFetch_subch : ∀ x0 x1 s, (beginFetch x0 x1 s).subch = s.subch := fun x0 x1 s => quiet_to_subch (beginFetch_quiet _ _ _)
@[simp] theorem grantFetch_subch : ∀ x0 s, (grantFetch x0 s).subch = s.subch := by
  intros; unfold grantFetch; try dsimp only
  repeat' first | with_reducible rfl | (simp; done) | split | refine Eq.trans (forAll_subch _ _ _ fun _ _ => ?_) ?_ |
    (simp only [onBar, onDev, andThen, valueOk, checked, rated, holderOnly, forwarded]; try dsimp only) | (simp; intros)
@[simp] theorem wbFail_subch : ∀ x0 x1 x2 x3 x4 x5 s, (wbFail x0 x1 x2 x3 x4 x5 s).subch = s.subch := fun x0 x1 x2 x3 x4 x5 s => quiet_to_subch (wbFail_quiet _ _ _ _ _ _ _)
@[simp] theorem notify_subch : ∀ x0 x1 x2 s, (notify x0 x1 x2 s).subch = s.subch := fun x0 x1 x2 s => quiet_to_subch (notify_quiet _ _ _ _)
@[simp] theorem addPage_subch : ∀ x0 x1 s, (addPage x0 x1 s).subch = s.subch := fun x0 x1 s => quiet_to_subch (addPage_quiet _ _ _)
@[simp] theorem peerFlip_subch : ∀ x0 x1 x2 x3 s, (peerFlip x0 x1 x2 x3 s).subch = s.subch := by
  intros; unfold peerFlip; try dsimp only
  repeat' first | with_reducible rfl | (simp; done) | split | refine Eq.trans (forAll_subch _ _ _ fun _ _ => ?_) ?_ |
    (simp only [onBar, onDev, andThen, valueOk, checked, rated, holderOnly, forwarded, withRate, hostTime, toStandby, onRecord, byThread, byMachine, upFrame]; try dsimp only) | (simp; intros)
@[simp] theorem takeAhead_subch : ∀ x0 x1 s, (takeAhead x0 x1 s).subch = s.subch := by
  intros; unfold takeAhead; try dsimp only
  repeat' first | with_reducible rfl | (simp; done) | split | refine Eq.trans (forAll_subch _ _ _ fun _ _ => ?_) ?_ |
    (simp only [onBar, onDev, andThen, valueOk, checked, rated, holderOnly, forwarded]; try dsimp only) | (simp; intros)
@[simp] theorem acceptHead_subch : ∀ x0 x1 x2 s, (acceptHead x0 x1 x2 s).subch = s.subch := by intros; unfold acceptHead; simp
@[simp] theorem checkHead_subch : ∀ x0 x1 s, (checkHead x0 x1 s).subch = s.subch := by
  intros; unfold checkHead; try dsimp only
  repeat' first | with_reducible rfl | (simp; done) | split | refine Eq.trans (forAll_subch _ _ _ fun _ _ => ?_) ?_ |
    (simp only [onBar, onDev, andThen, valueOk, checked, rated, holderOnly, forwarded]; try dsimp only) | (simp; intros)
@[simp] theorem finishPage_subch : ∀ x0 x1 s, (finishPage x0 x1 s).subch = s.subch := fun x0 x1 s => quiet_to_subch (finishPage_quiet _ _ _)
@[simp] theorem settle_subch : ∀ x0 x1 s, (settle x0 x1 s).subch = s.subch := fun x0 x1 s => quiet_to_subch (settle_quiet _ _ _)
@[simp] theorem checkWagon_subch : ∀ x0 x1 s, (checkWagon x0 x1 s).subch = s.subch := fun x0 x1 s => quiet_to_subch (checkWagon_quiet _ _ _)
@[simp] theorem reprintPage_subch : ∀ x0 x1 x2 s, (reprintPage x0 x1 x2 s).subch = s.subch := by
  intros; unfold reprintPage; try dsimp only
  repeat' first | with_reducible rfl | (simp; done) | split | refine Eq.trans (forAll_subch _ _ _ fun _ _ => ?_) ?_ |
    (simp only [onBar, onDev, andThen, valueOk, checked, rated, holderOnly, forwarded, withRate, hostTime, toStandby, onRecord, byThread, byMachine, upFrame]; try dsimp only) | (simp; intros)
@[simp] theorem checkReprint_subch : ∀ x0 x1 s, (checkReprint x0 x1 s).subch = s.subch := by
  intros; unfold checkReprint; try dsimp only
  repeat' first | with_reducible rfl | (simp; done) | split | refine Eq.trans (forAll_subch _ _ _ fun _ _ => ?_) ?_ |
    (simp only [onBar, onDev, andThen, valueOk, checked, rated, holderOnly, forwarded]; try dsimp only) | (simp; intros)
@[simp] theorem checkWaybill_subch : ∀ x0 x1 s, (checkWaybill x0 x1 s).subch = s.subch := by
  intros; unfold checkWaybill; try dsimp only
  repeat' first | with_reducible rfl | (simp; done) | split | refine Eq.trans (forAll_subch _ _ _ fun _ _ => ?_) ?_ |
    (simp only [onBar, onDev, andThen, valueOk, checked, rated, holderOnly, forwarded]; try dsimp only) | (simp; intros)
@[simp] theorem checkRun_subch : ∀ x0 x1 s, (checkRun x0 x1 s).subch = s.subch := by
  intro x0 n
  induction n with
  | zero => intro s; rfl
  | succ n ih => intro s; unfold checkRun; split; · split <;> simp [ih]
                 · rfl
@[simp] theorem checkAll_subch : ∀ x0 s, (checkAll x0 s).subch = s.subch := by intros; unfold checkAll; simp
@[simp] theorem resumeHold_subch : ∀ x0 s, (resumeHold x0 s).subch = s.subch := by
  intros; unfold resumeHold; try dsimp only
  repeat' first | with_reducible rfl | (simp; done) | split | refine Eq.trans (forAll_subch _ _ _ fun _ _ => ?_) ?_ |
    (simp only [onBar, onDev, andThen, valueOk, checked, rated, holderOnly, forwarded]; try dsimp only) | (simp; intros)
@[simp] theorem resumeIntake_subch : ∀ x0 s, (resumeIntake x0 s).subch = s.subch := by intros; unfold resumeIntake; simp
@[simp] theorem checkInteg_subch : ∀ x0 x1 x2 s, (checkInteg x0 x1 x2 s).subch = s.subch := by
  intros; unfold checkInteg; try dsimp only
  repeat' first | with_reducible rfl | (simp; done) | split | refine Eq.trans (forAll_subch _ _ _ fun _ _ => ?_) ?_ |
    (simp only [onBar, onDev, andThen, valueOk, checked, rated, holderOnly, forwarded]; try dsimp only) | (simp; intros)
@[simp] theorem haltPayloads_subch : ∀ x0 s, (haltPayloads x0 s).subch = s.subch := fun x0 s => quiet_to_subch (haltPayloads_quiet _ _)
@[simp] theorem storePayload_subch : ∀ x0 x1 x2 x3 s, (storePayload x0 x1 x2 x3 s).subch = s.subch := by
  intros; unfold storePayload; try dsimp only
  repeat' first | with_reducible rfl | (simp; done) | split | refine Eq.trans (forAll_subch _ _ _ fun _ _ => ?_) ?_ |
    (simp only [onBar, onDev, andThen, valueOk, checked, rated, holderOnly, forwarded]; try dsimp only) | (simp; intros)
@[simp] theorem abortFail_subch : ∀ x0 x1 x2 s, (abortFail x0 x1 x2 s).subch = s.subch := by
  intros; unfold abortFail; repeat' first | with_reducible rfl | (simp; done) | split
@[simp] theorem abortFetch_subch : ∀ x0 x1 x2 s, (abortFetch x0 x1 x2 s).subch = s.subch := by
  intros; unfold abortFetch; try dsimp only
  repeat' first | with_reducible rfl | (simp; done) | split | refine Eq.trans (forAll_subch _ _ _ fun _ _ => ?_) ?_ |
    (simp only [onBar, onDev, andThen, valueOk, checked, rated, holderOnly, forwarded]; try dsimp only) | (simp; intros)
@[simp] theorem modSlot_subch : ∀ x0 x1 x2 x3 s, (modSlot x0 x1 x2 x3 s).subch = s.subch := fun x0 x1 x2 x3 s => quiet_to_subch (modSlot_quiet _ _ _ _ _)
@[simp] theorem startEngine_subch : ∀ x0 x1 s, (startEngine x0 x1 s).subch = s.subch := by intros; unfold startEngine; simp
@[simp] theorem assignWagon_subch : ∀ s, (assignWagon s).subch = s.subch := by
  intros; unfold assignWagon; try dsimp only
  repeat' first | with_reducible rfl | (simp; done) | split | refine Eq.trans (forAll_subch _ _ _ fun _ _ => ?_) ?_ |
    (simp only [onBar, onDev, andThen, valueOk, checked, rated, holderOnly, forwarded]; try dsimp only) | (simp; intros)
@[simp] theorem freeEngine_subch : ∀ x0 s, (freeEngine x0 s).subch = s.subch := by
  intros; unfold freeEngine; try dsimp only
  repeat' first | with_reducible rfl | (simp; done) | split | refine Eq.trans (forAll_subch _ _ _ fun _ _ => ?_) ?_ |
    (simp only [onBar, onDev, andThen, valueOk, checked, rated, holderOnly, forwarded, withRate, hostTime, toStandby, onRecord, byThread, byMachine, upFrame]; try dsimp only) | (simp; intros)
@[simp] theorem failWagon_subch : ∀ x0 x1 x2 x3 x4 s, (failWagon x0 x1 x2 x3 x4 s).subch = s.subch := by intros; unfold failWagon; simp
@[simp] theorem rowDone_subch : ∀ x0 x1 x2 x3 x4 s, (rowDone x0 x1 x2 x3 x4 s).subch = s.subch := by
  intros; unfold rowDone; try dsimp only
  repeat' first | with_reducible rfl | (simp; done) | split | refine Eq.trans (forAll_subch _ _ _ fun _ _ => ?_) ?_ |
    (simp only [onBar, onDev, andThen, valueOk, checked, rated, holderOnly, forwarded]; try dsimp only) | (simp; intros)
@[simp] theorem wagonEnd_subch : ∀ x0 x1 x2 x3 x4 s, (wagonEnd x0 x1 x2 x3 x4 s).subch = s.subch := by
  intros; unfold wagonEnd; try dsimp only
  repeat' first | with_reducible rfl | (simp; done) | split | refine Eq.trans (forAll_subch _ _ _ fun _ _ => ?_) ?_ |
    (simp only [onBar, onDev, andThen, valueOk, checked, rated, holderOnly, forwarded]; try dsimp only) | (simp; intros)
@[simp] theorem engineLost_subch : ∀ x0 s, (engineLost x0 s).subch = s.subch := by
  intros; unfold engineLost; repeat' first | with_reducible rfl | (simp; done) | split
@[simp] theorem modJob_subch : ∀ x0 x1 x2 s, (modJob x0 x1 x2 s).subch = s.subch := fun x0 x1 x2 s => quiet_to_subch (modJob_quiet _ _ _ _)
@[simp] theorem dropJob_subch : ∀ x0 x1 s, (dropJob x0 x1 s).subch = s.subch := by intros; unfold dropJob; simp
@[simp] theorem writeBack_subch : ∀ x0 x1 x2 x3 x4 s, (writeBack x0 x1 x2 x3 x4 s).subch = s.subch := fun x0 x1 x2 x3 x4 s => quiet_to_subch (writeBack_quiet _ _ _ _ _ _)
@[simp] theorem takeDesc_subch : ∀ x0 s, (takeDesc x0 s).2.subch = s.subch := fun x0 s => quiet_to_subch (takeDesc_quiet _ _)
@[simp] theorem assignDeflate_subch : ∀ s, (assignDeflate s).subch = s.subch := by
  intros; unfold assignDeflate; try dsimp only
  repeat' first | with_reducible rfl | (simp; done) | split | refine Eq.trans (forAll_subch _ _ _ fun _ _ => ?_) ?_ |
    (simp only [onBar, onDev, andThen, valueOk, checked, rated, holderOnly, forwarded]; try dsimp only) | (simp; intros)
@[simp] theorem resumeJob_subch : ∀ x0 x1 x2 s, (resumeJob x0 x1 x2 s).subch = s.subch := fun x0 x1 x2 s => quiet_to_subch (resumeJob_quiet _ _ _ _)
@[simp] theorem closeBuf_subch : ∀ x0 x1 x2 s, (closeBuf x0 x1 x2 s).subch = s.subch := fun x0 x1 x2 s => quiet_to_subch (closeBuf_quiet _ _ _ _)
@[simp] theorem bufWrite_subch : ∀ x0 x1 x2 x3 s, (bufWrite x0 x1 x2 x3 s).subch = s.subch := fun x0 x1 x2 x3 s => quiet_to_subch (bufWrite_quiet _ _ _ _ _)
@[simp] theorem chainPut_subch : ∀ x0 x1 x2 x3 x4 x5 s, (chainPut x0 x1 x2 x3 x4 x5 s).2.subch = s.subch := fun x0 x1 x2 x3 x4 x5 s => quiet_to_subch (chainPut_quiet _ _ _ _ _ _ _)
@[simp] theorem flushStore_subch : ∀ x0 x1 x2 s, (flushStore x0 x1 x2 s).subch = s.subch := fun x0 x1 x2 s => quiet_to_subch (flushStore_quiet _ _ _ _)
@[simp] theorem chainReturn_subch : ∀ x0 x1 s, (chainReturn x0 x1 s).subch = s.subch := fun x0 x1 s => quiet_to_subch (chainReturn_quiet _ _ _)
@[simp] theorem releaseAudit_subch : ∀ x0 x1 s, (releaseAudit x0 x1 s).subch = s.subch := fun x0 x1 s => quiet_to_subch (releaseAudit_quiet _ _ _)
@[simp] theorem endJob_subch : ∀ x0 x1 x2 x3 s, (endJob x0 x1 x2 x3 s).subch = s.subch := by intros; unfold endJob; simp
@[simp] theorem cancelBuf_subch : ∀ x0 x1 s, (cancelBuf x0 x1 s).subch = s.subch := fun x0 x1 s => quiet_to_subch (cancelBuf_quiet _ _ _)
@[simp] theorem finishCamera_subch : ∀ x0 x1 s, (finishCamera x0 x1 s).subch = s.subch := by
  intros; unfold finishCamera; try dsimp only
  repeat' first | with_reducible rfl | (simp; done) | split | refine Eq.trans (forAll_subch _ _ _ fun _ _ => ?_) ?_ |
    (simp only [onBar, onDev, andThen, valueOk, checked, rated, holderOnly, forwarded, withRate, hostTime, toStandby, onRecord, byThread, byMachine, upFrame]; try dsimp only) | (simp; intros)
@[simp] theorem chainTailEffect_subch : ∀ x0 x1 x2 x3 x4 s, (chainTailEffect x0 x1 x2 x3 x4 s).2.subch = s.subch := by
  intros; unfold chainTailEffect; try dsimp only
  repeat' first | with_reducible rfl | (simp; done) | split | refine Eq.trans (forAll_subch _ _ _ fun _ _ => ?_) ?_ |
    (simp only [onBar, onDev, andThen, valueOk, checked, rated, holderOnly, forwarded]; try dsimp only) | (simp; intros)
@[simp] theorem blockWritten_subch : ∀ x0 x1 x2 x3 s, (blockWritten x0 x1 x2 x3 s).subch = s.subch := fun x0 x1 x2 x3 s => quiet_to_subch (blockWritten_quiet _ _ _ _ _)
@[simp] theorem stopBlock_subch : ∀ x0 x1 x2 x3 x4 x5 s, (stopBlock x0 x1 x2 x3 x4 x5 s).subch = s.subch := by
  intros; unfold stopBlock; try dsimp only
  repeat' first | with_reducible rfl | (simp; done) | split | refine Eq.trans (forAll_subch _ _ _ fun _ _ => ?_) ?_ |
    (simp only [onBar, onDev, andThen, valueOk, checked, rated, holderOnly, forwarded]; try dsimp only) | (simp; intros)
@[simp] theorem storeBlock_subch : ∀ x0 x1 x2 x3 x4 s, (storeBlock x0 x1 x2 x3 x4 s).subch = s.subch := fun x0 x1 x2 x3 x4 s => quiet_to_subch (storeBlock_quiet _ _ _ _ _ _)
@[simp] theorem chainBlock_subch : ∀ x0 x1 x2 x3 x4 x5 s, (chainBlock x0 x1 x2 x3 x4 x5 s).subch = s.subch := by
  intros; unfold chainBlock; try dsimp only
  repeat' first | with_reducible rfl | (simp; done) | split | refine Eq.trans (forAll_subch _ _ _ fun _ _ => ?_) ?_ |
    (simp only [onBar, onDev, andThen, valueOk, checked, rated, holderOnly, forwarded]; try dsimp only) | (simp; intros)
@[simp] theorem verifyFails_subch : ∀ x0 x1 s, (verifyFails x0 x1 s).subch = s.subch := by
  intros; unfold verifyFails; try dsimp only
  repeat' first | with_reducible rfl | (simp; done) | split | refine Eq.trans (forAll_subch _ _ _ fun _ _ => ?_) ?_ |
    (simp only [onBar, onDev, andThen, valueOk, checked, rated, holderOnly, forwarded, withRate, hostTime, toStandby, onRecord, byThread, byMachine, upFrame]; try dsimp only) | (simp; intros)
@[simp] theorem jobBlock_subch : ∀ x0 x1 x2 x3 x4 x5 x6 x7 s, (jobBlock x0 x1 x2 x3 x4 x5 x6 x7 s).subch = s.subch := by
  intros; unfold jobBlock; try dsimp only
  repeat' first | with_reducible rfl | (simp; done) | split | refine Eq.trans (forAll_subch _ _ _ fun _ _ => ?_) ?_ |
    (simp only [onBar, onDev, andThen, valueOk, checked, rated, holderOnly, forwarded, withRate, hostTime, toStandby, onRecord, byThread, byMachine, upFrame]; try dsimp only) | (simp; intros)
@[simp] theorem nextTurn_subch : ∀ x0 x1 x2 s, (nextTurn x0 x1 x2 s).subch = s.subch := by intros; unfold nextTurn; simp
@[simp] theorem dropAudit_subch : ∀ x0 s, (dropAudit x0 s).subch = s.subch := by intros; unfold dropAudit; simp
@[simp] theorem auditEffect_subch : ∀ x0 x1 x2 x3 s, (auditEffect x0 x1 x2 x3 s).2.subch = s.subch := by
  intros; unfold auditEffect; try dsimp only
  repeat' first | with_reducible rfl | (simp; done) | split | refine Eq.trans (forAll_subch _ _ _ fun _ _ => ?_) ?_ |
    (simp only [onBar, onDev, andThen, valueOk, checked, rated, holderOnly, forwarded]; try dsimp only) | (simp; intros)
@[simp] theorem flagProgress_subch : ∀ x0 x1 s, (flagProgress x0 x1 s).subch = s.subch := fun x0 x1 s => quiet_to_subch (flagProgress_quiet _ _ _)
@[simp] theorem flagAll_subch : ∀ x0 s, (flagAll x0 s).subch = s.subch := fun x0 s => quiet_to_subch (flagAll_quiet _ _)
@[simp] theorem encoderJudge_subch : ∀ s, (encoderJudge s).subch = s.subch := by
  intros; unfold encoderJudge; try dsimp only
  repeat' first | with_reducible rfl | (simp; done) | split | refine Eq.trans (forAll_subch _ _ _ fun _ _ => ?_) ?_ |
    (simp only [onBar, onDev, andThen, valueOk, checked, rated, holderOnly, forwarded, withRate, hostTime, toStandby, onRecord, byThread, byMachine, upFrame]; try dsimp only) | (simp; intros)
@[simp] theorem quadError_subch : ∀ x0 s, (quadError x0 s).subch = s.subch := by
  intros; unfold quadError; try dsimp only
  repeat' first | with_reducible rfl | (simp; done) | split | refine Eq.trans (forAll_subch _ _ _ fun _ _ => ?_) ?_ |
    (simp only [onBar, onDev, andThen, valueOk, checked, rated, holderOnly, forwarded]; try dsimp only) | (simp; intros)
@[simp] theorem countAbove_subch : ∀ x0 s, (countAbove x0 s).subch = s.subch := by
  intros; unfold countAbove; try dsimp only
  repeat' first | with_reducible rfl | (simp; done) | split | refine Eq.trans (forAll_subch _ _ _ fun _ _ => ?_) ?_ |
    (simp only [onBar, onDev, andThen, valueOk, checked, rated, holderOnly, forwarded]; try dsimp only) | (simp; intros)
@[simp] theorem countBelow_subch : ∀ x0 s, (countBelow x0 s).subch = s.subch := by
  intros; unfold countBelow; try dsimp only
  repeat' first | with_reducible rfl | (simp; done) | split | refine Eq.trans (forAll_subch _ _ _ fun _ _ => ?_) ?_ |
    (simp only [onBar, onDev, andThen, valueOk, checked, rated, holderOnly, forwarded]; try dsimp only) | (simp; intros)
@[simp] theorem encStep_subch : ∀ x0 x1 s, (encStep x0 x1 s).subch = s.subch := by
  intros; unfold encStep; try dsimp only
  repeat' first | with_reducible rfl | (simp; done) | split | refine Eq.trans (forAll_subch _ _ _ fun _ _ => ?_) ?_ |
    (simp only [onBar, onDev, andThen, valueOk, checked, rated, holderOnly, forwarded]; try dsimp only) | (simp; intros)
@[simp] theorem encChange_subch : ∀ x0 x1 x2 s, (encChange x0 x1 x2 s).subch = s.subch := by
  intros; unfold encChange; try dsimp only
  repeat' first | with_reducible rfl | (simp; done) | split | refine Eq.trans (forAll_subch _ _ _ fun _ _ => ?_) ?_ |
    (simp only [onBar, onDev, andThen, valueOk, checked, rated, holderOnly, forwarded]; try dsimp only) | (simp; intros)
@[simp] theorem bandStops_subch : ∀ s, (bandStops s).subch = s.subch := fun s => quiet_to_subch (bandStops_quiet _)
@[simp] theorem webStops_subch : ∀ s, (webStops s).subch = s.subch := by intros; unfold webStops; simp
@[simp] theorem firstLaunches_subch : ∀ s, (firstLaunches s).subch = s.subch := by intros; unfold firstLaunches; simp
@[simp] theorem trigOn_subch : ∀ s, (trigOn s).subch = s.subch := by
  intros; unfold trigOn; try dsimp only
  repeat' first | with_reducible rfl | (simp; done) | split | refine Eq.trans (forAll_subch _ _ _ fun _ _ => ?_) ?_ |
    (simp only [onBar, onDev, andThen, valueOk, checked, rated, holderOnly, forwarded]; try dsimp only) | (simp; intros)
@[simp] theorem trigOff_subch : ∀ s, (trigOff s).subch = s.subch := by
  intros; unfold trigOff; repeat' first | with_reducible rfl | (simp; done) | split
@[simp] theorem trigEnEffect_subch : ∀ x0 x1 x2 x3 s, (trigEnEffect x0 x1 x2 x3 s).2.subch = s.subch := by
  intros; unfold trigEnEffect; try dsimp only
  repeat' first | with_reducible rfl | (simp; done) | split | refine Eq.trans (forAll_subch _ _ _ fun _ _ => ?_) ?_ |
    (simp only [onBar, onDev, andThen, valueOk, checked, rated, holderOnly, forwarded]; try dsimp only) | (simp; intros)
@[simp] theorem registerMark_subch : ∀ x0 x1 x2 s, (registerMark x0 x1 x2 s).subch = s.subch := fun x0 x1 x2 s => quiet_to_subch (registerMark_quiet _ _ _ _)
@[simp] theorem markAccepted_subch : ∀ x0 x1 s, (markAccepted x0 x1 s).subch = s.subch := by
  intros; unfold markAccepted; try dsimp only
  repeat' first | with_reducible rfl | (simp; done) | split | refine Eq.trans (forAll_subch _ _ _ fun _ _ => ?_) ?_ |
    (simp only [onBar, onDev, andThen, valueOk, checked, rated, holderOnly, forwarded]; try dsimp only) | (simp; intros)
@[simp] theorem markEdge_subch : ∀ x0 x1 s, (markEdge x0 x1 s).subch = s.subch := by
  intros; unfold markEdge; try dsimp only
  repeat' first | with_reducible rfl | (simp; done) | split | refine Eq.trans (forAll_subch _ _ _ fun _ _ => ?_) ?_ |
    (simp only [onBar, onDev, andThen, valueOk, checked, rated, holderOnly, forwarded, withRate, hostTime, toStandby, onRecord, byThread, byMachine, upFrame]; try dsimp only) | (simp; intros)
@[simp] theorem markRegEffect_subch : ∀ x0 x1 x2 x3 s, (markRegEffect x0 x1 x2 x3 s).2.subch = s.subch := fun x0 x1 x2 x3 s => quiet_to_subch (markRegEffect_quiet _ _ _ _ _)
@[simp] theorem raisePanic_subch : ∀ x0 s, (raisePanic x0 s).subch = s.subch := by
  intros; unfold raisePanic; try dsimp only
  repeat' first | with_reducible rfl | (simp; done) | split | refine Eq.trans (forAll_subch _ _ _ fun _ _ => ?_) ?_ |
    (simp only [onBar, onDev, andThen, valueOk, checked, rated, holderOnly, forwarded]; try dsimp only) | (simp; intros)
@[simp] theorem camJudge_subch : ∀ x0 s, (camJudge x0 s).subch = s.subch := by
  intros; unfold camJudge; try dsimp only
  repeat' first | with_reducible rfl | (simp; done) | split | refine Eq.trans (forAll_subch _ _ _ fun _ _ => ?_) ?_ |
    (simp only [onBar, onDev, andThen, valueOk, checked, rated, holderOnly, forwarded]; try dsimp only) | (simp; intros)
@[simp] theorem camReset_subch : ∀ x0 s, (camReset x0 s).subch = s.subch := by intros; unfold camReset; simp
@[simp] theorem camLost_subch : ∀ x0 x1 x2 s, (camLost x0 x1 x2 s).subch = s.subch := by
  intros; unfold camLost; repeat' first | with_reducible rfl | (simp; done) | split
@[simp] theorem dropPulses_subch : ∀ x0 s, (dropPulses x0 s).subch = s.subch := by intros; unfold dropPulses; simp
@[simp] theorem putRing_subch : ∀ x0 x1 x2 s, (putRing x0 x1 x2 s).subch = s.subch := by intros; unfold putRing; simp
@[simp] theorem flushBlock_subch : ∀ x0 s, (flushBlock x0 s).subch = s.subch := by
  intros; unfold flushBlock; try dsimp only
  repeat' first | with_reducible rfl | (simp; done) | split | refine Eq.trans (forAll_subch _ _ _ fun _ _ => ?_) ?_ |
    (simp only [onBar, onDev, andThen, valueOk, checked, rated, holderOnly, forwarded]; try dsimp only) | (simp; intros)
@[simp] theorem putStripLine_subch : ∀ x0 x1 s, (putStripLine x0 x1 s).subch = s.subch := by
  intros; unfold putStripLine; try dsimp only
  repeat' first | with_reducible rfl | (simp; done) | split | refine Eq.trans (forAll_subch _ _ _ fun _ _ => ?_) ?_ |
    (simp only [onBar, onDev, andThen, valueOk, checked, rated, holderOnly, forwarded, withRate, hostTime, toStandby, onRecord, byThread, byMachine, upFrame]; try dsimp only) | (simp; intros)
@[simp] theorem putOutputs_subch : ∀ x0 x1 s, (putOutputs x0 x1 s).subch = s.subch := by
  intros; unfold putOutputs; try dsimp only
  repeat' first | with_reducible rfl | (simp; done) | split | refine Eq.trans (forAll_subch _ _ _ fun _ _ => ?_) ?_ |
    (simp only [onBar, onDev, andThen, valueOk, checked, rated, holderOnly, forwarded]; try dsimp only) | (simp; intros)
@[simp] theorem postSaturation_subch : ∀ x0 x1 s, (postSaturation x0 x1 s).subch = s.subch := by
  intros; unfold postSaturation; try dsimp only
  repeat' first | with_reducible rfl | (simp; done) | split | refine Eq.trans (forAll_subch _ _ _ fun _ _ => ?_) ?_ |
    (simp only [onBar, onDev, andThen, valueOk, checked, rated, holderOnly, forwarded]; try dsimp only) | (simp; intros)
@[simp] theorem profileLine_subch : ∀ x0 x1 s, (profileLine x0 x1 s).subch = s.subch := by
  intros; unfold profileLine; try dsimp only
  repeat' first | with_reducible rfl | (simp; done) | split | refine Eq.trans (forAll_subch _ _ _ fun _ _ => ?_) ?_ |
    (simp only [onBar, onDev, andThen, valueOk, checked, rated, holderOnly, forwarded]; try dsimp only) | (simp; intros)
@[simp] theorem focusLatch_subch : ∀ x0 x1 s, (focusLatch x0 x1 s).subch = s.subch := by intros; unfold focusLatch; simp
@[simp] theorem focusLine_subch : ∀ x0 x1 s, (focusLine x0 x1 s).2.subch = s.subch := by
  intros; unfold focusLine; try dsimp only
  repeat' first | with_reducible rfl | (simp; done) | split | refine Eq.trans (forAll_subch _ _ _ fun _ _ => ?_) ?_ |
    (simp only [onBar, onDev, andThen, valueOk, checked, rated, holderOnly, forwarded]; try dsimp only) | (simp; intros)
@[simp] theorem focusAbort_subch : ∀ x0 s, (focusAbort x0 s).subch = s.subch := by
  intros; unfold focusAbort; repeat' first | with_reducible rfl | (simp; done) | split
@[simp] theorem focusMove_subch : ∀ x0 x1 x2 s, (focusMove x0 x1 x2 s).subch = s.subch := by
  intros; unfold focusMove; try dsimp only
  repeat' first | with_reducible rfl | (simp; done) | split | refine Eq.trans (forAll_subch _ _ _ fun _ _ => ?_) ?_ |
    (simp only [onBar, onDev, andThen, valueOk, checked, rated, holderOnly, forwarded]; try dsimp only) | (simp; intros)
@[simp] theorem focusLatched_subch : ∀ x0 s, (focusLatched x0 s).subch = s.subch := by
  intros; unfold focusLatched; try dsimp only
  repeat' first | with_reducible rfl | (simp; done) | split | refine Eq.trans (forAll_subch _ _ _ fun _ _ => ?_) ?_ |
    (simp only [onBar, onDev, andThen, valueOk, checked, rated, holderOnly, forwarded]; try dsimp only) | (simp; intros)
@[simp] theorem focusStands_subch : ∀ x0 s, (focusStands x0 s).subch = s.subch := by
  intros; unfold focusStands; repeat' first | with_reducible rfl | (simp; done) | split
@[simp] theorem focusAll_subch : ∀ s, (focusAll s).subch = s.subch := by intros; unfold focusAll; simp
@[simp] theorem focusGoEffect_subch : ∀ x0 x1 x2 x3 s, (focusGoEffect x0 x1 x2 x3 s).2.subch = s.subch := by
  intros; unfold focusGoEffect; try dsimp only
  repeat' first | with_reducible rfl | (simp; done) | split | refine Eq.trans (forAll_subch _ _ _ fun _ _ => ?_) ?_ |
    (simp only [onBar, onDev, andThen, valueOk, checked, rated, holderOnly, forwarded]; try dsimp only) | (simp; intros)
@[simp] theorem register_subch : ∀ x0 x1 x2 x3 s, (register x0 x1 x2 x3 s).2.subch = s.subch := by
  intros; unfold register; try dsimp only
  repeat' first | with_reducible rfl | (simp; done) | split | refine Eq.trans (forAll_subch _ _ _ fun _ _ => ?_) ?_ |
    (simp only [onBar, onDev, andThen, valueOk, checked, rated, holderOnly, forwarded, withRate, hostTime, toStandby, onRecord, byThread, byMachine, upFrame]; try dsimp only) | (simp; intros)
@[simp] theorem putResults_subch : ∀ x0 x1 x2 s, (putResults x0 x1 x2 s).subch = s.subch := fun x0 x1 x2 s => quiet_to_subch (putResults_quiet _ _ _ _)
@[simp] theorem editGains_subch : ∀ x0 x1 x2 s, (editGains x0 x1 x2 s).subch = s.subch := fun x0 x1 x2 s => quiet_to_subch (editGains_quiet _ _ _ _)
theorem applyHead_subch (b x i p a) (acc : LoopSum × State) : (applyHead b x i p a acc).2.subch = acc.2.subch := by
  unfold applyHead; dsimp only
  repeat' first | with_reducible rfl | (simp; done) | split
@[simp] theorem modStrip_subch : ∀ x0 x1 x2 s, (modStrip x0 x1 x2 s).subch = s.subch := fun x0 x1 x2 s => quiet_to_subch (modStrip_quiet _ _ _ _)
@[simp] theorem loopCommit_subch : ∀ x0 x1 x2 s, (loopCommit x0 x1 x2 s).2.subch = s.subch := by
  intros; unfold loopCommit; try dsimp only
  repeat' first | with_reducible rfl | (simp; done) | split | refine Eq.trans (forAll_subch _ _ _ fun _ _ => ?_) ?_ |
    (simp only [onBar, onDev, andThen, valueOk, checked, rated, holderOnly, forwarded, withRate, hostTime, toStandby, onRecord, byThread, byMachine, upFrame]; try dsimp only) | (simp; intros)
@[simp] theorem applyStrip_subch : ∀ x0 x1 x2 x3 s, (applyStrip x0 x1 x2 x3 s).2.2.subch = s.subch := by
  intros; unfold applyStrip; dsimp only
  split
  · refine Eq.trans (loopCommit_subch _ _ _ _) ?_
    exact foldl_keeps (fun a : LoopSum × State => a.2.subch) _ _ _ (fun a p => applyHead_subch _ _ _ _ _ a)
  · rfl
@[simp] theorem stripFinish_subch : ∀ x0 x1 s, (stripFinish x0 x1 s).subch = s.subch := by intros; unfold stripFinish; simp
@[simp] theorem stripDone_subch : ∀ x0 x1 s, (stripDone x0 x1 s).subch = s.subch := by
  intros; unfold stripDone; try dsimp only
  repeat' first | with_reducible rfl | (simp; done) | split | refine Eq.trans (forAll_subch _ _ _ fun _ _ => ?_) ?_ |
    (simp only [onBar, onDev, andThen, valueOk, checked, rated, holderOnly, forwarded, withRate, hostTime, toStandby, onRecord, byThread, byMachine, upFrame]; try dsimp only) | (simp; intros)
@[simp] theorem stripDoneAt_subch : ∀ x0 x1 s, (stripDoneAt x0 x1 s).subch = s.subch := by
  intros; unfold stripDoneAt; try dsimp only
  repeat' first | with_reducible rfl | (simp; done) | split | refine Eq.trans (forAll_subch _ _ _ fun _ _ => ?_) ?_ |
    (simp only [onBar, onDev, andThen, valueOk, checked, rated, holderOnly, forwarded, withRate, hostTime, toStandby, onRecord, byThread, byMachine, upFrame]; try dsimp only) | (simp; intros)
@[simp] theorem sendMeas_subch : ∀ x0 x1 s, (sendMeas x0 x1 s).subch = s.subch := fun x0 x1 s => quiet_to_subch (sendMeas_quiet _ _ _)
@[simp] theorem stripEnd_subch : ∀ x0 x1 x2 s, (stripEnd x0 x1 x2 s).subch = s.subch := by
  intros; unfold stripEnd; try dsimp only
  repeat' first | with_reducible rfl | (simp; done) | split | refine Eq.trans (forAll_subch _ _ _ fun _ _ => ?_) ?_ |
    (simp only [onBar, onDev, andThen, valueOk, checked, rated, holderOnly, forwarded]; try dsimp only) | (simp; intros)
@[simp] theorem keepLine_subch : ∀ x0 x1 x2 x3 x4 s, (keepLine x0 x1 x2 x3 x4 s).subch = s.subch := by intros; unfold keepLine; simp
@[simp] theorem measureStrip_subch : ∀ x0 x1 x2 x3 x4 s, (measureStrip x0 x1 x2 x3 x4 s).subch = s.subch := by
  intros; unfold measureStrip; try dsimp only
  repeat' first | with_reducible rfl | (simp; done) | split | refine Eq.trans (forAll_subch _ _ _ fun _ _ => ?_) ?_ |
    (simp only [onBar, onDev, andThen, valueOk, checked, rated, holderOnly, forwarded, withRate, hostTime, toStandby, onRecord, byThread, byMachine, upFrame]; try dsimp only) | (simp; intros)
@[simp] theorem measureLine_subch : ∀ x0 x1 s, (measureLine x0 x1 s).subch = s.subch := by
  intros; unfold measureLine; try dsimp only
  repeat' first | with_reducible rfl | (simp; done) | split | refine Eq.trans (forAll_subch _ _ _ fun _ _ => ?_) ?_ |
    (simp only [onBar, onDev, andThen, valueOk, checked, rated, holderOnly, forwarded]; try dsimp only) | (simp; intros)
@[simp] theorem stripGone_subch : ∀ x0 x1 x2 s, (stripGone x0 x1 x2 s).subch = s.subch := by
  intros; unfold stripGone; try dsimp only
  repeat' first | with_reducible rfl | (simp; done) | split | refine Eq.trans (forAll_subch _ _ _ fun _ _ => ?_) ?_ |
    (simp only [onBar, onDev, andThen, valueOk, checked, rated, holderOnly, forwarded]; try dsimp only) | (simp; intros)
@[simp] theorem stripsGone_subch : ∀ x0 s, (stripsGone x0 s).subch = s.subch := by intros; unfold stripsGone; simp
@[simp] theorem takeMeas_subch : ∀ x0 x1 x2 s, (takeMeas x0 x1 x2 s).subch = s.subch := by
  intros; unfold takeMeas; try dsimp only
  repeat' first | with_reducible rfl | (simp; done) | split | refine Eq.trans (forAll_subch _ _ _ fun _ _ => ?_) ?_ |
    (simp only [onBar, onDev, andThen, valueOk, checked, rated, holderOnly, forwarded, withRate, hostTime, toStandby, onRecord, byThread, byMachine, upFrame]; try dsimp only) | (simp; intros)
@[simp] theorem emitVision_subch : ∀ x0 x1 s, (emitVision x0 x1 s).subch = s.subch := by
  intros; unfold emitVision; try dsimp only
  repeat' first | with_reducible rfl | (simp; done) | split | refine Eq.trans (forAll_subch _ _ _ fun _ _ => ?_) ?_ |
    (simp only [onBar, onDev, andThen, valueOk, checked, rated, holderOnly, forwarded]; try dsimp only) | (simp; intros)
@[simp] theorem emitLine_subch : ∀ x0 x1 s, (emitLine x0 x1 s).subch = s.subch := by
  intros; unfold emitLine; repeat' first | with_reducible rfl | (simp; done) | split
@[simp] theorem emitTo_subch : ∀ x0 x1 x2 s, (emitTo x0 x1 x2 s).subch = s.subch := by
  intro x0 x1 n
  induction n with
  | zero => intro s; rfl
  | succ n ih => intro s; unfold emitTo; split <;> simp [ih]
@[simp] theorem pushLine_subch : ∀ x0 x1 s, (pushLine x0 x1 s).subch = s.subch := by intros; unfold pushLine; simp
@[simp] theorem flushFrame_subch : ∀ x0 s, (flushFrame x0 s).subch = s.subch := by
  intros; unfold flushFrame; try dsimp only
  repeat' first | with_reducible rfl | (simp; done) | split | refine Eq.trans (forAll_subch _ _ _ fun _ _ => ?_) ?_ |
    (simp only [onBar, onDev, andThen, valueOk, checked, rated, holderOnly, forwarded, withRate, hostTime, toStandby, onRecord, byThread, byMachine, upFrame]; try dsimp only) | (simp; intros)
@[simp] theorem noteSaturation_subch : ∀ x0 x1 s, (noteSaturation x0 x1 s).subch = s.subch := by
  intros; unfold noteSaturation; try dsimp only
  repeat' first | with_reducible rfl | (simp; done) | split | refine Eq.trans (forAll_subch _ _ _ fun _ _ => ?_) ?_ |
    (simp only [onBar, onDev, andThen, valueOk, checked, rated, holderOnly, forwarded]; try dsimp only) | (simp; intros)
@[simp] theorem takeLine_subch : ∀ x0 x1 x2 x3 s, (takeLine x0 x1 x2 x3 s).subch = s.subch := by
  intros; unfold takeLine; try dsimp only
  repeat' first | with_reducible rfl | (simp; done) | split | refine Eq.trans (forAll_subch _ _ _ fun _ _ => ?_) ?_ |
    (simp only [onBar, onDev, andThen, valueOk, checked, rated, holderOnly, forwarded, withRate, hostTime, toStandby, onRecord, byThread, byMachine, upFrame]; try dsimp only) | (simp; intros)
@[simp] theorem countBad_subch : ∀ x0 x1 s, (countBad x0 x1 s).subch = s.subch := by
  intros; unfold countBad; try dsimp only
  repeat' first | with_reducible rfl | (simp; done) | split | refine Eq.trans (forAll_subch _ _ _ fun _ _ => ?_) ?_ |
    (simp only [onBar, onDev, andThen, valueOk, checked, rated, holderOnly, forwarded, withRate, hostTime, toStandby, onRecord, byThread, byMachine, upFrame]; try dsimp only) | (simp; intros)
@[simp] theorem imagePacket_subch : ∀ x0 x1 x2 s, (imagePacket x0 x1 x2 s).subch = s.subch := by
  intros; unfold imagePacket; try dsimp only
  repeat' first | with_reducible rfl | (simp; done) | split | refine Eq.trans (forAll_subch _ _ _ fun _ _ => ?_) ?_ |
    (simp only [onBar, onDev, andThen, valueOk, checked, rated, holderOnly, forwarded]; try dsimp only) | (simp; intros)
@[simp] theorem camTraffic_subch : ∀ x0 s, (camTraffic x0 s).subch = s.subch := by intros; unfold camTraffic; simp
@[simp] theorem frameStart_subch : ∀ x0 s, (frameStart x0 s).subch = s.subch := by
  intros; unfold frameStart; repeat' first | with_reducible rfl | (simp; done) | split
@[simp] theorem startPulse_subch : ∀ x0 x1 x2 s, (startPulse x0 x1 x2 s).subch = s.subch := by
  intros; unfold startPulse; repeat' first | with_reducible rfl | (simp; done) | split
@[simp] theorem holdOutput_subch : ∀ x0 x1 s, (holdOutput x0 x1 s).subch = s.subch := by
  intros; unfold holdOutput; try dsimp only
  repeat' first | with_reducible rfl | (simp; done) | split | refine Eq.trans (forAll_subch _ _ _ fun _ _ => ?_) ?_ |
    (simp only [onBar, onDev, andThen, valueOk, checked, rated, holderOnly, forwarded, withRate, hostTime, toStandby, onRecord, byThread, byMachine, upFrame]; try dsimp only) | (simp; intros)
@[simp] theorem pulseEffect_subch : ∀ x0 x1 x2 x3 x4 s, (pulseEffect x0 x1 x2 x3 x4 s).2.subch = s.subch := by
  intros; unfold pulseEffect; try dsimp only
  repeat' first | with_reducible rfl | (simp; done) | split | refine Eq.trans (forAll_subch _ _ _ fun _ _ => ?_) ?_ |
    (simp only [onBar, onDev, andThen, valueOk, checked, rated, holderOnly, forwarded, withRate, hostTime, toStandby, onRecord, byThread, byMachine, upFrame]; try dsimp only) | (simp; intros)
@[simp] theorem regEffect_subch : ∀ x0 x1 x2 x3 s, (regEffect x0 x1 x2 x3 s).2.subch = s.subch := by intros; unfold regEffect; simp
@[simp] theorem stripReqEffect_subch : ∀ x0 x1 x2 x3 s, (stripReqEffect x0 x1 x2 x3 s).2.subch = s.subch := fun x0 x1 x2 x3 s => quiet_to_subch (stripReqEffect_quiet _ _ _ _ _)
@[simp] theorem satClearEffect_subch : ∀ x0 x1 x2 x3 s, (satClearEffect x0 x1 x2 x3 s).2.subch = s.subch := by
  intros; unfold satClearEffect; try dsimp only
  repeat' first | with_reducible rfl | (simp; done) | split | refine Eq.trans (forAll_subch _ _ _ fun _ _ => ?_) ?_ |
    (simp only [onBar, onDev, andThen, valueOk, checked, rated, holderOnly, forwarded]; try dsimp only) | (simp; intros)
@[simp] theorem rateSettle_subch : ∀ s, (rateSettle s).subch = s.subch := by
  intros; unfold rateSettle; repeat' first | with_reducible rfl | (simp; done) | split
@[simp] theorem rateJudge_subch : ∀ x0 s, (rateJudge x0 s).subch = s.subch := by
  intros; unfold rateJudge; repeat' first | with_reducible rfl | (simp; done) | split
@[simp] theorem domainLanes_subch : ∀ x0 s, (domainLanes x0 s).subch = s.subch := by
  intros; unfold domainLanes; repeat' first | with_reducible rfl | (simp; done) | split
@[simp] theorem domainSet_subch : ∀ x0 x1 x2 s, (domainSet x0 x1 x2 s).subch = s.subch := by
  intros; unfold domainSet; try dsimp only
  repeat' first | with_reducible rfl | (simp; done) | split | refine Eq.trans (forAll_subch _ _ _ fun _ _ => ?_) ?_ |
    (simp only [onBar, onDev, andThen, valueOk, checked, rated, holderOnly, forwarded]; try dsimp only) | (simp; intros)
@[simp] theorem domainsFollow_subch : ∀ s, (domainsFollow s).subch = s.subch := by
  intros; unfold domainsFollow; try dsimp only
  repeat' first | with_reducible rfl | (simp; done) | split | refine Eq.trans (forAll_subch _ _ _ fun _ _ => ?_) ?_ |
    (simp only [onBar, onDev, andThen, valueOk, checked, rated, holderOnly, forwarded]; try dsimp only) | (simp; intros)
@[simp] theorem domainService_subch : ∀ x0 x1 s, (domainService x0 x1 s).subch = s.subch := fun x0 x1 s => quiet_to_subch (domainService_quiet _ _ _)
@[simp] theorem engineDark_subch : ∀ x0 s, (engineDark x0 s).subch = s.subch := by
  intros; unfold engineDark; repeat' first | with_reducible rfl | (simp; done) | split
@[simp] theorem forceOff_subch : ∀ x0 s, (forceOff x0 s).subch = s.subch := by
  intro d s; unfold forceOff withRate
  have h : ∀ s, (if 8 ≤ d then forAll (List.range 8) (fun k s => engineDark (8 * (d - 8) + k) s) s else s).subch = s.subch := by
    intro s; split
    · exact forAll_subch _ _ s (fun k t => engineDark_subch _ t)
    · rfl
  split
  · rfl
  · rw [rateJudge_subch]; dsimp only; rw [placeRun_subch, domainSet_subch, h, domainService_subch]; rfl
@[simp] theorem domainAuto_subch : ∀ x0 s, (domainAuto x0 s).subch = s.subch := by
  intro _ s; unfold domainAuto withRate
  split
  · rw [rateJudge_subch, placeRun_subch, domainService_subch]; rfl
  · rfl
@[simp] theorem domainCtrl_subch : ∀ x0 x1 x2 x3 s, (domainCtrl x0 x1 x2 x3 s).2.subch = s.subch := by
  intros; unfold domainCtrl; try dsimp only
  repeat' first | with_reducible rfl | (simp; done) | split | refine Eq.trans (forAll_subch _ _ _ fun _ _ => ?_) ?_ |
    (simp only [onBar, onDev, andThen, valueOk, checked, rated, holderOnly, forwarded]; try dsimp only) | (simp; intros)
@[simp] theorem mcCharge_subch : ∀ x0 x1 s, (mcCharge x0 x1 s).subch = s.subch := by
  intros; unfold mcCharge; repeat' first | with_reducible rfl | (simp; done) | split
@[simp] theorem quotaTurn_subch : ∀ x0 s, (quotaTurn x0 s).subch = s.subch := by intros; unfold quotaTurn; simp
@[simp] theorem applyQuotas_subch : ∀ s, (applyQuotas s).subch = s.subch := fun s =>
  forAll_subch _ _ s quotaTurn_subch
@[simp] theorem shrinkPool_subch : ∀ s, (shrinkPool s).subch = s.subch := by
  intros; unfold shrinkPool; try dsimp only
  repeat' first | with_reducible rfl | (simp; done) | split | refine Eq.trans (forAll_subch _ _ _ fun _ _ => ?_) ?_ |
    (simp only [onBar, onDev, andThen, valueOk, checked, rated, holderOnly, forwarded, withRate, hostTime, toStandby, onRecord, byThread, byMachine, upFrame]; try dsimp only) | (simp; intros)
@[simp] theorem trainResult_subch : ∀ x0 x1 x2 s, (trainResult x0 x1 x2 s).subch = s.subch := by intros; unfold trainResult; simp
@[simp] theorem copyLost_subch : ∀ x0 x1 x2 s, (copyLost x0 x1 x2 s).subch = s.subch := by intros; unfold copyLost; simp
@[simp] theorem wagonEcc_subch : ∀ x0 x1 x2 s, (wagonEcc x0 x1 x2 s).subch = s.subch := by
  intro b n k s; unfold wagonEcc
  have h : ∀ (b n k : Nat) (s : State), (forAll (List.range 32) (fun e s => if (s.engine e).job = some (b, n, k) then freeEngine e s else s) s).subch = s.subch :=
    fun b n k s => forAll_subch _ _ s (fun e t => by split <;> simp)
  split
  · rfl
  · split
    · rw [resumeIntake_subch, settle_subch, wagonFail_subch]; exact h _ _ _ _
    · rw [resumeIntake_subch, settle_subch, wagonFail_subch]; exact h _ _ _ _
    · simp
    · rfl
@[simp] theorem calderaEcc_subch : ∀ x0 x1 s, (calderaEcc x0 x1 s).subch = s.subch := fun x0 x1 s => quiet_to_subch (calderaEcc_quiet _ _ _)
@[simp] theorem ringEcc_subch : ∀ x0 x1 x2 s, (ringEcc x0 x1 x2 s).subch = s.subch := by intros; unfold ringEcc; simp
@[simp] theorem dramUncorr_subch : ∀ x0 x1 s, (dramUncorr x0 x1 s).subch = s.subch := by
  intros; unfold dramUncorr; repeat' first | with_reducible rfl | (simp; done) | split
@[simp] theorem rowFault_subch : ∀ x0 x1 s, (rowFault x0 x1 s).subch = s.subch := by
  intros; unfold rowFault; try dsimp only
  repeat' first | with_reducible rfl | (simp; done) | split | refine Eq.trans (forAll_subch _ _ _ fun _ _ => ?_) ?_ |
    (simp only [onBar, onDev, andThen, valueOk, checked, rated, holderOnly, forwarded]; try dsimp only) | (simp; intros)
@[simp] theorem stagingEcc_subch : ∀ x0 x1 x2 s, (stagingEcc x0 x1 x2 s).subch = s.subch := by
  intros; unfold stagingEcc; try dsimp only
  repeat' first | with_reducible rfl | (simp; done) | split | refine Eq.trans (forAll_subch _ _ _ fun _ _ => ?_) ?_ |
    (simp only [onBar, onDev, andThen, valueOk, checked, rated, holderOnly, forwarded, withRate, hostTime, toStandby, onRecord, byThread, byMachine, upFrame]; try dsimp only) | (simp; intros)
@[simp] theorem tableEcc_subch : ∀ x0 x1 s, (tableEcc x0 x1 s).subch = s.subch := fun x0 x1 s => quiet_to_subch (tableEcc_quiet _ _ _)
@[simp] theorem sramUncorr_subch : ∀ x0 s, (sramUncorr x0 s).subch = s.subch := by
  intros; unfold sramUncorr; repeat' first | with_reducible rfl | (simp; done) | split
@[simp] theorem sramError_subch : ∀ x0 x1 x2 x3 s, (sramError x0 x1 x2 x3 s).subch = s.subch := by
  intros; unfold sramError; try dsimp only
  repeat' first | with_reducible rfl | (simp; done) | split | refine Eq.trans (forAll_subch _ _ _ fun _ _ => ?_) ?_ |
    (simp only [onBar, onDev, andThen, valueOk, checked, rated, holderOnly, forwarded]; try dsimp only) | (simp; intros)
@[simp] theorem dramQuotaEffect_subch : ∀ x0 x1 x2 x3 s, (dramQuotaEffect x0 x1 x2 x3 s).2.subch = s.subch := by
  intros; unfold dramQuotaEffect; try dsimp only
  repeat' first | with_reducible rfl | (simp; done) | split | refine Eq.trans (forAll_subch _ _ _ fun _ _ => ?_) ?_ |
    (simp only [onBar, onDev, andThen, valueOk, checked, rated, holderOnly, forwarded]; try dsimp only) | (simp; intros)
@[simp] theorem sramQuotaEffect_subch : ∀ x0 x1 x2 x3 s, (sramQuotaEffect x0 x1 x2 x3 s).2.subch = s.subch := fun x0 x1 x2 x3 s => quiet_to_subch (sramQuotaEffect_quiet _ _ _ _ _)
@[simp] theorem placeFreezeEffect_subch : ∀ x0 x1 x2 x3 s, (placeFreezeEffect x0 x1 x2 x3 s).2.subch = s.subch := by
  intros; unfold placeFreezeEffect; try dsimp only
  repeat' first | with_reducible rfl | (simp; done) | split | refine Eq.trans (forAll_subch _ _ _ fun _ _ => ?_) ?_ |
    (simp only [onBar, onDev, andThen, valueOk, checked, rated, holderOnly, forwarded]; try dsimp only) | (simp; intros)
@[simp] theorem closeSession_subch : ∀ x0 x1 s, (closeSession x0 x1 s).subch = s.subch := by
  intros; unfold closeSession; repeat' first | with_reducible rfl | (simp; done) | split
@[simp] theorem closeAll_subch : ∀ s, (closeAll s).subch = s.subch := by intros; unfold closeAll; simp
@[simp] theorem railUp_subch : ∀ x0 s, (railUp x0 s).subch = s.subch := by intros; unfold railUp; simp
@[simp] theorem raiseGroup_subch : ∀ x0 s, (raiseGroup x0 s).subch = s.subch := by intros; unfold raiseGroup; simp
@[simp] theorem railsFrom_subch : ∀ x0 s, (railsFrom x0 s).subch = s.subch := by
  intros; unfold railsFrom; repeat' first | with_reducible rfl | (simp; done) | split
@[simp] theorem lowerRails_subch : ∀ x0 s, (lowerRails x0 s).subch = s.subch := fun x0 s => quiet_to_subch (lowerRails_quiet _ _)
@[simp] theorem lowerAll_subch : ∀ s, (lowerAll s).subch = s.subch := by intros; unfold lowerAll; simp
@[simp] theorem startRails_subch : ∀ s, (startRails s).subch = s.subch := by
  intros; unfold startRails; try dsimp only
  repeat' first | with_reducible rfl | (simp; done) | split | refine Eq.trans (forAll_subch _ _ _ fun _ _ => ?_) ?_ |
    (simp only [onBar, onDev, andThen, valueOk, checked, rated, holderOnly, forwarded]; try dsimp only) | (simp; intros)
@[simp] theorem railFailure_subch : ∀ s, (railFailure s).subch = s.subch := by
  intros; unfold railFailure; try dsimp only
  repeat' first | with_reducible rfl | (simp; done) | split | refine Eq.trans (forAll_subch _ _ _ fun _ _ => ?_) ?_ |
    (simp only [onBar, onDev, andThen, valueOk, checked, rated, holderOnly, forwarded]; try dsimp only) | (simp; intros)
@[simp] theorem railFault_subch : ∀ x0 s, (railFault x0 s).subch = s.subch := by
  intros; unfold railFault; try dsimp only
  repeat' first | with_reducible rfl | (simp; done) | split | refine Eq.trans (forAll_subch _ _ _ fun _ _ => ?_) ?_ |
    (simp only [onBar, onDev, andThen, valueOk, checked, rated, holderOnly, forwarded]; try dsimp only) | (simp; intros)
@[simp] theorem railUnread_subch : ∀ x0 s, (railUnread x0 s).subch = s.subch := by
  intros; unfold railUnread; repeat' first | with_reducible rfl | (simp; done) | split
@[simp] theorem railRead_subch : ∀ x0 s, (railRead x0 s).subch = s.subch := by
  intros; unfold railRead; try dsimp only
  repeat' first | with_reducible rfl | (simp; done) | split | refine Eq.trans (forAll_subch _ _ _ fun _ _ => ?_) ?_ |
    (simp only [onBar, onDev, andThen, valueOk, checked, rated, holderOnly, forwarded]; try dsimp only) | (simp; intros)
@[simp] theorem railPoll_subch : ∀ x0 s, (railPoll x0 s).subch = s.subch := by
  intros; unfold railPoll; repeat' first | with_reducible rfl | (simp; done) | split
@[simp] theorem setVcore_subch : ∀ x0 s, (setVcore x0 s).subch = s.subch := by intros; unfold setVcore; simp
@[simp] theorem avsLimitStep_subch : ∀ s, (avsLimitStep s).subch = s.subch := by
  intros; unfold avsLimitStep; try dsimp only
  repeat' first | with_reducible rfl | (simp; done) | split | refine Eq.trans (forAll_subch _ _ _ fun _ _ => ?_) ?_ |
    (simp only [onBar, onDev, andThen, valueOk, checked, rated, holderOnly, forwarded]; try dsimp only) | (simp; intros)
@[simp] theorem avsLoop_subch : ∀ s, (avsLoop s).subch = s.subch := by
  intros; unfold avsLoop; try dsimp only
  repeat' first | with_reducible rfl | (simp; done) | split | refine Eq.trans (forAll_subch _ _ _ fun _ _ => ?_) ?_ |
    (simp only [onBar, onDev, andThen, valueOk, checked, rated, holderOnly, forwarded]; try dsimp only) | (simp; intros)
@[simp] theorem sensorOut_subch : ∀ x0 s, (sensorOut x0 s).subch = s.subch := by
  intros; unfold sensorOut; try dsimp only
  repeat' first | with_reducible rfl | (simp; done) | split | refine Eq.trans (forAll_subch _ _ _ fun _ _ => ?_) ?_ |
    (simp only [onBar, onDev, andThen, valueOk, checked, rated, holderOnly, forwarded]; try dsimp only) | (simp; intros)
@[simp] theorem sensorFault_subch : ∀ x0 s, (sensorFault x0 s).subch = s.subch := by
  intros; unfold sensorFault; try dsimp only
  repeat' first | with_reducible rfl | (simp; done) | split | refine Eq.trans (forAll_subch _ _ _ fun _ _ => ?_) ?_ |
    (simp only [onBar, onDev, andThen, valueOk, checked, rated, holderOnly, forwarded]; try dsimp only) | (simp; intros)
@[simp] theorem fumTake_subch : ∀ x0 x1 s, (fumTake x0 x1 s).subch = s.subch := by
  intros; unfold fumTake; try dsimp only
  repeat' first | with_reducible rfl | (simp; done) | split | refine Eq.trans (forAll_subch _ _ _ fun _ _ => ?_) ?_ |
    (simp only [onBar, onDev, andThen, valueOk, checked, rated, holderOnly, forwarded]; try dsimp only) | (simp; intros)
@[simp] theorem fumTakeVolt_subch : ∀ x0 x1 s, (fumTakeVolt x0 x1 s).subch = s.subch := by
  intros; unfold fumTakeVolt; repeat' first | with_reducible rfl | (simp; done) | split
@[simp] theorem fumStore_subch : ∀ s, (fumStore s).subch = s.subch := fun s => quiet_to_subch (fumStore_quiet _)
@[simp] theorem hotJudge_subch : ∀ s, (hotJudge s).subch = s.subch := by
  intros; unfold hotJudge; try dsimp only
  repeat' first | with_reducible rfl | (simp; done) | split | refine Eq.trans (forAll_subch _ _ _ fun _ _ => ?_) ?_ |
    (simp only [onBar, onDev, andThen, valueOk, checked, rated, holderOnly, forwarded]; try dsimp only) | (simp; intros)
@[simp] theorem skewBegin_subch : ∀ s, (skewBegin s).subch = s.subch := by
  intros; unfold skewBegin; try dsimp only
  repeat' first | with_reducible rfl | (simp; done) | split | refine Eq.trans (forAll_subch _ _ _ fun _ _ => ?_) ?_ |
    (simp only [onBar, onDev, andThen, valueOk, checked, rated, holderOnly, forwarded]; try dsimp only) | (simp; intros)
@[simp] theorem skewTrack_subch : ∀ s, (skewTrack s).subch = s.subch := by intros; unfold skewTrack; simp
@[simp] theorem dropOutputs_subch : ∀ s, (dropOutputs s).subch = s.subch := by intros; unfold dropOutputs; simp
@[simp] theorem thermalShutdown_subch : ∀ x0 s, (thermalShutdown x0 s).subch = s.subch := by intros; unfold thermalShutdown; simp
@[simp] theorem shutdownJudge_subch : ∀ s, (shutdownJudge s).subch = s.subch := by
  intro s; unfold shutdownJudge
  have h : ∀ s : State, (forAll (List.range 16) (fun n s =>
    if 2000 ≤ fumTemp s n then s.modFum n (fun x => { x with hotRuns := x.hotRuns + 1 })
    else s.modFum n (fun x => { x with hotRuns := 0 })) s).subch = s.subch := fun s =>
    forAll_subch _ _ s (fun n t => by split <;> rfl)
  dsimp only
  split
  · split
    · exact h s
    · rw [thermalShutdown_subch]; exact h s
  · exact h s
@[simp] theorem throttleStep_subch : ∀ s, (throttleStep s).subch = s.subch := by
  intros; unfold throttleStep; try dsimp only
  repeat' first | with_reducible rfl | (simp; done) | split | refine Eq.trans (forAll_subch _ _ _ fun _ _ => ?_) ?_ |
    (simp only [onBar, onDev, andThen, valueOk, checked, rated, holderOnly, forwarded]; try dsimp only) | (simp; intros)
@[simp] theorem shutdownClearEffect_subch : ∀ x0 x1 x2 x3 s, (shutdownClearEffect x0 x1 x2 x3 s).2.subch = s.subch := by
  intros; unfold shutdownClearEffect; try dsimp only
  repeat' first | with_reducible rfl | (simp; done) | split | refine Eq.trans (forAll_subch _ _ _ fun _ _ => ?_) ?_ |
    (simp only [onBar, onDev, andThen, valueOk, checked, rated, holderOnly, forwarded]; try dsimp only) | (simp; intros)
@[simp] theorem State_modTrim_subch : ∀ s x1 x2, (State.modTrim s x1 x2).subch = s.subch := by intros; unfold State.modTrim; simp
@[simp] theorem trimStart_subch : ∀ x0 s, (trimStart x0 s).subch = s.subch := by
  intros; unfold trimStart; repeat' first | with_reducible rfl | (simp; done) | split
@[simp] theorem trimWake_subch : ∀ s, (trimWake s).subch = s.subch := by intros; unfold trimWake; simp
@[simp] theorem trimRunCmd_subch : ∀ x0 s, (trimRunCmd x0 s).2.subch = s.subch := by
  intros; unfold trimRunCmd; try dsimp only
  repeat' first | with_reducible rfl | (simp; done) | split | refine Eq.trans (forAll_subch _ _ _ fun _ _ => ?_) ?_ |
    (simp only [onBar, onDev, andThen, valueOk, checked, rated, holderOnly, forwarded]; try dsimp only) | (simp; intros)
@[simp] theorem trimSaveCmd_subch : ∀ x0 s, (trimSaveCmd x0 s).subch = s.subch := by intros; unfold trimSaveCmd; simp
@[simp] theorem trimRestoreCmd_subch : ∀ x0 s, (trimRestoreCmd x0 s).subch = s.subch := by
  intros; unfold trimRestoreCmd; try dsimp only
  repeat' first | with_reducible rfl | (simp; done) | split | refine Eq.trans (forAll_subch _ _ _ fun _ _ => ?_) ?_ |
    (simp only [onBar, onDev, andThen, valueOk, checked, rated, holderOnly, forwarded]; try dsimp only) | (simp; intros)
@[simp] theorem trimCommand_subch : ∀ x0 x1 x2 x3 s, (trimCommand x0 x1 x2 x3 s).2.subch = s.subch := by
  intros; unfold trimCommand; try dsimp only
  repeat' first | with_reducible rfl | (simp; done) | split | refine Eq.trans (forAll_subch _ _ _ fun _ _ => ?_) ?_ |
    (simp only [onBar, onDev, andThen, valueOk, checked, rated, holderOnly, forwarded]; try dsimp only) | (simp; intros)
@[simp] theorem trimWrite_subch : ∀ x0 x1 x2 s, (trimWrite x0 x1 x2 s).subch = s.subch := fun _ _ _ s =>
  writeThrough_subch _ _ _ _ _ s (fun _ _ _ _ t => trimCommand_subch _ _ _ _ t)
@[simp] theorem trimThird_subch : ∀ x0 s, (trimThird x0 s).subch = s.subch := by
  intros; unfold trimThird; repeat' first | with_reducible rfl | (simp; done) | split
@[simp] theorem trimPost_subch : ∀ x0 x1 x2 x3 s, (trimPost x0 x1 x2 x3 s).subch = s.subch := fun x0 x1 x2 x3 s => quiet_to_subch (trimPost_quiet _ _ _ _ _)
@[simp] theorem trimAllDone_subch : ∀ s, (trimAllDone s).subch = s.subch := by
  intros; unfold trimAllDone; repeat' first | with_reducible rfl | (simp; done) | split
@[simp] theorem trimEnd_subch : ∀ x0 x1 x2 s, (trimEnd x0 x1 x2 s).subch = s.subch := by
  intros; unfold trimEnd; try dsimp only
  repeat' first | with_reducible rfl | (simp; done) | split | refine Eq.trans (forAll_subch _ _ _ fun _ _ => ?_) ?_ |
    (simp only [onBar, onDev, andThen, valueOk, checked, rated, holderOnly, forwarded]; try dsimp only) | (simp; intros)
@[simp] theorem darkBit_subch : ∀ x0 x1 s, (darkBit x0 x1 s).subch = s.subch := fun x0 x1 s => quiet_to_subch (darkBit_quiet _ _ _)
@[simp] theorem channelBack_subch : ∀ x0 x1 s, (channelBack x0 x1 s).subch = s.subch := by
  intros; unfold channelBack; repeat' first | with_reducible rfl | (simp; done) | split
@[simp] theorem reinstateNow_subch : ∀ x0 x1 s, (reinstateNow x0 x1 s).subch = s.subch := by
  intro _ _ s; unfold reinstateNow withRate; simp
@[simp] theorem reinstateEffect_subch : ∀ x0 x1 x2 x3 s, (reinstateEffect x0 x1 x2 x3 s).2.subch = s.subch := by
  intros; unfold reinstateEffect; try dsimp only
  repeat' first | with_reducible rfl | (simp; done) | split | refine Eq.trans (forAll_subch _ _ _ fun _ _ => ?_) ?_ |
    (simp only [onBar, onDev, andThen, valueOk, checked, rated, holderOnly, forwarded]; try dsimp only) | (simp; intros)
@[simp] theorem replaceNow_subch : ∀ s, (replaceNow s).subch = s.subch := by
  intros; unfold replaceNow; try dsimp only
  repeat' first | with_reducible rfl | (simp; done) | split | refine Eq.trans (forAll_subch _ _ _ fun _ _ => ?_) ?_ |
    (simp only [onBar, onDev, andThen, valueOk, checked, rated, holderOnly, forwarded]; try dsimp only) | (simp; intros)
@[simp] theorem replaceClearEffect_subch : ∀ x0 x1 x2 x3 s, (replaceClearEffect x0 x1 x2 x3 s).2.subch = s.subch := by
  intros; unfold replaceClearEffect; try dsimp only
  repeat' first | with_reducible rfl | (simp; done) | split | refine Eq.trans (forAll_subch _ _ _ fun _ _ => ?_) ?_ |
    (simp only [onBar, onDev, andThen, valueOk, checked, rated, holderOnly, forwarded]; try dsimp only) | (simp; intros)
@[simp] theorem wipeKeys_subch : ∀ s, (wipeKeys s).subch = s.subch := by intros; unfold wipeKeys; simp
@[simp] theorem zeroStart_subch : ∀ x0 s, (zeroStart x0 s).subch = s.subch := by intros; unfold zeroStart; simp
@[simp] theorem zeroizeEffect_subch : ∀ x0 x1 x2 x3 s, (zeroizeEffect x0 x1 x2 x3 s).2.subch = s.subch := by
  intros; unfold zeroizeEffect; try dsimp only
  repeat' first | with_reducible rfl | (simp; done) | split | refine Eq.trans (forAll_subch _ _ _ fun _ _ => ?_) ?_ |
    (simp only [onBar, onDev, andThen, valueOk, checked, rated, holderOnly, forwarded]; try dsimp only) | (simp; intros)
@[simp] theorem zeroEnd_subch : ∀ s, (zeroEnd s).subch = s.subch := by intros; unfold zeroEnd; simp
@[simp] theorem zeroAgain_subch : ∀ s, (zeroAgain s).subch = s.subch := by
  intros; unfold zeroAgain; repeat' first | with_reducible rfl | (simp; done) | split
@[simp] theorem tapLoad_subch : ∀ x0 s, (tapLoad x0 s).subch = s.subch := by intros; unfold tapLoad; simp
@[simp] theorem ictSet_subch : ∀ x0 x1 x2 s, (ictSet x0 x1 x2 s).subch = s.subch := fun x0 x1 x2 s => quiet_to_subch (ictSet_quiet _ _ _ _)
@[simp] theorem ictOne_subch : ∀ x0 x1 s, (ictOne x0 x1 s).subch = s.subch := fun x0 x1 s => quiet_to_subch (ictOne_quiet _ _ _)
@[simp] theorem ictFinish_subch : ∀ s, (ictFinish s).subch = s.subch := by intros; unfold ictFinish; simp
@[simp] theorem selftestEffect_subch : ∀ x0 x1 x2 x3 s, (selftestEffect x0 x1 x2 x3 s).2.subch = s.subch := by
  intros; unfold selftestEffect; try dsimp only
  repeat' first | with_reducible rfl | (simp; done) | split | refine Eq.trans (forAll_subch _ _ _ fun _ _ => ?_) ?_ |
    (simp only [onBar, onDev, andThen, valueOk, checked, rated, holderOnly, forwarded]; try dsimp only) | (simp; intros)
@[simp] theorem noteCode_subch : ∀ x0 x1 s, (noteCode x0 x1 s).subch = s.subch := by intros; unfold noteCode; simp
@[simp] theorem imgPass_subch : ∀ x0 s, (imgPass x0 s).subch = s.subch := by intros; unfold imgPass; simp
@[simp] theorem bootRetire_subch : ∀ x0 x1 s, (bootRetire x0 x1 s).subch = s.subch := by
  intros; unfold bootRetire; repeat' first | with_reducible rfl | (simp; done) | split
@[simp] theorem bootTrain_subch : ∀ x0 x1 s, (bootTrain x0 x1 s).subch = s.subch := by intros; unfold bootTrain; simp
@[simp] theorem bootRow_subch : ∀ x0 s, (bootRow x0 s).subch = s.subch := by
  intros; unfold bootRow; try dsimp only
  repeat' first | with_reducible rfl | (simp; done) | split | refine Eq.trans (forAll_subch _ _ _ fun _ _ => ?_) ?_ |
    (simp only [onBar, onDev, andThen, valueOk, checked, rated, holderOnly, forwarded]; try dsimp only) | (simp; intros)
@[simp] theorem bootIct_subch : ∀ x0 s, (bootIct x0 s).subch = s.subch := fun x0 s => quiet_to_subch (bootIct_quiet _ _)
@[simp] theorem domainsUp_subch : ∀ s, (domainsUp s).subch = s.subch := by
  intros; unfold domainsUp; try dsimp only
  repeat' first | with_reducible rfl | (simp; done) | split | refine Eq.trans (forAll_subch _ _ _ fun _ _ => ?_) ?_ |
    (simp only [onBar, onDev, andThen, valueOk, checked, rated, holderOnly, forwarded]; try dsimp only) | (simp; intros)
@[simp] theorem firmwareStart_subch : ∀ s, (firmwareStart s).subch = s.subch := fun s => quiet_to_subch (firmwareStart_quiet _)
@[simp] theorem advanceFuse_subch : ∀ s, (advanceFuse s).subch = s.subch := by
  intros; unfold advanceFuse; try dsimp only
  repeat' first | with_reducible rfl | (simp; done) | split | refine Eq.trans (forAll_subch _ _ _ fun _ _ => ?_) ?_ |
    (simp only [onBar, onDev, andThen, valueOk, checked, rated, holderOnly, forwarded]; try dsimp only) | (simp; intros)
@[simp] theorem shutdownPost_subch : ∀ s, (shutdownPost s).subch = s.subch := fun s => quiet_to_subch (shutdownPost_quiet _)
@[simp] theorem bootPair_subch : ∀ s, (bootPair s).subch = s.subch := by intros; unfold bootPair; simp
@[simp] theorem bootEnd_subch : ∀ s, (bootEnd s).subch = s.subch := by intros; unfold bootEnd; simp
@[simp] theorem threadPostEffect_subch : ∀ x0 x1 x2 x3 s, (threadPostEffect x0 x1 x2 x3 s).2.subch = s.subch := fun x0 x1 x2 x3 s => quiet_to_subch (threadPostEffect_quiet _ _ _ _ _)
@[simp] theorem extStop_subch : ∀ x0 s, (extStop x0 s).subch = s.subch := fun x0 s => quiet_to_subch (extStop_quiet _ _)
@[simp] theorem threadKillEffect_subch : ∀ x0 x1 x2 x3 s, (threadKillEffect x0 x1 x2 x3 s).2.subch = s.subch := fun x0 x1 x2 x3 s => quiet_to_subch (threadKillEffect_quiet _ _ _ _ _)
@[simp] theorem extStart_subch : ∀ x0 s, (extStart x0 s).subch = s.subch := by
  intros; unfold extStart; repeat' first | with_reducible rfl | (simp; done) | split
@[simp] theorem extCmdEffect_subch : ∀ x0 x1 x2 x3 s, (extCmdEffect x0 x1 x2 x3 s).2.subch = s.subch := by
  intros; unfold extCmdEffect; try dsimp only
  repeat' first | with_reducible rfl | (simp; done) | split | refine Eq.trans (forAll_subch _ _ _ fun _ _ => ?_) ?_ |
    (simp only [onBar, onDev, andThen, valueOk, checked, rated, holderOnly, forwarded]; try dsimp only) | (simp; intros)
@[simp] theorem relockStep_subch : ∀ x0 s, (relockStep x0 s).subch = s.subch := by
  intros; unfold relockStep; try dsimp only
  repeat' first | with_reducible rfl | (simp; done) | split | refine Eq.trans (forAll_subch _ _ _ fun _ _ => ?_) ?_ |
    (simp only [onBar, onDev, andThen, valueOk, checked, rated, holderOnly, forwarded, withRate, hostTime, toStandby, onRecord, byThread, byMachine, upFrame]; try dsimp only) | (simp; intros)
@[simp] theorem headTemp_subch : ∀ x0 x1 s, (headTemp x0 x1 s).subch = s.subch := by
  intros; unfold headTemp; try dsimp only
  repeat' first | with_reducible rfl | (simp; done) | split | refine Eq.trans (forAll_subch _ _ _ fun _ _ => ?_) ?_ |
    (simp only [onBar, onDev, andThen, valueOk, checked, rated, holderOnly, forwarded]; try dsimp only) | (simp; intros)
@[simp] theorem downstreamCrc_subch : ∀ x0 x1 s, (downstreamCrc x0 x1 s).subch = s.subch := by
  intros; unfold downstreamCrc; try dsimp only
  repeat' first | with_reducible rfl | (simp; done) | split | refine Eq.trans (forAll_subch _ _ _ fun _ _ => ?_) ?_ |
    (simp only [onBar, onDev, andThen, valueOk, checked, rated, holderOnly, forwarded]; try dsimp only) | (simp; intros)
@[simp] theorem takeStatus_subch : ∀ x0 x1 s, (takeStatus x0 x1 s).subch = s.subch := by intros; unfold takeStatus; simp
@[simp] theorem actBar_subch : ∀ x0 x1 x2 s, (actBar x0 x1 x2 s).subch = s.subch := by
  intros; unfold actBar; try dsimp only
  repeat' first | with_reducible rfl | (simp; done) | split | refine Eq.trans (forAll_subch _ _ _ fun _ _ => ?_) ?_ |
    (simp only [onBar, onDev, andThen, valueOk, checked, rated, holderOnly, forwarded]; try dsimp only) | (simp; intros)
@[simp] theorem takeAct_subch : ∀ x0 x1 s, (takeAct x0 x1 s).subch = s.subch := by
  intros; unfold takeAct; try dsimp only
  repeat' first | with_reducible rfl | (simp; done) | split | refine Eq.trans (forAll_subch _ _ _ fun _ _ => ?_) ?_ |
    (simp only [onBar, onDev, andThen, valueOk, checked, rated, holderOnly, forwarded, withRate, hostTime, toStandby, onRecord, byThread, byMachine, upFrame]; try dsimp only) | (simp; intros)
@[simp] theorem takeAnswer_subch : ∀ x0 x1 s, (takeAnswer x0 x1 s).subch = s.subch := by
  intros; unfold takeAnswer; try dsimp only
  repeat' first | with_reducible rfl | (simp; done) | split | refine Eq.trans (forAll_subch _ _ _ fun _ _ => ?_) ?_ |
    (simp only [onBar, onDev, andThen, valueOk, checked, rated, holderOnly, forwarded, withRate, hostTime, toStandby, onRecord, byThread, byMachine, upFrame]; try dsimp only) | (simp; intros)
@[simp] theorem enterDeep_subch : ∀ x0 s, (enterDeep x0 s).subch = s.subch := by
  intros; unfold enterDeep; repeat' first | with_reducible rfl | (simp; done) | split
@[simp] theorem laneCommand_subch : ∀ x0 x1 x2 x3 s, (laneCommand x0 x1 x2 x3 s).2.subch = s.subch := by
  intros; unfold laneCommand; try dsimp only
  repeat' first | with_reducible rfl | (simp; done) | split | refine Eq.trans (forAll_subch _ _ _ fun _ _ => ?_) ?_ |
    (simp only [onBar, onDev, andThen, valueOk, checked, rated, holderOnly, forwarded]; try dsimp only) | (simp; intros)
@[simp] theorem missedLine_subch : ∀ x0 x1 x2 x3 x4 s, (missedLine x0 x1 x2 x3 x4 s).subch = s.subch := by intros; unfold missedLine; simp
@[simp] theorem supplyFollow_subch : ∀ x0 s, (supplyFollow x0 s).subch = s.subch := by
  intros; unfold supplyFollow; try dsimp only
  repeat' first | with_reducible rfl | (simp; done) | split | refine Eq.trans (forAll_subch _ _ _ fun _ _ => ?_) ?_ |
    (simp only [onBar, onDev, andThen, valueOk, checked, rated, holderOnly, forwarded]; try dsimp only) | (simp; intros)
@[simp] theorem setLanes_subch : ∀ x0 s, (setLanes x0 s).subch = s.subch := by intros; unfold setLanes; simp
@[simp] theorem linkLost_subch : ∀ x0 s, (linkLost x0 s).subch = s.subch := by
  intros; unfold linkLost; try dsimp only
  repeat' first | with_reducible rfl | (simp; done) | split | refine Eq.trans (forAll_subch _ _ _ fun _ _ => ?_) ?_ |
    (simp only [onBar, onDev, andThen, valueOk, checked, rated, holderOnly, forwarded]; try dsimp only) | (simp; intros)
@[simp] theorem dozeLink_subch : ∀ s, (dozeLink s).subch = s.subch := by
  intros; unfold dozeLink; try dsimp only
  repeat' first | with_reducible rfl | (simp; done) | split | refine Eq.trans (forAll_subch _ _ _ fun _ _ => ?_) ?_ |
    (simp only [onBar, onDev, andThen, valueOk, checked, rated, holderOnly, forwarded, withRate, hostTime, toStandby, onRecord, byThread, byMachine, upFrame]; try dsimp only) | (simp; intros)
@[simp] theorem dozeLinkBack_subch : ∀ s, (dozeLinkBack s).subch = s.subch := by
  intros; unfold dozeLinkBack; try dsimp only
  repeat' first | with_reducible rfl | (simp; done) | split | refine Eq.trans (forAll_subch _ _ _ fun _ _ => ?_) ?_ |
    (simp only [onBar, onDev, andThen, valueOk, checked, rated, holderOnly, forwarded, withRate, hostTime, toStandby, onRecord, byThread, byMachine, upFrame]; try dsimp only) | (simp; intros)
@[simp] theorem macLearn_subch : ∀ x0 x1 s, (macLearn x0 x1 s).subch = s.subch := by
  intros; unfold macLearn; repeat' first | with_reducible rfl | (simp; done) | split
@[simp] theorem enqueue_subch : ∀ x0 x1 x2 s, (enqueue x0 x1 x2 s).subch = s.subch := by
  intros; unfold enqueue; try dsimp only
  repeat' first | with_reducible rfl | (simp; done) | split | refine Eq.trans (forAll_subch _ _ _ fun _ _ => ?_) ?_ |
    (simp only [onBar, onDev, andThen, valueOk, checked, rated, holderOnly, forwarded]; try dsimp only) | (simp; intros)
@[simp] theorem transparent_subch : ∀ x0 x1 s, (transparent x0 x1 s).2.subch = s.subch := fun x0 x1 s => quiet_to_subch (transparent_quiet _ _ _)
@[simp] theorem sendFrom_subch : ∀ x0 x1 x2 x3 s, (sendFrom x0 x1 x2 x3 s).subch = s.subch := by intros; unfold sendFrom; simp
@[simp] theorem rebase_subch : ∀ x0 s, (rebase x0 s).subch = s.subch := by intros; unfold rebase; simp
@[simp] theorem setRate_subch : ∀ x0 s, (setRate x0 s).subch = s.subch := by
  intros; unfold setRate; repeat' first | with_reducible rfl | (simp; done) | split
@[simp] theorem timeStepped_subch : ∀ x0 x1 s, (timeStepped x0 x1 s).subch = s.subch := fun x0 x1 s => quiet_to_subch (timeStepped_quiet _ _ _)
@[simp] theorem stepTime_subch : ∀ x0 x1 s, (stepTime x0 x1 s).subch = s.subch := by intros; unfold stepTime; simp
@[simp] theorem timeSetEffect_subch : ∀ x0 x1 x2 x3 s, (timeSetEffect x0 x1 x2 x3 s).2.subch = s.subch := by
  intro _ _ _ _ s; unfold timeSetEffect hostTime onDev; dsimp only
  repeat' first | with_reducible rfl | (simp; done) | split
@[simp] theorem timeStepEffect_subch : ∀ x0 x1 x2 x3 s, (timeStepEffect x0 x1 x2 x3 s).2.subch = s.subch := by
  intro _ _ _ _ s; unfold timeStepEffect hostTime onDev; dsimp only
  repeat' first | with_reducible rfl | (simp; done) | split
@[simp] theorem rateAdjEffect_subch : ∀ x0 x1 x2 x3 s, (rateAdjEffect x0 x1 x2 x3 s).2.subch = s.subch := by
  intro _ _ _ _ s; unfold rateAdjEffect hostTime onDev; dsimp only
  repeat' first | with_reducible rfl | (simp; done) | split
@[simp] theorem timeSrcEffect_subch : ∀ x0 x1 x2 x3 s, (timeSrcEffect x0 x1 x2 x3 s).2.subch = s.subch := by
  intros; unfold timeSrcEffect; try dsimp only
  repeat' first | with_reducible rfl | (simp; done) | split | refine Eq.trans (forAll_subch _ _ _ fun _ _ => ?_) ?_ |
    (simp only [onBar, onDev, andThen, valueOk, checked, rated, holderOnly, forwarded]; try dsimp only) | (simp; intros)
@[simp] theorem postPtp_subch : ∀ x0 x1 s, (postPtp x0 x1 s).subch = s.subch := fun x0 x1 s => quiet_to_subch (postPtp_quiet _ _ _)
@[simp] theorem selectMaster_subch : ∀ s, (selectMaster s).subch = s.subch := by
  intros; unfold selectMaster; try dsimp only
  repeat' first | with_reducible rfl | (simp; done) | split | refine Eq.trans (forAll_subch _ _ _ fun _ _ => ?_) ?_ |
    (simp only [onBar, onDev, andThen, valueOk, checked, rated, holderOnly, forwarded]; try dsimp only) | (simp; intros)
@[simp] theorem hearAnnounce_subch : ∀ x0 x1 s, (hearAnnounce x0 x1 s).subch = s.subch := by intros; unfold hearAnnounce; simp
@[simp] theorem lockFollow_subch : ∀ x0 s, (lockFollow x0 s).subch = s.subch := by
  intros; unfold lockFollow; try dsimp only
  repeat' first | with_reducible rfl | (simp; done) | split | refine Eq.trans (forAll_subch _ _ _ fun _ _ => ?_) ?_ |
    (simp only [onBar, onDev, andThen, valueOk, checked, rated, holderOnly, forwarded]; try dsimp only) | (simp; intros)
@[simp] theorem servo_subch : ∀ x0 s, (servo x0 s).subch = s.subch := by
  intros; unfold servo; repeat' first | with_reducible rfl | (simp; done) | split
@[simp] theorem setPathDelay_subch : ∀ x0 s, (setPathDelay x0 s).subch = s.subch := by
  intros; unfold setPathDelay; repeat' first | with_reducible rfl | (simp; done) | split
@[simp] theorem setLink_subch : ∀ x0 x1 x2 s, (setLink x0 x1 x2 s).subch = s.subch := fun x0 x1 x2 s => quiet_to_subch (setLink_quiet _ _ _ _)
@[simp] theorem advertise_subch : ∀ x0 x1 s, (advertise x0 x1 s).subch = s.subch := fun x0 x1 s => quiet_to_subch (advertise_quiet _ _ _)
@[simp] theorem relink_subch : ∀ x0 s, (relink x0 s).subch = s.subch := fun x0 s => quiet_to_subch (relink_quiet _ _)
@[simp] theorem vbTargetEffect_subch : ∀ x0 x1 x2 x3 s, (vbTargetEffect x0 x1 x2 x3 s).2.subch = s.subch := by
  intros; unfold vbTargetEffect; try dsimp only
  repeat' first | with_reducible rfl | (simp; done) | split | refine Eq.trans (forAll_subch _ _ _ fun _ _ => ?_) ?_ |
    (simp only [onBar, onDev, andThen, valueOk, checked, rated, holderOnly, forwarded]; try dsimp only) | (simp; intros)
@[simp] theorem commitReqEffect_subch : ∀ x0 x1 x2 x3 s, (commitReqEffect x0 x1 x2 x3 s).2.subch = s.subch := by
  intros; unfold commitReqEffect; try dsimp only
  repeat' first | with_reducible rfl | (simp; done) | split | refine Eq.trans (forAll_subch _ _ _ fun _ _ => ?_) ?_ |
    (simp only [onBar, onDev, andThen, valueOk, checked, rated, holderOnly, forwarded]; try dsimp only) | (simp; intros)
@[simp] theorem idleCommit_subch : ∀ x0 s, (idleCommit x0 s).subch = s.subch := by
  intros; unfold idleCommit; repeat' first | with_reducible rfl | (simp; done) | split
@[simp] theorem idleCommitDue_subch : ∀ x0 s, (idleCommitDue x0 s).subch = s.subch := by intros; unfold idleCommitDue; simp
@[simp] theorem discardOpen_subch : ∀ x0 s, (discardOpen x0 s).subch = s.subch := fun x0 s => quiet_to_subch (discardOpen_quiet _ _)
@[simp] theorem discardEffect_subch : ∀ x0 x1 x2 x3 s, (discardEffect x0 x1 x2 x3 s).2.subch = s.subch := fun x0 x1 x2 x3 s => quiet_to_subch (discardEffect_quiet _ _ _ _ _)
@[simp] theorem enterConfig_subch : ∀ s, (enterConfig s).subch = s.subch := by intros; unfold enterConfig; simp
@[simp] theorem layRegions_subch : ∀ s, (layRegions s).subch = s.subch := by
  intro s; exact applyQuotas_subch _
@[simp] theorem judgeColumns_subch : ∀ x0 s, (judgeColumns x0 s).subch = s.subch := fun x0 s => quiet_to_subch (judgeColumns_quiet _ _)
@[simp] theorem leaveConfig_subch : ∀ s, (leaveConfig s).subch = s.subch := by intros; unfold leaveConfig; simp
@[simp] theorem configToReady_subch : ∀ s, (configToReady s).2.subch = s.subch := by
  intros; unfold configToReady; repeat' first | with_reducible rfl | (simp; done) | split
@[simp] theorem safeToReady_subch : ∀ s, (safeToReady s).2.subch = s.subch := by
  intros; unfold safeToReady; repeat' first | with_reducible rfl | (simp; done) | split
@[simp] theorem emptyCaldera_subch : ∀ x0 s, (emptyCaldera x0 s).subch = s.subch := fun x0 s => quiet_to_subch (emptyCaldera_quiet _ _)
@[simp] theorem dozeLane_subch : ∀ x0 s, (dozeLane x0 s).subch = s.subch := by
  intros; unfold dozeLane; repeat' first | with_reducible rfl | (simp; done) | split
@[simp] theorem dozeDomain_subch : ∀ x0 s, (dozeDomain x0 s).subch = s.subch := by
  intros; unfold dozeDomain; try dsimp only
  repeat' first | with_reducible rfl | (simp; done) | split | refine Eq.trans (forAll_subch _ _ _ fun _ _ => ?_) ?_ |
    (simp only [onBar, onDev, andThen, valueOk, checked, rated, holderOnly, forwarded]; try dsimp only) | (simp; intros)
@[simp] theorem dozeExt_subch : ∀ x0 s, (dozeExt x0 s).subch = s.subch := fun x0 s => quiet_to_subch (dozeExt_quiet _ _)
@[simp] theorem dozeLose_subch : ∀ s, (dozeLose s).subch = s.subch := by intros; unfold dozeLose; simp
@[simp] theorem dozeRails_subch : ∀ s, (dozeRails s).subch = s.subch := by intros; unfold dozeRails; simp
@[simp] theorem dozeUnits_subch : ∀ s, (dozeUnits s).subch = s.subch := by intros; unfold dozeUnits; simp
@[simp] theorem enterDoze_subch : ∀ s, (enterDoze s).subch = s.subch := by intros; unfold enterDoze; simp
@[simp] theorem leaveDoze_subch : ∀ s, (leaveDoze s).subch = s.subch := by intros; unfold leaveDoze; simp
@[simp] theorem wakeAll_subch : ∀ x0 s, (wakeAll x0 s).subch = s.subch := by
  intros; unfold wakeAll; repeat' first | with_reducible rfl | (simp; done) | split
@[simp] theorem dozeBack_subch : ∀ x0 s, (dozeBack x0 s).subch = s.subch := by
  intros; unfold dozeBack; try dsimp only
  repeat' first | with_reducible rfl | (simp; done) | split | refine Eq.trans (forAll_subch _ _ _ fun _ _ => ?_) ?_ |
    (simp only [onBar, onDev, andThen, valueOk, checked, rated, holderOnly, forwarded, withRate, hostTime, toStandby, onRecord, byThread, byMachine, upFrame]; try dsimp only) | (simp; intros)
@[simp] theorem devTarget_subch : ∀ x0 s, (devTarget x0 s).2.subch = s.subch := by
  intros; unfold devTarget; repeat' first | with_reducible rfl | (simp; done) | split
@[simp] theorem devTargetEffect_subch : ∀ x0 x1 x2 x3 s, (devTargetEffect x0 x1 x2 x3 s).2.subch = s.subch := by
  intros; unfold devTargetEffect; try dsimp only
  repeat' first | with_reducible rfl | (simp; done) | split | refine Eq.trans (forAll_subch _ _ _ fun _ _ => ?_) ?_ |
    (simp only [onBar, onDev, andThen, valueOk, checked, rated, holderOnly, forwarded]; try dsimp only) | (simp; intros)
@[simp] theorem driveSteps_subch : ∀ x0 x1 s, (driveSteps x0 x1 s).subch = s.subch := fun x0 x1 s => quiet_to_subch (driveSteps_quiet _ _ _)
@[simp] theorem profileAxis_subch : ∀ x0 s, (profileAxis x0 s).subch = s.subch := by
  intros; unfold profileAxis; try dsimp only
  repeat' first | with_reducible rfl | (simp; done) | split | refine Eq.trans (forAll_subch _ _ _ fun _ _ => ?_) ?_ |
    (simp only [onBar, onDev, andThen, valueOk, checked, rated, holderOnly, forwarded, withRate, hostTime, toStandby, onRecord, byThread, byMachine, upFrame]; try dsimp only) | (simp; intros)
@[simp] theorem observeStep_subch : ∀ x0 x1 s, (observeStep x0 x1 s).subch = s.subch := by intros; unfold observeStep; simp
@[simp] theorem bandLog_subch : ∀ x0 x1 x2 x3 x4 x5 s, (bandLog x0 x1 x2 x3 x4 x5 s).subch = s.subch := fun x0 x1 x2 x3 x4 x5 s => quiet_to_subch (bandLog_quiet _ _ _ _ _ _ _)
@[simp] theorem changeBand_subch : ∀ x0 x1 x2 x3 x4 s, (changeBand x0 x1 x2 x3 x4 s).subch = s.subch := fun x0 x1 x2 x3 x4 s => quiet_to_subch (changeBand_quiet _ _ _ _ _ _)
@[simp] theorem applyBand_subch : ∀ x0 x1 s, (applyBand x0 x1 s).subch = s.subch := fun x0 x1 s => quiet_to_subch (applyBand_quiet _ _ _)
@[simp] theorem stopBand_subch : ∀ x0 x1 s, (stopBand x0 x1 s).subch = s.subch := fun x0 x1 s => quiet_to_subch (stopBand_quiet _ _ _)
@[simp] theorem dwellDone_subch : ∀ x0 x1 x2 s, (dwellDone x0 x1 x2 s).subch = s.subch := fun x0 x1 x2 s => quiet_to_subch (dwellDone_quiet _ _ _ _)
@[simp] theorem bandLineDue_subch : ∀ x0 x1 x2 s, (bandLineDue x0 x1 x2 s).subch = s.subch := fun x0 x1 x2 s => quiet_to_subch (bandLineDue_quiet _ _ _ _)
@[simp] theorem safeStrips_subch : ∀ x0 x1 s, (safeStrips x0 x1 s).subch = s.subch := fun x0 x1 s => quiet_to_subch (safeStrips_quiet _ _ _)
@[simp] theorem gapLineDue_subch : ∀ x0 x1 s, (gapLineDue x0 x1 s).subch = s.subch := fun x0 x1 s => quiet_to_subch (gapLineDue_quiet _ _ _)
@[simp] theorem startLineDue_subch : ∀ x0 x1 x2 s, (startLineDue x0 x1 x2 s).subch = s.subch := by
  intros; unfold startLineDue; repeat' first | with_reducible rfl | (simp; done) | split
@[simp] theorem marksLineDue_subch : ∀ x0 x1 s, (marksLineDue x0 x1 s).subch = s.subch := fun x0 x1 s => quiet_to_subch (marksLineDue_quiet _ _ _)
@[simp] theorem lateWagon_subch : ∀ x0 x1 x2 x3 x4 s, (lateWagon x0 x1 x2 x3 x4 s).subch = s.subch := fun x0 x1 x2 x3 x4 s => quiet_to_subch (lateWagon_quiet _ _ _ _ _ _)
@[simp] theorem wagonsLineDue_subch : ∀ x0 x1 s, (wagonsLineDue x0 x1 s).subch = s.subch := fun x0 x1 s => quiet_to_subch (wagonsLineDue_quiet _ _ _)
@[simp] theorem barBefore_subch : ∀ x0 x1 x2 x3 s, (barBefore x0 x1 x2 x3 s).subch = s.subch := by intros; unfold barBefore; simp
@[simp] theorem noteSkip_subch : ∀ x0 s, (noteSkip x0 s).subch = s.subch := by
  intros; unfold noteSkip; repeat' first | with_reducible rfl | (simp; done) | split
@[simp] theorem noteStrike_subch : ∀ s, (noteStrike s).subch = s.subch := by
  intros; unfold noteStrike; try dsimp only
  repeat' first | with_reducible rfl | (simp; done) | split | refine Eq.trans (forAll_subch _ _ _ fun _ _ => ?_) ?_ |
    (simp only [onBar, onDev, andThen, valueOk, checked, rated, holderOnly, forwarded]; try dsimp only) | (simp; intros)
@[simp] theorem strikePorts_subch : ∀ x0 s, (strikePorts x0 s).subch = s.subch := by
  intros; unfold strikePorts; repeat' first | with_reducible rfl | (simp; done) | split
@[simp] theorem deadFired_subch : ∀ x0 s, (deadFired x0 s).subch = s.subch := fun x0 s => quiet_to_subch (deadFired_quiet _ _)
@[simp] theorem lastStruck_subch : ∀ x0 x1 s, (lastStruck x0 x1 s).subch = s.subch := fun x0 x1 s => quiet_to_subch (lastStruck_quiet _ _ _)
@[simp] theorem strikeSources_subch : ∀ x0 s, (strikeSources x0 s).subch = s.subch := fun x0 s => quiet_to_subch (strikeSources_quiet _ _)
@[simp] theorem strikeLine_subch : ∀ x0 x1 s, (strikeLine x0 x1 s).subch = s.subch := by intros; unfold strikeLine; simp
@[simp] theorem putRecord_subch : ∀ x0 x1 x2 s, (putRecord x0 x1 x2 s).subch = s.subch := by intros; unfold putRecord; simp
@[simp] theorem fireLine_subch : ∀ x0 x1 s, (fireLine x0 x1 s).subch = s.subch := by
  intros; unfold fireLine; try dsimp only
  repeat' first | with_reducible rfl | (simp; done) | split | refine Eq.trans (forAll_subch _ _ _ fun _ _ => ?_) ?_ |
    (simp only [onBar, onDev, andThen, valueOk, checked, rated, holderOnly, forwarded]; try dsimp only) | (simp; intros)
@[simp] theorem admitLine_subch : ∀ x0 s, (admitLine x0 s).subch = s.subch := by
  intros; unfold admitLine; try dsimp only
  repeat' first | with_reducible rfl | (simp; done) | split | refine Eq.trans (forAll_subch _ _ _ fun _ _ => ?_) ?_ |
    (simp only [onBar, onDev, andThen, valueOk, checked, rated, holderOnly, forwarded]; try dsimp only) | (simp; intros)
@[simp] theorem printedLineDue_subch : ∀ x0 x1 s, (printedLineDue x0 x1 s).subch = s.subch := fun x0 x1 s => quiet_to_subch (printedLineDue_quiet _ _ _)
@[simp] theorem markReqsDue_subch : ∀ x0 x1 s, (markReqsDue x0 x1 s).subch = s.subch := by intros; unfold markReqsDue; simp
@[simp] theorem barAfter_subch : ∀ x0 x1 s, (barAfter x0 x1 s).subch = s.subch := by intros; unfold barAfter; simp
@[simp] theorem risesDue_subch : ∀ x0 s, (risesDue x0 s).subch = s.subch := by intros; unfold risesDue; simp
@[simp] theorem sendXchk_subch : ∀ x0 x1 s, (sendXchk x0 x1 s).subch = s.subch := fun x0 x1 s => quiet_to_subch (sendXchk_quiet _ _ _)
@[simp] theorem camTriggers_subch : ∀ x0 x1 s, (camTriggers x0 x1 s).subch = s.subch := by intros; unfold camTriggers; simp
@[simp] theorem joinLineDue_subch : ∀ x0 s, (joinLineDue x0 s).subch = s.subch := by
  intros; unfold joinLineDue; repeat' first | with_reducible rfl | (simp; done) | split
@[simp] theorem lineFalls_subch : ∀ x0 s, (lineFalls x0 s).subch = s.subch := by
  intros; unfold lineFalls; try dsimp only
  repeat' first | with_reducible rfl | (simp; done) | split | refine Eq.trans (forAll_subch _ _ _ fun _ _ => ?_) ?_ |
    (simp only [onBar, onDev, andThen, valueOk, checked, rated, holderOnly, forwarded]; try dsimp only) | (simp; intros)
@[simp] theorem lineDue_subch : ∀ s, (lineDue s).subch = s.subch := by
  intros; unfold lineDue; try dsimp only
  repeat' first | with_reducible rfl | (simp; done) | split | refine Eq.trans (forAll_subch _ _ _ fun _ _ => ?_) ?_ |
    (simp only [onBar, onDev, andThen, valueOk, checked, rated, holderOnly, forwarded, withRate, hostTime, toStandby, onRecord, byThread, byMachine, upFrame]; try dsimp only) | (simp; intros)
@[simp] theorem heard_subch : ∀ s, (heard s).subch = s.subch := by intros; unfold heard; simp
@[simp] theorem takeSupply_subch : ∀ x0 s, (takeSupply x0 s).subch = s.subch := by
  intros; unfold takeSupply; try dsimp only
  repeat' first | with_reducible rfl | (simp; done) | split | refine Eq.trans (forAll_subch _ _ _ fun _ _ => ?_) ?_ |
    (simp only [onBar, onDev, andThen, valueOk, checked, rated, holderOnly, forwarded]; try dsimp only) | (simp; intros)
@[simp] theorem takeHead_subch : ∀ x0 s, (takeHead x0 s).subch = s.subch := by
  intros; unfold takeHead; try dsimp only
  repeat' first | with_reducible rfl | (simp; done) | split | refine Eq.trans (forAll_subch _ _ _ fun _ _ => ?_) ?_ |
    (simp only [onBar, onDev, andThen, valueOk, checked, rated, holderOnly, forwarded]; try dsimp only) | (simp; intros)
@[simp] theorem rewritePort_subch : ∀ x0 x1 x2 s, (rewritePort x0 x1 x2 s).subch = s.subch := by
  intros; unfold rewritePort; try dsimp only
  repeat' first | with_reducible rfl | (simp; done) | split | refine Eq.trans (forAll_subch _ _ _ fun _ _ => ?_) ?_ |
    (simp only [onBar, onDev, andThen, valueOk, checked, rated, holderOnly, forwarded, withRate, hostTime, toStandby, onRecord, byThread, byMachine, upFrame]; try dsimp only) | (simp; intros)
@[simp] theorem takeStarted_subch : ∀ x0 x1 s, (takeStarted x0 x1 s).subch = s.subch := by intros; unfold takeStarted; simp
@[simp] theorem takeHeads_subch : ∀ x0 s, (takeHeads x0 s).subch = s.subch := by
  intros; unfold takeHeads; try dsimp only
  repeat' first | with_reducible rfl | (simp; done) | split | refine Eq.trans (forAll_subch _ _ _ fun _ _ => ?_) ?_ |
    (simp only [onBar, onDev, andThen, valueOk, checked, rated, holderOnly, forwarded, withRate, hostTime, toStandby, onRecord, byThread, byMachine, upFrame]; try dsimp only) | (simp; intros)
@[simp] theorem takeBar_subch : ∀ x0 s, (takeBar x0 s).subch = s.subch := by
  intros; unfold takeBar; try dsimp only
  repeat' first | with_reducible rfl | (simp; done) | split | refine Eq.trans (forAll_subch _ _ _ fun _ _ => ?_) ?_ |
    (simp only [onBar, onDev, andThen, valueOk, checked, rated, holderOnly, forwarded, withRate, hostTime, toStandby, onRecord, byThread, byMachine, upFrame]; try dsimp only) | (simp; intros)
@[simp] theorem takeOutputs_subch : ∀ s, (takeOutputs s).subch = s.subch := by intros; unfold takeOutputs; simp
@[simp] theorem takeReins_subch : ∀ s, (takeReins s).subch = s.subch := by intros; unfold takeReins; simp
@[simp] theorem tryTake_subch : ∀ s, (tryTake s).subch = s.subch := by
  intros; unfold tryTake; repeat' first | with_reducible rfl | (simp; done) | split
@[simp] theorem tryStart_subch : ∀ s, (tryStart s).subch = s.subch := by
  intros; unfold tryStart; repeat' first | with_reducible rfl | (simp; done) | split
@[simp] theorem joinStandby_subch : ∀ s, (joinStandby s).subch = s.subch := by intros; unfold joinStandby; simp
@[simp] theorem leaseJoin_subch : ∀ s, (leaseJoin s).subch = s.subch := by
  intros; unfold leaseJoin; try dsimp only
  repeat' first | with_reducible rfl | (simp; done) | split | refine Eq.trans (forAll_subch _ _ _ fun _ _ => ?_) ?_ |
    (simp only [onBar, onDev, andThen, valueOk, checked, rated, holderOnly, forwarded, withRate, hostTime, toStandby, onRecord, byThread, byMachine, upFrame]; try dsimp only) | (simp; intros)
@[simp] theorem takeCommit_subch : ∀ x0 x1 x2 s, (takeCommit x0 x1 x2 s).subch = s.subch := by
  intros; unfold takeCommit; try dsimp only
  repeat' first | with_reducible rfl | (simp; done) | split | refine Eq.trans (forAll_subch _ _ _ fun _ _ => ?_) ?_ |
    (simp only [onBar, onDev, andThen, valueOk, checked, rated, holderOnly, forwarded, withRate, hostTime, toStandby, onRecord, byThread, byMachine, upFrame]; try dsimp only) | (simp; intros)
@[simp] theorem genRepair_subch : ∀ x0 x1 s, (genRepair x0 x1 s).subch = s.subch := by
  intros; unfold genRepair; try dsimp only
  repeat' first | with_reducible rfl | (simp; done) | split | refine Eq.trans (forAll_subch _ _ _ fun _ _ => ?_) ?_ |
    (simp only [onBar, onDev, andThen, valueOk, checked, rated, holderOnly, forwarded, withRate, hostTime, toStandby, onRecord, byThread, byMachine, upFrame]; try dsimp only) | (simp; intros)
@[simp] theorem holdFixed_subch : ∀ x0 s, (holdFixed x0 s).subch = s.subch := fun x0 s => quiet_to_subch (holdFixed_quiet _ _)
@[simp] theorem peerStrip_subch : ∀ x0 x1 s, (peerStrip x0 x1 s).subch = s.subch := fun x0 x1 s => quiet_to_subch (peerStrip_quiet _ _ _)
@[simp] theorem takeFlip_subch : ∀ x0 x1 x2 x3 s, (takeFlip x0 x1 x2 x3 s).subch = s.subch := by
  intros; unfold takeFlip; try dsimp only
  repeat' first | with_reducible rfl | (simp; done) | split | refine Eq.trans (forAll_subch _ _ _ fun _ _ => ?_) ?_ |
    (simp only [onBar, onDev, andThen, valueOk, checked, rated, holderOnly, forwarded, withRate, hostTime, toStandby, onRecord, byThread, byMachine, upFrame]; try dsimp only) | (simp; intros)
@[simp] theorem peerBand_subch : ∀ x0 x1 s, (peerBand x0 x1 s).subch = s.subch := fun x0 x1 s => quiet_to_subch (peerBand_quiet _ _ _)
@[simp] theorem mirrorNozzle_subch : ∀ x0 x1 x2 x3 x4 s, (mirrorNozzle x0 x1 x2 x3 x4 s).subch = s.subch := fun x0 x1 x2 x3 x4 s => quiet_to_subch (mirrorNozzle_quiet _ _ _ _ _ _)
@[simp] theorem mirrorHv_subch : ∀ x0 x1 x2 s, (mirrorHv x0 x1 x2 s).subch = s.subch := by
  intros; unfold mirrorHv; try dsimp only
  repeat' first | with_reducible rfl | (simp; done) | split | refine Eq.trans (forAll_subch _ _ _ fun _ _ => ?_) ?_ |
    (simp only [onBar, onDev, andThen, valueOk, checked, rated, holderOnly, forwarded]; try dsimp only) | (simp; intros)
@[simp] theorem followDev_subch : ∀ x0 s, (followDev x0 s).subch = s.subch := by
  intros; unfold followDev; try dsimp only
  repeat' first | with_reducible rfl | (simp; done) | split | refine Eq.trans (forAll_subch _ _ _ fun _ _ => ?_) ?_ |
    (simp only [onBar, onDev, andThen, valueOk, checked, rated, holderOnly, forwarded]; try dsimp only) | (simp; intros)
@[simp] theorem mirrorCaldera_subch : ∀ x0 x1 x2 s, (mirrorCaldera x0 x1 x2 s).subch = s.subch := fun x0 x1 x2 s => quiet_to_subch (mirrorCaldera_quiet _ _ _ _)
@[simp] theorem mirrorTake_subch : ∀ x0 s, (mirrorTake x0 s).subch = s.subch := by
  intros; unfold mirrorTake; repeat' first | with_reducible rfl | (simp; done) | split
@[simp] theorem mirrorLag_subch : ∀ s, (mirrorLag s).subch = s.subch := by intros; unfold mirrorLag; simp
@[simp] theorem takeMirror_subch : ∀ x0 s, (takeMirror x0 s).subch = s.subch := by
  intros; unfold takeMirror; try dsimp only
  repeat' first | with_reducible rfl | (simp; done) | split | refine Eq.trans (forAll_subch _ _ _ fun _ _ => ?_) ?_ |
    (simp only [onBar, onDev, andThen, valueOk, checked, rated, holderOnly, forwarded, withRate, hostTime, toStandby, onRecord, byThread, byMachine, upFrame]; try dsimp only) | (simp; intros)
@[simp] theorem applyForward_subch : ∀ x0 x1 x2 x3 s, (applyForward x0 x1 x2 x3 s).subch = s.subch := by
  intros; unfold applyForward; repeat' first | with_reducible rfl | (simp; done) | split
@[simp] theorem setK_subch : ∀ x0 x1 x2 s, (setK x0 x1 x2 s).subch = s.subch := by intros; unfold setK; simp
@[simp] theorem align_subch : ∀ x0 x1 x2 s, (align x0 x1 x2 s).subch = s.subch := by intros; unfold align; simp
@[simp] theorem xchkPost_subch : ∀ x0 x1 x2 s, (xchkPost x0 x1 x2 s).subch = s.subch := fun x0 x1 x2 s => quiet_to_subch (xchkPost_quiet _ _ _ _)
@[simp] theorem xchkDiffers_subch : ∀ x0 x1 s, (xchkDiffers x0 x1 s).subch = s.subch := by
  intros; unfold xchkDiffers; try dsimp only
  repeat' first | with_reducible rfl | (simp; done) | split | refine Eq.trans (forAll_subch _ _ _ fun _ _ => ?_) ?_ |
    (simp only [onBar, onDev, andThen, valueOk, checked, rated, holderOnly, forwarded]; try dsimp only) | (simp; intros)
@[simp] theorem xchkTake_subch : ∀ x0 x1 x2 s, (xchkTake x0 x1 x2 s).subch = s.subch := by
  intros; unfold xchkTake; try dsimp only
  repeat' first | with_reducible rfl | (simp; done) | split | refine Eq.trans (forAll_subch _ _ _ fun _ _ => ?_) ?_ |
    (simp only [onBar, onDev, andThen, valueOk, checked, rated, holderOnly, forwarded]; try dsimp only) | (simp; intros)
@[simp] theorem joinActive_subch : ∀ s, (joinActive s).subch = s.subch := by intros; unfold joinActive; simp
@[simp] theorem joinJudge_subch : ∀ s, (joinJudge s).subch = s.subch := by intros; unfold joinJudge; simp
@[simp] theorem helloMatch_subch : ∀ s, (helloMatch s).subch = s.subch := by
  intros; unfold helloMatch; try dsimp only
  repeat' first | with_reducible rfl | (simp; done) | split | refine Eq.trans (forAll_subch _ _ _ fun _ _ => ?_) ?_ |
    (simp only [onBar, onDev, andThen, valueOk, checked, rated, holderOnly, forwarded]; try dsimp only) | (simp; intros)
@[simp] theorem helloTake_subch : ∀ x0 x1 x2 x3 s, (helloTake x0 x1 x2 x3 s).subch = s.subch := by
  intros; unfold helloTake; try dsimp only
  repeat' first | with_reducible rfl | (simp; done) | split | refine Eq.trans (forAll_subch _ _ _ fun _ _ => ?_) ?_ |
    (simp only [onBar, onDev, andThen, valueOk, checked, rated, holderOnly, forwarded]; try dsimp only) | (simp; intros)
@[simp] theorem sendHello_subch : ∀ s, (sendHello s).subch = s.subch := fun s => quiet_to_subch (sendHello_quiet _)
@[simp] theorem joinBar_subch : ∀ x0 s, (joinBar x0 s).subch = s.subch := by intros; unfold joinBar; simp
@[simp] theorem pairCmdEffect_subch : ∀ x0 x1 x2 x3 s, (pairCmdEffect x0 x1 x2 x3 s).2.subch = s.subch := by
  intros; unfold pairCmdEffect; try dsimp only
  repeat' first | with_reducible rfl | (simp; done) | split | refine Eq.trans (forAll_subch _ _ _ fun _ _ => ?_) ?_ |
    (simp only [onBar, onDev, andThen, valueOk, checked, rated, holderOnly, forwarded]; try dsimp only) | (simp; intros)
@[simp] theorem pairModeEffect_subch : ∀ x0 x1 x2 x3 s, (pairModeEffect x0 x1 x2 x3 s).2.subch = s.subch := by
  intros; unfold pairModeEffect; try dsimp only
  repeat' first | with_reducible rfl | (simp; done) | split | refine Eq.trans (forAll_subch _ _ _ fun _ _ => ?_) ?_ |
    (simp only [onBar, onDev, andThen, valueOk, checked, rated, holderOnly, forwarded]; try dsimp only) | (simp; intros)
@[simp] theorem readSlot_subch : ∀ x0 x1 x2 s, (readSlot x0 x1 x2 s).2.subch = s.subch := fun x0 x1 x2 s => quiet_to_subch (readSlot_quiet _ _ _ _)
@[simp] theorem countClips_subch : ∀ x0 x1 x2 x3 x4 x5 x6 s, (countClips x0 x1 x2 x3 x4 x5 x6 s).subch = s.subch := fun x0 x1 x2 x3 x4 x5 x6 s => quiet_to_subch (countClips_quiet _ _ _ _ _ _ _ _)
@[simp] theorem spanDone_subch : ∀ x0 x1 x2 x3 x4 x5 x6 s, (spanDone x0 x1 x2 x3 x4 x5 x6 s).subch = s.subch := fun x0 x1 x2 x3 x4 x5 x6 s => quiet_to_subch (spanDone_quiet _ _ _ _ _ _ _ _)
@[simp] theorem chargeToken_subch : ∀ x0 s, (chargeToken x0 s).subch = s.subch := by intros; unfold chargeToken; simp
@[simp] theorem screenWith_subch : ∀ x0 x1 x2 x3 x4 x5 s, (screenWith x0 x1 x2 x3 x4 x5 s).subch = s.subch := by intros; unfold screenWith; simp
@[simp] theorem handover_subch : ∀ x0 x1 x2 x3 s, (handover x0 x1 x2 x3 s).subch = s.subch := by
  intros; unfold handover; try dsimp only
  repeat' first | with_reducible rfl | (simp; done) | split | refine Eq.trans (forAll_subch _ _ _ fun _ _ => ?_) ?_ |
    (simp only [onBar, onDev, andThen, valueOk, checked, rated, holderOnly, forwarded, withRate, hostTime, toStandby, onRecord, byThread, byMachine, upFrame]; try dsimp only) | (simp; intros)
@[simp] theorem screenToken_subch : ∀ x0 x1 x2 x3 s, (screenToken x0 x1 x2 x3 s).subch = s.subch := by
  intros; unfold screenToken; try dsimp only
  repeat' first | with_reducible rfl | (simp; done) | split | refine Eq.trans (forAll_subch _ _ _ fun _ _ => ?_) ?_ |
    (simp only [onBar, onDev, andThen, valueOk, checked, rated, holderOnly, forwarded]; try dsimp only) | (simp; intros)
@[simp] theorem routeWith_subch : ∀ x0 x1 x2 x3 x4 s, (routeWith x0 x1 x2 x3 x4 s).subch = s.subch := fun x0 x1 x2 x3 x4 s => quiet_to_subch (routeWith_quiet _ _ _ _ _ _)
@[simp] theorem routeLine_subch : ∀ x0 x1 x2 x3 s, (routeLine x0 x1 x2 x3 s).subch = s.subch := fun x0 x1 x2 x3 s => quiet_to_subch (routeLine_quiet _ _ _ _ _)
@[simp] theorem dropGeyserLines_subch : ∀ x0 s, (dropGeyserLines x0 s).subch = s.subch := fun x0 s => quiet_to_subch (dropGeyserLines_quiet _ _)
@[simp] theorem moveSpans_subch : ∀ x0 s, (moveSpans x0 s).subch = s.subch := by
  intros; unfold moveSpans; try dsimp only
  repeat' first | with_reducible rfl | (simp; done) | split | refine Eq.trans (forAll_subch _ _ _ fun _ _ => ?_) ?_ |
    (simp only [onBar, onDev, andThen, valueOk, checked, rated, holderOnly, forwarded, withRate, hostTime, toStandby, onRecord, byThread, byMachine, upFrame]; try dsimp only) | (simp; intros)
@[simp] theorem purgeEffect_subch : ∀ x0 x1 x2 x3 s, (purgeEffect x0 x1 x2 x3 s).2.subch = s.subch := fun x0 x1 x2 x3 s => quiet_to_subch (purgeEffect_quiet _ _ _ _ _)
@[simp] theorem valueOk_subch : ∀ x0 x1 x2 x3 x4 s, (valueOk x0 x1 x2 x3 x4 s).2.subch = s.subch := fun x0 x1 x2 x3 x4 s => quiet_to_subch (valueOk_quiet _ _ _ _ _ _)
@[simp] theorem layoutEffect_subch : ∀ x0 x1 x2 x3 s, (layoutEffect x0 x1 x2 x3 s).2.subch = s.subch := by
  intros; unfold layoutEffect; try dsimp only
  repeat' first | with_reducible rfl | (simp; done) | split | refine Eq.trans (forAll_subch _ _ _ fun _ _ => ?_) ?_ |
    (simp only [onBar, onDev, andThen, valueOk, checked, rated, holderOnly, forwarded]; try dsimp only) | (simp; intros)
@[simp] theorem violationEffect_subch : ∀ x0 x1 x2 x3 s, (violationEffect x0 x1 x2 x3 s).2.subch = s.subch := fun x0 x1 x2 x3 s => quiet_to_subch (violationEffect_quiet _ _ _ _ _)
@[simp] theorem planeEffect_subch : ∀ x0 x1 x2 x3 s, (planeEffect x0 x1 x2 x3 s).2.subch = s.subch := by
  intros; unfold planeEffect; try dsimp only
  repeat' first | with_reducible rfl | (simp; done) | split | refine Eq.trans (forAll_subch _ _ _ fun _ _ => ?_) ?_ |
    (simp only [onBar, onDev, andThen, valueOk, checked, rated, holderOnly, forwarded]; try dsimp only) | (simp; intros)
@[simp] theorem formatEffect_subch : ∀ x0 x1 x2 x3 s, (formatEffect x0 x1 x2 x3 s).2.subch = s.subch := by
  intro _ _ _ _ s; unfold formatEffect rated onBar; dsimp only
  repeat' first | with_reducible rfl | (simp [withRate]; done) | split
@[simp] theorem defaultTables_subch : ∀ x0 s, (defaultTables x0 s).subch = s.subch := fun x0 s => quiet_to_subch (defaultTables_quiet _ _)
@[simp] theorem mapEffect_subch : ∀ x0 x1 x2 x3 s, (mapEffect x0 x1 x2 x3 s).2.subch = s.subch := by
  intros; unfold mapEffect; try dsimp only
  repeat' first | with_reducible rfl | (simp; done) | split | refine Eq.trans (forAll_subch _ _ _ fun _ _ => ?_) ?_ |
    (simp only [onBar, onDev, andThen, valueOk, checked, rated, holderOnly, forwarded]; try dsimp only) | (simp; intros)
@[simp] theorem geomEffect_subch : ∀ x0 x1 x2 x3 s, (geomEffect x0 x1 x2 x3 s).2.subch = s.subch := by
  intros; unfold geomEffect; try dsimp only
  repeat' first | with_reducible rfl | (simp; done) | split | refine Eq.trans (forAll_subch _ _ _ fun _ _ => ?_) ?_ |
    (simp only [onBar, onDev, andThen, valueOk, checked, rated, holderOnly, forwarded]; try dsimp only) | (simp; intros)
@[simp] theorem recheckAll_subch : ∀ x0 x1 x2 x3 s, (recheckAll x0 x1 x2 x3 s).2.subch = s.subch := by
  intros; unfold recheckAll; try dsimp only
  repeat' first | with_reducible rfl | (simp; done) | split | refine Eq.trans (forAll_subch _ _ _ fun _ _ => ?_) ?_ |
    (simp only [onBar, onDev, andThen, valueOk, checked, rated, holderOnly, forwarded]; try dsimp only) | (simp; intros)
@[simp] theorem camEffect_subch : ∀ x0 x1 x2 x3 s, (camEffect x0 x1 x2 x3 s).2.subch = s.subch := by
  intros; unfold camEffect; try dsimp only
  repeat' first | with_reducible rfl | (simp; done) | split | refine Eq.trans (forAll_subch _ _ _ fun _ _ => ?_) ?_ |
    (simp only [onBar, onDev, andThen, valueOk, checked, rated, holderOnly, forwarded]; try dsimp only) | (simp; intros)
@[simp] theorem domainEffect_subch : ∀ x0 x1 x2 x3 s, (domainEffect x0 x1 x2 x3 s).2.subch = s.subch := by
  intros; unfold domainEffect; try dsimp only
  repeat' first | with_reducible rfl | (simp; done) | split | refine Eq.trans (forAll_subch _ _ _ fun _ _ => ?_) ?_ |
    (simp only [onBar, onDev, andThen, valueOk, checked, rated, holderOnly, forwarded]; try dsimp only) | (simp; intros)
@[simp] theorem portEffect_subch : ∀ x0 x1 x2 x3 s, (portEffect x0 x1 x2 x3 s).2.subch = s.subch := fun x0 x1 x2 x3 s => quiet_to_subch (portEffect_quiet _ _ _ _ _)
@[simp] theorem routeEffect_subch : ∀ x0 x1 x2 x3 s, (routeEffect x0 x1 x2 x3 s).2.subch = s.subch := fun x0 x1 x2 x3 s => quiet_to_subch (routeEffect_quiet _ _ _ _ _)
@[simp] theorem extCfgEffect_subch : ∀ x0 x1 x2 x3 s, (extCfgEffect x0 x1 x2 x3 s).2.subch = s.subch := fun x0 x1 x2 x3 s => quiet_to_subch (extCfgEffect_quiet _ _ _ _ _)
@[simp] theorem cmpCfgEffect_subch : ∀ x0 x1 x2 x3 s, (cmpCfgEffect x0 x1 x2 x3 s).2.subch = s.subch := fun x0 x1 x2 x3 s => quiet_to_subch (cmpCfgEffect_quiet _ _ _ _ _)
@[simp] theorem drawBufs_subch : ∀ x0 s, (drawBufs x0 s).2.subch = s.subch := by
  intro n
  induction n with
  | zero => intro s; rfl
  | succ n ih => intro s; unfold drawBufs; dsimp only; rw [ih]; rfl
@[simp] theorem chainSlotEffect_subch : ∀ x0 x1 x2 x3 s, (chainSlotEffect x0 x1 x2 x3 s).2.subch = s.subch := by
  intros; unfold chainSlotEffect; repeat' first | with_reducible rfl | (simp; done) | split
@[simp] theorem ownEffect_subch : ∀ x0 x1 x2 x3 x4 s, (ownEffect x0 x1 x2 x3 x4 s).2.subch = s.subch := fun x0 x1 x2 x3 x4 s => quiet_to_subch (ownEffect_quiet _ _ _ _ _ _)
@[simp] theorem effectLow_subch : ∀ x0 x1 x2 x3 x4 x5 x6 s, (effectLow x0 x1 x2 x3 x4 x5 x6 s).2.subch = s.subch := by
  intros; unfold effectLow; repeat' first | with_reducible rfl | (simp; done) | split
@[simp] theorem effectPair_subch : ∀ x0 x1 x2 x3 x4 x5 s, (effectPair x0 x1 x2 x3 x4 x5 s).2.subch = s.subch := by
  intros; unfold effectPair; repeat' first | with_reducible rfl | (simp; done) | split
@[simp] theorem effectHigh_subch : ∀ x0 x1 x2 x3 x4 x5 s, (effectHigh x0 x1 x2 x3 x4 x5 s).2.subch = s.subch := by
  intros; unfold effectHigh; try dsimp only
  repeat' first | with_reducible rfl | (simp; done) | split | refine Eq.trans (forAll_subch _ _ _ fun _ _ => ?_) ?_ |
    (simp only [onBar, onDev, andThen, valueOk, checked, rated, holderOnly, forwarded]; try dsimp only) | (simp; intros)
@[simp] theorem discardHeld_subch : ∀ x0 s, (discardHeld x0 s).subch = s.subch := fun x0 s => quiet_to_subch (discardHeld_quiet _ _)
@[simp] theorem dropHalves_subch : ∀ x0 x1 s, (dropHalves x0 x1 s).subch = s.subch := fun x0 x1 s => quiet_to_subch (dropHalves_quiet _ _ _)
@[simp] theorem pieceRead_subch : ∀ x0 x1 x2 x3 s, (pieceRead x0 x1 x2 x3 s).2.subch = s.subch := fun x0 x1 x2 x3 s => quiet_to_subch (pieceRead_quiet _ _ _ _ _)
@[simp] theorem windowRequest_subch : ∀ x0 x1 s, (windowRequest x0 x1 s).subch = s.subch := by
  intros; unfold windowRequest; try dsimp only
  repeat' first | with_reducible rfl | (simp; done) | split | refine Eq.trans (forAll_subch _ _ _ fun _ _ => ?_) ?_ |
    (simp only [onBar, onDev, andThen, valueOk, checked, rated, holderOnly, forwarded, withRate, hostTime, toStandby, onRecord, byThread, byMachine, upFrame]; try dsimp only) | (simp; intros)
@[simp] theorem blockStart_subch : ∀ x0 x1 x2 x3 x4 x5 s, (blockStart x0 x1 x2 x3 x4 x5 s).2.subch = s.subch := fun x0 x1 x2 x3 x4 x5 s => quiet_to_subch (blockStart_quiet _ _ _ _ _ _ _)
@[simp] theorem applyBlock_subch : ∀ x0 x1 x2 x3 x4 s, (applyBlock x0 x1 x2 x3 x4 s).2.subch = s.subch := by
  intros; unfold applyBlock; try dsimp only
  repeat' first | with_reducible rfl | (simp; done) | split | refine Eq.trans (forAll_subch _ _ _ fun _ _ => ?_) ?_ |
    (simp only [onBar, onDev, andThen, valueOk, checked, rated, holderOnly, forwarded]; try dsimp only) | (simp; intros)
@[simp] theorem sealAfter_subch : ∀ x0 s, (sealAfter x0 s).subch = s.subch := by
  intros; unfold sealAfter; repeat' first | with_reducible rfl | (simp; done) | split
@[simp] theorem modChan_subch : ∀ x0 x1 x2 s, (modChan x0 x1 x2 s).subch = s.subch := fun x0 x1 x2 s => quiet_to_subch (modChan_quiet _ _ _ _)
@[simp] theorem blockEvent_subch : ∀ x0 x1 x2 x3 s, (blockEvent x0 x1 x2 x3 s).subch = s.subch := fun x0 x1 x2 x3 s => quiet_to_subch (blockEvent_quiet _ _ _ _ _)
@[simp] theorem endChan_subch : ∀ x0 x1 x2 x3 x4 s, (endChan x0 x1 x2 x3 x4 s).subch = s.subch := fun x0 x1 x2 x3 x4 s => quiet_to_subch (endChan_quiet _ _ _ _ _ _)
@[simp] theorem beginChan_subch : ∀ x0 x1 x2 x3 x4 x5 x6 s, (beginChan x0 x1 x2 x3 x4 x5 x6 s).subch = s.subch := fun x0 x1 x2 x3 x4 x5 x6 s => quiet_to_subch (beginChan_quiet _ _ _ _ _ _ _ _)
@[simp] theorem startChan_subch : ∀ x0 x1 x2 x3 s, (startChan x0 x1 x2 x3 s).subch = s.subch := fun x0 x1 x2 x3 s => quiet_to_subch (startChan_quiet _ _ _ _ _)
@[simp] theorem abortChan_subch : ∀ x0 x1 s, (abortChan x0 x1 s).subch = s.subch := by
  intros; unfold abortChan; try dsimp only
  repeat' first | with_reducible rfl | (simp; done) | split | refine Eq.trans (forAll_subch _ _ _ fun _ _ => ?_) ?_ |
    (simp only [onBar, onDev, andThen, valueOk, checked, rated, holderOnly, forwarded]; try dsimp only) | (simp; intros)
@[simp] theorem abortBusy_subch : ∀ x0 x1 s, (abortBusy x0 x1 s).subch = s.subch := by
  intros; unfold abortBusy; try dsimp only
  repeat' first | with_reducible rfl | (simp; done) | split | refine Eq.trans (forAll_subch _ _ _ fun _ _ => ?_) ?_ |
    (simp only [onBar, onDev, andThen, valueOk, checked, rated, holderOnly, forwarded, withRate, hostTime, toStandby, onRecord, byThread, byMachine, upFrame]; try dsimp only) | (simp; intros)
@[simp] theorem finishChan_subch : ∀ x0 x1 x2 x3 s, (finishChan x0 x1 x2 x3 s).subch = s.subch := by
  intros; unfold finishChan; repeat' first | with_reducible rfl | (simp; done) | split
@[simp] theorem chanDone_subch : ∀ x0 x1 x2 s, (chanDone x0 x1 x2 s).subch = s.subch := by
  intros; unfold chanDone; try dsimp only
  repeat' first | with_reducible rfl | (simp; done) | split | refine Eq.trans (forAll_subch _ _ _ fun _ _ => ?_) ?_ |
    (simp only [onBar, onDev, andThen, valueOk, checked, rated, holderOnly, forwarded, withRate, hostTime, toStandby, onRecord, byThread, byMachine, upFrame]; try dsimp only) | (simp; intros)
@[simp] theorem plainReply_subch : ∀ x0 x1 x2 x3 x4 s, (plainReply x0 x1 x2 x3 x4 s).subch = s.subch := fun x0 x1 x2 x3 x4 s => quiet_to_subch (plainReply_quiet _ _ _ _ _ _)
@[simp] theorem challenge_subch : ∀ x0 x1 x2 s, (challenge x0 x1 x2 s).subch = s.subch := by intros; unfold challenge; simp
@[simp] theorem helloServe_subch : ∀ x0 s, (helloServe x0 s).subch = s.subch := by
  intros; unfold helloServe; try dsimp only
  repeat' first | with_reducible rfl | (simp; done) | split | refine Eq.trans (forAll_subch _ _ _ fun _ _ => ?_) ?_ |
    (simp only [onBar, onDev, andThen, valueOk, checked, rated, holderOnly, forwarded]; try dsimp only) | (simp; intros)
@[simp] theorem authRefused_subch : ∀ x0 x1 x2 s, (authRefused x0 x1 x2 s).subch = s.subch := fun x0 x1 x2 s => quiet_to_subch (authRefused_quiet _ _ _ _)
@[simp] theorem welcome_subch : ∀ x0 x1 x2 x3 x4 s, (welcome x0 x1 x2 x3 x4 s).subch = s.subch := fun x0 x1 x2 x3 x4 s => quiet_to_subch (welcome_quiet _ _ _ _ _ _)
@[simp] theorem authServe_subch : ∀ x0 s, (authServe x0 s).subch = s.subch := fun x0 s => quiet_to_subch (authServe_quiet _ _)
@[simp] theorem readSlots_subch : ∀ x0 x1 x2 x3 s, (readSlots x0 x1 x2 x3 s).2.subch = s.subch := fun x0 x1 x2 x3 s => quiet_to_subch (readSlots_quiet _ _ _ _ _)
@[simp] theorem readItem_subch : ∀ x0 x1 x2 x3 x4 s, (readItem x0 x1 x2 x3 x4 s).2.subch = s.subch := fun x0 x1 x2 x3 x4 s => quiet_to_subch (readItem_quiet _ _ _ _ _ _)
@[simp] theorem readItems_subch : ∀ x0 x1 x2 x3 s, (readItems x0 x1 x2 x3 s).2.subch = s.subch := fun x0 x1 x2 x3 s => quiet_to_subch (readItems_quiet _ _ _ _ _)
@[simp] theorem dropBlock_subch : ∀ x0 s, (dropBlock x0 s).subch = s.subch := by
  intros; unfold dropBlock; repeat' first | with_reducible rfl | (simp; done) | split
@[simp] theorem openBlock_subch : ∀ x0 x1 x2 x3 x4 x5 x6 x7 x8 s, (openBlock x0 x1 x2 x3 x4 x5 x6 x7 x8 s).subch = s.subch := fun x0 x1 x2 x3 x4 x5 x6 x7 x8 s => quiet_to_subch (openBlock_quiet _ _ _ _ _ _ _ _ _ _)
@[simp] theorem takeBlock_subch : ∀ x0 x1 x2 x3 x4 x5 x6 x7 x8 x9 x10 s, (takeBlock x0 x1 x2 x3 x4 x5 x6 x7 x8 x9 x10 s).2.subch = s.subch := fun x0 x1 x2 x3 x4 x5 x6 x7 x8 x9 x10 s => quiet_to_subch (takeBlock_quiet _ _ _ _ _ _ _ _ _ _ _ _)
@[simp] theorem beginBlock_subch : ∀ x0 x1 s, (beginBlock x0 x1 s).2.subch = s.subch := by
  intros; unfold beginBlock; try dsimp only
  repeat' first | with_reducible rfl | (simp; done) | split | refine Eq.trans (forAll_subch _ _ _ fun _ _ => ?_) ?_ |
    (simp only [onBar, onDev, andThen, valueOk, checked, rated, holderOnly, forwarded]; try dsimp only) | (simp; intros)
@[simp] theorem depositBlock_subch : ∀ x0 x1 s, (depositBlock x0 x1 s).2.subch = s.subch := fun x0 x1 s => quiet_to_subch (depositBlock_quiet _ _ _)
@[simp] theorem endBlock_subch : ∀ x0 x1 s, (endBlock x0 x1 s).2.subch = s.subch := by
  intros; unfold endBlock; repeat' first | with_reducible rfl | (simp; done) | split
@[simp] theorem streamNext_subch : ∀ x0 x1 s, (streamNext x0 x1 s).subch = s.subch := fun x0 x1 s => quiet_to_subch (streamNext_quiet _ _ _)
@[simp] theorem sessionOverflow_subch : ∀ x0 s, (sessionOverflow x0 s).subch = s.subch := fun x0 s => quiet_to_subch (sessionOverflow_quiet _ _)
@[simp] theorem ackEvent_subch : ∀ x0 x1 s, (ackEvent x0 x1 s).2.subch = s.subch := fun x0 x1 s => quiet_to_subch (ackEvent_quiet _ _ _)
@[simp] theorem answer_subch : ∀ x0 x1 x2 x3 x4 s, (answer x0 x1 x2 x3 x4 s).subch = s.subch := fun x0 x1 x2 x3 x4 s => quiet_to_subch (answer_quiet _ _ _ _ _ _)
@[simp] theorem refuseSeq_subch : ∀ x0 x1 x2 x3 s, (refuseSeq x0 x1 x2 x3 s).subch = s.subch := fun x0 x1 x2 x3 s => quiet_to_subch (refuseSeq_quiet _ _ _ _ _)
@[simp] theorem sessionEnds_subch : ∀ x0 s, (sessionEnds x0 s).subch = s.subch := by
  intros; unfold sessionEnds; try dsimp only
  repeat' first | with_reducible rfl | (simp; done) | split | refine Eq.trans (forAll_subch _ _ _ fun _ _ => ?_) ?_ |
    (simp only [onBar, onDev, andThen, valueOk, checked, rated, holderOnly, forwarded, withRate, hostTime, toStandby, onRecord, byThread, byMachine, upFrame]; try dsimp only) | (simp; intros)
@[simp] theorem repeatEvent_subch : ∀ x0 x1 x2 s, (repeatEvent x0 x1 x2 s).subch = s.subch := fun x0 x1 x2 s => quiet_to_subch (repeatEvent_quiet _ _ _ _)
@[simp] theorem resumeCut_subch (s t : State) : (resumeCut s t).subch = t.subch := by
  unfold resumeCut; split
  · exact forAll_subch _ _ _ (fun b u => resumeHold_subch b u)
  · rfl

end Sys2Proof.Machine
end

