-- ==== Sys2Proof/Laws/Memory.lean ====
section
/-!
SUPPORT. Memory: writes keep the canonical form, and what is read after them.
-/
namespace Sys2Proof.Machine
open Sys2Proof

theorem Memory.above_of_le {m : List Host.Cell} {a b : Nat} (h : a ≤ b) (hm : Memory.above b m = true) :
    Memory.above a m = true := by
  cases m with
  | nil => rfl
  | cons p t =>
    obtain ⟨j, w⟩ := p
    simp only [Memory.above, Bool.and_eq_true, decide_eq_true_eq] at hm ⊢
    exact ⟨⟨by omega, hm.1.2⟩, hm.2⟩

theorem Memory.above_memWrite (m : List Host.Cell) (k a : Nat) (b : Byte) (h : k < a) (hm : Memory.above k m = true) :
    Memory.above k (memWrite m a b) = true := by
  induction m generalizing k with
  | nil => unfold memWrite; split <;> simp_all [Memory.above]
  | cons p t ih =>
    obtain ⟨j, w⟩ := p
    simp only [Memory.above, Bool.and_eq_true, decide_eq_true_eq, bne_iff_ne, ne_eq, BitVec.ofNat_eq_ofNat] at hm
    unfold memWrite
    split
    · split
      · simp [Memory.above, hm]
      · rename_i h1 h2; simp_all [Memory.above]
    · split
      · split
        · exact Memory.above_of_le (by omega) hm.2
        · subst_vars; simp_all [Memory.above]
      · rename_i h1 h2
        simp [Memory.above, hm, ih j (by omega) hm.2]

/-- A canonical list is one that lies above some bound, or is empty. -/
theorem Memory.wf_of_above {m : List Host.Cell} {k : Nat} (hm : Memory.above k m = true) : Memory.wf m = true := by
  cases m with
  | nil => rfl
  | cons p t => obtain ⟨j, w⟩ := p; simp_all [Memory.above, Memory.wf]

/-- Writing a byte keeps the canonical form. -/
theorem Memory.wf_memWrite (m : List Host.Cell) (a : Nat) (b : Byte) (hm : Memory.wf m = true) :
    Memory.wf (memWrite m a b) = true := by
  cases m with
  | nil => unfold memWrite; split <;> simp_all [Memory.wf, Memory.above]
  | cons p t =>
    obtain ⟨j, w⟩ := p
    simp only [Memory.wf, Bool.and_eq_true, bne_iff_ne, ne_eq, BitVec.ofNat_eq_ofNat] at hm
    unfold memWrite
    split
    · split
      · simp [Memory.wf, hm]
      · rename_i h1 h2; simp_all [Memory.wf, Memory.above]
    · split
      · split
        · exact Memory.wf_of_above hm.2
        · subst_vars; simp_all [Memory.wf]
      · simp [Memory.wf, hm, Memory.above_memWrite t j a b (by omega) hm.2]

/-- Writing bytes keeps the canonical form. -/
theorem Memory.wf_memWrites (m : List Host.Cell) (a : Nat) (bs : List Byte) (hm : Memory.wf m = true) :
    Memory.wf (memWrites m a bs) = true := by
  induction bs generalizing m a with
  | nil => exact hm
  | cons b t ih => exact ih _ _ (Memory.wf_memWrite m a b hm)

theorem memRead_of_above {m : List Host.Cell} {k a : Nat} (h : a ≤ k) (hm : Memory.above k m = true) : memRead m a = 0 := by
  induction m generalizing k with
  | nil => rfl
  | cons p t ih =>
    obtain ⟨j, w⟩ := p
    simp only [Memory.above, Bool.and_eq_true, decide_eq_true_eq] at hm
    simp only [memRead]
    rw [if_neg (by omega)]
    exact ih (by omega) hm.2

theorem memRead_memWrite_above (m : List Host.Cell) (k a c : Nat) (b : Byte) (hm : Memory.above k m = true) :
    memRead (memWrite m a b) c = if c = a then b else memRead m c := by
  induction m generalizing k with
  | nil => unfold memWrite; split <;> simp_all [memRead]
  | cons p t ih =>
    obtain ⟨j, w⟩ := p
    simp only [Memory.above, Bool.and_eq_true, decide_eq_true_eq, bne_iff_ne, ne_eq, BitVec.ofNat_eq_ofNat] at hm
    have h0 : ∀ x, x ≤ j → memRead t x = 0 := fun x hx => memRead_of_above hx hm.2
    unfold memWrite
    split
    · rename_i h1
      split
      · subst_vars
        by_cases hc : c = a
        · subst hc; simp only [memRead, if_true]; rw [if_neg (by omega)]; exact h0 _ (by omega)
        · rw [if_neg hc]
      · simp only [memRead]
    · split
      · subst_vars
        split
        · subst_vars
          simp only [memRead]
          split
          · subst_vars; exact h0 _ (Nat.le_refl _)
          · rfl
        · simp only [memRead]; split <;> rfl
      · rename_i h1 h2
        simp only [memRead, ih j hm.2]
        split
        · subst_vars; rw [if_neg (Ne.symm h2)]
        · rfl

/-- A byte read after a byte written: the byte itself at its address, every other as before. -/
theorem memRead_memWrite (m : List Host.Cell) (a c : Nat) (b : Byte) (hm : Memory.wf m = true) :
    memRead (memWrite m a b) c = if c = a then b else memRead m c := by
  cases m with
  | nil => unfold memWrite; split <;> simp_all [memRead]
  | cons p t =>
    obtain ⟨j, w⟩ := p
    simp only [Memory.wf, Bool.and_eq_true, bne_iff_ne, ne_eq, BitVec.ofNat_eq_ofNat] at hm
    by_cases hj : j = 0
    · subst hj
      have h0 : memRead t 0 = 0 := memRead_of_above (Nat.le_refl _) hm.2
      unfold memWrite
      rw [if_neg (by omega)]
      split
      · subst_vars
        split
        · subst_vars; simp only [memRead]; split <;> simp_all
        · simp only [memRead]; split <;> rfl
      · rename_i h2
        simp only [memRead, memRead_memWrite_above t 0 a c b hm.2]
        split
        · subst_vars; rw [if_neg (Ne.symm h2)]
        · rfl
    · exact memRead_memWrite_above _ 0 a c b (by simp [Memory.above, hm]; omega)

/-- Bytes outside a write are as before. -/
theorem memRead_memWrites_outside (m : List Host.Cell) (a c : Nat) (bs : List Byte) (hm : Memory.wf m = true)
    (h : c < a ∨ a + bs.length ≤ c) : memRead (memWrites m a bs) c = memRead m c := by
  induction bs generalizing m a with
  | nil => rfl
  | cons b t ih =>
    simp only [memWrites, List.length_cons] at h ⊢
    rw [ih _ _ (Memory.wf_memWrite m a b hm) (by omega), memRead_memWrite m a c b hm, if_neg (by omega)]

end Sys2Proof.Machine
end

