-- ==== Sys2Proof/Laws/Cells.lean ====
section
/-!
SUPPORT. The bytes of the memory subchannels (R244, R253): which operations leave every byte alone though they change the
subchannels, and that every command keeps the canonical form.
-/
set_option linter.unusedSimpArgs false
set_option linter.unusedVariables false
namespace Sys2Proof.Machine
open Sys2Proof

/-- The bytes of every subchannel. -/
def cellsOf (m : Map Subch) : Nat → List Host.Cell := fun k => (m.getD k Subch.reset).cells

theorem cellsOf_sch (s : State) (k : Nat) : (s.sch k).cells = cellsOf s.subch k := rfl

/-- A change of a subchannel that keeps its bytes keeps the bytes of all. -/
theorem modSch_cells (s : State) (k : Nat) (f : Subch → Subch) (h : (f (s.sch k)).cells = (s.sch k).cells) :
    cellsOf (s.modSch k f).subch = cellsOf s.subch := by
  funext j
  show (((s.subch.set k (f (s.sch k))).getD j Subch.reset)).cells = _
  rw [Map.getD_set]
  split
  · subst_vars; exact h
  · rfl

theorem forAll_cells {α : Type} (xs : List α) (f : α → State → State) (s : State)
    (h : ∀ x t, cellsOf (f x t).subch = cellsOf t.subch) : cellsOf (forAll xs f s).subch = cellsOf s.subch :=
  forAll_keeps (fun s => cellsOf s.subch) xs f s h

@[simp] theorem touchBank_cells (s : State) (e : McEntry) (x : Subch) : (touchBank s e x).cells = x.cells := rfl

@[simp] theorem putWrite_cells (x : Subch) (r : McReq) : (putWrite x r).cells = x.cells := by
  unfold putWrite; split <;> rfl

@[simp] theorem subchFault_cells (k : Nat) (s : State) : cellsOf (subchFault k s).subch = cellsOf s.subch := by
  unfold subchFault; dsimp only; split <;> simp [modSch_cells]

@[simp] theorem subchCommand_cells (row bar sub w s) : cellsOf (subchCommand row bar sub w s).2.subch = cellsOf s.subch := by
  unfold subchCommand; simp only [onDev]; repeat' first | (simp [modSch_cells]; done) | split

theorem doorWrite_cells (door idx sub v) (eff : Effect) (s : State)
    (h : ∀ row bar sub w s, cellsOf (eff row bar sub w s).2.subch = cellsOf s.subch) :
    cellsOf (doorWrite door idx sub v eff s).2.subch = cellsOf s.subch := by
  unfold doorWrite; repeat' first | (simp [h]; done) | split

theorem writeThrough_cells (door idx sub v) (eff : Effect) (s : State)
    (h : ∀ row bar sub w s, cellsOf (eff row bar sub w s).2.subch = cellsOf s.subch) :
    cellsOf (writeThrough door idx sub v eff s).subch = cellsOf s.subch := doorWrite_cells door idx sub v eff s h

@[simp] theorem effectMid_cells (idx sub row bar k w s) :
    cellsOf (effectMid idx sub row bar k w s).2.subch = cellsOf s.subch := by
  unfold effectMid
  repeat' first
    | with_reducible exact subchCommand_cells _ _ _ _ _
    | (apply congrArg cellsOf; first
        | (simp only [State_setDv_subch, plainEffect_subch, trigEnEffect_subch, markRegEffect_subch, geomEffect_subch,
            recheckAll_subch, laneCommand_subch, camEffect_subch, satClearEffect_subch, regEffect_subch, focusGoEffect_subch,
            stripReqEffect_subch, placeFreezeEffect_subch, dramQuotaEffect_subch, sramQuotaEffect_subch]; done)
        | (simp; done)
        | (simp only [checked, valueOk, rated]
           repeat' first | (simp; done) | split
           done))
    | split

@[simp] theorem objectEffect_cells (door idx sub row bar k w s) :
    cellsOf (objectEffect door idx sub row bar k w s).2.subch = cellsOf s.subch := by
  unfold objectEffect; repeat' first | (simp; done) | split

@[simp] theorem slotWrite_cells (door idx sub v s) : cellsOf (slotWrite door idx sub v s).2.subch = cellsOf s.subch :=
  doorWrite_cells _ _ _ _ _ _ (fun _ _ _ _ _ => objectEffect_cells _ _ _ _ _ _ _ _)

@[simp] theorem pieceWrite_cells (k slot first n bs s) : cellsOf (pieceWrite k slot first n bs s).subch = cellsOf s.subch := by
  unfold pieceWrite; try dsimp only
  repeat' first | (simp; done) | split

@[simp] theorem onePiece_cells (k w x acc) : cellsOf (onePiece k w x acc).2.subch = cellsOf acc.2.subch := by
  unfold onePiece; try dsimp only
  repeat' first | (simp; done) | split

theorem pieces_cells (k : Fin 17) (w : Bool) (ps : List (Nat × Nat × Nat × List Byte)) (acc : List Byte × State) :
    cellsOf (ps.foldl (fun acc p => onePiece k w p acc) acc).2.subch = cellsOf acc.2.subch := by
  induction ps generalizing acc with
  | nil => rfl
  | cons p t ih => exact (ih _).trans (onePiece_cells k w p acc)

@[simp] theorem slotRequest_cells (k r s) : cellsOf (slotRequest k r s).subch = cellsOf s.subch := by
  unfold slotRequest; try dsimp only
  repeat' first | (simp [pieces_cells]; done) | split

@[simp] theorem writeSlots_cells (door idx sub vs s) : cellsOf (writeSlots door idx sub vs s).2.subch = cellsOf s.subch := by
  induction vs generalizing sub s with
  | nil => rfl
  | cons v t ih => simp [writeSlots, ih]

@[simp] theorem writeItems_cells (door n bad bs out s) :
    cellsOf (writeItems door n bad bs out s).2.subch = cellsOf s.subch := by
  induction n generalizing bad bs out s with
  | zero => rfl
  | succ n ih =>
    unfold writeItems; try dsimp only
    repeat' first | (simp [ih]; done) | split

@[simp] theorem serve_cells (op sid f s) : cellsOf (serve op sid f s).2.subch = cellsOf s.subch := by
  unfold serve; try dsimp only
  repeat' first | (simp; done) | split

@[simp] theorem runRequest_cells (op sid f s) : cellsOf (runRequest op sid f s).subch = cellsOf s.subch := by
  unfold runRequest; try dsimp only
  repeat' first | (simp; done) | split

@[simp] theorem drain_cells (sid n s) : cellsOf (drain sid n s).subch = cellsOf s.subch := by
  induction n generalizing s with
  | zero => rfl
  | succ n ih =>
    unfold drain; try dsimp only
    repeat' first | (simp [ih]; done) | split

@[simp] theorem windowServe_cells (op sid x f s) : cellsOf (windowServe op sid x f s).subch = cellsOf s.subch := by
  unfold windowServe; try dsimp only
  repeat' first | (simp; done) | split

@[simp] theorem sessionServe_cells (op f s) : cellsOf (sessionServe op f s).subch = cellsOf s.subch := by
  unfold sessionServe; try dsimp only
  repeat' first | (simp; done) | split

@[simp] theorem moaFrame_cells (f : MoaFrame) (g : State → State) (s : State)
    (h : ∀ s, cellsOf (g s).subch = cellsOf s.subch) : cellsOf (moaFrame f g s).subch = cellsOf s.subch := by
  unfold moaFrame; try dsimp only
  repeat' first | (simp [h]; done) | split

/-- R43, R48, R204: what a command's effect lets go on changes no byte. -/
theorem settled_cells (f : State → State) (s : State) : cellsOf (settled f s).subch = cellsOf (f s).subch := by
  unfold settled
  exact (forAll_cells _ _ _ (fun sid t => drain_cells sid 9 t)).trans (congrArg cellsOf (resumeCut_subch _ _))

/-! ### The controller -/

@[simp] theorem mcHold_cells (k r s) : cellsOf (mcHold k r s).subch = cellsOf s.subch := by
  unfold mcHold; exact modSch_cells _ _ _ rfl

@[simp] theorem mcArrive_cells (k r s) : cellsOf (mcArrive k r s).subch = cellsOf s.subch := by
  unfold mcArrive; try dsimp only
  repeat' first | (simp [modSch_cells]; done) | split

/-- The requests that were held try again: no byte changes. -/
@[simp] theorem mcRetry_cells (k s) : cellsOf (mcRetry k s).subch = cellsOf s.subch := by
  unfold mcRetry
  exact (forAll_cells _ _ _ (fun r t => mcArrive_cells k r t)).trans (modSch_cells _ _ _ rfl)

@[simp] theorem drainJudge_cells (k s) : cellsOf (drainJudge k s).subch = cellsOf s.subch := by
  unfold drainJudge; exact modSch_cells _ _ _ rfl

@[simp] theorem issueRefresh_cells (k s) : cellsOf (issueRefresh k s).subch = cellsOf s.subch := by
  unfold issueRefresh; try dsimp only
  repeat' first | (simp [modSch_cells]; done) | split

@[simp] theorem refreshDue_cells (k hot s) : cellsOf (refreshDue k hot s).subch = cellsOf s.subch := by
  have h : cellsOf (s.modSch k (fun x => { x with hot := hot, owed := x.owed + 1, refreshAt := s.now })).subch = cellsOf s.subch :=
    modSch_cells _ _ _ rfl
  unfold refreshDue
  generalize s.modSch k (fun x => { x with hot := hot, owed := x.owed + 1, refreshAt := s.now }) = t at h
  dsimp only
  split <;> split <;> first | exact (issueRefresh_cells k t).trans h | exact h

@[simp] theorem repayRefresh_cells (k s) : cellsOf (repayRefresh k s).subch = cellsOf s.subch := by
  unfold repayRefresh; split
  · rfl
  · exact modSch_cells _ _ _ rfl

@[simp] theorem trackDqs_cells (k s) : cellsOf (trackDqs k s).subch = cellsOf s.subch := by
  unfold trackDqs; split
  · exact modSch_cells _ _ _ rfl
  · rfl

@[simp] theorem issueRead_cells (k e s) : cellsOf (issueRead k e s).subch = cellsOf s.subch := by
  unfold issueRead; dsimp only; rw [modSch_cells _ _ _ (by simp only [touchBank_cells]), State_emit_subch, mcCharge_subch]

/-- A queued write changes the bytes that it writes, and no other subchannel's. -/
theorem issueWrite_cells (k e s) : cellsOf (issueWrite k e s).subch = fun j =>
    if j = k then e.segs.foldl (fun m g => memWrites m g.1 g.2) (cellsOf s.subch k) else cellsOf s.subch j := by
  funext j
  show (((mcCharge e _ s).subch.set k _).getD j Subch.reset).cells = _
  rw [Map.getD_set, mcCharge_subch]
  split
  · subst_vars; show List.foldl _ ((mcCharge e _ s).sch j).cells _ = _; rw [cellsOf_sch, mcCharge_subch]
  · rfl

theorem Memory.wf_segs (segs : List (Nat × List Byte)) (m : List Host.Cell) (hm : Memory.wf m = true) :
    Memory.wf (segs.foldl (fun m g => memWrites m g.1 g.2) m) = true := by
  induction segs generalizing m with
  | nil => exact hm
  | cons g t ih => exact ih _ (Memory.wf_memWrites m g.1 g.2 hm)

theorem oldest_mem {es : List McEntry} {e : McEntry} (h : oldest es = some e) : e ∈ es := by
  induction es generalizing e with
  | nil => cases h
  | cons x t ih =>
    unfold oldest at h
    split at h
    · split at h <;> cases h
      · exact List.mem_cons_of_mem _ (ih ‹_›)
      · exact List.mem_cons_self
    · cases h; exact List.mem_cons_self

theorem passedOver_mem {es : List McEntry} {e : McEntry} (h : passedOver es = some e) : e ∈ es :=
  (List.mem_filter.1 (oldest_mem h)).1

theorem hitThenAge_mem {x : Subch} {es : List McEntry} {e : McEntry} (h : hitThenAge x es = some e) : e ∈ es := by
  unfold hitThenAge at h
  split at h
  · cases h; exact (List.mem_filter.1 (oldest_mem ‹_›)).1
  · exact oldest_mem h

theorem writeChoice_mem {x : Subch} {e : McEntry} (h : writeChoice x = some e) : e ∈ x.writeQ := by
  unfold writeChoice at h
  dsimp only at h
  split at h
  · cases h; exact passedOver_mem ‹_›
  · split at h
    · exact hitThenAge_mem h
    · exact (List.mem_filter.1 (hitThenAge_mem h)).1

/-- R253: one command of the controller leaves the bytes as they are, or writes those of one queued write. -/
theorem mcIssue_cells (k s) : cellsOf (mcIssue k s).subch = cellsOf s.subch ∨
    ∃ e ∈ (s.sch k).writeQ, mcIssue k s = issueWrite k e s := by
  unfold mcIssue
  dsimp only
  repeat' split
  all_goals first
    | exact Or.inl (issueRefresh_cells k s)
    | exact Or.inl (issueRead_cells k _ s)
    | exact Or.inl rfl
    | refine Or.inr ⟨_, writeChoice_mem (x := s.sch k) ?_, rfl⟩
  · rename_i h; split at h
    · exact h
    · cases h
  · assumption

/-- Every command of the controller keeps the canonical form. -/
theorem mcIssue_canonical (k s) (h : ∀ j, Memory.wf (cellsOf s.subch j) = true) (j : Nat) :
    Memory.wf (cellsOf (mcIssue k s).subch j) = true := by
  rcases mcIssue_cells k s with e | ⟨e, _, q⟩
  · rw [e]; exact h j
  · rw [q, issueWrite_cells]; dsimp only; split
    · exact Memory.wf_segs _ _ (h k)
    · exact h j

/-- R260: what a retired subchannel hands on keeps the canonical form. -/
theorem Memory.wf_copy (cs : List Host.Cell) (m : List Host.Cell) (hm : Memory.wf m = true) :
    Memory.wf (cs.foldl (fun m c => memWrite m c.1 c.2) m) = true := by
  induction cs generalizing m with
  | nil => exact hm
  | cons c t ih => exact ih _ (Memory.wf_memWrite m c.1 c.2 hm)

/-- A change of a subchannel that keeps its canonical form keeps that of all. -/
theorem modSch_canonical (k : Nat) (f : Subch → Subch) (s : State)
    (hf : ∀ x : Subch, Memory.wf x.cells = true → Memory.wf (f x).cells = true)
    (h : ∀ j, Memory.wf (cellsOf s.subch j) = true) (j : Nat) : Memory.wf (cellsOf (s.modSch k f).subch j) = true := by
  show Memory.wf (((s.subch.set k (f (s.sch k))).getD j Subch.reset).cells) = true
  rw [Map.getD_set]
  split
  · exact hf _ (h k)
  · exact h j

/-- The writes of a queue keep the canonical form. -/
theorem Memory.wf_queue (q : List McEntry) (m : List Host.Cell) (hm : Memory.wf m = true) :
    Memory.wf (q.foldl (fun m e => e.segs.foldl (fun m g => memWrites m g.1 g.2) m) m) = true := by
  induction q generalizing m with
  | nil => exact hm
  | cons e t ih => exact ih _ (Memory.wf_segs e.segs m hm)

/-- R260: the copying of a retired subchannel's stripes keeps the canonical form of every subchannel. -/
theorem copyOut_canonical (k s) (h : ∀ j, Memory.wf (cellsOf s.subch j) = true) (j : Nat) :
    Memory.wf (cellsOf (copyOut k s).subch j) = true := by
  have all : ∀ (xs : List Nat) (g : State → Nat → Subch → Subch) (t : State),
      (∀ t i x, Memory.wf x.cells = true → Memory.wf (g t i x).cells = true) →
      (∀ j, Memory.wf (cellsOf t.subch j) = true) →
      ∀ j, Memory.wf (cellsOf (forAll xs (fun i t => t.modSch i (g t i)) t).subch j) = true := by
    intro xs g
    induction xs with
    | nil => exact fun t _ ht => ht
    | cons x xs ih => exact fun t hg ht => ih _ hg (modSch_canonical x (g t x) t (hg t x) ht)
  have flushed := modSch_canonical k flushSubch s (fun x hx => Memory.wf_queue _ _ hx) h
  unfold copyOut
  generalize s.modSch k flushSubch = t at flushed
  exact all (schInService t) (fun u i => copyStripes u (t.sch k).cells i) t (fun u i x hx => Memory.wf_copy _ _ hx) flushed j

/-! ### Boot -/

theorem volatileReset_subch (p : Power) (s : State) : (volatileReset p s).subch = [] := rfl

theorem cellsOf_nil : cellsOf [] = fun _ => [] := rfl

@[simp] theorem reapply_cells (k s) : cellsOf (reapply k s).subch = cellsOf s.subch := by
  unfold reapply; try dsimp only
  repeat' first | (simp [modSch_cells]; done) | split

@[simp] theorem trainOne_cells (r k s) : cellsOf (trainOne r k s).subch = cellsOf s.subch := by
  unfold trainOne; try dsimp only
  repeat' first | (simp [modSch_cells]; done) | split

@[simp] theorem selftestApply_cells (r s) : cellsOf (selftestApply r s).subch = cellsOf s.subch := by
  unfold selftestApply; dsimp only
  rw [State_setDv_subch, forAll_subch, forAll_subch, forAll_subch, forAll_subch, forAll_subch, forAll_subch]
  · exact forAll_cells _ _ _ (fun k t => trainOne_cells r k t)
  all_goals intros; (repeat' first | (simp; done) | split)

/-- BOOT begins with its subchannels untrained and empty; with TEST_EN their bytes stay. -/
theorem bootEnter_cells (s) : cellsOf (bootEnter s).subch = cellsOf s.subch ∨ cellsOf (bootEnter s).subch = fun _ => [] := by
  unfold bootEnter; dsimp only
  split
  · left; simp
  · right
    rw [State_modBoot_subch, forAll_subch, State_modPower_subch]
    · exact (forAll_cells _ _ _ (fun k t => modSch_cells _ _ _ rfl)).trans rfl
    · intros; simp

@[simp] theorem dramError_cells (k u a l s) : cellsOf (dramError k u a l s).subch = cellsOf s.subch := by
  unfold dramError; try dsimp only
  repeat' first | (simp [modSch_cells]; done) | split

end Sys2Proof.Machine
end

