-- ==== Sys2Proof/Laws/Events.lean ====
section
/-!
SUPPORT. What posting an event may change (R53 to R55, R64, R65, R298), once for every operation on the way, and what it leaves.
-/
set_option linter.unusedSimpArgs false
set_option linter.unusedVariables false
namespace Sys2Proof.Machine
open Sys2Proof

theorem EventsOnly.refl (s : State) : EventsOnly s s :=
  ⟨rfl, ⟨[], by simp⟩, fun _ _ _ _ => rfl, fun _ => rfl, fun _ _ _ => rfl, fun _ => rfl, rfl, fun _ => rfl⟩

theorem EventsOnly.trans {s t u : State} (h : EventsOnly s t) (g : EventsOnly t u) : EventsOnly s u where
  quiet := g.quiet.trans h.quiet
  out := by
    obtain ⟨a, ha⟩ := h.out
    obtain ⟨b, hb⟩ := g.out
    exact ⟨a ++ b, by rw [hb, ha, List.append_assoc]⟩
  dev := fun k h1 h2 h3 => (g.dev k h1 h2 h3).trans (h.dev k h1 h2 h3)
  bar := fun b => (g.bar b).trans (h.bar b)
  obj := fun b k h1 => (g.obj b k h1).trans (h.obj b k h1)
  fn := fun k => (g.fn k).trans (h.fn k)
  moa := g.moa.trans h.moa
  session := fun n => (g.session n).trans (h.session n)

theorem forAll_events {α : Type} (xs : List α) (f : α → State → State) (s : State) (h : ∀ x t, EventsOnly t (f x t)) :
    EventsOnly s (forAll xs f s) := by
  unfold forAll
  induction xs generalizing s with
  | nil => exact EventsOnly.refl s
  | cons x t ih => exact (h x s).trans (ih _)

/-! ### The parts -/

theorem emit_events (s : State) (o : Out) : EventsOnly s (s.emit o) :=
  ⟨rfl, ⟨[o], rfl⟩, fun _ _ _ _ => rfl, fun _ => rfl, fun _ _ _ => rfl, fun _ => rfl, rfl, fun _ => rfl⟩

theorem sched_events (s : State) (q : Sched) : EventsOnly s { s with sched := q } :=
  ⟨rfl, ⟨[], by simp⟩, fun _ _ _ _ => rfl, fun _ => rfl, fun _ _ _ => rfl, fun _ => rfl, rfl, fun _ => rfl⟩

theorem modSched_events (s : State) (f) : EventsOnly s (s.modSched f) := sched_events s _
theorem modThread_events (s : State) (t f) : EventsOnly s (s.modThread t f) := sched_events s _
theorem modCore_events (s : State) (c f) : EventsOnly s (s.modCore c f) := sched_events s _

theorem bump_events (s : State) (i j : Nat) (hj : j < 256) (h : i = 0x2012 ∨ i = 0x9004 ∨ i = 0x9005) : EventsOnly s (s.bump i j) :=
  ⟨State_bump_quiet _ _ _, ⟨[], by simp⟩, fun k h1 h2 h3 => Map.get?_set_of_ne _ _ (by unfold okey; omega), fun _ => rfl,
    fun _ _ _ => rfl, fun _ => rfl, rfl, fun _ => rfl⟩

theorem deq_events (s : State) (a b : Nat) : EventsOnly s { s with deqTail := a, deqLost := b } :=
  ⟨rfl, ⟨[], by simp⟩, fun _ _ _ _ => rfl, fun _ => rfl, fun _ _ _ => rfl, fun _ => rfl, rfl, fun _ => rfl⟩

theorem modFn_events (s : State) (k f) (h : ∀ x, (f x).still = x.still) : EventsOnly s (s.modFn k f) :=
  ⟨State_modFn_quiet _ _ _, ⟨[], by simp [State.modFn]⟩, fun _ _ _ _ => rfl, fun _ => rfl, fun _ _ _ => rfl, fun j => by
    by_cases hj : j = k
    · subst hj; rw [fn_modFn_self, h]
    · rw [fn_modFn_of_ne _ _ hj], rfl, fun _ => rfl⟩

theorem modBar_events (s : State) (b f) (h : ∀ x, (f x).still = x.still)
    (ho : ∀ x k, k / 256 ≠ 0x2004 → (f x).obj.get? k = x.obj.get? k) : EventsOnly s (s.modBar b f) :=
  ⟨State_modBar_quiet _ _ _, ⟨[], by simp [State.modBar]⟩, fun _ _ _ _ => rfl, fun j => by
    by_cases hj : j = b
    · subst hj; rw [bar_modBar_self, h]
    · rw [bar_modBar_of_ne _ _ hj],
    fun j k hk => by
      by_cases hj : j = b
      · subst hj; rw [bar_modBar_self, ho _ _ hk]
      · rw [bar_modBar_of_ne _ _ hj],
    fun _ => rfl, rfl, fun _ => rfl⟩

theorem modIntake_events (s : State) (b f) (h : ∀ x, { f x with eqTail := 0, eqLost := 0 } = { x with eqTail := 0, eqLost := 0 }) :
    EventsOnly s (s.modIntake b f) :=
  modBar_events s b _ (fun x => congrArg (fun i => { x with obj := [], intake := i }) (h x.intake)) (fun _ _ _ => rfl)

theorem modSession_events (s : State) (n f) (h : ∀ x, (f x).still = x.still) : EventsOnly s (s.modSession n f) := by
  unfold State.modSession
  split
  · rename_i ss hs
    refine ⟨rfl, ⟨[], by simp⟩, fun _ _ _ _ => rfl, fun _ => rfl, fun _ _ _ => rfl, fun _ => rfl, rfl, fun j => ?_⟩
    dsimp only
    by_cases hj : j = n
    · subst hj; rw [Map.get?_set_self, hs]; exact congrArg some (h ss)
    · rw [Map.get?_set_of_ne _ _ hj]
  · exact EventsOnly.refl s

/-! ### Delivery -/

theorem signal_events (k cls s) : EventsOnly s (signal k cls s) := by
  unfold signal; dsimp only; split
  · exact emit_events _ _
  · exact modFn_events _ _ _ (fun _ => rfl)

theorem eqWrite_events (b rec cls s) : EventsOnly s (eqWrite b rec cls s) := by
  unfold eqWrite; dsimp only
  refine EventsOnly.trans ?_ (signal_events _ _ _)
  exact EventsOnly.trans (emit_events _ _) (modIntake_events _ _ _ (fun _ => rfl))

theorem eqFlush_events (b s) : EventsOnly s (eqFlush b s) := by
  unfold eqFlush; dsimp only; split
  · exact (eqWrite_events _ _ _ _).trans (modIntake_events _ _ _ (fun _ => rfl))
  · exact EventsOnly.refl s

theorem bumpB_events (s : State) (b : Nat) : EventsOnly s (s.bumpB b 0x2004 0) := by
  unfold State.bumpB State.bumpBN State.setBo
  exact modBar_events _ _ _ (fun _ => rfl) (fun _ k hk => Map.get?_set_of_ne _ _ (by unfold okey; omega))

theorem eqPush_events (b rec cls s) : EventsOnly s (eqPush b rec cls s) := by
  unfold eqPush; dsimp only
  refine (eqFlush_events b s).trans ?_
  split
  · exact eqWrite_events _ _ _ _
  · exact (bumpB_events _ _).trans (modIntake_events _ _ _ (fun _ => rfl))

theorem deqWrite_events (rec cls s) : EventsOnly s (deqWrite rec cls s) := by
  unfold deqWrite; dsimp only
  exact ((emit_events s _).trans (deq_events _ _ _)).trans (signal_events _ _ _)

theorem deqFlush_events (s) : EventsOnly s (deqFlush s) := by
  unfold deqFlush; split
  · exact (deqWrite_events _ _ _).trans (deq_events _ _ _)
  · exact EventsOnly.refl s

theorem deqPush_events (rec cls s) : EventsOnly s (deqPush rec cls s) := by
  unfold deqPush; dsimp only
  refine (deqFlush_events s).trans ?_
  split
  · exact deqWrite_events _ _ _
  · exact (bump_events _ _ _ (by omega) (.inl rfl)).trans (deq_events _ _ _)

theorem moaEventSend_events (sid ss rec s) : EventsOnly s (moaEventSend sid ss rec s) := by
  unfold moaEventSend moaSend; dsimp only
  exact (emit_events _ _).trans (modSession_events _ _ _ (fun _ => rfl))

theorem moaEvent_events (sid rec s) : EventsOnly s (moaEvent sid rec s) := by
  unfold moaEvent; split
  · exact EventsOnly.refl s
  · split
    · exact moaEventSend_events _ _ _ _
    · exact modSession_events _ _ _ (fun _ => rfl)

theorem deliverAll_events (e s) : EventsOnly s (deliverAll e s) := by
  unfold deliverAll; dsimp only
  have h : ∀ (t : State) xs, EventsOnly s (forAll xs (fun (p : Nat × Session) u =>
      if sessionTakes p.2 e then moaEvent p.1 (sessionRecord t.time p.2 e) u else u) s) := fun t xs =>
    forAll_events _ _ _ (fun x u => by
      split
      · exact moaEvent_events _ _ _
      · exact EventsOnly.refl u)
  cases hb : e.bar with
  | none => exact (h _ _).trans (deqPush_events _ _ _)
  | some b =>
    dsimp only
    split
    · exact ((h _ _).trans (eqPush_events _ _ _ _)).trans (deqPush_events _ _ _)
    · exact (h _ _).trans (eqPush_events _ _ _ _)

theorem deliver_events (e s) : EventsOnly s (deliver e s) := by
  unfold deliver; split
  · exact deliverAll_events _ _
  · exact EventsOnly.refl s

/-! ### The scheduler -/

theorem chargeCore_events (c s) : EventsOnly s (chargeCore c s) := by
  unfold chargeCore; dsimp only; split
  · exact modCore_events _ _ _
  · exact (modSched_events _ _).trans (modCore_events _ _ _)

theorem chargeAll_events (s) : EventsOnly s (chargeAll s) := forAll_events _ _ _ chargeCore_events

theorem runOn_events (c t s) : EventsOnly s (runOn c t s) := by
  unfold runOn; dsimp only
  refine ((forAll_events _ _ _ (fun k u => ?_)).trans (modThread_events _ _ _)).trans (modCore_events _ _ _)
  split
  · exact modCore_events _ _ _
  · exact EventsOnly.refl u

theorem dispatch_events (s) : EventsOnly s (dispatch s) := by
  refine forAll_events _ _ _ (fun c u => ?_)
  split
  · split
    · exact runOn_events _ _ _
    · exact EventsOnly.refl u
  · exact EventsOnly.refl u

theorem preempt_events (c s) : EventsOnly s (preempt c s).2 := by
  unfold preempt; dsimp only
  refine (chargeCore_events c s).trans ?_
  split
  · exact EventsOnly.refl _
  · split
    · dsimp only
      refine EventsOnly.trans ?_ (modSched_events _ _)
      refine EventsOnly.trans ?_ (modCore_events _ _ _)
      exact EventsOnly.trans (modThread_events _ _ _) (modThread_events _ _ _)
    · split
      · dsimp only
        refine EventsOnly.trans ?_ (modSched_events _ _)
        refine EventsOnly.trans ?_ (modCore_events _ _ _)
        refine EventsOnly.trans ?_ (modThread_events _ _ _)
        refine EventsOnly.trans ?_ (bump_events _ _ _ (by omega) (.inr (.inl rfl)))
        exact EventsOnly.trans (modThread_events _ _ _) (modCore_events _ _ _)
      · dsimp only
        exact EventsOnly.trans (modCore_events _ _ _) (bump_events _ _ _ (by omega) (.inr (.inl rfl)))

theorem makeReady_events (t s) : EventsOnly s (makeReady t s) := by
  unfold makeReady; dsimp only
  generalize hu : dispatch (chargeAll _) = u
  have h : EventsOnly s u := by
    subst hu
    refine EventsOnly.trans ?_ (dispatch_events _)
    refine EventsOnly.trans ?_ (chargeAll_events _)
    exact EventsOnly.trans (modThread_events _ _ _) (modSched_events _ _)
  refine h.trans ?_
  split
  · exact EventsOnly.refl _
  · split
    · split
      · split
        · exact ((preempt_events _ _).trans (runOn_events _ _ _)).trans (dispatch_events _)
        · exact preempt_events _ _
      · exact EventsOnly.refl _
    · split
      · split
        · exact (modCore_events _ _ _).trans (emit_events _ _)
        · exact EventsOnly.refl _
      · exact EventsOnly.refl _

theorem setFlag_events (t f s) : EventsOnly s (setFlag t f s) := by
  unfold setFlag; dsimp only; split
  · exact EventsOnly.refl s
  · split
    · exact (modThread_events _ _ _).trans (makeReady_events _ _)
    · exact modThread_events _ _ _

theorem postFlag_events (t f s) : EventsOnly s (postFlag t f s) := by
  unfold postFlag; split
  · exact bump_events _ _ _ (by omega) (.inr (.inr rfl))
  · exact setFlag_events _ _ _

theorem raiseQuiet_events (n s) : EventsOnly s (raiseQuiet n s) := by
  unfold raiseQuiet; dsimp only; split
  · exact setFlag_events _ _ _
  · exact EventsOnly.refl s

theorem judgeWait_events (n s) : EventsOnly s (judgeWait n s) := by
  induction n generalizing s with
  | zero => exact EventsOnly.refl s
  | succ n ih =>
    unfold judgeWait; dsimp only; split
    · exact EventsOnly.refl s
    · exact (((modSched_events s _).trans (deliver_events _ _)).trans (raiseQuiet_events _ _)).trans (ih _)

theorem raiseSource_events (n s) : EventsOnly s (raiseSource n s) := (raiseQuiet_events n s).trans (judgeWait_events _ _)

theorem post_events (e s) : EventsOnly s (post e s) := (deliver_events e s).trans (raiseSource_events _ _)

theorem postD_events (ev flags data s) : EventsOnly s (postD ev flags data s) := post_events _ _

theorem postB_events (ev b page flags data s) : EventsOnly s (postB ev b page flags data s) := post_events _ _

theorem pairSend_events (r s) : EventsOnly s (pairSend r s) := by
  unfold pairSend; split
  · exact emit_events _ _
  · exact EventsOnly.refl s

theorem mirror_events (m s) : EventsOnly s (mirror m s) := by
  unfold mirror; split
  · exact pairSend_events _ _
  · exact EventsOnly.refl s

/-! ### What is left as it was -/

theorem EventsOnly.dv {s t : State} (h : EventsOnly s t) (i j : Nat) (hj : j < 256)
    (h1 : i ≠ 0x2012) (h2 : i ≠ 0x9004) (h3 : i ≠ 0x9005) : t.dv i j = s.dv i j := by
  have e : okey i j / 256 = i := by unfold okey; omega
  unfold State.dv slotIn
  rw [h.dev (okey i j) (by omega) (by omega) (by omega)]

theorem EventsOnly.bo {s t : State} (h : EventsOnly s t) (b i j : Nat) (hj : j < 256) (h1 : i ≠ 0x2004) :
    t.bo b i j = s.bo b i j := by
  have e : okey i j / 256 = i := by unfold okey; omega
  unfold State.bo slotIn
  rw [h.obj b (okey i j) (by omega)]

theorem EventsOnly.now {s t : State} (h : EventsOnly s t) : t.now = s.now := (congrArg State.now h.quiet : t.quiet.now = s.quiet.now)
theorem EventsOnly.pending {s t : State} (h : EventsOnly s t) : t.pending = s.pending := (congrArg State.pending h.quiet : t.quiet.pending = s.quiet.pending)
theorem EventsOnly.freeCount {s t : State} (h : EventsOnly s t) : t.freeCount = s.freeCount := (congrArg State.freeCount h.quiet : t.quiet.freeCount = s.quiet.freeCount)
theorem EventsOnly.devState {s t : State} (h : EventsOnly s t) : t.devState = s.devState := (congrArg State.devState h.quiet : t.quiet.devState = s.quiet.devState)
theorem EventsOnly.printAt {s t : State} (h : EventsOnly s t) : t.printAt = s.printAt := (congrArg State.printAt h.quiet : t.quiet.printAt = s.quiet.printAt)
theorem EventsOnly.deqHead {s t : State} (h : EventsOnly s t) : t.deqHead = s.deqHead := (congrArg State.deqHead h.quiet : t.quiet.deqHead = s.quiet.deqHead)
theorem EventsOnly.clock {s t : State} (h : EventsOnly s t) : t.clock = s.clock := (congrArg State.clock h.quiet : t.quiet.clock = s.quiet.clock)
theorem EventsOnly.net {s t : State} (h : EventsOnly s t) : t.net = s.net := (congrArg State.net h.quiet : t.quiet.net = s.quiet.net)
theorem EventsOnly.encs {s t : State} (h : EventsOnly s t) : t.encs = s.encs := (congrArg State.encs h.quiet : t.quiet.encs = s.quiet.encs)
theorem EventsOnly.trig {s t : State} (h : EventsOnly s t) : t.trig = s.trig := (congrArg State.trig h.quiet : t.quiet.trig = s.quiet.trig)
theorem EventsOnly.marks {s t : State} (h : EventsOnly s t) : t.marks = s.marks := (congrArg State.marks h.quiet : t.quiet.marks = s.quiet.marks)
theorem EventsOnly.ports {s t : State} (h : EventsOnly s t) : t.ports = s.ports := (congrArg State.ports h.quiet : t.quiet.ports = s.quiet.ports)
theorem EventsOnly.drays {s t : State} (h : EventsOnly s t) : t.drays = s.drays := (congrArg State.drays h.quiet : t.quiet.drays = s.quiet.drays)
theorem EventsOnly.supplies {s t : State} (h : EventsOnly s t) : t.supplies = s.supplies := (congrArg State.supplies h.quiet : t.quiet.supplies = s.quiet.supplies)
theorem EventsOnly.lastTrip {s t : State} (h : EventsOnly s t) : t.lastTrip = s.lastTrip := (congrArg State.lastTrip h.quiet : t.quiet.lastTrip = s.quiet.lastTrip)
theorem EventsOnly.safeCause {s t : State} (h : EventsOnly s t) : t.safeCause = s.safeCause := (congrArg State.safeCause h.quiet : t.quiet.safeCause = s.quiet.safeCause)
theorem EventsOnly.axes {s t : State} (h : EventsOnly s t) : t.axes = s.axes := (congrArg State.axes h.quiet : t.quiet.axes = s.quiet.axes)
theorem EventsOnly.ssis {s t : State} (h : EventsOnly s t) : t.ssis = s.ssis := (congrArg State.ssis h.quiet : t.quiet.ssis = s.quiet.ssis)
theorem EventsOnly.cmps {s t : State} (h : EventsOnly s t) : t.cmps = s.cmps := (congrArg State.cmps h.quiet : t.quiet.cmps = s.quiet.cmps)
theorem EventsOnly.cams {s t : State} (h : EventsOnly s t) : t.cams = s.cams := (congrArg State.cams h.quiet : t.quiet.cams = s.quiet.cams)
theorem EventsOnly.health {s t : State} (h : EventsOnly s t) : t.health = s.health := (congrArg State.health h.quiet : t.quiet.health = s.quiet.health)
theorem EventsOnly.engines {s t : State} (h : EventsOnly s t) : t.engines = s.engines := (congrArg State.engines h.quiet : t.quiet.engines = s.quiet.engines)
theorem EventsOnly.deflaters {s t : State} (h : EventsOnly s t) : t.deflaters = s.deflaters := (congrArg State.deflaters h.quiet : t.quiet.deflaters = s.quiet.deflaters)
theorem EventsOnly.place {s t : State} (h : EventsOnly s t) : t.place = s.place := (congrArg State.place h.quiet : t.quiet.place = s.quiet.place)
theorem EventsOnly.deficit {s t : State} (h : EventsOnly s t) : t.deficit = s.deficit := (congrArg State.deficit h.quiet : t.quiet.deficit = s.quiet.deficit)
theorem EventsOnly.subch {s t : State} (h : EventsOnly s t) : t.subch = s.subch := (congrArg State.subch h.quiet : t.quiet.subch = s.quiet.subch)
theorem EventsOnly.stripeGen {s t : State} (h : EventsOnly s t) : t.stripeGen = s.stripeGen := (congrArg State.stripeGen h.quiet : t.quiet.stripeGen = s.quiet.stripeGen)
theorem EventsOnly.sram {s t : State} (h : EventsOnly s t) : t.sram = s.sram := (congrArg State.sram h.quiet : t.quiet.sram = s.quiet.sram)
theorem EventsOnly.pair {s t : State} (h : EventsOnly s t) : t.pair = s.pair := (congrArg State.pair h.quiet : t.quiet.pair = s.quiet.pair)
theorem EventsOnly.boot {s t : State} (h : EventsOnly s t) : t.boot = s.boot := (congrArg State.boot h.quiet : t.quiet.boot = s.quiet.boot)
theorem EventsOnly.power {s t : State} (h : EventsOnly s t) : t.power = s.power := (congrArg State.power h.quiet : t.quiet.power = s.quiet.power)
theorem EventsOnly.trim {s t : State} (h : EventsOnly s t) : t.trim = s.trim := (congrArg State.trim h.quiet : t.quiet.trim = s.quiet.trim)
theorem EventsOnly.mram {s t : State} (h : EventsOnly s t) : t.mram = s.mram := (congrArg State.mram h.quiet : t.quiet.mram = s.quiet.mram)
theorem EventsOnly.errLog {s t : State} (h : EventsOnly s t) : t.errLog = s.errLog := (congrArg State.errLog h.quiet : t.quiet.errLog = s.quiet.errLog)
theorem EventsOnly.logSeq {s t : State} (h : EventsOnly s t) : t.logSeq = s.logSeq := (congrArg State.logSeq h.quiet : t.quiet.logSeq = s.quiet.logSeq)
theorem EventsOnly.missLog {s t : State} (h : EventsOnly s t) : t.missLog = s.missLog := (congrArg State.missLog h.quiet : t.quiet.missLog = s.quiet.missLog)
theorem EventsOnly.missNext {s t : State} (h : EventsOnly s t) : t.missNext = s.missNext := (congrArg State.missNext h.quiet : t.quiet.missNext = s.quiet.missNext)
theorem EventsOnly.webSlow {s t : State} (h : EventsOnly s t) : t.webSlow = s.webSlow := (congrArg State.webSlow h.quiet : t.quiet.webSlow = s.quiet.webSlow)
theorem EventsOnly.test {s t : State} (h : EventsOnly s t) : t.test = s.test := (congrArg State.test h.quiet : t.quiet.test = s.quiet.test)
theorem EventsOnly.pins {s t : State} (h : EventsOnly s t) : t.pins = s.pins := (congrArg State.pins h.quiet : t.quiet.pins = s.quiet.pins)

theorem EventsOnly.bar_vb {s t : State} (h : EventsOnly s t) (b : Nat) : (t.bar b).vb = (s.bar b).vb := (congrArg Bar.vb (h.bar b) : (t.bar b).still.vb = (s.bar b).still.vb)
theorem EventsOnly.bar_waiting {s t : State} (h : EventsOnly s t) (b : Nat) : (t.bar b).waiting = (s.bar b).waiting := (congrArg Bar.waiting (h.bar b) : (t.bar b).still.waiting = (s.bar b).still.waiting)
theorem EventsOnly.bar_live {s t : State} (h : EventsOnly s t) (b : Nat) : (t.bar b).live = (s.bar b).live := (congrArg Bar.live (h.bar b) : (t.bar b).still.live = (s.bar b).still.live)
theorem EventsOnly.bar_pend {s t : State} (h : EventsOnly s t) (b : Nat) : (t.bar b).pend = (s.bar b).pend := (congrArg Bar.pend (h.bar b) : (t.bar b).still.pend = (s.bar b).still.pend)
theorem EventsOnly.bar_opn {s t : State} (h : EventsOnly s t) (b : Nat) : (t.bar b).opn = (s.bar b).opn := (congrArg Bar.opn (h.bar b) : (t.bar b).still.opn = (s.bar b).still.opn)
theorem EventsOnly.bar_openHost {s t : State} (h : EventsOnly s t) (b : Nat) : (t.bar b).openHost = (s.bar b).openHost := (congrArg Bar.openHost (h.bar b) : (t.bar b).still.openHost = (s.bar b).still.openHost)
theorem EventsOnly.bar_openDev {s t : State} (h : EventsOnly s t) (b : Nat) : (t.bar b).openDev = (s.bar b).openDev := (congrArg Bar.openDev (h.bar b) : (t.bar b).still.openDev = (s.bar b).still.openDev)
theorem EventsOnly.bar_gen {s t : State} (h : EventsOnly s t) (b : Nat) : (t.bar b).gen = (s.bar b).gen := (congrArg Bar.gen (h.bar b) : (t.bar b).still.gen = (s.bar b).still.gen)
theorem EventsOnly.bar_heldReq {s t : State} (h : EventsOnly s t) (b : Nat) : (t.bar b).heldReq = (s.bar b).heldReq := (congrArg Bar.heldReq (h.bar b) : (t.bar b).still.heldReq = (s.bar b).still.heldReq)
theorem EventsOnly.bar_keys {s t : State} (h : EventsOnly s t) (b : Nat) : (t.bar b).keys = (s.bar b).keys := (congrArg Bar.keys (h.bar b) : (t.bar b).still.keys = (s.bar b).still.keys)
theorem EventsOnly.bar_pages {s t : State} (h : EventsOnly s t) (b : Nat) : (t.bar b).pages = (s.bar b).pages := (congrArg Bar.pages (h.bar b) : (t.bar b).still.pages = (s.bar b).still.pages)
theorem EventsOnly.bar_scan {s t : State} (h : EventsOnly s t) (b : Nat) : (t.bar b).scan = (s.bar b).scan := (congrArg Bar.scan (h.bar b) : (t.bar b).still.scan = (s.bar b).still.scan)
theorem EventsOnly.bar_log {s t : State} (h : EventsOnly s t) (b : Nat) : (t.bar b).log = (s.bar b).log := (congrArg Bar.log (h.bar b) : (t.bar b).still.log = (s.bar b).still.log)
theorem EventsOnly.bar_discarded {s t : State} (h : EventsOnly s t) (b : Nat) : (t.bar b).discarded = (s.bar b).discarded := (congrArg Bar.discarded (h.bar b) : (t.bar b).still.discarded = (s.bar b).still.discarded)
theorem EventsOnly.bar_joinPage {s t : State} (h : EventsOnly s t) (b : Nat) : (t.bar b).joinPage = (s.bar b).joinPage := (congrArg Bar.joinPage (h.bar b) : (t.bar b).still.joinPage = (s.bar b).still.joinPage)
theorem EventsOnly.bar_mismatchFrom {s t : State} (h : EventsOnly s t) (b : Nat) : (t.bar b).mismatchFrom = (s.bar b).mismatchFrom := (congrArg Bar.mismatchFrom (h.bar b) : (t.bar b).still.mismatchFrom = (s.bar b).still.mismatchFrom)
theorem EventsOnly.bar_mismatchDigests {s t : State} (h : EventsOnly s t) (b : Nat) : (t.bar b).mismatchDigests = (s.bar b).mismatchDigests := (congrArg Bar.mismatchDigests (h.bar b) : (t.bar b).still.mismatchDigests = (s.bar b).still.mismatchDigests)
theorem EventsOnly.bar_peerSeal {s t : State} (h : EventsOnly s t) (b : Nat) : (t.bar b).peerSeal = (s.bar b).peerSeal := (congrArg Bar.peerSeal (h.bar b) : (t.bar b).still.peerSeal = (s.bar b).still.peerSeal)
theorem EventsOnly.intake_wqTail {s t : State} (h : EventsOnly s t) (b : Nat) : (t.bar b).intake.wqTail = (s.bar b).intake.wqTail := (congrArg (fun x : Bar => x.intake.wqTail) (h.bar b) : (t.bar b).still.intake.wqTail = (s.bar b).still.intake.wqTail)
theorem EventsOnly.intake_wqHead {s t : State} (h : EventsOnly s t) (b : Nat) : (t.bar b).intake.wqHead = (s.bar b).intake.wqHead := (congrArg (fun x : Bar => x.intake.wqHead) (h.bar b) : (t.bar b).still.intake.wqHead = (s.bar b).still.intake.wqHead)
theorem EventsOnly.intake_tailBad {s t : State} (h : EventsOnly s t) (b : Nat) : (t.bar b).intake.tailBad = (s.bar b).intake.tailBad := (congrArg (fun x : Bar => x.intake.tailBad) (h.bar b) : (t.bar b).still.intake.tailBad = (s.bar b).still.intake.tailBad)
theorem EventsOnly.intake_fetchIdx {s t : State} (h : EventsOnly s t) (b : Nat) : (t.bar b).intake.fetchIdx = (s.bar b).intake.fetchIdx := (congrArg (fun x : Bar => x.intake.fetchIdx) (h.bar b) : (t.bar b).still.intake.fetchIdx = (s.bar b).still.intake.fetchIdx)
theorem EventsOnly.intake_inflight {s t : State} (h : EventsOnly s t) (b : Nat) : (t.bar b).intake.inflight = (s.bar b).intake.inflight := (congrArg (fun x : Bar => x.intake.inflight) (h.bar b) : (t.bar b).still.intake.inflight = (s.bar b).still.intake.inflight)
theorem EventsOnly.intake_expect {s t : State} (h : EventsOnly s t) (b : Nat) : (t.bar b).intake.expect = (s.bar b).intake.expect := (congrArg (fun x : Bar => x.intake.expect) (h.bar b) : (t.bar b).still.intake.expect = (s.bar b).still.intake.expect)
theorem EventsOnly.intake_pageHold {s t : State} (h : EventsOnly s t) (b : Nat) : (t.bar b).intake.pageHold = (s.bar b).intake.pageHold := (congrArg (fun x : Bar => x.intake.pageHold) (h.bar b) : (t.bar b).still.intake.pageHold = (s.bar b).still.intake.pageHold)
theorem EventsOnly.intake_calderaFull {s t : State} (h : EventsOnly s t) (b : Nat) : (t.bar b).intake.calderaFull = (s.bar b).intake.calderaFull := (congrArg (fun x : Bar => x.intake.calderaFull) (h.bar b) : (t.bar b).still.intake.calderaFull = (s.bar b).still.intake.calderaFull)
theorem EventsOnly.intake_overQuota {s t : State} (h : EventsOnly s t) (b : Nat) : (t.bar b).intake.overQuota = (s.bar b).intake.overQuota := (congrArg (fun x : Bar => x.intake.overQuota) (h.bar b) : (t.bar b).still.intake.overQuota = (s.bar b).still.intake.overQuota)
theorem EventsOnly.intake_sramOver {s t : State} (h : EventsOnly s t) (b : Nat) : (t.bar b).intake.sramOver = (s.bar b).intake.sramOver := (congrArg (fun x : Bar => x.intake.sramOver) (h.bar b) : (t.bar b).still.intake.sramOver = (s.bar b).still.intake.sramOver)
theorem EventsOnly.intake_eqHead {s t : State} (h : EventsOnly s t) (b : Nat) : (t.bar b).intake.eqHead = (s.bar b).intake.eqHead := (congrArg (fun x : Bar => x.intake.eqHead) (h.bar b) : (t.bar b).still.intake.eqHead = (s.bar b).still.intake.eqHead)
theorem EventsOnly.intake_djTail {s t : State} (h : EventsOnly s t) (b : Nat) : (t.bar b).intake.djTail = (s.bar b).intake.djTail := (congrArg (fun x : Bar => x.intake.djTail) (h.bar b) : (t.bar b).still.intake.djTail = (s.bar b).still.intake.djTail)
theorem EventsOnly.intake_djHead {s t : State} (h : EventsOnly s t) (b : Nat) : (t.bar b).intake.djHead = (s.bar b).intake.djHead := (congrArg (fun x : Bar => x.intake.djHead) (h.bar b) : (t.bar b).still.intake.djHead = (s.bar b).still.intake.djHead)
theorem EventsOnly.intake_chainTail {s t : State} (h : EventsOnly s t) (b : Nat) : (t.bar b).intake.chainTail = (s.bar b).intake.chainTail := (congrArg (fun x : Bar => x.intake.chainTail) (h.bar b) : (t.bar b).still.intake.chainTail = (s.bar b).still.intake.chainTail)
theorem EventsOnly.intake_chainBufs {s t : State} (h : EventsOnly s t) (b : Nat) : (t.bar b).intake.chainBufs = (s.bar b).intake.chainBufs := (congrArg (fun x : Bar => x.intake.chainBufs) (h.bar b) : (t.bar b).still.intake.chainBufs = (s.bar b).still.intake.chainBufs)
theorem EventsOnly.intake_jobs {s t : State} (h : EventsOnly s t) (b : Nat) : (t.bar b).intake.jobs = (s.bar b).intake.jobs := (congrArg (fun x : Bar => x.intake.jobs) (h.bar b) : (t.bar b).still.intake.jobs = (s.bar b).still.intake.jobs)
theorem EventsOnly.intake_audit {s t : State} (h : EventsOnly s t) (b : Nat) : (t.bar b).intake.audit = (s.bar b).intake.audit := (congrArg (fun x : Bar => x.intake.audit) (h.bar b) : (t.bar b).still.intake.audit = (s.bar b).still.intake.audit)
theorem EventsOnly.fn_own {s t : State} (h : EventsOnly s t) (k : Nat) : (t.fn k).own = (s.fn k).own := (congrArg Fn.own (h.fn k) : (t.fn k).still.own = (s.fn k).still.own)
theorem EventsOnly.fn_bme {s t : State} (h : EventsOnly s t) (k : Nat) : (t.fn k).bme = (s.fn k).bme := (congrArg Fn.bme (h.fn k) : (t.fn k).still.bme = (s.fn k).still.bme)
theorem EventsOnly.fn_latch {s t : State} (h : EventsOnly s t) (k : Nat) : (t.fn k).latch = (s.fn k).latch := (congrArg Fn.latch (h.fn k) : (t.fn k).still.latch = (s.fn k).still.latch)
theorem EventsOnly.fn_held {s t : State} (h : EventsOnly s t) (k : Nat) : (t.fn k).held = (s.fn k).held := (congrArg Fn.held (h.fn k) : (t.fn k).still.held = (s.fn k).still.held)
theorem EventsOnly.fn_chans {s t : State} (h : EventsOnly s t) (k : Nat) : (t.fn k).chans = (s.fn k).chans := (congrArg Fn.chans (h.fn k) : (t.fn k).still.chans = (s.fn k).still.chans)
theorem EventsOnly.moa_challenges {s t : State} (h : EventsOnly s t) : t.moa.challenges = s.moa.challenges := (congrArg Moa.challenges h.moa : t.moa.still.challenges = s.moa.still.challenges)
theorem EventsOnly.moa_fails {s t : State} (h : EventsOnly s t) : t.moa.fails = s.moa.fails := (congrArg Moa.fails h.moa : t.moa.still.fails = s.moa.still.fails)
theorem EventsOnly.moa_lockout {s t : State} (h : EventsOnly s t) : t.moa.lockout = s.moa.lockout := (congrArg Moa.lockout h.moa : t.moa.still.lockout = s.moa.still.lockout)
theorem EventsOnly.port {s t : State} (h : EventsOnly s t) (k : Nat) : t.port k = s.port k := by unfold State.port; rw [h.ports]
theorem EventsOnly.enc {s t : State} (h : EventsOnly s t) (k : Nat) : t.enc k = s.enc k := by unfold State.enc; rw [h.encs]
theorem EventsOnly.mark {s t : State} (h : EventsOnly s t) (k : Nat) : t.mark k = s.mark k := by unfold State.mark; rw [h.marks]
theorem EventsOnly.dray {s t : State} (h : EventsOnly s t) (k : Nat) : t.dray k = s.dray k := by unfold State.dray; rw [h.drays]
theorem EventsOnly.supply {s t : State} (h : EventsOnly s t) (k : Nat) : t.supply k = s.supply k := by unfold State.supply; rw [h.supplies]
theorem EventsOnly.axis {s t : State} (h : EventsOnly s t) (k : Nat) : t.axis k = s.axis k := by unfold State.axis; rw [h.axes]
theorem EventsOnly.ssi {s t : State} (h : EventsOnly s t) (k : Nat) : t.ssi k = s.ssi k := by unfold State.ssi; rw [h.ssis]
theorem EventsOnly.cmp {s t : State} (h : EventsOnly s t) (k : Nat) : t.cmp k = s.cmp k := by unfold State.cmp; rw [h.cmps]
theorem EventsOnly.cam {s t : State} (h : EventsOnly s t) (k : Nat) : t.cam k = s.cam k := by unfold State.cam; rw [h.cams]
theorem EventsOnly.engine {s t : State} (h : EventsOnly s t) (k : Nat) : t.engine k = s.engine k := by unfold State.engine; rw [h.engines]
theorem EventsOnly.sch {s t : State} (h : EventsOnly s t) (k : Nat) : t.sch k = s.sch k := by unfold State.sch; rw [h.subch]

end Sys2Proof.Machine
end

