-- ==== Sys2Proof/Laws/Loader.lean ====
section
/-!
SUPPORT. The operations that leave the loader and its rollback counter alone (R308 to R310), one lemma each.
-/
set_option linter.unusedSimpArgs false
set_option linter.unusedVariables false
namespace Sys2Proof.Machine
open Sys2Proof

@[simp] theorem forAll_boot {α : Type} (xs : List α) (f : α → State → State) (s : State)
    (h : ∀ x t, (f x t).boot = t.boot) : (forAll xs f s).boot = s.boot := forAll_keeps State.boot xs f s h

theorem quiet_to_boot {s t : State} (h : t.quiet = s.quiet) : t.boot = s.boot := (congrArg State.boot h : t.quiet.boot = s.quiet.boot)

@[simp] theorem State_modBar_boot : ∀ s x1 x2, (State.modBar s x1 x2).boot = s.boot := fun s x1 x2 => quiet_to_boot (State_modBar_quiet _ _ _)
@[simp] theorem State_modPort_boot : ∀ s x1 x2, (State.modPort s x1 x2).boot = s.boot := by intros; unfold State.modPort; simp
@[simp] theorem State_modFn_boot : ∀ s x1 x2, (State.modFn s x1 x2).boot = s.boot := fun s x1 x2 => quiet_to_boot (State_modFn_quiet _ _ _)
@[simp] theorem State_modEnc_boot : ∀ s x1 x2, (State.modEnc s x1 x2).boot = s.boot := by intros; unfold State.modEnc; simp
@[simp] theorem State_modMark_boot : ∀ s x1 x2, (State.modMark s x1 x2).boot = s.boot := by intros; unfold State.modMark; simp
@[simp] theorem State_modDray_boot : ∀ s x1 x2, (State.modDray s x1 x2).boot = s.boot := by intros; unfold State.modDray; simp
@[simp] theorem State_modSupply_boot : ∀ s x1 x2, (State.modSupply s x1 x2).boot = s.boot := by intros; unfold State.modSupply; simp
@[simp] theorem State_modAxis_boot : ∀ s x1 x2, (State.modAxis s x1 x2).boot = s.boot := by intros; unfold State.modAxis; simp
@[simp] theorem State_modSsi_boot : ∀ s x1 x2, (State.modSsi s x1 x2).boot = s.boot := by intros; unfold State.modSsi; simp
@[simp] theorem State_modCmp_boot : ∀ s x1 x2, (State.modCmp s x1 x2).boot = s.boot := by intros; unfold State.modCmp; simp
@[simp] theorem State_modCam_boot : ∀ s x1 x2, (State.modCam s x1 x2).boot = s.boot := by intros; unfold State.modCam; simp
@[simp] theorem State_modEngine_boot : ∀ s x1 x2, (State.modEngine s x1 x2).boot = s.boot := by intros; unfold State.modEngine; simp
@[simp] theorem State_modSch_boot : ∀ s x1 x2, (State.modSch s x1 x2).boot = s.boot := by intros; unfold State.modSch; simp
@[simp] theorem State_modThread_boot : ∀ s x1 x2, (State.modThread s x1 x2).boot = s.boot := fun s x1 x2 => quiet_to_boot (State_modThread_quiet _ _ _)
@[simp] theorem State_modFlow_boot : ∀ s x1 x2, (State.modFlow s x1 x2).boot = s.boot := fun s x1 x2 => quiet_to_boot (State_modFlow_quiet _ _ _)
@[simp] theorem State_modCore_boot : ∀ s x1 x2, (State.modCore s x1 x2).boot = s.boot := fun s x1 x2 => quiet_to_boot (State_modCore_quiet _ _ _)
@[simp] theorem State_modFum_boot : ∀ s x1 x2, (State.modFum s x1 x2).boot = s.boot := by intros; unfold State.modFum; simp
@[simp] theorem State_modPower_boot : ∀ s x1, (State.modPower s x1).boot = s.boot := by intros; unfold State.modPower; simp
@[simp] theorem State_modPair_boot : ∀ s x1, (State.modPair s x1).boot = s.boot := by intros; unfold State.modPair; simp
@[simp] theorem State_modTrig_boot : ∀ s x1, (State.modTrig s x1).boot = s.boot := by intros; unfold State.modTrig; simp
@[simp] theorem State_modNet_boot : ∀ s x1, (State.modNet s x1).boot = s.boot := by intros; unfold State.modNet; simp
@[simp] theorem State_modMoa_boot : ∀ s x1, (State.modMoa s x1).boot = s.boot := fun s x1 => quiet_to_boot (State_modMoa_quiet _ _)
@[simp] theorem State_modMram_boot : ∀ s x1, (State.modMram s x1).boot = s.boot := by intros; unfold State.modMram; simp
@[simp] theorem State_modTest_boot : ∀ s x1, (State.modTest s x1).boot = s.boot := by intros; unfold State.modTest; simp
@[simp] theorem State_modPins_boot : ∀ s x1, (State.modPins s x1).boot = s.boot := by intros; unfold State.modPins; simp
@[simp] theorem State_modSched_boot : ∀ s x1, (State.modSched s x1).boot = s.boot := fun s x1 => quiet_to_boot (State_modSched_quiet _ _)
@[simp] theorem State_modIntake_boot : ∀ s x1 x2, (State.modIntake s x1 x2).boot = s.boot := fun s x1 x2 => quiet_to_boot (State_modIntake_quiet _ _ _)
@[simp] theorem State_modScan_boot : ∀ s x1 x2, (State.modScan s x1 x2).boot = s.boot := fun s x1 x2 => quiet_to_boot (State_modScan_quiet _ _ _)
@[simp] theorem State_wakeDomain_boot : ∀ s x1, (State.wakeDomain s x1).boot = s.boot := by
  intros; unfold State.wakeDomain; repeat' first | with_reducible rfl | (simp; done) | split
@[simp] theorem State_idleDomain_boot : ∀ s x1, (State.idleDomain s x1).boot = s.boot := by intros; unfold State.idleDomain; simp
@[simp] theorem State_trimBegin_boot : ∀ s x1, (State.trimBegin s x1).boot = s.boot := by intros; unfold State.trimBegin; simp
@[simp] theorem State_emit_boot : ∀ s x1, (State.emit s x1).boot = s.boot := fun s x1 => quiet_to_boot (State_emit_quiet _ _)
@[simp] theorem State_draw_boot : ∀ s, (State.draw s).2.boot = s.boot := by intros; unfold State.draw; simp
@[simp] theorem State_setDv_boot : ∀ s x1 x2 x3, (State.setDv s x1 x2 x3).boot = s.boot := fun s x1 x2 x3 => quiet_to_boot (State_setDv_quiet _ _ _ _)
@[simp] theorem State_setDvi_boot : ∀ s x1 x2 x3, (State.setDvi s x1 x2 x3).boot = s.boot := fun s x1 x2 x3 => quiet_to_boot (State_setDvi_quiet _ _ _ _)
@[simp] theorem State_setBo_boot : ∀ s x1 x2 x3 x4, (State.setBo s x1 x2 x3 x4).boot = s.boot := fun s x1 x2 x3 x4 => quiet_to_boot (State_setBo_quiet _ _ _ _ _)
@[simp] theorem State_setBoi_boot : ∀ s x1 x2 x3 x4, (State.setBoi s x1 x2 x3 x4).boot = s.boot := fun s x1 x2 x3 x4 => quiet_to_boot (State_setBoi_quiet _ _ _ _ _)
@[simp] theorem State_bumpN_boot : ∀ s x1 x2 x3, (State.bumpN s x1 x2 x3).boot = s.boot := fun s x1 x2 x3 => quiet_to_boot (State_bumpN_quiet _ _ _ _)
@[simp] theorem State_bump_boot : ∀ s x1 x2, (State.bump s x1 x2).boot = s.boot := fun s x1 x2 => quiet_to_boot (State_bump_quiet _ _ _)
@[simp] theorem State_bumpBN_boot : ∀ s x1 x2 x3 x4, (State.bumpBN s x1 x2 x3 x4).boot = s.boot := fun s x1 x2 x3 x4 => quiet_to_boot (State_bumpBN_quiet _ _ _ _ _)
@[simp] theorem State_bumpB_boot : ∀ s x1 x2 x3, (State.bumpB s x1 x2 x3).boot = s.boot := fun s x1 x2 x3 => quiet_to_boot (State_bumpB_quiet _ _ _ _)
@[simp] theorem State_count64_boot : ∀ s x1 x2 x3, (State.count64 s x1 x2 x3).boot = s.boot := fun s x1 x2 x3 => quiet_to_boot (State_count64_quiet _ _ _ _)
@[simp] theorem State_countB64_boot : ∀ s x1 x2 x3 x4, (State.countB64 s x1 x2 x3 x4).boot = s.boot := fun s x1 x2 x3 x4 => quiet_to_boot (State_countB64_quiet _ _ _ _ _)
@[simp] theorem State_setBit_boot : ∀ s x1 x2 x3 x4, (State.setBit s x1 x2 x3 x4).boot = s.boot := fun s x1 x2 x3 x4 => quiet_to_boot (State_setBit_quiet _ _ _ _ _)
@[simp] theorem State_setDw_boot : ∀ s x1 x2 x3, (State.setDw s x1 x2 x3).boot = s.boot := fun s x1 x2 x3 => quiet_to_boot (State_setDw_quiet _ _ _ _)
@[simp] theorem State_setBw_boot : ∀ s x1 x2 x3 x4, (State.setBw s x1 x2 x3 x4).boot = s.boot := fun s x1 x2 x3 x4 => quiet_to_boot (State_setBw_quiet _ _ _ _ _)
@[simp] theorem signal_boot : ∀ x0 x1 s, (signal x0 x1 s).boot = s.boot := fun x0 x1 s => quiet_to_boot (signal_quiet _ _ _)
@[simp] theorem eqWrite_boot : ∀ x0 x1 x2 s, (eqWrite x0 x1 x2 s).boot = s.boot := fun x0 x1 x2 s => quiet_to_boot (eqWrite_quiet _ _ _ _)
@[simp] theorem eqFlush_boot : ∀ x0 s, (eqFlush x0 s).boot = s.boot := fun x0 s => quiet_to_boot (eqFlush_quiet _ _)
@[simp] theorem eqPush_boot : ∀ x0 x1 x2 s, (eqPush x0 x1 x2 s).boot = s.boot := fun x0 x1 x2 s => quiet_to_boot (eqPush_quiet _ _ _ _)
@[simp] theorem deqWrite_boot : ∀ x0 x1 s, (deqWrite x0 x1 s).boot = s.boot := fun x0 x1 s => quiet_to_boot (deqWrite_quiet _ _ _)
@[simp] theorem deqFlush_boot : ∀ s, (deqFlush s).boot = s.boot := fun s => quiet_to_boot (deqFlush_quiet _)
@[simp] theorem deqPush_boot : ∀ x0 x1 s, (deqPush x0 x1 s).boot = s.boot := fun x0 x1 s => quiet_to_boot (deqPush_quiet _ _ _)
@[simp] theorem moaSend_boot : ∀ x0 x1 x2 x3 x4 x5 x6 s, (moaSend x0 x1 x2 x3 x4 x5 x6 s).boot = s.boot := fun x0 x1 x2 x3 x4 x5 x6 s => quiet_to_boot (moaSend_quiet _ _ _ _ _ _ _ _)
@[simp] theorem State_modSession_boot : ∀ s x1 x2, (State.modSession s x1 x2).boot = s.boot := fun s x1 x2 => quiet_to_boot (State_modSession_quiet _ _ _)
@[simp] theorem moaEventSend_boot : ∀ x0 x1 x2 s, (moaEventSend x0 x1 x2 s).boot = s.boot := fun x0 x1 x2 s => quiet_to_boot (moaEventSend_quiet _ _ _ _)
@[simp] theorem moaEvent_boot : ∀ x0 x1 s, (moaEvent x0 x1 s).boot = s.boot := fun x0 x1 s => quiet_to_boot (moaEvent_quiet _ _ _)
@[simp] theorem deliverAll_boot : ∀ x0 s, (deliverAll x0 s).boot = s.boot := fun x0 s => quiet_to_boot (deliverAll_quiet _ _)
@[simp] theorem deliver_boot : ∀ x0 s, (deliver x0 s).boot = s.boot := fun x0 s => quiet_to_boot (deliver_quiet _ _)
@[simp] theorem chargeCore_boot : ∀ x0 s, (chargeCore x0 s).boot = s.boot := fun x0 s => quiet_to_boot (chargeCore_quiet _ _)
@[simp] theorem chargeAll_boot : ∀ s, (chargeAll s).boot = s.boot := fun s => quiet_to_boot (chargeAll_quiet _)
@[simp] theorem leaveCore_boot : ∀ x0 s, (leaveCore x0 s).boot = s.boot := fun x0 s => quiet_to_boot (leaveCore_quiet _ _)
@[simp] theorem runOn_boot : ∀ x0 x1 s, (runOn x0 x1 s).boot = s.boot := fun x0 x1 s => quiet_to_boot (runOn_quiet _ _ _)
@[simp] theorem dispatch_boot : ∀ s, (dispatch s).boot = s.boot := fun s => quiet_to_boot (dispatch_quiet _)
@[simp] theorem preempt_boot : ∀ x0 s, (preempt x0 s).2.boot = s.boot := fun x0 s => quiet_to_boot (preempt_quiet _ _)
@[simp] theorem makeReady_boot : ∀ x0 s, (makeReady x0 s).boot = s.boot := fun x0 s => quiet_to_boot (makeReady_quiet _ _)
@[simp] theorem setFlag_boot : ∀ x0 x1 s, (setFlag x0 x1 s).boot = s.boot := fun x0 x1 s => quiet_to_boot (setFlag_quiet _ _ _)
@[simp] theorem postFlag_boot : ∀ x0 x1 s, (postFlag x0 x1 s).boot = s.boot := fun x0 x1 s => quiet_to_boot (postFlag_quiet _ _ _)
@[simp] theorem raiseQuiet_boot : ∀ x0 s, (raiseQuiet x0 s).boot = s.boot := fun x0 s => quiet_to_boot (raiseQuiet_quiet _ _)
@[simp] theorem judgeWait_boot : ∀ x0 s, (judgeWait x0 s).boot = s.boot := fun x0 s => quiet_to_boot (judgeWait_quiet _ _)
@[simp] theorem raiseSource_boot : ∀ x0 s, (raiseSource x0 s).boot = s.boot := fun x0 s => quiet_to_boot (raiseSource_quiet _ _)
@[simp] theorem post_boot : ∀ x0 s, (post x0 s).boot = s.boot := fun x0 s => quiet_to_boot (post_quiet _ _)
@[simp] theorem postD_boot : ∀ x0 x1 x2 s, (postD x0 x1 x2 s).boot = s.boot := fun x0 x1 x2 s => quiet_to_boot (postD_quiet _ _ _ _)
@[simp] theorem postB_boot : ∀ x0 x1 x2 x3 x4 s, (postB x0 x1 x2 x3 x4 s).boot = s.boot := fun x0 x1 x2 x3 x4 s => quiet_to_boot (postB_quiet _ _ _ _ _ _)
@[simp] theorem setPairState_boot : ∀ x0 s, (setPairState x0 s).boot = s.boot := by
  intros; unfold setPairState; repeat' first | with_reducible rfl | (simp; done) | split
@[simp] theorem pairSend_boot : ∀ x0 s, (pairSend x0 s).boot = s.boot := fun x0 s => quiet_to_boot (pairSend_quiet _ _)
@[simp] theorem mirror_boot : ∀ x0 s, (mirror x0 s).boot = s.boot := fun x0 s => quiet_to_boot (mirror_quiet _ _)
@[simp] theorem dropWebSlow_boot : ∀ s, (dropWebSlow s).boot = s.boot := by intros; unfold dropWebSlow; simp
@[simp] theorem standbyOutputs_boot : ∀ s, (standbyOutputs s).boot = s.boot := by intros; unfold standbyOutputs; simp
@[simp] theorem abandonSearch_boot : ∀ x0 s, (abandonSearch x0 s).boot = s.boot := by
  intros; unfold abandonSearch; repeat' first | with_reducible rfl | (simp; done) | split
@[simp] theorem abandonSearches_boot : ∀ s, (abandonSearches s).boot = s.boot := by intros; unfold abandonSearches; simp
@[simp] theorem ownMirror_boot : ∀ s, (ownMirror s).boot = s.boot := by intros; unfold ownMirror; simp
@[simp] theorem dropWrites_boot : ∀ s, (dropWrites s).boot = s.boot := by intros; unfold dropWrites; simp
@[simp] theorem releaseReins_boot : ∀ x0 s, (releaseReins x0 s).boot = s.boot := by
  intros; unfold releaseReins; repeat' first | with_reducible rfl | (simp; done) | split
@[simp] theorem logVolatile_boot : ∀ x0 s, (logVolatile x0 s).boot = s.boot := by intros; unfold logVolatile; simp
@[simp] theorem logMram_boot : ∀ x0 x1 s, (logMram x0 x1 s).boot = s.boot := by
  intros; unfold logMram; try dsimp only
  repeat' first | with_reducible rfl | (simp; done) | split | refine Eq.trans (forAll_boot _ _ _ fun _ _ => ?_) ?_ |
    (simp only [onBar, onDev, andThen, valueOk, checked, rated, holderOnly, forwarded]; try dsimp only) | (simp; intros)
@[simp] theorem logBoth_boot : ∀ x0 s, (logBoth x0 s).boot = s.boot := by intros; unfold logBoth; simp
@[simp] theorem setCause_boot : ∀ x0 s, (setCause x0 s).boot = s.boot := by
  intros; unfold setCause; try dsimp only
  repeat' first | with_reducible rfl | (simp; done) | split | refine Eq.trans (forAll_boot _ _ _ fun _ _ => ?_) ?_ |
    (simp only [onBar, onDev, andThen, valueOk, checked, rated, holderOnly, forwarded]; try dsimp only) | (simp; intros)
@[simp] theorem deviceFault_boot : ∀ x0 s, (deviceFault x0 s).boot = s.boot := by intros; unfold deviceFault; simp
@[simp] theorem retire_boot : ∀ x0 x1 x2 s, (retire x0 x1 x2 s).boot = s.boot := by
  intros; unfold retire; repeat' first | with_reducible rfl | (simp; done) | split
@[simp] theorem noteFault_boot : ∀ x0 x1 x2 s, (noteFault x0 x1 x2 s).boot = s.boot := by
  intros; unfold noteFault; try dsimp only
  repeat' first | with_reducible rfl | (simp; done) | split | refine Eq.trans (forAll_boot _ _ _ fun _ _ => ?_) ?_ |
    (simp only [onBar, onDev, andThen, valueOk, checked, rated, holderOnly, forwarded]; try dsimp only) | (simp; intros)
@[simp] theorem channelFault_boot : ∀ x0 x1 x2 s, (channelFault x0 x1 x2 s).2.boot = s.boot := by
  intros; unfold channelFault; try dsimp only
  repeat' first | with_reducible rfl | (simp; done) | split | refine Eq.trans (forAll_boot _ _ _ fun _ _ => ?_) ?_ |
    (simp only [onBar, onDev, andThen, valueOk, checked, rated, holderOnly, forwarded]; try dsimp only) | (simp; intros)
@[simp] theorem reinstateChan_boot : ∀ x0 x1 s, (reinstateChan x0 x1 s).boot = s.boot := by
  intros; unfold reinstateChan; repeat' first | with_reducible rfl | (simp; done) | split
@[simp] theorem rejudge_boot : ∀ s, (rejudge s).boot = s.boot := by intros; unfold rejudge; simp
@[simp] theorem State_modPage_boot : ∀ s x1 x2 x3, (State.modPage s x1 x2 x3).boot = s.boot := fun s x1 x2 x3 => quiet_to_boot (State_modPage_quiet _ _ _ _)
@[simp] theorem State_flagPage_boot : ∀ s x1 x2 x3, (State.flagPage s x1 x2 x3).boot = s.boot := fun s x1 x2 x3 => quiet_to_boot (State_flagPage_quiet _ _ _ _)
@[simp] theorem flagNext_boot : ∀ x0 x1 s, (flagNext x0 x1 s).boot = s.boot := fun x0 x1 s => quiet_to_boot (flagNext_quiet _ _ _)
@[simp] theorem evictPage_boot : ∀ x0 x1 s, (evictPage x0 x1 s).boot = s.boot := fun x0 x1 s => quiet_to_boot (evictPage_quiet _ _ _)
@[simp] theorem postPaused_boot : ∀ x0 x1 x2 s, (postPaused x0 x1 x2 s).boot = s.boot := fun x0 x1 x2 s => quiet_to_boot (postPaused_quiet _ _ _ _)
@[simp] theorem makeRoom_boot : ∀ x0 x1 x2 s, (makeRoom x0 x1 x2 s).boot = s.boot := fun x0 x1 x2 s => quiet_to_boot (makeRoom_quiet _ _ _ _)
@[simp] theorem retryRoom_boot : ∀ x0 s, (retryRoom x0 s).boot = s.boot := fun x0 s => quiet_to_boot (retryRoom_quiet _ _)
@[simp] theorem evictToQuota_boot : ∀ x0 x1 s, (evictToQuota x0 x1 s).boot = s.boot := fun x0 x1 s => quiet_to_boot (evictToQuota_quiet _ _ _)
@[simp] theorem applyQuota_boot : ∀ x0 s, (applyQuota x0 s).boot = s.boot := fun x0 s => quiet_to_boot (applyQuota_quiet _ _)
@[simp] theorem retainPrinted_boot : ∀ x0 x1 s, (retainPrinted x0 x1 s).boot = s.boot := fun x0 x1 s => quiet_to_boot (retainPrinted_quiet _ _ _)
@[simp] theorem closeIfDone_boot : ∀ x0 x1 s, (closeIfDone x0 x1 s).boot = s.boot := fun x0 x1 s => quiet_to_boot (closeIfDone_quiet _ _ _)
@[simp] theorem rectIncomplete_boot : ∀ x0 x1 x2 s, (rectIncomplete x0 x1 x2 s).boot = s.boot := fun x0 x1 x2 s => quiet_to_boot (rectIncomplete_quiet _ _ _ _)
@[simp] theorem rectsUnknown_boot : ∀ x0 x1 x2 x3 x4 x5 s, (rectsUnknown x0 x1 x2 x3 x4 x5 s).boot = s.boot := fun x0 x1 x2 x3 x4 x5 s => quiet_to_boot (rectsUnknown_quiet _ _ _ _ _ _ _)
@[simp] theorem quotaAfterLoss_boot : ∀ x0 x1 s, (quotaAfterLoss x0 x1 s).boot = s.boot := fun x0 x1 s => quiet_to_boot (quotaAfterLoss_quiet _ _ _)
@[simp] theorem postSpan_boot : ∀ x0 x1 x2 x3 x4 x5 s, (postSpan x0 x1 x2 x3 x4 x5 s).boot = s.boot := fun x0 x1 x2 x3 x4 x5 s => quiet_to_boot (postSpan_quiet _ _ _ _ _ _ _)
@[simp] theorem wagonFail_boot : ∀ x0 x1 x2 x3 s, (wagonFail x0 x1 x2 x3 s).boot = s.boot := fun x0 x1 x2 x3 s => quiet_to_boot (wagonFail_quiet _ _ _ _ _)
@[simp] theorem writeInteg_boot : ∀ x0 x1 s, (writeInteg x0 x1 s).boot = s.boot := fun x0 x1 s => quiet_to_boot (writeInteg_quiet _ _ _)
@[simp] theorem rectFinal_boot : ∀ x0 x1 x2 s, (rectFinal x0 x1 x2 s).boot = s.boot := fun x0 x1 x2 s => quiet_to_boot (rectFinal_quiet _ _ _ _)
@[simp] theorem integCheck_boot : ∀ x0 x1 s, (integCheck x0 x1 s).boot = s.boot := fun x0 x1 s => quiet_to_boot (integCheck_quiet _ _ _)
@[simp] theorem integCut_boot : ∀ x0 x1 s, (integCut x0 x1 s).boot = s.boot := fun x0 x1 s => quiet_to_boot (integCut_quiet _ _ _)
@[simp] theorem auditCheck_boot : ∀ x0 s, (auditCheck x0 s).boot = s.boot := fun x0 s => quiet_to_boot (auditCheck_quiet _ _)
@[simp] theorem countFrame_boot : ∀ x0 s, (countFrame x0 s).boot = s.boot := by intros; unfold countFrame; simp
@[simp] theorem sendIdle_boot : ∀ x0 s, (sendIdle x0 s).boot = s.boot := fun x0 s => quiet_to_boot (sendIdle_quiet _ _)
@[simp] theorem sendReq_boot : ∀ x0 x1 s, (sendReq x0 x1 s).boot = s.boot := by intros; unfold sendReq; simp
@[simp] theorem pumpReqs_boot : ∀ x0 s, (pumpReqs x0 s).boot = s.boot := by
  intros; unfold pumpReqs; try dsimp only
  repeat' first | with_reducible rfl | (simp; done) | split | refine Eq.trans (forAll_boot _ _ _ fun _ _ => ?_) ?_ |
    (simp only [onBar, onDev, andThen, valueOk, checked, rated, holderOnly, forwarded]; try dsimp only) | (simp; intros)
@[simp] theorem addReq_boot : ∀ x0 x1 x2 x3 x4 x5 x6 s, (addReq x0 x1 x2 x3 x4 x5 x6 s).boot = s.boot := by intros; unfold addReq; simp
@[simp] theorem writeWords_boot : ∀ x0 x1 x2 x3 x4 s, (writeWords x0 x1 x2 x3 x4 s).boot = s.boot := by
  intro x0 x1 x2 n
  induction n generalizing x1 with
  | zero => intro _ s; rfl
  | succ n ih => intro _ s; unfold writeWords; split <;> simp [ih]
@[simp] theorem writePhase_boot : ∀ x0 x1 x2 x3 x4 s, (writePhase x0 x1 x2 x3 x4 s).boot = s.boot := by intros; unfold writePhase; simp
@[simp] theorem writeWave_boot : ∀ x0 x1 x2 s, (writeWave x0 x1 x2 s).boot = s.boot := fun _ _ _ s =>
  writeWords_boot _ _ _ _ _ s
@[simp] theorem shadowPort_boot : ∀ x0 x1 x2 x3 s, (shadowPort x0 x1 x2 x3 s).boot = s.boot := by
  intros; unfold shadowPort; try dsimp only
  repeat' first | with_reducible rfl | (simp; done) | split | refine Eq.trans (forAll_boot _ _ _ fun _ _ => ?_) ?_ |
    (simp only [onBar, onDev, andThen, valueOk, checked, rated, holderOnly, forwarded]; try dsimp only) | (simp; intros)
@[simp] theorem State_modGen_boot : ∀ s x1 x2, (State.modGen s x1 x2).boot = s.boot := fun s x1 x2 => quiet_to_boot (State_modGen_quiet _ _ _)
@[simp] theorem State_modHeads_boot : ∀ s x1 x2, (State.modHeads s x1 x2).boot = s.boot := fun s x1 x2 => quiet_to_boot (State_modHeads_quiet _ _ _)
@[simp] theorem State_modWaits_boot : ∀ s x1 x2, (State.modWaits s x1 x2).boot = s.boot := fun s x1 x2 => quiet_to_boot (State_modWaits_quiet _ _ _)
@[simp] theorem joinHeads_boot : ∀ x0 s, (joinHeads x0 s).boot = s.boot := fun x0 s => quiet_to_boot (joinHeads_quiet _ _)
@[simp] theorem shadowWrites_boot : ∀ x0 s, (shadowWrites x0 s).boot = s.boot := by
  intros; unfold shadowWrites; repeat' first | with_reducible rfl | (simp; done) | split
@[simp] theorem sealWrites_boot : ∀ x0 s, (sealWrites x0 s).boot = s.boot := by
  intros; unfold sealWrites; try dsimp only
  repeat' first | with_reducible rfl | (simp; done) | split | refine Eq.trans (forAll_boot _ _ _ fun _ _ => ?_) ?_ |
    (simp only [onBar, onDev, andThen, valueOk, checked, rated, holderOnly, forwarded, withRate, hostTime, toStandby, onRecord, byThread, byMachine, upFrame]; try dsimp only) | (simp; intros)
@[simp] theorem activatePort_boot : ∀ x0 x1 x2 x3 x4 s, (activatePort x0 x1 x2 x3 x4 s).boot = s.boot := by intros; unfold activatePort; simp
@[simp] theorem activateKeys_boot : ∀ x0 x1 x2 x3 s, (activateKeys x0 x1 x2 x3 s).boot = s.boot := by
  intros; unfold activateKeys; try dsimp only
  repeat' first | with_reducible rfl | (simp; done) | split | refine Eq.trans (forAll_boot _ _ _ fun _ _ => ?_) ?_ |
    (simp only [onBar, onDev, andThen, valueOk, checked, rated, holderOnly, forwarded, withRate, hostTime, toStandby, onRecord, byThread, byMachine, upFrame]; try dsimp only) | (simp; intros)
@[simp] theorem activates_boot : ∀ x0 x1 x2 s, (activates x0 x1 x2 s).boot = s.boot := by
  intros; unfold activates; repeat' first | with_reducible rfl | (simp; done) | split
@[simp] theorem setLane_boot : ∀ x0 x1 s, (setLane x0 x1 s).boot = s.boot := by
  intros; unfold setLane; try dsimp only
  repeat' first | with_reducible rfl | (simp; done) | split | refine Eq.trans (forAll_boot _ _ _ fun _ _ => ?_) ?_ |
    (simp only [onBar, onDev, andThen, valueOk, checked, rated, holderOnly, forwarded]; try dsimp only) | (simp; intros)
@[simp] theorem applyRow_boot : ∀ x0 x1 s, (applyRow x0 x1 s).boot = s.boot := by intros; unfold applyRow; simp
@[simp] theorem startRow_boot : ∀ x0 x1 s, (startRow x0 x1 s).boot = s.boot := by intros; unfold startRow; simp
@[simp] theorem enterTrain_boot : ∀ x0 s, (enterTrain x0 s).boot = s.boot := by intros; unfold enterTrain; simp
@[simp] theorem enterDetect_boot : ∀ x0 s, (enterDetect x0 s).boot = s.boot := by intros; unfold enterDetect; simp
@[simp] theorem enterIdent_boot : ∀ x0 s, (enterIdent x0 s).boot = s.boot := by intros; unfold enterIdent; simp
@[simp] theorem runBar_boot : ∀ x0 x1 s, (runBar x0 x1 s).boot = s.boot := by
  intros; unfold runBar; try dsimp only
  repeat' first | with_reducible rfl | (simp; done) | split | refine Eq.trans (forAll_boot _ _ _ fun _ _ => ?_) ?_ |
    (simp; intros)
@[simp] theorem runWrites_boot : ∀ x0 s, (runWrites x0 s).boot = s.boot := by
  intros; unfold runWrites; try dsimp only
  repeat' first | with_reducible rfl | (simp; done) | split | refine Eq.trans (forAll_boot _ _ _ fun _ _ => ?_) ?_ |
    (simp only [onBar, onDev, andThen, valueOk, checked, rated, holderOnly, forwarded]; try dsimp only) | (simp; intros)
@[simp] theorem bandSelect_boot : ∀ x0 x1 x2 s, (bandSelect x0 x1 x2 s).boot = s.boot := fun x0 x1 x2 s => quiet_to_boot (bandSelect_quiet _ _ _ _)
@[simp] theorem runBands_boot : ∀ x0 s, (runBands x0 s).boot = s.boot := fun x0 s => quiet_to_boot (runBands_quiet _ _)
@[simp] theorem enterRun_boot : ∀ x0 s, (enterRun x0 s).boot = s.boot := by
  intros; unfold enterRun; try dsimp only
  repeat' first | with_reducible rfl | (simp; done) | split | refine Eq.trans (forAll_boot _ _ _ fun _ _ => ?_) ?_ |
    (simp only [onBar, onDev, andThen, valueOk, checked, rated, holderOnly, forwarded]; try dsimp only) | (simp; intros)
@[simp] theorem openSet_boot : ∀ x0 x1 x2 s, (openSet x0 x1 x2 s).boot = s.boot := fun x0 x1 x2 s => quiet_to_boot (openSet_quiet _ _ _ _)
@[simp] theorem openHostSet_boot : ∀ x0 x1 x2 s, (openHostSet x0 x1 x2 s).boot = s.boot := fun x0 x1 x2 s => quiet_to_boot (openHostSet_quiet _ _ _ _)
@[simp] theorem mirrorNozzles_boot : ∀ x0 x1 x2 s, (mirrorNozzles x0 x1 x2 s).boot = s.boot := fun x0 x1 x2 s => quiet_to_boot (mirrorNozzles_quiet _ _ _ _)
@[simp] theorem editEntries_boot : ∀ x0 x1 x2 s, (editEntries x0 x1 x2 s).boot = s.boot := fun x0 x1 x2 s => quiet_to_boot (editEntries_quiet _ _ _ _)
@[simp] theorem gapDecide_boot : ∀ x0 s, (gapDecide x0 s).boot = s.boot := fun x0 s => quiet_to_boot (gapDecide_quiet _ _)
@[simp] theorem rescreen_boot : ∀ x0 x1 s, (rescreen x0 x1 s).boot = s.boot := fun x0 x1 s => quiet_to_boot (rescreen_quiet _ _ _)
@[simp] theorem sealAt_boot : ∀ x0 x1 x2 x3 x4 s, (sealAt x0 x1 x2 x3 x4 s).boot = s.boot := by
  intros; unfold sealAt; try dsimp only
  repeat' first | with_reducible rfl | (simp; done) | split | refine Eq.trans (forAll_boot _ _ _ fun _ _ => ?_) ?_ |
    (simp only [onBar, onDev, andThen, valueOk, checked, rated, holderOnly, forwarded]; try dsimp only) | (simp; intros)
@[simp] theorem digestJudge_boot : ∀ x0 x1 x2 s, (digestJudge x0 x1 x2 s).boot = s.boot := fun x0 x1 x2 s => quiet_to_boot (digestJudge_quiet _ _ _ _)
@[simp] theorem sealPeer_boot : ∀ x0 x1 x2 x3 s, (sealPeer x0 x1 x2 x3 s).boot = s.boot := by intros; unfold sealPeer; simp
@[simp] theorem sealNow_boot : ∀ x0 x1 x2 s, (sealNow x0 x1 x2 s).boot = s.boot := by
  intros; unfold sealNow; try dsimp only
  repeat' first | with_reducible rfl | (simp; done) | split | refine Eq.trans (forAll_boot _ _ _ fun _ _ => ?_) ?_ |
    (simp only [onBar, onDev, andThen, valueOk, checked, rated, holderOnly, forwarded]; try dsimp only) | (simp; intros)
@[simp] theorem releaseWaits_boot : ∀ x0 s, (releaseWaits x0 s).boot = s.boot := fun x0 s => quiet_to_boot (releaseWaits_quiet _ _)
@[simp] theorem trySeal_boot : ∀ x0 s, (trySeal x0 s).boot = s.boot := by
  intros; unfold trySeal; try dsimp only
  repeat' first | with_reducible rfl | (simp; done) | split | refine Eq.trans (forAll_boot _ _ _ fun _ _ => ?_) ?_ |
    (simp only [onBar, onDev, andThen, valueOk, checked, rated, holderOnly, forwarded]; try dsimp only) | (simp; intros)
@[simp] theorem commitRequest_boot : ∀ x0 x1 s, (commitRequest x0 x1 s).boot = s.boot := by
  intros; unfold commitRequest; repeat' first | with_reducible rfl | (simp; done) | split
@[simp] theorem autoCommit_boot : ∀ x0 s, (autoCommit x0 s).boot = s.boot := by
  intros; unfold autoCommit; repeat' first | with_reducible rfl | (simp; done) | split
@[simp] theorem headGapPort_boot : ∀ x0 s, (headGapPort x0 s).boot = s.boot := by
  intros; unfold headGapPort; try dsimp only
  repeat' first | with_reducible rfl | (simp; done) | split | refine Eq.trans (forAll_boot _ _ _ fun _ _ => ?_) ?_ |
    (simp only [onBar, onDev, andThen, valueOk, checked, rated, holderOnly, forwarded]; try dsimp only) | (simp; intros)
@[simp] theorem nozzleEvents_boot : ∀ x0 x1 x2 x3 x4 x5 s, (nozzleEvents x0 x1 x2 x3 x4 x5 s).boot = s.boot := fun x0 x1 x2 x3 x4 x5 s => quiet_to_boot (nozzleEvents_quiet _ _ _ _ _ _ _)
@[simp] theorem headGaps_boot : ∀ s, (headGaps s).boot = s.boot := by intros; unfold headGaps; simp
@[simp] theorem commitLive_boot : ∀ x0 x1 s, (commitLive x0 x1 s).boot = s.boot := by
  intros; unfold commitLive; repeat' first | with_reducible rfl | (simp; done) | split
@[simp] theorem liveAtPage_boot : ∀ x0 x1 s, (liveAtPage x0 x1 s).boot = s.boot := by
  intros; unfold liveAtPage; repeat' first | with_reducible rfl | (simp; done) | split
@[simp] theorem applyOutcomes_boot : ∀ x0 x1 x2 s, (applyOutcomes x0 x1 x2 s).boot = s.boot := fun x0 x1 x2 s => quiet_to_boot (applyOutcomes_quiet _ _ _ _)
@[simp] theorem retireNozzles_boot : ∀ x0 s, (retireNozzles x0 s).boot = s.boot := by
  intros; unfold retireNozzles; try dsimp only
  repeat' first | with_reducible rfl | (simp; done) | split | refine Eq.trans (forAll_boot _ _ _ fun _ _ => ?_) ?_ |
    (simp only [onBar, onDev, andThen, valueOk, checked, rated, holderOnly, forwarded]; try dsimp only) | (simp; intros)
@[simp] theorem placeChanged_boot : ∀ s, (placeChanged s).boot = s.boot := by intros; unfold placeChanged; simp
@[simp] theorem placeApply_boot : ∀ x0 x1 x2 s, (placeApply x0 x1 x2 s).boot = s.boot := by
  intros; unfold placeApply; try dsimp only
  repeat' first | with_reducible rfl | (simp; done) | split | refine Eq.trans (forAll_boot _ _ _ fun _ _ => ?_) ?_ |
    (simp only [onBar, onDev, andThen, valueOk, checked, rated, holderOnly, forwarded]; try dsimp only) | (simp; intros)
@[simp] theorem placeFull_boot : ∀ x0 x1 x2 s, (placeFull x0 x1 x2 s).boot = s.boot := by intros; unfold placeFull; simp
@[simp] theorem placeRun_boot : ∀ x0 x1 s, (placeRun x0 x1 s).boot = s.boot := by
  intros; unfold placeRun; try dsimp only
  repeat' first | with_reducible rfl | (simp; done) | split | refine Eq.trans (forAll_boot _ _ _ fun _ _ => ?_) ?_ |
    (simp only [onBar, onDev, andThen, valueOk, checked, rated, holderOnly, forwarded, withRate, hostTime, toStandby, onRecord, byThread, byMachine, upFrame]; try dsimp only) | (simp; intros)
@[simp] theorem placeBar_boot : ∀ x0 x1 s, (placeBar x0 x1 s).boot = s.boot := by
  intros; unfold placeBar; try dsimp only
  repeat' first | with_reducible rfl | (simp; done) | split | refine Eq.trans (forAll_boot _ _ _ fun _ _ => ?_) ?_ |
    (simp only [onBar, onDev, andThen, valueOk, checked, rated, holderOnly, forwarded]; try dsimp only) | (simp; intros)
@[simp] theorem spanHandover_boot : ∀ x0 x1 x2 s, (spanHandover x0 x1 x2 s).boot = s.boot := by
  intro b n key s
  rcases h : s.place.waitSpans.get? key with _ | r
  · unfold spanHandover; rw [h]
  · unfold spanHandover; rw [h]; dsimp only; rw [placeChanged_boot]
@[simp] theorem releaseFlow_boot : ∀ x0 x1 s, (releaseFlow x0 x1 s).boot = s.boot := fun x0 x1 s => quiet_to_boot (releaseFlow_quiet _ _ _)
@[simp] theorem offCore_boot : ∀ x0 s, (offCore x0 s).boot = s.boot := fun x0 s => quiet_to_boot (offCore_quiet _ _)
@[simp] theorem stopThread_boot : ∀ x0 x1 s, (stopThread x0 x1 s).boot = s.boot := fun x0 x1 s => quiet_to_boot (stopThread_quiet _ _ _)
@[simp] theorem setExtStatus_boot : ∀ x0 x1 x2 s, (setExtStatus x0 x1 x2 s).boot = s.boot := fun x0 x1 x2 s => quiet_to_boot (setExtStatus_quiet _ _ _ _)
@[simp] theorem stopExt_boot : ∀ x0 x1 x2 x3 s, (stopExt x0 x1 x2 x3 s).boot = s.boot := fun x0 x1 x2 x3 s => quiet_to_boot (stopExt_quiet _ _ _ _ _)
@[simp] theorem illegalCsr_boot : ∀ x0 s, (illegalCsr x0 s).boot = s.boot := by intros; unfold illegalCsr; simp
@[simp] theorem schStatus_boot : ∀ x0 x1 s, (schStatus x0 x1 s).boot = s.boot := fun x0 x1 s => quiet_to_boot (schStatus_quiet _ _ _)
@[simp] theorem waitEffect_boot : ∀ x0 x1 x2 s, (waitEffect x0 x1 x2 s).boot = s.boot := fun x0 x1 x2 s => quiet_to_boot (waitEffect_quiet _ _ _ _)
@[simp] theorem postEffect_boot : ∀ x0 x1 s, (postEffect x0 x1 s).boot = s.boot := fun x0 x1 s => quiet_to_boot (postEffect_quiet _ _ _)
@[simp] theorem yieldEffect_boot : ∀ x0 x1 s, (yieldEffect x0 x1 s).boot = s.boot := fun x0 x1 s => quiet_to_boot (yieldEffect_quiet _ _ _)
@[simp] theorem flowEnterEffect_boot : ∀ x0 x1 x2 s, (flowEnterEffect x0 x1 x2 s).boot = s.boot := fun x0 x1 x2 s => quiet_to_boot (flowEnterEffect_quiet _ _ _ _)
@[simp] theorem flowExitEffect_boot : ∀ x0 x1 s, (flowExitEffect x0 x1 s).boot = s.boot := fun x0 x1 s => quiet_to_boot (flowExitEffect_quiet _ _ _)
@[simp] theorem timerEffect_boot : ∀ x0 x1 s, (timerEffect x0 x1 s).boot = s.boot := fun x0 x1 s => quiet_to_boot (timerEffect_quiet _ _ _)
@[simp] theorem spawnEffect_boot : ∀ x0 x1 s, (spawnEffect x0 x1 s).boot = s.boot := fun x0 x1 s => quiet_to_boot (spawnEffect_quiet _ _ _)
@[simp] theorem wakeModeEffect_boot : ∀ x0 x1 s, (wakeModeEffect x0 x1 s).boot = s.boot := fun x0 x1 s => quiet_to_boot (wakeModeEffect_quiet _ _ _)
@[simp] theorem killEffect_boot : ∀ x0 x1 s, (killEffect x0 x1 s).boot = s.boot := fun x0 x1 s => quiet_to_boot (killEffect_quiet _ _ _)
@[simp] theorem flagsClearEffect_boot : ∀ x0 x1 s, (flagsClearEffect x0 x1 s).boot = s.boot := fun x0 x1 s => quiet_to_boot (flagsClearEffect_quiet _ _ _)
@[simp] theorem deadlockEffect_boot : ∀ s, (deadlockEffect s).boot = s.boot := fun s => quiet_to_boot (deadlockEffect_quiet _)
@[simp] theorem coreThread_boot : ∀ x0 s, (coreThread x0 s).boot = s.boot := by
  intros; unfold coreThread; repeat' first | with_reducible rfl | (simp; done) | split
@[simp] theorem dropCore_boot : ∀ x0 s, (dropCore x0 s).boot = s.boot := fun x0 s => quiet_to_boot (dropCore_quiet _ _)
@[simp] theorem modOwn_boot : ∀ x0 x1 s, (modOwn x0 x1 s).boot = s.boot := fun x0 x1 s => quiet_to_boot (modOwn_quiet _ _ _)
@[simp] theorem recordStatus_boot : ∀ x0 x1 x2 x3 s, (recordStatus x0 x1 x2 x3 s).boot = s.boot := fun x0 x1 x2 x3 s => quiet_to_boot (recordStatus_quiet _ _ _ _ _)
@[simp] theorem violation_boot : ∀ x0 s, (violation x0 s).boot = s.boot := fun x0 s => quiet_to_boot (violation_quiet _ _)
theorem doorWrite_boot (door idx sub v) (eff : Effect) (s : State)
    (h : ∀ row bar sub w s, (eff row bar sub w s).2.boot = s.boot) : (doorWrite door idx sub v eff s).2.boot = s.boot := by
  unfold doorWrite
  split
  · rfl
  · split
    · rfl
    · simp
    · simp
    · split <;> simp [h]
theorem writeThrough_boot (door idx sub v) (eff : Effect) (s : State)
    (h : ∀ row bar sub w s, (eff row bar sub w s).2.boot = s.boot) : (writeThrough door idx sub v eff s).boot = s.boot :=
  doorWrite_boot door idx sub v eff s h
@[simp] theorem plainEffect_boot : ∀ x0 x1 x2 x3 s, (plainEffect x0 x1 x2 x3 s).2.boot = s.boot := fun x0 x1 x2 x3 s => quiet_to_boot (plainEffect_quiet _ _ _ _ _)
@[simp] theorem putTable_boot : ∀ x0 x1 x2 x3 s, (putTable x0 x1 x2 x3 s).boot = s.boot := fun x0 x1 x2 x3 s => quiet_to_boot (putTable_quiet _ _ _ _ _)
@[simp] theorem moveTable_boot : ∀ x0 x1 s, (moveTable x0 x1 s).boot = s.boot := by
  intros; unfold moveTable; try dsimp only
  repeat' first | with_reducible rfl | (simp; done) | split | refine Eq.trans (forAll_boot _ _ _ fun _ _ => ?_) ?_ |
    (simp only [onBar, onDev, andThen, valueOk, checked, rated, holderOnly, forwarded, withRate, hostTime, toStandby, onRecord, byThread, byMachine, upFrame]; try dsimp only) | (simp; intros)
@[simp] theorem moveTables_boot : ∀ x0 s, (moveTables x0 s).boot = s.boot := by intros; unfold moveTables; simp
@[simp] theorem sramJudge_boot : ∀ x0 s, (sramJudge x0 s).boot = s.boot := fun x0 s => quiet_to_boot (sramJudge_quiet _ _)
@[simp] theorem storeKey_boot : ∀ x0 x1 x2 x3 s, (storeKey x0 x1 x2 x3 s).boot = s.boot := by
  intros; unfold storeKey; repeat' first | with_reducible rfl | (simp; done) | split
@[simp] theorem partViolation_boot : ∀ x0 s, (partViolation x0 s).boot = s.boot := fun x0 s => quiet_to_boot (partViolation_quiet _ _)
@[simp] theorem railFlags_boot : ∀ s x1, (railFlags s x1).boot = s.boot := by intros; unfold railFlags; simp
@[simp] theorem storeWide_boot : ∀ x0 x1 x2 x3 x4 x5 x6 s, (storeWide x0 x1 x2 x3 x4 x5 x6 s).boot = s.boot := by
  intros; unfold storeWide; try dsimp only
  repeat' first | with_reducible rfl | (simp; done) | split | refine Eq.trans (forAll_boot _ _ _ fun _ _ => ?_) ?_ |
    (simp only [onBar, onDev, andThen, valueOk, checked, rated, holderOnly, forwarded]; try dsimp only) | (simp; intros)
@[simp] theorem wideEffect_boot : ∀ x0 x1 x2 x3 x4 x5 s, (wideEffect x0 x1 x2 x3 x4 x5 s).2.boot = s.boot := by
  intros; unfold wideEffect; try dsimp only
  repeat' first | with_reducible rfl | (simp; done) | split | refine Eq.trans (forAll_boot _ _ _ fun _ _ => ?_) ?_ |
    (simp only [onBar, onDev, andThen, valueOk, checked, rated, holderOnly, forwarded]; try dsimp only) | (simp; intros)
@[simp] theorem blockWrite_boot : ∀ x0 x1 x2 x3 x4 s, (blockWrite x0 x1 x2 x3 x4 s).2.boot = s.boot := by
  intros; unfold blockWrite; repeat' first | with_reducible rfl | (simp; done) | split
@[simp] theorem cmpFire_boot : ∀ x0 s, (cmpFire x0 s).boot = s.boot := by
  intros; unfold cmpFire; try dsimp only
  repeat' first | with_reducible rfl | (simp; done) | split | refine Eq.trans (forAll_boot _ _ _ fun _ _ => ?_) ?_ |
    (simp only [onBar, onDev, andThen, valueOk, checked, rated, holderOnly, forwarded]; try dsimp only) | (simp; intros)
@[simp] theorem cmpMove_boot : ∀ x0 x1 x2 s, (cmpMove x0 x1 x2 s).boot = s.boot := by
  intros; unfold cmpMove; try dsimp only
  repeat' first | with_reducible rfl | (simp; done) | split | refine Eq.trans (forAll_boot _ _ _ fun _ _ => ?_) ?_ |
    (simp only [onBar, onDev, andThen, valueOk, checked, rated, holderOnly, forwarded]; try dsimp only) | (simp; intros)
@[simp] theorem cmpMotion_boot : ∀ x0 x1 x2 s, (cmpMotion x0 x1 x2 s).boot = s.boot := by
  intros; unfold cmpMotion; repeat' first | with_reducible rfl | (simp; done) | split
@[simp] theorem cmpMarkOne_boot : ∀ x0 x1 s, (cmpMarkOne x0 x1 s).boot = s.boot := by
  intros; unfold cmpMarkOne; try dsimp only
  repeat' first | with_reducible rfl | (simp; done) | split | refine Eq.trans (forAll_boot _ _ _ fun _ _ => ?_) ?_ |
    (simp only [onBar, onDev, andThen, valueOk, checked, rated, holderOnly, forwarded]; try dsimp only) | (simp; intros)
@[simp] theorem cmpMark_boot : ∀ x0 s, (cmpMark x0 s).boot = s.boot := by intros; unfold cmpMark; simp
@[simp] theorem cmpCommand_boot : ∀ x0 x1 x2 x3 s, (cmpCommand x0 x1 x2 x3 s).2.boot = s.boot := by
  intros; unfold cmpCommand; try dsimp only
  repeat' first | with_reducible rfl | (simp; done) | split | refine Eq.trans (forAll_boot _ _ _ fun _ _ => ?_) ?_ |
    (simp only [onBar, onDev, andThen, valueOk, checked, rated, holderOnly, forwarded]; try dsimp only) | (simp; intros)
@[simp] theorem postStop_boot : ∀ x0 x1 x2 s, (postStop x0 x1 x2 s).boot = s.boot := fun x0 x1 x2 s => quiet_to_boot (postStop_quiet _ _ _ _)
@[simp] theorem mirrorAxis_boot : ∀ x0 s, (mirrorAxis x0 s).boot = s.boot := fun x0 s => quiet_to_boot (mirrorAxis_quiet _ _)
@[simp] theorem stopNow_boot : ∀ x0 x1 x2 s, (stopNow x0 x1 x2 s).boot = s.boot := by intros; unfold stopNow; simp
@[simp] theorem stopHard_boot : ∀ x0 x1 s, (stopHard x0 x1 s).boot = s.boot := by intros; unfold stopHard; simp
@[simp] theorem stopRamp_boot : ∀ x0 x1 x2 s, (stopRamp x0 x1 x2 s).boot = s.boot := by
  intros; unfold stopRamp; repeat' first | with_reducible rfl | (simp; done) | split
@[simp] theorem safeStop_boot : ∀ x0 s, (safeStop x0 s).boot = s.boot := by
  intros; unfold safeStop; repeat' first | with_reducible rfl | (simp; done) | split
@[simp] theorem axDo_boot : ∀ x0 x1 s, (axDo x0 x1 s).boot = s.boot := by
  intros; unfold axDo; repeat' first | with_reducible rfl | (simp; done) | split
@[simp] theorem axCommand_boot : ∀ x0 x1 x2 x3 s, (axCommand x0 x1 x2 x3 s).2.boot = s.boot := by
  intros; unfold axCommand; try dsimp only
  repeat' first | with_reducible rfl | (simp; done) | split | refine Eq.trans (forAll_boot _ _ _ fun _ _ => ?_) ?_ |
    (simp only [onBar, onDev, andThen, valueOk, checked, rated, holderOnly, forwarded]; try dsimp only) | (simp; intros)
@[simp] theorem axWrite_boot : ∀ x0 x1 x2 s, (axWrite x0 x1 x2 s).boot = s.boot := fun _ _ _ s =>
  writeThrough_boot _ _ _ _ _ s (fun _ _ _ _ t => axCommand_boot _ _ _ _ t)
@[simp] theorem startArmed_boot : ∀ s, (startArmed s).boot = s.boot := by
  intros; unfold startArmed; try dsimp only
  repeat' first | with_reducible rfl | (simp; done) | split | refine Eq.trans (forAll_boot _ _ _ fun _ _ => ?_) ?_ |
    (simp only [onBar, onDev, andThen, valueOk, checked, rated, holderOnly, forwarded]; try dsimp only) | (simp; intros)
@[simp] theorem axStartEffect_boot : ∀ x0 x1 x2 x3 s, (axStartEffect x0 x1 x2 x3 s).2.boot = s.boot := by
  intros; unfold axStartEffect; try dsimp only
  repeat' first | with_reducible rfl | (simp; done) | split | refine Eq.trans (forAll_boot _ _ _ fun _ _ => ?_) ?_ |
    (simp only [onBar, onDev, andThen, valueOk, checked, rated, holderOnly, forwarded]; try dsimp only) | (simp; intros)
@[simp] theorem homeFails_boot : ∀ x0 s, (homeFails x0 s).boot = s.boot := by intros; unfold homeFails; split <;> simp
@[simp] theorem stopEnd_boot : ∀ x0 x1 s, (stopEnd x0 x1 s).boot = s.boot := by
  intros; unfold stopEnd; repeat' first | with_reducible rfl | (simp; done) | split
@[simp] theorem axisTick_boot : ∀ x0 s, (axisTick x0 s).boot = s.boot := by
  intros; unfold axisTick; try dsimp only
  repeat' first | with_reducible rfl | (simp; done) | split | refine Eq.trans (forAll_boot _ _ _ fun _ _ => ?_) ?_ |
    (simp only [onBar, onDev, andThen, valueOk, checked, rated, holderOnly, forwarded]; try dsimp only) | (simp; intros)
@[simp] theorem axisUpdate_boot : ∀ x0 s, (axisUpdate x0 s).boot = s.boot := by
  intros; unfold axisUpdate; repeat' first | with_reducible rfl | (simp; done) | split
@[simp] theorem limitStop_boot : ∀ x0 s, (limitStop x0 s).boot = s.boot := by
  intros; unfold limitStop; dsimp only; repeat' first | with_reducible rfl | (simp; done) | split
@[simp] theorem mirroredProfile_boot : ∀ x0 s, (mirroredProfile x0 s).boot = s.boot := by
  intros; unfold mirroredProfile; try dsimp only
  repeat' first | with_reducible rfl | (simp; done) | split | refine Eq.trans (forAll_boot _ _ _ fun _ _ => ?_) ?_ |
    (simp only [onBar, onDev, andThen, valueOk, checked, rated, holderOnly, forwarded, withRate, hostTime, toStandby, onRecord, byThread, byMachine, upFrame]; try dsimp only) | (simp; intros)
@[simp] theorem takeoverAxis_boot : ∀ x0 s, (takeoverAxis x0 s).boot = s.boot := by
  intros; unfold takeoverAxis; try dsimp only
  repeat' first | with_reducible rfl | (simp; done) | split | refine Eq.trans (forAll_boot _ _ _ fun _ _ => ?_) ?_ |
    (simp only [onBar, onDev, andThen, valueOk, checked, rated, holderOnly, forwarded]; try dsimp only) | (simp; intros)
@[simp] theorem followCheck_boot : ∀ x0 x1 x2 s, (followCheck x0 x1 x2 s).boot = s.boot := by
  intros; unfold followCheck; try dsimp only
  repeat' first | with_reducible rfl | (simp; done) | split | refine Eq.trans (forAll_boot _ _ _ fun _ _ => ?_) ?_ |
    (simp only [onBar, onDev, andThen, valueOk, checked, rated, holderOnly, forwarded]; try dsimp only) | (simp; intros)
@[simp] theorem ssiValid_boot : ∀ x0 x1 s, (ssiValid x0 x1 s).boot = s.boot := by
  intros; unfold ssiValid; try dsimp only
  repeat' first | with_reducible rfl | (simp; done) | split | refine Eq.trans (forAll_boot _ _ _ fun _ _ => ?_) ?_ |
    (simp only [onBar, onDev, andThen, valueOk, checked, rated, holderOnly, forwarded]; try dsimp only) | (simp; intros)
@[simp] theorem ssiInvalid_boot : ∀ x0 s, (ssiInvalid x0 s).boot = s.boot := by
  intros; unfold ssiInvalid; try dsimp only
  repeat' first | with_reducible rfl | (simp; done) | split | refine Eq.trans (forAll_boot _ _ _ fun _ _ => ?_) ?_ |
    (simp only [onBar, onDev, andThen, valueOk, checked, rated, holderOnly, forwarded]; try dsimp only) | (simp; intros)
@[simp] theorem webSlowAsk_boot : ∀ x0 s, (webSlowAsk x0 s).boot = s.boot := by
  intros; unfold webSlowAsk; repeat' first | with_reducible rfl | (simp; done) | split
@[simp] theorem webSlowJudge_boot : ∀ s, (webSlowJudge s).boot = s.boot := by
  intros; unfold webSlowJudge; repeat' first | with_reducible rfl | (simp; done) | split
@[simp] theorem lapseAll_boot : ∀ s, (lapseAll s).boot = s.boot := fun s => quiet_to_boot (lapseAll_quiet _)
@[simp] theorem printClock_boot : ∀ x0 s, (printClock x0 s).boot = s.boot := by
  intros; unfold printClock; repeat' first | with_reducible rfl | (simp; done) | split
@[simp] theorem setDev_boot : ∀ x0 x1 s, (setDev x0 x1 s).boot = s.boot := by
  intros; unfold setDev; repeat' first | with_reducible rfl | (simp; done) | split
@[simp] theorem wakeLane_boot : ∀ x0 s, (wakeLane x0 s).boot = s.boot := by
  intros; unfold wakeLane; repeat' first | with_reducible rfl | (simp; done) | split
@[simp] theorem unpin_boot : ∀ x0 x1 s, (unpin x0 x1 s).boot = s.boot := fun x0 x1 s => quiet_to_boot (unpin_quiet _ _ _)
@[simp] theorem dropJobs_boot : ∀ x0 x1 s, (dropJobs x0 x1 s).boot = s.boot := by intros; unfold dropJobs; simp
@[simp] theorem clearBar_boot : ∀ x0 s, (clearBar x0 s).boot = s.boot := fun x0 s => quiet_to_boot (clearBar_quiet _ _)
@[simp] theorem emptyBar_boot : ∀ x0 s, (emptyBar x0 s).boot = s.boot := by
  intro b s
  have e : emptyBar b s = webSlowJudge (applyQuota b (clearBar b (dropJobs b (notStarted s b) (forAll (notStarted s b)
      (unpin b) s)))) := rfl
  rw [e, webSlowJudge_boot, applyQuota_boot, clearBar_boot, dropJobs_boot]
  exact forAll_boot _ _ s (unpin_boot b)
@[simp] theorem moveVb_boot : ∀ x0 x1 s, (moveVb x0 x1 s).boot = s.boot := by
  intros; unfold moveVb; try dsimp only
  repeat' first | with_reducible rfl | (simp; done) | split | refine Eq.trans (forAll_boot _ _ _ fun _ _ => ?_) ?_ |
    (simp only [onBar, onDev, andThen, valueOk, checked, rated, holderOnly, forwarded]; try dsimp only) | (simp; intros)
@[simp] theorem followBars_boot : ∀ s, (followBars s).boot = s.boot := by
  intros; unfold followBars; repeat' first | with_reducible rfl | (simp; done) | split
@[simp] theorem setVb_boot : ∀ x0 x1 s, (setVb x0 x1 s).boot = s.boot := by
  intros; unfold setVb; try dsimp only
  repeat' first | with_reducible rfl | (simp; done) | split | refine Eq.trans (forAll_boot _ _ _ fun _ _ => ?_) ?_ |
    (simp only [onBar, onDev, andThen, valueOk, checked, rated, holderOnly, forwarded]; try dsimp only) | (simp; intros)
@[simp] theorem advanceBar_boot : ∀ x0 x1 s, (advanceBar x0 x1 s).boot = s.boot := by
  intro x0 n
  induction n with
  | zero => intro s; rfl
  | succ n ih => intro s; unfold advanceBar; repeat' first | with_reducible rfl | (simp [ih]; done) | split
@[simp] theorem advanceBars_boot : ∀ s, (advanceBars s).boot = s.boot := by
  intros; unfold advanceBars; repeat' first | with_reducible rfl | (simp; done) | split
@[simp] theorem targetBar_boot : ∀ x0 x1 s, (targetBar x0 x1 s).2.boot = s.boot := by
  intros; unfold targetBar; repeat' first | with_reducible rfl | (simp; done) | split
@[simp] theorem pageEnd_boot : ∀ x0 x1 x2 x3 s, (pageEnd x0 x1 x2 x3 s).boot = s.boot := fun x0 x1 x2 x3 s => quiet_to_boot (pageEnd_quiet _ _ _ _ _)
@[simp] theorem setSupply_boot : ∀ x0 x1 s, (setSupply x0 x1 s).boot = s.boot := by
  intros; unfold setSupply; try dsimp only
  repeat' first | with_reducible rfl | (simp; done) | split | refine Eq.trans (forAll_boot _ _ _ fun _ _ => ?_) ?_ |
    (simp only [onBar, onDev, andThen, valueOk, checked, rated, holderOnly, forwarded]; try dsimp only) | (simp; intros)
@[simp] theorem mirrorSupply_boot : ∀ x0 s, (mirrorSupply x0 s).boot = s.boot := fun x0 s => quiet_to_boot (mirrorSupply_quiet _ _)
@[simp] theorem disableSupply_boot : ∀ x0 s, (disableSupply x0 s).boot = s.boot := by
  intros; unfold disableSupply; repeat' first | with_reducible rfl | (simp; done) | split
@[simp] theorem disableAll_boot : ∀ s, (disableAll s).boot = s.boot := by intros; unfold disableAll; simp
@[simp] theorem abandonStrips_boot : ∀ x0 x1 s, (abandonStrips x0 x1 s).boot = s.boot := fun x0 x1 s => quiet_to_boot (abandonStrips_quiet _ _ _)
@[simp] theorem cutStrips_boot : ∀ x0 s, (cutStrips x0 s).boot = s.boot := fun x0 s => quiet_to_boot (cutStrips_quiet _ _)
@[simp] theorem cutBar_boot : ∀ x0 s, (cutBar x0 s).boot = s.boot := fun x0 s => quiet_to_boot (cutBar_quiet _ _)
@[simp] theorem enterSafe_boot : ∀ s, (enterSafe s).boot = s.boot := by intros; unfold enterSafe; simp
@[simp] theorem riseSupply_boot : ∀ x0 s, (riseSupply x0 s).boot = s.boot := by intros; unfold riseSupply; simp
@[simp] theorem enableSupply_boot : ∀ x0 s, (enableSupply x0 s).boot = s.boot := by
  intros; unfold enableSupply; repeat' first | with_reducible rfl | (simp; done) | split
@[simp] theorem riseWaiting_boot : ∀ s, (riseWaiting s).boot = s.boot := by intros; unfold riseWaiting; simp
@[simp] theorem hvCommand_boot : ∀ x0 x1 x2 x3 s, (hvCommand x0 x1 x2 x3 s).2.boot = s.boot := by
  intros; unfold hvCommand; try dsimp only
  repeat' first | with_reducible rfl | (simp; done) | split | refine Eq.trans (forAll_boot _ _ _ fun _ _ => ?_) ?_ |
    (simp only [onBar, onDev, andThen, valueOk, checked, rated, holderOnly, forwarded]; try dsimp only) | (simp; intros)
@[simp] theorem barFault_boot : ∀ x0 x1 x2 s, (barFault x0 x1 x2 s).boot = s.boot := by intros; unfold barFault; simp
@[simp] theorem takeTrip_boot : ∀ x0 x1 s, (takeTrip x0 x1 s).boot = s.boot := by
  intros; unfold takeTrip; dsimp only
  split
  · split <;> simp
  · simp
@[simp] theorem acceptTrip_boot : ∀ x0 s, (acceptTrip x0 s).boot = s.boot := by
  intros; unfold acceptTrip; try dsimp only
  repeat' first | with_reducible rfl | (simp; done) | split | refine Eq.trans (forAll_boot _ _ _ fun _ _ => ?_) ?_ |
    (simp only [onBar, onDev, andThen, valueOk, checked, rated, holderOnly, forwarded, withRate, hostTime, toStandby, onRecord, byThread, byMachine, upFrame]; try dsimp only) | (simp; intros)
@[simp] theorem standbyClear_boot : ∀ x0 s, (standbyClear x0 s).boot = s.boot := by
  intros; unfold standbyClear; try dsimp only
  repeat' first | with_reducible rfl | (simp; done) | split | refine Eq.trans (forAll_boot _ _ _ fun _ _ => ?_) ?_ |
    (simp only [onBar, onDev, andThen, valueOk, checked, rated, holderOnly, forwarded]; try dsimp only) | (simp; intros)
@[simp] theorem endBlank_boot : ∀ x0 s, (endBlank x0 s).boot = s.boot := by
  intros; unfold endBlank; try dsimp only
  repeat' first | with_reducible rfl | (simp; done) | split | refine Eq.trans (forAll_boot _ _ _ fun _ _ => ?_) ?_ |
    (simp only [onBar, onDev, andThen, valueOk, checked, rated, holderOnly, forwarded]; try dsimp only) | (simp; intros)
@[simp] theorem blankEnds_boot : ∀ x0 s, (blankEnds x0 s).boot = s.boot := by
  intros; unfold blankEnds; try dsimp only
  repeat' first | with_reducible rfl | (simp; done) | split | refine Eq.trans (forAll_boot _ _ _ fun _ _ => ?_) ?_ |
    (simp only [onBar, onDev, andThen, valueOk, checked, rated, holderOnly, forwarded, withRate, hostTime, toStandby, onRecord, byThread, byMachine, upFrame]; try dsimp only) | (simp; intros)
@[simp] theorem markRows_boot : ∀ x0 x1 x2 x3 x4 s, (markRows x0 x1 x2 x3 x4 s).boot = s.boot := fun x0 x1 x2 x3 x4 s => quiet_to_boot (markRows_quiet _ _ _ _ _ _)
@[simp] theorem dropWaits_boot : ∀ x0 s, (dropWaits x0 s).boot = s.boot := fun x0 s => quiet_to_boot (dropWaits_quiet _ _)
@[simp] theorem resetTries_boot : ∀ x0 s, (resetTries x0 s).boot = s.boot := by intros; unfold resetTries; simp
@[simp] theorem faultNext_boot : ∀ x0 x1 s, (faultNext x0 x1 s).boot = s.boot := by
  intros; unfold faultNext; repeat' first | with_reducible rfl | (simp; done) | split
@[simp] theorem laneFault_boot : ∀ x0 x1 s, (laneFault x0 x1 s).boot = s.boot := by
  intros; unfold laneFault; try dsimp only
  repeat' first | with_reducible rfl | (simp; done) | split | refine Eq.trans (forAll_boot _ _ _ fun _ _ => ?_) ?_ |
    (simp only [onBar, onDev, andThen, valueOk, checked, rated, holderOnly, forwarded]; try dsimp only) | (simp; intros)
@[simp] theorem frameCrc_boot : ∀ x0 s, (frameCrc x0 s).boot = s.boot := by
  intros; unfold frameCrc; try dsimp only
  repeat' first | with_reducible rfl | (simp; done) | split | refine Eq.trans (forAll_boot _ _ _ fun _ _ => ?_) ?_ |
    (simp only [onBar, onDev, andThen, valueOk, checked, rated, holderOnly, forwarded]; try dsimp only) | (simp; intros)
@[simp] theorem trainEnd_boot : ∀ x0 s, (trainEnd x0 s).boot = s.boot := by
  intros; unfold trainEnd; repeat' first | with_reducible rfl | (simp; done) | split
@[simp] theorem trainStep_boot : ∀ x0 x1 s, (trainStep x0 x1 s).boot = s.boot := by
  intros; unfold trainStep; try dsimp only
  repeat' first | with_reducible rfl | (simp; done) | split | refine Eq.trans (forAll_boot _ _ _ fun _ _ => ?_) ?_ |
    (simp only [onBar, onDev, andThen, valueOk, checked, rated, holderOnly, forwarded]; try dsimp only) | (simp; intros)
@[simp] theorem identDone_boot : ∀ x0 x1 s, (identDone x0 x1 s).boot = s.boot := by
  intros; unfold identDone; try dsimp only
  repeat' first | with_reducible rfl | (simp; done) | split | refine Eq.trans (forAll_boot _ _ _ fun _ _ => ?_) ?_ |
    (simp only [onBar, onDev, andThen, valueOk, checked, rated, holderOnly, forwarded]; try dsimp only) | (simp; intros)
@[simp] theorem identRead_boot : ∀ x0 x1 s, (identRead x0 x1 s).boot = s.boot := by
  intros; unfold identRead; try dsimp only
  repeat' first | with_reducible rfl | (simp; done) | split | refine Eq.trans (forAll_boot _ _ _ fun _ _ => ?_) ?_ |
    (simp only [onBar, onDev, andThen, valueOk, checked, rated, holderOnly, forwarded, withRate, hostTime, toStandby, onRecord, byThread, byMachine, upFrame]; try dsimp only) | (simp; intros)
@[simp] theorem ackWrite_boot : ∀ x0 x1 x2 s, (ackWrite x0 x1 x2 s).boot = s.boot := fun x0 x1 x2 s => quiet_to_boot (ackWrite_quiet _ _ _ _)
@[simp] theorem answered_boot : ∀ x0 x1 x2 s, (answered x0 x1 x2 s).boot = s.boot := by
  intros; unfold answered; try dsimp only
  repeat' first | with_reducible rfl | (simp; done) | split | refine Eq.trans (forAll_boot _ _ _ fun _ _ => ?_) ?_ |
    (simp only [onBar, onDev, andThen, valueOk, checked, rated, holderOnly, forwarded]; try dsimp only) | (simp; intros)
@[simp] theorem reqTimeout_boot : ∀ x0 x1 s, (reqTimeout x0 x1 s).boot = s.boot := by
  intros; unfold reqTimeout; repeat' first | with_reducible rfl | (simp; done) | split
@[simp] theorem activateLate_boot : ∀ x0 x1 s, (activateLate x0 x1 s).boot = s.boot := by
  intros; unfold activateLate; try dsimp only
  repeat' first | with_reducible rfl | (simp; done) | split | refine Eq.trans (forAll_boot _ _ _ fun _ _ => ?_) ?_ |
    (simp only [onBar, onDev, andThen, valueOk, checked, rated, holderOnly, forwarded]; try dsimp only) | (simp; intros)
@[simp] theorem laneEnable_boot : ∀ x0 s, (laneEnable x0 s).boot = s.boot := by
  intros; unfold laneEnable; repeat' first | with_reducible rfl | (simp; done) | split
@[simp] theorem laneRecheck_boot : ∀ x0 s, (laneRecheck x0 s).boot = s.boot := by
  intros; unfold laneRecheck; repeat' first | with_reducible rfl | (simp; done) | split
@[simp] theorem drayPort_boot : ∀ x0 x1 s, (drayPort x0 x1 s).boot = s.boot := by
  intros; unfold drayPort; try dsimp only
  repeat' first | with_reducible rfl | (simp; done) | split | refine Eq.trans (forAll_boot _ _ _ fun _ _ => ?_) ?_ |
    (simp only [onBar, onDev, andThen, valueOk, checked, rated, holderOnly, forwarded]; try dsimp only) | (simp; intros)
@[simp] theorem drayReads_boot : ∀ x0 s, (drayReads x0 s).boot = s.boot := by intros; unfold drayReads; simp
@[simp] theorem noteOverlaps_boot : ∀ x0 x1 s, (noteOverlaps x0 x1 s).boot = s.boot := fun x0 x1 s => quiet_to_boot (noteOverlaps_quiet _ _ _)
@[simp] theorem screenLate_boot : ∀ x0 x1 x2 s, (screenLate x0 x1 x2 s).boot = s.boot := fun x0 x1 x2 s => quiet_to_boot (screenLate_quiet _ _ _ _)
@[simp] theorem awaitLate_boot : ∀ x0 x1 s, (awaitLate x0 x1 s).boot = s.boot := fun x0 x1 s => quiet_to_boot (awaitLate_quiet _ _ _)
@[simp] theorem drayLate_boot : ∀ x0 x1 x2 s, (drayLate x0 x1 x2 s).boot = s.boot := fun x0 x1 x2 s => quiet_to_boot (drayLate_quiet _ _ _ _)
@[simp] theorem countWithheld_boot : ∀ x0 s, (countWithheld x0 s).boot = s.boot := fun x0 s => quiet_to_boot (countWithheld_quiet _ _)
@[simp] theorem sendBurst_boot : ∀ x0 x1 x2 s, (sendBurst x0 x1 x2 s).boot = s.boot := by intros; unfold sendBurst; simp
@[simp] theorem sendBursts_boot : ∀ x0 x1 x2 x3 s, (sendBursts x0 x1 x2 x3 s).boot = s.boot := by
  intros; unfold sendBursts; repeat' first | with_reducible rfl | (simp; done) | split
@[simp] theorem launchPort_boot : ∀ x0 x1 x2 s, (launchPort x0 x1 x2 s).boot = s.boot := by
  intros; unfold launchPort; try dsimp only
  repeat' first | with_reducible rfl | (simp; done) | split | refine Eq.trans (forAll_boot _ _ _ fun _ _ => ?_) ?_ |
    (simp only [onBar, onDev, andThen, valueOk, checked, rated, holderOnly, forwarded]; try dsimp only) | (simp; intros)
@[simp] theorem launchLine_boot : ∀ x0 x1 s, (launchLine x0 x1 s).boot = s.boot := by
  intros; unfold launchLine; repeat' first | with_reducible rfl | (simp; done) | split
@[simp] theorem placeStrip_boot : ∀ x0 x1 x2 s, (placeStrip x0 x1 x2 s).boot = s.boot := fun x0 x1 x2 s => quiet_to_boot (placeStrip_quiet _ _ _ _)
@[simp] theorem decideStrip_boot : ∀ x0 s, (decideStrip x0 s).boot = s.boot := fun x0 s => quiet_to_boot (decideStrip_quiet _ _)
@[simp] theorem missMark_boot : ∀ x0 x1 x2 x3 s, (missMark x0 x1 x2 x3 s).boot = s.boot := fun x0 x1 x2 x3 s => quiet_to_boot (missMark_quiet _ _ _ _ _)
@[simp] theorem dropMarks_boot : ∀ x0 x1 s, (dropMarks x0 x1 s).boot = s.boot := fun x0 x1 s => quiet_to_boot (dropMarks_quiet _ _ _)
@[simp] theorem noteReady_boot : ∀ x0 s, (noteReady x0 s).boot = s.boot := fun x0 s => quiet_to_boot (noteReady_quiet _ _)
@[simp] theorem bandSelects_boot : ∀ x0 x1 s, (bandSelects x0 x1 s).boot = s.boot := fun x0 x1 s => quiet_to_boot (bandSelects_quiet _ _ _)
@[simp] theorem decideBand_boot : ∀ x0 x1 s, (decideBand x0 x1 s).boot = s.boot := fun x0 x1 s => quiet_to_boot (decideBand_quiet _ _ _)
@[simp] theorem freezeBand_boot : ∀ x0 x1 x2 s, (freezeBand x0 x1 x2 s).boot = s.boot := fun x0 x1 x2 s => quiet_to_boot (freezeBand_quiet _ _ _ _)
@[simp] theorem fixFlip_boot : ∀ x0 x1 x2 x3 s, (fixFlip x0 x1 x2 x3 s).boot = s.boot := by
  intros; unfold fixFlip; try dsimp only
  repeat' first | with_reducible rfl | (simp; done) | split | refine Eq.trans (forAll_boot _ _ _ fun _ _ => ?_) ?_ |
    (simp only [onBar, onDev, andThen, valueOk, checked, rated, holderOnly, forwarded]; try dsimp only) | (simp; intros)
@[simp] theorem judgeLate_boot : ∀ x0 x1 s, (judgeLate x0 x1 s).boot = s.boot := by
  intros; unfold judgeLate; try dsimp only
  repeat' first | with_reducible rfl | (simp; done) | split | refine Eq.trans (forAll_boot _ _ _ fun _ _ => ?_) ?_ |
    (simp only [onBar, onDev, andThen, valueOk, checked, rated, holderOnly, forwarded]; try dsimp only) | (simp; intros)
@[simp] theorem headsStarted_boot : ∀ x0 s, (headsStarted x0 s).boot = s.boot := by
  intros; unfold headsStarted; try dsimp only
  repeat' first | with_reducible rfl | (simp; done) | split | refine Eq.trans (forAll_boot _ _ _ fun _ _ => ?_) ?_ |
    (simp only [onBar, onDev, andThen, valueOk, checked, rated, holderOnly, forwarded, withRate, hostTime, toStandby, onRecord, byThread, byMachine, upFrame]; try dsimp only) | (simp; intros)
@[simp] theorem startPage_boot : ∀ x0 x1 x2 x3 s, (startPage x0 x1 x2 x3 s).boot = s.boot := by
  intros; unfold startPage; try dsimp only
  repeat' first | with_reducible rfl | (simp; done) | split | refine Eq.trans (forAll_boot _ _ _ fun _ _ => ?_) ?_ |
    (simp only [onBar, onDev, andThen, valueOk, checked, rated, holderOnly, forwarded]; try dsimp only) | (simp; intros)
@[simp] theorem wqTailEffect_boot : ∀ x0 x1 x2 x3 s, (wqTailEffect x0 x1 x2 x3 s).2.boot = s.boot := fun x0 x1 x2 x3 s => quiet_to_boot (wqTailEffect_quiet _ _ _ _ _)
@[simp] theorem eqHeadEffect_boot : ∀ x0 x1 x2 x3 s, (eqHeadEffect x0 x1 x2 x3 s).2.boot = s.boot := fun x0 x1 x2 x3 s => quiet_to_boot (eqHeadEffect_quiet _ _ _ _ _)
@[simp] theorem deqHeadEffect_boot : ∀ x0 x1 x2 x3 s, (deqHeadEffect x0 x1 x2 x3 s).2.boot = s.boot := by
  intro x0 x1 x2 w s
  have e : deqHeadEffect x0 x1 x2 w s = if headRefused s.deqHead s.deqTail w.toNat = true then (stRange, s)
      else (stOK, deqFlush { s with deqHead := w.toNat }) := by rw [deqHeadEffect, onDev]
  have e' : (stOK, deqFlush { s with deqHead := w.toNat }).2 = deqFlush { s with deqHead := w.toNat } := rfl
  by_cases h : headRefused s.deqHead s.deqTail w.toNat = true
  · rw [e, if_pos h]
  · rw [e, if_neg h, e', deqFlush_boot]
@[simp] theorem deqEnEffect_boot : ∀ x0 x1 x2 x3 s, (deqEnEffect x0 x1 x2 x3 s).2.boot = s.boot := fun x0 x1 x2 x3 s => quiet_to_boot (deqEnEffect_quiet _ _ _ _ _)
@[simp] theorem dmaJudge_boot : ∀ x0 x1 s, (dmaJudge x0 x1 s).boot = s.boot := fun x0 x1 s => quiet_to_boot (dmaJudge_quiet _ _ _)
@[simp] theorem fetchAgain_boot : ∀ x0 s, (fetchAgain x0 s).boot = s.boot := fun x0 s => quiet_to_boot (fetchAgain_quiet _ _)
@[simp] theorem busMaster_boot : ∀ x0 x1 s, (busMaster x0 x1 s).boot = s.boot := fun x0 x1 s => quiet_to_boot (busMaster_quiet _ _ _)
@[simp] theorem queueEffect_boot : ∀ x0 x1 x2 x3 s, (queueEffect x0 x1 x2 x3 s).2.boot = s.boot := by
  intros; unfold queueEffect; try dsimp only
  repeat' first | with_reducible rfl | (simp; done) | split | refine Eq.trans (forAll_boot _ _ _ fun _ _ => ?_) ?_ |
    (simp only [onBar, onDev, andThen, valueOk, checked, rated, holderOnly, forwarded]; try dsimp only) | (simp; intros)
@[simp] theorem deqRingEffect_boot : ∀ x0 x1 x2 x3 s, (deqRingEffect x0 x1 x2 x3 s).2.boot = s.boot := fun x0 x1 x2 x3 s => quiet_to_boot (deqRingEffect_quiet _ _ _ _ _)
@[simp] theorem djTailEffect_boot : ∀ x0 x1 x2 x3 s, (djTailEffect x0 x1 x2 x3 s).2.boot = s.boot := fun x0 x1 x2 x3 s => quiet_to_boot (djTailEffect_quiet _ _ _ _ _)
@[simp] theorem modFlight_boot : ∀ x0 x1 x2 s, (modFlight x0 x1 x2 s).boot = s.boot := fun x0 x1 x2 s => quiet_to_boot (modFlight_quiet _ _ _ _)
@[simp] theorem advanceHead_boot : ∀ x0 s, (advanceHead x0 s).boot = s.boot := fun x0 s => quiet_to_boot (advanceHead_quiet _ _)
@[simp] theorem flightDone_boot : ∀ x0 x1 s, (flightDone x0 x1 s).boot = s.boot := fun x0 x1 s => quiet_to_boot (flightDone_quiet _ _ _)
@[simp] theorem beginFetch_boot : ∀ x0 x1 s, (beginFetch x0 x1 s).boot = s.boot := fun x0 x1 s => quiet_to_boot (beginFetch_quiet _ _ _)
@[simp] theorem grantFetch_boot : ∀ x0 s, (grantFetch x0 s).boot = s.boot := by
  intros; unfold grantFetch; try dsimp only
  repeat' first | with_reducible rfl | (simp; done) | split | refine Eq.trans (forAll_boot _ _ _ fun _ _ => ?_) ?_ |
    (simp only [onBar, onDev, andThen, valueOk, checked, rated, holderOnly, forwarded]; try dsimp only) | (simp; intros)
@[simp] theorem wbFail_boot : ∀ x0 x1 x2 x3 x4 x5 s, (wbFail x0 x1 x2 x3 x4 x5 s).boot = s.boot := fun x0 x1 x2 x3 x4 x5 s => quiet_to_boot (wbFail_quiet _ _ _ _ _ _ _)
@[simp] theorem notify_boot : ∀ x0 x1 x2 s, (notify x0 x1 x2 s).boot = s.boot := fun x0 x1 x2 s => quiet_to_boot (notify_quiet _ _ _ _)
@[simp] theorem addPage_boot : ∀ x0 x1 s, (addPage x0 x1 s).boot = s.boot := fun x0 x1 s => quiet_to_boot (addPage_quiet _ _ _)
@[simp] theorem peerFlip_boot : ∀ x0 x1 x2 x3 s, (peerFlip x0 x1 x2 x3 s).boot = s.boot := by
  intros; unfold peerFlip; try dsimp only
  repeat' first | with_reducible rfl | (simp; done) | split | refine Eq.trans (forAll_boot _ _ _ fun _ _ => ?_) ?_ |
    (simp only [onBar, onDev, andThen, valueOk, checked, rated, holderOnly, forwarded, withRate, hostTime, toStandby, onRecord, byThread, byMachine, upFrame]; try dsimp only) | (simp; intros)
@[simp] theorem takeAhead_boot : ∀ x0 x1 s, (takeAhead x0 x1 s).boot = s.boot := by
  intros; unfold takeAhead; try dsimp only
  repeat' first | with_reducible rfl | (simp; done) | split | refine Eq.trans (forAll_boot _ _ _ fun _ _ => ?_) ?_ |
    (simp only [onBar, onDev, andThen, valueOk, checked, rated, holderOnly, forwarded]; try dsimp only) | (simp; intros)
@[simp] theorem acceptHead_boot : ∀ x0 x1 x2 s, (acceptHead x0 x1 x2 s).boot = s.boot := by intros; unfold acceptHead; simp
@[simp] theorem checkHead_boot : ∀ x0 x1 s, (checkHead x0 x1 s).boot = s.boot := by
  intros; unfold checkHead; try dsimp only
  repeat' first | with_reducible rfl | (simp; done) | split | refine Eq.trans (forAll_boot _ _ _ fun _ _ => ?_) ?_ |
    (simp only [onBar, onDev, andThen, valueOk, checked, rated, holderOnly, forwarded]; try dsimp only) | (simp; intros)
@[simp] theorem finishPage_boot : ∀ x0 x1 s, (finishPage x0 x1 s).boot = s.boot := fun x0 x1 s => quiet_to_boot (finishPage_quiet _ _ _)
@[simp] theorem settle_boot : ∀ x0 x1 s, (settle x0 x1 s).boot = s.boot := fun x0 x1 s => quiet_to_boot (settle_quiet _ _ _)
@[simp] theorem checkWagon_boot : ∀ x0 x1 s, (checkWagon x0 x1 s).boot = s.boot := fun x0 x1 s => quiet_to_boot (checkWagon_quiet _ _ _)
@[simp] theorem reprintPage_boot : ∀ x0 x1 x2 s, (reprintPage x0 x1 x2 s).boot = s.boot := by
  intros; unfold reprintPage; try dsimp only
  repeat' first | with_reducible rfl | (simp; done) | split | refine Eq.trans (forAll_boot _ _ _ fun _ _ => ?_) ?_ |
    (simp only [onBar, onDev, andThen, valueOk, checked, rated, holderOnly, forwarded, withRate, hostTime, toStandby, onRecord, byThread, byMachine, upFrame]; try dsimp only) | (simp; intros)
@[simp] theorem checkReprint_boot : ∀ x0 x1 s, (checkReprint x0 x1 s).boot = s.boot := by
  intros; unfold checkReprint; try dsimp only
  repeat' first | with_reducible rfl | (simp; done) | split | refine Eq.trans (forAll_boot _ _ _ fun _ _ => ?_) ?_ |
    (simp only [onBar, onDev, andThen, valueOk, checked, rated, holderOnly, forwarded]; try dsimp only) | (simp; intros)
@[simp] theorem checkWaybill_boot : ∀ x0 x1 s, (checkWaybill x0 x1 s).boot = s.boot := by
  intros; unfold checkWaybill; try dsimp only
  repeat' first | with_reducible rfl | (simp; done) | split | refine Eq.trans (forAll_boot _ _ _ fun _ _ => ?_) ?_ |
    (simp only [onBar, onDev, andThen, valueOk, checked, rated, holderOnly, forwarded]; try dsimp only) | (simp; intros)
@[simp] theorem checkRun_boot : ∀ x0 x1 s, (checkRun x0 x1 s).boot = s.boot := by
  intro x0 n
  induction n with
  | zero => intro s; rfl
  | succ n ih => intro s; unfold checkRun; split; · split <;> simp [ih]
                 · rfl
@[simp] theorem checkAll_boot : ∀ x0 s, (checkAll x0 s).boot = s.boot := by intros; unfold checkAll; simp
@[simp] theorem resumeHold_boot : ∀ x0 s, (resumeHold x0 s).boot = s.boot := by
  intros; unfold resumeHold; try dsimp only
  repeat' first | with_reducible rfl | (simp; done) | split | refine Eq.trans (forAll_boot _ _ _ fun _ _ => ?_) ?_ |
    (simp only [onBar, onDev, andThen, valueOk, checked, rated, holderOnly, forwarded]; try dsimp only) | (simp; intros)
@[simp] theorem resumeIntake_boot : ∀ x0 s, (resumeIntake x0 s).boot = s.boot := by intros; unfold resumeIntake; simp
@[simp] theorem checkInteg_boot : ∀ x0 x1 x2 s, (checkInteg x0 x1 x2 s).boot = s.boot := by
  intros; unfold checkInteg; try dsimp only
  repeat' first | with_reducible rfl | (simp; done) | split | refine Eq.trans (forAll_boot _ _ _ fun _ _ => ?_) ?_ |
    (simp only [onBar, onDev, andThen, valueOk, checked, rated, holderOnly, forwarded]; try dsimp only) | (simp; intros)
@[simp] theorem haltPayloads_boot : ∀ x0 s, (haltPayloads x0 s).boot = s.boot := fun x0 s => quiet_to_boot (haltPayloads_quiet _ _)
@[simp] theorem storePayload_boot : ∀ x0 x1 x2 x3 s, (storePayload x0 x1 x2 x3 s).boot = s.boot := by
  intros; unfold storePayload; try dsimp only
  repeat' first | with_reducible rfl | (simp; done) | split | refine Eq.trans (forAll_boot _ _ _ fun _ _ => ?_) ?_ |
    (simp only [onBar, onDev, andThen, valueOk, checked, rated, holderOnly, forwarded]; try dsimp only) | (simp; intros)
@[simp] theorem abortFail_boot : ∀ x0 x1 x2 s, (abortFail x0 x1 x2 s).boot = s.boot := by
  intros; unfold abortFail; repeat' first | with_reducible rfl | (simp; done) | split
@[simp] theorem abortFetch_boot : ∀ x0 x1 x2 s, (abortFetch x0 x1 x2 s).boot = s.boot := by
  intros; unfold abortFetch; try dsimp only
  repeat' first | with_reducible rfl | (simp; done) | split | refine Eq.trans (forAll_boot _ _ _ fun _ _ => ?_) ?_ |
    (simp only [onBar, onDev, andThen, valueOk, checked, rated, holderOnly, forwarded]; try dsimp only) | (simp; intros)
@[simp] theorem modSlot_boot : ∀ x0 x1 x2 x3 s, (modSlot x0 x1 x2 x3 s).boot = s.boot := fun x0 x1 x2 x3 s => quiet_to_boot (modSlot_quiet _ _ _ _ _)
@[simp] theorem startEngine_boot : ∀ x0 x1 s, (startEngine x0 x1 s).boot = s.boot := by intros; unfold startEngine; simp
@[simp] theorem assignWagon_boot : ∀ s, (assignWagon s).boot = s.boot := by
  intros; unfold assignWagon; try dsimp only
  repeat' first | with_reducible rfl | (simp; done) | split | refine Eq.trans (forAll_boot _ _ _ fun _ _ => ?_) ?_ |
    (simp only [onBar, onDev, andThen, valueOk, checked, rated, holderOnly, forwarded]; try dsimp only) | (simp; intros)
@[simp] theorem freeEngine_boot : ∀ x0 s, (freeEngine x0 s).boot = s.boot := by
  intros; unfold freeEngine; try dsimp only
  repeat' first | with_reducible rfl | (simp; done) | split | refine Eq.trans (forAll_boot _ _ _ fun _ _ => ?_) ?_ |
    (simp only [onBar, onDev, andThen, valueOk, checked, rated, holderOnly, forwarded, withRate, hostTime, toStandby, onRecord, byThread, byMachine, upFrame]; try dsimp only) | (simp; intros)
@[simp] theorem failWagon_boot : ∀ x0 x1 x2 x3 x4 s, (failWagon x0 x1 x2 x3 x4 s).boot = s.boot := by intros; unfold failWagon; simp
@[simp] theorem rowDone_boot : ∀ x0 x1 x2 x3 x4 s, (rowDone x0 x1 x2 x3 x4 s).boot = s.boot := by
  intros; unfold rowDone; try dsimp only
  repeat' first | with_reducible rfl | (simp; done) | split | refine Eq.trans (forAll_boot _ _ _ fun _ _ => ?_) ?_ |
    (simp only [onBar, onDev, andThen, valueOk, checked, rated, holderOnly, forwarded]; try dsimp only) | (simp; intros)
@[simp] theorem wagonEnd_boot : ∀ x0 x1 x2 x3 x4 s, (wagonEnd x0 x1 x2 x3 x4 s).boot = s.boot := by
  intros; unfold wagonEnd; try dsimp only
  repeat' first | with_reducible rfl | (simp; done) | split | refine Eq.trans (forAll_boot _ _ _ fun _ _ => ?_) ?_ |
    (simp only [onBar, onDev, andThen, valueOk, checked, rated, holderOnly, forwarded]; try dsimp only) | (simp; intros)
@[simp] theorem engineLost_boot : ∀ x0 s, (engineLost x0 s).boot = s.boot := by
  intros; unfold engineLost; repeat' first | with_reducible rfl | (simp; done) | split
@[simp] theorem modJob_boot : ∀ x0 x1 x2 s, (modJob x0 x1 x2 s).boot = s.boot := fun x0 x1 x2 s => quiet_to_boot (modJob_quiet _ _ _ _)
@[simp] theorem dropJob_boot : ∀ x0 x1 s, (dropJob x0 x1 s).boot = s.boot := by intros; unfold dropJob; simp
@[simp] theorem writeBack_boot : ∀ x0 x1 x2 x3 x4 s, (writeBack x0 x1 x2 x3 x4 s).boot = s.boot := fun x0 x1 x2 x3 x4 s => quiet_to_boot (writeBack_quiet _ _ _ _ _ _)
@[simp] theorem takeDesc_boot : ∀ x0 s, (takeDesc x0 s).2.boot = s.boot := fun x0 s => quiet_to_boot (takeDesc_quiet _ _)
@[simp] theorem assignDeflate_boot : ∀ s, (assignDeflate s).boot = s.boot := by
  intros; unfold assignDeflate; try dsimp only
  repeat' first | with_reducible rfl | (simp; done) | split | refine Eq.trans (forAll_boot _ _ _ fun _ _ => ?_) ?_ |
    (simp only [onBar, onDev, andThen, valueOk, checked, rated, holderOnly, forwarded]; try dsimp only) | (simp; intros)
@[simp] theorem resumeJob_boot : ∀ x0 x1 x2 s, (resumeJob x0 x1 x2 s).boot = s.boot := fun x0 x1 x2 s => quiet_to_boot (resumeJob_quiet _ _ _ _)
@[simp] theorem closeBuf_boot : ∀ x0 x1 x2 s, (closeBuf x0 x1 x2 s).boot = s.boot := fun x0 x1 x2 s => quiet_to_boot (closeBuf_quiet _ _ _ _)
@[simp] theorem bufWrite_boot : ∀ x0 x1 x2 x3 s, (bufWrite x0 x1 x2 x3 s).boot = s.boot := fun x0 x1 x2 x3 s => quiet_to_boot (bufWrite_quiet _ _ _ _ _)
@[simp] theorem chainPut_boot : ∀ x0 x1 x2 x3 x4 x5 s, (chainPut x0 x1 x2 x3 x4 x5 s).2.boot = s.boot := fun x0 x1 x2 x3 x4 x5 s => quiet_to_boot (chainPut_quiet _ _ _ _ _ _ _)
@[simp] theorem flushStore_boot : ∀ x0 x1 x2 s, (flushStore x0 x1 x2 s).boot = s.boot := fun x0 x1 x2 s => quiet_to_boot (flushStore_quiet _ _ _ _)
@[simp] theorem chainReturn_boot : ∀ x0 x1 s, (chainReturn x0 x1 s).boot = s.boot := fun x0 x1 s => quiet_to_boot (chainReturn_quiet _ _ _)
@[simp] theorem releaseAudit_boot : ∀ x0 x1 s, (releaseAudit x0 x1 s).boot = s.boot := fun x0 x1 s => quiet_to_boot (releaseAudit_quiet _ _ _)
@[simp] theorem endJob_boot : ∀ x0 x1 x2 x3 s, (endJob x0 x1 x2 x3 s).boot = s.boot := by intros; unfold endJob; simp
@[simp] theorem cancelBuf_boot : ∀ x0 x1 s, (cancelBuf x0 x1 s).boot = s.boot := fun x0 x1 s => quiet_to_boot (cancelBuf_quiet _ _ _)
@[simp] theorem finishCamera_boot : ∀ x0 x1 s, (finishCamera x0 x1 s).boot = s.boot := by
  intros; unfold finishCamera; try dsimp only
  repeat' first | with_reducible rfl | (simp; done) | split | refine Eq.trans (forAll_boot _ _ _ fun _ _ => ?_) ?_ |
    (simp only [onBar, onDev, andThen, valueOk, checked, rated, holderOnly, forwarded, withRate, hostTime, toStandby, onRecord, byThread, byMachine, upFrame]; try dsimp only) | (simp; intros)
@[simp] theorem chainTailEffect_boot : ∀ x0 x1 x2 x3 x4 s, (chainTailEffect x0 x1 x2 x3 x4 s).2.boot = s.boot := by
  intros; unfold chainTailEffect; try dsimp only
  repeat' first | with_reducible rfl | (simp; done) | split | refine Eq.trans (forAll_boot _ _ _ fun _ _ => ?_) ?_ |
    (simp only [onBar, onDev, andThen, valueOk, checked, rated, holderOnly, forwarded]; try dsimp only) | (simp; intros)
@[simp] theorem blockWritten_boot : ∀ x0 x1 x2 x3 s, (blockWritten x0 x1 x2 x3 s).boot = s.boot := fun x0 x1 x2 x3 s => quiet_to_boot (blockWritten_quiet _ _ _ _ _)
@[simp] theorem stopBlock_boot : ∀ x0 x1 x2 x3 x4 x5 s, (stopBlock x0 x1 x2 x3 x4 x5 s).boot = s.boot := by
  intros; unfold stopBlock; try dsimp only
  repeat' first | with_reducible rfl | (simp; done) | split | refine Eq.trans (forAll_boot _ _ _ fun _ _ => ?_) ?_ |
    (simp only [onBar, onDev, andThen, valueOk, checked, rated, holderOnly, forwarded]; try dsimp only) | (simp; intros)
@[simp] theorem storeBlock_boot : ∀ x0 x1 x2 x3 x4 s, (storeBlock x0 x1 x2 x3 x4 s).boot = s.boot := fun x0 x1 x2 x3 x4 s => quiet_to_boot (storeBlock_quiet _ _ _ _ _ _)
@[simp] theorem chainBlock_boot : ∀ x0 x1 x2 x3 x4 x5 s, (chainBlock x0 x1 x2 x3 x4 x5 s).boot = s.boot := by
  intros; unfold chainBlock; try dsimp only
  repeat' first | with_reducible rfl | (simp; done) | split | refine Eq.trans (forAll_boot _ _ _ fun _ _ => ?_) ?_ |
    (simp only [onBar, onDev, andThen, valueOk, checked, rated, holderOnly, forwarded]; try dsimp only) | (simp; intros)
@[simp] theorem verifyFails_boot : ∀ x0 x1 s, (verifyFails x0 x1 s).boot = s.boot := by
  intros; unfold verifyFails; try dsimp only
  repeat' first | with_reducible rfl | (simp; done) | split | refine Eq.trans (forAll_boot _ _ _ fun _ _ => ?_) ?_ |
    (simp only [onBar, onDev, andThen, valueOk, checked, rated, holderOnly, forwarded, withRate, hostTime, toStandby, onRecord, byThread, byMachine, upFrame]; try dsimp only) | (simp; intros)
@[simp] theorem jobBlock_boot : ∀ x0 x1 x2 x3 x4 x5 x6 x7 s, (jobBlock x0 x1 x2 x3 x4 x5 x6 x7 s).boot = s.boot := by
  intros; unfold jobBlock; try dsimp only
  repeat' first | with_reducible rfl | (simp; done) | split | refine Eq.trans (forAll_boot _ _ _ fun _ _ => ?_) ?_ |
    (simp only [onBar, onDev, andThen, valueOk, checked, rated, holderOnly, forwarded, withRate, hostTime, toStandby, onRecord, byThread, byMachine, upFrame]; try dsimp only) | (simp; intros)
@[simp] theorem nextTurn_boot : ∀ x0 x1 x2 s, (nextTurn x0 x1 x2 s).boot = s.boot := by intros; unfold nextTurn; simp
@[simp] theorem dropAudit_boot : ∀ x0 s, (dropAudit x0 s).boot = s.boot := by intros; unfold dropAudit; simp
@[simp] theorem auditEffect_boot : ∀ x0 x1 x2 x3 s, (auditEffect x0 x1 x2 x3 s).2.boot = s.boot := by
  intros; unfold auditEffect; try dsimp only
  repeat' first | with_reducible rfl | (simp; done) | split | refine Eq.trans (forAll_boot _ _ _ fun _ _ => ?_) ?_ |
    (simp only [onBar, onDev, andThen, valueOk, checked, rated, holderOnly, forwarded]; try dsimp only) | (simp; intros)
@[simp] theorem flagProgress_boot : ∀ x0 x1 s, (flagProgress x0 x1 s).boot = s.boot := fun x0 x1 s => quiet_to_boot (flagProgress_quiet _ _ _)
@[simp] theorem flagAll_boot : ∀ x0 s, (flagAll x0 s).boot = s.boot := fun x0 s => quiet_to_boot (flagAll_quiet _ _)
@[simp] theorem encoderJudge_boot : ∀ s, (encoderJudge s).boot = s.boot := by
  intros; unfold encoderJudge; try dsimp only
  repeat' first | with_reducible rfl | (simp; done) | split | refine Eq.trans (forAll_boot _ _ _ fun _ _ => ?_) ?_ |
    (simp only [onBar, onDev, andThen, valueOk, checked, rated, holderOnly, forwarded, withRate, hostTime, toStandby, onRecord, byThread, byMachine, upFrame]; try dsimp only) | (simp; intros)
@[simp] theorem quadError_boot : ∀ x0 s, (quadError x0 s).boot = s.boot := by
  intros; unfold quadError; try dsimp only
  repeat' first | with_reducible rfl | (simp; done) | split | refine Eq.trans (forAll_boot _ _ _ fun _ _ => ?_) ?_ |
    (simp only [onBar, onDev, andThen, valueOk, checked, rated, holderOnly, forwarded]; try dsimp only) | (simp; intros)
@[simp] theorem countAbove_boot : ∀ x0 s, (countAbove x0 s).boot = s.boot := by
  intros; unfold countAbove; try dsimp only
  repeat' first | with_reducible rfl | (simp; done) | split | refine Eq.trans (forAll_boot _ _ _ fun _ _ => ?_) ?_ |
    (simp only [onBar, onDev, andThen, valueOk, checked, rated, holderOnly, forwarded]; try dsimp only) | (simp; intros)
@[simp] theorem countBelow_boot : ∀ x0 s, (countBelow x0 s).boot = s.boot := by
  intros; unfold countBelow; try dsimp only
  repeat' first | with_reducible rfl | (simp; done) | split | refine Eq.trans (forAll_boot _ _ _ fun _ _ => ?_) ?_ |
    (simp only [onBar, onDev, andThen, valueOk, checked, rated, holderOnly, forwarded]; try dsimp only) | (simp; intros)
@[simp] theorem encStep_boot : ∀ x0 x1 s, (encStep x0 x1 s).boot = s.boot := by
  intros; unfold encStep; try dsimp only
  repeat' first | with_reducible rfl | (simp; done) | split | refine Eq.trans (forAll_boot _ _ _ fun _ _ => ?_) ?_ |
    (simp only [onBar, onDev, andThen, valueOk, checked, rated, holderOnly, forwarded]; try dsimp only) | (simp; intros)
@[simp] theorem encChange_boot : ∀ x0 x1 x2 s, (encChange x0 x1 x2 s).boot = s.boot := by
  intros; unfold encChange; try dsimp only
  repeat' first | with_reducible rfl | (simp; done) | split | refine Eq.trans (forAll_boot _ _ _ fun _ _ => ?_) ?_ |
    (simp only [onBar, onDev, andThen, valueOk, checked, rated, holderOnly, forwarded]; try dsimp only) | (simp; intros)
@[simp] theorem bandStops_boot : ∀ s, (bandStops s).boot = s.boot := fun s => quiet_to_boot (bandStops_quiet _)
@[simp] theorem webStops_boot : ∀ s, (webStops s).boot = s.boot := by intros; unfold webStops; simp
@[simp] theorem firstLaunches_boot : ∀ s, (firstLaunches s).boot = s.boot := by intros; unfold firstLaunches; simp
@[simp] theorem trigOn_boot : ∀ s, (trigOn s).boot = s.boot := by
  intros; unfold trigOn; try dsimp only
  repeat' first | with_reducible rfl | (simp; done) | split | refine Eq.trans (forAll_boot _ _ _ fun _ _ => ?_) ?_ |
    (simp only [onBar, onDev, andThen, valueOk, checked, rated, holderOnly, forwarded]; try dsimp only) | (simp; intros)
@[simp] theorem trigOff_boot : ∀ s, (trigOff s).boot = s.boot := by
  intros; unfold trigOff; repeat' first | with_reducible rfl | (simp; done) | split
@[simp] theorem trigEnEffect_boot : ∀ x0 x1 x2 x3 s, (trigEnEffect x0 x1 x2 x3 s).2.boot = s.boot := by
  intros; unfold trigEnEffect; try dsimp only
  repeat' first | with_reducible rfl | (simp; done) | split | refine Eq.trans (forAll_boot _ _ _ fun _ _ => ?_) ?_ |
    (simp only [onBar, onDev, andThen, valueOk, checked, rated, holderOnly, forwarded]; try dsimp only) | (simp; intros)
@[simp] theorem registerMark_boot : ∀ x0 x1 x2 s, (registerMark x0 x1 x2 s).boot = s.boot := fun x0 x1 x2 s => quiet_to_boot (registerMark_quiet _ _ _ _)
@[simp] theorem markAccepted_boot : ∀ x0 x1 s, (markAccepted x0 x1 s).boot = s.boot := by
  intros; unfold markAccepted; try dsimp only
  repeat' first | with_reducible rfl | (simp; done) | split | refine Eq.trans (forAll_boot _ _ _ fun _ _ => ?_) ?_ |
    (simp only [onBar, onDev, andThen, valueOk, checked, rated, holderOnly, forwarded]; try dsimp only) | (simp; intros)
@[simp] theorem markEdge_boot : ∀ x0 x1 s, (markEdge x0 x1 s).boot = s.boot := by
  intros; unfold markEdge; try dsimp only
  repeat' first | with_reducible rfl | (simp; done) | split | refine Eq.trans (forAll_boot _ _ _ fun _ _ => ?_) ?_ |
    (simp only [onBar, onDev, andThen, valueOk, checked, rated, holderOnly, forwarded, withRate, hostTime, toStandby, onRecord, byThread, byMachine, upFrame]; try dsimp only) | (simp; intros)
@[simp] theorem markRegEffect_boot : ∀ x0 x1 x2 x3 s, (markRegEffect x0 x1 x2 x3 s).2.boot = s.boot := fun x0 x1 x2 x3 s => quiet_to_boot (markRegEffect_quiet _ _ _ _ _)
@[simp] theorem raisePanic_boot : ∀ x0 s, (raisePanic x0 s).boot = s.boot := by
  intros; unfold raisePanic; try dsimp only
  repeat' first | with_reducible rfl | (simp; done) | split | refine Eq.trans (forAll_boot _ _ _ fun _ _ => ?_) ?_ |
    (simp only [onBar, onDev, andThen, valueOk, checked, rated, holderOnly, forwarded]; try dsimp only) | (simp; intros)
@[simp] theorem camJudge_boot : ∀ x0 s, (camJudge x0 s).boot = s.boot := by
  intros; unfold camJudge; try dsimp only
  repeat' first | with_reducible rfl | (simp; done) | split | refine Eq.trans (forAll_boot _ _ _ fun _ _ => ?_) ?_ |
    (simp only [onBar, onDev, andThen, valueOk, checked, rated, holderOnly, forwarded]; try dsimp only) | (simp; intros)
@[simp] theorem camReset_boot : ∀ x0 s, (camReset x0 s).boot = s.boot := by intros; unfold camReset; simp
@[simp] theorem camLost_boot : ∀ x0 x1 x2 s, (camLost x0 x1 x2 s).boot = s.boot := by
  intros; unfold camLost; repeat' first | with_reducible rfl | (simp; done) | split
@[simp] theorem dropPulses_boot : ∀ x0 s, (dropPulses x0 s).boot = s.boot := by intros; unfold dropPulses; simp
@[simp] theorem putRing_boot : ∀ x0 x1 x2 s, (putRing x0 x1 x2 s).boot = s.boot := by intros; unfold putRing; simp
@[simp] theorem flushBlock_boot : ∀ x0 s, (flushBlock x0 s).boot = s.boot := by
  intros; unfold flushBlock; try dsimp only
  repeat' first | with_reducible rfl | (simp; done) | split | refine Eq.trans (forAll_boot _ _ _ fun _ _ => ?_) ?_ |
    (simp only [onBar, onDev, andThen, valueOk, checked, rated, holderOnly, forwarded]; try dsimp only) | (simp; intros)
@[simp] theorem putStripLine_boot : ∀ x0 x1 s, (putStripLine x0 x1 s).boot = s.boot := by
  intros; unfold putStripLine; try dsimp only
  repeat' first | with_reducible rfl | (simp; done) | split | refine Eq.trans (forAll_boot _ _ _ fun _ _ => ?_) ?_ |
    (simp only [onBar, onDev, andThen, valueOk, checked, rated, holderOnly, forwarded, withRate, hostTime, toStandby, onRecord, byThread, byMachine, upFrame]; try dsimp only) | (simp; intros)
@[simp] theorem putOutputs_boot : ∀ x0 x1 s, (putOutputs x0 x1 s).boot = s.boot := by
  intros; unfold putOutputs; try dsimp only
  repeat' first | with_reducible rfl | (simp; done) | split | refine Eq.trans (forAll_boot _ _ _ fun _ _ => ?_) ?_ |
    (simp only [onBar, onDev, andThen, valueOk, checked, rated, holderOnly, forwarded]; try dsimp only) | (simp; intros)
@[simp] theorem postSaturation_boot : ∀ x0 x1 s, (postSaturation x0 x1 s).boot = s.boot := by
  intros; unfold postSaturation; try dsimp only
  repeat' first | with_reducible rfl | (simp; done) | split | refine Eq.trans (forAll_boot _ _ _ fun _ _ => ?_) ?_ |
    (simp only [onBar, onDev, andThen, valueOk, checked, rated, holderOnly, forwarded]; try dsimp only) | (simp; intros)
@[simp] theorem profileLine_boot : ∀ x0 x1 s, (profileLine x0 x1 s).boot = s.boot := by
  intros; unfold profileLine; try dsimp only
  repeat' first | with_reducible rfl | (simp; done) | split | refine Eq.trans (forAll_boot _ _ _ fun _ _ => ?_) ?_ |
    (simp only [onBar, onDev, andThen, valueOk, checked, rated, holderOnly, forwarded]; try dsimp only) | (simp; intros)
@[simp] theorem focusLatch_boot : ∀ x0 x1 s, (focusLatch x0 x1 s).boot = s.boot := by intros; unfold focusLatch; simp
@[simp] theorem focusLine_boot : ∀ x0 x1 s, (focusLine x0 x1 s).2.boot = s.boot := by
  intros; unfold focusLine; try dsimp only
  repeat' first | with_reducible rfl | (simp; done) | split | refine Eq.trans (forAll_boot _ _ _ fun _ _ => ?_) ?_ |
    (simp only [onBar, onDev, andThen, valueOk, checked, rated, holderOnly, forwarded]; try dsimp only) | (simp; intros)
@[simp] theorem focusAbort_boot : ∀ x0 s, (focusAbort x0 s).boot = s.boot := by
  intros; unfold focusAbort; repeat' first | with_reducible rfl | (simp; done) | split
@[simp] theorem focusMove_boot : ∀ x0 x1 x2 s, (focusMove x0 x1 x2 s).boot = s.boot := by
  intros; unfold focusMove; try dsimp only
  repeat' first | with_reducible rfl | (simp; done) | split | refine Eq.trans (forAll_boot _ _ _ fun _ _ => ?_) ?_ |
    (simp only [onBar, onDev, andThen, valueOk, checked, rated, holderOnly, forwarded]; try dsimp only) | (simp; intros)
@[simp] theorem focusLatched_boot : ∀ x0 s, (focusLatched x0 s).boot = s.boot := by
  intros; unfold focusLatched; try dsimp only
  repeat' first | with_reducible rfl | (simp; done) | split | refine Eq.trans (forAll_boot _ _ _ fun _ _ => ?_) ?_ |
    (simp only [onBar, onDev, andThen, valueOk, checked, rated, holderOnly, forwarded]; try dsimp only) | (simp; intros)
@[simp] theorem focusStands_boot : ∀ x0 s, (focusStands x0 s).boot = s.boot := by
  intros; unfold focusStands; repeat' first | with_reducible rfl | (simp; done) | split
@[simp] theorem focusAll_boot : ∀ s, (focusAll s).boot = s.boot := by intros; unfold focusAll; simp
@[simp] theorem focusGoEffect_boot : ∀ x0 x1 x2 x3 s, (focusGoEffect x0 x1 x2 x3 s).2.boot = s.boot := by
  intros; unfold focusGoEffect; try dsimp only
  repeat' first | with_reducible rfl | (simp; done) | split | refine Eq.trans (forAll_boot _ _ _ fun _ _ => ?_) ?_ |
    (simp only [onBar, onDev, andThen, valueOk, checked, rated, holderOnly, forwarded]; try dsimp only) | (simp; intros)
@[simp] theorem register_boot : ∀ x0 x1 x2 x3 s, (register x0 x1 x2 x3 s).2.boot = s.boot := by
  intros; unfold register; try dsimp only
  repeat' first | with_reducible rfl | (simp; done) | split | refine Eq.trans (forAll_boot _ _ _ fun _ _ => ?_) ?_ |
    (simp only [onBar, onDev, andThen, valueOk, checked, rated, holderOnly, forwarded, withRate, hostTime, toStandby, onRecord, byThread, byMachine, upFrame]; try dsimp only) | (simp; intros)
@[simp] theorem putResults_boot : ∀ x0 x1 x2 s, (putResults x0 x1 x2 s).boot = s.boot := fun x0 x1 x2 s => quiet_to_boot (putResults_quiet _ _ _ _)
@[simp] theorem editGains_boot : ∀ x0 x1 x2 s, (editGains x0 x1 x2 s).boot = s.boot := fun x0 x1 x2 s => quiet_to_boot (editGains_quiet _ _ _ _)
theorem applyHead_boot (b x i p a) (acc : LoopSum × State) : (applyHead b x i p a acc).2.boot = acc.2.boot := by
  unfold applyHead; dsimp only
  repeat' first | with_reducible rfl | (simp; done) | split
@[simp] theorem modStrip_boot : ∀ x0 x1 x2 s, (modStrip x0 x1 x2 s).boot = s.boot := fun x0 x1 x2 s => quiet_to_boot (modStrip_quiet _ _ _ _)
@[simp] theorem loopCommit_boot : ∀ x0 x1 x2 s, (loopCommit x0 x1 x2 s).2.boot = s.boot := by
  intros; unfold loopCommit; try dsimp only
  repeat' first | with_reducible rfl | (simp; done) | split | refine Eq.trans (forAll_boot _ _ _ fun _ _ => ?_) ?_ |
    (simp only [onBar, onDev, andThen, valueOk, checked, rated, holderOnly, forwarded, withRate, hostTime, toStandby, onRecord, byThread, byMachine, upFrame]; try dsimp only) | (simp; intros)
@[simp] theorem applyStrip_boot : ∀ x0 x1 x2 x3 s, (applyStrip x0 x1 x2 x3 s).2.2.boot = s.boot := by
  intros; unfold applyStrip; dsimp only
  split
  · refine Eq.trans (loopCommit_boot _ _ _ _) ?_
    exact foldl_keeps (fun a : LoopSum × State => a.2.boot) _ _ _ (fun a p => applyHead_boot _ _ _ _ _ a)
  · rfl
@[simp] theorem stripFinish_boot : ∀ x0 x1 s, (stripFinish x0 x1 s).boot = s.boot := by intros; unfold stripFinish; simp
@[simp] theorem stripDone_boot : ∀ x0 x1 s, (stripDone x0 x1 s).boot = s.boot := by
  intros; unfold stripDone; try dsimp only
  repeat' first | with_reducible rfl | (simp; done) | split | refine Eq.trans (forAll_boot _ _ _ fun _ _ => ?_) ?_ |
    (simp only [onBar, onDev, andThen, valueOk, checked, rated, holderOnly, forwarded, withRate, hostTime, toStandby, onRecord, byThread, byMachine, upFrame]; try dsimp only) | (simp; intros)
@[simp] theorem stripDoneAt_boot : ∀ x0 x1 s, (stripDoneAt x0 x1 s).boot = s.boot := by
  intros; unfold stripDoneAt; try dsimp only
  repeat' first | with_reducible rfl | (simp; done) | split | refine Eq.trans (forAll_boot _ _ _ fun _ _ => ?_) ?_ |
    (simp only [onBar, onDev, andThen, valueOk, checked, rated, holderOnly, forwarded, withRate, hostTime, toStandby, onRecord, byThread, byMachine, upFrame]; try dsimp only) | (simp; intros)
@[simp] theorem sendMeas_boot : ∀ x0 x1 s, (sendMeas x0 x1 s).boot = s.boot := fun x0 x1 s => quiet_to_boot (sendMeas_quiet _ _ _)
@[simp] theorem stripEnd_boot : ∀ x0 x1 x2 s, (stripEnd x0 x1 x2 s).boot = s.boot := by
  intros; unfold stripEnd; try dsimp only
  repeat' first | with_reducible rfl | (simp; done) | split | refine Eq.trans (forAll_boot _ _ _ fun _ _ => ?_) ?_ |
    (simp only [onBar, onDev, andThen, valueOk, checked, rated, holderOnly, forwarded]; try dsimp only) | (simp; intros)
@[simp] theorem keepLine_boot : ∀ x0 x1 x2 x3 x4 s, (keepLine x0 x1 x2 x3 x4 s).boot = s.boot := by intros; unfold keepLine; simp
@[simp] theorem measureStrip_boot : ∀ x0 x1 x2 x3 x4 s, (measureStrip x0 x1 x2 x3 x4 s).boot = s.boot := by
  intros; unfold measureStrip; try dsimp only
  repeat' first | with_reducible rfl | (simp; done) | split | refine Eq.trans (forAll_boot _ _ _ fun _ _ => ?_) ?_ |
    (simp only [onBar, onDev, andThen, valueOk, checked, rated, holderOnly, forwarded, withRate, hostTime, toStandby, onRecord, byThread, byMachine, upFrame]; try dsimp only) | (simp; intros)
@[simp] theorem measureLine_boot : ∀ x0 x1 s, (measureLine x0 x1 s).boot = s.boot := by
  intros; unfold measureLine; try dsimp only
  repeat' first | with_reducible rfl | (simp; done) | split | refine Eq.trans (forAll_boot _ _ _ fun _ _ => ?_) ?_ |
    (simp only [onBar, onDev, andThen, valueOk, checked, rated, holderOnly, forwarded]; try dsimp only) | (simp; intros)
@[simp] theorem stripGone_boot : ∀ x0 x1 x2 s, (stripGone x0 x1 x2 s).boot = s.boot := by
  intros; unfold stripGone; try dsimp only
  repeat' first | with_reducible rfl | (simp; done) | split | refine Eq.trans (forAll_boot _ _ _ fun _ _ => ?_) ?_ |
    (simp only [onBar, onDev, andThen, valueOk, checked, rated, holderOnly, forwarded]; try dsimp only) | (simp; intros)
@[simp] theorem stripsGone_boot : ∀ x0 s, (stripsGone x0 s).boot = s.boot := by intros; unfold stripsGone; simp
@[simp] theorem takeMeas_boot : ∀ x0 x1 x2 s, (takeMeas x0 x1 x2 s).boot = s.boot := by
  intros; unfold takeMeas; try dsimp only
  repeat' first | with_reducible rfl | (simp; done) | split | refine Eq.trans (forAll_boot _ _ _ fun _ _ => ?_) ?_ |
    (simp only [onBar, onDev, andThen, valueOk, checked, rated, holderOnly, forwarded, withRate, hostTime, toStandby, onRecord, byThread, byMachine, upFrame]; try dsimp only) | (simp; intros)
@[simp] theorem emitVision_boot : ∀ x0 x1 s, (emitVision x0 x1 s).boot = s.boot := by
  intros; unfold emitVision; try dsimp only
  repeat' first | with_reducible rfl | (simp; done) | split | refine Eq.trans (forAll_boot _ _ _ fun _ _ => ?_) ?_ |
    (simp only [onBar, onDev, andThen, valueOk, checked, rated, holderOnly, forwarded]; try dsimp only) | (simp; intros)
@[simp] theorem emitLine_boot : ∀ x0 x1 s, (emitLine x0 x1 s).boot = s.boot := by
  intros; unfold emitLine; repeat' first | with_reducible rfl | (simp; done) | split
@[simp] theorem emitTo_boot : ∀ x0 x1 x2 s, (emitTo x0 x1 x2 s).boot = s.boot := by
  intro x0 x1 n
  induction n with
  | zero => intro s; rfl
  | succ n ih => intro s; unfold emitTo; split <;> simp [ih]
@[simp] theorem pushLine_boot : ∀ x0 x1 s, (pushLine x0 x1 s).boot = s.boot := by intros; unfold pushLine; simp
@[simp] theorem flushFrame_boot : ∀ x0 s, (flushFrame x0 s).boot = s.boot := by
  intros; unfold flushFrame; try dsimp only
  repeat' first | with_reducible rfl | (simp; done) | split | refine Eq.trans (forAll_boot _ _ _ fun _ _ => ?_) ?_ |
    (simp only [onBar, onDev, andThen, valueOk, checked, rated, holderOnly, forwarded, withRate, hostTime, toStandby, onRecord, byThread, byMachine, upFrame]; try dsimp only) | (simp; intros)
@[simp] theorem noteSaturation_boot : ∀ x0 x1 s, (noteSaturation x0 x1 s).boot = s.boot := by
  intros; unfold noteSaturation; try dsimp only
  repeat' first | with_reducible rfl | (simp; done) | split | refine Eq.trans (forAll_boot _ _ _ fun _ _ => ?_) ?_ |
    (simp only [onBar, onDev, andThen, valueOk, checked, rated, holderOnly, forwarded]; try dsimp only) | (simp; intros)
@[simp] theorem takeLine_boot : ∀ x0 x1 x2 x3 s, (takeLine x0 x1 x2 x3 s).boot = s.boot := by
  intros; unfold takeLine; try dsimp only
  repeat' first | with_reducible rfl | (simp; done) | split | refine Eq.trans (forAll_boot _ _ _ fun _ _ => ?_) ?_ |
    (simp only [onBar, onDev, andThen, valueOk, checked, rated, holderOnly, forwarded, withRate, hostTime, toStandby, onRecord, byThread, byMachine, upFrame]; try dsimp only) | (simp; intros)
@[simp] theorem countBad_boot : ∀ x0 x1 s, (countBad x0 x1 s).boot = s.boot := by
  intros; unfold countBad; try dsimp only
  repeat' first | with_reducible rfl | (simp; done) | split | refine Eq.trans (forAll_boot _ _ _ fun _ _ => ?_) ?_ |
    (simp only [onBar, onDev, andThen, valueOk, checked, rated, holderOnly, forwarded, withRate, hostTime, toStandby, onRecord, byThread, byMachine, upFrame]; try dsimp only) | (simp; intros)
@[simp] theorem imagePacket_boot : ∀ x0 x1 x2 s, (imagePacket x0 x1 x2 s).boot = s.boot := by
  intros; unfold imagePacket; try dsimp only
  repeat' first | with_reducible rfl | (simp; done) | split | refine Eq.trans (forAll_boot _ _ _ fun _ _ => ?_) ?_ |
    (simp only [onBar, onDev, andThen, valueOk, checked, rated, holderOnly, forwarded]; try dsimp only) | (simp; intros)
@[simp] theorem camTraffic_boot : ∀ x0 s, (camTraffic x0 s).boot = s.boot := by intros; unfold camTraffic; simp
@[simp] theorem frameStart_boot : ∀ x0 s, (frameStart x0 s).boot = s.boot := by
  intros; unfold frameStart; repeat' first | with_reducible rfl | (simp; done) | split
@[simp] theorem startPulse_boot : ∀ x0 x1 x2 s, (startPulse x0 x1 x2 s).boot = s.boot := by
  intros; unfold startPulse; repeat' first | with_reducible rfl | (simp; done) | split
@[simp] theorem holdOutput_boot : ∀ x0 x1 s, (holdOutput x0 x1 s).boot = s.boot := by
  intros; unfold holdOutput; try dsimp only
  repeat' first | with_reducible rfl | (simp; done) | split | refine Eq.trans (forAll_boot _ _ _ fun _ _ => ?_) ?_ |
    (simp only [onBar, onDev, andThen, valueOk, checked, rated, holderOnly, forwarded, withRate, hostTime, toStandby, onRecord, byThread, byMachine, upFrame]; try dsimp only) | (simp; intros)
@[simp] theorem pulseEffect_boot : ∀ x0 x1 x2 x3 x4 s, (pulseEffect x0 x1 x2 x3 x4 s).2.boot = s.boot := by
  intros; unfold pulseEffect; try dsimp only
  repeat' first | with_reducible rfl | (simp; done) | split | refine Eq.trans (forAll_boot _ _ _ fun _ _ => ?_) ?_ |
    (simp only [onBar, onDev, andThen, valueOk, checked, rated, holderOnly, forwarded, withRate, hostTime, toStandby, onRecord, byThread, byMachine, upFrame]; try dsimp only) | (simp; intros)
@[simp] theorem regEffect_boot : ∀ x0 x1 x2 x3 s, (regEffect x0 x1 x2 x3 s).2.boot = s.boot := by intros; unfold regEffect; simp
@[simp] theorem stripReqEffect_boot : ∀ x0 x1 x2 x3 s, (stripReqEffect x0 x1 x2 x3 s).2.boot = s.boot := fun x0 x1 x2 x3 s => quiet_to_boot (stripReqEffect_quiet _ _ _ _ _)
@[simp] theorem satClearEffect_boot : ∀ x0 x1 x2 x3 s, (satClearEffect x0 x1 x2 x3 s).2.boot = s.boot := by
  intros; unfold satClearEffect; try dsimp only
  repeat' first | with_reducible rfl | (simp; done) | split | refine Eq.trans (forAll_boot _ _ _ fun _ _ => ?_) ?_ |
    (simp only [onBar, onDev, andThen, valueOk, checked, rated, holderOnly, forwarded]; try dsimp only) | (simp; intros)
@[simp] theorem rateSettle_boot : ∀ s, (rateSettle s).boot = s.boot := by
  intros; unfold rateSettle; repeat' first | with_reducible rfl | (simp; done) | split
@[simp] theorem rateJudge_boot : ∀ x0 s, (rateJudge x0 s).boot = s.boot := by
  intros; unfold rateJudge; repeat' first | with_reducible rfl | (simp; done) | split
@[simp] theorem domainLanes_boot : ∀ x0 s, (domainLanes x0 s).boot = s.boot := by
  intros; unfold domainLanes; repeat' first | with_reducible rfl | (simp; done) | split
@[simp] theorem domainSet_boot : ∀ x0 x1 x2 s, (domainSet x0 x1 x2 s).boot = s.boot := by
  intros; unfold domainSet; try dsimp only
  repeat' first | with_reducible rfl | (simp; done) | split | refine Eq.trans (forAll_boot _ _ _ fun _ _ => ?_) ?_ |
    (simp only [onBar, onDev, andThen, valueOk, checked, rated, holderOnly, forwarded]; try dsimp only) | (simp; intros)
@[simp] theorem domainsFollow_boot : ∀ s, (domainsFollow s).boot = s.boot := by
  intros; unfold domainsFollow; try dsimp only
  repeat' first | with_reducible rfl | (simp; done) | split | refine Eq.trans (forAll_boot _ _ _ fun _ _ => ?_) ?_ |
    (simp only [onBar, onDev, andThen, valueOk, checked, rated, holderOnly, forwarded]; try dsimp only) | (simp; intros)
@[simp] theorem domainService_boot : ∀ x0 x1 s, (domainService x0 x1 s).boot = s.boot := fun x0 x1 s => quiet_to_boot (domainService_quiet _ _ _)
@[simp] theorem engineDark_boot : ∀ x0 s, (engineDark x0 s).boot = s.boot := by
  intros; unfold engineDark; repeat' first | with_reducible rfl | (simp; done) | split
@[simp] theorem forceOff_boot : ∀ x0 s, (forceOff x0 s).boot = s.boot := by
  intro d s; unfold forceOff withRate
  have h : ∀ s, (if 8 ≤ d then forAll (List.range 8) (fun k s => engineDark (8 * (d - 8) + k) s) s else s).boot = s.boot := by
    intro s; split
    · exact forAll_boot _ _ s (fun k t => engineDark_boot _ t)
    · rfl
  split
  · rfl
  · rw [rateJudge_boot]; dsimp only; rw [placeRun_boot, domainSet_boot, h, domainService_boot]; rfl
@[simp] theorem domainAuto_boot : ∀ x0 s, (domainAuto x0 s).boot = s.boot := by
  intro _ s; unfold domainAuto withRate
  split
  · rw [rateJudge_boot, placeRun_boot, domainService_boot]; rfl
  · rfl
@[simp] theorem domainCtrl_boot : ∀ x0 x1 x2 x3 s, (domainCtrl x0 x1 x2 x3 s).2.boot = s.boot := by
  intros; unfold domainCtrl; try dsimp only
  repeat' first | with_reducible rfl | (simp; done) | split | refine Eq.trans (forAll_boot _ _ _ fun _ _ => ?_) ?_ |
    (simp only [onBar, onDev, andThen, valueOk, checked, rated, holderOnly, forwarded]; try dsimp only) | (simp; intros)
@[simp] theorem mcHold_boot : ∀ x0 x1 s, (mcHold x0 x1 s).boot = s.boot := by intros; unfold mcHold; simp
@[simp] theorem mcArrive_boot : ∀ x0 x1 s, (mcArrive x0 x1 s).boot = s.boot := by
  intros; unfold mcArrive; try dsimp only
  repeat' first | with_reducible rfl | (simp; done) | split | refine Eq.trans (forAll_boot _ _ _ fun _ _ => ?_) ?_ |
    (simp only [onBar, onDev, andThen, valueOk, checked, rated, holderOnly, forwarded]; try dsimp only) | (simp; intros)
@[simp] theorem mcRetry_boot : ∀ x0 s, (mcRetry x0 s).boot = s.boot := by intros; unfold mcRetry; simp
@[simp] theorem drainJudge_boot : ∀ x0 s, (drainJudge x0 s).boot = s.boot := by intros; unfold drainJudge; simp
@[simp] theorem mcCharge_boot : ∀ x0 x1 s, (mcCharge x0 x1 s).boot = s.boot := by
  intros; unfold mcCharge; repeat' first | with_reducible rfl | (simp; done) | split
@[simp] theorem issueRead_boot : ∀ x0 x1 s, (issueRead x0 x1 s).boot = s.boot := by intros; unfold issueRead; simp
@[simp] theorem issueWrite_boot : ∀ x0 x1 s, (issueWrite x0 x1 s).boot = s.boot := by intros; unfold issueWrite; simp
@[simp] theorem issueRefresh_boot : ∀ x0 s, (issueRefresh x0 s).boot = s.boot := by
  intros; unfold issueRefresh; repeat' first | with_reducible rfl | (simp; done) | split
@[simp] theorem mcIssue_boot : ∀ x0 s, (mcIssue x0 s).boot = s.boot := by
  intros; unfold mcIssue; try dsimp only
  repeat' first | with_reducible rfl | (simp; done) | split | refine Eq.trans (forAll_boot _ _ _ fun _ _ => ?_) ?_ |
    (simp only [onBar, onDev, andThen, valueOk, checked, rated, holderOnly, forwarded]; try dsimp only) | (simp; intros)
@[simp] theorem refreshDue_boot : ∀ x0 x1 s, (refreshDue x0 x1 s).boot = s.boot := by
  intros; unfold refreshDue; try dsimp only
  repeat' first | with_reducible rfl | (simp; done) | split | refine Eq.trans (forAll_boot _ _ _ fun _ _ => ?_) ?_ |
    (simp only [onBar, onDev, andThen, valueOk, checked, rated, holderOnly, forwarded, withRate, hostTime, toStandby, onRecord, byThread, byMachine, upFrame]; try dsimp only) | (simp; intros)
@[simp] theorem repayRefresh_boot : ∀ x0 s, (repayRefresh x0 s).boot = s.boot := by
  intros; unfold repayRefresh; try dsimp only
  repeat' first | with_reducible rfl | (simp; done) | split | refine Eq.trans (forAll_boot _ _ _ fun _ _ => ?_) ?_ |
    (simp only [onBar, onDev, andThen, valueOk, checked, rated, holderOnly, forwarded, withRate, hostTime, toStandby, onRecord, byThread, byMachine, upFrame]; try dsimp only) | (simp; intros)
@[simp] theorem trackDqs_boot : ∀ x0 s, (trackDqs x0 s).boot = s.boot := by
  intros; unfold trackDqs; try dsimp only
  repeat' first | with_reducible rfl | (simp; done) | split | refine Eq.trans (forAll_boot _ _ _ fun _ _ => ?_) ?_ |
    (simp only [onBar, onDev, andThen, valueOk, checked, rated, holderOnly, forwarded, withRate, hostTime, toStandby, onRecord, byThread, byMachine, upFrame]; try dsimp only) | (simp; intros)
@[simp] theorem subchFault_boot : ∀ x0 s, (subchFault x0 s).boot = s.boot := by
  intros; unfold subchFault; try dsimp only
  repeat' first | with_reducible rfl | (simp; done) | split | refine Eq.trans (forAll_boot _ _ _ fun _ _ => ?_) ?_ |
    (simp only [onBar, onDev, andThen, valueOk, checked, rated, holderOnly, forwarded]; try dsimp only) | (simp; intros)
@[simp] theorem quotaTurn_boot : ∀ x0 s, (quotaTurn x0 s).boot = s.boot := by intros; unfold quotaTurn; simp
@[simp] theorem applyQuotas_boot : ∀ s, (applyQuotas s).boot = s.boot := fun s =>
  forAll_boot _ _ s quotaTurn_boot
@[simp] theorem shrinkPool_boot : ∀ s, (shrinkPool s).boot = s.boot := by
  intros; unfold shrinkPool; try dsimp only
  repeat' first | with_reducible rfl | (simp; done) | split | refine Eq.trans (forAll_boot _ _ _ fun _ _ => ?_) ?_ |
    (simp only [onBar, onDev, andThen, valueOk, checked, rated, holderOnly, forwarded, withRate, hostTime, toStandby, onRecord, byThread, byMachine, upFrame]; try dsimp only) | (simp; intros)
@[simp] theorem trainResult_boot : ∀ x0 x1 x2 s, (trainResult x0 x1 x2 s).boot = s.boot := by intros; unfold trainResult; simp
@[simp] theorem copyOut_boot : ∀ x0 s, (copyOut x0 s).boot = s.boot := by intros; unfold copyOut; simp
@[simp] theorem subchCommand_boot : ∀ x0 x1 x2 x3 s, (subchCommand x0 x1 x2 x3 s).2.boot = s.boot := by
  intros; unfold subchCommand; try dsimp only
  repeat' first | with_reducible rfl | (simp; done) | split | refine Eq.trans (forAll_boot _ _ _ fun _ _ => ?_) ?_ |
    (simp only [onBar, onDev, andThen, valueOk, checked, rated, holderOnly, forwarded]; try dsimp only) | (simp; intros)
@[simp] theorem copyLost_boot : ∀ x0 x1 x2 s, (copyLost x0 x1 x2 s).boot = s.boot := by intros; unfold copyLost; simp
@[simp] theorem wagonEcc_boot : ∀ x0 x1 x2 s, (wagonEcc x0 x1 x2 s).boot = s.boot := by
  intro b n k s; unfold wagonEcc
  have h : ∀ (b n k : Nat) (s : State), (forAll (List.range 32) (fun e s => if (s.engine e).job = some (b, n, k) then freeEngine e s else s) s).boot = s.boot :=
    fun b n k s => forAll_boot _ _ s (fun e t => by split <;> simp)
  split
  · rfl
  · split
    · rw [resumeIntake_boot, settle_boot, wagonFail_boot]; exact h _ _ _ _
    · rw [resumeIntake_boot, settle_boot, wagonFail_boot]; exact h _ _ _ _
    · simp
    · rfl
@[simp] theorem calderaEcc_boot : ∀ x0 x1 s, (calderaEcc x0 x1 s).boot = s.boot := fun x0 x1 s => quiet_to_boot (calderaEcc_quiet _ _ _)
@[simp] theorem ringEcc_boot : ∀ x0 x1 x2 s, (ringEcc x0 x1 x2 s).boot = s.boot := by intros; unfold ringEcc; simp
@[simp] theorem dramUncorr_boot : ∀ x0 x1 s, (dramUncorr x0 x1 s).boot = s.boot := by
  intros; unfold dramUncorr; repeat' first | with_reducible rfl | (simp; done) | split
@[simp] theorem dramError_boot : ∀ x0 x1 x2 x3 s, (dramError x0 x1 x2 x3 s).boot = s.boot := by
  intros; unfold dramError; try dsimp only
  repeat' first | with_reducible rfl | (simp; done) | split | refine Eq.trans (forAll_boot _ _ _ fun _ _ => ?_) ?_ |
    (simp only [onBar, onDev, andThen, valueOk, checked, rated, holderOnly, forwarded]; try dsimp only) | (simp; intros)
@[simp] theorem rowFault_boot : ∀ x0 x1 s, (rowFault x0 x1 s).boot = s.boot := by
  intros; unfold rowFault; try dsimp only
  repeat' first | with_reducible rfl | (simp; done) | split | refine Eq.trans (forAll_boot _ _ _ fun _ _ => ?_) ?_ |
    (simp only [onBar, onDev, andThen, valueOk, checked, rated, holderOnly, forwarded]; try dsimp only) | (simp; intros)
@[simp] theorem stagingEcc_boot : ∀ x0 x1 x2 s, (stagingEcc x0 x1 x2 s).boot = s.boot := by
  intros; unfold stagingEcc; try dsimp only
  repeat' first | with_reducible rfl | (simp; done) | split | refine Eq.trans (forAll_boot _ _ _ fun _ _ => ?_) ?_ |
    (simp only [onBar, onDev, andThen, valueOk, checked, rated, holderOnly, forwarded, withRate, hostTime, toStandby, onRecord, byThread, byMachine, upFrame]; try dsimp only) | (simp; intros)
@[simp] theorem tableEcc_boot : ∀ x0 x1 s, (tableEcc x0 x1 s).boot = s.boot := fun x0 x1 s => quiet_to_boot (tableEcc_quiet _ _ _)
@[simp] theorem sramUncorr_boot : ∀ x0 s, (sramUncorr x0 s).boot = s.boot := by
  intros; unfold sramUncorr; repeat' first | with_reducible rfl | (simp; done) | split
@[simp] theorem sramError_boot : ∀ x0 x1 x2 x3 s, (sramError x0 x1 x2 x3 s).boot = s.boot := by
  intros; unfold sramError; try dsimp only
  repeat' first | with_reducible rfl | (simp; done) | split | refine Eq.trans (forAll_boot _ _ _ fun _ _ => ?_) ?_ |
    (simp only [onBar, onDev, andThen, valueOk, checked, rated, holderOnly, forwarded]; try dsimp only) | (simp; intros)
@[simp] theorem dramQuotaEffect_boot : ∀ x0 x1 x2 x3 s, (dramQuotaEffect x0 x1 x2 x3 s).2.boot = s.boot := by
  intros; unfold dramQuotaEffect; try dsimp only
  repeat' first | with_reducible rfl | (simp; done) | split | refine Eq.trans (forAll_boot _ _ _ fun _ _ => ?_) ?_ |
    (simp only [onBar, onDev, andThen, valueOk, checked, rated, holderOnly, forwarded]; try dsimp only) | (simp; intros)
@[simp] theorem sramQuotaEffect_boot : ∀ x0 x1 x2 x3 s, (sramQuotaEffect x0 x1 x2 x3 s).2.boot = s.boot := fun x0 x1 x2 x3 s => quiet_to_boot (sramQuotaEffect_quiet _ _ _ _ _)
@[simp] theorem placeFreezeEffect_boot : ∀ x0 x1 x2 x3 s, (placeFreezeEffect x0 x1 x2 x3 s).2.boot = s.boot := by
  intros; unfold placeFreezeEffect; try dsimp only
  repeat' first | with_reducible rfl | (simp; done) | split | refine Eq.trans (forAll_boot _ _ _ fun _ _ => ?_) ?_ |
    (simp only [onBar, onDev, andThen, valueOk, checked, rated, holderOnly, forwarded]; try dsimp only) | (simp; intros)
@[simp] theorem closeSession_boot : ∀ x0 x1 s, (closeSession x0 x1 s).boot = s.boot := by
  intros; unfold closeSession; repeat' first | with_reducible rfl | (simp; done) | split
@[simp] theorem closeAll_boot : ∀ s, (closeAll s).boot = s.boot := by intros; unfold closeAll; simp
@[simp] theorem railUp_boot : ∀ x0 s, (railUp x0 s).boot = s.boot := by intros; unfold railUp; simp
@[simp] theorem raiseGroup_boot : ∀ x0 s, (raiseGroup x0 s).boot = s.boot := by intros; unfold raiseGroup; simp
@[simp] theorem railsFrom_boot : ∀ x0 s, (railsFrom x0 s).boot = s.boot := by
  intros; unfold railsFrom; repeat' first | with_reducible rfl | (simp; done) | split
@[simp] theorem lowerRails_boot : ∀ x0 s, (lowerRails x0 s).boot = s.boot := fun x0 s => quiet_to_boot (lowerRails_quiet _ _)
@[simp] theorem lowerAll_boot : ∀ s, (lowerAll s).boot = s.boot := by intros; unfold lowerAll; simp
@[simp] theorem startRails_boot : ∀ s, (startRails s).boot = s.boot := by
  intros; unfold startRails; try dsimp only
  repeat' first | with_reducible rfl | (simp; done) | split | refine Eq.trans (forAll_boot _ _ _ fun _ _ => ?_) ?_ |
    (simp only [onBar, onDev, andThen, valueOk, checked, rated, holderOnly, forwarded]; try dsimp only) | (simp; intros)
@[simp] theorem railFailure_boot : ∀ s, (railFailure s).boot = s.boot := by
  intros; unfold railFailure; try dsimp only
  repeat' first | with_reducible rfl | (simp; done) | split | refine Eq.trans (forAll_boot _ _ _ fun _ _ => ?_) ?_ |
    (simp only [onBar, onDev, andThen, valueOk, checked, rated, holderOnly, forwarded]; try dsimp only) | (simp; intros)
@[simp] theorem railFault_boot : ∀ x0 s, (railFault x0 s).boot = s.boot := by
  intros; unfold railFault; try dsimp only
  repeat' first | with_reducible rfl | (simp; done) | split | refine Eq.trans (forAll_boot _ _ _ fun _ _ => ?_) ?_ |
    (simp only [onBar, onDev, andThen, valueOk, checked, rated, holderOnly, forwarded]; try dsimp only) | (simp; intros)
@[simp] theorem railUnread_boot : ∀ x0 s, (railUnread x0 s).boot = s.boot := by
  intros; unfold railUnread; repeat' first | with_reducible rfl | (simp; done) | split
@[simp] theorem railRead_boot : ∀ x0 s, (railRead x0 s).boot = s.boot := by
  intros; unfold railRead; try dsimp only
  repeat' first | with_reducible rfl | (simp; done) | split | refine Eq.trans (forAll_boot _ _ _ fun _ _ => ?_) ?_ |
    (simp only [onBar, onDev, andThen, valueOk, checked, rated, holderOnly, forwarded]; try dsimp only) | (simp; intros)
@[simp] theorem railPoll_boot : ∀ x0 s, (railPoll x0 s).boot = s.boot := by
  intros; unfold railPoll; repeat' first | with_reducible rfl | (simp; done) | split
@[simp] theorem setVcore_boot : ∀ x0 s, (setVcore x0 s).boot = s.boot := by intros; unfold setVcore; simp
@[simp] theorem avsLimitStep_boot : ∀ s, (avsLimitStep s).boot = s.boot := by
  intros; unfold avsLimitStep; try dsimp only
  repeat' first | with_reducible rfl | (simp; done) | split | refine Eq.trans (forAll_boot _ _ _ fun _ _ => ?_) ?_ |
    (simp only [onBar, onDev, andThen, valueOk, checked, rated, holderOnly, forwarded]; try dsimp only) | (simp; intros)
@[simp] theorem avsLoop_boot : ∀ s, (avsLoop s).boot = s.boot := by
  intros; unfold avsLoop; try dsimp only
  repeat' first | with_reducible rfl | (simp; done) | split | refine Eq.trans (forAll_boot _ _ _ fun _ _ => ?_) ?_ |
    (simp only [onBar, onDev, andThen, valueOk, checked, rated, holderOnly, forwarded]; try dsimp only) | (simp; intros)
@[simp] theorem sensorOut_boot : ∀ x0 s, (sensorOut x0 s).boot = s.boot := by
  intros; unfold sensorOut; try dsimp only
  repeat' first | with_reducible rfl | (simp; done) | split | refine Eq.trans (forAll_boot _ _ _ fun _ _ => ?_) ?_ |
    (simp only [onBar, onDev, andThen, valueOk, checked, rated, holderOnly, forwarded]; try dsimp only) | (simp; intros)
@[simp] theorem sensorFault_boot : ∀ x0 s, (sensorFault x0 s).boot = s.boot := by
  intros; unfold sensorFault; try dsimp only
  repeat' first | with_reducible rfl | (simp; done) | split | refine Eq.trans (forAll_boot _ _ _ fun _ _ => ?_) ?_ |
    (simp only [onBar, onDev, andThen, valueOk, checked, rated, holderOnly, forwarded]; try dsimp only) | (simp; intros)
@[simp] theorem fumTake_boot : ∀ x0 x1 s, (fumTake x0 x1 s).boot = s.boot := by
  intros; unfold fumTake; try dsimp only
  repeat' first | with_reducible rfl | (simp; done) | split | refine Eq.trans (forAll_boot _ _ _ fun _ _ => ?_) ?_ |
    (simp only [onBar, onDev, andThen, valueOk, checked, rated, holderOnly, forwarded]; try dsimp only) | (simp; intros)
@[simp] theorem fumTakeVolt_boot : ∀ x0 x1 s, (fumTakeVolt x0 x1 s).boot = s.boot := by
  intros; unfold fumTakeVolt; repeat' first | with_reducible rfl | (simp; done) | split
@[simp] theorem fumStore_boot : ∀ s, (fumStore s).boot = s.boot := fun s => quiet_to_boot (fumStore_quiet _)
@[simp] theorem hotJudge_boot : ∀ s, (hotJudge s).boot = s.boot := by
  intros; unfold hotJudge; try dsimp only
  repeat' first | with_reducible rfl | (simp; done) | split | refine Eq.trans (forAll_boot _ _ _ fun _ _ => ?_) ?_ |
    (simp only [onBar, onDev, andThen, valueOk, checked, rated, holderOnly, forwarded]; try dsimp only) | (simp; intros)
@[simp] theorem skewBegin_boot : ∀ s, (skewBegin s).boot = s.boot := by
  intros; unfold skewBegin; try dsimp only
  repeat' first | with_reducible rfl | (simp; done) | split | refine Eq.trans (forAll_boot _ _ _ fun _ _ => ?_) ?_ |
    (simp only [onBar, onDev, andThen, valueOk, checked, rated, holderOnly, forwarded]; try dsimp only) | (simp; intros)
@[simp] theorem skewTrack_boot : ∀ s, (skewTrack s).boot = s.boot := by intros; unfold skewTrack; simp
@[simp] theorem dropOutputs_boot : ∀ s, (dropOutputs s).boot = s.boot := by intros; unfold dropOutputs; simp
@[simp] theorem thermalShutdown_boot : ∀ x0 s, (thermalShutdown x0 s).boot = s.boot := by intros; unfold thermalShutdown; simp
@[simp] theorem shutdownJudge_boot : ∀ s, (shutdownJudge s).boot = s.boot := by
  intro s; unfold shutdownJudge
  have h : ∀ s : State, (forAll (List.range 16) (fun n s =>
    if 2000 ≤ fumTemp s n then s.modFum n (fun x => { x with hotRuns := x.hotRuns + 1 })
    else s.modFum n (fun x => { x with hotRuns := 0 })) s).boot = s.boot := fun s =>
    forAll_boot _ _ s (fun n t => by split <;> rfl)
  dsimp only
  split
  · split
    · exact h s
    · rw [thermalShutdown_boot]; exact h s
  · exact h s
@[simp] theorem throttleStep_boot : ∀ s, (throttleStep s).boot = s.boot := by
  intros; unfold throttleStep; try dsimp only
  repeat' first | with_reducible rfl | (simp; done) | split | refine Eq.trans (forAll_boot _ _ _ fun _ _ => ?_) ?_ |
    (simp only [onBar, onDev, andThen, valueOk, checked, rated, holderOnly, forwarded]; try dsimp only) | (simp; intros)
@[simp] theorem shutdownClearEffect_boot : ∀ x0 x1 x2 x3 s, (shutdownClearEffect x0 x1 x2 x3 s).2.boot = s.boot := by
  intros; unfold shutdownClearEffect; try dsimp only
  repeat' first | with_reducible rfl | (simp; done) | split | refine Eq.trans (forAll_boot _ _ _ fun _ _ => ?_) ?_ |
    (simp only [onBar, onDev, andThen, valueOk, checked, rated, holderOnly, forwarded]; try dsimp only) | (simp; intros)
@[simp] theorem State_modTrim_boot : ∀ s x1 x2, (State.modTrim s x1 x2).boot = s.boot := by intros; unfold State.modTrim; simp
@[simp] theorem trimStart_boot : ∀ x0 s, (trimStart x0 s).boot = s.boot := by
  intros; unfold trimStart; repeat' first | with_reducible rfl | (simp; done) | split
@[simp] theorem trimWake_boot : ∀ s, (trimWake s).boot = s.boot := by intros; unfold trimWake; simp
@[simp] theorem trimRunCmd_boot : ∀ x0 s, (trimRunCmd x0 s).2.boot = s.boot := by
  intros; unfold trimRunCmd; try dsimp only
  repeat' first | with_reducible rfl | (simp; done) | split | refine Eq.trans (forAll_boot _ _ _ fun _ _ => ?_) ?_ |
    (simp only [onBar, onDev, andThen, valueOk, checked, rated, holderOnly, forwarded]; try dsimp only) | (simp; intros)
@[simp] theorem trimSaveCmd_boot : ∀ x0 s, (trimSaveCmd x0 s).boot = s.boot := by intros; unfold trimSaveCmd; simp
@[simp] theorem trimRestoreCmd_boot : ∀ x0 s, (trimRestoreCmd x0 s).boot = s.boot := by
  intros; unfold trimRestoreCmd; try dsimp only
  repeat' first | with_reducible rfl | (simp; done) | split | refine Eq.trans (forAll_boot _ _ _ fun _ _ => ?_) ?_ |
    (simp only [onBar, onDev, andThen, valueOk, checked, rated, holderOnly, forwarded]; try dsimp only) | (simp; intros)
@[simp] theorem trimCommand_boot : ∀ x0 x1 x2 x3 s, (trimCommand x0 x1 x2 x3 s).2.boot = s.boot := by
  intros; unfold trimCommand; try dsimp only
  repeat' first | with_reducible rfl | (simp; done) | split | refine Eq.trans (forAll_boot _ _ _ fun _ _ => ?_) ?_ |
    (simp only [onBar, onDev, andThen, valueOk, checked, rated, holderOnly, forwarded]; try dsimp only) | (simp; intros)
@[simp] theorem trimWrite_boot : ∀ x0 x1 x2 s, (trimWrite x0 x1 x2 s).boot = s.boot := fun _ _ _ s =>
  writeThrough_boot _ _ _ _ _ s (fun _ _ _ _ t => trimCommand_boot _ _ _ _ t)
@[simp] theorem trimThird_boot : ∀ x0 s, (trimThird x0 s).boot = s.boot := by
  intros; unfold trimThird; repeat' first | with_reducible rfl | (simp; done) | split
@[simp] theorem trimPost_boot : ∀ x0 x1 x2 x3 s, (trimPost x0 x1 x2 x3 s).boot = s.boot := fun x0 x1 x2 x3 s => quiet_to_boot (trimPost_quiet _ _ _ _ _)
@[simp] theorem trimAllDone_boot : ∀ s, (trimAllDone s).boot = s.boot := by
  intros; unfold trimAllDone; repeat' first | with_reducible rfl | (simp; done) | split
@[simp] theorem trimEnd_boot : ∀ x0 x1 x2 s, (trimEnd x0 x1 x2 s).boot = s.boot := by
  intros; unfold trimEnd; try dsimp only
  repeat' first | with_reducible rfl | (simp; done) | split | refine Eq.trans (forAll_boot _ _ _ fun _ _ => ?_) ?_ |
    (simp only [onBar, onDev, andThen, valueOk, checked, rated, holderOnly, forwarded]; try dsimp only) | (simp; intros)
@[simp] theorem darkBit_boot : ∀ x0 x1 s, (darkBit x0 x1 s).boot = s.boot := fun x0 x1 s => quiet_to_boot (darkBit_quiet _ _ _)
@[simp] theorem channelBack_boot : ∀ x0 x1 s, (channelBack x0 x1 s).boot = s.boot := by
  intros; unfold channelBack; repeat' first | with_reducible rfl | (simp; done) | split
@[simp] theorem reinstateNow_boot : ∀ x0 x1 s, (reinstateNow x0 x1 s).boot = s.boot := by
  intro _ _ s; unfold reinstateNow withRate; simp
@[simp] theorem reinstateEffect_boot : ∀ x0 x1 x2 x3 s, (reinstateEffect x0 x1 x2 x3 s).2.boot = s.boot := by
  intros; unfold reinstateEffect; try dsimp only
  repeat' first | with_reducible rfl | (simp; done) | split | refine Eq.trans (forAll_boot _ _ _ fun _ _ => ?_) ?_ |
    (simp only [onBar, onDev, andThen, valueOk, checked, rated, holderOnly, forwarded]; try dsimp only) | (simp; intros)
@[simp] theorem replaceNow_boot : ∀ s, (replaceNow s).boot = s.boot := by
  intros; unfold replaceNow; try dsimp only
  repeat' first | with_reducible rfl | (simp; done) | split | refine Eq.trans (forAll_boot _ _ _ fun _ _ => ?_) ?_ |
    (simp only [onBar, onDev, andThen, valueOk, checked, rated, holderOnly, forwarded]; try dsimp only) | (simp; intros)
@[simp] theorem replaceClearEffect_boot : ∀ x0 x1 x2 x3 s, (replaceClearEffect x0 x1 x2 x3 s).2.boot = s.boot := by
  intros; unfold replaceClearEffect; try dsimp only
  repeat' first | with_reducible rfl | (simp; done) | split | refine Eq.trans (forAll_boot _ _ _ fun _ _ => ?_) ?_ |
    (simp only [onBar, onDev, andThen, valueOk, checked, rated, holderOnly, forwarded]; try dsimp only) | (simp; intros)
@[simp] theorem wipeKeys_boot : ∀ s, (wipeKeys s).boot = s.boot := by intros; unfold wipeKeys; simp
@[simp] theorem zeroStart_boot : ∀ x0 s, (zeroStart x0 s).boot = s.boot := by intros; unfold zeroStart; simp
@[simp] theorem zeroizeEffect_boot : ∀ x0 x1 x2 x3 s, (zeroizeEffect x0 x1 x2 x3 s).2.boot = s.boot := by
  intros; unfold zeroizeEffect; try dsimp only
  repeat' first | with_reducible rfl | (simp; done) | split | refine Eq.trans (forAll_boot _ _ _ fun _ _ => ?_) ?_ |
    (simp only [onBar, onDev, andThen, valueOk, checked, rated, holderOnly, forwarded]; try dsimp only) | (simp; intros)
@[simp] theorem zeroEnd_boot : ∀ s, (zeroEnd s).boot = s.boot := by intros; unfold zeroEnd; simp
@[simp] theorem zeroAgain_boot : ∀ s, (zeroAgain s).boot = s.boot := by
  intros; unfold zeroAgain; repeat' first | with_reducible rfl | (simp; done) | split
@[simp] theorem tapLoad_boot : ∀ x0 s, (tapLoad x0 s).boot = s.boot := by intros; unfold tapLoad; simp
@[simp] theorem ictSet_boot : ∀ x0 x1 x2 s, (ictSet x0 x1 x2 s).boot = s.boot := fun x0 x1 x2 s => quiet_to_boot (ictSet_quiet _ _ _ _)
@[simp] theorem ictOne_boot : ∀ x0 x1 s, (ictOne x0 x1 s).boot = s.boot := fun x0 x1 s => quiet_to_boot (ictOne_quiet _ _ _)
@[simp] theorem ictFinish_boot : ∀ s, (ictFinish s).boot = s.boot := by intros; unfold ictFinish; simp
@[simp] theorem selftestEffect_boot : ∀ x0 x1 x2 x3 s, (selftestEffect x0 x1 x2 x3 s).2.boot = s.boot := by
  intros; unfold selftestEffect; try dsimp only
  repeat' first | with_reducible rfl | (simp; done) | split | refine Eq.trans (forAll_boot _ _ _ fun _ _ => ?_) ?_ |
    (simp only [onBar, onDev, andThen, valueOk, checked, rated, holderOnly, forwarded]; try dsimp only) | (simp; intros)
@[simp] theorem reapply_boot : ∀ x0 s, (reapply x0 s).boot = s.boot := by
  intros; unfold reapply; try dsimp only
  repeat' first | with_reducible rfl | (simp; done) | split | refine Eq.trans (forAll_boot _ _ _ fun _ _ => ?_) ?_ |
    (simp only [onBar, onDev, andThen, valueOk, checked, rated, holderOnly, forwarded]; try dsimp only) | (simp; intros)
@[simp] theorem reapplyAll_boot : ∀ s, (reapplyAll s).boot = s.boot := by intros; unfold reapplyAll; simp
@[simp] theorem bootRetire_boot : ∀ x0 x1 s, (bootRetire x0 x1 s).boot = s.boot := by
  intros; unfold bootRetire; repeat' first | with_reducible rfl | (simp; done) | split
@[simp] theorem bootTrain_boot : ∀ x0 x1 s, (bootTrain x0 x1 s).boot = s.boot := by intros; unfold bootTrain; simp
@[simp] theorem trainOne_boot : ∀ x0 x1 s, (trainOne x0 x1 s).boot = s.boot := by
  intros; unfold trainOne; repeat' first | with_reducible rfl | (simp; done) | split
@[simp] theorem bootRow_boot : ∀ x0 s, (bootRow x0 s).boot = s.boot := by
  intros; unfold bootRow; try dsimp only
  repeat' first | with_reducible rfl | (simp; done) | split | refine Eq.trans (forAll_boot _ _ _ fun _ _ => ?_) ?_ |
    (simp only [onBar, onDev, andThen, valueOk, checked, rated, holderOnly, forwarded]; try dsimp only) | (simp; intros)
@[simp] theorem bootIct_boot : ∀ x0 s, (bootIct x0 s).boot = s.boot := fun x0 s => quiet_to_boot (bootIct_quiet _ _)
@[simp] theorem selftestApply_boot : ∀ x0 s, (selftestApply x0 s).boot = s.boot := by
  intros; unfold selftestApply; try dsimp only
  repeat' first | with_reducible rfl | (simp; done) | split | refine Eq.trans (forAll_boot _ _ _ fun _ _ => ?_) ?_ |
    (simp only [onBar, onDev, andThen, valueOk, checked, rated, holderOnly, forwarded]; try dsimp only) | (simp; intros)
@[simp] theorem domainsUp_boot : ∀ s, (domainsUp s).boot = s.boot := by
  intros; unfold domainsUp; try dsimp only
  repeat' first | with_reducible rfl | (simp; done) | split | refine Eq.trans (forAll_boot _ _ _ fun _ _ => ?_) ?_ |
    (simp only [onBar, onDev, andThen, valueOk, checked, rated, holderOnly, forwarded]; try dsimp only) | (simp; intros)
@[simp] theorem firmwareStart_boot : ∀ s, (firmwareStart s).boot = s.boot := fun s => quiet_to_boot (firmwareStart_quiet _)
@[simp] theorem shutdownPost_boot : ∀ s, (shutdownPost s).boot = s.boot := fun s => quiet_to_boot (shutdownPost_quiet _)
@[simp] theorem bootPair_boot : ∀ s, (bootPair s).boot = s.boot := by intros; unfold bootPair; simp
@[simp] theorem threadPostEffect_boot : ∀ x0 x1 x2 x3 s, (threadPostEffect x0 x1 x2 x3 s).2.boot = s.boot := fun x0 x1 x2 x3 s => quiet_to_boot (threadPostEffect_quiet _ _ _ _ _)
@[simp] theorem extStop_boot : ∀ x0 s, (extStop x0 s).boot = s.boot := fun x0 s => quiet_to_boot (extStop_quiet _ _)
@[simp] theorem threadKillEffect_boot : ∀ x0 x1 x2 x3 s, (threadKillEffect x0 x1 x2 x3 s).2.boot = s.boot := fun x0 x1 x2 x3 s => quiet_to_boot (threadKillEffect_quiet _ _ _ _ _)
@[simp] theorem extStart_boot : ∀ x0 s, (extStart x0 s).boot = s.boot := by
  intros; unfold extStart; repeat' first | with_reducible rfl | (simp; done) | split
@[simp] theorem extCmdEffect_boot : ∀ x0 x1 x2 x3 s, (extCmdEffect x0 x1 x2 x3 s).2.boot = s.boot := by
  intros; unfold extCmdEffect; try dsimp only
  repeat' first | with_reducible rfl | (simp; done) | split | refine Eq.trans (forAll_boot _ _ _ fun _ _ => ?_) ?_ |
    (simp only [onBar, onDev, andThen, valueOk, checked, rated, holderOnly, forwarded]; try dsimp only) | (simp; intros)
@[simp] theorem relockStep_boot : ∀ x0 s, (relockStep x0 s).boot = s.boot := by
  intros; unfold relockStep; try dsimp only
  repeat' first | with_reducible rfl | (simp; done) | split | refine Eq.trans (forAll_boot _ _ _ fun _ _ => ?_) ?_ |
    (simp only [onBar, onDev, andThen, valueOk, checked, rated, holderOnly, forwarded, withRate, hostTime, toStandby, onRecord, byThread, byMachine, upFrame]; try dsimp only) | (simp; intros)
@[simp] theorem headTemp_boot : ∀ x0 x1 s, (headTemp x0 x1 s).boot = s.boot := by
  intros; unfold headTemp; try dsimp only
  repeat' first | with_reducible rfl | (simp; done) | split | refine Eq.trans (forAll_boot _ _ _ fun _ _ => ?_) ?_ |
    (simp only [onBar, onDev, andThen, valueOk, checked, rated, holderOnly, forwarded]; try dsimp only) | (simp; intros)
@[simp] theorem downstreamCrc_boot : ∀ x0 x1 s, (downstreamCrc x0 x1 s).boot = s.boot := by
  intros; unfold downstreamCrc; try dsimp only
  repeat' first | with_reducible rfl | (simp; done) | split | refine Eq.trans (forAll_boot _ _ _ fun _ _ => ?_) ?_ |
    (simp only [onBar, onDev, andThen, valueOk, checked, rated, holderOnly, forwarded]; try dsimp only) | (simp; intros)
@[simp] theorem takeStatus_boot : ∀ x0 x1 s, (takeStatus x0 x1 s).boot = s.boot := by intros; unfold takeStatus; simp
@[simp] theorem actBar_boot : ∀ x0 x1 x2 s, (actBar x0 x1 x2 s).boot = s.boot := by
  intros; unfold actBar; try dsimp only
  repeat' first | with_reducible rfl | (simp; done) | split | refine Eq.trans (forAll_boot _ _ _ fun _ _ => ?_) ?_ |
    (simp only [onBar, onDev, andThen, valueOk, checked, rated, holderOnly, forwarded]; try dsimp only) | (simp; intros)
@[simp] theorem takeAct_boot : ∀ x0 x1 s, (takeAct x0 x1 s).boot = s.boot := by
  intros; unfold takeAct; try dsimp only
  repeat' first | with_reducible rfl | (simp; done) | split | refine Eq.trans (forAll_boot _ _ _ fun _ _ => ?_) ?_ |
    (simp only [onBar, onDev, andThen, valueOk, checked, rated, holderOnly, forwarded, withRate, hostTime, toStandby, onRecord, byThread, byMachine, upFrame]; try dsimp only) | (simp; intros)
@[simp] theorem takeAnswer_boot : ∀ x0 x1 s, (takeAnswer x0 x1 s).boot = s.boot := by
  intros; unfold takeAnswer; try dsimp only
  repeat' first | with_reducible rfl | (simp; done) | split | refine Eq.trans (forAll_boot _ _ _ fun _ _ => ?_) ?_ |
    (simp only [onBar, onDev, andThen, valueOk, checked, rated, holderOnly, forwarded, withRate, hostTime, toStandby, onRecord, byThread, byMachine, upFrame]; try dsimp only) | (simp; intros)
@[simp] theorem enterDeep_boot : ∀ x0 s, (enterDeep x0 s).boot = s.boot := by
  intros; unfold enterDeep; repeat' first | with_reducible rfl | (simp; done) | split
@[simp] theorem laneCommand_boot : ∀ x0 x1 x2 x3 s, (laneCommand x0 x1 x2 x3 s).2.boot = s.boot := by
  intros; unfold laneCommand; try dsimp only
  repeat' first | with_reducible rfl | (simp; done) | split | refine Eq.trans (forAll_boot _ _ _ fun _ _ => ?_) ?_ |
    (simp only [onBar, onDev, andThen, valueOk, checked, rated, holderOnly, forwarded]; try dsimp only) | (simp; intros)
@[simp] theorem missedLine_boot : ∀ x0 x1 x2 x3 x4 s, (missedLine x0 x1 x2 x3 x4 s).boot = s.boot := by intros; unfold missedLine; simp
@[simp] theorem supplyFollow_boot : ∀ x0 s, (supplyFollow x0 s).boot = s.boot := by
  intros; unfold supplyFollow; try dsimp only
  repeat' first | with_reducible rfl | (simp; done) | split | refine Eq.trans (forAll_boot _ _ _ fun _ _ => ?_) ?_ |
    (simp only [onBar, onDev, andThen, valueOk, checked, rated, holderOnly, forwarded]; try dsimp only) | (simp; intros)
@[simp] theorem setLanes_boot : ∀ x0 s, (setLanes x0 s).boot = s.boot := by intros; unfold setLanes; simp
@[simp] theorem linkLost_boot : ∀ x0 s, (linkLost x0 s).boot = s.boot := by
  intros; unfold linkLost; try dsimp only
  repeat' first | with_reducible rfl | (simp; done) | split | refine Eq.trans (forAll_boot _ _ _ fun _ _ => ?_) ?_ |
    (simp only [onBar, onDev, andThen, valueOk, checked, rated, holderOnly, forwarded]; try dsimp only) | (simp; intros)
@[simp] theorem dozeLink_boot : ∀ s, (dozeLink s).boot = s.boot := by
  intros; unfold dozeLink; try dsimp only
  repeat' first | with_reducible rfl | (simp; done) | split | refine Eq.trans (forAll_boot _ _ _ fun _ _ => ?_) ?_ |
    (simp only [onBar, onDev, andThen, valueOk, checked, rated, holderOnly, forwarded, withRate, hostTime, toStandby, onRecord, byThread, byMachine, upFrame]; try dsimp only) | (simp; intros)
@[simp] theorem dozeLinkBack_boot : ∀ s, (dozeLinkBack s).boot = s.boot := by
  intros; unfold dozeLinkBack; try dsimp only
  repeat' first | with_reducible rfl | (simp; done) | split | refine Eq.trans (forAll_boot _ _ _ fun _ _ => ?_) ?_ |
    (simp only [onBar, onDev, andThen, valueOk, checked, rated, holderOnly, forwarded, withRate, hostTime, toStandby, onRecord, byThread, byMachine, upFrame]; try dsimp only) | (simp; intros)
@[simp] theorem macLearn_boot : ∀ x0 x1 s, (macLearn x0 x1 s).boot = s.boot := by
  intros; unfold macLearn; repeat' first | with_reducible rfl | (simp; done) | split
@[simp] theorem enqueue_boot : ∀ x0 x1 x2 s, (enqueue x0 x1 x2 s).boot = s.boot := by
  intros; unfold enqueue; try dsimp only
  repeat' first | with_reducible rfl | (simp; done) | split | refine Eq.trans (forAll_boot _ _ _ fun _ _ => ?_) ?_ |
    (simp only [onBar, onDev, andThen, valueOk, checked, rated, holderOnly, forwarded]; try dsimp only) | (simp; intros)
@[simp] theorem transparent_boot : ∀ x0 x1 s, (transparent x0 x1 s).2.boot = s.boot := fun x0 x1 s => quiet_to_boot (transparent_quiet _ _ _)
@[simp] theorem sendFrom_boot : ∀ x0 x1 x2 x3 s, (sendFrom x0 x1 x2 x3 s).boot = s.boot := by intros; unfold sendFrom; simp
@[simp] theorem rebase_boot : ∀ x0 s, (rebase x0 s).boot = s.boot := by intros; unfold rebase; simp
@[simp] theorem setRate_boot : ∀ x0 s, (setRate x0 s).boot = s.boot := by
  intros; unfold setRate; repeat' first | with_reducible rfl | (simp; done) | split
@[simp] theorem timeStepped_boot : ∀ x0 x1 s, (timeStepped x0 x1 s).boot = s.boot := fun x0 x1 s => quiet_to_boot (timeStepped_quiet _ _ _)
@[simp] theorem stepTime_boot : ∀ x0 x1 s, (stepTime x0 x1 s).boot = s.boot := by intros; unfold stepTime; simp
@[simp] theorem timeSetEffect_boot : ∀ x0 x1 x2 x3 s, (timeSetEffect x0 x1 x2 x3 s).2.boot = s.boot := by
  intro _ _ _ _ s; unfold timeSetEffect hostTime onDev; dsimp only
  repeat' first | with_reducible rfl | (simp; done) | split
@[simp] theorem timeStepEffect_boot : ∀ x0 x1 x2 x3 s, (timeStepEffect x0 x1 x2 x3 s).2.boot = s.boot := by
  intro _ _ _ _ s; unfold timeStepEffect hostTime onDev; dsimp only
  repeat' first | with_reducible rfl | (simp; done) | split
@[simp] theorem rateAdjEffect_boot : ∀ x0 x1 x2 x3 s, (rateAdjEffect x0 x1 x2 x3 s).2.boot = s.boot := by
  intro _ _ _ _ s; unfold rateAdjEffect hostTime onDev; dsimp only
  repeat' first | with_reducible rfl | (simp; done) | split
@[simp] theorem timeSrcEffect_boot : ∀ x0 x1 x2 x3 s, (timeSrcEffect x0 x1 x2 x3 s).2.boot = s.boot := by
  intros; unfold timeSrcEffect; try dsimp only
  repeat' first | with_reducible rfl | (simp; done) | split | refine Eq.trans (forAll_boot _ _ _ fun _ _ => ?_) ?_ |
    (simp only [onBar, onDev, andThen, valueOk, checked, rated, holderOnly, forwarded]; try dsimp only) | (simp; intros)
@[simp] theorem postPtp_boot : ∀ x0 x1 s, (postPtp x0 x1 s).boot = s.boot := fun x0 x1 s => quiet_to_boot (postPtp_quiet _ _ _)
@[simp] theorem selectMaster_boot : ∀ s, (selectMaster s).boot = s.boot := by
  intros; unfold selectMaster; try dsimp only
  repeat' first | with_reducible rfl | (simp; done) | split | refine Eq.trans (forAll_boot _ _ _ fun _ _ => ?_) ?_ |
    (simp only [onBar, onDev, andThen, valueOk, checked, rated, holderOnly, forwarded]; try dsimp only) | (simp; intros)
@[simp] theorem hearAnnounce_boot : ∀ x0 x1 s, (hearAnnounce x0 x1 s).boot = s.boot := by intros; unfold hearAnnounce; simp
@[simp] theorem lockFollow_boot : ∀ x0 s, (lockFollow x0 s).boot = s.boot := by
  intros; unfold lockFollow; try dsimp only
  repeat' first | with_reducible rfl | (simp; done) | split | refine Eq.trans (forAll_boot _ _ _ fun _ _ => ?_) ?_ |
    (simp only [onBar, onDev, andThen, valueOk, checked, rated, holderOnly, forwarded]; try dsimp only) | (simp; intros)
@[simp] theorem servo_boot : ∀ x0 s, (servo x0 s).boot = s.boot := by
  intros; unfold servo; repeat' first | with_reducible rfl | (simp; done) | split
@[simp] theorem setPathDelay_boot : ∀ x0 s, (setPathDelay x0 s).boot = s.boot := by
  intros; unfold setPathDelay; repeat' first | with_reducible rfl | (simp; done) | split
@[simp] theorem setLink_boot : ∀ x0 x1 x2 s, (setLink x0 x1 x2 s).boot = s.boot := fun x0 x1 x2 s => quiet_to_boot (setLink_quiet _ _ _ _)
@[simp] theorem advertise_boot : ∀ x0 x1 s, (advertise x0 x1 s).boot = s.boot := fun x0 x1 s => quiet_to_boot (advertise_quiet _ _ _)
@[simp] theorem relink_boot : ∀ x0 s, (relink x0 s).boot = s.boot := fun x0 s => quiet_to_boot (relink_quiet _ _)
@[simp] theorem vbTargetEffect_boot : ∀ x0 x1 x2 x3 s, (vbTargetEffect x0 x1 x2 x3 s).2.boot = s.boot := by
  intros; unfold vbTargetEffect; try dsimp only
  repeat' first | with_reducible rfl | (simp; done) | split | refine Eq.trans (forAll_boot _ _ _ fun _ _ => ?_) ?_ |
    (simp only [onBar, onDev, andThen, valueOk, checked, rated, holderOnly, forwarded]; try dsimp only) | (simp; intros)
@[simp] theorem commitReqEffect_boot : ∀ x0 x1 x2 x3 s, (commitReqEffect x0 x1 x2 x3 s).2.boot = s.boot := by
  intros; unfold commitReqEffect; try dsimp only
  repeat' first | with_reducible rfl | (simp; done) | split | refine Eq.trans (forAll_boot _ _ _ fun _ _ => ?_) ?_ |
    (simp only [onBar, onDev, andThen, valueOk, checked, rated, holderOnly, forwarded]; try dsimp only) | (simp; intros)
@[simp] theorem idleCommit_boot : ∀ x0 s, (idleCommit x0 s).boot = s.boot := by
  intros; unfold idleCommit; repeat' first | with_reducible rfl | (simp; done) | split
@[simp] theorem idleCommitDue_boot : ∀ x0 s, (idleCommitDue x0 s).boot = s.boot := by intros; unfold idleCommitDue; simp
@[simp] theorem discardOpen_boot : ∀ x0 s, (discardOpen x0 s).boot = s.boot := fun x0 s => quiet_to_boot (discardOpen_quiet _ _)
@[simp] theorem discardEffect_boot : ∀ x0 x1 x2 x3 s, (discardEffect x0 x1 x2 x3 s).2.boot = s.boot := fun x0 x1 x2 x3 s => quiet_to_boot (discardEffect_quiet _ _ _ _ _)
@[simp] theorem enterConfig_boot : ∀ s, (enterConfig s).boot = s.boot := by intros; unfold enterConfig; simp
@[simp] theorem layRegions_boot : ∀ s, (layRegions s).boot = s.boot := by
  intro s; exact applyQuotas_boot _
@[simp] theorem judgeColumns_boot : ∀ x0 s, (judgeColumns x0 s).boot = s.boot := fun x0 s => quiet_to_boot (judgeColumns_quiet _ _)
@[simp] theorem leaveConfig_boot : ∀ s, (leaveConfig s).boot = s.boot := by intros; unfold leaveConfig; simp
@[simp] theorem configToReady_boot : ∀ s, (configToReady s).2.boot = s.boot := by
  intros; unfold configToReady; repeat' first | with_reducible rfl | (simp; done) | split
@[simp] theorem safeToReady_boot : ∀ s, (safeToReady s).2.boot = s.boot := by
  intros; unfold safeToReady; repeat' first | with_reducible rfl | (simp; done) | split
@[simp] theorem emptyCaldera_boot : ∀ x0 s, (emptyCaldera x0 s).boot = s.boot := fun x0 s => quiet_to_boot (emptyCaldera_quiet _ _)
@[simp] theorem dozeLane_boot : ∀ x0 s, (dozeLane x0 s).boot = s.boot := by
  intros; unfold dozeLane; repeat' first | with_reducible rfl | (simp; done) | split
@[simp] theorem dozeDomain_boot : ∀ x0 s, (dozeDomain x0 s).boot = s.boot := by
  intros; unfold dozeDomain; try dsimp only
  repeat' first | with_reducible rfl | (simp; done) | split | refine Eq.trans (forAll_boot _ _ _ fun _ _ => ?_) ?_ |
    (simp only [onBar, onDev, andThen, valueOk, checked, rated, holderOnly, forwarded]; try dsimp only) | (simp; intros)
@[simp] theorem dozeExt_boot : ∀ x0 s, (dozeExt x0 s).boot = s.boot := fun x0 s => quiet_to_boot (dozeExt_quiet _ _)
@[simp] theorem dozeLose_boot : ∀ s, (dozeLose s).boot = s.boot := by intros; unfold dozeLose; simp
@[simp] theorem dozeRails_boot : ∀ s, (dozeRails s).boot = s.boot := by intros; unfold dozeRails; simp
@[simp] theorem dozeUnits_boot : ∀ s, (dozeUnits s).boot = s.boot := by intros; unfold dozeUnits; simp
@[simp] theorem enterDoze_boot : ∀ s, (enterDoze s).boot = s.boot := by intros; unfold enterDoze; simp
@[simp] theorem leaveDoze_boot : ∀ s, (leaveDoze s).boot = s.boot := by intros; unfold leaveDoze; simp
@[simp] theorem wakeAll_boot : ∀ x0 s, (wakeAll x0 s).boot = s.boot := by
  intros; unfold wakeAll; repeat' first | with_reducible rfl | (simp; done) | split
@[simp] theorem dozeBack_boot : ∀ x0 s, (dozeBack x0 s).boot = s.boot := by
  intros; unfold dozeBack; try dsimp only
  repeat' first | with_reducible rfl | (simp; done) | split | refine Eq.trans (forAll_boot _ _ _ fun _ _ => ?_) ?_ |
    (simp only [onBar, onDev, andThen, valueOk, checked, rated, holderOnly, forwarded, withRate, hostTime, toStandby, onRecord, byThread, byMachine, upFrame]; try dsimp only) | (simp; intros)
@[simp] theorem devTarget_boot : ∀ x0 s, (devTarget x0 s).2.boot = s.boot := by
  intros; unfold devTarget; repeat' first | with_reducible rfl | (simp; done) | split
@[simp] theorem devTargetEffect_boot : ∀ x0 x1 x2 x3 s, (devTargetEffect x0 x1 x2 x3 s).2.boot = s.boot := by
  intros; unfold devTargetEffect; try dsimp only
  repeat' first | with_reducible rfl | (simp; done) | split | refine Eq.trans (forAll_boot _ _ _ fun _ _ => ?_) ?_ |
    (simp only [onBar, onDev, andThen, valueOk, checked, rated, holderOnly, forwarded]; try dsimp only) | (simp; intros)
@[simp] theorem driveSteps_boot : ∀ x0 x1 s, (driveSteps x0 x1 s).boot = s.boot := fun x0 x1 s => quiet_to_boot (driveSteps_quiet _ _ _)
@[simp] theorem profileAxis_boot : ∀ x0 s, (profileAxis x0 s).boot = s.boot := by
  intros; unfold profileAxis; try dsimp only
  repeat' first | with_reducible rfl | (simp; done) | split | refine Eq.trans (forAll_boot _ _ _ fun _ _ => ?_) ?_ |
    (simp only [onBar, onDev, andThen, valueOk, checked, rated, holderOnly, forwarded, withRate, hostTime, toStandby, onRecord, byThread, byMachine, upFrame]; try dsimp only) | (simp; intros)
@[simp] theorem observeStep_boot : ∀ x0 x1 s, (observeStep x0 x1 s).boot = s.boot := by intros; unfold observeStep; simp
@[simp] theorem bandLog_boot : ∀ x0 x1 x2 x3 x4 x5 s, (bandLog x0 x1 x2 x3 x4 x5 s).boot = s.boot := fun x0 x1 x2 x3 x4 x5 s => quiet_to_boot (bandLog_quiet _ _ _ _ _ _ _)
@[simp] theorem changeBand_boot : ∀ x0 x1 x2 x3 x4 s, (changeBand x0 x1 x2 x3 x4 s).boot = s.boot := fun x0 x1 x2 x3 x4 s => quiet_to_boot (changeBand_quiet _ _ _ _ _ _)
@[simp] theorem applyBand_boot : ∀ x0 x1 s, (applyBand x0 x1 s).boot = s.boot := fun x0 x1 s => quiet_to_boot (applyBand_quiet _ _ _)
@[simp] theorem stopBand_boot : ∀ x0 x1 s, (stopBand x0 x1 s).boot = s.boot := fun x0 x1 s => quiet_to_boot (stopBand_quiet _ _ _)
@[simp] theorem dwellDone_boot : ∀ x0 x1 x2 s, (dwellDone x0 x1 x2 s).boot = s.boot := fun x0 x1 x2 s => quiet_to_boot (dwellDone_quiet _ _ _ _)
@[simp] theorem bandLineDue_boot : ∀ x0 x1 x2 s, (bandLineDue x0 x1 x2 s).boot = s.boot := fun x0 x1 x2 s => quiet_to_boot (bandLineDue_quiet _ _ _ _)
@[simp] theorem safeStrips_boot : ∀ x0 x1 s, (safeStrips x0 x1 s).boot = s.boot := fun x0 x1 s => quiet_to_boot (safeStrips_quiet _ _ _)
@[simp] theorem gapLineDue_boot : ∀ x0 x1 s, (gapLineDue x0 x1 s).boot = s.boot := fun x0 x1 s => quiet_to_boot (gapLineDue_quiet _ _ _)
@[simp] theorem startLineDue_boot : ∀ x0 x1 x2 s, (startLineDue x0 x1 x2 s).boot = s.boot := by
  intros; unfold startLineDue; repeat' first | with_reducible rfl | (simp; done) | split
@[simp] theorem marksLineDue_boot : ∀ x0 x1 s, (marksLineDue x0 x1 s).boot = s.boot := fun x0 x1 s => quiet_to_boot (marksLineDue_quiet _ _ _)
@[simp] theorem lateWagon_boot : ∀ x0 x1 x2 x3 x4 s, (lateWagon x0 x1 x2 x3 x4 s).boot = s.boot := fun x0 x1 x2 x3 x4 s => quiet_to_boot (lateWagon_quiet _ _ _ _ _ _)
@[simp] theorem wagonsLineDue_boot : ∀ x0 x1 s, (wagonsLineDue x0 x1 s).boot = s.boot := fun x0 x1 s => quiet_to_boot (wagonsLineDue_quiet _ _ _)
@[simp] theorem barBefore_boot : ∀ x0 x1 x2 x3 s, (barBefore x0 x1 x2 x3 s).boot = s.boot := by intros; unfold barBefore; simp
@[simp] theorem noteSkip_boot : ∀ x0 s, (noteSkip x0 s).boot = s.boot := by
  intros; unfold noteSkip; repeat' first | with_reducible rfl | (simp; done) | split
@[simp] theorem noteStrike_boot : ∀ s, (noteStrike s).boot = s.boot := by
  intros; unfold noteStrike; try dsimp only
  repeat' first | with_reducible rfl | (simp; done) | split | refine Eq.trans (forAll_boot _ _ _ fun _ _ => ?_) ?_ |
    (simp only [onBar, onDev, andThen, valueOk, checked, rated, holderOnly, forwarded]; try dsimp only) | (simp; intros)
@[simp] theorem strikePorts_boot : ∀ x0 s, (strikePorts x0 s).boot = s.boot := by
  intros; unfold strikePorts; repeat' first | with_reducible rfl | (simp; done) | split
@[simp] theorem deadFired_boot : ∀ x0 s, (deadFired x0 s).boot = s.boot := fun x0 s => quiet_to_boot (deadFired_quiet _ _)
@[simp] theorem lastStruck_boot : ∀ x0 x1 s, (lastStruck x0 x1 s).boot = s.boot := fun x0 x1 s => quiet_to_boot (lastStruck_quiet _ _ _)
@[simp] theorem strikeSources_boot : ∀ x0 s, (strikeSources x0 s).boot = s.boot := fun x0 s => quiet_to_boot (strikeSources_quiet _ _)
@[simp] theorem strikeLine_boot : ∀ x0 x1 s, (strikeLine x0 x1 s).boot = s.boot := by intros; unfold strikeLine; simp
@[simp] theorem putRecord_boot : ∀ x0 x1 x2 s, (putRecord x0 x1 x2 s).boot = s.boot := by intros; unfold putRecord; simp
@[simp] theorem fireLine_boot : ∀ x0 x1 s, (fireLine x0 x1 s).boot = s.boot := by
  intros; unfold fireLine; try dsimp only
  repeat' first | with_reducible rfl | (simp; done) | split | refine Eq.trans (forAll_boot _ _ _ fun _ _ => ?_) ?_ |
    (simp only [onBar, onDev, andThen, valueOk, checked, rated, holderOnly, forwarded]; try dsimp only) | (simp; intros)
@[simp] theorem admitLine_boot : ∀ x0 s, (admitLine x0 s).boot = s.boot := by
  intros; unfold admitLine; try dsimp only
  repeat' first | with_reducible rfl | (simp; done) | split | refine Eq.trans (forAll_boot _ _ _ fun _ _ => ?_) ?_ |
    (simp only [onBar, onDev, andThen, valueOk, checked, rated, holderOnly, forwarded]; try dsimp only) | (simp; intros)
@[simp] theorem printedLineDue_boot : ∀ x0 x1 s, (printedLineDue x0 x1 s).boot = s.boot := fun x0 x1 s => quiet_to_boot (printedLineDue_quiet _ _ _)
@[simp] theorem markReqsDue_boot : ∀ x0 x1 s, (markReqsDue x0 x1 s).boot = s.boot := by intros; unfold markReqsDue; simp
@[simp] theorem barAfter_boot : ∀ x0 x1 s, (barAfter x0 x1 s).boot = s.boot := by intros; unfold barAfter; simp
@[simp] theorem risesDue_boot : ∀ x0 s, (risesDue x0 s).boot = s.boot := by intros; unfold risesDue; simp
@[simp] theorem sendXchk_boot : ∀ x0 x1 s, (sendXchk x0 x1 s).boot = s.boot := fun x0 x1 s => quiet_to_boot (sendXchk_quiet _ _ _)
@[simp] theorem camTriggers_boot : ∀ x0 x1 s, (camTriggers x0 x1 s).boot = s.boot := by intros; unfold camTriggers; simp
@[simp] theorem joinLineDue_boot : ∀ x0 s, (joinLineDue x0 s).boot = s.boot := by
  intros; unfold joinLineDue; repeat' first | with_reducible rfl | (simp; done) | split
@[simp] theorem lineFalls_boot : ∀ x0 s, (lineFalls x0 s).boot = s.boot := by
  intros; unfold lineFalls; try dsimp only
  repeat' first | with_reducible rfl | (simp; done) | split | refine Eq.trans (forAll_boot _ _ _ fun _ _ => ?_) ?_ |
    (simp only [onBar, onDev, andThen, valueOk, checked, rated, holderOnly, forwarded]; try dsimp only) | (simp; intros)
@[simp] theorem lineDue_boot : ∀ s, (lineDue s).boot = s.boot := by
  intros; unfold lineDue; try dsimp only
  repeat' first | with_reducible rfl | (simp; done) | split | refine Eq.trans (forAll_boot _ _ _ fun _ _ => ?_) ?_ |
    (simp only [onBar, onDev, andThen, valueOk, checked, rated, holderOnly, forwarded, withRate, hostTime, toStandby, onRecord, byThread, byMachine, upFrame]; try dsimp only) | (simp; intros)
@[simp] theorem heard_boot : ∀ s, (heard s).boot = s.boot := by intros; unfold heard; simp
@[simp] theorem takeSupply_boot : ∀ x0 s, (takeSupply x0 s).boot = s.boot := by
  intros; unfold takeSupply; try dsimp only
  repeat' first | with_reducible rfl | (simp; done) | split | refine Eq.trans (forAll_boot _ _ _ fun _ _ => ?_) ?_ |
    (simp only [onBar, onDev, andThen, valueOk, checked, rated, holderOnly, forwarded]; try dsimp only) | (simp; intros)
@[simp] theorem takeHead_boot : ∀ x0 s, (takeHead x0 s).boot = s.boot := by
  intros; unfold takeHead; try dsimp only
  repeat' first | with_reducible rfl | (simp; done) | split | refine Eq.trans (forAll_boot _ _ _ fun _ _ => ?_) ?_ |
    (simp only [onBar, onDev, andThen, valueOk, checked, rated, holderOnly, forwarded]; try dsimp only) | (simp; intros)
@[simp] theorem rewritePort_boot : ∀ x0 x1 x2 s, (rewritePort x0 x1 x2 s).boot = s.boot := by
  intros; unfold rewritePort; try dsimp only
  repeat' first | with_reducible rfl | (simp; done) | split | refine Eq.trans (forAll_boot _ _ _ fun _ _ => ?_) ?_ |
    (simp only [onBar, onDev, andThen, valueOk, checked, rated, holderOnly, forwarded, withRate, hostTime, toStandby, onRecord, byThread, byMachine, upFrame]; try dsimp only) | (simp; intros)
@[simp] theorem takeStarted_boot : ∀ x0 x1 s, (takeStarted x0 x1 s).boot = s.boot := by intros; unfold takeStarted; simp
@[simp] theorem takeHeads_boot : ∀ x0 s, (takeHeads x0 s).boot = s.boot := by
  intros; unfold takeHeads; try dsimp only
  repeat' first | with_reducible rfl | (simp; done) | split | refine Eq.trans (forAll_boot _ _ _ fun _ _ => ?_) ?_ |
    (simp only [onBar, onDev, andThen, valueOk, checked, rated, holderOnly, forwarded, withRate, hostTime, toStandby, onRecord, byThread, byMachine, upFrame]; try dsimp only) | (simp; intros)
@[simp] theorem takeBar_boot : ∀ x0 s, (takeBar x0 s).boot = s.boot := by
  intros; unfold takeBar; try dsimp only
  repeat' first | with_reducible rfl | (simp; done) | split | refine Eq.trans (forAll_boot _ _ _ fun _ _ => ?_) ?_ |
    (simp only [onBar, onDev, andThen, valueOk, checked, rated, holderOnly, forwarded, withRate, hostTime, toStandby, onRecord, byThread, byMachine, upFrame]; try dsimp only) | (simp; intros)
@[simp] theorem takeOutputs_boot : ∀ s, (takeOutputs s).boot = s.boot := by intros; unfold takeOutputs; simp
@[simp] theorem takeReins_boot : ∀ s, (takeReins s).boot = s.boot := by intros; unfold takeReins; simp
@[simp] theorem tryTake_boot : ∀ s, (tryTake s).boot = s.boot := by
  intros; unfold tryTake; repeat' first | with_reducible rfl | (simp; done) | split
@[simp] theorem tryStart_boot : ∀ s, (tryStart s).boot = s.boot := by
  intros; unfold tryStart; repeat' first | with_reducible rfl | (simp; done) | split
@[simp] theorem joinStandby_boot : ∀ s, (joinStandby s).boot = s.boot := by intros; unfold joinStandby; simp
@[simp] theorem leaseJoin_boot : ∀ s, (leaseJoin s).boot = s.boot := by
  intros; unfold leaseJoin; try dsimp only
  repeat' first | with_reducible rfl | (simp; done) | split | refine Eq.trans (forAll_boot _ _ _ fun _ _ => ?_) ?_ |
    (simp only [onBar, onDev, andThen, valueOk, checked, rated, holderOnly, forwarded, withRate, hostTime, toStandby, onRecord, byThread, byMachine, upFrame]; try dsimp only) | (simp; intros)
@[simp] theorem takeCommit_boot : ∀ x0 x1 x2 s, (takeCommit x0 x1 x2 s).boot = s.boot := by
  intros; unfold takeCommit; try dsimp only
  repeat' first | with_reducible rfl | (simp; done) | split | refine Eq.trans (forAll_boot _ _ _ fun _ _ => ?_) ?_ |
    (simp only [onBar, onDev, andThen, valueOk, checked, rated, holderOnly, forwarded, withRate, hostTime, toStandby, onRecord, byThread, byMachine, upFrame]; try dsimp only) | (simp; intros)
@[simp] theorem genRepair_boot : ∀ x0 x1 s, (genRepair x0 x1 s).boot = s.boot := by
  intros; unfold genRepair; try dsimp only
  repeat' first | with_reducible rfl | (simp; done) | split | refine Eq.trans (forAll_boot _ _ _ fun _ _ => ?_) ?_ |
    (simp only [onBar, onDev, andThen, valueOk, checked, rated, holderOnly, forwarded, withRate, hostTime, toStandby, onRecord, byThread, byMachine, upFrame]; try dsimp only) | (simp; intros)
@[simp] theorem holdFixed_boot : ∀ x0 s, (holdFixed x0 s).boot = s.boot := fun x0 s => quiet_to_boot (holdFixed_quiet _ _)
@[simp] theorem peerStrip_boot : ∀ x0 x1 s, (peerStrip x0 x1 s).boot = s.boot := fun x0 x1 s => quiet_to_boot (peerStrip_quiet _ _ _)
@[simp] theorem takeFlip_boot : ∀ x0 x1 x2 x3 s, (takeFlip x0 x1 x2 x3 s).boot = s.boot := by
  intros; unfold takeFlip; try dsimp only
  repeat' first | with_reducible rfl | (simp; done) | split | refine Eq.trans (forAll_boot _ _ _ fun _ _ => ?_) ?_ |
    (simp only [onBar, onDev, andThen, valueOk, checked, rated, holderOnly, forwarded, withRate, hostTime, toStandby, onRecord, byThread, byMachine, upFrame]; try dsimp only) | (simp; intros)
@[simp] theorem peerBand_boot : ∀ x0 x1 s, (peerBand x0 x1 s).boot = s.boot := fun x0 x1 s => quiet_to_boot (peerBand_quiet _ _ _)
@[simp] theorem mirrorNozzle_boot : ∀ x0 x1 x2 x3 x4 s, (mirrorNozzle x0 x1 x2 x3 x4 s).boot = s.boot := fun x0 x1 x2 x3 x4 s => quiet_to_boot (mirrorNozzle_quiet _ _ _ _ _ _)
@[simp] theorem mirrorHv_boot : ∀ x0 x1 x2 s, (mirrorHv x0 x1 x2 s).boot = s.boot := by
  intros; unfold mirrorHv; try dsimp only
  repeat' first | with_reducible rfl | (simp; done) | split | refine Eq.trans (forAll_boot _ _ _ fun _ _ => ?_) ?_ |
    (simp only [onBar, onDev, andThen, valueOk, checked, rated, holderOnly, forwarded]; try dsimp only) | (simp; intros)
@[simp] theorem followDev_boot : ∀ x0 s, (followDev x0 s).boot = s.boot := by
  intros; unfold followDev; try dsimp only
  repeat' first | with_reducible rfl | (simp; done) | split | refine Eq.trans (forAll_boot _ _ _ fun _ _ => ?_) ?_ |
    (simp only [onBar, onDev, andThen, valueOk, checked, rated, holderOnly, forwarded]; try dsimp only) | (simp; intros)
@[simp] theorem mirrorCaldera_boot : ∀ x0 x1 x2 s, (mirrorCaldera x0 x1 x2 s).boot = s.boot := fun x0 x1 x2 s => quiet_to_boot (mirrorCaldera_quiet _ _ _ _)
@[simp] theorem mirrorTake_boot : ∀ x0 s, (mirrorTake x0 s).boot = s.boot := by
  intros; unfold mirrorTake; repeat' first | with_reducible rfl | (simp; done) | split
@[simp] theorem mirrorLag_boot : ∀ s, (mirrorLag s).boot = s.boot := by intros; unfold mirrorLag; simp
@[simp] theorem takeMirror_boot : ∀ x0 s, (takeMirror x0 s).boot = s.boot := by
  intros; unfold takeMirror; try dsimp only
  repeat' first | with_reducible rfl | (simp; done) | split | refine Eq.trans (forAll_boot _ _ _ fun _ _ => ?_) ?_ |
    (simp only [onBar, onDev, andThen, valueOk, checked, rated, holderOnly, forwarded, withRate, hostTime, toStandby, onRecord, byThread, byMachine, upFrame]; try dsimp only) | (simp; intros)
@[simp] theorem applyForward_boot : ∀ x0 x1 x2 x3 s, (applyForward x0 x1 x2 x3 s).boot = s.boot := by
  intros; unfold applyForward; repeat' first | with_reducible rfl | (simp; done) | split
@[simp] theorem setK_boot : ∀ x0 x1 x2 s, (setK x0 x1 x2 s).boot = s.boot := by intros; unfold setK; simp
@[simp] theorem align_boot : ∀ x0 x1 x2 s, (align x0 x1 x2 s).boot = s.boot := by intros; unfold align; simp
@[simp] theorem xchkPost_boot : ∀ x0 x1 x2 s, (xchkPost x0 x1 x2 s).boot = s.boot := fun x0 x1 x2 s => quiet_to_boot (xchkPost_quiet _ _ _ _)
@[simp] theorem xchkDiffers_boot : ∀ x0 x1 s, (xchkDiffers x0 x1 s).boot = s.boot := by
  intros; unfold xchkDiffers; try dsimp only
  repeat' first | with_reducible rfl | (simp; done) | split | refine Eq.trans (forAll_boot _ _ _ fun _ _ => ?_) ?_ |
    (simp only [onBar, onDev, andThen, valueOk, checked, rated, holderOnly, forwarded]; try dsimp only) | (simp; intros)
@[simp] theorem xchkTake_boot : ∀ x0 x1 x2 s, (xchkTake x0 x1 x2 s).boot = s.boot := by
  intros; unfold xchkTake; try dsimp only
  repeat' first | with_reducible rfl | (simp; done) | split | refine Eq.trans (forAll_boot _ _ _ fun _ _ => ?_) ?_ |
    (simp only [onBar, onDev, andThen, valueOk, checked, rated, holderOnly, forwarded]; try dsimp only) | (simp; intros)
@[simp] theorem joinActive_boot : ∀ s, (joinActive s).boot = s.boot := by intros; unfold joinActive; simp
@[simp] theorem joinJudge_boot : ∀ s, (joinJudge s).boot = s.boot := by intros; unfold joinJudge; simp
@[simp] theorem helloMatch_boot : ∀ s, (helloMatch s).boot = s.boot := by
  intros; unfold helloMatch; try dsimp only
  repeat' first | with_reducible rfl | (simp; done) | split | refine Eq.trans (forAll_boot _ _ _ fun _ _ => ?_) ?_ |
    (simp only [onBar, onDev, andThen, valueOk, checked, rated, holderOnly, forwarded]; try dsimp only) | (simp; intros)
@[simp] theorem helloTake_boot : ∀ x0 x1 x2 x3 s, (helloTake x0 x1 x2 x3 s).boot = s.boot := by
  intros; unfold helloTake; try dsimp only
  repeat' first | with_reducible rfl | (simp; done) | split | refine Eq.trans (forAll_boot _ _ _ fun _ _ => ?_) ?_ |
    (simp only [onBar, onDev, andThen, valueOk, checked, rated, holderOnly, forwarded]; try dsimp only) | (simp; intros)
@[simp] theorem sendHello_boot : ∀ s, (sendHello s).boot = s.boot := fun s => quiet_to_boot (sendHello_quiet _)
@[simp] theorem joinBar_boot : ∀ x0 s, (joinBar x0 s).boot = s.boot := by intros; unfold joinBar; simp
@[simp] theorem pairCmdEffect_boot : ∀ x0 x1 x2 x3 s, (pairCmdEffect x0 x1 x2 x3 s).2.boot = s.boot := by
  intros; unfold pairCmdEffect; try dsimp only
  repeat' first | with_reducible rfl | (simp; done) | split | refine Eq.trans (forAll_boot _ _ _ fun _ _ => ?_) ?_ |
    (simp only [onBar, onDev, andThen, valueOk, checked, rated, holderOnly, forwarded]; try dsimp only) | (simp; intros)
@[simp] theorem pairModeEffect_boot : ∀ x0 x1 x2 x3 s, (pairModeEffect x0 x1 x2 x3 s).2.boot = s.boot := by
  intros; unfold pairModeEffect; try dsimp only
  repeat' first | with_reducible rfl | (simp; done) | split | refine Eq.trans (forAll_boot _ _ _ fun _ _ => ?_) ?_ |
    (simp only [onBar, onDev, andThen, valueOk, checked, rated, holderOnly, forwarded]; try dsimp only) | (simp; intros)
@[simp] theorem readSlot_boot : ∀ x0 x1 x2 s, (readSlot x0 x1 x2 s).2.boot = s.boot := fun x0 x1 x2 s => quiet_to_boot (readSlot_quiet _ _ _ _)
@[simp] theorem countClips_boot : ∀ x0 x1 x2 x3 x4 x5 x6 s, (countClips x0 x1 x2 x3 x4 x5 x6 s).boot = s.boot := fun x0 x1 x2 x3 x4 x5 x6 s => quiet_to_boot (countClips_quiet _ _ _ _ _ _ _ _)
@[simp] theorem spanDone_boot : ∀ x0 x1 x2 x3 x4 x5 x6 s, (spanDone x0 x1 x2 x3 x4 x5 x6 s).boot = s.boot := fun x0 x1 x2 x3 x4 x5 x6 s => quiet_to_boot (spanDone_quiet _ _ _ _ _ _ _ _)
@[simp] theorem chargeToken_boot : ∀ x0 s, (chargeToken x0 s).boot = s.boot := by intros; unfold chargeToken; simp
@[simp] theorem screenWith_boot : ∀ x0 x1 x2 x3 x4 x5 s, (screenWith x0 x1 x2 x3 x4 x5 s).boot = s.boot := by intros; unfold screenWith; simp
@[simp] theorem handover_boot : ∀ x0 x1 x2 x3 s, (handover x0 x1 x2 x3 s).boot = s.boot := by
  intros; unfold handover; try dsimp only
  repeat' first | with_reducible rfl | (simp; done) | split | refine Eq.trans (forAll_boot _ _ _ fun _ _ => ?_) ?_ |
    (simp only [onBar, onDev, andThen, valueOk, checked, rated, holderOnly, forwarded, withRate, hostTime, toStandby, onRecord, byThread, byMachine, upFrame]; try dsimp only) | (simp; intros)
@[simp] theorem screenToken_boot : ∀ x0 x1 x2 x3 s, (screenToken x0 x1 x2 x3 s).boot = s.boot := by
  intros; unfold screenToken; try dsimp only
  repeat' first | with_reducible rfl | (simp; done) | split | refine Eq.trans (forAll_boot _ _ _ fun _ _ => ?_) ?_ |
    (simp only [onBar, onDev, andThen, valueOk, checked, rated, holderOnly, forwarded]; try dsimp only) | (simp; intros)
@[simp] theorem routeWith_boot : ∀ x0 x1 x2 x3 x4 s, (routeWith x0 x1 x2 x3 x4 s).boot = s.boot := fun x0 x1 x2 x3 x4 s => quiet_to_boot (routeWith_quiet _ _ _ _ _ _)
@[simp] theorem routeLine_boot : ∀ x0 x1 x2 x3 s, (routeLine x0 x1 x2 x3 s).boot = s.boot := fun x0 x1 x2 x3 s => quiet_to_boot (routeLine_quiet _ _ _ _ _)
@[simp] theorem dropGeyserLines_boot : ∀ x0 s, (dropGeyserLines x0 s).boot = s.boot := fun x0 s => quiet_to_boot (dropGeyserLines_quiet _ _)
@[simp] theorem moveSpans_boot : ∀ x0 s, (moveSpans x0 s).boot = s.boot := by
  intros; unfold moveSpans; try dsimp only
  repeat' first | with_reducible rfl | (simp; done) | split | refine Eq.trans (forAll_boot _ _ _ fun _ _ => ?_) ?_ |
    (simp only [onBar, onDev, andThen, valueOk, checked, rated, holderOnly, forwarded, withRate, hostTime, toStandby, onRecord, byThread, byMachine, upFrame]; try dsimp only) | (simp; intros)
@[simp] theorem purgeEffect_boot : ∀ x0 x1 x2 x3 s, (purgeEffect x0 x1 x2 x3 s).2.boot = s.boot := fun x0 x1 x2 x3 s => quiet_to_boot (purgeEffect_quiet _ _ _ _ _)
@[simp] theorem valueOk_boot : ∀ x0 x1 x2 x3 x4 s, (valueOk x0 x1 x2 x3 x4 s).2.boot = s.boot := fun x0 x1 x2 x3 x4 s => quiet_to_boot (valueOk_quiet _ _ _ _ _ _)
@[simp] theorem layoutEffect_boot : ∀ x0 x1 x2 x3 s, (layoutEffect x0 x1 x2 x3 s).2.boot = s.boot := by
  intros; unfold layoutEffect; try dsimp only
  repeat' first | with_reducible rfl | (simp; done) | split | refine Eq.trans (forAll_boot _ _ _ fun _ _ => ?_) ?_ |
    (simp only [onBar, onDev, andThen, valueOk, checked, rated, holderOnly, forwarded]; try dsimp only) | (simp; intros)
@[simp] theorem violationEffect_boot : ∀ x0 x1 x2 x3 s, (violationEffect x0 x1 x2 x3 s).2.boot = s.boot := fun x0 x1 x2 x3 s => quiet_to_boot (violationEffect_quiet _ _ _ _ _)
@[simp] theorem planeEffect_boot : ∀ x0 x1 x2 x3 s, (planeEffect x0 x1 x2 x3 s).2.boot = s.boot := by
  intros; unfold planeEffect; try dsimp only
  repeat' first | with_reducible rfl | (simp; done) | split | refine Eq.trans (forAll_boot _ _ _ fun _ _ => ?_) ?_ |
    (simp only [onBar, onDev, andThen, valueOk, checked, rated, holderOnly, forwarded]; try dsimp only) | (simp; intros)
@[simp] theorem formatEffect_boot : ∀ x0 x1 x2 x3 s, (formatEffect x0 x1 x2 x3 s).2.boot = s.boot := by
  intro _ _ _ _ s; unfold formatEffect rated onBar; dsimp only
  repeat' first | with_reducible rfl | (simp [withRate]; done) | split
@[simp] theorem defaultTables_boot : ∀ x0 s, (defaultTables x0 s).boot = s.boot := fun x0 s => quiet_to_boot (defaultTables_quiet _ _)
@[simp] theorem mapEffect_boot : ∀ x0 x1 x2 x3 s, (mapEffect x0 x1 x2 x3 s).2.boot = s.boot := by
  intros; unfold mapEffect; try dsimp only
  repeat' first | with_reducible rfl | (simp; done) | split | refine Eq.trans (forAll_boot _ _ _ fun _ _ => ?_) ?_ |
    (simp only [onBar, onDev, andThen, valueOk, checked, rated, holderOnly, forwarded]; try dsimp only) | (simp; intros)
@[simp] theorem geomEffect_boot : ∀ x0 x1 x2 x3 s, (geomEffect x0 x1 x2 x3 s).2.boot = s.boot := by
  intros; unfold geomEffect; try dsimp only
  repeat' first | with_reducible rfl | (simp; done) | split | refine Eq.trans (forAll_boot _ _ _ fun _ _ => ?_) ?_ |
    (simp only [onBar, onDev, andThen, valueOk, checked, rated, holderOnly, forwarded]; try dsimp only) | (simp; intros)
@[simp] theorem recheckAll_boot : ∀ x0 x1 x2 x3 s, (recheckAll x0 x1 x2 x3 s).2.boot = s.boot := by
  intros; unfold recheckAll; try dsimp only
  repeat' first | with_reducible rfl | (simp; done) | split | refine Eq.trans (forAll_boot _ _ _ fun _ _ => ?_) ?_ |
    (simp only [onBar, onDev, andThen, valueOk, checked, rated, holderOnly, forwarded]; try dsimp only) | (simp; intros)
@[simp] theorem camEffect_boot : ∀ x0 x1 x2 x3 s, (camEffect x0 x1 x2 x3 s).2.boot = s.boot := by
  intros; unfold camEffect; try dsimp only
  repeat' first | with_reducible rfl | (simp; done) | split | refine Eq.trans (forAll_boot _ _ _ fun _ _ => ?_) ?_ |
    (simp only [onBar, onDev, andThen, valueOk, checked, rated, holderOnly, forwarded]; try dsimp only) | (simp; intros)
@[simp] theorem domainEffect_boot : ∀ x0 x1 x2 x3 s, (domainEffect x0 x1 x2 x3 s).2.boot = s.boot := by
  intros; unfold domainEffect; try dsimp only
  repeat' first | with_reducible rfl | (simp; done) | split | refine Eq.trans (forAll_boot _ _ _ fun _ _ => ?_) ?_ |
    (simp only [onBar, onDev, andThen, valueOk, checked, rated, holderOnly, forwarded]; try dsimp only) | (simp; intros)
@[simp] theorem portEffect_boot : ∀ x0 x1 x2 x3 s, (portEffect x0 x1 x2 x3 s).2.boot = s.boot := fun x0 x1 x2 x3 s => quiet_to_boot (portEffect_quiet _ _ _ _ _)
@[simp] theorem routeEffect_boot : ∀ x0 x1 x2 x3 s, (routeEffect x0 x1 x2 x3 s).2.boot = s.boot := fun x0 x1 x2 x3 s => quiet_to_boot (routeEffect_quiet _ _ _ _ _)
@[simp] theorem extCfgEffect_boot : ∀ x0 x1 x2 x3 s, (extCfgEffect x0 x1 x2 x3 s).2.boot = s.boot := fun x0 x1 x2 x3 s => quiet_to_boot (extCfgEffect_quiet _ _ _ _ _)
@[simp] theorem cmpCfgEffect_boot : ∀ x0 x1 x2 x3 s, (cmpCfgEffect x0 x1 x2 x3 s).2.boot = s.boot := fun x0 x1 x2 x3 s => quiet_to_boot (cmpCfgEffect_quiet _ _ _ _ _)
@[simp] theorem drawBufs_boot : ∀ x0 s, (drawBufs x0 s).2.boot = s.boot := by
  intro n
  induction n with
  | zero => intro s; rfl
  | succ n ih => intro s; unfold drawBufs; dsimp only; rw [ih]; rfl
@[simp] theorem chainSlotEffect_boot : ∀ x0 x1 x2 x3 s, (chainSlotEffect x0 x1 x2 x3 s).2.boot = s.boot := by
  intros; unfold chainSlotEffect; repeat' first | with_reducible rfl | (simp; done) | split
@[simp] theorem ownEffect_boot : ∀ x0 x1 x2 x3 x4 s, (ownEffect x0 x1 x2 x3 x4 s).2.boot = s.boot := fun x0 x1 x2 x3 x4 s => quiet_to_boot (ownEffect_quiet _ _ _ _ _ _)
@[simp] theorem effectLow_boot : ∀ x0 x1 x2 x3 x4 x5 x6 s, (effectLow x0 x1 x2 x3 x4 x5 x6 s).2.boot = s.boot := by
  intros; unfold effectLow; repeat' first | with_reducible rfl | (simp; done) | split
@[simp] theorem effectMid_boot : ∀ x0 x1 x2 x3 x4 x5 s, (effectMid x0 x1 x2 x3 x4 x5 s).2.boot = s.boot := by
  intros; unfold effectMid; try dsimp only
  repeat' first | with_reducible rfl | (simp; done) | split | refine Eq.trans (forAll_boot _ _ _ fun _ _ => ?_) ?_ |
    (simp only [onBar, onDev, andThen, valueOk, checked, rated, holderOnly, forwarded]; try dsimp only) | (simp; intros)
@[simp] theorem effectPair_boot : ∀ x0 x1 x2 x3 x4 x5 s, (effectPair x0 x1 x2 x3 x4 x5 s).2.boot = s.boot := by
  intros; unfold effectPair; repeat' first | with_reducible rfl | (simp; done) | split
@[simp] theorem effectHigh_boot : ∀ x0 x1 x2 x3 x4 x5 s, (effectHigh x0 x1 x2 x3 x4 x5 s).2.boot = s.boot := by
  intros; unfold effectHigh; try dsimp only
  repeat' first | with_reducible rfl | (simp; done) | split | refine Eq.trans (forAll_boot _ _ _ fun _ _ => ?_) ?_ |
    (simp only [onBar, onDev, andThen, valueOk, checked, rated, holderOnly, forwarded]; try dsimp only) | (simp; intros)
@[simp] theorem objectEffect_boot : ∀ x0 x1 x2 x3 x4 x5 x6 s, (objectEffect x0 x1 x2 x3 x4 x5 x6 s).2.boot = s.boot := by
  intros; unfold objectEffect; repeat' first | with_reducible rfl | (simp; done) | split
@[simp] theorem slotWrite_boot : ∀ x0 x1 x2 x3 s, (slotWrite x0 x1 x2 x3 s).2.boot = s.boot := fun _ _ _ _ s =>
  doorWrite_boot _ _ _ _ _ s (fun _ _ _ _ t => objectEffect_boot _ _ _ _ _ _ _ t)
@[simp] theorem discardHeld_boot : ∀ x0 s, (discardHeld x0 s).boot = s.boot := fun x0 s => quiet_to_boot (discardHeld_quiet _ _)
@[simp] theorem dropHalves_boot : ∀ x0 x1 s, (dropHalves x0 x1 s).boot = s.boot := fun x0 x1 s => quiet_to_boot (dropHalves_quiet _ _ _)
@[simp] theorem pieceWrite_boot : ∀ x0 x1 x2 x3 x4 s, (pieceWrite x0 x1 x2 x3 x4 s).boot = s.boot := by
  intros; unfold pieceWrite; try dsimp only
  repeat' first | with_reducible rfl | (simp; done) | split | refine Eq.trans (forAll_boot _ _ _ fun _ _ => ?_) ?_ |
    (simp only [onBar, onDev, andThen, valueOk, checked, rated, holderOnly, forwarded]; try dsimp only) | (simp; intros)
@[simp] theorem pieceRead_boot : ∀ x0 x1 x2 x3 s, (pieceRead x0 x1 x2 x3 s).2.boot = s.boot := fun x0 x1 x2 x3 s => quiet_to_boot (pieceRead_quiet _ _ _ _ _)
theorem onePiece_boot (k w x) (a : List Byte × State) : (onePiece k w x a).2.boot = a.2.boot := by
  unfold onePiece; dsimp only
  split <;> simp
@[simp] theorem slotRequest_boot : ∀ x0 x1 s, (slotRequest x0 x1 s).boot = s.boot := by
  intro k r s; unfold slotRequest; dsimp only
  split
  · split
    · exact foldl_keeps (fun a : List Byte × State => a.2.boot) _ _ _ (fun a x => onePiece_boot _ _ _ _)
    · exact foldl_keeps (fun a : List Byte × State => a.2.boot) _ _ _ (fun a x => onePiece_boot _ _ _ _)
  · repeat' first | with_reducible rfl | (simp; done) | split
@[simp] theorem blockStart_boot : ∀ x0 x1 x2 x3 x4 x5 s, (blockStart x0 x1 x2 x3 x4 x5 s).2.boot = s.boot := fun x0 x1 x2 x3 x4 x5 s => quiet_to_boot (blockStart_quiet _ _ _ _ _ _ _)
@[simp] theorem applyBlock_boot : ∀ x0 x1 x2 x3 x4 s, (applyBlock x0 x1 x2 x3 x4 s).2.boot = s.boot := by
  intros; unfold applyBlock; try dsimp only
  repeat' first | with_reducible rfl | (simp; done) | split | refine Eq.trans (forAll_boot _ _ _ fun _ _ => ?_) ?_ |
    (simp only [onBar, onDev, andThen, valueOk, checked, rated, holderOnly, forwarded]; try dsimp only) | (simp; intros)
@[simp] theorem sealAfter_boot : ∀ x0 s, (sealAfter x0 s).boot = s.boot := by
  intros; unfold sealAfter; repeat' first | with_reducible rfl | (simp; done) | split
@[simp] theorem modChan_boot : ∀ x0 x1 x2 s, (modChan x0 x1 x2 s).boot = s.boot := fun x0 x1 x2 s => quiet_to_boot (modChan_quiet _ _ _ _)
@[simp] theorem blockEvent_boot : ∀ x0 x1 x2 x3 s, (blockEvent x0 x1 x2 x3 s).boot = s.boot := fun x0 x1 x2 x3 s => quiet_to_boot (blockEvent_quiet _ _ _ _ _)
@[simp] theorem endChan_boot : ∀ x0 x1 x2 x3 x4 s, (endChan x0 x1 x2 x3 x4 s).boot = s.boot := fun x0 x1 x2 x3 x4 s => quiet_to_boot (endChan_quiet _ _ _ _ _ _)
@[simp] theorem beginChan_boot : ∀ x0 x1 x2 x3 x4 x5 x6 s, (beginChan x0 x1 x2 x3 x4 x5 x6 s).boot = s.boot := fun x0 x1 x2 x3 x4 x5 x6 s => quiet_to_boot (beginChan_quiet _ _ _ _ _ _ _ _)
@[simp] theorem startChan_boot : ∀ x0 x1 x2 x3 s, (startChan x0 x1 x2 x3 s).boot = s.boot := fun x0 x1 x2 x3 s => quiet_to_boot (startChan_quiet _ _ _ _ _)
@[simp] theorem abortChan_boot : ∀ x0 x1 s, (abortChan x0 x1 s).boot = s.boot := by
  intros; unfold abortChan; try dsimp only
  repeat' first | with_reducible rfl | (simp; done) | split | refine Eq.trans (forAll_boot _ _ _ fun _ _ => ?_) ?_ |
    (simp only [onBar, onDev, andThen, valueOk, checked, rated, holderOnly, forwarded]; try dsimp only) | (simp; intros)
@[simp] theorem abortBusy_boot : ∀ x0 x1 s, (abortBusy x0 x1 s).boot = s.boot := by
  intros; unfold abortBusy; try dsimp only
  repeat' first | with_reducible rfl | (simp; done) | split | refine Eq.trans (forAll_boot _ _ _ fun _ _ => ?_) ?_ |
    (simp only [onBar, onDev, andThen, valueOk, checked, rated, holderOnly, forwarded, withRate, hostTime, toStandby, onRecord, byThread, byMachine, upFrame]; try dsimp only) | (simp; intros)
@[simp] theorem finishChan_boot : ∀ x0 x1 x2 x3 s, (finishChan x0 x1 x2 x3 s).boot = s.boot := by
  intros; unfold finishChan; repeat' first | with_reducible rfl | (simp; done) | split
@[simp] theorem chanDone_boot : ∀ x0 x1 x2 s, (chanDone x0 x1 x2 s).boot = s.boot := by
  intros; unfold chanDone; try dsimp only
  repeat' first | with_reducible rfl | (simp; done) | split | refine Eq.trans (forAll_boot _ _ _ fun _ _ => ?_) ?_ |
    (simp only [onBar, onDev, andThen, valueOk, checked, rated, holderOnly, forwarded, withRate, hostTime, toStandby, onRecord, byThread, byMachine, upFrame]; try dsimp only) | (simp; intros)
@[simp] theorem plainReply_boot : ∀ x0 x1 x2 x3 x4 s, (plainReply x0 x1 x2 x3 x4 s).boot = s.boot := fun x0 x1 x2 x3 x4 s => quiet_to_boot (plainReply_quiet _ _ _ _ _ _)
@[simp] theorem challenge_boot : ∀ x0 x1 x2 s, (challenge x0 x1 x2 s).boot = s.boot := by intros; unfold challenge; simp
@[simp] theorem helloServe_boot : ∀ x0 s, (helloServe x0 s).boot = s.boot := by
  intros; unfold helloServe; try dsimp only
  repeat' first | with_reducible rfl | (simp; done) | split | refine Eq.trans (forAll_boot _ _ _ fun _ _ => ?_) ?_ |
    (simp only [onBar, onDev, andThen, valueOk, checked, rated, holderOnly, forwarded]; try dsimp only) | (simp; intros)
@[simp] theorem authRefused_boot : ∀ x0 x1 x2 s, (authRefused x0 x1 x2 s).boot = s.boot := fun x0 x1 x2 s => quiet_to_boot (authRefused_quiet _ _ _ _)
@[simp] theorem welcome_boot : ∀ x0 x1 x2 x3 x4 s, (welcome x0 x1 x2 x3 x4 s).boot = s.boot := fun x0 x1 x2 x3 x4 s => quiet_to_boot (welcome_quiet _ _ _ _ _ _)
@[simp] theorem authServe_boot : ∀ x0 s, (authServe x0 s).boot = s.boot := fun x0 s => quiet_to_boot (authServe_quiet _ _)
@[simp] theorem readSlots_boot : ∀ x0 x1 x2 x3 s, (readSlots x0 x1 x2 x3 s).2.boot = s.boot := fun x0 x1 x2 x3 s => quiet_to_boot (readSlots_quiet _ _ _ _ _)
@[simp] theorem readItem_boot : ∀ x0 x1 x2 x3 x4 s, (readItem x0 x1 x2 x3 x4 s).2.boot = s.boot := fun x0 x1 x2 x3 x4 s => quiet_to_boot (readItem_quiet _ _ _ _ _ _)
@[simp] theorem readItems_boot : ∀ x0 x1 x2 x3 s, (readItems x0 x1 x2 x3 s).2.boot = s.boot := fun x0 x1 x2 x3 s => quiet_to_boot (readItems_quiet _ _ _ _ _)
@[simp] theorem writeSlots_boot : ∀ x0 x1 x2 x3 s, (writeSlots x0 x1 x2 x3 s).2.boot = s.boot := by
  intro x0 x1 x2 vs
  induction vs generalizing x2 with
  | nil => intro s; rfl
  | cons v vs ih => intro s; unfold writeSlots; dsimp only; rw [ih]; simp
@[simp] theorem writeItems_boot : ∀ x0 x1 x2 x3 x4 s, (writeItems x0 x1 x2 x3 x4 s).2.boot = s.boot := by
  intro x0 n
  induction n with
  | zero => intro _ _ _ s; rfl
  | succ n ih => intro _ _ _ s; unfold writeItems; dsimp only; repeat' first | with_reducible rfl | (simp [ih]; done) | split
@[simp] theorem dropBlock_boot : ∀ x0 s, (dropBlock x0 s).boot = s.boot := by
  intros; unfold dropBlock; repeat' first | with_reducible rfl | (simp; done) | split
@[simp] theorem openBlock_boot : ∀ x0 x1 x2 x3 x4 x5 x6 x7 x8 s, (openBlock x0 x1 x2 x3 x4 x5 x6 x7 x8 s).boot = s.boot := fun x0 x1 x2 x3 x4 x5 x6 x7 x8 s => quiet_to_boot (openBlock_quiet _ _ _ _ _ _ _ _ _ _)
@[simp] theorem takeBlock_boot : ∀ x0 x1 x2 x3 x4 x5 x6 x7 x8 x9 x10 s, (takeBlock x0 x1 x2 x3 x4 x5 x6 x7 x8 x9 x10 s).2.boot = s.boot := fun x0 x1 x2 x3 x4 x5 x6 x7 x8 x9 x10 s => quiet_to_boot (takeBlock_quiet _ _ _ _ _ _ _ _ _ _ _ _)
@[simp] theorem beginBlock_boot : ∀ x0 x1 s, (beginBlock x0 x1 s).2.boot = s.boot := by
  intros; unfold beginBlock; try dsimp only
  repeat' first | with_reducible rfl | (simp; done) | split | refine Eq.trans (forAll_boot _ _ _ fun _ _ => ?_) ?_ |
    (simp only [onBar, onDev, andThen, valueOk, checked, rated, holderOnly, forwarded]; try dsimp only) | (simp; intros)
@[simp] theorem depositBlock_boot : ∀ x0 x1 s, (depositBlock x0 x1 s).2.boot = s.boot := fun x0 x1 s => quiet_to_boot (depositBlock_quiet _ _ _)
@[simp] theorem endBlock_boot : ∀ x0 x1 s, (endBlock x0 x1 s).2.boot = s.boot := by
  intros; unfold endBlock; repeat' first | with_reducible rfl | (simp; done) | split
@[simp] theorem streamNext_boot : ∀ x0 x1 s, (streamNext x0 x1 s).boot = s.boot := fun x0 x1 s => quiet_to_boot (streamNext_quiet _ _ _)
@[simp] theorem sessionOverflow_boot : ∀ x0 s, (sessionOverflow x0 s).boot = s.boot := fun x0 s => quiet_to_boot (sessionOverflow_quiet _ _)
@[simp] theorem ackEvent_boot : ∀ x0 x1 s, (ackEvent x0 x1 s).2.boot = s.boot := fun x0 x1 s => quiet_to_boot (ackEvent_quiet _ _ _)
@[simp] theorem serve_boot : ∀ x0 x1 x2 s, (serve x0 x1 x2 s).2.boot = s.boot := by
  intros; unfold serve; repeat' first | with_reducible rfl | (simp; done) | split
@[simp] theorem answer_boot : ∀ x0 x1 x2 x3 x4 s, (answer x0 x1 x2 x3 x4 s).boot = s.boot := fun x0 x1 x2 x3 x4 s => quiet_to_boot (answer_quiet _ _ _ _ _ _)
@[simp] theorem runRequest_boot : ∀ x0 x1 x2 s, (runRequest x0 x1 x2 s).boot = s.boot := by
  intros; unfold runRequest; repeat' first | with_reducible rfl | (simp; done) | split
@[simp] theorem drain_boot : ∀ x0 x1 s, (drain x0 x1 s).boot = s.boot := by
  intro x0 n
  induction n with
  | zero => intro s; rfl
  | succ n ih => intro s; unfold drain; repeat' first | with_reducible rfl | (simp [ih]; done) | split
@[simp] theorem refuseSeq_boot : ∀ x0 x1 x2 x3 s, (refuseSeq x0 x1 x2 x3 s).boot = s.boot := fun x0 x1 x2 x3 s => quiet_to_boot (refuseSeq_quiet _ _ _ _ _)
@[simp] theorem windowServe_boot : ∀ x0 x1 x2 x3 s, (windowServe x0 x1 x2 x3 s).boot = s.boot := by
  intros; unfold windowServe; try dsimp only
  repeat' first | with_reducible rfl | (simp; done) | split | refine Eq.trans (forAll_boot _ _ _ fun _ _ => ?_) ?_ |
    (simp only [onBar, onDev, andThen, valueOk, checked, rated, holderOnly, forwarded]; try dsimp only) | (simp; intros)
@[simp] theorem sessionServe_boot : ∀ x0 x1 s, (sessionServe x0 x1 s).boot = s.boot := by
  intros; unfold sessionServe; try dsimp only
  repeat' first | with_reducible rfl | (simp; done) | split | refine Eq.trans (forAll_boot _ _ _ fun _ _ => ?_) ?_ |
    (simp only [onBar, onDev, andThen, valueOk, checked, rated, holderOnly, forwarded]; try dsimp only) | (simp; intros)
@[simp] theorem sessionEnds_boot : ∀ x0 s, (sessionEnds x0 s).boot = s.boot := by
  intros; unfold sessionEnds; try dsimp only
  repeat' first | with_reducible rfl | (simp; done) | split | refine Eq.trans (forAll_boot _ _ _ fun _ _ => ?_) ?_ |
    (simp only [onBar, onDev, andThen, valueOk, checked, rated, holderOnly, forwarded, withRate, hostTime, toStandby, onRecord, byThread, byMachine, upFrame]; try dsimp only) | (simp; intros)
@[simp] theorem repeatEvent_boot : ∀ x0 x1 x2 s, (repeatEvent x0 x1 x2 s).boot = s.boot := fun x0 x1 x2 s => quiet_to_boot (repeatEvent_quiet _ _ _ _)
@[simp] theorem resumeCut_boot (s t : State) : (resumeCut s t).boot = t.boot := by
  unfold resumeCut; split
  · exact forAll_boot _ _ _ (fun b u => resumeHold_boot b u)
  · rfl
/-- R43, R48, R204: what a command's effect lets go on leaves the loader alone. -/
theorem settled_boot (f : State → State) (s : State) : (settled f s).boot = (f s).boot := by
  unfold settled; rw [forAll_boot _ _ _ (fun sid t => drain_boot sid 9 t), resumeCut_boot]

end Sys2Proof.Machine
end

