-- ==== Sys2Proof/Laws/Written.lean ====
section
/-!
SUPPORT. What a write through the door does when it is accepted (R30), and the answer of a command.
-/
namespace Sys2Proof.Machine
open Sys2Proof

/-- A command answers the state that its effect leaves, when that keeps the instant and the queue. -/
theorem run_of {dt : Nat} {s u : State} {f : State → State} (h : f (s.later dt) = u) (hn : u.now = s.now + dt)
    (hp : u.pending = s.pending) : run dt s f = .next u := by
  have e : run dt s f = .next { f (s.later dt) with now := s.now + dt, pending := s.pending } := rfl
  rw [e, h]
  cases u
  dsimp only at hn hp
  rw [← hn, ← hp]

theorem run_next {c : Instr} {dt : Nat} {s u : State} {f : State → State} (hc : exec c s = run dt s f)
    (h : f (s.later dt) = u) (hn : u.now = s.now + dt) (hp : u.pending = s.pending) : exec c s = .next u :=
  hc.trans (run_of h hn hp)

/-- The same, for an answer of which something is said. -/
theorem run_answers {c : Instr} {dt : Nat} {s u : State} {f : State → State} {p : State → Prop} (hc : exec c s = run dt s f)
    (h : f (s.later dt) = u) (hn : u.now = s.now + dt) (hp : u.pending = s.pending) (hu : p u) : Answers c s p :=
  ⟨u, hc.trans (run_of h hn hp), hu⟩

/-- The row of an object carries its index. -/
theorem rowAt_idx {i j : Nat} {r : Row} (h : rowAt i j = some r) : r.idx = i := by
  have := List.find?_some h
  simp at this
  exact this.1.1

theorem barGrant_row {s r b sub ab row bar d} (hab : ∀ r c e, ab ≠ Grant.ok r c e) (h : barGrant s r b sub ab = .ok row bar d) :
    r = row := by
  unfold barGrant at h
  split at h
  · split at h
    · cases h; rfl
    · exact absurd h (hab _ _ _)
  · cases h; rfl

/-- What the arbiter lets through is the object's own row. -/
theorem grant_row {s door who wr idx sub row bar d} (h : grant s door who wr idx sub = .ok row bar d) :
    rowAt idx sub = some row := by
  unfold grant at h
  split at h; · cases h
  split at h; · cases h
  split at h
  · split at h <;> cases h
  · rename_i r hr
    have : r = row := by
      split at h
      · split at h
        · split at h
          · exact barGrant_row (by intros; exact nofun) h
          · cases h
        · cases h
      · unfold scopeGrant at h
        split at h; · cases h; rfl
        split at h
        · split at h <;> cases h; rfl
        · split at h
          · split at h
            · split at h
              · exact barGrant_row (by intros; exact nofun) h
              · cases h
            · exact barGrant_row (by intros; exact nofun) h
            · cases h
          · split at h
            · split at h <;> cases h; rfl
            · split at h <;> cases h; rfl
    rw [hr, this]

/-- The time that a command takes changes nothing that the arbiter looks at. -/
theorem Written.later {s : State} {door idx sub v bar dsub w} (dt : Nat) (h : Written s door idx sub v bar dsub w) :
    Written (s.later dt) door idx sub v bar dsub w := by
  obtain ⟨who, row, h1, h2, h3⟩ := h
  exact ⟨who, row, h1, h2, h3⟩

/-- An accepted write has its object's effect, and its status is recorded. -/
theorem Written.doorWrite {s : State} {door idx sub v bar dsub w} (h : Written s door idx sub v bar dsub w) (eff : Effect) :
    ∃ row, rowAt idx sub = some row ∧ doorWrite door idx sub v eff s =
      ((eff row bar dsub w s).1, recordStatus door idx sub (eff row bar dsub w s).1 (eff row bar dsub w s).2) := by
  obtain ⟨who, row, h1, h2, h3⟩ := h
  refine ⟨row, grant_row h2, ?_⟩
  unfold Machine.doorWrite
  rw [h1]; dsimp only; rw [h2]; dsimp only; rw [h3]

/-- An accepted write whose effect has status OK leaves the effect's state. -/
theorem Written.through {s : State} {door idx sub v bar dsub w} (h : Written s door idx sub v bar dsub w) (eff : Effect)
    (u : State) (he : ∀ row, eff row bar dsub w s = (stOK, u)) : writeThrough door idx sub v eff s = u := by
  obtain ⟨row, _, h⟩ := h.doorWrite eff
  unfold writeThrough
  rw [h, he row]
  rfl

end Sys2Proof.Machine
end

