-- ==== Sys2Proof/Tests/Slice0.lean ====
section
/-!
SUPPORT. The model's own tests: ill-formed commands, and for the clauses of the statements a concrete state and operands that
meet their hypotheses, with what the command then does. Expected values come from the rules cited in Obligations.lean.
-/
set_option maxRecDepth 100000
set_option Elab.async false
namespace Sys2Proof.Tests
open Sys2Proof Sys2Proof.Machine

/-- The command answers a next state, of which `p` holds. -/
def after (c : Instr) (s : State) (p : State → Bool) : Bool :=
  match exec c s with
  | .next t => p t
  | _ => false

/-- What a write through a door reaches: the bar, the subindex and the value. -/
def seen (s : State) (door : Door) (idx sub : Nat) (v : Slot) : Option (Option Nat × Nat × Slot) :=
  match whoIs s door with
  | none => none
  | some who =>
    match grant s door who true idx sub with
    | .ok row bar dsub =>
      match slotValue s row bar v with
      | .ok w => some (bar, dsub, w)
      | .error _ => none
    | _ => none

theorem written_of_seen {s door idx sub v bar dsub w} (h : seen s door idx sub v = some (bar, dsub, w)) :
    Written s door idx sub v bar dsub w := by
  unfold seen at h
  split at h
  · cases h
  · split at h
    · split at h
      · cases h; exact ⟨_, _, by assumption, by assumption, by assumption⟩
      · cases h
    · cases h

/-- The device in CONFIG, READY and PRINT, every object at its default. -/
def cfg : State := { State.reset with devState := .config }
def ready : State := { State.reset with devState := .ready }
def press : State := { State.reset with devState := .print }

/-- In a pair, without the reins. -/
def standby (s : State) : State := (s.setDv 0x8000 0 1).modPair (fun p => { p with linkUp := true })
/-- In a pair, with the reins. -/
def held (s : State) : State := (s.setDv 0x8000 0 1).modPair (fun p => { p with linkUp := true, holder := true, state := .paired })

/-- The bits of a `Runs` and an `InTurn`. -/
theorem runs_of {s c th} (h : (s.core c).thread = some th ∧ (s.thread th).st = .running ∧ Map.wf s.sched.threads = true ∧
    s.sched.allWaitAt = none) : Runs s c th := ⟨h.1, h.2.1, h.2.2.1, h.2.2.2⟩

theorem other_of {s th} (u : Nat) (h : u ≠ th ∧ (s.thread u).st = .running ∧ Map.wf s.sched.threads = true ∧
    s.sched.allWaitAt = none) : Other s th := ⟨⟨u, h.1, h.2.1⟩, h.2.2.1, h.2.2.2⟩

/-- Bar 0 has the columns of spans 0 to 3, so that VF1 is its host. -/
def withBar (s : State) : State := s.setDv 0x1206 0 0x0400

/-- A PF request of 4 bytes at a slot. -/
def half (off : BitVec 27) (data : List Byte) : PcieReq := { write := true, bar4 := false, offset := off, len := 4, enabled := true, data := data }

/-- A channel of function 1 with a transfer under way. -/
def busy (c : Chan) : State := withBar (cfg.modFn 1 (fun x => { x with chans := x.chans.set 0 { c with state := 1 } }))

/-- The key of the sessions used here. -/
def key : List Byte := List.replicate 32 7

/-- A frame of request `op`, under its MAC. -/
def frame (op : Nat) (payload : List Byte) : MoaFrame :=
  let n := payload.length
  { ip := 9, port := 5, fragmented := false, udpLen := 100, version := 1, flags := 2, session := 3, seq := 1, len := BitVec.ofNat 16 n
    status := 0, payload := payload, mac := (hmac key (moaHeader op 2 3 1 (n % 65536) 0 ++ payload)).take 16 }

/-- A frame without MAC, as HELLO and AUTH are. -/
def bare (payload : List Byte) : MoaFrame := { frame 0 payload with mac := [], flags := 0 }

theorem frame_valid (op : Nat) (p : List Byte) (x : Session) (hk : x.key = key) (hi : x.ip = 9) :
    frameValid op x (frame op p) = true := by simp [frameValid, frame, hk, hi]; decide

theorem inTurn_frame {s op p x} (hk : x.key = key) (hi : x.ip = 9) (h : s.devState ≠ .boot ∧ moaAccepts (frame op p) = true ∧
    s.moa.sessions.get? 3 = some x ∧ (1 : Nat) = (x.last + 1) % 2 ^ 32 ∧ x.kept.find? (fun k => k.req == 1) = none ∧
    x.early = [] ∧ blockedEnd x op = false) : InTurn s op (frame op p) x :=
  ⟨h.1, h.2.1, h.2.2.1, frame_valid op p x hk hi, h.2.2.2.1, h.2.2.2.2.1, h.2.2.2.2.2.1, h.2.2.2.2.2.2⟩

/-- A supervisor's session. -/
def sess : Session :=
  { slot := 0, ip := 9, port := 5, role := 0, target := 0, key := key, last := 0, kept := [], early := [], block := none, lastAt := 0
    own := [], txSeq := 0, unacked := [], lost := 0 }

/-- The same for the host of bar 0. -/
def hostSess : Session := { sess with role := 1 }

/-- With session 3 open. -/
def inSession (x : Session) (s : State) : State := s.modMoa (fun m => { m with sessions := [(3, x)] })

/-- A block transfer through a door reaches the object. -/
def moves (s : State) (door : Door) (write : Bool) (idx sub off len : Nat) : Bool :=
  match blockGrant s door write idx sub off len with
  | .ok _ _ _ => true
  | _ => false

/-- The session `sid` after a command, where it is open. -/
def sessionIs (t : State) (p : Session → Bool) : Bool :=
  match t.moa.sessions.get? 3 with
  | some x => p x
  | none => false

/-- Some output is an MOA frame of this opcode, sequence number and status. -/
def answered (t : State) (op seq status : Nat) : Bool :=
  t.out.any (fun o => match o with | .moa _ _ a _ b c _ _ => a == op && b == seq && c == status | _ => false)

/-- Page 1 of 4 lines, its head accepted. -/
def page1 : Page :=
  { num := 1, lines := 4, noRetain := false, source := none, rects := [], slots := [], isOpen := true, status := 0, flip := none
    flipTime := 0, started := false, printed := false, cut := false, lateJudged := false, gapBefore := 0, endTime := 0, endLine := 0
    integPass := 0, integFail := 0, bandFirst := 0, bandLast := 0, bandChanges := 0, bandLine := none, residual := 0, skipped := 0
    withheldLines := 0, lastLine := 0, retained := false, pins := 0, webMark := 0, tokens := [], logical := [], screened := []
    counted := [], genWithheld := false, under := none, actKeys := [], moved := [], store := 0, lineGen := [] }

/-- A waybill on its way. -/
def flight (phase : Nat) : Inflight := { idx := 0, phase := phase, bytes := [], granted := true, aborts := [], page := 1, slot := 0, wagon := none, again := false }

/-- 60 bytes under their CRC, as waybills and deflate descriptors end. -/
def sealed (bs : List Byte) : List Byte := bs ++ leBytes 4 (crc32c bs)

/-- A page head: page 1 of 4 lines. -/
def headBytes : List Byte := [2, 0, 0, 0] ++ leBytes 4 1 ++ leBytes 4 4 ++ List.replicate 48 0
/-- A wagon of plane 0, span 0, band 0, in format 1, of 8 bytes. -/
def wagonBytes' : List Byte := [1, 0, 0, 0] ++ leBytes 4 1 ++ leBytes 4 0 ++ leBytes 2 4 ++ [1, 0] ++ leBytes 8 64 ++ leBytes 4 8 ++ List.replicate 32 0

/-- Bar 0 prints; plane 0 is in use; the queues have their rings. -/
def printing : State :=
  ((((withBar press).setDv 0x3000 0 1).setBo 0 0x2000 0 4096).setBo 0 0x2000 1 64).modBar 0 (fun x => { x with vb := .printing })
/-- The same with these waybills on their way. -/
def intake (es : List Inflight) : State := printing.modIntake 0 (fun q => { q with inflight := es })
/-- The same with page 1. -/
def withPage (p : Page) (s : State) : State := s.modBar 0 (fun x => { x with pages := x.pages ++ [p] })

/-- Bar 0 has span 0, whose columns the head on port 0 serves in plane 0; geyser 3 decides its tokens. -/
def narrow (s : State) : State :=
  { (((s.setDv 0x3000 0 1).setDv 0x3200 0 0x80000000).setDv 0x1206 0 0x0100) with place := { Place.reset with spans := [(0, [(3, 64)])], owner := [(0, 0)] } }
/-- Fault histories of one channel: three faults now. -/
def thrice (cls ch : Nat) (s : State) : State :=
  { s with health := s.health.set (chanKey cls ch) { Health.reset with hist := [s.now, s.now, s.now] } }

/-- The bar and subindex that a block write from offset 0 through a door reaches. -/
def opens (s : State) (door : Door) (idx sub len : Nat) : Option (Option Nat × Nat) :=
  match blockGrant s door true idx sub 0 len with
  | .ok _ bar d => some (bar, d)
  | _ => none
/-! ### The dictionary, block transfers and sessions (02_object_dictionary.md) -/

theorem test_illFormed : [Instr.waybillFetched 0 0 [], .djStart 0 0 [], .djResume 0 0 [], .djCancel 0 0 [],
    .statusTelemetry 0 0 ⟨true, [], [], []⟩ []].all (fun c => !c.wf && !after c cfg (fun _ => true)) = true := by decide +kernel
theorem test_wellFormed : Instr.wf (.lineDue 5) = true := by decide +kernel
theorem test_safe : Safe { cfg with pending := [.lineDue 5, .upstreamDeepEnter 0 3] } ∧
    ¬ Safe { cfg with pending := [.upstreamDeepEnter 5 3, .lineDue 0] } := by
  constructor
  · refine ⟨?_, by decide +kernel⟩
    intro c h; simp at h; rcases h with rfl | rfl <;> rfl
  · intro h; exact absurd h.2 (by decide +kernel)
theorem test_idle : cfg.pending = [] ∧ { cfg with pending := [Instr.lineDue 5] }.pending = .lineDue 5 :: [] := ⟨rfl, rfl⟩

theorem test_dictWrite : Written cfg .firmware 0xB103 0 90 none 0 90 ∧ (rowAt 0xB103 0).map (fun r => r.acc) = some .rw ∧
    objectEffect .firmware 0xB103 0 = plainEffect ∧
    after (.dictWrite 5 .firmware 0xB103 0 90) cfg (fun t => t.dv 0xB103 0 == 90 && t.now == 5) = true :=
  ⟨written_of_seen (by decide +kernel), by decide +kernel, rfl, by decide +kernel⟩
theorem test_dictWriteBar : Written (withBar cfg) (.fn 1) 0x4051 0 9 (some 0) 0 9 ∧
    (rowAt 0x4051 0).map (fun r => r.acc) = some .rw ∧ objectEffect (.fn 1) 0x4051 0 = plainEffect ∧
    after (.dictWrite 5 (.fn 1) 0x4051 0 9) (withBar cfg) (fun t => t.bo 0 0x4051 0 == 9) = true :=
  ⟨written_of_seen (by decide +kernel), by decide +kernel, rfl, by decide +kernel⟩
theorem test_dictWriteStaged : Written (withBar cfg) (.fn 1) 0x3421 0 2 (some 0) 0 2 ∧
    (rowAt 0x3421 0).map (fun r => r.acc) = some .stg ∧ objectEffect (.fn 1) 0x3421 0 = plainEffect ∧
    after (.dictWrite 5 (.fn 1) 0x3421 0 2) (withBar cfg)
      (fun t => (t.bar 0).openHost && (t.bar 0).opn == [(okey 0x3421 0, .slot 2)]) = true :=
  ⟨written_of_seen (by decide +kernel), by decide +kernel, rfl, by decide +kernel⟩

/-- Extension 2 runs for bar 0. -/
def extState : State := ((withBar cfg).setDv 0x9043 2 2).setDv 0x9041 2 0
theorem test_extDictCall : extRunning extState 2 = true ∧ Written extState (.ext 2) 0x4051 0 9 (some 0) 0 9 ∧
    (rowAt 0x4051 0).map (fun r => r.acc) = some .rw ∧ objectEffect (.ext 2) 0x4051 0 = plainEffect ∧
    after (.extDictCall 5 2 true 0x4051 0 9) extState (fun t => t.bo 0 0x4051 0 == 9) = true :=
  ⟨by decide +kernel, written_of_seen (by decide +kernel), by decide +kernel, rfl, by decide +kernel⟩

theorem test_halves : is64 0x4010 0 = true ∧ (half 0x2008000 [0, 0, 0, 0]).offset.toNat = (0x4010 * 256 + 0) * 8 ∧
    (cfg.fn 0).held = none ∧ after (.slotHalfAccess 5 0 (half 0x2008000 [0, 0, 0, 0])) cfg
      (fun t => decide ((t.fn 0).held = some (0x401000, 0))) = true := by decide +kernel

/-- The lower half of 4010.00 is held. -/
def halfHeld : State := cfg.modFn 0 (fun x => { x with held := some (0x401000, 0) })
theorem test_halvesJoin : Written halfHeld (.fn 0) 0x4010 0 0x2000000000 none 0 0x2000000000 ∧
    (half 0x2008004 [0x20, 0, 0, 0]).offset.toNat = (0x4010 * 256 + 0) * 8 + 4 ∧
    (rowAt 0x4010 0).map (fun r => r.acc) = some .cfg ∧ objectEffect (.fn 0) 0x4010 0 = plainEffect ∧
    after (.slotHalfAccess 5 0 (half 0x2008004 [0x20, 0, 0, 0])) halfHeld
      (fun t => t.dv 0x4010 0 == 0x2000000000 && decide ((t.fn 0).held = none)) = true :=
  ⟨written_of_seen (by decide +kernel), by decide +kernel, by decide +kernel, rfl, by decide +kernel⟩

theorem test_layoutOverlap : Written (withBar cfg) .firmware 0x1206 1 0x0203 none 1 0x0203 ∧
    (doorWrite .firmware 0x1206 1 0x0203 layoutEffect (withBar cfg)).1 = stRange ∧
    (let t := (withBar cfg).setDv 0x1206 1 0x0203
     0 < t.spanCount 0 ∧ 0 < t.spanCount 1 ∧ t.firstSpan 0 < t.firstSpan 1 + t.spanCount 1 ∧
      t.firstSpan 1 < t.firstSpan 0 + t.spanCount 0) := ⟨written_of_seen (by decide +kernel), by decide +kernel⟩
theorem test_layoutRunsOver : Written cfg .firmware 0x1206 1 0x021F none 1 0x021F ∧
    (doorWrite .firmware 0x1206 1 0x021F layoutEffect cfg).1 = stRange ∧
    (let t := cfg.setDv 0x1206 1 0x021F; 0 < t.spanCount 1 ∧ 32 < t.firstSpan 1 + t.spanCount 1) :=
  ⟨written_of_seen (by decide +kernel), by decide +kernel⟩
theorem test_layout : Written (withBar cfg) .firmware 0x1206 1 0x0204 none 1 0x0204 ∧ layoutRefused (withBar cfg) 1 0x0204 = false ∧
    after (.vbLayoutWrite 5 .firmware 1 0x0204) (withBar cfg) (fun t => t.dv 0x1206 1 == 0x0204) = true :=
  ⟨written_of_seen (by decide +kernel), by decide +kernel⟩
theorem test_violationClear : Written (cfg.setDv 0x1210 3 9) .firmware 0x1211 0 1 none 0 1 ∧
    after (.violationClear 5 .firmware 1) (cfg.setDv 0x1210 3 9) (fun t => t.dv 0x1210 3 == 0) = true :=
  ⟨written_of_seen (by decide +kernel), by decide +kernel⟩

/-- A block transfer of 8 bytes of a wide object. -/
def regs (idx : Nat) : BtRegs := { object := BitVec.ofNat 32 (idx * 65536), offset := 0, length := 8, addr := 64 }
theorem test_btStartRead : moves (withBar cfg |>.later 5) (.fn 1) false 0x3100 0 0 8 = true ∧
    after (.btStart 5 1 0 (regs 0x3100) false) (withBar cfg)
      (fun t => ((t.fn 1).chan 0).state == 1 && ((t.fn 1).chan 0).snap.length == 8) = true := by decide +kernel
theorem test_btStartWrite : moves (withBar cfg |>.later 5) (.fn 1) true 0x3100 0 0 8 = true ∧
    after (.btStart 5 1 0 (regs 0x3100) true) (withBar cfg)
      (fun t => ((t.fn 1).chan 0).state == 1 && ((t.fn 1).chan 0).toObject && !((t.fn 1).chan 0).waits) = true := by decide +kernel

/-- A read of 2 bytes under way; a write of 2 bytes to the wave table of port 0. -/
def reading : State := busy { Chan.reset with length := 2, snap := [1, 2], addr := 64 }
def writing : State := busy { Chan.reset with length := 2, toObject := true, bar := some 0, key := okey 0x4830 0 }
theorem test_btAbort : reading.devState ≠ .boot ∧ ((reading.fn 1).chan 0).state = 1 ∧ ((reading.fn 1).chan 0).toObject = false := by
  decide +kernel
theorem test_blockDoneRead : ((reading.fn 1).chan 0).state = 1 ∧ ((reading.fn 1).chan 0).toObject = false ∧
    after (.blockDone 5 1 0 []) reading (fun t => ((t.fn 1).chan 0).state == 2 && decide (Out.dmaWrite 1 64 [1, 2] ∈ t.out)) = true := by
  decide +kernel
theorem test_blockDoneWrite : (let x := (writing.fn 1).chan 0
    x.state = 1 ∧ x.toObject = true ∧ x.waits = false ∧ earlierWrite writing x = false ∧ [7, 8].length = x.length ∧ x.hidden = false ∧
    x.bar = some 0 ∧ (writing.bar 0).heldReq = none ∧ x.key = okey 0x4830 0 ∧ (whoIs writing (.fn 1)).isSome = true ∧
    (rowAt 0x4830 0).isSome = true ∧ x.offset + [7, 8].length ≤ 4096) ∧
    after (.blockDone 5 1 0 [7, 8]) writing (fun t => (t.bar 0).openHost && ((t.fn 1).chan 0).state == 2 &&
      (t.curW 0 0x4830 0).take 2 == [7, 8]) = true := by decide +kernel

/-! MOA -/

/-- Supervisor key 0 and the key of bar 0 are present. -/
def keyed : State := withBar (cfg.modMram (fun m => { m with keys := [(0, key), (16, key)] }))
theorem test_hello : keyed.devState ≠ .boot ∧ moaAccepts (bare (List.replicate 20 0)) = true ∧ (keyOf keyed 0 0).isSome = true ∧
    keyed.moa.sessions.length < 32 ∧ lockedOut (keyed.later 5) 0 0 = false := by decide +kernel

/-- A challenge stands for SID 3. -/
def challenged : State := keyed.modMoa (fun m => { m with challenges := [(3, ⟨9, 5, 0, 0, [1], [2], 0⟩)] })
theorem test_auth : moaAccepts (bare (proofH key [1] [2] 3 0 0)) = true ∧ (challenged.moa.challenges.get? 3).isSome = true ∧
    keyOf challenged 0 0 = some key ∧ freeSlot challenged = some 0 ∧
    after (.auth 5 (bare (proofH key [1] [2] 3 0 0))) challenged (fun t => sessionIs t (fun x => x.role == 0 && x.slot == 0)) = true := by
  decide +kernel
theorem test_authRefused : moaAccepts (bare [0]) = true ∧ [(0 : Byte)] ≠ proofH key [1] [2] 3 0 0 ∧
    after (.auth 5 (bare [0])) challenged (fun t => t.moa.sessions.isEmpty && answered t 4 0 0x0A) = true := by decide +kernel

/-- Session 3 of the supervisor, and of the host of bar 0. -/
def open3 : State := inSession sess keyed
def host3 : State := inSession hostSess keyed
theorem test_close : InTurn open3 5 (frame 5 []) sess := inTurn_frame rfl rfl (by decide +kernel)
theorem test_keepalive : InTurn open3 6 (frame 6 []) sess ∧ after (.keepalive 5 (frame 6 [])) open3
    (fun t => sessionIs t (fun x => x.last == 1 && x.lastAt == 5) && answered t 6 1 0) = true :=
  ⟨inTurn_frame rfl rfl (by decide +kernel), by decide +kernel⟩
theorem test_moaRead : InTurn open3 0x10 (frame 0x10 (leBytes 2 0xB103 ++ [0, 1])) sess ∧
    (match grant open3 (.moa 3) (.super 0xFF) false 0xB103 0 with | .ok _ none _ => true | _ => false) = true ∧
    whoIs open3 (.moa 3) = some (.super 0xFF) :=
  ⟨inTurn_frame rfl rfl (by decide +kernel), by decide +kernel⟩
theorem test_moaWrite : InTurn open3 0x11 (frame 0x11 (leBytes 2 0xB103 ++ [0, 1] ++ leBytes 8 90)) sess ∧
    Written open3 (.moa 3) 0xB103 0 90 none 0 90 ∧ objectEffect (.moa 3) 0xB103 0 = plainEffect :=
  ⟨inTurn_frame rfl rfl (by decide +kernel), written_of_seen (by decide +kernel), rfl⟩
theorem test_eventAck : (let x := { sess with unacked := [⟨8, [], 0, 0⟩] }
    InTurn (inSession x keyed) 0x31 (frame 0x31 (leBytes 4 8)) x) :=
  inTurn_frame rfl rfl (by decide +kernel)

/-- BLOCK_BEGIN of 8 bytes of a tone table; the block that it opens. -/
def begin8 : MoaFrame := frame 0x20 (leBytes 2 0x3100 ++ [0, 1] ++ leBytes 4 0 ++ leBytes 4 8)
def block2 : MoaBlock :=
  { key := okey 0x4830 0, hidden := false, bar := some 0, toObject := true, offset := 0, length := 2, buf := 0
    chunks := [(0, [7, 8])], snap := [], sent := 0, bad := false, waits := false }
theorem test_blockBegin : InTurn host3 0x20 begin8 hostSess ∧ moves host3 (.moa 3) true 0x3100 0 0 8 = true ∧
    freeBuffer host3 = some 0 :=
  ⟨inTurn_frame rfl rfl (by decide +kernel), by decide +kernel⟩
theorem test_blockData : (let x := { hostSess with block := some { block2 with chunks := [] } }
    InTurn (inSession x keyed) 0x21 (frame 0x21 (leBytes 4 0 ++ [7, 8])) x) :=
  inTurn_frame rfl rfl (by decide +kernel)
theorem test_blockEnd : (let x := { hostSess with block := some block2 }
    let f := frame 0x22 (leBytes 4 (crc32c [7, 8]))
    InTurn (inSession x keyed) 0x22 f x ∧ blockWhole block2 f = true ∧ (collected block2).length = 2 ∧
    (rowAt 0x4830 0).isSome = true ∧ (whoIs (inSession x keyed) (.moa 3)).isSome = true ∧
    after (.blockEnd 5 f) (inSession x keyed) (fun t => (t.curW 0 0x4830 0).take 2 == [7, 8] &&
      sessionIs t (fun y => y.block.isNone)) = true) := ⟨inTurn_frame rfl rfl (by decide +kernel), by decide +kernel⟩
theorem test_timers : after (.challengeTimeout 1000000000 3) challenged (fun t => t.moa.challenges.isEmpty) = true ∧
    after (.lockoutExpiry 9 0) (cfg.modMoa (fun m => { m with lockout := [(0, 9)] })) (fun t => t.moa.lockout.isEmpty) = true ∧
    after (.sessionTimeout 1000000000000 3) open3 (fun t => t.moa.sessions.isEmpty) = true ∧
    after (.eventRetry 1000000 3 8) (inSession { sess with unacked := [⟨8, [], 0, 0⟩] } cfg)
      (fun t => answered t 0x30 8 0 && sessionIs t (fun x => x.unacked.map (fun e => e.tries) == [1])) = true ∧
    after (.evtCoalesceExpiry 9 1) (cfg.modFn 1 (fun x => { x with unsigAt := some 0, unsig := [2] }))
      (fun t => t.out == [.msix 1 2] && decide ((t.fn 1).unsigAt = none)) = true := by decide +kernel
/-! ### States, commits and rings -/

theorem test_devTargetConfig : Written ready .firmware 0x1203 0 1 none 0 1 ∧ holder ready = true ∧ allOff ready = true ∧
    after (.devTargetConfig 5 .firmware) ready (fun t => decide (t.devState = .config)) = true :=
  ⟨written_of_seen (by decide +kernel), by decide +kernel⟩
theorem test_devTargetRefused : Written cfg .firmware 0x1203 0 2 none 0 2 ∧ (configFailure (cfg.later 5)).isSome = true ∧
    (doorWrite .firmware 0x1203 0 2 devTargetEffect (cfg.later 5)).1 = stState ∧
    after (.devTargetReady 5 .firmware) cfg (fun t => decide (t.devState = .config)) = true :=
  ⟨written_of_seen (by decide +kernel), by decide +kernel⟩
theorem test_devTargetDoze : Written ready .firmware 0x1203 0 5 none 0 5 ∧
    after (.devTargetDoze 5 .firmware) ready (fun t => decide (t.devState = .doze) && t.engines.isEmpty) = true :=
  ⟨written_of_seen (by decide +kernel), by decide +kernel⟩

/-- On the way out of DOZE, without an image. -/
def waking : State := { (cfg.modPower (fun p => { p with dozeExitAt := some 0, railPhase := 3 })) with devState := .doze }
theorem test_dozeExitBoot : waking.power.dozeExitAt = some 0 ∧ waking.power.railPhase = 3 ∧ imageStands waking = false := by
  decide +kernel

/-- Bar 0 off, armed, held, printing; its work queue enabled. -/
def off0 : State := (withBar ready).setBo 0 0x2000 3 1
def bar0 (v : VbState) : State := (withBar press).modBar 0 (fun x => { x with vb := v })
theorem test_vbArmed : Written off0 (.fn 1) 0x1202 0 1 (some 0) 0 1 ∧ (off0.bar 0).vb = .off ∧ off0.bo 0 0x2000 3 = 1 ∧
    after (.vbTargetArmed 5 (.fn 1)) off0 (fun t => decide ((t.bar 0).vb = .armed ∧ t.devState = .print)) = true :=
  ⟨written_of_seen (by decide +kernel), by decide +kernel⟩
theorem test_vbPrinting : Written (bar0 .armed) (.fn 1) 0x1202 0 2 (some 0) 0 2 ∧
    after (.vbTargetPrinting 5 (.fn 1)) (bar0 .armed) (fun t => decide ((t.bar 0).vb = .printing)) = true :=
  ⟨written_of_seen (by decide +kernel), by decide +kernel⟩
theorem test_vbHeld : Written (bar0 .armed) (.fn 1) 0x1202 0 3 (some 0) 0 3 ∧
    after (.vbTargetHeld 5 (.fn 1)) (bar0 .armed) (fun t => decide ((t.bar 0).vb = .held)) = true :=
  ⟨written_of_seen (by decide +kernel), by decide +kernel⟩
theorem test_vbOff : Written (bar0 .held) (.fn 1) 0x1202 0 0 (some 0) 0 0 ∧ fixedDone (bar0 .held) 0 = true ∧
    idleBar (bar0 .held) 0 = true ∧
    after (.vbTargetOff 5 (.fn 1)) (bar0 .held) (fun t => decide ((t.bar 0).vb = .off)) = true :=
  ⟨written_of_seen (by decide +kernel), by decide +kernel⟩

/-- HELD awaited, with and without a page whose flip is fixed. -/
def awaited : State := (bar0 .printing).modBar 0 (fun x => { x with waiting := some .held })
theorem test_vbMet : fixedDone awaited 0 = true ∧ after (.vbTargetMet 5 0) awaited (fun t => decide ((t.bar 0).vb = .held)) = true ∧
    fixedDone (withPage { page1 with flip := some 9 } awaited) 0 = false ∧
    after (.vbTargetMet 5 0) (withPage { page1 with flip := some 9 } awaited) (fun t => decide ((t.bar 0).vb = .printing)) = true := by
  decide +kernel

/-- An open copy, a pending generation, a held request. -/
def opened : State := (withBar cfg).modBar 0 (fun x => { x with opn := [(okey 0x3421 0, .slot 2)], openHost := true })
def gen5 : PendGen := { page := 5, screening := false, headKeys := [], headWait := [], dev := [], idle := true }
def pended : State := (withBar cfg).modBar 0 (fun x => { x with gen := some gen5, pend := [(okey 0x3421 0, .slot 2)] })
def heldReq : State := (withBar cfg).modBar 0 (fun x => { x with heldReq := some (3, false) })
theorem test_commit : Written opened (.fn 1) 0x1220 0 7 (some 0) 0 7 ∧ blockBusy opened 0 = false ∧ (opened.bar 0).opn ≠ [] ∧
    (opened.bar 0).gen = none ∧ (opened.bar 0).peerSeal = none ∧
    after (.commitReq 5 (.fn 1) 7) opened (fun t => (t.bar 0).opn.isEmpty && (t.bar 0).gen.isSome) = true :=
  ⟨written_of_seen (by decide +kernel), by decide +kernel⟩
/-- Both: a generation pending, and the open copies written since. -/
def pendedOpen : State := opened.modBar 0 (fun x => { x with gen := some gen5 })
theorem test_commitHeld : Written pendedOpen (.fn 1) 0x1220 0 7 (some 0) 0 7 ∧ (pendedOpen.bar 0).gen = some gen5 ∧
    (pendedOpen.bar 0).opn ≠ [] ∧
    after (.commitReq 5 (.fn 1) 7) pendedOpen (fun t => decide ((t.bar 0).heldReq = some (7, false))) = true :=
  ⟨written_of_seen (by decide +kernel), by decide +kernel⟩
/-- R17: a request with nothing written completes at once beside a pending generation. -/
theorem test_commitEmpty : Written pended (.fn 1) 0x1220 0 7 (some 0) 0 7 ∧ blockBusy pended 0 = false ∧ (pended.bar 0).opn = [] ∧
    (pended.bar 0).peerSeal = none ∧
    after (.commitReq 5 (.fn 1) 7) pended (fun t => (t.bar 0).heldReq.isNone && decide ((t.bar 0).gen = some gen5)) = true :=
  ⟨written_of_seen (by decide +kernel), by decide +kernel⟩
theorem test_commitMerged : Written heldReq (.fn 1) 0x1220 0 7 (some 0) 0 7 ∧
    after (.commitReq 5 (.fn 1) 7) heldReq (fun t => decide ((t.bar 0).heldReq = some (7, true))) = true :=
  ⟨written_of_seen (by decide +kernel), by decide +kernel⟩
theorem test_idleCommit : (pended.bar 0).gen = some gen5 ∧ gen5.idle = true ∧ (pended.bar 0).heldReq = none ∧ gen5.screening = false ∧
    after (.idleCommitEffect 5 0) pended (fun t => (t.bar 0).live == [(okey 0x3421 0, .slot 2)] && (t.bar 0).gen.isNone) = true := by
  decide +kernel
theorem test_discard : Written opened (.fn 1) 0x1222 0 1 (some 0) 0 1 ∧
    after (.discardOpen 5 (.fn 1) 1) opened (fun t => (t.bar 0).opn.isEmpty) = true :=
  ⟨written_of_seen (by decide +kernel), by decide +kernel⟩

/-! ### Intake (03_intake.md) -/

theorem test_wqTail : Written printing (.fn 1) 0x2001 0 2 (some 0) 0 2 ∧ tailRefused 0 0 64 2 = false ∧
    after (.wqTail 5 (.fn 1) 2) printing (fun t => (t.bar 0).intake.wqTail == 2) = true :=
  ⟨written_of_seen (by decide +kernel), by decide +kernel⟩
theorem test_wqTailRefused : Written printing (.fn 1) 0x2001 0 65 (some 0) 0 65 ∧ tailRefused 0 0 64 65 = true ∧
    (doorWrite (.fn 1) 0x2001 0 65 wqTailEffect printing).1 = stRange ∧
    after (.wqTail 5 (.fn 1) 65) printing (fun t => (t.bar 0).intake.wqTail == 0 && (t.bar 0).intake.tailBad) = true :=
  ⟨written_of_seen (by decide +kernel), by decide +kernel⟩
theorem test_eqHead : Written printing (.fn 1) 0x2003 0 0 (some 0) 0 0 ∧ headRefused 0 0 0 = false :=
  ⟨written_of_seen (by decide +kernel), by decide +kernel⟩
theorem test_deqHead : Written cfg .firmware 0x2011 0 0 none 0 0 ∧ headRefused cfg.deqHead cfg.deqTail 0 = false :=
  ⟨written_of_seen (by decide +kernel), by decide +kernel⟩
theorem test_deqEn : Written (cfg.setDv 0x2010 0 4096) .firmware 0x2010 2 1 none 2 1 ∧ (cfg.setDv 0x2010 0 4096).dv 0x2010 0 ≠ 0 ∧
    after (.deqEn 5 .firmware 1) (cfg.setDv 0x2010 0 4096) (fun t => t.dv 0x2010 2 == 1) = true :=
  ⟨written_of_seen (by decide +kernel), by decide +kernel⟩
theorem test_djTail : Written printing (.fn 1) 0x2301 0 2 (some 0) 0 2 ∧ tailRefused 0 0 64 2 = false ∧
    after (.djTail 5 (.fn 1) 2) printing (fun t => (t.bar 0).intake.djTail == 2) = true :=
  ⟨written_of_seen (by decide +kernel), by decide +kernel⟩

/-- A waybill is to be fetched. -/
def wanting : State := (printing.modIntake 0 (fun q => { q with wqTail := 1 })).modFn 1 (fun f => { f with bme := true })
  |>.setBo 0 0x2000 3 1
theorem test_fetchGrant : wantsFetch wanting .waybill 0 = true ∧ (∀ a < 16, wantsFetch wanting .waybill a = true → a = 0) ∧
    after (.fetchGrant 5 .waybill) wanting (fun t => t.out == [.dmaRead 1 0 .waybill 4096 64]) = true := by decide +kernel
/-- The same, and the function may be a bus master. -/
def mastering (es : List Inflight) : State := (intake es).modFn 1 (fun f => { f with bme := true })
theorem test_fetchAbort : flying (mastering [flight 0]) 0 .waybill = some (flight 0) ∧ dmaBlocked (mastering [flight 0]) 0 = false ∧
    after (.fetchAbort 5 0 .waybill) (mastering [flight 0]) (fun t => t.out == [.dmaRead 1 0 .waybill 4096 64]) = true := by
  decide +kernel
/-- R63: no request while Bus Master Enable is clear; it follows once the bit is set. -/
theorem test_fetchAbortBlocked : dmaBlocked (intake [flight 0]) 0 = true ∧
    after (.fetchAbort 5 0 .waybill) (intake [flight 0]) (fun t => t.out.isEmpty &&
      (t.bar 0).intake.inflight.any (fun e => e.again)) = true ∧ queueFn (intake [flight 0]) 0 = 1 ∧
    after (.busMasterChange 5 1 true) (intake [{ flight 0 with again := true }])
      (fun t => t.out == [.dmaRead 1 0 .waybill 4096 64]) = true := by decide +kernel

theorem test_waybillCrc : (headBytes ++ [0, 0, 0, 0]).length = 64 ∧ ((intake [flight 0]).bar 0).intake.inflight = [flight 0] ∧
    crc32c headBytes ≠ 0 ∧ after (.waybillFetched 5 0 (headBytes ++ [0, 0, 0, 0])) (intake [flight 0])
      (fun t => (t.bar 0).intake.wqHead == 1 && t.bo 0 0x2008 0 == 1) = true := by decide +kernel
theorem test_head : (sealed headBytes).length = 64 ∧ crc32c ((sealed headBytes).take 60) = fieldLE (sealed headBytes) 60 4 ∧
    (openPages (intake [flight 0]) 0).length < 4 ∧ headCode (intake [flight 0]) 0 (sealed headBytes) = 0 ∧
    after (.waybillFetched 5 0 (sealed headBytes)) (intake [flight 0])
      (fun t => decide ((t.bar 0).intake.expect = some 2) && (t.page? 0 1).isSome) = true := by decide +kernel
/-- Four open pages. -/
def four : State := [1, 2, 3, 4].foldl (fun s n => withPage { page1 with num := n } s) (intake [flight 0])
theorem test_headHeld : 4 ≤ (openPages four 0).length ∧ after (.waybillFetched 5 0 (sealed headBytes)) four
    (fun t => (t.bar 0).intake.pageHold) = true := by decide +kernel
theorem test_wagon : wagonCode (withPage page1 (intake [flight 0])) 0 (sealed wagonBytes') = 0 ∧
    slotCode (withPage page1 (intake [flight 0])) 0 (sealed wagonBytes') = 0 ∧
    after (.waybillFetched 5 0 (sealed wagonBytes')) (withPage page1 (intake [flight 0]))
      (fun t => (((t.page? 0 1).bind (fun p => p.slots.get? 0)).map (fun w => w.payloadLen)) == some 8) = true := by decide +kernel

/-- A head of one integrity entry that has been fetched; an entry of plane 0, and one of plane 9. -/
def withInteg : State := intake [{ flight 3 with bytes := [2, 0, 0, 0] ++ leBytes 4 1 ++ leBytes 4 4 ++ [1] ++ List.replicate 51 0 }]
theorem test_integ : (chunks 16 1 (List.replicate 16 0)).all (rectOk withInteg 0 4) = true ∧
    after (.integEntriesFetched 5 0 (List.replicate 16 0)) withInteg
      (fun t => ((t.page? 0 1).map (fun p => p.rects.length)) == some 1) = true ∧
    (chunks 16 1 (9 :: List.replicate 15 0)).all (rectOk withInteg 0 4) = false ∧
    after (.integEntriesFetched 5 0 (9 :: List.replicate 15 0)) withInteg
      (fun t => (t.bar 0).pages.isEmpty && t.bo 0 0x2008 0 == lastFail 1 0 0 0 0x0F) = true := by decide +kernel

/-- The wagon of slot 0 of page 1, in a phase. -/
def wagon0 (ph : WagonPhase) (bytes : List Byte) : Wagon := { wagonOf printing 0 wagonBytes' with phase := ph, payload := bytes }
def paying : State :=
  (withPage { page1 with slots := [(0, wagon0 .fetching [])] } (intake [{ flight 4 with wagon := some (wagon0 .fetching []) }])).setBo 0 0x7100 0 64
theorem test_payload : flightWagon paying 0 { flight 4 with wagon := some (wagon0 .fetching []) } = some (wagon0 .fetching []) ∧
    (wagon0 .fetching []).payloadLen = 8 ∧ dramUsed paying 0 + wagonBytes (wagon0 .fetching []) ≤ quotaEff paying 0 * 2 ^ 20 ∧
    after (.payloadStored 5 0 [1, 2, 3, 4, 5, 6, 7, 8]) paying
      (fun t => ((t.page? 0 1).bind (fun p => p.slots.get? 0)) == some (wagon0 .stored [1, 2, 3, 4, 5, 6, 7, 8]) &&
        (t.bar 0).intake.wqHead == 1) = true := by decide +kernel

/-! ### Inflate and deflate (03_intake.md) -/

/-- A stored wagon of two lines in format 3 (1,024 bytes of 0, compressed outside the model), and an engine that has it. -/
def zeros1k : Wagon := { wagon0 .stored [99, 96, 24, 5, 163, 96, 20, 140, 84, 0, 0] with format := 3, lines := 2 }
def waiting1 : State := (withPage { page1 with slots := [(0, zeros1k)] } printing).modPower (fun p => { p with domains := [(8, 2)] })
def working : State :=
  (withPage { page1 with slots := [(0, { zeros1k with phase := .inflating, attempts := 1 })] } printing).modEngine 0
    (fun x => { x with job := some (0, 1, 0) })

theorem test_inflateStart : ((nextWagon waiting1 ((List.range 16).filter (fun b => (waiting1.bar b).vb != .off &&
      !(waitingOf waiting1 b).isEmpty))).map (fun w => (w.bar, w.page, w.slot))) = some (0, 1, 0) ∧
    zeros1k.encrypted = false ∧ pickEngine waiting1 zeros1k = some (0, false) ∧
    after (.inflateStart 5) waiting1 (fun t => (t.engine 0).job == some (0, 1, 0)) = true := by decide +kernel
theorem test_inflateRow : engineWagon working 0 = some (0, 1, 0, { zeros1k with phase := .inflating, attempts := 1 }) ∧
    (working.engine 0).rowsDone < (wholeRows zeros1k (decodeWagon zeros1k).1).length ∧
    after (.inflateRowDone 5 0) working (fun t => (t.engine 0).rowsDone == 1 &&
      ((t.page? 0 1).bind (fun p => p.slots.get? 0)).map (fun w => w.rows) == some [List.replicate 512 0]) = true := by decide +kernel
theorem test_inflateDone : engineWagon working 0 = some (0, 1, 0, { zeros1k with phase := .inflating, attempts := 1 }) ∧
    (decodeWagon zeros1k).2 = 0 ∧ after (.inflateDone 5 0) working (fun t => (t.engine 0).job.isNone && t.dv 0x2101 0 == 1 &&
      t.dv 0x2120 0 == 1024) = true := by decide +kernel
theorem test_engineFault : bitN (working.dv 0x2100 0) 0 = true ∧ engineWagon working 0 = some (0, 1, 0, { zeros1k with
      phase := .inflating, attempts := 1 }) ∧ ((working.health.getD (chanKey 4 0) Health.reset).hist = []) ∧
    after (.engineFault 5 0) working (fun t => (t.engine 0).job.isNone && t.dv 0x2102 0 == 1 &&
      ((t.page? 0 1).bind (fun p => p.slots.get? 0)).map (fun w => w.tried) == some [0]) = true := by decide +kernel

/-- The first 60 bytes of a descriptor: OP, SOURCE, FLAGS, LEVEL, job 7, 4 source bytes at 64, output 4,096 bytes at 128. -/
def descHead (op : Byte) : List Byte :=
  [op, 0, 1, 1] ++ leBytes 4 7 ++ leBytes 8 64 ++ leBytes 8 8 ++ leBytes 8 128 ++ leBytes 8 4096 ++ leBytes 8 0 ++ leBytes 8 5 ++ leBytes 4 0
/-- Bar 0 with one descriptor in its ring, and a job 7 that stopped. -/
def djs : State := (printing.modIntake 0 (fun q => { q with djTail := 1 }) |>.setBo 0 0x2300 0 4096).setBo 0 0x2300 1 64
def job7 (phase : Nat) : Job := { jobFrom 0 (sealed (descHead 1)) with phase := phase }
def djs7 (phase : Nat) : State := djs.modIntake 0 (fun q => { q with jobs := [job7 phase] })

theorem test_djStart : (sealed (descHead 1)).length = 64 ∧ (djs.bar 0).intake.djHead ≠ (djs.bar 0).intake.djTail ∧
    descCrc (sealed (descHead 1)) = true ∧ startStatus djs 0 (sealed (descHead 1)) = 0 ∧
    after (.djStart 5 0 (sealed (descHead 1))) djs (fun t => (t.bar 0).intake.djHead == 1 && (jobOf t 0 7).isSome) = true := by
  decide +kernel
theorem test_djStartCrc : (descHead 1 ++ [0, 0, 0, 0]).length = 64 ∧ descCrc (descHead 1 ++ [0, 0, 0, 0]) = false ∧
    after (.djStart 5 0 (descHead 1 ++ [0, 0, 0, 0])) djs (fun t => (t.bar 0).intake.djHead == 1 &&
      t.out.any (fun o => match o with | .dmaWrite _ a bs => a == 4096 && bs[1]? == some 3 | _ => false)) = true := by decide +kernel
theorem test_djResume : descCrc (sealed (descHead 2)) = true ∧ jobOf (djs7 1) 0 7 = some (job7 1) ∧ (job7 1).phase = 1 ∧
    outOk true (sealed (descHead 2)) = true ∧
    after (.djResume 5 0 (sealed (descHead 2))) (djs7 1) (fun t => (jobOf t 0 7).map (fun j => j.phase) == some 0) = true := by
  decide +kernel
theorem test_djCancel : descCrc (sealed (descHead 3)) = true ∧ jobOf (djs7 0) 0 7 = some (job7 0) ∧
    ((djs7 0).bar 0).intake.pageHold = false ∧ ((djs7 0).bar 0).intake.calderaFull = false ∧
    after (.djCancel 5 0 (sealed (descHead 3))) (djs7 0) (fun t => (jobOf t 0 7).isNone && (t.bar 0).intake.djHead == 1) = true := by
  decide +kernel
/-- An engine works on job 7; four bytes 'a' compress to these five (made outside the model). -/
def deflating : State := { djs7 0 with deflaters := [(0, (0, 7))] }
def encA : List Byte := [0, 4, 0, 251, 255, 97, 97, 97, 97]
theorem test_deflateBlock : deflating.deflaters.get? 0 = some (0, 7) ∧ jobOf deflating 0 7 = some (job7 0) ∧ (job7 0).source = 0 ∧
    (job7 0).stop = true ∧ (job7 0).srcLen = 8 ∧ blockVerifies [] [97, 97, 97, 97] encA false = true ∧ (job7 0).outLen = 4096 ∧
    after (.deflateBlockDone 5 0 [97, 97, 97, 97] ⟨encA, encA⟩) deflating (fun t => t.out == [.dmaWrite 1 128 encA] &&
      (jobOf t 0 7).map (fun j => j.consumed) == some 4) = true := by decide +kernel
theorem test_chainTail : Written printing (.fn 1) 0x2302 1 1 (some 0) 1 1 ∧ (printing.bar 0).intake.jobs = [] ∧
    after (.chainTail 5 (.fn 1) 1 1 [(64, 1024)]) printing (fun t => (t.bar 0).intake.chainTail.get? 1 == some 1) = true :=
  ⟨written_of_seen (by decide +kernel), by decide +kernel⟩
theorem test_auditReq : Written (withPage page1 printing) (.fn 1) 0x2303 0 0x100000000 (some 0) 0 0x100000000 ∧
    screeningBegun (withPage page1 printing) 0 1 = false ∧ (withPage page1 printing).inUse 0 = true ∧
    auditSize (withPage page1 printing) 0 0 4 ≤ 2 ^ 32 ∧
    after (.auditReq 5 (.fn 1) 0x100000000) (withPage page1 printing)
      (fun t => (t.bar 0).intake.audit.map (fun a => (a.plane, a.page)) == some (0, 1)) = true :=
  ⟨written_of_seen (by decide +kernel), by decide +kernel⟩

/-! ### Screening (04_screening.md, 05_nozzle_compensation.md) -/

/-- Page 1 with all rows of that span, in format `f`. -/
def inflated (f : Nat) (row : List Byte) : Page :=
  { page1 with slots := [(0, { wagon0 .done [] with format := f, rows := [row, row], released := 2 })] }
def screening : State :=
  (withPage (inflated 1 (List.replicate 1024 0)) ((narrow press).modBar 0 (fun x => { x with vb := .printing }))).modPower
    (fun p => { p with domains := [(0, 2)] })
theorem test_screenToken : headEn screening 0 = true ∧ 5 < headSize screening 0 / 16 ∧
    ((tokenPage (screening.later 5) 0 0 0 5 (tokenCols screening 0 0 5)).map (fun p => p.num)) = some 1 ∧
    (tokenCols screening 0 0 5).head? = some 80 ∧
    screening.inUse (headPlane screening 0) = true ∧ isContone (screening.format 0 (headPlane screening 0)) = true ∧
    (let pg := inflated 1 (List.replicate 1024 0)
     let u := handover 0 pg 0 0 (screening.later 5)
     pg.printed = false ∧ tokenGeyser u 0 1 0 0 0 5 = some 3 ∧ u.domainOn 0 = true ∧ geyserTurn u 3 0 (lineOrder u 0 pg 0 0 0) = true) ∧
    after (.screenToken 5 0 0 0 5) screening (fun t => t.dv 0x3012 3 == 1 &&
      ((t.page? 0 1).bind (fun p => p.tokens.get? (tokenKey 0 0 5))) == some (List.replicate 16 0)) = true ∧
    after (.screenToken 5 0 0 1 5) screening (fun t => t.dv 0x3012 3 == 0) = true := by decide +kernel
/-- The same plane in format 4, dots. -/
def dots : State :=
  withPage (inflated 4 (List.replicate 768 0)) (((narrow press).modBar 0 (fun x => { x with vb := .printing })).setBo 0 0x3001 0 4)
theorem test_dotRoute : 0 < dots.spanCount 0 ∧ ((linePage (dots.later 5) 0 0 0 0).map (fun p => p.num)) = some 1 ∧ dots.inUse 0 = true ∧
    isContone (dots.format 0 0) = false ∧
    routerTurn (dots.later 5) (lineOrder (dots.later 5) 0 (inflated 4 (List.replicate 768 0)) 0 0 0) = true ∧
    after (.dotRoute 5 0 0 0 0) dots (fun t => ((t.page? 0 1).map (fun p => p.screened.has (lineKey 0 0 0))) == some true) = true := by decide +kernel

theorem test_geyserFault : geyserOn press 3 = true ∧ (press.health.getD (chanKey 3 3) Health.reset).hist = [] ∧
    after (.geyserFault 5 3) press (fun t => geyserOn t 3 && (t.health.getD (chanKey 3 3) Health.reset).hist == [5]) = true := by
  decide +kernel
theorem test_geyserRetired : geyserOn (thrice 3 3 press) 3 = true ∧
    3 ≤ (((thrice 3 3 press).health.getD (chanKey 3 3) Health.reset).hist.filter (fun a => decide (5 ≤ a + Config.second))).length ∧
    retiredCount (thrice 3 3 press) 3 < 4 ∧
    after (.geyserFault 5 3) (thrice 3 3 press) (fun t => !geyserOn t 3 && isRetired t 3 3) = true := by decide +kernel

/-- Nozzle 1 of the head on port 0 is RETIRED, nozzle 2 locked, the others in service. -/
def purging : State := (narrow press).modBar 0 (fun x => { x with opn := [(okey 0x3400 0, .wide (leBytes 2 0 ++ leBytes 2 (mkEntry 5 2 0) ++ List.replicate 2044 0))] })
theorem test_purgeDone : Written purging (.fn 1) 0x3440 0 1 (some 0) 0 1 ∧ holder purging = true ∧ 1 ∈ ownNozzles purging 0 0 ∧
    2 * 1 + 2 ≤ (purging.curW 0 0x3400 0).length :=
  ⟨written_of_seen (by decide +kernel), by decide +kernel⟩

/-! ### Encoder, web, lines and flips (06_firing_timeline.md, 08_page_scanout.md) -/

theorem test_encStep : bitsN (ready.dv 0x4001 0) 9 8 = 0 ∧ bitN (ready.dv 0x4001 0) 10 = false ∧
    after (.encInputChange 5 0 false true) ready (fun t => (t.enc 0).b && decide ((t.enc 0).count = -1)) = true ∧
    after (.encInputChange 5 0 true false) ready (fun t => (t.enc 0).a && decide ((t.enc 0).count = 1)) = true := by decide +kernel
/-- INVERT turns the sense. -/
theorem test_encInvert : after (.encInputChange 5 1 true false) (ready.setDv 0x4001 1 0x400)
    (fun t => decide ((t.enc 1).count = -1)) = true := by decide +kernel
theorem test_encError : after (.encInputChange 5 0 true true) ready (fun t => (t.enc 0).a && decide ((t.enc 0).count = 0) &&
    t.dv 0x4005 0 == 1 && t.trig.encErrAt == some 5) = true := by decide +kernel
theorem test_encErrorClear : after (.encErrorClear 1000000) (ready.modTrig fun x => { x with encErrAt := some 0 })
      (fun t => t.trig.encErrAt.isNone) = true ∧
    after (.encErrorClear 999999) (ready.modTrig fun x => { x with encErrAt := some 0 })
      (fun t => t.trig.encErrAt == some 0) = true := by decide +kernel
/-- The web moves; its last count above H was at 0. -/
def moving : State := press.modTrig (fun x => { x with en := true, moving := true, times := [(0, 0)] })
theorem test_webStop : ∀ q, moving.trig.times.head? = some q → q.2 + moving.dv 0x4013 0 * Config.micro ≤
    moving.now + moving.dv 0x4013 0 * 1000 := by
  intro q h; obtain rfl : ((0, 0) : Int × Nat) = q := by simpa [moving, State.modTrig] using h
  decide +kernel
theorem test_webStopEffect : after (.webStop (moving.dv 0x4013 0 * 1000)) moving (fun t => !t.trig.moving && t.trig.stopped) = true := by
  decide +kernel
theorem test_trigEnSet : Written ready .firmware 0x4003 1 1 none 1 1 ∧ ready.devState = .ready ∧ ready.trig.en = false ∧
    after (.trigEnSet 5 .firmware) ready (fun t => t.trig.en) = true :=
  ⟨written_of_seen (by decide +kernel), by decide +kernel⟩
theorem test_trigEnSetConfig : Written cfg .firmware 0x4003 1 1 none 1 1 ∧ cfg.devState = .config ∧
    (doorWrite .firmware 0x4003 1 1 trigEnEffect cfg).1 = stState := ⟨written_of_seen (by decide +kernel), by decide +kernel⟩
theorem test_trigEnClear : Written moving .firmware 0x4003 1 0 none 1 0 ∧ moving.trig.en = true ∧ printingBars moving = [] ∧
    after (.trigEnClear 5 .firmware) moving (fun t => !t.trig.en) = true ∧ printingBars printing ≠ [] :=
  ⟨written_of_seen (by decide +kernel), by decide +kernel⟩
theorem test_trigEnClearPrinting : Written printing .firmware 0x4003 1 0 none 1 0 ∧
    (doorWrite .firmware 0x4003 1 0 trigEnEffect printing).1 = stState := ⟨written_of_seen (by decide +kernel), by decide +kernel⟩
/-- Mark input 2 is enabled, on rising edges, with the trigger on. -/
def marking : State := moving.setDv 0x4040 2 0x200
theorem test_markEdge : bitN (marking.dv 0x4040 2) 9 = true ∧ bitN (marking.dv 0x4040 2) 8 = false ∧ marking.trig.en = true ∧
    markRejected marking 2 (lineScale marking (webPosition (marking.later 5))) = false ∧
    after (.markEdge 5 2 true) marking (fun t => (t.mark 2).last == some (lineScale marking (webPosition (marking.later 5)))) = true := by
  decide +kernel
theorem test_markRejected : markRejected (marking.modEnc 0 (fun x => { x with count := -1 })) 2 64 = true := by decide +kernel

/-- Line 1 fell due at its count. -/
def due1 : State := moving.modTrig (fun x => { x with times := [(0, 3)] })
theorem test_lineDue : due1.trig.en = true ∧ numbers due1 = true ∧ (dueOf (due1.later 5)).map (fun d => d.at_) = some 3 ∧
    after (.lineDue 5) due1 (fun t => t.trig.line == 1 && t.trig.lastDue == some 3) = true ∧
    dueOf ((due1.modTrig fun x => { x with h := -1 }).later 5) = none := by decide +kernel
/-- Page 1 with every line of plane 0 screened, on a bar that prints and has no head. -/
def readied : State := withPage { page1 with screened := ((List.range 4).flatMap fun sp => (List.range 4).map fun y =>
  (lineKey 0 sp y, true)) } printing
theorem test_flipFixed : holder readied = true ∧ (readyPage readied 0).map (fun p => p.num) = some 1 ∧ markReg readied 0 = false ∧
    after (.flipFixed 5 0) readied (fun t => (t.page? 0 1).bind (fun p => p.flip) ==
      some (max (readied.trig.line + readied.dv 0x5002 0) (effectiveMin readied 0))) = true ∧ (ready.bar 0).vb ≠ .printing := by decide +kernel
theorem test_drayReadDone : after (.drayReadDone 5 3) (press.modDray 3 fun x => { x with reading := [(1, 2), (2, 3)], panic := true })
    (fun t => (t.dray 3).reading == [(2, 3)] && !(t.dray 3).panic) = true := by decide +kernel
theorem test_drayPanic : after (.drayPanic 40 3) ((press.modTrig fun x => { x with period := 160 }).modDray 3 fun x => { x with
      reading := [(1, 0)] }) (fun t => (t.dray 3).panic && t.dv 0x7230 3 == 1) = true := by decide +kernel
def slow : State := { press with webSlow := some (0, 0) }
theorem test_webSlowRelease : lateBars slow = [] ∧
    after (.webSlowRelease (press.dv 0x5003 0 * Config.milli)) slow (fun t => t.webSlow.isNone) = true ∧
    0 < press.dv 0x5003 0 ∧ after (.webSlowRelease 0) slow (fun t => t.webSlow.isSome) = true := by decide +kernel

/-! ### Lanes (07_head_link.md) -/

/-- Port 0 in a state of Table 07-9. -/
def lane (st : LaneState) : State := ready.modPort 0 (fun x => { x with st := st, upLock := true })
/-- The same without an upstream lock. -/
def dark (st : LaneState) : State := ready.modPort 0 (fun x => { x with st := st })
theorem test_blockLock : ((dark .detect).port 0).st = .detect ∧ after (.upstreamBlockLock 5 0) (dark .detect)
    (fun t => (t.port 0).st == .train && (t.port 0).upLock && t.out.contains (.train 0 1 0)) = true := by decide +kernel
theorem test_blockLockRelock : after (.upstreamBlockLock 5 0) ((dark .relock).modPort 0 fun x => { x with dnLock := true })
      (fun t => (t.port 0).st == .relock && (t.port 0).lockAt == some 5) = true ∧
    after (.upstreamBlockLock 9000 0) ((dark .relock).modPort 0 fun x => { x with dnLock := true, lockAt := some 0 })
      (fun t => (t.port 0).st == .run) = true ∧ 64 * blockTime100 (dark .relock) ≤ 100 * 9000 ∧ ((dark .off).port 0).st = .off := by decide +kernel
theorem test_lossOfLock : ((lane .run).port 0).upLock = true ∧ after (.lossOfLock 5 0) (lane .run)
      (fun t => (t.port 0).st == .relock && t.dv 0x4804 0 == 1 && !(t.port 0).upLock) = true ∧
    after (.lossOfLock 5 0) (thrice 0 0 (lane .run)) (fun t => (t.port 0).st == .retired) = true := by decide +kernel
theorem test_lossOfSignal : after (.lossOfSignal 5 0) (lane .run)
    (fun t => (t.port 0).st == .relock && t.dv 0x4804 0 == 1 && (t.port 0).upLos) = true := by decide +kernel
theorem test_signalDetect : after (.signalDetect 5 0) ((lane .detect).modPort 0 fun x => { x with upLos := true })
    (fun t => !(t.port 0).upLos && (t.port 0).present) = true := by decide +kernel
theorem test_upstreamIdle : after (.upstreamIdle 5 0 true false 1 9) (lane .wake)
    (fun t => (t.port 0).st == .run && (t.port 0).input == 1 && (t.port 0).echo == 9) = true := by decide +kernel
theorem test_telemTimeout : after (.telemTimeout (4 * ready.dv 0x4911 0 * 1000) 0) ((lane .run).modPort 0 fun x => { x with
    telemAt := some 0 }) (fun t => (t.port 0).st == .relock && t.dv 0x4804 0 == 1) = true := by decide +kernel
theorem test_relockTimeout : after (.relockTimeout 40000 0) (lane .relock) (fun t => (t.port 0).st == .train) = true ∧
    after (.relockTimeout 39999 0) (lane .relock) (fun t => (t.port 0).st == .relock) = true := by decide +kernel
theorem test_wakeTimeout : after (.wakeTimeout 2000000 0) (lane .wake) (fun t => (t.port 0).st == .train) = true ∧
    after (.wakeTimeout 1999999 0) (lane .wake) (fun t => (t.port 0).st == .wake) = true := by decide +kernel

/-- Two rows in class 0. -/
def twoRows : State := (lane .train).setDw 0x4810 0 (eqDefault.set 4 2)
theorem test_trainFom : (twoRows.port 0).row = 0 ∧ 1 < eqRows twoRows 0 ∧
    after (.trainFom 5 0 0 3 4 0) twoRows (fun t => (t.port 0).row == 1 && (t.port 0).best == some (12, 0) &&
      t.out.contains (.train 0 1 1)) = true := by decide +kernel
/-- The last row under trial. -/
def lastRow : State := (lane .train).modPort 0 (fun x => { x with row := eqRows (lane .train) 0 - 1 })
theorem test_trainFomLast : (lastRow.port 0).row = (Fin.ofNat 16 (eqRows (lane .train) 0 - 1)).val ∧
    fieldLE (eqTable lastRow) 2 2 ≤ 255 * 255 ∧
    after (.trainFom 5 0 (Fin.ofNat 16 (eqRows (lane .train) 0 - 1)) 255 255 0) lastRow (fun t => (t.port 0).st == .ident &&
      t.dv 0x4811 0 == 255 * 255 * 65536 + (eqRows (lane .train) 0 - 1)) = true := by decide +kernel
theorem test_fomTimeout : after (.fomTimeout (4096 * blockTime100 ready / 100 + 5000) 0) twoRows
    (fun t => (t.port 0).row == 1 && t.out.contains (.train 0 1 1)) = true := by decide +kernel
theorem test_upstreamDeepEnter : after (.upstreamDeepEnter 5 0) (lane .deep) (fun t => (t.port 0).deepHead) = true := by decide +kernel
theorem test_retrain : Written (lane .run) .firmware 0x4802 0 1 none 0 1 ∧
    after (.laneCmdRetrain 5 .firmware 0) (lane .run) (fun t => (t.port 0).st == .train) = true :=
  ⟨written_of_seen (by decide +kernel), by decide +kernel⟩
theorem test_deepEnter : Written (lane .run) .firmware 0x4802 0 2 none 0 2 ∧ servedBars (lane .run) 0 = [] ∧
    after (.laneCmdDeepEnter 5 .firmware 0) (lane .run) (fun t => (t.port 0).st == .deep && t.out.contains (.deepEnter 0)) = true :=
  ⟨written_of_seen (by decide +kernel), by decide +kernel⟩
/-- Bar 0, which the head on port 0 serves, prints. -/
def served : State := ((narrow (lane .run)).modBar 0 fun x => { x with vb := .printing })
theorem test_deepEnterPrinting : Written served .firmware 0x4802 0 2 none 0 2 ∧ 0 ∈ servedBars served 0 ∧ (served.bar 0).vb = .printing ∧
    (doorWrite .firmware 0x4802 0 2 laneCommand served).1 = stState := ⟨written_of_seen (by decide +kernel), by decide +kernel⟩
theorem test_deepExit : Written (lane .deep) .firmware 0x4802 0 3 none 0 3 ∧
    after (.laneCmdDeepExit 5 .firmware 0) (lane .deep) (fun t => (t.port 0).st == .wake) = true :=
  ⟨written_of_seen (by decide +kernel), by decide +kernel⟩
theorem test_reinstateLane : Written (dark .retired) .firmware 0x4802 0 4 none 0 4 ∧
    after (.laneCmdReinstate 5 .firmware 0) (dark .retired) (fun t => (t.port 0).st == .detect && !isRetired t 0 0) = true :=
  ⟨written_of_seen (by decide +kernel), by decide +kernel⟩

/-! ### Head frames (07_head_link.md) -/

/-- A STATUS frame: temperature -2, a status byte 5, a supply reading of 6, counts 3 and 4 of the two inputs, word 7. -/
def statusFrame (bs : List Byte) : QhlFrame := qhlFrame [0x55, 1, 0, 4, 0, 0, 0, 0] bs
/-- The ends of a frame. -/
def ends (f : QhlFrame) : QhlEnds := { clean := f.clean, start := f.start, crc := f.crc, eof := f.eof }
def statusBytes : List Byte := [0xFE, 0xFF, 5, 0, 0, 0, 6, 0] ++ leBytes 4 3 ++ leBytes 4 4 ++ leBytes 8 0 ++ leBytes 4 7 ++ leBytes 4 0
theorem test_status : statusBytes.length = 32 ∧ ((lane .run).port 0).upLock = true ∧
    after (.statusTelemetry 5 0 (ends (statusFrame statusBytes)) statusBytes) (lane .run) (fun t => decide (t.dvi 0x4900 0 = -2) && t.dv 0x4901 0 == 6 * 65536 + 5 &&
      t.dv 0x4902 0 == 3 && t.dv 0x4903 0 == 4 && t.dv 0x4904 0 == 7) = true := by decide +kernel
theorem test_statusBadCrc : (crcWindow 5 ((lane .run).port 0).crcTimes 1).length < 16 ∧
    after (.statusTelemetry 5 0 { ends (statusFrame statusBytes) with crc := [1, 2, 3, 4] } statusBytes) (lane .run) (fun t => t.dv 0x4805 0 == 1 && decide (t.dvi 0x4900 0 = 0)) = true := by
  decide +kernel
theorem test_lineStatus : (lane .run).trig.line < 2 ^ 40 ∧
    after (.lineStatus 5 0 0x0D 0 7) ((lane .run).modPort 0 fun x => { x with struck := [5, 6, 7, 8] })
      (fun t => (t.port 0).struck == [8] && t.missNext == 2) = true ∧
    after (.lineStatus 5 0 0x01 0 5) ((lane .run).modPort 0 fun x => { x with struck := [5] })
      (fun t => (t.port 0).struck.isEmpty && t.missNext == 1) = true := by decide +kernel
/-- Table 07-7: nozzles 8 and 10 of eight from 8, of check 1. -/
def actBytes : List Byte := [8, 0, 8, 0, 1, 0, 0, 0, 0x05, 0, 0, 0, 0, 0, 0, 0]
theorem test_actResult : actData 8 8 1 [0x05, 0, 0, 0, 0, 0, 0, 0] = actBytes ∧ holder (standby (lane .run)) = false ∧ holder (lane .run) = true ∧
    actNozzles 8 8 [0x05] = [8, 10] ∧
    after (.actResult 5 0 (ends (qhlFrame [0x55, 2, 0, 2, 0, 0, 0, 0] actBytes)) 8 8 1 [0x05, 0, 0, 0, 0, 0, 0, 0]) (lane .run) (fun t => t.dv 0x4906 0 == 2) = true := by decide +kernel
/-- A request of OP 1 under TAG 3; an IDENT read; the same as often repeated as it may be. -/
def req3 (op tries : Nat) : MgmtReq :=
  { tag := 3, op := op, addr := 0, count := 4, words := [], sentAt := 0, tries := tries, forPage := none, deadline := none }
/-- The ends of a response of status OK to OP `op` under TAG 3, with these data words. -/
def answer3 (op : Byte) (words : List (BitVec 64)) : QhlEnds :=
  ends (qhlFrame ([0x78, op + 0x80, 3, 0, 0, 0] ++ leBytes 2 words.length) (words.flatMap (fun w => leBytes 8 w.toNat)))
def reply3 (op : Byte) (words : List (BitVec 64)) : Instr := .mgmtResponse 5 0 (answer3 op words) 3 0 words
def asking (op tries : Nat) (st : LaneState) : State := (lane st).modPort 0 (fun x => { x with reqs := [req3 op tries] })
theorem test_mgmtResponse : inFlight (asking 1 1 .run) 0 3 = some (req3 1 1) ∧
    after (reply3 1 []) (asking 1 1 .run) (fun t => (t.port 0).reqs.isEmpty) = true := by decide +kernel
theorem test_identResponse : inFlight (asking 2 1 .ident) 0 3 = some (req3 2 1) ∧ ((asking 2 1 .ident).port 0).st = .ident ∧
    identCause (asking 2 1 .ident) 0 [0, 0, 0x10000, 0] ≠ 0 ∧
    after (reply3 2 [0, 0, 0x10000, 0]) (asking 2 1 .ident) (fun t => (t.port 0).st == .mismatch) = true := by decide +kernel
theorem test_mgmtTimeout : inFlight (asking 1 1 .run) 0 3 = some (req3 1 1) ∧ (asking 1 1 .run).devState = .ready ∧
    ((asking 1 1 .run).port 0).st.manages = true ∧
    after (.mgmtTimeout 20000 0 3) (asking 1 1 .run) (fun t => t.out == [.mgmt 0 (qhlFrame [0x78, 1, 3, 1, 0, 0, 4, 0] [])]) = true ∧
    after (.mgmtTimeout 19999 0 3) (asking 1 1 .run) (fun t => t.out.isEmpty) = true := by decide +kernel
theorem test_mgmtTimeoutFault : inFlight (asking 1 4 .run) 0 3 = some (req3 1 4) ∧
    after (.mgmtTimeout 20000 0 3) (asking 1 4 .run) (fun t => (t.port 0).st == .relock && t.dv 0x4804 0 == 1) = true := by
  decide +kernel

/-! ### Cameras (09_inspection.md) -/

/-- Camera 0 is on, with 64 pixels in RAW10; in free run. -/
def camSeen : State :=
  { (ready.setDv 0x6000 0 1).setDv 0x6001 0 64 with power := { Power.reset with domains := [(camDomain 0, 2), (0x0F, 2)] } }
def freeRun : State := camSeen.setDv 0x6003 0 0
theorem test_camLine : camOn freeRun 0 = true ∧ HdrErr.none ≠ .many ∧ camVc freeRun 0 = 0 ∧ camRaw12 freeRun 0 = false ∧
    camTriggered freeRun 0 = false ∧ lineWords freeRun 0 = 80 ∧ (freeRun.cam 0).lastIn = none ∧
    after (.csiLongPacket 5 0 0 0x2B 80 .single true (List.replicate 80 1)) freeRun
      (fun t => t.dv 0x6010 0 == 1 && (t.cam 0).index == 1 && (t.cam 0).lastIn == some 5) = true ∧
    after (.csiLongPacket 5 0 0 0x2B 80 .none false (List.replicate 80 1)) freeRun
      (fun t => t.dv 0x6013 0 == 1 && (t.cam 0).index == 1 && t.dv 0x6010 0 == 0) = true := by decide +kernel
theorem test_camFrame : after (.csiShortPacket 5 0 0 0 .none) (freeRun.modCam 0 fun x => { x with index := 9, nextOut := 9 })
      (fun t => (t.cam 0).index == 0 && (t.cam 0).nextOut == 0) = true ∧
    after (.csiShortPacket 5 0 0 0 .many) freeRun (fun t => t.dv 0x6013 0 == 1) = true := by decide +kernel
/-- A pulse is due at 5 with the trigger on. -/
def pulseDue : State :=
  ((camSeen.setDv 0x6007 0 300).modTrig fun x => { x with en := true }).modCam 0 fun x => { x with dueTrig := [5, 9] }
theorem test_camTrig : (pulseDue.cam 0).dueTrig = [5, 9] ∧ pulseDue.trig.en = true ∧ camOn pulseDue 0 = true ∧
    camTriggered pulseDue 0 = true ∧ pulseDue.dv 0x6006 0 = 100 ∧
    after (.camTrigStart 5 0) pulseDue (fun t => (t.cam 0).dueTrig == [9] && (t.cam 0).trigUntil == some 105 &&
      (t.cam 0).lightUntil == some 305 && t.out == [.camPulse 0 false 100, .camPulse 0 true 300]) = true := by decide +kernel
theorem test_camPulseEnd : after (.camPulseEnd 105 0 false) (camSeen.modCam 0 fun x => { x with trigUntil := some 105, lightUntil := some 105 })
      (fun t => (t.cam 0).trigUntil.isNone && (t.cam 0).lightUntil.isSome) = true ∧
    after (.camPulseEnd 105 0 true) (camSeen.modCam 0 fun x => { x with trigUntil := some 105, lightUntil := some 105 })
      (fun t => (t.cam 0).trigUntil.isSome && (t.cam 0).lightUntil.isNone) = true := by decide +kernel
/-- A strip that has begun. -/
def strip1 : Strip :=
  { plane := 0, rowSet := 0, first := 0, length := 64, k := 1, seg := 0, level := 1, ended := [], got := [], gone := [], measured := false, abandoned := false
    under := none, page := 1, ports := [2], committed := false, endedAt := none }
def stripped : State := (narrow ready).modScan 0 fun c => { c with strips := [strip1] }
theorem test_stripAbandoned : camOn stripped 2 = false ∧ 0 ∈ stripped.barsWithCols ∧ strip1 ∈ (stripped.bar 0).scan.strips ∧
    strip1.first ≤ stripped.trig.line ∧
    after (.stripAbandoned 5 2) stripped (fun t => (t.bar 0).scan.strips.any (fun y => y.ended.contains 2 && y.gone.contains 2)) = true := by
  decide +kernel
theorem test_regOffset : Written ready .firmware 0x6105 1 7 none 1 7 ∧ Written ready .firmware 0x6106 1 0x10000 none 1 0x10000 ∧
    after (.regOffsetWrite 5 .firmware false 1 7) ready (fun t => t.dv 0x6105 1 == 7) = true :=
  ⟨written_of_seen (by decide +kernel), written_of_seen (by decide +kernel), by decide +kernel⟩
theorem test_stripReq : Written printing (.fn 1) 0x6201 0 0x80 (some 0) 0 0x80 ∧ printing.inUse 0 = true ∧ 0 < printing.rowSets 0 ∧
    after (.stripReq 5 (.fn 1) 0x80) printing (fun t => (t.bar 0).scan.stripPending == some (0, 0, false)) = true :=
  ⟨written_of_seen (by decide +kernel), by decide +kernel⟩
theorem test_satClear : Written ready .firmware 0x6104 1 1 none 1 1 ∧
    after (.satClear 5 .firmware 1 1) (ready.modCam 1 fun x => { x with satMap := [(3, true)] }) (fun t => (t.cam 1).satMap.isEmpty) = true :=
  ⟨written_of_seen (by decide +kernel), by decide +kernel⟩

/-- A focus search may start on axis 0 of camera 0; one is under way. -/
def focusing : State := ((ready.setDv 0x6133 0 0x80).setDv 0xA000 0 1).modAxis 0 fun x => { x with uncertain := false }
def search1 : Search := { start := 0, i := 0, phase := 1, scores := [], final := 0, edge := false, movedAt := 0, n := 1, step := 0, axis := 0 }
theorem test_focusGo : Written focusing .firmware 0x6136 0 1 none 0 1 ∧ holder focusing = true ∧ bitN (focusing.dv 0x6133 0) 7 = true ∧
    (focusing.cam 0).search = none ∧
    focusMayMove focusing (focusAxis focusing 0) (focusPoint (Search.mk (focusing.axis 0).steps 0 0 [] 0 false 5
      (focusing.dv 0x6135 0) (focusing.dv 0x6134 0) 0) 0) = true ∧
    after (.focusGo 5 .firmware 0) focusing (fun t => (t.cam 0).search.isSome && (t.axis 0).mode == .move) = true :=
  ⟨written_of_seen (by decide +kernel), by decide +kernel⟩
theorem test_focusGoStandby : Written (standby focusing) .firmware 0x6136 0 1 none 0 1 ∧ holder (standby focusing) = false ∧
    (doorWrite .firmware 0x6136 0 1 focusGoEffect (standby focusing)).1 = stState := ⟨written_of_seen (by decide +kernel), by decide +kernel⟩
def searching : State := focusing.modCam 0 fun x => { x with search := some search1 }
theorem test_focusAbort : Written searching .firmware 0x6136 0 0 none 0 0 ∧
    after (.focusAbort 5 .firmware 0) searching (fun t => (t.cam 0).search.isNone) = true :=
  ⟨written_of_seen (by decide +kernel), by decide +kernel⟩
theorem test_focusTimeout : after (.focusStatTimeout 1000000000 0) searching (fun t => (t.cam 0).search.isNone) = true ∧
    after (.focusStatTimeout 999999999 0) searching (fun t => (t.cam 0).search.isSome) = true := by decide +kernel

/-! ### Placement and memory (10_placement_memory.md) -/

theorem test_placeFreeze : Written ready .firmware 0x7004 0 1 none 0 1 ∧ Written ready .firmware 0x7004 0 0 none 0 0 ∧
    after (.placeFreezeWrite 5 .firmware 1) ready (fun t => t.dv 0x7004 0 == 1) = true :=
  ⟨written_of_seen (by decide +kernel), written_of_seen (by decide +kernel), by decide +kernel⟩
theorem test_placeRun : ∀ b, (ready.bar b).pages = [] := fun _ => rfl
/-- Bar 0 has quotas of 10 in a DRAM pool of 64 MiB; the PF's view is the bar. -/
def quotas (s : State) : State :=
  (((withBar s).setDv 0x7105 0 64).setBo 0 0x7100 0 10).modFn 0 fun x => { x with own := [(okey 0x1105 0, 0)] }
theorem test_dramQuota : Written (quotas ready) (.fn 0) 0x7100 0 64 (some 0) 0 64 ∧
    quotaSum ((quotas ready).setBo 0 0x7100 0 64) ≤ (quotas ready).dv 0x7105 0 ∧
    after (.dramQuotaWrite 5 (.fn 0) 64) (quotas ready) (fun t => t.bo 0 0x7100 0 == 64) = true := by
  exact ⟨written_of_seen (by decide +kernel), by decide +kernel⟩
theorem test_dramQuotaRefused : Written (quotas ready) (.fn 0) 0x7100 0 65 (some 0) 0 65 ∧ (quotas ready).bo 0 0x7100 0 < 65 ∧
    (quotas ready).dv 0x7105 0 < quotaSum ((quotas ready).setBo 0 0x7100 0 65) ∧
    (doorWrite (.fn 0) 0x7100 0 65 dramQuotaEffect (quotas ready)).1 = stRange := by
  exact ⟨written_of_seen (by decide +kernel), by decide +kernel⟩
theorem test_sramQuota : Written (quotas ready) (.fn 0) 0x7101 0 128 (some 0) 0 128 ∧
    (128 : Slot).toNat ≤ (quotas ready).bo 0 0x7101 0 ∧
    after (.sramQuotaWrite 5 (.fn 0) 128) (quotas ready) (fun t => t.bo 0 0x7101 0 == 128) = true := by
  exact ⟨written_of_seen (by decide +kernel), by decide +kernel⟩
theorem test_sramQuotaRefused : Written (quotas ready) (.fn 0) 0x7101 0 98304 (some 0) 0 98304 ∧
    (quotas ready).bo 0 0x7101 0 < 98304 ∧ tablePool (quotas ready) < sramQuotaSum ((quotas ready).setBo 0 0x7101 0 98304) ∧
    (doorWrite (.fn 0) 0x7101 0 98304 sramQuotaEffect (quotas ready)).1 = stRange := by
  exact ⟨written_of_seen (by decide +kernel), by decide +kernel⟩

/-- Subchannel 2 in a state, with 64 MiB. -/
def sub2 (st : Nat) : State := ready.modSch 2 fun x => { x with state := st, mib := 64, cells := [(100, 5)] }
def reqR : McReq := { cls := .dray, prio := 0, bar := 0, bank := 1, row := 0, addr := 100, len := 2, data := [], port := 0, line := 0, part := 0 }
def reqW : McReq := { reqR with cls := .delayWrite, data := [7, 0], len := 2 }
def entry (r : McReq) (segs : List (Nat × List Byte)) : McEntry := { req := r, order := 0, segs := segs, passed := 0 }
def queuedR : State := (sub2 2).modSch 2 fun x => { x with readQ := [entry reqR []] }
def queuedW : State := (sub2 2).modSch 2 fun x => { x with writeQ := [entry reqW [(100, [7, 0])]] }
theorem test_mcRead : mcIsRead reqR = true ∧ 0 < ready.dv 0x7206 0 ∧ (queuedR.sch 2).readQ = [entry reqR []] ∧
    after (.mcCommand 5 2 []) queuedR (fun t => t.out == [.mcData 2 100 [5, 0]] && (t.sch 2).readQ.isEmpty) = true := by decide +kernel
theorem test_mcWrite : (queuedW.sch 2).writeQ = [entry reqW [(100, [7, 0])]] ∧ (queuedW.sch 2).readQ = [] ∧
    after (.mcCommand 5 2 []) queuedW (fun t => (t.sch 2).cells == [(100, 7)] && (t.sch 2).writeQ.isEmpty) = true := by decide +kernel
theorem test_mcCovered : coveredBy (entry reqW [(100, [7, 0])]) 100 2 = some [7, 0] ∧
    after (.mcCommand 5 2 [reqR]) queuedW (fun t => t.out.head? == some (.mcData 2 100 [7, 0])) = true := by decide +kernel
theorem test_bankIdleClose : after (.bankIdleClose (ready.dv 0x7204 0) 2 1) ((sub2 2).modSch 2 fun x => { x with banks := [(1, (9, 0))] })
    (fun t => (t.sch 2).banks.isEmpty) = true := by decide +kernel
theorem test_refreshTick : after (.refreshTick 975 2 true) (sub2 3) (fun t => (t.sch 2).hot && (t.sch 2).refreshAt == 975) = true ∧
    after (.refreshTick 1949 2 false) (sub2 3) (fun t => (t.sch 2).refreshAt == 0) = true := by decide +kernel
theorem test_dqsTrack : after (.dqsTrack 100000000) (sub2 2) (fun t => (t.sch 2).drift && !(t.sch 3).drift) = true := by decide +kernel
theorem test_scrubTick : (sub2 2).dv 0x7207 0 ≠ 0 ∧ after (.scrubTick 5 2) ((sub2 2).modSch 2 fun x => { x with scrub := 64 * 2 ^ 20 - 64 })
    (fun t => (t.sch 2).scrub == 0) = true := by decide +kernel

theorem test_subchFault : after (.subchFault 5 2) (sub2 2) (fun t => (t.sch 2).retraining && t.dv 0x7240 2 == 1) = true ∧
    schNeeded (thrice 2 2 (sub2 2)) 2 = true ∧
    after (.subchFault 5 2) (thrice 2 2 (sub2 2)) (fun t => (t.sch 2).retraining && !isRetired t 2 2) = true := by decide +kernel
/-- All eight subchannels are in service, so that one is not needed. -/
def eight : State := (List.range 8).foldl (fun s k => s.modSch k fun x => { x with state := 2, mib := 4096 }) (thrice 2 2 ready)
theorem test_subchRetire : (eight.sch 2).state = 2 ∧ schNeeded eight 2 = false ∧
    after (.subchFault 5 2) eight (fun t => (t.sch 2).state == 3 && isRetired t 2 2 && t.stripeGen == 1) = true := by decide +kernel
theorem test_subchRetrainDone : after (.subchRetrainDone 5 2 true) ((sub2 1).modSch 2 fun x => { x with retraining := true })
      (fun t => (t.sch 2).state == 2 && !(t.sch 2).retraining) = true ∧
    after (.subchRetrainDone 5 2 false) ((sub2 1).modSch 2 fun x => { x with retraining := true, returning := true })
      (fun t => (t.sch 2).state == 4 && !(t.sch 2).retraining) = true := by decide +kernel
theorem test_subchRetired : after (.subchRetired 5 2) (queuedR.modSch 2 fun x => { x with state := 3 })
    (fun t => (t.sch 2).state == 4 && (t.sch 2).readQ.isEmpty) = true := by decide +kernel
def sub2c (st : Nat) : State := cfg.modSch 2 fun x => { x with state := st }
theorem test_subchCmd : Written (sub2c 2) .firmware 0x7203 2 1 none 2 1 ∧ Written (sub2c 4) .firmware 0x7203 2 2 none 2 2 ∧
    Written ready .firmware 0x7203 2 1 none 2 1 ∧ (doorWrite .firmware 0x7203 2 1 subchCommand ready).1 = stState ∧
    after (.subchCmdRetrain 5 .firmware 2) (sub2c 2) (fun t => (t.sch 2).state == 1) = true ∧
    after (.subchCmdReinstate 5 .firmware 2) (sub2c 4) (fun t => (t.sch 2).state == 1 && (t.sch 2).returning) = true :=
  ⟨written_of_seen (by decide +kernel), written_of_seen (by decide +kernel), written_of_seen (by decide +kernel), by decide +kernel⟩

theorem test_dramEcc : after (.dramEcc 5 2 false 100 .dramSystem) (sub2 2) (fun t => t.dv 0x7220 2 == 1 && (t.sch 2).cells == [(100, 5)]) = true ∧
    after (.dramEcc 5 2 true 100 (.dramDelay 3 9)) (sub2 3) (fun t => t.dv 0x7221 2 == 1 &&
      t.dv 0x7222 0 == 0x5200000000000064 && (t.port 3).lostLines == [9]) = true := by decide +kernel
theorem test_sramEcc : ((ready.sram.getD (rowKey 1 7) SramRow.reset).corr = []) ∧
    after (.sramEcc 5 1 7 false .deviceRegion) ready (fun t => t.dv 0x7301 1 == 1 &&
      (t.sram.get? (rowKey 1 7)).map (fun x => x.corr) == some [5]) = true ∧
    after (.sramEcc 5 1 7 true (.lineStaging 3 9)) ready (fun t => t.dv 0x7302 1 == 1 && (t.port 3).lostLines == [9]) = true := by
  decide +kernel

/-! ### The pair and the reins (11_pair_redundancy.md) -/

theorem test_leaseSend : pairMode (held ready) = true ∧ after (.leaseSend 2000) (held ready)
    (fun t => t.out == [.pair .lease] && t.pair.renewedAt == 2000) = true := by decide +kernel
theorem test_leaseHwExpiry : after (.leaseHwExpiry 8000) ((held ready).modSupply 1 fun x => { x with hven := true })
    (fun t => !t.pair.holder && !t.pair.reinsOut && (t.supply 1).hven) = true ∧
    after (.leaseHwExpiry 7999) (held ready) (fun t => t.pair.holder) = true := by decide +kernel
theorem test_lease : holder (standby ready) = false ∧ after (.lease 5) (standby ready)
    (fun t => t.pair.partnerLease == some 8005 && t.pair.seenLease) = true := by decide +kernel
/-- A standby that may take the reins, the partner's lease over and REINS_PEER low. -/
def heir : State := (standby ready).modPair fun x => { x with state := .paired, seenLease := true, partnerLease := some 0, aligned := true }
theorem test_release : mayHold heir = true ∧ peerLow (heir.later 500) = true ∧ after (.release 500) heir
    (fun t => t.pair.holder && t.pair.reinsOut && t.dv 0x8010 0 == 1) = true := by decide +kernel
theorem test_releaseHigh : after (.release 500) (heir.modPair fun x => { x with peer := true })
    (fun t => !t.pair.holder && t.pair.byRelease) = true := by decide +kernel
theorem test_leaseOver : leaseOver (heir.later 500) = true ∧ after (.partnerLeaseExpiry 500) heir (fun t => t.pair.holder) = true ∧
    after (.reinsPeerLowHeld 500) heir (fun t => t.pair.holder) = true ∧
    leaseOver ((heir.modPair fun x => { x with partnerLease := some 9000 }).later 5) = false := by decide +kernel
theorem test_reinsPeerChange : after (.reinsPeerChange 5 true) (held ready)
    (fun t => t.pair.peer && t.pair.peerSince == 5) = true := by decide +kernel
/-- Start-up in pair mode without a partner. -/
def starting (b : Bool) : State :=
  { (standby cfg).modPair (fun x => { x with state := .noPartner }) with pins := { Pins.reset with pairId := b } }
theorem test_startup : startReady ((starting true).later 100000000) = true ∧ (starting true).pair.recheckAt = none ∧
    after (.startupReinsWait 100000000) (starting true) (fun t => t.pair.recheckAt == some 100050000 && !t.pair.holder) = true ∧
    after (.startupReinsWait 100000000) (starting false) (fun t => t.pair.holder) = true ∧
    after (.startupReinsWait 99999999) (starting false) (fun t => !t.pair.holder) = true := by decide +kernel
theorem test_unitBRecheck : after (.unitBRecheck 100050000) ((starting true).modPair fun x => { x with recheckAt := some 100050000 })
    (fun t => t.pair.holder && t.pair.recheckAt.isNone) = true := by decide +kernel
theorem test_reinsConflict : after (.reinsConflict 500) { (held ready).modPair (fun x => { x with bothSince := some 0, peer := true }) with
    pins := { Pins.reset with pairId := true } } (fun t => !t.pair.holder && t.dv 0x8014 0 == 1) = true := by decide +kernel

/-- A standby with the columns of bar 0. -/
def pupil : State := standby (withBar ready)
theorem test_commitRecord : holder pupil = false ∧ waitingEnds pupil = [] ∧ (pupil.bar 0).gen = none ∧ blockBusy pupil 0 = false := by decide +kernel
def gen0 : PendGen := { page := 9, screening := false, headKeys := [], headWait := [3, 4], dev := [], idle := false }
def pupilGen : State := pupil.modBar 0 fun x => { x with gen := some gen0, mismatchFrom := some 9 }
theorem test_genCopyDone : (pupilGen.bar 0).gen = some gen0 ∧ after (.genCopyDone 5 0 []) pupilGen
    (fun t => (t.bar 0).mismatchFrom.isNone) = true := by decide +kernel
theorem test_flipRecord : pupil.trig.line < 50 ∧ ((notStarted (withPage page1 pupil) 0).find?
      (fun p => p.num == 1 && p.flip.isNone)).map (fun p => p.num) = some 1 ∧
    after (.flipRecord 5 0 1 50 none) (withPage page1 pupil) (fun t => (t.page? 0 1).bind (fun p => p.flip) == some 50) = true ∧
    pupil.page? 0 1 = none ∧ after (.flipRecord 5 0 1 50 none) pupil (fun t => (t.bar 0).scan.ahead == [(1, 50, none)]) = true := by
  decide +kernel
theorem test_bandRecord : after (.bandRecord 5 0 3 ⟨50, true, false⟩) pupil (fun t => (t.bar 0).scan.bandChange.map (fun c =>
      (c.band, c.line, c.stop, c.held)) == [(3, 50, true, false)] && (t.bar 0).scan.band == 0) = true ∧
    after (.bandRecord 5 0 3 ⟨0, false, false⟩) pupil (fun t => (t.bar 0).scan.band == 3 && (t.bar 0).scan.bandChange.isEmpty) = true ∧
    0 ∈ headPorts (narrow (lane .run)) ∧ governor (narrow (lane .run)) 0 = some 0 ∧ ((narrow (lane .run)).port 0).st = .run := by
  decide +kernel
theorem test_ackRecord : after (.ackRecord 5 0 3) pupilGen (fun t => (t.bar 0).gen.map (fun g => g.headWait) == some [4]) = true := by
  decide +kernel
theorem test_mirrorRecord : after (.mirrorRecord 5 (.supply 2 true false)) pupil (fun t => (t.supply 2).mirrorEn && !(t.supply 2).mirrorLatch) = true := by
  decide +kernel
theorem test_xchkRecord : after (.xchkRecord 5 40 7 7) (pupil.modTrig fun x => { x with en := true })
      (fun t => t.trig.line == 40 && t.pair.aligned) = true ∧
    after (.xchkRecord 5 40 7 7) pupil (fun t => t.trig.line == 0 && t.pair.recordAt == 5) = true := by decide +kernel
theorem test_forwardRecord : after (.forwardRecord 5 (some 0) 0x1202 0 2) ((held (withBar press)).modBar 0 fun x => { x with vb := .armed })
    (fun t => (t.bar 0).vb == .printing) = true := by decide +kernel
/-- The holder with strip 1 and a camera that is on. -/
def measuring : State := (held ({ (narrow camSeen) with power := camSeen.power })).modScan 0 fun c => { c with strips := [strip1] }
theorem test_measRecord : (recordStrip measuring 0 0) = some strip1 ∧ 2 ∈ stripPorts measuring strip1 ∧
    stripAt measuring 0 strip1.first = some strip1 ∧ ownEnded measuring strip1 = false ∧
    after (.measRecord 5 0 0 [⟨3, 8, -1, 2, false⟩]) measuring (fun t => (t.bar 0).scan.strips.any (fun y =>
      (y.got.get? 3).map (fun m => (m.integral, m.e, m.n, m.own)) == some (8, -1, 2, false))) = true := by decide +kernel

theorem test_helloRecord : after (.helloRecord 5 7 8 9 false) (standby ready) (fun t => t.pair.state == .diverged && t.dv 0x8006 0 == 7 &&
    t.dv 0x8006 1 == 8 && t.dv 0x8007 1 == 9) = true := by decide +kernel
theorem test_helloTimeout : (standby ready).pair.helloAt = none ∧ after (.helloTimeout 5) (standby ready)
    (fun t => t.pair.state == .noPartner) = true := by decide +kernel
theorem test_pairLinkDown : lanesUp (standby ready) = 0 ∧ after (.pairLinkDown 5) (standby ready)
    (fun t => !t.pair.linkUp && t.pair.state == .isolated) = true := by decide +kernel
theorem test_pairLinkUp : pairLane ready 0 ≠ 3 ∧ after (.pairLinkUp 5) ((standby ready).modPair fun x => { x with linkUp := false })
    (fun t => t.pair.linkUp && t.pair.recordAt == 5 && (List.range 4).all (fun n => pairLane t n == 2)) = true := by decide +kernel
theorem test_pairLaneFault : after (.pairLaneFault 5 1) (standby ready) (fun t => pairLane t 1 == 1 && t.dv 0x8005 0 == 1) = true := by
  decide +kernel
theorem test_presence : after (.partnerPresenceCheck 1000000) (standby (narrow (lane .run))) (fun t => t.pair.partnerSeen) = true := by
  decide +kernel
theorem test_joinSnapshot : devOf 2 = ready.devState ∧ after (.joinSnapshot 5 ⟨2, []⟩ []) ((standby ready).modPair fun x => { x with state := .joining })
    (fun t => t.pair.state == .joining && t.pair.joinStep == 2) = true := by decide +kernel
theorem test_handover : Written (held ready) .firmware 0x8003 0 1 none 0 1 ∧ (held ready).pair.state = .paired ∧
    after (.pairCmdHandover 5 .firmware) (held ready) (fun t => !t.pair.holder && t.pair.released == some 2) = true ∧
    (doorWrite .firmware 0x8003 0 1 pairCmdEffect (standby ready)).1 = stState ∧ (standby ready).pair.state ≠ .paired :=
  ⟨written_of_seen (by decide +kernel), by decide +kernel⟩
theorem test_handoverRefused : Written (standby ready) .firmware 0x8003 0 1 none 0 1 := written_of_seen (by decide +kernel)
theorem test_resync : Written (standby ready) .firmware 0x8003 0 2 none 0 2 ∧
    after (.pairCmdResync 5 .firmware) (standby ready) (fun t => t.pair.state == .joining && t.pair.joinStep == 1) = true :=
  ⟨written_of_seen (by decide +kernel), by decide +kernel⟩

/-! ### Network and time (12_network_time.md) -/

/-- Ports 0 and 1 are up at 1 Gbit/s; address 9 lies behind port 1. -/
def wired : State := (((ready.setDv 0x8112 0 1).setDv 0x8113 0 1).setDv 0x8113 1 1).modNet fun n => { n with macs := [(9, { port := 1, at_ := 0 })] }
def ethF : EthFrame :=
  { dst := 9, src := 6, len := 64, tags := 0, pcp := 0, fcsOk := true, moaBad := false, ptp := none, correction := 0, udp := none }
theorem test_ethFrameRx : ethUp wired 0 = true ∧ ethGood ethF = true ∧ macGroup 6 = false ∧ macGroup 9 = false ∧
    wired.net.macs.get? 9 = some { port := 1, at_ := 0 } ∧ ethUp wired 1 = true ∧ ethHigh ethF = false ∧
    after (.ethFrameRx 5 0 ethF) wired (fun t => t.net.macs.get? 6 == some { port := 0, at_ := 5 } &&
      t.net.queues.get? 2 == some [{ f := ethF, inPort := 0, inAt := ingressAt (wired.later 5) 0 }]) = true ∧
    after (.ethFrameRx 5 0 { ethF with fcsOk := false }) wired (fun t => t.dv 0x8115 0 == 1 && t.net.queues.isEmpty) = true := by decide +kernel
def egress (hi : Bool) : State := wired.modNet fun n => { n with queues := [(2 + b2n hi, [{ f := ethF, inPort := 0, inAt := 5 }])] }
theorem test_ethEgress : after (.ethFrameEgress 5 1) (egress true) (fun t => t.out == [.eth 1 ethF]) = true ∧
    after (.ethFrameEgress 5 1) (egress false) (fun t => t.out == [.eth 1 ethF]) = true := by decide +kernel
theorem test_macAge : after (.macAgeExpiry (wired.dv 0x8117 0 * Config.second) 9) wired (fun t => t.net.macs.isEmpty) = true := by
  decide +kernel
theorem test_ethLink : linkAllowed wired 0 true = true ∧ linkAllowed wired 1 true = false ∧
    after (.ethLink 5 0 false false) wired (fun t => t.dv 0x8113 0 == 0) = true := by decide +kernel

/-- TIME follows PTP; its master is clock 7 on port 0. -/
def slave : State := (wired.setDv 0x8102 0 1).modNet fun n => { n with master := some (0, 7), sync := some (100, 200), reqAt := some 300 }
def ann : Announce :=
  { domain := 0, priority1 := 1, clockClass := 6, accuracy := 0, variance := 0, priority2 := 0, identity := 7, steps := 0, ptpTimescale := true, logInterval := 0
    source := 7, sourcePort := 1 }
/-- The same without a master, before and after the first Announce of clock 7. -/
def lone : State := slave.modNet fun n => { n with master := none, holdover := true }
def loneHeard : State := lone.modNet fun n => { n with announces := [(announceKey 0 ann, { dataset := ann, times := [0] })] }
theorem test_announce : ptpOn lone = true ∧ lone.dv 0x8104 0 = 0 ∧ 0 < announceGap ann ∧ lone.net.announces = [] ∧
    after (.ptpAnnounce 5 0 ann) lone (fun t => t.net.master.isNone && t.net.announces.length == 1) = true ∧
    after (.ptpAnnounce 5 0 ann) loneHeard (fun t => t.net.master == some (0, 7) && !t.net.holdover) = true := by decide +kernel
theorem test_ptpSync : arrivalTime (slave.later 5000) 0 = 5000 ∧ slave.net.master = some (0, 7) ∧ slave.dv 0x8105 1 = 0 ∧
    slave.dv 0x8106 0 < 10 ^ 12 - 5000 ∧
    after (.ptpSync 5000 0 7 (10 ^ 12) 0) slave (fun t => t.dv 0x8103 1 == 1 && t.clock.base == 5000 && t.clock.offset == 10 ^ 12) = true := by
  decide +kernel
theorem test_ptpDelayResp : after (.ptpDelayResp 5 0 7 500 0 1) slave
    (fun t => t.dv 0x8105 1 == 150 && t.net.reqAt.isNone && decide (t.net.reqInterval = 1)) = true := by decide +kernel
theorem test_ptpDelayReqSend : after (.ptpDelayReqSend 5) slave (fun t => t.out == [.delayReq 0] && t.net.reqSentAt == some 5) = true := by
  decide +kernel
theorem test_announceTimeout : slave.net.announces = [] ∧ after (.announceTimeout 5) slave
    (fun t => t.net.master.isNone && t.net.holdover) = true := by decide +kernel
theorem test_rebaseTick : after (.rebaseTick (2 ^ 30)) ready (fun t => t.clock.base == 2 ^ 30) = true ∧
    after (.rebaseTick (2 ^ 30 - 1)) ready (fun t => t.clock.base == 0) = true := by decide +kernel
/-- TIME_SRC is 0. -/
def hostClock : State := ready.setDv 0x8102 0 0
theorem test_timeSet : Written hostClock .firmware 0x8101 2 1000 none 2 1000 ∧ ptpOn hostClock = false ∧
    after (.timeSet 5 .firmware 1000) hostClock (fun t => t.time == 1000 && t.dv 0x8103 1 == 1) = true :=
  ⟨written_of_seen (by decide +kernel), by decide +kernel⟩
theorem test_timeSetPtp : Written slave .firmware 0x8101 2 1000 none 2 1000 ∧ ptpOn slave = true ∧
    (doorWrite .firmware 0x8101 2 1000 timeSetEffect slave).1 = stState := ⟨written_of_seen (by decide +kernel), by decide +kernel⟩
theorem test_timeStep : Written hostClock .firmware 0x8101 3 (-3) none 3 (-3) ∧
    after (.timeStepWrite 5 .firmware (-3)) hostClock (fun t => t.time == 2) = true ∧
    after (.timeStepWrite 0 .firmware (-3)) hostClock (fun t => t.time == 2 ^ 64 - 3) = true :=
  ⟨written_of_seen (by decide +kernel), by decide +kernel⟩
theorem test_rateAdj : Written hostClock .firmware 0x8101 4 1000 none 4 1000 ∧
    after (.rateAdjWrite 5 .firmware 1000) hostClock (fun t => decide (t.clock.rate = 1000) && t.time == 5) = true :=
  ⟨written_of_seen (by decide +kernel), by decide +kernel⟩
theorem test_timeSrc : Written slave .firmware 0x8102 0 0 none 0 0 ∧
    after (.timeSrcWrite 5 .firmware 0) slave (fun t => t.dv 0x8102 0 == 0 && t.net.master.isNone) = true :=
  ⟨written_of_seen (by decide +kernel), by decide +kernel⟩

/-! ### Threads (13_control_cores.md) -/

/-- Core 0 runs thread `th`, core 1 thread 5; threads 7 and 450 wait for flag 1; thread 0 holds flow 3, for which 6 waits. -/
def onCores (th : Nat) : State :=
  let me : Thread := { Thread.reset with st := .running, held := [3], flags := 6 }
  let ws : Thread := { Thread.reset with st := .waiting, mask := 2 }
  let ts : Map Thread := Map.set [(5, { Thread.reset with st := .running })] 6 { Thread.reset with st := .flowWait, flow := 3 }
  let ts : Map Thread := Map.set (Map.set ts 7 ws) 450 ws
  let ts : Map Thread := Map.set ts th me
  { ready with
    sched := { Sched.reset with
      threads := ts
      flows := [(3, { holder := some th, queue := [6], abandoned := false }), (4, { holder := some 5, queue := [], abandoned := false })]
      cores := [(0, { CoreSt.reset with thread := some th }), (1, { CoreSt.reset with thread := some 5 })] } }
def t0 : State := onCores 0
theorem t0_runs : Runs t0 0 0 := runs_of (by decide +kernel)
theorem t0_other : Other t0 0 := other_of 5 (by decide +kernel)
def e0 : State := onCores 451
theorem e0_runs : Runs e0 0 451 := runs_of (by decide +kernel)

theorem test_schWait : (2 : Slot).bits 31 0 = 2 ∧ waitMet (t0.thread 0).flags 2 false = true ∧
    after (.schWait 5 0 2) t0 (fun t => (t.thread 0).woke == 2 && (t.thread 0).flags == 4 && (t.thread 0).st == .running) = true ∧
    after (.schWait 5 0 0) t0 (fun t => (t.thread 0).woke == 0 && (t.thread 0).flags == 6) = true ∧
    waitMet (t0.thread 0).flags 8 false = false ∧
    after (.schWait 5 0 8) t0 (fun t => (t.thread 0).st == .waiting && (t.thread 0).mask == 8 && decide ((t.core 0).thread ≠ some 0)) = true := by
  decide +kernel
theorem test_schPost : (0x50001 : Slot).bits 24 16 = 5 ∧ (0x50001 : Slot).bits 4 0 = 1 ∧ (t0.thread 5).st = .running ∧
    after (.schPost 5 0 0x50001) t0 (fun t => (t.thread 5).flags == 2) = true ∧
    waitMet ((t0.thread 7).flags ||| 2) (t0.thread 7).mask (t0.thread 7).andMode = true ∧
    after (.schPost 5 0 0x70001) t0 (fun t => (t.thread 7).woke == 2 && (t.thread 7).flags == 0 && (t.thread 7).st != .waiting) = true := by
  decide +kernel
theorem test_schTimer : after (.schTimer 5 0 9) t0 (fun t => (t.thread 0).timer == some 9005) = true ∧
    after (.schTimer 5 0 0) (t0.modThread 0 fun x => { x with timer := some 3 }) (fun t => (t.thread 0).timer.isNone) = true := by decide +kernel
theorem test_schTimerExpiry : after (.schTimerExpiry 5 0) (t0.modThread 0 fun x => { x with timer := some 5 })
      (fun t => (t.thread 0).timer.isNone && (t.thread 0).flags == 2 ^ 30 + 6) = true ∧
    after (.schTimerExpiry 4 0) (t0.modThread 0 fun x => { x with timer := some 5 }) (fun t => (t.thread 0).timer == some 5) = true := by
  decide +kernel
theorem test_schYield : after (.schYield 5 0) t0 (fun t => (t.thread 0).ready == 0 && t.sched.readySeq == 1) = true := by decide +kernel
theorem test_schFlagsClear : after (.schFlagsClear 5 0 2) t0 (fun t => (t.thread 0).flags == 4) = true := by decide +kernel

theorem test_failed : (0x5001F : Slot).bits 4 0 = 31 ∧ after (.schPost 5 0 0x5001F) t0 (fun t => (t.thread 0).status == 6) = true ∧
    flowEnterStatus (t0.thread 0).held 3 ≠ 0 ∧
    after (.schFlowEnter 5 0 3) t0 (fun t => (t.thread 0).status == flowEnterStatus [3] 3) = true ∧
    (t0.flow 4).holder ≠ some 0 ∧ after (.schFlowExit 5 0 4) t0 (fun t => (t.thread 0).status == 4) = true ∧
    (t0.thread 7).st ≠ .free ∧ after (.schSpawn 5 0 7) t0 (fun t => (t.thread 0).status == 1) = true ∧
    (t0.thread 9).st = .free ∧ after (.schKill 5 0 9) t0 (fun t => (t.thread 0).status == 1) = true ∧
    after (.schKill 5 0 1) t0 (fun t => (t.thread 0).status == 1) = true := by decide +kernel
theorem test_extPost : after (.schPost 5 0 0x70001) e0 (fun t => t.dv 0x9005 1 == 1 && (t.thread 7).st == .waiting) = true ∧
    (0x1C20001 : Slot).bits 24 16 = 450 ∧
    after (.schPost 5 0 0x1C20001) e0 (fun t => (t.thread 450).st != .waiting) = true := by decide +kernel

theorem test_flowEnter : (t0.flow 9).holder = none ∧ flowEnterStatus (t0.thread 0).held 9 = 0 ∧
    after (.schFlowEnter 5 0 9) t0 (fun t => (t.flow 9).holder == some 0 && (t.thread 0).held == [3, 9]) = true ∧
    (t0.flow 4).holder = some 5 ∧ flowEnterStatus (t0.thread 0).held 4 = 0 ∧
    after (.schFlowEnter 5 0 4) t0 (fun t => (t.flow 4).queue == [0] && (t.thread 0).st == .flowWait) = true := by decide +kernel
theorem test_flowExit : (t0.flow 3).holder = some 0 ∧ (t0.flow 3).queue = [6] ∧
    after (.schFlowExit 5 0 3) t0 (fun t => (t.flow 3).holder == some 6 && (t.thread 6).held == [3] && (t.thread 0).held.isEmpty) = true ∧
    after (.schFlowExit 5 0 3) (t0.modFlow 3 fun x => { x with queue := [] }) (fun t => (t.flow 3).holder.isNone) = true := by decide +kernel
/-- Thread 9: group 5, cluster 1, no pre-emption, WAKE_MODE 2, entry 4 * 16. -/
def spawnVal : Slot := 0x10AE09
theorem test_spawn : spawnVal.bits 8 0 = 9 ∧ (t0.thread 9).st = .free ∧
    after (.schSpawn 5 0 spawnVal) t0 (fun t => (t.thread 9).group == 5 && (t.thread 9).entry == 64 && (t.thread 9).noPreempt &&
      (t.thread 9).cluster == 1 && (t.thread 9).wake == 2) = true := by decide +kernel
theorem test_exit : after (.schExit 5 0) t0 (fun t => (t.thread 0).st == .free && (t.flow 3).holder == some 6) = true ∧
    after (.schExit 5 0) e0 (fun t => (t.thread 451).st == .faulted && t.dv 0x9043 3 == 2 * 2 ^ 24 + 3) = true := by decide +kernel
theorem test_wakeMode : (1 : Slot).bits 1 0 = 1 ∧ after (.schWakeMode 5 0 1) t0 (fun t => (t.thread 0).wake == 1) = true := by decide +kernel
theorem test_kill : after (.schKill 5 0 7) t0 (fun t => (t.thread 7).st == .free) = true ∧
    after (.schKill 5 0 450) t0 (fun t => (t.thread 450).st == .faulted && t.dv 0x9043 2 == 4 * 2 ^ 24 + 3) = true := by decide +kernel
/-- Extension 2 runs. -/
def ext2 : State := t0.setDv 0x9043 2 2
theorem test_extFault : extRunning ext2 2 = true ∧ Map.wf ext2.sched.threads = true ∧ extMay ext2 2 .load 64 = false ∧
    after (.extFault 5 2 1 ⟨.load, 64⟩) ext2 (fun t => (t.thread 450).st == .faulted && t.dv 0x9043 2 == 2 ^ 24 + 3) = true := by decide +kernel
/-- The same with an image of 8 bytes, entered at the foot of the SYSTEM region. -/
def ext2img : State := (ext2.setDw 0x9040 2 (List.replicate 8 0)).modThread 450 fun x => { x with entry := 0x100000000 }
theorem test_extAllowed : extMay ext2img 2 .load 0x100000004 = true ∧ extMay ext2img 2 .store 0x100000004 = false ∧
    after (.extFault 5 2 1 ⟨.load, 0x100000004⟩) ext2img (fun t => t.dv 0x9043 2 == 2) = true := by decide +kernel

/-- Thread 8 is READY in cluster 0, and the quantum of core 0 ends. -/
def contended : State := t0.modThread 8 fun x => { x with st := .ready }
/-- The same with every window of core 0 taken. -/
def crowded : State :=
  (List.range 64).foldl (fun s k => s.modThread (100 + k) fun x => { x with st := .waiting, mask := 1, window := some 0 })
    (contended.modCore 0 fun x => { x with reserved := some 8 })
theorem test_quantum : quantumDue (contended.later (t0.dv 0x9002 0)) 0 = true ∧ 0 < freeWindows contended 0 ∧
    after (.quantumExpiry (t0.dv 0x9002 0) 0) contended (fun t => (t.thread 0).ready == 0 && t.sched.readySeq == 1) = true ∧
    quantumDue (t0.later 5) 0 = false := by decide +kernel
theorem crowded_runs : Runs crowded 0 0 := runs_of (by decide +kernel)
theorem test_quantumDeferred : quantumDue (crowded.later (t0.dv 0x9002 0)) 0 = true ∧ freeWindows crowded 0 = 0 ∧
    (crowded.core 0).reserved = some 8 ∧
    after (.quantumExpiry (t0.dv 0x9002 0) 0) crowded (fun t => (t.core 0).deferred && t.dv 0x9004 0 == 1) = true := by decide +kernel
theorem test_spill : freeWindows crowded 0 < crowded.dv 0x9006 0 ∧ spillVictim crowded 0 = some 100 ∧
    after (.windowSpill 5 0) crowded (fun t => (t.thread 100).window.isNone) = true ∧ t0.dv 0x9006 0 ≤ freeWindows t0 0 := by decide +kernel
def asleep : State := { ready with sched := { Sched.reset with
  threads := [(0, { Thread.reset with st := .waiting, mask := 2 ^ 31 })], allWaitAt := some 0 } }
theorem test_deadlock : deadlockDue asleep = false ∧
    after (.deadlock (1000 * asleep.dv 0x9003 0)) asleep (fun t => t.dv 0x9005 0 == 1 && (t.thread 0).st != .waiting) = true := by
  decide +kernel
theorem test_coreFault : coreOn t0 1 = true ∧ (t0.health.getD (chanKey 7 1) Health.reset).hist = [] ∧
    after (.coreFault 5 1) t0 (fun t => coreOn t 1) = true ∧ retiredCount (thrice 7 1 t0) 7 < 2 ∧
    after (.coreFault 5 1) (thrice 7 1 t0) (fun t => !coreOn t 1 && isRetired t 7 1) = true := by decide +kernel

theorem test_threadPost : Written t0 .firmware 0x9011 0 0x50001 none 0 0x50001 ∧
    after (.threadPost 5 .firmware 0x50001) t0 (fun t => (t.thread 5).flags == 2) = true ∧
    (doorWrite .firmware 0x9011 0 0x5001F threadPostEffect t0).1 = stRange :=
  ⟨written_of_seen (by decide +kernel), by decide +kernel⟩
theorem t0_other512 : Other t0 512 := other_of 5 (by decide +kernel)
theorem test_threadPost31 : Written t0 .firmware 0x9011 0 0x5001F none 0 0x5001F := written_of_seen (by decide +kernel)
theorem test_threadKill : Written ext2 .firmware 0x9012 0 450 none 0 450 ∧ Written ext2 .firmware 0x9012 0 447 none 0 447 ∧
    after (.threadKill 5 .firmware 450) ext2 (fun t => (t.thread 450).st == .faulted && t.dv 0x9043 2 == 4 * 2 ^ 24 + 3) = true ∧
    (doorWrite .firmware 0x9012 0 447 threadKillEffect ext2).1 = stRange :=
  ⟨written_of_seen (by decide +kernel), written_of_seen (by decide +kernel), by decide +kernel⟩
/-- Extension 4 has an image; its EXT_CFG gives group 3, cluster 1, wake mode 2. -/
def ext4 : State := (t0.setDw 0x9040 4 [1, 2, 3]).setDv 0x9041 4 0x60003
theorem test_extStart : Written ext4 .firmware 0x9042 4 1 none 4 1 ∧ ((ext4.dwide 0x9040 4).getD []).length = 3 ∧
    (ext4.thread 452).st = .free ∧ extRunning ext4 4 = false ∧
    after (.extCmdStart 5 .firmware 4) ext4 (fun t => t.dv 0x9043 4 == 2 && (t.thread 452).group == 3 && (t.thread 452).cluster == 1 &&
      (t.thread 452).wake == 2) = true := ⟨written_of_seen (by decide +kernel), by decide +kernel⟩
theorem test_extStartEmpty : Written t0 .firmware 0x9042 4 1 none 4 1 ∧ (t0.dwide 0x9040 4).getD [] = [] ∧
    (doorWrite .firmware 0x9042 4 1 extCmdEffect t0).1 = stState := ⟨written_of_seen (by decide +kernel), by decide +kernel⟩
theorem test_extStop : Written ext2 .firmware 0x9042 2 2 none 2 2 ∧
    after (.extCmdStop 5 .firmware 2) ext2 (fun t => (t.thread 450).st == .faulted) = true := ⟨written_of_seen (by decide +kernel), by decide +kernel⟩
/-! ### Boot (13_control_cores.md) -/

/-- The first 184 bytes of a signed image of 4 bytes, version 0, key 0, at 0x1_0000_0000; key and signature were made outside
the model, from FIPS 186-4. -/
def imgHead : List Byte :=
  leBytes 4 0x49464751 ++ leBytes 4 1 ++ leBytes 4 4 ++ leBytes 12 0 ++ leBytes 8 0x100000000 ++ leBytes 8 0x100000000 ++
  beBytes 48 0xad3d82636dcfc976fb33c00104245d203af0ed339e4083c35ab9c6628e3ab6e45a346d1aaa1d7dba6c8281f9e326cba2 ++
  beBytes 48 0x77a41d4606ffa1464793c7e5fdc7d98cb9d3910202dcd06bea4f240d3566da6b408bbae5026580d02d7e5c70500c831 ++
  beBytes 48 0xc995f7ca0b0c42837d0bbe9602a9fc998520b41c85115aa5f7684c0edc111eacc24abd6be4b5d298b65f28600a2f1df1

/-- The signed image. -/
def image : List Byte :=
  imgHead ++ beBytes 48 0x11de24a2c251c777573cac5ea025e467f208e51dbff98fc54f6661cbe56583b037882f4a1ca297e60abcdbc3836d84bc ++
  beBytes 48 0x340d8fde561d2ba36a0bea471f2e8f2cdd46374bb55a787c27d83402f4916262a01eca191847bc5e91a7ca4586a5cd31 ++
  List.replicate 232 0 ++ [0x13, 0, 0, 0]

theorem image_head : image.length = 516 ∧ image.take 184 = imgHead ∧ imgMagic image = true ∧ imgFits image = true ∧
    sha384 (imgBytes image 512 (imgLen image)) = imgBytes image 40 48 := by decide +kernel
theorem image_signed : imgSigned image = true := by decide +kernel

/-- In internal reset with power, clocks, and reset released. -/
def poweredUp : State := { State.reset with
  power := { Power.reset with railPhase := 3 }
  pins := { Pins.reset with pwrgood := true, rstN := true } }
theorem test_bootStart : bootReady (poweredUp.later 5) = true ∧ poweredUp.pins.testEn = false ∧ bootReady (State.reset.later 5) = false ∧
    after (.bootStart 5) poweredUp (fun t => t.devState == .boot && t.boot.sources == bootOrder 0) = true := by decide +kernel
/-- BOOT with these sources to try, in a phase, the fused counter at 0. -/
def booting (phase : Nat) (src : List Nat) : State :=
  { State.reset with devState := .boot, boot := { Boot.reset with phase := phase, sources := src, rollback := some 0 } }
theorem image_code (src : List Nat) (h1 : Config.keyProgrammed 0 = true) (h2 : Config.keyRevoked 0 = false)
    (h3 : Config.keyFuse 0 = sha384 (imgPub image)) : imgCode (booting 2 src) image = 0 := by
  have hk : imgKey image = 0 := by decide +kernel
  have hs : ¬ ((List.range 8).filter (fun k => ((booting 2 src).sch k).state != 4)).length < 4 := by
    show ¬ ((List.range 8).filter (fun k => (State.reset.sch k).state != 4)).length < 4
    decide +kernel
  have hr : rollbackFuse (booting 2 src) = 0 := rfl
  have hv : ¬ (imgField image 16 2 < 0) := by omega
  have ho : imgKeyOk image = true := by simp [imgKeyOk, hk, h1, h3]
  unfold imgCode
  rw [if_neg hs, hr, hk, h2, ho, image_signed, image_head.2.2.1, image_head.2.2.2.1, if_neg hv, if_neg (by simp), if_neg (by simp),
    if_neg (by simp), if_neg (by simp), if_neg (by simp), if_neg (by simp [image_head.2.2.2.2])]
theorem test_bootSource : imgCode (booting 2 [0, 1]) [] ≠ 0 ∧
    after (.bootSourceDone 5 true []) (booting 2 [0, 1]) (fun t => t.boot.sources == [1] && t.boot.slotA == 1 && t.devState == .boot) = true ∧
    after (.bootSourceDone 5 false []) (booting 2 [0, 2]) (fun t => t.boot.slotA == 8 && t.boot.sources == [2]) = true := by decide +kernel
theorem test_dlCtrlGo : after (.dlCtrlGo 5 2 [1, 2, 3]) (booting 3 [2]) (fun t => t.boot.phase == 4 && t.boot.dlImage == [1, 2]) = true := by
  decide +kernel
theorem test_dlFits : dlFits 516 = true ∧ image.length = 516 := by decide +kernel
theorem test_downloadCheck : imgCode (booting 4 [2]) (booting 4 [2]).boot.dlImage ≠ 0 ∧
    after (.downloadCheckDone 5) (booting 4 [2]) (fun t => t.boot.phase == 3 && t.boot.dlCode == 1) = true := by decide +kernel
/-- Self-test without a failure, and with every subchannel untrained. -/
def passed : SelfTest :=
  { geyserFail := 0, inflateFail := 0, deflateFail := 0, coreFail := 0, sramRemapped := [], aesFail := false, systemFail := false
    sramDeviceFail := false, ictMisr := [], trainFail := 0, subchMib := 4096 }
theorem test_selftestFails : after (.bootSelftestDone 5 { passed with systemFail := true }) (booting 5 [])
    (fun t => t.boot.phase == 0 && t.devState == .boot) = true := by decide +kernel
theorem test_selftestPasses : bootFails passed (selftestApply passed ((booting 5 []).later 5)) = false := by decide +kernel

/-! ### Motion (14_motion_io.md) -/

/-- Axis 2 is enabled, its position known. -/
def axes : State := (ready.setDv 0xA000 2 1).modAxis 2 fun x => { x with uncertain := false }
/-- The same, jogging forward at 5 steps/s. -/
def jogging : State := axes.modAxis 2 fun x => { x with mode := .jog, vel := 5 * velUnit }
theorem test_axMove : Written axes .firmware 0xA007 2 1 none 2 1 ∧ Written axes .firmware 0xA007 2 4 none 2 4 ∧ holder axes = true ∧
    axAllowed axes 2 1 = true ∧ axAllowed axes 2 4 = true ∧
    after (.axMoveAbs 5 .firmware 2) (axes.modAxis 2 fun x => { x with armed := some 3 }) (fun t => (t.axis 2).next == some 1 && (t.axis 2).armed.isNone) = true ∧
    after (.axMoveRel 5 .firmware 2) axes (fun t => (t.axis 2).next == some 2) = true ∧
    after (.axJogPos 5 .firmware 2) axes (fun t => (t.axis 2).next == some 3) = true ∧
    after (.axJogNeg 5 .firmware 2) axes (fun t => (t.axis 2).next == some 4) = true :=
  ⟨written_of_seen (by decide +kernel), written_of_seen (by decide +kernel), by decide +kernel⟩
theorem test_axHome : Written axes .firmware 0xA007 2 7 none 2 7 ∧ axAllowed axes 2 7 = true ∧
    after (.axHome 5 .firmware 2) axes (fun t => (t.axis 2).next == some 7) = true := ⟨written_of_seen (by decide +kernel), by decide +kernel⟩
theorem test_axStop : Written jogging .firmware 0xA007 2 5 none 2 5 ∧ Written jogging .firmware 0xA007 2 6 none 2 6 ∧
    axAllowed jogging 2 5 = true ∧ axAllowed jogging 2 6 = true ∧ (jogging.axis 2).moving = true ∧
    after (.axStopRamp 5 .firmware 2) jogging (fun t => (t.axis 2).mode == .stop && (t.axis 2).cause == 1) = true ∧
    after (.axStopHard 5 .firmware 2) (jogging.setDv 0xA005 2 4) (fun t => (t.axis 2).mode == .idle && (t.axis 2).uncertain) = true :=
  ⟨written_of_seen (by decide +kernel), written_of_seen (by decide +kernel), by decide +kernel⟩
theorem test_axSetPos : Written axes .firmware 0xA007 2 8 none 2 8 ∧ axAllowed axes 2 8 = true ∧
    after (.axSetPos 5 .firmware 2) (axes.setDvi 0xA006 2 (-7)) (fun t => decide ((t.axis 2).pos = -7 * stepUnit)) = true :=
  ⟨written_of_seen (by decide +kernel), by decide +kernel⟩
theorem test_axSetFromSsi : Written axes .firmware 0xA007 2 9 none 2 9 ∧ axAllowed axes 2 9 = true ∧
    after (.axSetFromSsi 5 .firmware 2) ((axes.setDv 0xA023 0 9).setDv 0xA025 2 65536) (fun t => decide ((t.axis 2).pos = 9 * stepUnit)) = true :=
  ⟨written_of_seen (by decide +kernel), by decide +kernel⟩
theorem test_axArm : Written axes .firmware 0xA007 2 0x83 none 2 0x83 ∧ Written axes .firmware 0xA007 2 0x8A none 2 0x8A ∧
    after (.axArm 5 .firmware 2 3) axes (fun t => (t.axis 2).armed == some 3) = true ∧
    (doorWrite .firmware 0xA007 2 0x8A axCommand axes).1 = stRange :=
  ⟨written_of_seen (by decide +kernel), written_of_seen (by decide +kernel), by decide +kernel⟩
def armed3 : State := axes.modAxis 2 fun x => { x with armed := some 3 }
theorem test_axStart : Written armed3 .firmware 0xA010 0 1 none 0 1 ∧
    after (.axStart 5 .firmware 1) armed3 (fun t => (t.axis 2).next == some 3 && (t.axis 2).armed.isNone) = true :=
  ⟨written_of_seen (by decide +kernel), by decide +kernel⟩
theorem test_axRefused : Written (standby axes) .firmware 0xA007 2 1 none 2 1 ∧ holder (standby axes) = false ∧
    (doorWrite .firmware 0xA007 2 1 axCommand (standby axes)).1 = stState ∧ axAllowed ready 2 1 = false ∧ holder ready = true ∧
    after (.axMoveAbs 5 .firmware 2) (standby axes) (fun t => t.dv 0x8014 1 == 1) = true := ⟨written_of_seen (by decide +kernel), by decide +kernel⟩

def waitingFor (c : Nat) : State := (axes.setDvi 0xA006 2 100).modAxis 2 fun x => { x with next := some c }
theorem test_profileJog : (∀ c < 4, ((waitingFor 3).cam c).search = none) ∧ limitRefuses (waitingFor 3) 2 3 = false ∧ (waitingFor 3).dv 0xA004 2 = 0 ∧
    after (.axProfileTick 1000) (waitingFor 3) (fun t => (t.axis 2).mode == .jog && (t.axis 2).next.isNone &&
      decide ((t.axis 2).vel = toward 0 ((axVmax ready 2 : Nat) * velUnit) (ready.dv 0xA002 2))) = true := by decide +kernel
theorem test_profileMove : limitRefuses (waitingFor 1) 2 1 = false ∧ after (.axProfileTick 1000) (waitingFor 1)
      (fun t => decide ((t.axis 2).target = 100 * stepUnit) && (t.axis 2).mode == .move) = true ∧
    limitRefuses (((waitingFor 3).setDv 0xA000 2 0x11).modAxis 2 fun x => { x with atP := true }) 2 3 = true ∧
    (ready.axis 5).next = none ∧ (ready.axis 5).mode = .idle := by decide +kernel
/-- Limits on both inputs, stops hard. -/
def limited : State := jogging.setDv 0xA000 2 0x31
theorem test_limit : axCfg limited 2 4 = true ∧ axCfg limited 2 8 = false ∧ (limited.axis 2).heading = 1 ∧
    after (.axLimitInput 5 2 true) limited (fun t => (t.axis 2).mode == .idle && (t.axis 2).atP) = true ∧
    axCfg jogging 2 4 = false := by decide +kernel
theorem test_homeEdge : axCfg (axes.setDv 0xA000 2 0x41) 2 6 = true ∧
    after (.axHomeEdge 5 2) (((axes.setDv 0xA000 2 0x41).setDvi 0xA00C 2 6).modAxis 2 fun x => { x with mode := .home })
      (fun t => (t.axis 2).mode == .homed && (t.axis 2).homed && decide ((t.axis 2).pos = 6 * stepUnit)) = true := by decide +kernel
theorem test_stepObserved : holder (standby axes) = false ∧
    after (.axStepObserved 5 2 false) (standby axes) (fun t => decide ((t.axis 2).pos = -stepUnit)) = true := by decide +kernel
/-- SSI port 0 is enabled, for axis 2; a read of it is under way after two invalid frames. -/
def ssi0 : State := (jogging.setDv 0xA020 0 0x51).setDv 0xA000 2 0x401
def ssiBusy : State := ssi0.modSsi 0 fun x => { x with busy := true, bad := 2 }
theorem test_ssiPeriod : bitN (ssi0.dv 0xA020 0) 6 = true ∧ ssiAxes ssi0 0 = [2] ∧
    after (.ssiPeriodTick 5 0) ssi0 (fun t => (t.ssi 0).busy) = true := by decide +kernel
theorem test_ssiFrame : bitN (ssiBusy.dv 0xA020 0) 5 = false ∧
    after (.ssiFrameDone 5 0 0xFFFFFFFF true true) (ssiBusy.modSsi 0 fun x => { x with bad := 3 })
      (fun t => t.dv 0xA023 0 == 2 ^ 25 - 1 && (t.ssi 0).bad == 0 && !(t.ssi 0).busy) = true ∧
    after (.ssiFrameDone 5 0 7 true false) ssiBusy (fun t => t.dv 0xA023 0 == 0 && t.dv 0xA024 0 == 1 && (t.ssi 0).bad == 3 &&
      (t.axis 2).ssiFault && (t.axis 2).mode == .stop && (t.axis 2).cause == 7) = true := by decide +kernel

/-- Compare output 1 with a pulse that ends at 50 and one waiting; its low time; in manual mode. -/
def pulsing : State := (ready.setDv 0xA101 1 40).modCmp 1 fun x => { x with until_ := some 50, waiting := 1 }
theorem test_cmpPulseEnd : after (.cmpPulseEnd 50 1) pulsing (fun t => (t.cmp 1).until_.isNone && (t.cmp 1).lowUntil == some 90) = true ∧
    after (.cmpPulseEnd 49 1) pulsing (fun t => (t.cmp 1).until_ == some 50) = true := by decide +kernel
theorem test_cmpLowEnd : after (.cmpLowTimeEnd 90 1) (pulsing.modCmp 1 fun x => { x with until_ := none, lowUntil := some 90 })
    (fun t => (t.cmp 1).until_ == some 130 && (t.cmp 1).waiting == 0 && t.dv 0xA106 1 == 1) = true := by decide +kernel
def manual : State := ready.setDv 0xA100 1 3
theorem test_cmpCmd : Written ready .firmware 0xA105 1 1 none 1 1 ∧ Written manual .firmware 0xA105 1 2 none 1 2 ∧ cmpMode manual 1 = 3 ∧
    holder manual = true ∧
    after (.cmpRestart 5 .firmware 1) (ready.modCmp 1 fun x => { x with index := 4 }) (fun t => (t.cmp 1).index == 0) = true ∧
    after (.cmpPulse 5 .firmware 1) (manual.setDv 0xA101 1 40) (fun t => (t.cmp 1).until_ == some 45 && t.dv 0xA106 1 == 1) = true ∧
    (doorWrite .firmware 0xA105 1 2 cmpCommand (standby manual)).1 = stState :=
  ⟨written_of_seen (by decide +kernel), written_of_seen (by decide +kernel), by decide +kernel⟩
theorem test_cmpPulseStandby : Written (standby manual) .firmware 0xA105 1 2 none 1 2 ∧ holder (standby manual) = false :=
  ⟨written_of_seen (by decide +kernel), by decide +kernel⟩
theorem test_cmpList : (whoIs ready .firmware).isSome = true ∧ opens ready .firmware 0xA102 1 16 = some (none, 1) ∧
    cmpListOk ready 1 (leBytes 8 1 ++ leBytes 8 2) = true ∧ cmpListOk ready 1 (leBytes 8 2 ++ leBytes 8 2) = false ∧
    after (.cmpListWrite 5 .firmware 1 (leBytes 8 1 ++ leBytes 8 2)) ready
      (fun t => t.dwide 0xA102 1 == some (leBytes 8 1 ++ leBytes 8 2)) = true ∧
    (blockWrite .firmware 0xA102 1 0 (leBytes 8 2 ++ leBytes 8 2) ready).1 = stRange := by decide +kernel

/-! ### Head supplies -/

/-- Supply 3 is fitted; its rise, if any, was at 0. -/
def fitted (st : SupplyState) : State :=
  (ready.setDv 0xA210 0 8).modSupply 3 fun x => { x with st := st, riseAt := some 0, hven := decide (st ≠ .off) }
theorem test_hvEnable : Written (fitted .off) .firmware 0xA200 3 1 none 3 1 ∧ hvFitted (fitted .off) 3 = true ∧ ((fitted .off).supply 3).st = .off ∧
    lastLaunched (fitted .off) 3 = none ∧
    after (.hvEnable 5 .firmware 3) (fitted .off) (fun t => (t.supply 3).hven && (t.supply 3).st == .dead && (t.supply 3).riseAt == some 5) = true ∧
    (doorWrite .firmware 0xA200 3 1 hvCommand (fitted .on)).1 = stState ∧ ((fitted .on).supply 3).st ≠ .off :=
  ⟨written_of_seen (by decide +kernel), by decide +kernel⟩
theorem test_hvEnableOn : Written (fitted .on) .firmware 0xA200 3 1 none 3 1 := written_of_seen (by decide +kernel)
theorem test_hvDisable : Written (fitted .on) .firmware 0xA200 3 2 none 3 2 ∧
    after (.hvDisable 5 .firmware 3) (fitted .on) (fun t => (t.supply 3).st == .off && !(t.supply 3).hven) = true :=
  ⟨written_of_seen (by decide +kernel), by decide +kernel⟩
theorem test_hvDeadEnd : after (.hvDeadEnd 20000 3) (fitted .dead) (fun t => (t.supply 3).st == .blank) = true ∧
    after (.hvDeadEnd 19999 3) (fitted .dead) (fun t => (t.supply 3).st == .dead) = true := by decide +kernel
theorem test_hvBlankEnd : after (.hvBlankEnd 200000 3) (fitted .blank) (fun t => (t.supply 3).st == .on) = true ∧
    after (.hvBlankEnd 200000 3) ((fitted .blank).modSupply 3 fun x => { x with inBlank := true, trip := true })
      (fun t => (t.supply 3).st == .tripped && t.dv 0xA204 3 == 1) = true := by decide +kernel
theorem test_trip : after (.tripAccepted 5 3) (fitted .on) (fun t => (t.supply 3).st == .tripped && !(t.supply 3).hven &&
      t.dv 0xA204 3 == 1 && t.lastTrip == some (3, 5)) = true ∧
    after (.tripAccepted 5 3) { fitted .dead with lastTrip := some (4, 0) } (fun t => t.devState == .safe) = true ∧
    after (.tripAccepted 5 3) (fitted .blank) (fun t => (t.supply 3).inBlank && (t.supply 3).st == .blank) = true := by decide +kernel
theorem test_tripEnd : after (.tripInputDeasserted 5 3) ((fitted .tripped).modSupply 3 fun x => { x with trip := true })
    (fun t => !(t.supply 3).trip && (t.supply 3).st == .tripped) = true := by decide +kernel
def shorted : State := (fitted .tripped).modSupply 3 fun x => { x with trip := true }
theorem test_tripClear : Written (fitted .tripped) .firmware 0xA200 3 3 none 3 3 ∧ ((fitted .tripped).supply 3).trip = false ∧
    after (.tripClear 5 .firmware 3) (fitted .tripped) (fun t => (t.supply 3).st == .off) = true :=
  ⟨written_of_seen (by decide +kernel), by decide +kernel⟩
theorem test_tripClearShorted : Written shorted .firmware 0xA200 3 3 none 3 3 ∧
    after (.tripClear 5 .firmware 3) shorted (fun t => (t.supply 3).st == .tripped && t.dv 0xA205 3 == 1) = true :=
  ⟨written_of_seen (by decide +kernel), by decide +kernel⟩
theorem test_tripClearOn : Written (fitted .on) .firmware 0xA200 3 3 none 3 3 ∧
    after (.tripClear 5 .firmware 3) (fitted .on) (fun t => (t.supply 3).st == .on && t.dv 0xA205 3 == 0) = true :=
  ⟨written_of_seen (by decide +kernel), by decide +kernel⟩

/-! ### Domains and rails (15_power_thermal_trim.md) -/

/-- Domains 4 (geysers 16 to 19) and 9 (an engine group) run; nothing needs them. -/
def running : State := { ready with power := { Power.reset with domains := [(4, 2), (9, 2)], idleSince := [(9, 0)] } }
theorem test_domainIdle : domainsLive running = true ∧ domainBusy running 4 = false ∧ domainBusy running 9 = false ∧
    after (.domainIdleTimeout 5 4) running (fun t => t.power.domains.getD 4 0 == 1) = true ∧
    after (.domainIdleTimeout (1000 * running.dv 0xB003 0) 9) running (fun t => t.power.domains.getD 9 0 == 1) = true ∧
    after (.domainIdleTimeout 5 9) running (fun t => t.power.domains.getD 9 0 == 2) = true ∧ domainBusy running 13 = true := by decide +kernel
theorem test_domainRun : domainOff running 5 = false ∧ running.power.domains.getD 5 0 = 0 ∧
    after (.domainRunReady 5 5) running (fun t => t.power.domains.getD 5 0 == 2) = true := by decide +kernel
theorem test_forceOff : Written running .firmware 0xB002 4 1 none 4 1 ∧ running.dv 0xB002 4 ≠ 1 ∧
    after (.forceOff 5 .firmware 4) running (fun t => t.dv 0xB002 4 == 1 && t.power.domains.getD 4 0 == 0 &&
      !bitN (t.dv 0x3010 0) 16 && bitN (t.dv 0x3010 0) 15) = true := ⟨written_of_seen (by decide +kernel), by decide +kernel⟩
theorem test_forceOffRefused : Written running .firmware 0xB002 12 1 none 12 1 ∧ Written press .firmware 0xB002 4 1 none 4 1 ∧
    (doorWrite .firmware 0xB002 12 1 domainCtrl running).1 = stRange ∧ (doorWrite .firmware 0xB002 4 1 domainCtrl press).1 = stState :=
  ⟨written_of_seen (by decide +kernel), written_of_seen (by decide +kernel), by decide +kernel⟩
def forced : State := running.setDv 0xB002 4 1
theorem test_domainAuto : Written forced .firmware 0xB002 4 0 none 4 0 ∧
    after (.domainAuto 5 .firmware 4) forced (fun t => t.dv 0xB002 4 == 0 && bitN (t.dv 0x3010 0) 16) = true :=
  ⟨written_of_seen (by decide +kernel), by decide +kernel⟩
/-- A rail table of VDD_CORE alone: AVS, order 0, 850 mV within 20 mV, 500 µs to rise, 100 µs after it. -/
def rails1 : List Byte :=
  [1, 1, 100, 0] ++ List.replicate 12 0 ++ [0, 64, 0, 0] ++ leBytes 2 850 ++ leBytes 2 20 ++ leBytes 2 500 ++ leBytes 2 100 ++ [1, 0, 0, 0]
theorem test_railTable : (whoIs cfg .firmware).isSome = true ∧ opens cfg .firmware 0xB020 0 32 = some (none, 0) ∧ rails1.length = 32 ∧
    railOk rails1 = true ∧ after (.railTableWrite 5 .firmware rails1) cfg (fun t => t.mram.railTable == rails1) = true := by decide +kernel
/-- The rails of that table in a phase of their sequence. -/
def railed (phase : Nat) : State := { ready with power := { Power.reset with railPhase := phase, table := rails1, railAt := [(0, 0)], vcore := 850 } }
theorem test_railGroup : after (.railGroupGood 5) (railed 1) (fun t => t.power.railPhase == 2 && t.power.railSince == 5) = true ∧
    groupDelay (railed 2) = 100 ∧ nextGroup (railed 2) 1 = none ∧
    after (.railDelayExpiry 100000) (railed 2) (fun t => t.power.railPhase == 3) = true := by decide +kernel
theorem test_railRamp : 0 ∈ railGroup (railed 1) (railed 1).power.railOrder ∧ (railed 1).power.railAt.get? 0 = some 0 ∧
    railField rails1 0 8 = 500 ∧
    after (.railRampTimeout 500000 0) (railed 1) (fun t => t.power.railTries.getD 0 0 == 1 && t.out.length == 4) = true ∧
    after (.railRampTimeout 500000 0) ((railed 1).modPower fun p => { p with railTries := [(0, 3)] })
      (fun t => t.power.railPhase == 4 && t.power.railFail) = true := by decide +kernel
def goodRead : RailRead := { entry := 0, ok := true, status := 0, voutMv := 870, tempC := 40, ioutMa := 0 }
theorem test_poll : 0 < railCount (railed 3).power.table ∧ railFaultBits goodRead.status.toNat = false ∧ railLevel (railed 3) 0 = 850 ∧
    after (.pmbusPoll 5 [goodRead]) (railed 3) (fun t => t.dv 0xB021 0 == 870 && t.power.railBad.getD 0 0 == 0) = true ∧
    after (.pmbusPoll 5 [{ goodRead with voutMv := 871 }]) (railed 3) (fun t => t.power.railBad.getD 0 0 == 1) = true ∧
    after (.smbalert 5 [{ goodRead with status := 0x8000 }]) (railed 3) (fun t => t.power.railFaultAt == some 5 && t.dv 0xC006 0 == 1) = true := by
  decide +kernel
theorem test_canary : after (.canarySample 5 [{ kind := 1, idx := 2, capacity := 77 }]) ready
    (fun t => t.power.caps.get? 18 == some 77 && t.power.enforced.isNone) = true := by decide +kernel
/-- AVS is to raise VDD_CORE. -/
def raising : State := (railed 3).modPower fun p => { p with enforced := some 5 }
theorem test_avsStep : avsEntries raising = [0] ∧ trimRunning raising 0x20 = false ∧ domainsLive raising = true ∧
    after (.avsStep 5) raising (fun t => t.power.vcore == 855 && t.dv 0xB011 0 == 1) = true ∧ avsEntries ready = [] := by decide +kernel

/-! ### Heat and trim -/

def warm : State := { ready with pins := { Pins.reset with pwrgood := true } }
theorem test_fumBad : (warm.fum 3).retired = false ∧ fumStale warm 3 = false ∧
    after (.fumSample 5 (List.replicate 16 2401) (List.replicate 16 0)) warm (fun t => t.dv 0xB10A 3 == 1) = true := by decide +kernel
theorem test_fumGood : (∀ n < 16, (warm.fum n).retired = false ∧ fumStale warm n = false ∧ (warm.fum n).prev = none) ∧
    after (.fumSample 5 (List.replicate 16 480) (List.replicate 16 0)) warm (fun t => decide (fumTemp t 7 = 480) && decide (t.dvi 0xB106 0 = 480)) = true := by
  decide +kernel
/-- Sensor 7 read 2000 sixteenths of a degree once. -/
def hotOnce : State := warm.modPower fun p => { p with fums := [(7, { Fum.reset with hotRuns := 1, prev := some 2000, last := some 2000 })] }
theorem test_fumHot : (∀ n < 16, (hotOnce.fum n).retired = false ∧ fumStale hotOnce n = false) ∧ (hotOnce.fum 7).prev = some 2000 ∧
    (∀ n < 16, n ≠ 7 → (hotOnce.fum n).prev = none) ∧ hotOnce.power.shutdown = false ∧ 1 ≤ (hotOnce.fum 7).hotRuns ∧
    after (.fumSample 5 (List.replicate 16 2000) (List.replicate 16 0)) hotOnce
      (fun t => t.devState == .halted && t.power.shutdown && !t.trig.en) = true := by decide +kernel
theorem test_regionSkew : after (.regionSkew 10000 2 5 true) (ready.modPower fun p => { p with skewSince := [(skewKey 2 5 true, 0)] })
    (fun t => t.power.skew && t.dv 0xB109 0 == 1) = true := by decide +kernel
theorem test_throttle : ready.dv 0xB104 0 = 0 ∧ ready.dv 0xB103 0 = 100 ∧ ready.dv 0xB103 1 = 3 ∧
    after (.throttleTick 5) (ready.setDvi 0xB106 0 1600) (fun t => t.dv 0xB104 0 == 1) = true ∧
    after (.throttleTick 5) ((ready.setDvi 0xB106 0 1551).setDv 0xB104 0 4) (fun t => t.dv 0xB104 0 == 3) = true ∧
    after (.throttleTick 5) ((ready.setDvi 0xB106 0 1552).setDv 0xB104 0 4) (fun t => t.dv 0xB104 0 == 4) = true := by decide +kernel
theorem test_shutdownClear : Written ready .firmware 0xB107 1 1 none 1 1 ∧
    after (.shutdownClear 5 .firmware 1) (ready.modMram fun m => { m with shutdownRec := List.replicate 32 1 })
      (fun t => t.mram.shutdownRec == List.replicate 32 0) = true := ⟨written_of_seen (by decide +kernel), by decide +kernel⟩
theorem test_trimRun : Written ready .firmware 0xB200 0 0x301 none 0 0x301 ∧ trimExists 3 = true ∧ trimRunning ready 3 = false ∧
    ready.power.trimWait = [] ∧ (doorWrite .firmware 0xB200 0 0x301 trimCommand ready).1 = stOK ∧ trimBlocked ready 3 = false ∧
    after (.trimRun 5 .firmware 3) ready (fun t => trimRunning t 3) = true := ⟨written_of_seen (by decide +kernel), by decide +kernel⟩
/-- Item 3 runs; its last value, from a run that passed, is 9, and 11 is saved. -/
def trimming (r : Bool) : State := { ready with trim := [(3, { TrimItem.reset with value := 9, result := 1, running := r })] }
  |>.modMram fun m => { m with trim := [(3, 11)], trimValid := true }
theorem test_trimRunRefused : Written (trimming true) .firmware 0xB200 0 0x301 none 0 0x301 ∧
    Written ready .firmware 0xB200 0 0x2001 none 0 0x2001 ∧ trimRunning (trimming true) 3 = true ∧
    (doorWrite .firmware 0xB200 0 0x301 trimCommand (trimming true)).1 = stBusy ∧
    (doorWrite .firmware 0xB200 0 0x2001 trimCommand ready).1 = stState :=
  ⟨written_of_seen (by decide +kernel), written_of_seen (by decide +kernel), by decide +kernel⟩
theorem test_trimSave : Written (trimming false) .firmware 0xB200 0 0x302 none 0 0x302 ∧
    after (.trimSave 5 .firmware 3) (trimming false) (fun t => t.mram.trim.get? 3 == some 9 && t.mram.trimValid) = true :=
  ⟨written_of_seen (by decide +kernel), by decide +kernel⟩
def trimCfg : State := { trimming false with devState := .config }
theorem test_trimRestore : Written trimCfg .firmware 0xB200 0 0x303 none 0 0x303 ∧
    after (.trimRestore 5 .firmware 3) trimCfg (fun t => (t.trimItem 3).value == 11 && (t.trimItem 3).fromSaved) = true ∧
    (doorWrite .firmware 0xB200 0 0x303 trimCommand (trimming false)).1 = stState := ⟨written_of_seen (by decide +kernel), by decide +kernel⟩
theorem test_trimPeriod : after (.trimPeriodTick 60000000000) ready (fun t => t.power.trimAt == 60000000000 && trimRunning t 0x21 && trimRunning t 16) = true ∧
    after (.trimPeriodTick 60000000000) (ready.setDv 0xB202 0 0) (fun t => !trimRunning t 0x21) = true := by decide +kernel
theorem test_trimDone : (trimming true).power.trimWait = [] ∧
    after (.trimDone 5 3 70 (BitVec.ofNat 8 (trimLimit 3))) (trimming true) (fun t => (t.trimItem 3).result == 1 && (t.trimItem 3).value == 70) = true ∧
    after (.trimDone 5 3 70 255) (trimming true) (fun t => (t.trimItem 3).result == 2 && (t.trimItem 3).value == 9 && (t.trimItem 3).fails == 1) = true := by
  decide +kernel

/-! ### Faults, test access and reset (16_faults_test.md, 17_electrical_package.md) -/

theorem test_replaceClear : Written cfg .firmware 0xC002 0 1 none 0 1 ∧ Written ready .firmware 0xC002 0 1 none 0 1 ∧
    after (.replaceClear 5 .firmware 1) (cfg.modMram fun m => { m with cause := 0x600 }) (fun t => t.mram.cause == 0) = true ∧
    (doorWrite .firmware 0xC002 0 1 replaceClearEffect ready).1 = stState :=
  ⟨written_of_seen (by decide +kernel), written_of_seen (by decide +kernel), by decide +kernel⟩
/-- Geyser 5, of class 3, is retired. -/
def geyserGone : State := ((cfg.modMram fun m => { m with retired := [(chanKey 3 5, true)] }).setDv 0x3010 0 0xFFFFFFDF)
theorem test_reinstate : Written geyserGone .firmware 0xC005 0 0x305 none 0 0x305 ∧ (0x305 : Slot).bits 15 8 = 3 ∧ (0x305 : Slot).bits 7 0 = 5 ∧
    reinstatable 3 = true ∧ isRetired geyserGone 3 5 = true ∧
    after (.reinstate 5 .firmware 0x305) geyserGone (fun t => !isRetired t 3 5 && geyserOn t 5) = true ∧
    (doorWrite .firmware 0xC005 0 0x305 reinstateEffect cfg).1 = stRange ∧ isRetired cfg 3 5 = false ∧
    (doorWrite .firmware 0xC005 0 0x305 reinstateEffect ready).1 = stState := ⟨written_of_seen (by decide +kernel), by decide +kernel⟩
theorem test_reinstateRefused : Written cfg .firmware 0xC005 0 0x305 none 0 0x305 ∧ Written ready .firmware 0xC005 0 0x305 none 0 0x305 :=
  ⟨written_of_seen (by decide +kernel), written_of_seen (by decide +kernel)⟩
theorem test_zeroize : Written cfg .firmware 0xC040 0 1 none 0 1 ∧ cfg.test.zeroising = false ∧
    after (.zeroize 5 .firmware 1) (inSession sess (cfg.modMram fun m => { m with keys := [(0, key)] }))
      (fun t => t.mram.keys.isEmpty && t.moa.sessions.isEmpty && t.test.zeroising) = true := ⟨written_of_seen (by decide +kernel), by decide +kernel⟩
def zeroing (n : Nat) : State := cfg.modTest fun x => { x with zeroising := true, zeroTries := n }
theorem test_zeroised : after (.zeroised 5 true) (zeroing 0) (fun t => !t.test.zeroising && t.test.zeroDone && t.mram.zeroisations == 1) = true ∧
    after (.zeroised 5 false) (zeroing 2) (fun t => t.test.zeroising && t.test.zeroTries == 3) = true ∧
    after (.zeroised 5 false) (zeroing 3) (fun t => !t.test.zeroising && t.test.scanLocked && t.dv 0xC006 0 == 1) = true := by decide +kernel
theorem test_selftest : Written cfg .firmware 0xC100 0 1 none 0 1 ∧ (∀ k < 16, (cfg.supply k).st = .off) ∧ cfg.test.selftest = 0 ∧
    after (.selftestCmd 5 .firmware 1) cfg (fun t => t.test.selftest == 1) = true ∧
    (doorWrite .firmware 0xC100 0 1 selftestEffect ready).1 = stState ∧
    (doorWrite .firmware 0xC100 0 1 selftestEffect (cfg.modSupply 15 fun x => { x with st := .on })).1 = stState :=
  ⟨written_of_seen (by decide +kernel), by decide +kernel⟩
theorem test_selftestRefused : Written ready .firmware 0xC100 0 1 none 0 1 := written_of_seen (by decide +kernel)
/-- One group of kind SELF and 8 balls from cell 8, whose right run is all zeros. -/
def ict1 : List Byte :=
  [1, 1] ++ List.replicate 14 0 ++ [0, 0] ++ leBytes 2 8 ++ leBytes 2 16 ++ leBytes 2 8 ++ leBytes 4 (crc32c (List.replicate 8 0)) ++ [0, 0, 0, 0]
def testing : State := (cfg.setDw 0xC110 0 ict1).modTest fun x => { x with selftest := 1 }
theorem test_ictDone : ictGroups testing = 1 ∧ ictRuns testing 0 = true ∧ ictBytes testing 0 = 8 ∧
    after (.ictDone 5 [List.replicate 8 0]) testing (fun t => t.test.selftest == 0 && bitsN (t.dv 0xC111 0) 7 0 == 1) = true ∧
    after (.ictDone 5 [[1]]) testing (fun t => bitsN (t.dv 0xC111 0) 7 0 == 2) = true := by decide +kernel
theorem test_ictTable : (whoIs cfg .firmware).isSome = true ∧ opens cfg .firmware 0xC110 0 32 = some (none, 0) ∧ ict1.length = 32 ∧
    after (.ictTableWrite 5 .firmware ict1 [(40, 2)]) cfg (fun t => t.dwide 0xC110 0 == some ict1 && t.test.ictCells == [(40, 2)]) = true ∧
    after (.ictTableWrite 5 .firmware ict1 [(15, 1)]) cfg (fun t => t.dwide 0xC110 0 == cfg.dwide 0xC110 0) = true := by decide +kernel
def scanOpen : State := { cfg.modTest (fun x => { x with zeroDone := true }) with pins := { Pins.reset with testEn := true } }
theorem test_tap : after (.tapExtest 5) scanOpen (fun t => t.test.opcode == 3 && t.out == [.tap 3]) = true ∧
    after (.tapExtest 5) cfg (fun t => t.test.opcode == 0xFF && t.out == [.tap 0xFF]) = true ∧
    after (.tapIdcode 5) cfg (fun t => t.test.opcode == 1) = true := by decide +kernel

theorem test_resetAsserted : after (.resetAsserted 5) (ready.modPins fun p => { p with rstN := true })
      (fun t => t.devState == .halted && t.dev == [] && !t.pins.rstN) = true ∧
    after (.referenceClockFailure 5 true) (ready.modPins fun p => { p with sdsclk := true }) (fun t => t.devState == .halted) = true ∧
    after (.referenceClockFailure 5 false) (ready.modPins fun p => { p with refclk := true }) (fun t => t.devState == .halted) = true ∧
    after (.pwrgoodFall 5) warm (fun t => t.devState == .halted && !t.pins.pwrgood) = true ∧ ready.pins.sdsclk = false := by decide +kernel
theorem test_resetReleased : after (.resetReleased 5 true 2 false) State.reset (fun t => t.pins.rstN && t.pins.pairId && t.pins.bootSrc == 2) = true ∧
    after (.resetReleased 5 true 2 true) State.reset (fun t => t.test.zeroising) = true ∧
    after (.resetReleased 5 true 2 true) (ready.modPins fun p => { p with rstN := true }) (fun t => !t.test.zeroising) = true := by decide +kernel
theorem test_pwrgoodRise : railUsable State.reset.mram.railTable = false ∧ after (.pwrgoodRise 5) ready
    (fun t => t.pins.pwrgood && t.now == 0 && t.mram.powerOns == 1 && t.power.railPhase == 3) = true := by decide +kernel

/-- The image with its ADVANCE flag, version 3, is resident: BOOT's end raises the fused counter. -/
def advancing : State := { State.reset with devState := .boot, boot := { Boot.reset with phase := 5, rollback := some 2, image := (image.set 16 3).set 19 1 } }
theorem test_rollback : rollbackFuse advancing = 2 ∧ bitN (imgField advancing.boot.image 19 1) 0 = true ∧
    rollbackFuse (advanceFuse advancing) = 3 := by decide +kernel
theorem test_memory : MemoryCanonical (sub2 2) := by
  intro k
  by_cases h : k = 2
  · subst h; decide +kernel
  · have e : (sub2 2).sch k = Subch.reset := by
      show (Map.get? (Map.set [] 2 _) k).getD Subch.reset = _
      simp [Map.set, Map.get?, h]
    rw [e]; decide +kernel
theorem test_step_memory : ∃ t, step { sub2 2 with pending := [.mcCommand 5 2 [reqW]] } = .next t := ⟨_, rfl⟩
theorem test_keeps : Instr.keepsMemory (.axProfileTick 5) = true ∧ after (.axProfileTick 5) (sub2 2) (fun _ => true) = true := by decide +kernel

/-- A configuration without bars that passes every check; a device whose resident image stands as it leaves DOZE. -/
def checked : State := ((List.range 8).foldl (fun s k => s.modSch k fun x => { x with state := 2, mib := 4096 }) cfg).setDv 0x4010 0 0x100000000
theorem test_devTargetReady : Written checked .firmware 0x1203 0 2 none 0 2 ∧ holder checked = true ∧ configFailure (checked.later 5) = none ∧
    after (.devTargetReady 5 .firmware) checked (fun t => decide (t.devState = .ready) && t.dv 0x1204 0 == 0) = true :=
  ⟨written_of_seen (by decide +kernel), by decide +kernel⟩
def wakingImage : State := { (cfg.modPower (fun p => { p with dozeExitAt := some 0, railPhase := 3 })) with
  devState := .doze
  boot := { Boot.reset with image := image, rollback := some 0 } }
theorem test_dozeExit : imageStands wakingImage = true := by decide +kernel
theorem test_dozeExitReady : after (.dozeExitDone 5) wakingImage (fun t => decide (t.devState = .ready)) = true := by decide +kernel

/-! ### Half reads, gaps, intake, screening, encoder filters -/

/-- A PF request that reads 4 bytes of a slot; the upper half of 4010.00 is latched. -/
def halfRead (off : BitVec 27) : PcieReq := { half off [] with write := false }
def latched : State := cfg.modFn 0 (fun x => { x with latch := some (0x401000, 7) })
theorem test_halfReads : (halfRead 0x2008000).offset.toNat = (0x4010 * 256 + 0) * 8 ∧ (halfRead 0x2008004).offset.toNat = (0x4010 * 256 + 0) * 8 + 4 ∧
    isOwn 0x4010 = false ∧ (cfg.fn 0).latch = none ∧ (whoIs (cfg.later 5) (.fn 0)).isSome = true ∧
    (match whoIs (cfg.later 5) (.fn 0) with
     | some who => (match grant (cfg.later 5) (.fn 0) who false 0x4010 0 with | .ok _ none 0 => true | _ => false)
     | none => false) = true ∧
    after (.slotHalfAccess 5 0 (halfRead 0x2008000)) cfg (fun t => (t.fn 0).latch.isSome && t.out.length == 1) = true ∧
    after (.slotHalfAccess 5 0 (halfRead 0x2008004)) latched (fun t => (t.fn 0).latch.isNone && t.out == [.readDone 0 [7, 0, 0, 0]]) = true := by
  decide +kernel

theorem test_idleGaps : ∀ p < 64, gapCols (pended.later 5) p = pended.dv 0x3430 p := by decide +kernel

theorem test_fetchOne : (∀ a < 16, wantsAny wanting a = true → a = 0) ∧ slotTaken paying 0 { flight 4 with wagon := some (wagon0 .fetching []) } = false ∧
    blockGood (job7 0) [97, 97, 97, 97] encA false = true ∧ ((intake [flight 0]).bar 0).scan.ahead = [] := by decide +kernel
/-- R130, R131: input A of encoder 0 changed at 0, its filter is 3 samples. -/
def filtered (a : Bool) : State := (ready.setDv 0x4001 0 2).modEnc 0 fun x => if a then { x with aAt := some 0 } else { x with bAt := some 0 }
theorem test_encFilter : withinFilter (filterTime ((filtered true).dv 0x4001 0)) 14 (some 0) = true ∧
    after (.encInputChange 14 0 true false) (filtered true) (fun t => !(t.enc 0).a && decide ((t.enc 0).count = 0)) = true ∧
    after (.encInputChange 15 0 true false) (filtered true) (fun t => (t.enc 0).a && decide ((t.enc 0).count = 1)) = true ∧
    after (.encInputChange 14 0 true false) (filtered false) (fun t => (t.enc 0).a && decide ((t.enc 0).count = 0) && t.dv 0x4005 0 == 1) = true := by
  decide +kernel
theorem test_markFilter : (marking.mark 2).edgeAt = none ∧
    after (.markEdge 4 2 true) (marking.modMark 2 fun x => { x with edgeAt := some 0 }) (fun t => (t.mark 2).last.isNone) = true := by decide +kernel
theorem test_lineWaits : waitingEnds due1 = [] := by decide +kernel
theorem test_drayPanicEnd : after (.drayReadDone 5 3) (((sub2 2).modDray 3 fun x => { x with reading := [(1, 2)], panic := true }).modSch 2 fun x => { x with
    owed := 2 }) (fun t => (t.sch 2).owed == 0 && !mcPanic t 2) = true := by decide +kernel

/-! ### Lanes, head frames, cameras, memory requests -/

theorem test_lockBoth : after (.upstreamBlockLock 5 0) ((dark .wake).modPort 0 fun x => { x with dnLock := true }) (fun t => (t.port 0).st == .run) = true ∧
    after (.upstreamIdle 9000 0 true false 1 9) ((lane .relock).modPort 0 fun x => { x with lockAt := some 0 })
      (fun t => (t.port 0).st == .run && (t.port 0).dnLock) = true := by decide +kernel
theorem test_statusInvalid : qhlCrc { statusFrame statusBytes with eof := [] } = true ∧ qhlValid { statusFrame statusBytes with eof := [] } = false ∧
    after (.statusTelemetry 5 0 { ends (statusFrame statusBytes) with eof := [] } statusBytes) (lane .run) (fun t => t.dv 0x4805 0 == 0 && t.dv 0x4901 0 == 0) = true := by
  decide +kernel
theorem test_identUnlocked : after (reply3 2 [0, 0, 0, 0]) (asking 2 1 .ident) (fun t => (t.port 0).st == .detect && t.dv 0x4804 0 == 1) = true := by
  decide +kernel
theorem test_mgmtNoReins : inFlight (standby (asking 1 1 .run)) 0 3 = some (req3 1 1) ∧ mayRequest (standby (asking 1 1 .run)) (req3 1 1) = false ∧
    mayRequest (asking 1 1 .run) (req3 1 1) = true ∧
    after (.mgmtTimeout 20000 0 3) (standby (asking 1 1 .run)) (fun t => t.out.isEmpty) = true := by decide +kernel

theorem test_camFree : backPressure freeRun = false ∧ (pulseDue.cam 0).pulses = [] ∧
    after (.camTrigStart 5 0) pulseDue (fun t => (t.cam 0).pulses.map (fun p => p.start) == [5]) = true ∧
    after (.camTrigStart 5 0) (pulseDue.modCam 0 fun x => { x with trigUntil := some 200 }) (fun t => (t.cam 0).trigUntil == some 200) = true := by decide +kernel
theorem test_stripPorts : strip1.abandoned = false ∧ strip1.measured = false ∧ (2 : Nat) ∉ strip1.ended ∧ (2 : Nat) ∈ strip1.ports := by decide +kernel

theorem test_mcReady : (queuedR.sch 2).state = 2 ∧ (queuedR.sch 2).retraining = false ∧ (queuedR.sch 2).owed = 0 ∧ (queuedR.sch 2).held = [] ∧
    (queuedW.sch 2).owed = 0 ∧ (queuedW.sch 2).held = [] ∧ mcMine queuedW 2 reqR = true := by decide +kernel
theorem test_refreshOwed : (sub2 3).dv 0x7206 0 = 8 ∧ mcPanic (sub2 3) 2 = false ∧ after (.refreshTick 1950 2 false) (sub2 3) (fun t => (t.sch 2).owed == 1) = true ∧
    after (.refreshTick 1950 2 false) ((sub2 3).modSch 2 fun x => { x with owed := 1 }) (fun t => (t.sch 2).owed == 1) = true := by decide +kernel
theorem test_retiredHeld : after (.subchRetired 5 2) ((sub2 3).modSch 2 fun x => { x with held := [reqR] }) (fun t => (t.sch 2).held.isEmpty) = true := by decide +kernel

/-! ### The pair, the switch, motion, supplies, trim and replacement -/

/-- A standby that waits to join; its partner's HELLO has come and matched. -/
def awaiting : State := (standby ready).modPair fun x => { x with state := .noPartner, helloAt := some 0 }
theorem test_leaseJoin : matched awaiting = true ∧ matched (standby ready) = false ∧
    after (.lease 5) awaiting (fun t => t.pair.state == .joining && t.pair.joinStep == 1 && t.pair.partnerLease == some 8005) = true := by decide +kernel
/-- A HELLO that fits `s`. -/
def fitting (s : State) : Instr := .helloRecord 5 7 (BitVec.ofNat 32 (fwVersion s)) (BitVec.ofNat 32 (configDigest s)) (!s.pins.pairId)
def leased : State := awaiting.modPair fun x => { x with partnerLease := some 9000 }
def leading : State := (held ready).modPair fun x => { x with state := .noPartner }
theorem test_helloFits : (BitVec.ofNat 32 (configDigest leased)).toNat = configDigest leased ∧ fresh leased = true ∧ leased.pair.barred = false ∧
    after (fitting leased) leased (fun t => t.pair.state == .joining && t.pair.joinStep == 1) = true := by decide +kernel
theorem test_helloFitsHolder : (BitVec.ofNat 32 (configDigest leading)).toNat = configDigest leading ∧ fresh leading = true ∧ leading.pair.barred = false ∧
    after (fitting leading) leading (fun t => t.out.contains (.pair .snapshot) && t.pair.joinStep == 2 && t.pair.holder) = true ∧
    after (.helloRecord 5 7 8 9 true) leading (fun t => t.pair.state == .noPartner && !t.pair.barred) = true := by decide +kernel
theorem test_lanesOut : after (.pairLaneFault 5 1) (thrice 1 1 (standby ready)) (fun t => pairLane t 1 == 3 && t.dv 0x8005 0 == 1) = true ∧
    (0 : Nat) ∈ linkLanes (standby ready) ∧ pairLane (standby ready) 0 ≠ 3 := by decide +kernel
/-- What the holder reports of bar 0, which is off. -/
def joinBar0 : JoinBar := { bar := 0, state := 0, nextPage := 7, live := [⟨okey 0x3421 0, false, 2, []⟩], pendingPage := some 9, pending := [] }
theorem test_joinBar : vbCode joinBar0.state = ((standby (withBar ready)).bar 0).vb ∧
    after (.joinSnapshot 5 ⟨2, []⟩ [joinBar0]) ((standby (withBar ready)).modPair fun x => { x with state := .joining })
      (fun t => (t.bar 0).live == [(okey 0x3421 0, .slot 2)] && (t.bar 0).joinPage == 7 && decide ((t.bar 0).gen.map (fun g => g.page) = some 9)) = true := by
  decide +kernel
theorem test_recordsNow : waitingEnds pupil = [] ∧ waitingEnds (withPage page1 pupil) = [] ∧ pupil.pair.linkUp = true ∧ (pupil.supply 2).st = .off ∧
    after (.mirrorRecord 5 (.axis 2 77 true 3 4 5)) pupil (fun t => decide ((t.axis 2).mirrorTarget = 77) && (t.axis 2).mirrorMoving &&
      (t.axis 2).mirrorProfile == some (3, 4, 5)) = true ∧
    after (.mirrorRecord 5 (.supply 2 true false)) pupil (fun t => (t.supply 2).hven) = true ∧
    after (.mirrorRecord 5 (.supply 2 false false)) (pupil.modSupply 2 fun x => { x with hven := true }) (fun t => !(t.supply 2).hven) = true := by decide +kernel
theorem test_linkSupplies : after (.pairLinkDown 5) ((standby ready).modSupply 2 fun x => { x with hven := true }) (fun t => !(t.supply 2).hven) = true ∧
    after (.pairLinkUp 5) (((standby ready).modPair fun x => { x with linkUp := false }).modSupply 2 fun x => { x with mirrorEn := true })
      (fun t => (t.supply 2).hven) = true := by decide +kernel

/-- The low queue of port 1 holds 16,384 bytes. -/
def fullQueue : State := wired.modNet fun n => { n with queues := [(2, [{ f := { ethF with len := 16384 }, inPort := 0, inAt := 0 }])] }
theorem test_ethDrop : queueBytes (fullQueue.net.queues.getD 2 []) = 16384 ∧ after (.ethFrameRx 5 0 ethF) fullQueue
    (fun t => t.dv 0x8115 1 == 1 && (t.net.queues.getD 2 []).length == 1) = true := by decide +kernel
/-- R287's example: in at ETH0 at LOCAL_COUNT 1,000,000,000, its RX_LAT 312 ns; TX_LAT of ETH1 184 ns; RATE_ADJ 13,743,895. -/
def transit : State :=
  let s := ({ (wired.setDv 0x8110 (latSub wired 0) 312).setDv 0x8111 (latSub wired 1) 184 with clock := { wired.clock with rate := 13743895 } } : State).later 1000000000
  s.modNet fun n => { n with queues := [(3, [{ f := { ethF with ptp := some (0, 2) }, inPort := 0, inAt := ingressAt s 0 }])] }
theorem test_ethTransit : residence (transit.later 2480) (1000000000 - 312) 1 (transit.now + 2480) = 195037573 ∧
    after (.ethFrameEgress 2480 1) transit (fun t => t.out.any (fun o => match o with | .eth _ f => f.correction == 195037573 | _ => false) &&
      t.dv 0x8116 0 == 1) = true := by decide +kernel

/-- Axis 2 last turned at 0 and needs 2 µs before its next step; the jog that waits makes a step in its first update. -/
def turning : State := (((waitingFor 3).setDv 0xA00E 2 2000).setDv 0xA002 2 (2 ^ 31)).modAxis 2 fun x => { x with pos := stepUnit / 2 - 1, dirAt := some 0 }
theorem test_dirHeld : after (.axProfileTick 1000) turning (fun t => (t.axis 2).next == some 3 && decide ((t.axis 2).vel = 0) &&
      decide ((t.axis 2).pos = stepUnit / 2 - 1)) = true ∧
    after (.axProfileTick 2000) turning (fun t => (t.axis 2).mode == .jog && (t.axis 2).next.isNone && t.out.length == 1) = true := by decide +kernel
theorem test_profileReady : ((waitingFor 1).axis 2).vel = 0 ∧ ((waitingFor 1).axis 2).dir = 1 ∧ ((waitingFor 1).axis 2).dirAt = none ∧
    ((waitingFor 1).dvi 0xA006 2 - ((waitingFor 1).axis 2).steps).sign = 1 := by decide +kernel
theorem test_tripFilter : waitingEnds (fitted .on) = [] ∧ waitingEnds (fitted .blank) = [] ∧ ((fitted .on).supply 3).inputAt = none ∧
    withinFilter (filterTime ((fitted .on).dv 0xA203 0)) 1 (some 0) = true ∧
    after (.tripAccepted 1 3) ((fitted .on).modSupply 3 fun x => { x with inputAt := some 0 }) (fun t => (t.supply 3).st == .on) = true := by decide +kernel

theorem test_trimSaveAll : Written (trimming false) .firmware 0xB200 0 0xFF02 none 0 0xFF02 ∧ 3 ∈ trimItems ∧
    after (.trimSave 5 .firmware 0xFF) (trimming false) (fun t => t.mram.trim.get? 3 == some 9) = true :=
  ⟨written_of_seen (by decide +kernel), by decide +kernel⟩
/-- The holder in CONFIG; three geysers are retired and the threshold of their class is 1, their bit still clear. -/
def worn : State := (((held cfg).modMram fun m => { m with retired := [(chanKey 3 1, true), (chanKey 3 2, true), (chanKey 3 5, true)] })).setDv 0xC010 3 1
theorem test_replaceReleases : Written worn .firmware 0xC002 0 1 none 0 1 ∧ pairMode worn = true ∧ selfDiagnosis (classCause worn) = true ∧
    after (.replaceClear 5 .firmware 1) worn (fun t => t.mram.cause == 8 && !t.pair.holder) = true :=
  ⟨written_of_seen (by decide +kernel), by decide +kernel⟩

end Sys2Proof.Tests
end

/-! ## The three copies of a bar (01_architecture.md R15, R17, R18, R20, R21) -/

section
namespace Sys2Proof.Machine
open Sys2Proof

/-! ### What a commit reads and changes of a bar -/

/-- The copies of a bar (R15), what the device or a host wrote into the open ones, the held request, and the page of the
generation sealed. -/
structure Copies where
  live : Map Val
  pend : Map Val
  opn : Map Val
  openHost : Bool
  openDev : List Nat
  heldReq : Option (Nat × Bool)
  sealedFor : Option Nat

/-- The copies that the bar holds. -/
def Bar.copies (x : Bar) : Copies :=
  { live := x.live, pend := x.pend, opn := x.opn, openHost := x.openHost, openDev := x.openDev, heldReq := x.heldReq,
    sealedFor := x.gen.map PendGen.page }

/-- Posting events leaves the copies of every bar alone. -/
theorem EventsOnly.copies {s t : State} (h : EventsOnly s t) (a : Nat) : (t.bar a).copies = (s.bar a).copies :=
  (congrArg Bar.copies (h.bar a) : (t.bar a).still.copies = (s.bar a).still.copies)

/-- A change of a bar that keeps its copies keeps those of every bar. -/
theorem modBar_copies (s : State) (b a : Nat) (f : Bar → Bar) (h : (f (s.bar b)).copies = (s.bar b).copies) :
    ((s.modBar b f).bar a).copies = (s.bar a).copies := by
  by_cases e : a = b
  · subst e; rw [bar_modBar_self, h]
  · rw [bar_modBar_of_ne _ _ e]

theorem bar_eq_of_bars {s t : State} (h : t.bars = s.bars) (a : Nat) : t.bar a = s.bar a := by
  unfold State.bar; rw [h]

/-- What every turn of a loop leaves of the bars, the loop leaves. -/
theorem forAll_bars {α : Type} (xs : List α) (f : α → State → State) (s : State) (h : ∀ x t, (f x t).bars = t.bars) :
    (forAll xs f s).bars = s.bars := forAll_keeps State.bars xs f s h

/-- A loop of which no turn changes the state it begins with changes nothing. -/
theorem forAll_of_fixed {α : Type} (xs : List α) (f : α → State → State) (s : State) (h : ∀ x ∈ xs, f x s = s) :
    forAll xs f s = s := by
  induction xs with
  | nil => rfl
  | cons x xs ih =>
    rw [forAll_cons, h x List.mem_cons_self]
    exact ih fun y hy => h y (List.mem_cons_of_mem x hy)

/-! ### The requests of a lane change no bar -/

@[simp] theorem sendReq_bars (p : Nat) (r : MgmtReq) (s : State) : (sendReq p r s).bars = s.bars := rfl
@[simp] theorem addReq_bars (p op addr count : Nat) (ws : List (BitVec 64)) (g : Option (Nat × Nat)) (d : Option Nat)
    (s : State) : (addReq p op addr count ws g d s).bars = s.bars := rfl

@[simp] theorem pumpReqs_bars (p : Nat) (s : State) : (pumpReqs p s).bars = s.bars := by
  unfold pumpReqs; dsimp only
  split
  · exact forAll_bars _ _ _ (sendReq_bars p)
  · rfl

@[simp] theorem writeWords_bars (p addr : Nat) (g : Option (Nat × Nat)) (n : Nat) (ws : List (BitVec 64)) (s : State) :
    (writeWords p addr g n ws s).bars = s.bars := by
  induction n generalizing addr ws s with
  | zero => rfl
  | succ n ih =>
    unfold writeWords
    split
    · rfl
    · rw [ih, addReq_bars]

@[simp] theorem writePhase_bars (p lo hi : Nat) (copy) (g : Option (Nat × Nat)) (s : State) :
    (writePhase p lo hi copy g s).bars = s.bars := writeWords_bars _ _ _ _ _ _

@[simp] theorem writeWave_bars (p : Nat) (v : Option Val) (g : Option (Nat × Nat)) (s : State) :
    (writeWave p v g s).bars = s.bars := writeWords_bars _ _ _ _ _ _

@[simp] theorem shadowPort_bars (b e : Nat) (keys : List Nat) (p : Nat) (s : State) :
    (shadowPort b e keys p s).bars = s.bars := by
  unfold shadowPort; dsimp only
  split <;> split <;> simp

/-! ### What a seal does to the copies -/

/-- R125: the GAP decision writes open copies only. -/
theorem gapDecide_bar (b : Nat) (s : State) : ∃ m, (gapDecide b s).bar b = { s.bar b with opn := m } := by
  unfold gapDecide; dsimp only
  refine forAll_induct (fun t => ∃ m, t.bar b = { s.bar b with opn := m }) _ _ _ (fun p t ht => ?_) ⟨_, rfl⟩
  obtain ⟨m, hm⟩ := ht
  split
  · exact ⟨_, by rw [openSet, bar_modBar_self, hm]⟩
  · exact ⟨m, hm⟩

/-- R107: the lines that are screened anew are no copies. -/
theorem rescreen_copies (b e a : Nat) (s : State) : ((rescreen b e s).bar a).copies = (s.bar a).copies := by
  unfold rescreen; dsimp only
  split
  · rw [modBar_copies _ _ _ _ rfl, modBar_copies _ _ _ _ rfl]
  · rw [(postB_events _ _ _ _ _ _).copies, State.bumpBN, State.setBo, modBar_copies _ _ _ _ rfl, modBar_copies _ _ _ _ rfl,
      modBar_copies _ _ _ _ rfl]

/-- A change of the generation that keeps its page. -/
theorem modGen_copies (s : State) (b a : Nat) (f : PendGen → PendGen) (h : ∀ g, (f g).page = g.page) :
    ((s.modGen b f).bar a).copies = (s.bar a).copies := by
  refine modBar_copies _ _ _ _ ?_
  cases hg : (s.bar b).gen <;> simp [Bar.copies, hg, h]

theorem joinHeads_copies (b a : Nat) (s : State) : ((joinHeads b s).bar a).copies = (s.bar a).copies := by
  unfold joinHeads
  split
  · rfl
  · exact (modBar_copies _ _ _ _ rfl).trans (modGen_copies _ _ _ _ fun _ => rfl)

theorem shadowWrites_copies (b a : Nat) (s : State) : ((shadowWrites b s).bar a).copies = (s.bar a).copies := by
  unfold shadowWrites
  split
  · rfl
  · dsimp only
    split
    · refine (modGen_copies _ _ _ _ ?_).trans ?_
      · exact fun _ => rfl
      · rw [bar_eq_of_bars (forAll_bars _ _ _ fun p t => by simp)]
    · split
      · exact modGen_copies _ _ _ _ (fun _ => rfl)
      · rfl

/-- R174: the shadow writes of a generation just sealed leave the copies alone. -/
theorem sealWrites_copies (b a : Nat) (s : State) : ((sealWrites b s).bar a).copies = (s.bar a).copies := by
  unfold sealWrites; dsimp only
  split <;> split <;> simp only [joinHeads_copies, shadowWrites_copies]

/-- R17, R18: the open copies become the pending ones, sealed for the effective page; the live ones stay. -/
theorem sealAt_copies (b p e : Nat) (merged idle : Bool) (s : State) :
    ((sealAt b p e merged idle s).bar b).copies =
      { live := (s.bar b).live, pend := ((gapDecide b s).bar b).opn, opn := [], openHost := false, openDev := [],
        heldReq := (s.bar b).heldReq, sealedFor := some e } := by
  obtain ⟨m, hm⟩ := gapDecide_bar b s
  unfold sealAt; dsimp only
  rw [sealWrites_copies]
  split
  · rw [rescreen_copies, (postB_events _ _ _ _ _ _).copies, bar_modBar_self, hm]; rfl
  · rw [(postB_events _ _ _ _ _ _).copies, bar_modBar_self, hm]; rfl

/-- R43: the block writes that go on after a seal are no part of a bar. -/
theorem releaseWaits_bar (b a : Nat) (s : State) : (releaseWaits b s).bar a = s.bar a := rfl

/-! ### The effective page -/

/-- R18, R20: the effective page looks at device objects, the web's line and the bar's pages, strips and live copies. -/
theorem effectivePage_congr {s t : State} (b p : Nat) (hd : t.dev = s.dev) (hl : t.trig = s.trig)
    (hb : t.bar b = s.bar b) : effectivePage t b p = effectivePage s b p := by
  have dv : t.dv = s.dv := by unfold State.dv; rw [hd]
  have size : headSize t = headSize s := by unfold headSize headEn; rw [dv]
  have ports : instPorts t b = instPorts s b := by
    unfold instPorts headPorts headInBar headOverlap headEn headCol0 State.width State.firstCol State.firstSpan State.spanCount
    rw [dv, size]
  have rows : rowList t = rowList s := by unfold rowList headRows; rw [dv]
  have delay : stripDelay t b = stripDelay s b := by unfold stripDelay State.stripN; rw [hb]
  have idle : idleBar t b = idleBar s b := by unfold idleBar stripLast; rw [hb, hl, ports, rows, delay]
  have next : nextPageNum t b = nextPageNum s b := by simp only [nextPageNum, nextPage?, notStarted, hb]
  have unfixed : firstUnfixed t b = firstUnfixed s b := by simp only [firstUnfixed, notStarted, next, hb]
  simp only [effectivePage, idle, next, unfixed, hb]

/-- R274: a request that no COMMIT record names seals for the effective page. -/
theorem sealNow_copies (b p : Nat) (merged : Bool) (s : State) (hp : (s.bar b).peerSeal = none) :
    ((sealNow b p merged s).bar b).copies = ((sealAt b p (effectivePage s b p).1 merged (effectivePage s b p).2 s).bar b).copies := by
  unfold sealNow
  rw [hp]; dsimp only
  split
  · exact (pairSend_events _ _).copies b
  · rfl

/-! ### Commit requests (R17) -/

/-- The state with no request of bar `b` held. -/
def noRequest (b : Nat) (s : State) : State := s.modBar b (fun x => { x with heldReq := none })

/-- A request that finds one held is merged with it. -/
theorem commitRequest_merges {b p q : Nat} {m : Bool} {s : State} (h : (s.bar b).heldReq = some (q, m)) :
    commitRequest b p s = s.modBar b (fun x => { x with heldReq := some (pageLater q p, true) }) := by
  unfold commitRequest; rw [h]

/-- One that finds a generation pending and something written since is held. -/
theorem commitRequest_waits {b p : Nat} {g : PendGen} {s : State} (h : (s.bar b).heldReq = none) (hg : (s.bar b).gen = some g)
    (hw : (s.bar b).opn ≠ [] ∨ (s.bar b).peerSeal.isSome) :
    commitRequest b p s = s.modBar b (fun x => { x with heldReq := some (p, false) }) := by
  have written : ((s.bar b).opn.isEmpty && (s.bar b).peerSeal.isNone) = false := by
    obtain ho | hp := hw
    · rw [List.isEmpty_eq_false_iff.2 ho, Bool.false_and]
    · rw [← Option.not_isSome, hp, Bool.not_true, Bool.and_false]
  unfold commitRequest trySeal
  rw [h]
  simp [hg, written]

/-- One that finds nothing written completes at once. -/
theorem commitRequest_completes {b p : Nat} {s : State} (h : (s.bar b).heldReq = none) (hb : blockBusy s b = false)
    (ho : (s.bar b).opn = []) (hp : (s.bar b).peerSeal = none) :
    commitRequest b p s = releaseWaits b (postB .commitSealed b p 2 (leBytes 4 p ++ leBytes 4 p) (noRequest b s)) := by
  have hb' : ∀ f, blockBusy (s.modBar b f) b = false := fun _ => hb
  unfold commitRequest trySeal
  rw [h]
  simp [hb', ho, hp, modBar_modBar, noRequest, b2n]

/-- One that finds something written, no generation pending and no block write under way seals. -/
theorem commitRequest_seals {b p : Nat} {s : State} (h : (s.bar b).heldReq = none) (hg : (s.bar b).gen = none)
    (hb : blockBusy s b = false) (ho : (s.bar b).opn ≠ []) :
    commitRequest b p s = releaseWaits b (sealNow b p false (noRequest b s)) := by
  have hb' : ∀ f, blockBusy (s.modBar b f) b = false := fun _ => hb
  unfold commitRequest trySeal
  rw [h]
  simp [hb', ho, hg, modBar_modBar, noRequest]

theorem noRequest_bar {b : Nat} {s : State} (h : (s.bar b).heldReq = none) : (noRequest b s).bar b = s.bar b := by
  rw [noRequest, bar_modBar_self, ← h]

/-- An accepted COMMIT_REQ of the reins holder is a commit request for the page written. -/
theorem exec_commitReq {dt : Nat} {door : Door} {b d : Nat} {v w : Slot} {s : State}
    (hw : Written s door 0x1220 0 v (some b) d w) (hh : holder s = true) :
    exec (.commitReq dt door v) s = run dt s (commitRequest b w.toNat) := by
  have e : writeThrough door 0x1220 0 v commitReqEffect (s.later dt) = commitRequest b w.toNat (s.later dt) :=
    (hw.later dt).through _ _ fun row => by
      have : holder (s.later dt) = true := hh
      simp [commitReqEffect, forwarded, onBar, this]
  exact congrArg (fun t : State => Host.Outcome.next { t with now := s.now + dt, pending := s.pending }) e

/-! ### Taking effect (R20) -/

/-- HEAD_GAP_COLS of a port counts what the scans of the bars hold, whatever else changes of a bar. -/
theorem gapCols_modBar (s : State) (b p : Nat) (f : Bar → Bar) (h : (f (s.bar b)).scan.uncomp = (s.bar b).scan.uncomp) :
    gapCols (s.modBar b f) p = gapCols s p := by
  have u : ∀ a, ((s.modBar b f).bar a).scan.uncomp = (s.bar a).scan.uncomp := fun a => by
    by_cases e : a = b
    · subst e; rw [bar_modBar_self, h]
    · rw [bar_modBar_of_ne _ _ e]
  unfold gapCols
  simp only [u]
  rfl

/-- Posting events changes no port's HEAD_GAP_COLS. -/
theorem EventsOnly.gapCols {s t : State} (h : EventsOnly s t) (p : Nat) (hp : p < 64) :
    Machine.gapCols t p = Machine.gapCols s p := by
  have layout : ∀ a < 16, t.dv 0x1206 a = s.dv 0x1206 a := fun a ha =>
    h.dv _ _ (by omega) (by decide) (by decide) (by decide)
  have head : t.dv 0x3200 p = s.dv 0x3200 p := h.dv _ _ (by omega) (by decide) (by decide) (by decide)
  have plane : headPlane t p = headPlane s p := by unfold headPlane; rw [head]
  have serves : headServes t p = headServes s p := by unfold headServes headCol0 headSize headEn; rw [head]
  have bars : t.barsWithCols = s.barsWithCols := List.filter_congr fun a ha => by
    unfold State.spanCount; rw [layout a (List.mem_range.1 ha)]
  unfold Machine.gapCols
  rw [bars]
  refine congrArg List.sum (List.map_congr_left fun a ha => ?_)
  have ha : a < 16 := List.mem_range.1 (List.mem_filter.1 ha).1
  have first : t.firstCol a = s.firstCol a := by unfold State.firstCol State.firstSpan; rw [layout a ha]
  rw [plane, serves, first, h.bar_scan]

/-- R128: HEAD_GAP_COLS that are up to date stay as they are. -/
theorem headGaps_of_current (s : State) (h : ∀ p < 64, gapCols s p = s.dv 0x3430 p) : headGaps s = s :=
  forAll_of_fixed _ _ _ fun p hp => if_pos (h p (List.mem_range.1 hp))

/-- What bar `x` holds once its generation is live (R18, R19, R20). -/
def Bar.taken (g : PendGen) (x : Bar) : Bar :=
  { x with
    live := overlay x.live x.pend, pend := [], gen := none, quarters := liveQuarters x.pend.keys x.quarters
    heads := idleHeads g x.heads, pages := x.pages.map (keepUnder x.live)
    scan := { x.scan with
      strips := x.scan.strips.map (keepStrip x.live), bandDwell := if x.pend.keys.any isBand then 0 else x.scan.bandDwell } }

/-- R17: with no request held nothing is sealed. -/
theorem trySeal_of_no_request {b : Nat} {s : State} (h : (s.bar b).heldReq = none) : trySeal b s = s := by
  unfold trySeal; rw [h]

/-- The generation of bar `b` is live from page `n`: the copies have moved and the host is told (R18). -/
def wentLive (b n : Nat) (g : PendGen) (s : State) : State :=
  raiseSource (0x38 + b / 2) (postB .commitLive b n 0 (leBytes 4 n) (s.modBar b (Bar.taken g)))

theorem wentLive_events (b n : Nat) (g : PendGen) (s : State) : EventsOnly (s.modBar b (Bar.taken g)) (wentLive b n g s) :=
  (postB_events _ _ _ _ _ _).trans (raiseSource_events _ _)

/-- R18: how a generation without tables of the screening class takes effect. -/
theorem commitLive_eq {b n : Nat} {g : PendGen} {s : State} (hg : (s.bar b).gen = some g) (hs : g.screening = false) :
    commitLive b n s = trySeal b (headGaps (wentLive b n g s)) := by
  unfold commitLive
  rw [hg]; dsimp only; rw [hs]
  rfl

/-- R18, R20, R128: with HEAD_GAP_COLS up to date and no request held, nothing changes beyond the copies that move but what
the events do. -/
theorem commitLive_events {b n : Nat} {g : PendGen} {s : State} (hg : (s.bar b).gen = some g) (hs : g.screening = false)
    (hr : (s.bar b).heldReq = none) (hc : ∀ p < 64, gapCols s p = s.dv 0x3430 p) :
    EventsOnly (s.modBar b (Bar.taken g)) (commitLive b n s) := by
  have events := wentLive_events b n g s
  have gaps : headGaps (wentLive b n g s) = wentLive b n g s := headGaps_of_current _ fun p hp =>
    calc gapCols (wentLive b n g s) p
      _ = gapCols (s.modBar b (Bar.taken g)) p := events.gapCols p hp
      _ = gapCols s p := gapCols_modBar _ _ _ _ rfl
      _ = (s.modBar b (Bar.taken g)).dv 0x3430 p := hc p hp
      _ = (wentLive b n g s).dv 0x3430 p := (events.dv _ _ (by omega) (by decide) (by decide) (by decide)).symm
  have held : ((wentLive b n g s).bar b).heldReq = none := by rw [events.bar_heldReq, bar_modBar_self]; exact hr
  rw [commitLive_eq hg hs, gaps, trySeal_of_no_request held]
  exact events

/-- R249: the judgement of SRAM_OVER changes that mark at most, and posts. -/
theorem sramJudge_events (b : Nat) (s : State) :
    sramJudge b s = s ∨ ∃ o, EventsOnly (s.modIntake b fun q => { q with sramOver := o }) (sramJudge b s) := by
  unfold sramJudge; dsimp only
  split
  · exact .inl rfl
  · exact .inr ⟨_, postB_events _ _ _ _ _ _⟩

theorem sramJudge_copies (b a : Nat) (s : State) : ((sramJudge b s).bar a).copies = (s.bar a).copies := by
  obtain e | ⟨o, h⟩ := sramJudge_events b s
  · rw [e]
  · exact (h.copies a).trans (modBar_copies _ _ _ _ rfl)

theorem sramJudge_gen (b : Nat) (s : State) : ((sramJudge b s).bar b).gen = (s.bar b).gen := by
  obtain e | ⟨o, h⟩ := sramJudge_events b s
  · rw [e]
  · rw [h.bar_gen, State.modIntake, bar_modBar_self]

theorem sramJudge_sessions (b n : Nat) (s : State) :
    ((sramJudge b s).moa.sessions.get? n).map Session.still = (s.moa.sessions.get? n).map Session.still := by
  obtain e | ⟨o, h⟩ := sramJudge_events b s
  · rw [e]
  · exact h.session n

/-! ### What a command lets go on (R43, R69) -/

theorem mem_waitingEnds {s : State} {n : Nat} (h : n ∈ waitingEnds s) :
    ∃ x, s.moa.sessions.get? n = some x ∧ x.endWaits = true := by
  replace h := (List.mem_filter.1 h).2
  split at h
  · exact ⟨_, ‹_›, h⟩
  · cases h

/-- R43: a session whose next request waits for a seal runs none. -/
theorem drain_of_waiting {s : State} {sid : Nat} {x : Session} (hx : s.moa.sessions.get? sid = some x)
    (hw : x.endWaits = true) (n : Nat) : drain sid n s = s := by
  cases n with
  | zero => rfl
  | succ n =>
    unfold Session.endWaits at hw
    unfold drain
    rw [hx]; dsimp only
    split
    · rfl
    · next e he =>
      rw [he] at hw
      exact if_pos hw

/-- An effect that neither changes the device state nor lets a session go on is the whole of its command. -/
theorem settled_of_waiting (f : State → State) (s : State) (hd : (f s).devState = s.devState)
    (hs : ∀ n, ((f s).moa.sessions.get? n).map Session.still = (s.moa.sessions.get? n).map Session.still) :
    settled f s = f s := by
  have cut : resumeCut s (f s) = f s := if_neg fun ⟨h1, h2⟩ => h2 (hd ▸ h1)
  unfold settled
  rw [cut]
  refine forAll_of_fixed _ _ _ fun n hn => ?_
  obtain ⟨x, hx, hw⟩ := mem_waitingEnds hn
  have h := hs n
  rw [hx] at h
  obtain ⟨y, hy, e⟩ := Option.map_eq_some_iff.1 h
  have still : y.endWaits = x.endWaits := (congrArg Session.endWaits e : y.still.endWaits = x.still.endWaits)
  exact drain_of_waiting hy (still.trans hw) 9

theorem quiet_to_devState {s t : State} (h : t.quiet = s.quiet) : t.devState = s.devState :=
  (congrArg State.devState h : t.quiet.devState = s.quiet.devState)

theorem quiet_to_now {s t : State} (h : t.quiet = s.quiet) : t.now = s.now := (congrArg State.now h : t.quiet.now = s.quiet.now)

theorem quiet_to_pending {s t : State} (h : t.quiet = s.quiet) : t.pending = s.pending :=
  (congrArg State.pending h : t.quiet.pending = s.quiet.pending)

/-- A command answers the state that its effect leaves, when that changes the bars and what events touch alone. -/
theorem run_answers_of_quiet {c : Instr} {dt : Nat} {s u : State} {f : State → State} {p : State → Prop}
    (hc : exec c s = run dt s f) (h : f (s.later dt) = u) (hq : u.quiet = (s.later dt).quiet) (hp : p u) : Answers c s p :=
  run_answers hc h (quiet_to_now hq) (quiet_to_pending (s := s.later dt) hq) hp

/-! ### The clauses -/

/-- R17, R18: COMMIT_REQ seals. -/
theorem commitReq_seals {dt : Nat} {door : Door} {b d : Nat} {v w : Slot} {s : State}
    (hw : Written s door 0x1220 0 v (some b) d w) (hh : holder s = true) (hr : (s.bar b).heldReq = none)
    (hg : (s.bar b).gen = none) (hb : blockBusy s b = false) (ho : (s.bar b).opn ≠ []) (hp : (s.bar b).peerSeal = none) :
    Answers (.commitReq dt door v) s fun t => (t.bar b).opn = [] ∧ (t.bar b).openHost = false ∧ (t.bar b).heldReq = none ∧
      (t.bar b).live = (s.bar b).live ∧ ∃ g, (t.bar b).gen = some g ∧ g.page = (effectivePage s b w.toNat).1 := by
  have free : (noRequest b (s.later dt)).bar b = s.bar b := noRequest_bar (s := s.later dt) hr
  have page : effectivePage (noRequest b (s.later dt)) b w.toNat = effectivePage s b w.toNat :=
    effectivePage_congr b _ rfl rfl free
  obtain ⟨m, copies⟩ : ∃ m, ((commitRequest b w.toNat (s.later dt)).bar b).copies =
      { live := (s.bar b).live, pend := m, opn := [], openHost := false, openDev := [], heldReq := (s.bar b).heldReq,
        sealedFor := some (effectivePage s b w.toNat).1 } :=
    ⟨_, by rw [commitRequest_seals (s := s.later dt) hr hg hb ho, releaseWaits_bar,
      sealNow_copies _ _ _ _ (by rw [free]; exact hp), sealAt_copies, free, page]⟩
  refine ⟨_, exec_commitReq hw hh, congrArg Copies.opn copies, congrArg Copies.openHost copies,
    (congrArg Copies.heldReq copies).trans hr, congrArg Copies.live copies, ?_⟩
  exact Option.map_eq_some_iff.1 (congrArg Copies.sealedFor copies)

/-- R17: COMMIT_REQ with nothing written completes at once. -/
theorem commitReq_completes {dt : Nat} {door : Door} {b d : Nat} {v w : Slot} {s : State}
    (hw : Written s door 0x1220 0 v (some b) d w) (hh : holder s = true) (hr : (s.bar b).heldReq = none)
    (hb : blockBusy s b = false) (ho : (s.bar b).opn = []) (hp : (s.bar b).peerSeal = none) :
    Answers (.commitReq dt door v) s fun t => (t.bar b).heldReq = none ∧ (t.bar b).opn = [] ∧
      (t.bar b).gen = (s.bar b).gen ∧ (t.bar b).pend = (s.bar b).pend ∧ (t.bar b).live = (s.bar b).live ∧
      t.quiet = (s.later dt).quiet := by
  have free : (noRequest b (s.later dt)).bar b = s.bar b := noRequest_bar (s := s.later dt) hr
  have posted := postB_events .commitSealed b w.toNat 2 (leBytes 4 w.toNat ++ leBytes 4 w.toNat) (noRequest b (s.later dt))
  have effect := commitRequest_completes (p := w.toNat) (s := s.later dt) hr hb ho hp
  have quiet : (commitRequest b w.toNat (s.later dt)).quiet = (s.later dt).quiet := by
    rw [effect, releaseWaits_quiet, posted.quiet]; rfl
  refine run_answers_of_quiet (exec_commitReq hw hh) rfl quiet ⟨?_, ?_, ?_, ?_, ?_, quiet⟩ <;> rw [effect, releaseWaits_bar]
  · rw [posted.bar_heldReq, free, hr]
  · rw [posted.bar_opn, free, ho]
  · rw [posted.bar_gen, free]
  · rw [posted.bar_pend, free]
  · rw [posted.bar_live, free]

/-- R18, R20: IDLE_COMMIT_EFFECT makes the pending copies live. -/
theorem idleCommitEffect_answers {dt : Nat} {b : Fin 16} {g : PendGen} {s : State} (hg : (s.bar b).gen = some g)
    (hi : g.idle = true) (hr : (s.bar b).heldReq = none) (hs : g.screening = false)
    (hc : ∀ p < 64, gapCols (s.later dt) p = s.dv 0x3430 p) :
    Answers (.idleCommitEffect dt b) s fun t => (t.bar b).live = overlay (s.bar b).live (s.bar b).pend ∧
      (t.bar b).pend = [] ∧ (t.bar b).gen = none ∧ (t.bar b).opn = (s.bar b).opn ∧ t.quiet = (s.later dt).quiet := by
  have events := commitLive_events (n := g.page) (s := s.later dt) hg hs hr hc
  have effect : idleCommitDue b (s.later dt) = sramJudge b (commitLive b g.page (s.later dt)) := by
    unfold idleCommitDue idleCommit
    rw [show ((s.later dt).bar b).gen = some g from hg]
    exact if_pos hi
  have quiet : (idleCommitDue b (s.later dt)).quiet = (s.later dt).quiet := by
    rw [effect, sramJudge_quiet, events.quiet, State_modBar_quiet]
  have whole : settled (idleCommitDue b) (s.later dt) = idleCommitDue b (s.later dt) :=
    settled_of_waiting _ _ (quiet_to_devState quiet) fun n => by
      rw [effect, sramJudge_sessions]; exact events.session n
  have copies : ((idleCommitDue b (s.later dt)).bar b).copies = (Bar.taken g (s.bar b)).copies := by
    rw [effect, sramJudge_copies, events.copies, bar_modBar_self]; rfl
  refine run_answers_of_quiet (c := .idleCommitEffect dt b) rfl whole quiet
    ⟨congrArg Copies.live copies, congrArg Copies.pend copies, ?_, congrArg Copies.opn copies, quiet⟩
  rw [effect, sramJudge_gen, events.bar_gen, bar_modBar_self]; rfl

/-- R21: DISCARD_OPEN empties the open copies alone. -/
theorem discardOpen_answers {dt : Nat} {door : Door} {b d : Nat} {v w : Slot} {s : State}
    (hw : Written s door 0x1222 0 v (some b) d w) (h0 : w ≠ 0) :
    Answers (.discardOpen dt door v) s fun t => (t.bar b).opn = [] ∧ (t.bar b).openHost = false ∧ (t.bar b).openDev = [] ∧
      (t.bar b).live = (s.bar b).live ∧ (t.bar b).pend = (s.bar b).pend ∧ (t.bar b).gen = (s.bar b).gen ∧
      t.quiet = (s.later dt).quiet := by
  have effect : writeThrough door 0x1222 0 v discardEffect (s.later dt) = discardOpen b (s.later dt) :=
    (hw.later dt).through _ _ fun _ => congrArg (Prod.mk stOK) (if_neg h0)
  have quiet : (discardOpen b (s.later dt)).quiet = (s.later dt).quiet := discardOpen_quiet _ _
  have copies : ((discardOpen b (s.later dt)).bar b).copies =
      { (s.bar b).copies with opn := [], openHost := false, openDev := [] } := by
    unfold discardOpen; rw [sramJudge_copies, bar_modBar_self]; rfl
  have gen : ((discardOpen b (s.later dt)).bar b).gen = (s.bar b).gen := by
    unfold discardOpen; rw [sramJudge_gen, bar_modBar_self]; rfl
  exact run_answers_of_quiet (c := .discardOpen dt door v) rfl effect quiet
    ⟨congrArg Copies.opn copies, congrArg Copies.openHost copies, congrArg Copies.openDev copies, congrArg Copies.live copies,
      congrArg Copies.pend copies, gen, quiet⟩

/-- Settles O17, clause by clause: what a commit request does with a request held, a generation pending, nothing written or
something written, what an idle generation does, and what a discard leaves. -/
theorem commitSealsAndTakesEffect : Obligations.CommitSealsAndTakesEffect := by
  unfold Obligations.CommitSealsAndTakesEffect
  refine ⟨?_, ?_, ?_, ?_, ?_, ?_⟩
  · intro dt door b d v w s hw hh hr hg hb ho hp
    exact commitReq_seals hw hh hr hg hb ho hp
  · intro dt door b d v w g s hw hh hr hg ho
    exact run_next (exec_commitReq hw hh) (commitRequest_waits (s := s.later dt) hr hg ho) rfl rfl
  · intro dt door b d v w s hw hh hr hb ho hp
    exact commitReq_completes hw hh hr hb ho hp
  · intro dt door b d v w p m s hw hh hr
    exact run_next (exec_commitReq hw hh) (commitRequest_merges (s := s.later dt) hr) rfl rfl
  · intro dt b g s hg hi hr hs hc
    exact idleCommitEffect_answers hg hi hr hs hc
  · intro dt door b d v w s hw h0
    exact discardOpen_answers hw h0

end Sys2Proof.Machine
end

/-! ## Dictionary writes (02_object_dictionary.md R27, R30; 13_control_cores.md R295) -/

section
namespace Sys2Proof.Machine
open Sys2Proof

/-- Table 02-2: the plain effect on a device-scope object that the host may write. -/
theorem plainEffect_dev {row : Row} (h : row.acc = .rw ∨ row.acc = .cfg) (sub : Nat) (w : Slot) (s : State) :
    plainEffect row none sub w s = (stOK, s.setDv row.idx sub w.toNat) := by
  unfold plainEffect
  obtain h | h := h <;> rw [h]

/-- Table 02-2: the plain effect on a bar-scope object that the host may write. -/
theorem plainEffect_bar {row : Row} (h : row.acc = .rw ∨ row.acc = .cfg) (b sub : Nat) (w : Slot) (s : State) :
    plainEffect row (some b) sub w s = (stOK, s.setBo b row.idx sub w.toNat) := by
  unfold plainEffect
  obtain h | h := h <;> rw [h]

/-- R15: a host's write of an open copy changes its bar alone. -/
theorem openHostSet_eq (b key : Nat) (v : Val) (s : State) :
    openHostSet b key v s = s.modBar b (fun x => { x with opn := x.opn.set key v, openHost := true }) :=
  modBar_modBar _ _ _ _

/-- R15: the plain effect on a staged object. -/
theorem plainEffect_staged {row : Row} (h : row.acc = .stg) (b sub : Nat) (w : Slot) (s : State) :
    plainEffect row (some b) sub w s = (stOK, openHostSet b (okey row.idx sub) (.slot w) s) := by
  unfold plainEffect; rw [h]

/-- An accepted write of an object without an effect of its own that has status OK leaves the state of the plain effect. -/
theorem Written.slotWrite_plain {s u : State} {door : Door} {idx sub : Nat} {v w : Slot} {bar : Option Nat} {dsub : Nat} {row : Row}
    (h : Written s door idx sub v bar dsub w) (hr : rowAt idx sub = some row)
    (he : objectEffect door idx sub = plainEffect) (hu : plainEffect row bar dsub w s = (stOK, u)) :
    slotWrite door idx sub v s = (stOK, u) := by
  obtain ⟨row', hr', hw⟩ := h.doorWrite plainEffect
  obtain rfl : row = row' := Option.some.inj (hr.symm.trans hr')
  unfold slotWrite
  rw [he, hw, hu]
  rfl

theorem Written.slotWrite_dev {s : State} {door : Door} {idx sub : Nat} {v w : Slot} {dsub : Nat} {row : Row}
    (h : Written s door idx sub v none dsub w) (hr : rowAt idx sub = some row) (ha : row.acc = .rw ∨ row.acc = .cfg)
    (he : objectEffect door idx sub = plainEffect) :
    slotWrite door idx sub v s = (stOK, s.setDv idx dsub w.toNat) :=
  h.slotWrite_plain hr he (rowAt_idx hr ▸ plainEffect_dev ha _ _ _)

theorem Written.slotWrite_bar {s : State} {door : Door} {idx sub : Nat} {v w : Slot} {b dsub : Nat} {row : Row}
    (h : Written s door idx sub v (some b) dsub w) (hr : rowAt idx sub = some row) (ha : row.acc = .rw ∨ row.acc = .cfg)
    (he : objectEffect door idx sub = plainEffect) :
    slotWrite door idx sub v s = (stOK, s.setBo b idx dsub w.toNat) :=
  h.slotWrite_plain hr he (rowAt_idx hr ▸ plainEffect_bar ha _ _ _ _)

theorem Written.slotWrite_staged {s : State} {door : Door} {idx sub : Nat} {v w : Slot} {b dsub : Nat} {row : Row}
    (h : Written s door idx sub v (some b) dsub w) (hr : rowAt idx sub = some row) (ha : row.acc = .stg)
    (he : objectEffect door idx sub = plainEffect) :
    slotWrite door idx sub v s = (stOK, openHostSet b (okey idx dsub) (.slot w) s) :=
  h.slotWrite_plain hr he (rowAt_idx hr ▸ plainEffect_staged ha _ _ _ _)

/-- R30: DICT_WRITE answers the state that its slot write leaves. -/
theorem exec_dictWrite {dt : Nat} {door : Door} {idx : BitVec 16} {sub : BitVec 8} {v : Slot} {s u : State}
    (h : slotWrite door idx.toNat sub.toNat v (s.later dt) = (stOK, u)) (hn : u.now = s.now + dt) (hp : u.pending = s.pending) :
    exec (.dictWrite dt door idx sub v) s = .next u := by
  change execDictWrite dt door idx sub v s = _
  unfold execDictWrite
  exact run_of (congrArg Prod.snd h) hn hp

/-- R295: so does an environment call of a running extension. -/
theorem exec_extDictCall {dt : Nat} {k : Fin 64} {idx : BitVec 16} {sub : BitVec 8} {v : Slot} {s u : State}
    (hk : extRunning s k = true) (h : slotWrite (.ext k) idx.toNat sub.toNat v (s.later dt) = (stOK, u))
    (hn : u.now = s.now + dt) (hp : u.pending = s.pending) :
    exec (.extDictCall dt k true idx sub v) s = .next u := by
  have running : extRunning (s.later dt) k = true := hk
  change execExtDictCall dt k true idx sub v s = _
  unfold execExtDictCall
  exact run_of (by simp [running, h]) hn hp

/-- Settles O6: the four clauses are the plain effect on a device, a bar and a staged object, through a host's door and an
extension's. -/
theorem dictionaryWritesReachTheObject : Obligations.DictionaryWritesReachTheObject := by
  unfold Obligations.DictionaryWritesReachTheObject
  refine ⟨?_, ?_, ?_, ?_⟩
  · intro dt door idx sub v dsub w row s hw hr ha he
    exact exec_dictWrite ((hw.later dt).slotWrite_dev hr ha he) rfl rfl
  · intro dt door idx sub v b dsub w row s hw hr ha he
    exact exec_dictWrite ((hw.later dt).slotWrite_bar hr ha he) rfl rfl
  · intro dt door idx sub v b dsub w row s hw hr ha he
    rw [← openHostSet_eq]
    exact exec_dictWrite ((hw.later dt).slotWrite_staged hr ha he) rfl rfl
  · intro dt k idx sub v b dsub w row s hk hw hr ha he
    exact exec_extDictCall hk ((hw.later dt).slotWrite_bar hr ha he) rfl rfl

end Sys2Proof.Machine
end

/-! ## Slot accesses in halves (02_object_dictionary.md R37 to R39) -/

section
namespace Sys2Proof.Machine
open Sys2Proof

/-! ### What a request changes of its function -/

/-- `t` differs from `s` at most in function `k`, whose own objects stay. -/
structure OnlyFn (k : Nat) (s t : State) : Prop where
  rest : t = { s with fns := t.fns }
  others : ∀ j, j ≠ k → t.fn j = s.fn j
  own : ∀ j, (t.fn j).own = (s.fn j).own

theorem OnlyFn.refl (k : Nat) (s : State) : OnlyFn k s s := ⟨rfl, fun _ _ => rfl, fun _ => rfl⟩

theorem OnlyFn.modFn {k : Nat} {s t : State} (h : OnlyFn k s t) (f : Fn → Fn) (hf : ∀ x, (f x).own = x.own) :
    OnlyFn k s (t.modFn k f) where
  rest := by rw [h.rest]; rfl
  others j hj := (fn_modFn_of_ne _ _ hj).trans (h.others j hj)
  own j := by
    by_cases e : j = k
    · subst e; rw [fn_modFn_self, hf, h.own]
    · rw [fn_modFn_of_ne _ _ e, h.own]

/-- R36: who stands behind a function's door does not turn on its halves. -/
theorem OnlyFn.whoIs {k : Nat} {s t : State} (h : OnlyFn k s t) (j : Fin 17) :
    Machine.whoIs t (.fn j) = Machine.whoIs s (.fn j) := by
  have hosts : ∀ b, hostOf t b = hostOf s b := fun b => by rw [h.rest]; rfl
  simp only [Machine.whoIs, h.own, hosts]

theorem OnlyFn.grant {k : Nat} {s t : State} (h : OnlyFn k s t) (door : Door) (who : Who) (wr : Bool) (idx sub : Nat) :
    Machine.grant t door who wr idx sub = Machine.grant s door who wr idx sub := by rw [h.rest]; rfl

theorem OnlyFn.written {k : Nat} {s t : State} (h : OnlyFn k s t) {j : Fin 17} {idx sub : Nat} {v w : Slot} {bar : Option Nat}
    {dsub : Nat} (hw : Written s (.fn j) idx sub v bar dsub w) : Written t (.fn j) idx sub v bar dsub w := by
  obtain ⟨who, row, h1, h2, h3⟩ := hw
  refine ⟨who, row, (h.whoIs j).trans h1, (h.grant _ _ _ _ _).trans h2, ?_⟩
  rw [h.rest]; exact h3

/-! ### The pieces of a 4-byte request -/

theorem reqPieces_lower {r : PcieReq} {slot : Nat} (he : r.enabled = true) (hl : r.len = 4) (ho : r.offset.toNat = slot * 8) :
    reqPieces r = some [(slot, 0, 4, r.data.take 4)] := by
  have h0 : slot * 8 % 8 = 0 := by omega
  have hd : slot * 8 / 8 = slot := by omega
  simp [reqPieces, he, hl, ho, h0, hd, sliceReq]

theorem reqPieces_upper {r : PcieReq} {slot : Nat} (he : r.enabled = true) (hl : r.len = 4)
    (ho : r.offset.toNat = slot * 8 + 4) : reqPieces r = some [(slot, 4, 4, r.data.take 4)] := by
  have h4 : (slot * 8 + 4) % 8 = 4 := by omega
  have hd : (slot * 8 + 4) / 8 = slot := by omega
  simp [reqPieces, he, hl, ho, h4, hd]

theorem slotRequest_write {k : Fin 17} {r : PcieReq} {slot first n : Nat} {bs : List Byte} (hw : r.write = true)
    (hp : reqPieces r = some [(slot, first, n, bs)]) (s : State) :
    slotRequest k r s = pieceWrite k slot first n bs (dropHalves k slot s) := by
  simp [slotRequest, hp, hw, onePiece]

theorem slotRequest_read {k : Fin 17} {r : PcieReq} {slot first n : Nat} {bs : List Byte} (hw : r.write = false)
    (hp : reqPieces r = some [(slot, first, n, bs)]) (s : State) :
    slotRequest k r s =
      (pieceRead k slot first n (dropHalves k slot s)).2.emit (.readDone k (pieceRead k slot first n (dropHalves k slot s)).1) := by
  simp [slotRequest, hp, hw, onePiece]

/-! ### Halves held and latched -/

/-- A half of another slot than `slot`. -/
def otherSlot (slot : Nat) : Option (Nat × Nat) → Bool
  | some h => h.1 != slot
  | none => false

theorem otherSlot_of_same {slot : Nat} {x : Option (Nat × Nat)} (h : ∀ y, x = some y → y.1 = slot) :
    otherSlot slot x = false := by
  cases x with
  | none => rfl
  | some y => simp [otherSlot, h y rfl]

def Fn.setHeld (x : Option (Nat × Nat)) (f : Fn) : Fn := { f with held := x }
def Fn.setLatch (x : Option (Nat × Nat)) (f : Fn) : Fn := { f with latch := x }

theorem dropHalves_eq (k : Fin 17) (slot : Nat) (s : State) :
    dropHalves k slot s =
      (let u := if otherSlot slot (s.fn k).latch then s.modFn k (Fn.setLatch none) else s
       if otherSlot slot (u.fn k).held then discardHeld k u else u) := rfl

/-- R39: a request to a slot leaves a half that is held for it, and may end a latch. -/
theorem dropHalves_onlyFn {k : Fin 17} {slot : Nat} {s : State} (h : ∀ x, (s.fn k).held = some x → x.1 = slot) :
    OnlyFn k s (dropHalves k slot s) ∧ ((dropHalves k slot s).fn k).held = (s.fn k).held := by
  have same := otherSlot_of_same h
  rw [dropHalves_eq]
  dsimp only
  split
  · have held : ((s.modFn k (Fn.setLatch none)).fn k).held = (s.fn k).held := by
      rw [fn_modFn_self]; rfl
    rw [held, same]
    exact ⟨(OnlyFn.refl k s).modFn _ fun _ => rfl, held⟩
  · rw [same]
    exact ⟨OnlyFn.refl k s, rfl⟩

/-- R39: halves of the slot itself stay. -/
theorem dropHalves_of_same {k : Fin 17} {slot : Nat} {s : State} (hl : ∀ x, (s.fn k).latch = some x → x.1 = slot)
    (hh : ∀ x, (s.fn k).held = some x → x.1 = slot) : dropHalves k slot s = s := by
  simp [dropHalves_eq, otherSlot_of_same hl, otherSlot_of_same hh]

theorem discardHeld_of_none {k : Fin 17} {s : State} (h : (s.fn k).held = none) : discardHeld k s = s := by
  unfold discardHeld; rw [h]

/-- R39: a lower half of a 64-bit slot is held. -/
theorem pieceWrite_lower {k : Fin 17} {idx sub : Nat} {bs : List Byte} {s : State} (hs : sub < 256) (h64 : is64 idx sub = true)
    (hh : (s.fn k).held = none) :
    pieceWrite k (idx * 256 + sub) 0 4 bs s = s.modFn k (Fn.setHeld (some (idx * 256 + sub, leNat bs))) := by
  have hi : (idx * 256 + sub) / 256 = idx := by omega
  have hj : (idx * 256 + sub) % 256 = sub := by omega
  simp [pieceWrite, hi, hj, h64, discardHeld_of_none hh]
  rfl

/-- R39: the upper half that follows writes both as one value. -/
theorem pieceWrite_upper {k : Fin 17} {idx sub low : Nat} {bs : List Byte} {s : State} (hs : sub < 256) (h64 : is64 idx sub = true)
    (hh : (s.fn k).held = some (idx * 256 + sub, low)) :
    pieceWrite k (idx * 256 + sub) 4 4 bs s =
      (slotWrite (.fn k) idx sub (BitVec.ofNat 64 (low + leNat bs * 2 ^ 32)) (s.modFn k (Fn.setHeld none))).2 := by
  have hi : (idx * 256 + sub) / 256 = idx := by omega
  have hj : (idx * 256 + sub) % 256 = sub := by omega
  simp [pieceWrite, hi, hj, h64, hh]
  rfl

/-- R39: a read of the lower half of a 64-bit slot returns it and latches the upper. -/
theorem pieceRead_lower {k : Fin 17} {idx sub : Nat} {s : State} (hs : sub < 256) (h64 : is64 idx sub = true)
    (hl : (s.fn k).latch = none) :
    pieceRead k (idx * 256 + sub) 0 4 s =
      (leBytes 4 (readSlot (.fn k) idx sub s).1.val, (readSlot (.fn k) idx sub s).2.modFn k
        (Fn.setLatch (some (idx * 256 + sub, (readSlot (.fn k) idx sub s).1.val / 2 ^ 32)))) := by
  have hi : (idx * 256 + sub) / 256 = idx := by omega
  have hj : (idx * 256 + sub) % 256 = sub := by omega
  simp [pieceRead, hi, hj, h64, hl]
  rfl

/-- R39: a read of the upper half returns what is latched. -/
theorem pieceRead_upper {k : Fin 17} {slot a high : Nat} {s : State} (hl : (s.fn k).latch = some (a, high)) :
    pieceRead k slot 4 4 s = (leBytes 4 high, s.modFn k (Fn.setLatch none)) := by
  simp [pieceRead, hl]
  rfl

/-- R30: a read that the arbiter lets through to an object that is not the session's own changes nothing. -/
theorem readSlot_of_grant {s : State} {door : Door} {idx sub : Nat} {who : Who} {row : Row} {bar : Option Nat} {dsub : Nat}
    (hw : whoIs s door = some who) (hg : grant s door who false idx sub = .ok row bar dsub) (ho : isOwn idx = false) :
    readSlot door idx sub s = (⟨slotRead s row bar dsub, stOK, row.ty.code⟩, s) := by
  simp [readSlot, hw, hg, ho]

/-! ### The four requests -/

/-- A request to BAR0 answers the state that its pieces leave. -/
theorem slotHalfAccess_answers {dt : Nat} {k : Fin 17} {r : PcieReq} {s u : State} {p : State → Prop} (hb : r.bar4 = false)
    (h : slotRequest k r (s.later dt) = u) (hn : u.now = s.now + dt) (hq : u.pending = s.pending) (hp : p u) :
    Answers (.slotHalfAccess dt k r) s p := by
  refine ⟨u, ?_, hp⟩
  change execSlotHalfAccess dt k r s = _
  unfold execSlotHalfAccess
  rw [hb]
  exact run_of h hn hq

/-- R39: the lower half of a write is held. -/
theorem lowerWrite_answers {dt : Nat} {k : Fin 17} {r : PcieReq} {idx sub : Nat} {s : State} (hw : r.write = true)
    (hb : r.bar4 = false) (he : r.enabled = true) (hl : r.len = 4) (hs : sub < 256)
    (ho : r.offset.toNat = (idx * 256 + sub) * 8) (h64 : is64 idx sub = true) (hh : (s.fn k).held = none) :
    Answers (.slotHalfAccess dt k r) s fun t => (t.fn k).held = some (idx * 256 + sub, leNat (r.data.take 4)) ∧
      t = { s.later dt with fns := t.fns } ∧ ∀ j : Fin 17, j ≠ k → t.fn j = s.fn j := by
  obtain ⟨dropped, held⟩ := dropHalves_onlyFn (slot := idx * 256 + sub) (s := s.later dt) (k := k)
    (fun x hx => nomatch hh.symm.trans hx)
  have effect := slotRequest_write (k := k) hw (reqPieces_lower he hl ho) (s.later dt)
  rw [pieceWrite_lower hs h64 (held.trans hh)] at effect
  have only := dropped.modFn (Fn.setHeld (some (idx * 256 + sub, leNat (r.data.take 4)))) fun _ => rfl
  refine slotHalfAccess_answers hb effect ?_ ?_ ⟨?_, only.rest, fun j hj => only.others j (Fin.val_ne_of_ne hj)⟩
  · rw [only.rest]; rfl
  · rw [only.rest]; rfl
  · exact congrArg Fn.held (fn_modFn_self _ _ _)

/-- R39: the upper half that follows writes the value. -/
theorem upperWrite_answers {dt : Nat} {k : Fin 17} {r : PcieReq} {idx sub low : Nat} {v w : Slot} {dsub : Nat} {row : Row}
    {s : State} (hw : r.write = true) (hb : r.bar4 = false) (he : r.enabled = true) (hl : r.len = 4) (hs : sub < 256)
    (ho : r.offset.toNat = (idx * 256 + sub) * 8 + 4) (h64 : is64 idx sub = true)
    (hh : (s.fn k).held = some (idx * 256 + sub, low)) (hv : v = BitVec.ofNat 64 (low + leNat (r.data.take 4) * 2 ^ 32))
    (written : Written s (.fn k) idx sub v none dsub w) (hr : rowAt idx sub = some row) (ha : row.acc = .rw ∨ row.acc = .cfg)
    (hp : objectEffect (.fn k) idx sub = plainEffect) :
    Answers (.slotHalfAccess dt k r) s fun t => t.dv idx dsub = w.toNat ∧ (t.fn k).held = none ∧
      t = { s.later dt with fns := t.fns, dev := ((s.later dt).setDv idx dsub w.toNat).dev } := by
  obtain ⟨dropped, held⟩ := dropHalves_onlyFn (slot := idx * 256 + sub) (s := s.later dt) (k := k)
    (fun x hx => congrArg Prod.fst (Option.some.inj (hh.symm.trans hx)).symm)
  have only := dropped.modFn (Fn.setHeld none) fun _ => rfl
  have effect := slotRequest_write (k := k) hw (reqPieces_upper he hl ho) (s.later dt)
  rw [pieceWrite_upper hs h64 (held.trans hh), ← hv, (only.written (written.later dt)).slotWrite_dev hr ha hp] at effect
  refine slotHalfAccess_answers hb effect ?_ ?_ ⟨?_, ?_, ?_⟩
  · rw [only.rest]; rfl
  · rw [only.rest]; rfl
  · rw [dv_setDv_self]; exact Nat.mod_eq_of_lt w.isLt
  · exact congrArg Fn.held (fn_modFn_self (dropHalves k (idx * 256 + sub) (s.later dt)) k (Fn.setHeld none))
  · rw [only.rest]; rfl

/-- R39: a read of the lower half latches the upper. -/
theorem lowerRead_answers {dt : Nat} {k : Fin 17} {r : PcieReq} {idx sub : Nat} {row : Row} {bar : Option Nat} {dsub : Nat}
    {who : Who} {s : State} (hw : r.write = false) (hb : r.bar4 = false) (he : r.enabled = true) (hl : r.len = 4)
    (hs : sub < 256) (ho : r.offset.toNat = (idx * 256 + sub) * 8) (h64 : is64 idx sub = true) (hown : isOwn idx = false)
    (hlatch : (s.fn k).latch = none) (hh : ∀ h, (s.fn k).held = some h → h.1 = idx * 256 + sub)
    (hwho : whoIs (s.later dt) (.fn k) = some who)
    (hg : grant (s.later dt) (.fn k) who false idx sub = .ok row bar dsub) :
    Answers (.slotHalfAccess dt k r) s fun t => let v := slotRead (s.later dt) row bar dsub
      t.out = s.out ++ [.readDone k (leBytes 4 v)] ∧ (t.fn k).latch = some (idx * 256 + sub, v / 2 ^ 32) ∧
      t = { s.later dt with fns := t.fns, out := t.out } ∧ ∀ j : Fin 17, j ≠ k → t.fn j = s.fn j := by
  have effect : slotRequest k r (s.later dt) = ((s.later dt).modFn k (Fn.setLatch
      (some (idx * 256 + sub, slotRead (s.later dt) row bar dsub / 2 ^ 32)))).emit
        (.readDone k (leBytes 4 (slotRead (s.later dt) row bar dsub))) := by
    rw [slotRequest_read hw (reqPieces_lower he hl ho),
      dropHalves_of_same (s := s.later dt) (fun x hx => nomatch hlatch.symm.trans hx) hh,
      pieceRead_lower (s := s.later dt) hs h64 hlatch, readSlot_of_grant hwho hg hown]
  exact slotHalfAccess_answers hb effect rfl rfl ⟨rfl, congrArg Fn.latch (fn_modFn_self (s.later dt) k (Fn.setLatch _)), rfl,
    fun j hj => fn_modFn_of_ne (s.later dt) (Fn.setLatch _) (Fin.val_ne_of_ne hj)⟩

/-- R39: the read of the upper half that follows returns what is latched. -/
theorem upperRead_answers {dt : Nat} {k : Fin 17} {r : PcieReq} {idx sub high : Nat} {s : State} (hw : r.write = false)
    (hb : r.bar4 = false) (he : r.enabled = true) (hl : r.len = 4) (ho : r.offset.toNat = (idx * 256 + sub) * 8 + 4)
    (hlatch : (s.fn k).latch = some (idx * 256 + sub, high)) (hh : ∀ h, (s.fn k).held = some h → h.1 = idx * 256 + sub) :
    Answers (.slotHalfAccess dt k r) s fun t => t.out = s.out ++ [.readDone k (leBytes 4 high)] ∧
      t.fn k = { s.fn k with latch := none } ∧ t = { s.later dt with fns := t.fns, out := t.out } ∧
      ∀ j : Fin 17, j ≠ k → t.fn j = s.fn j := by
  have effect : slotRequest k r (s.later dt) = ((s.later dt).modFn k (Fn.setLatch none)).emit (.readDone k (leBytes 4 high)) := by
    rw [slotRequest_read hw (reqPieces_upper he hl ho),
      dropHalves_of_same (s := s.later dt) (fun x hx => congrArg Prod.fst (Option.some.inj (hlatch.symm.trans hx)).symm) hh,
      pieceRead_upper (s := s.later dt) hlatch]
  exact slotHalfAccess_answers hb effect rfl rfl ⟨rfl, fn_modFn_self (s.later dt) k (Fn.setLatch none), rfl,
    fun j hj => fn_modFn_of_ne (s.later dt) (Fn.setLatch none) (Fin.val_ne_of_ne hj)⟩

/-- Settles O7: the lower half of a write and of a read, and the upper half that follows each. -/
theorem slotHalvesAreJoined : Obligations.SlotHalvesAreJoined := by
  unfold Obligations.SlotHalvesAreJoined
  refine ⟨?_, ?_, ?_, ?_⟩
  · intro dt k r idx sub s hw hb he hl hs ho h64 hh
    exact lowerWrite_answers hw hb he hl hs ho h64 hh
  · intro dt k r idx sub low v dsub w row s hw hb he hl hs ho h64 hh hv written hr ha hp
    exact upperWrite_answers hw hb he hl hs ho h64 hh hv written hr ha hp
  · intro dt k r idx sub row bar dsub who s hw hb he hl hs ho h64 hown hlatch hh hwho hg
    exact lowerRead_answers hw hb he hl hs ho h64 hown hlatch hh hwho hg
  · intro dt k r idx sub high s hw hb he hl _ ho hlatch hh
    exact upperRead_answers hw hb he hl ho hlatch hh

end Sys2Proof.Machine
end

/-! ## The layout and the violation counters (02_object_dictionary.md R33, R60) -/

section
namespace Sys2Proof.Machine
open Sys2Proof

/-- R60: bars `b` and `c` have columns, and a span in common. -/
def spansOverlap (s : State) (b c : Nat) : Prop :=
  0 < s.spanCount b ∧ 0 < s.spanCount c ∧ s.firstSpan b < s.firstSpan c + s.spanCount c ∧
    s.firstSpan c < s.firstSpan b + s.spanCount b

/-- R60: bar `b` has columns and runs past span 31. -/
def spansRunOver (s : State) (b : Nat) : Prop := 0 < s.spanCount b ∧ 32 < s.firstSpan b + s.spanCount b

theorem mem_barsWithCols {s : State} {b : Nat} : b ∈ s.barsWithCols ↔ b < 16 ∧ 0 < s.spanCount b := by
  simp [State.barsWithCols]

/-- R60: what check 0x21 looks for. -/
theorem layoutBad_iff {s : State} : layoutBad s = true ↔
    (∃ b c, b < 16 ∧ c < 16 ∧ b ≠ c ∧ spansOverlap s b c) ∨ (∃ b, b < 16 ∧ spansRunOver s b) := by
  unfold layoutBad spansOverlap spansRunOver
  simp only [List.any_eq_true, Bool.or_eq_true, Bool.and_eq_true, decide_eq_true_eq, mem_barsWithCols]
  constructor
  · rintro ⟨b, ⟨hb, wb⟩, past | ⟨c, ⟨hc, wc⟩, ⟨hlt, h1⟩, h2⟩⟩
    · exact .inr ⟨b, hb, wb, past⟩
    · exact .inl ⟨b, c, hb, hc, Nat.ne_of_lt hlt, wb, wc, h1, h2⟩
  · rintro (⟨b, c, hb, hc, hne, wb, wc, h1, h2⟩ | ⟨b, hb, wb, past⟩)
    · obtain hlt | hlt := Nat.lt_or_gt_of_ne hne
      · exact ⟨b, ⟨hb, wb⟩, .inr ⟨c, ⟨hc, wc⟩, ⟨hlt, h1⟩, h2⟩⟩
      · exact ⟨c, ⟨hc, wc⟩, .inr ⟨b, ⟨hb, wb⟩, ⟨hlt, h2⟩, h1⟩⟩
    · exact ⟨b, ⟨hb, wb⟩, .inl past⟩

theorem layoutRefused_of_bad {s : State} {b v : Nat} (h : layoutBad (s.setDv 0x1206 b v) = true) : layoutRefused s b v = true := by
  simp [layoutRefused, h]

/-- R60: a layout value that is refused. -/
theorem layoutEffect_refused {s : State} {b : Nat} {w : Slot} (h : layoutRefused s b w.toNat = true) (row : Row) (bar : Option Nat) :
    layoutEffect row bar b w s = (stRange, s) := by
  simp [layoutEffect, rated, onDev, h, stRange, stOK]

/-- R344: a judgement of the line rate changes the power alone. -/
theorem rateJudge_power (old : Nat) (s : State) : ∃ p, rateJudge old s = { s with power := p } := by
  have settles : ∀ t : State, ∃ p, rateSettle t = { t with power := p } := by
    intro t
    unfold rateSettle
    split
    · split
      · exact ⟨_, rfl⟩
      · exact ⟨t.power, rfl⟩
    · exact ⟨t.power, rfl⟩
  unfold rateJudge
  split
  · obtain ⟨p, hp⟩ := settles (s.modPower fun p => { p with enforced := some old })
    exact ⟨p, hp⟩
  · exact settles s

/-- R60, R80: a layout value that is accepted is held by its entry. -/
theorem layoutEffect_accepted {s : State} {b : Nat} {w : Slot} (h : layoutRefused s b w.toNat = false) (row : Row) (bar : Option Nat) :
    ∃ u, layoutEffect row bar b w s = (stOK, u) ∧ u.dv 0x1206 b = w.toNat ∧ u.now = s.now ∧ u.pending = s.pending := by
  obtain ⟨t, ht, dv, now, pending⟩ : ∃ t, (if s.dv 0x1206 b = w.toNat then (stOK, s)
      else (stOK, (emptyCaldera b s).setDv 0x1206 b w.toNat)) = (stOK, t) ∧
      t.dv 0x1206 b = w.toNat ∧ t.now = s.now ∧ t.pending = s.pending := by
    split
    · next e => exact ⟨s, rfl, e, rfl, rfl⟩
    · refine ⟨_, rfl, ?_, quiet_to_now (emptyCaldera_quiet b s), quiet_to_pending (emptyCaldera_quiet b s)⟩
      rw [dv_setDv_self]; exact Nat.mod_eq_of_lt w.isLt
  obtain ⟨p, hp⟩ := rateJudge_power (lineEnforced s) t
  refine ⟨rateJudge (lineEnforced s) t, ?_, ?_⟩
  · simp [layoutEffect, rated, onDev, h, ht]
  · rw [hp]; exact ⟨dv, now, pending⟩

/-- R40: recording a status touches no device object. -/
theorem recordStatus_dev (door : Door) (idx sub code : Nat) (s : State) : (recordStatus door idx sub code s).dev = s.dev := by
  unfold recordStatus
  split
  · rfl
  · unfold modOwn
    split
    · rfl
    · unfold State.modSession; split <;> rfl
    · rfl

/-- R60: a refused layout value changes no entry. -/
theorem vbLayoutWrite_refused {dt : Nat} {door : Door} {sub : Fin 16} {v w : Slot} {dsub : Nat} {s : State}
    (hw : Written s door 0x1206 sub v none dsub w) (h : layoutRefused s dsub w.toNat = true) :
    (doorWrite door 0x1206 sub v layoutEffect s).1 = stRange ∧
    Answers (.vbLayoutWrite dt door sub v) s fun t => ∀ j < 16, t.dv 0x1206 j = s.dv 0x1206 j := by
  obtain ⟨row, _, effect⟩ := hw.doorWrite layoutEffect
  obtain ⟨row', _, effect'⟩ := (hw.later dt).doorWrite layoutEffect
  rw [layoutEffect_refused h] at effect
  rw [layoutEffect_refused (s := s.later dt) h] at effect'
  have quiet : (writeThrough door 0x1206 sub v layoutEffect (s.later dt)).quiet = (s.later dt).quiet := by
    unfold writeThrough; rw [effect']; exact recordStatus_quiet _ _ _ _ _
  refine ⟨congrArg Prod.fst effect, run_answers_of_quiet (c := .vbLayoutWrite dt door sub v) rfl rfl quiet fun j _ => ?_⟩
  unfold State.dv writeThrough
  rw [effect', recordStatus_dev]; rfl

/-- Settles O8: a value that makes two bars overlap, or one run over, fails the check that the write makes, which is check 0x21. -/
theorem layoutThatOverlapsIsRefused : Obligations.LayoutThatOverlapsIsRefused := by
  unfold Obligations.LayoutThatOverlapsIsRefused
  constructor
  · intro dt door sub v dsub w s hw bad
    exact vbLayoutWrite_refused hw (layoutRefused_of_bad (layoutBad_iff.2 bad))
  · intro s
    exact ⟨List.mem_cons_self, layoutBad_iff⟩

/-! ### The violation counters -/

/-- Setting subindices of one object to 0, read back. -/
theorem dv_forAll_zero (i j : Nat) (xs : List Nat) (s : State) :
    (forAll xs (fun k s => s.setDv i k 0) s).dv i j = if j ∈ xs then 0 else s.dv i j := by
  induction xs generalizing s with
  | nil => rfl
  | cons x xs ih =>
    rw [forAll_cons, ih]
    by_cases hj : j ∈ xs
    · simp [hj]
    · by_cases e : j = x
      · subst e; simp
      · rw [dv_setDv_of_ne _ _ _ _ _ _ (by unfold okey; omega)]
        simp [hj, e]

/-- Setting subindices of one object leaves every other object. -/
theorem dv_forAll_zero_of_ne {i idx sub : Nat} {xs : List Nat} (h : ∀ k ∈ xs, okey idx sub ≠ okey i k) (s : State) :
    (forAll xs (fun k s => s.setDv i k 0) s).dv idx sub = s.dv idx sub := by
  induction xs generalizing s with
  | nil => rfl
  | cons x xs ih =>
    rw [forAll_cons, ih fun k hk => h k (List.mem_cons_of_mem x hk), dv_setDv_of_ne _ _ _ _ _ _ (h x List.mem_cons_self)]

/-- Setting device objects changes nothing but device objects. -/
theorem forAll_setDv_dev (i : Nat) (xs : List Nat) (s : State) :
    forAll xs (fun k s => s.setDv i k 0) s = { s with dev := (forAll xs (fun k s => s.setDv i k 0) s).dev } := by
  refine forAll_induct (fun t => t = { s with dev := t.dev }) xs _ s (fun k t ht => ?_) rfl
  rw [ht]; rfl

/-- R33: VIOLATION_CLEAR. -/
theorem violationClear_answers {dt : Nat} {door : Door} {v w : Slot} {dsub : Nat} {s : State}
    (hw : Written s door 0x1211 0 v none dsub w) (h0 : w ≠ 0) :
    Answers (.violationClear dt door v) s fun t => (∀ k < 17, t.dv 0x1210 k = 0) ∧
      (∀ idx sub, sub < 256 → idx ≠ 0x1210 → t.dv idx sub = s.dv idx sub) ∧ t = { s.later dt with dev := t.dev } := by
  have effect : writeThrough door 0x1211 0 v violationEffect (s.later dt) =
      forAll (List.range 17) (fun k s => s.setDv 0x1210 k 0) (s.later dt) :=
    (hw.later dt).through _ _ fun _ => congrArg (Prod.mk stOK) (if_neg h0)
  have frame := forAll_setDv_dev 0x1210 (List.range 17) (s.later dt)
  refine run_answers (c := .violationClear dt door v) rfl effect (by rw [frame]; rfl) (by rw [frame]; rfl) ⟨?_, ?_, frame⟩
  · intro k hk
    rw [dv_forAll_zero, if_pos (List.mem_range.2 hk)]
  · intro idx sub hs hi
    rw [dv_forAll_zero_of_ne fun k hk => ?_]
    · rfl
    · have := List.mem_range.1 hk
      unfold okey; omega

/-- Settles O9: an accepted layout value stands after the change of the line rate is judged; VIOLATION_CLEAR is a loop over the
counters. -/
theorem layoutAndViolationWritesComplete : Obligations.LayoutAndViolationWritesComplete := by
  unfold Obligations.LayoutAndViolationWritesComplete
  constructor
  · intro dt door sub v dsub w s hw h
    obtain ⟨row, _, effect⟩ := (hw.later dt).doorWrite layoutEffect
    obtain ⟨u, accepted, dv, now, pending⟩ := layoutEffect_accepted (s := s.later dt) h row none
    rw [accepted] at effect
    exact run_answers (c := .vbLayoutWrite dt door sub v) rfl (congrArg Prod.snd effect) now pending dv
  · intro dt door v dsub w s hw h0
    exact violationClear_answers hw h0

end Sys2Proof.Machine
end

/-! ## Block transfers (02_object_dictionary.md R41 to R44; 07_head_link.md R174) -/

section
namespace Sys2Proof.Machine
open Sys2Proof

/-! ### A channel changed -/

theorem fn_modChan_of_ne {k j : Nat} (c : Nat) (g : Chan → Chan) (s : State) (h : j ≠ k) : (modChan k c g s).fn j = s.fn j :=
  fn_modFn_of_ne _ _ h

@[simp] theorem chan_modChan_self (k c : Nat) (g : Chan → Chan) (s : State) :
    ((modChan k c g s).fn k).chan c = g ((s.fn k).chan c) := by
  simp [modChan, Fn.chan, Map.modify]

theorem chan_modChan_of_ne {j c : Nat} (k : Nat) (g : Chan → Chan) (s : State) (h : j ≠ c) :
    ((modChan k c g s).fn k).chan j = (s.fn k).chan j := by
  simp [modChan, Fn.chan, Map.modify, Map.getD_set_of_ne _ _ _ h]

theorem modChan_onlyFn (k c : Nat) (g : Chan → Chan) (s : State) : OnlyFn k s (modChan k c g s) :=
  (OnlyFn.refl k s).modFn _ fun _ => rfl

/-- R41: what a block access reaches does not turn on channels. -/
theorem OnlyFn.blockGrant {k : Nat} {s t : State} (h : OnlyFn k s t) (j : Fin 17) (wr : Bool) (idx sub off len : Nat) :
    Machine.blockGrant t (.fn j) wr idx sub off len = Machine.blockGrant s (.fn j) wr idx sub off len := by
  have checks : ∀ row bar dsub, blockCheck t wr row bar dsub off len = blockCheck s wr row bar dsub off len :=
    fun row bar dsub => by rw [h.rest]; rfl
  simp only [Machine.blockGrant, h.whoIs, h.grant, checks]

theorem OnlyFn.readBytes {k : Nat} {s t : State} (h : OnlyFn k s t) (row : Row) (bar : Option Nat) (sub off len : Nat) :
    Machine.readBytes t row bar sub off len = Machine.readBytes s row bar sub off len := by rw [h.rest]; rfl

/-! ### START -/

/-- R41: the registers that START takes. -/
def Chan.asked (r : BtRegs) : Chan → Chan := fun x =>
  { x with object := r.object.toNat, offset := r.offset.toNat, length := r.length.toNat, addr := r.addr.toNat }

/-- R42, R43: the channel moves bytes of the object `key`. -/
def Chan.begun (toObject : Bool) (bar : Option Nat) (key : Nat) (snap : List Byte) (waits : Bool) (order : Nat) (x : Chan) : Chan :=
  { x with
    toObject := toObject, state := 1, code := 0, done := 0, crc := 0, snap := snap, waits := waits, order := order, bar := bar,
    key := key, hidden := false }

/-- R41: START of an object that may be reached sets the registers of its channel and begins. -/
theorem startChan_granted {k : Fin 17} {c : Nat} {r : BtRegs} {wr : Bool} {s : State} {row : Row} {bar : Option Nat} {dsub : Nat}
    (h0 : 0 < r.length.toNat) (h1 : r.length.toNat ≤ 0x04000000) (ha : r.addr.toNat % 64 = 0)
    (hg : blockGrant s (.fn k) wr (bitsN r.object.toNat 31 16) (bitsN r.object.toNat 15 8) r.offset.toNat
      r.length.toNat = .ok row bar dsub) :
    ∃ order, startChan k c r wr s = modChan k c (Chan.begun wr bar (okey row.idx dsub)
      (if wr then [] else readBytes s row bar dsub r.offset.toNat r.length.toNat) (mustWait s (sealBar wr bar)) order)
      (modChan k c (Chan.asked r) s) := by
  have asked := modChan_onlyFn k c (Chan.asked r) s
  have start : blockStart (.fn k) wr (bitsN r.object.toNat 31 16) (bitsN r.object.toNat 15 8) r.offset.toNat r.length.toNat
      (modChan k c (Chan.asked r) s) = (.ok row bar dsub, modChan k c (Chan.asked r) s) := by
    unfold blockStart
    rw [asked.blockGrant, hg]
  refine ⟨lastOrder (modChan k c (Chan.asked r) s) + 1, ?_⟩
  have inRange : ¬ (r.length.toNat = 0 ∨ 0x04000000 < r.length.toNat) := by omega
  rw [← asked.readBytes]
  unfold Chan.asked at start ⊢
  unfold startChan
  dsimp only
  rw [if_neg inRange, start]
  exact if_neg (not_not_intro ha)

/-- BT_START of an idle channel is START. -/
theorem exec_btStart {dt : Nat} {k : Fin 17} {c : Fin 4} {r : BtRegs} {wr : Bool} {s u : State} (hd : s.devState ≠ .boot)
    (hc : ((s.fn k).chan c).state ≠ 1) (h : startChan k c r wr (s.later dt) = u) (hn : u.now = s.now + dt)
    (hp : u.pending = s.pending) : exec (.btStart dt k c r wr) s = .next u := by
  have outOfBoot : (s.later dt).devState ≠ .boot := hd
  have idle : (((s.later dt).fn k).chan c).state ≠ 1 := hc
  change execBtStart dt k c r wr s = _
  unfold execBtStart
  exact run_of (by simp only [if_neg outOfBoot, if_neg idle, h]) hn hp

/-- R43: a write waits exactly when a commit request of its bar is held. -/
theorem mustWait_iff {s : State} {bar : Option Nat} : mustWait s bar = true ↔ ∃ b, bar = some b ∧ (s.bar b).heldReq.isSome := by
  cases bar <;> simp [mustWait]

/-- R41 to R43: a START that is granted leaves its channel busy with what it moves. -/
theorem btStart_answers {dt : Nat} {k : Fin 17} {c : Fin 4} {r : BtRegs} {wr : Bool} {s : State} {row : Row} {bar : Option Nat}
    {dsub : Nat} (hd : s.devState ≠ .boot) (hc : ((s.fn k).chan c).state ≠ 1) (h0 : 0 < r.length.toNat)
    (h1 : r.length.toNat ≤ 0x04000000) (ha : r.addr.toNat % 64 = 0)
    (hg : blockGrant (s.later dt) (.fn k) wr (bitsN r.object.toNat 31 16) (bitsN r.object.toNat 15 8) r.offset.toNat
      r.length.toNat = .ok row bar dsub) :
    Answers (.btStart dt k c r wr) s fun t =>
      (∃ order, (t.fn k).chan c = Chan.begun wr bar (okey row.idx dsub)
        (if wr then [] else readBytes (s.later dt) row bar dsub r.offset.toNat r.length.toNat)
        (mustWait s (sealBar wr bar)) order (Chan.asked r ((s.fn k).chan c))) ∧ t = { s.later dt with fns := t.fns } ∧
      (∀ j : Fin 17, j ≠ k → t.fn j = s.fn j) ∧ ∀ j : Fin 4, j ≠ c → (t.fn k).chan j = (s.fn k).chan j := by
  obtain ⟨order, begun⟩ := startChan_granted (s := s.later dt) (k := k) (c := c) h0 h1 ha hg
  refine ⟨_, exec_btStart hd hc begun rfl rfl, ⟨order, ?_⟩, rfl, fun j hj => ?_, fun j hj => ?_⟩
  · rw [chan_modChan_self, chan_modChan_self]; rfl
  · rw [fn_modChan_of_ne _ _ _ (Fin.val_ne_of_ne hj), fn_modChan_of_ne _ _ _ (Fin.val_ne_of_ne hj)]; rfl
  · rw [chan_modChan_of_ne _ _ _ (Fin.val_ne_of_ne hj), chan_modChan_of_ne _ _ _ (Fin.val_ne_of_ne hj)]; rfl

/-! ### The end of a transfer -/

/-- R44: the registers of a channel whose transfer has ended. -/
def Chan.ended (code done crc : Nat) (x : Chan) : Chan :=
  { x with state := if code = 0 then 2 else 3, code := code, done := done, crc := crc, snap := [], waits := false }

theorem blockEvent_events (k c code done : Nat) (s : State) : EventsOnly s (blockEvent k c code done s) := by
  unfold blockEvent; dsimp only
  split
  · exact postD_events _ _ _ _
  · exact postB_events _ _ _ _ _ _

/-- R44: the end of a transfer sets the channel's registers and posts the event. -/
theorem endChan_events (k c code done crc : Nat) (s : State) :
    EventsOnly (modChan k c (Chan.ended code done crc) s) (endChan k c code done crc s) := blockEvent_events _ _ _ _ _

theorem EventsOnly.chan {s t : State} (h : EventsOnly s t) (k c : Nat) : (t.fn k).chan c = (s.fn k).chan c := by
  unfold Fn.chan; rw [h.fn_chans]

theorem EventsOnly.mem_out {s t : State} (h : EventsOnly s t) {o : Out} (ho : o ∈ s.out) : o ∈ t.out := by
  obtain ⟨os, hos⟩ := h.out
  rw [hos]; exact List.mem_append_left os ho

theorem chan_endChan_self (k c code done crc : Nat) (s : State) :
    ((endChan k c code done crc s).fn k).chan c = Chan.ended code done crc ((s.fn k).chan c) := by
  rw [(endChan_events k c code done crc s).chan, chan_modChan_self]

theorem chan_endChan_of_ne {j c : Nat} (k code done crc : Nat) (s : State) (h : j ≠ c) :
    ((endChan k c code done crc s).fn k).chan j = (s.fn k).chan j := by
  rw [(endChan_events k c code done crc s).chan, chan_modChan_of_ne _ _ _ h]

theorem chans_endChan_of_ne {k j : Nat} (c code done crc : Nat) (s : State) (h : j ≠ k) :
    ((endChan k c code done crc s).fn j).chans = (s.fn j).chans := by
  rw [(endChan_events k c code done crc s).fn_chans, fn_modChan_of_ne _ _ _ h]

theorem mem_out_endChan {k c code done crc : Nat} {s : State} {o : Out} (h : o ∈ s.out) : o ∈ (endChan k c code done crc s).out :=
  (endChan_events k c code done crc s).mem_out h

theorem copies_endChan (k c code done crc b : Nat) (s : State) :
    ((endChan k c code done crc s).bar b).copies = (s.bar b).copies := (endChan_events k c code done crc s).copies b

theorem endChan_sessions (k c code done crc n : Nat) (s : State) :
    ((endChan k c code done crc s).moa.sessions.get? n).map Session.still = (s.moa.sessions.get? n).map Session.still :=
  (endChan_events k c code done crc s).session n

/-- R40: recording a status leaves channels, bars, sessions and outputs; through a function's door it touches that function only. -/
theorem recordStatus_fn_chans (k : Fin 17) (idx sub code j : Nat) (s : State) :
    ((recordStatus (.fn k) idx sub code s).fn j).chans = (s.fn j).chans := by
  unfold recordStatus
  split
  · rfl
  · unfold modOwn
    by_cases e : j = k
    · rw [e, fn_modFn_self]
    · rw [fn_modFn_of_ne _ _ e]

theorem recordStatus_fn_rest (k : Fin 17) (idx sub code : Nat) (s : State) :
    recordStatus (.fn k) idx sub code s = { s with fns := (recordStatus (.fn k) idx sub code s).fns } := by
  unfold recordStatus
  split <;> rfl

theorem recordStatus_fn_chan (k : Fin 17) (idx sub code j c : Nat) (s : State) :
    ((recordStatus (.fn k) idx sub code s).fn j).chan c = (s.fn j).chan c := by
  unfold Fn.chan; rw [recordStatus_fn_chans]

/-! ### ABORT -/

theorem movedBytes_le (x : Chan) (v : Nat) : movedBytes x v ≤ x.length := by
  unfold movedBytes
  split
  · exact Nat.zero_le _
  · exact Nat.le_of_lt_succ (Nat.mod_lt v (Nat.succ_pos x.length))

/-- R44: the bytes that an aborted read moved are in host memory, and its draw is made. -/
def readMoved (k : Fin 17) (x : Chan) (n : Nat) (s : State) : State :=
  if n = 0 then s.draw.2 else s.draw.2.emit (.dmaWrite k x.addr (x.snap.take n))

theorem readMoved_rest (k : Fin 17) (x : Chan) (n : Nat) (s : State) :
    readMoved k x n s = { s with freeCount := s.freeCount + 1, out := (readMoved k x n s).out } := by
  unfold readMoved State.draw State.emit
  split <;> rfl

theorem mem_out_readMoved {k : Fin 17} {x : Chan} {n : Nat} {s : State} (h : 0 < n) :
    Out.dmaWrite k x.addr (x.snap.take n) ∈ (readMoved k x n s).out := by
  unfold readMoved
  rw [if_neg (Nat.pos_iff_ne_zero.1 h)]
  exact List.mem_append_right _ (List.mem_singleton.2 rfl)

/-- R41, R44: ABORT of a read ends its transfer after the bytes that were moved. -/
theorem abortChan_read {k : Fin 17} {c : Nat} {s : State} (h : ((s.fn k).chan c).toObject = false) :
    ∃ n u, abortChan k c s = endChan k c stAborted n (crc32c (((s.fn k).chan c).snap.take n)) u ∧
      n ≤ ((s.fn k).chan c).length ∧ u = { s with freeCount := s.freeCount + 1, out := u.out, fns := u.fns } ∧
      (∀ j, (u.fn j).chans = (s.fn j).chans) ∧
      (0 < n → Out.dmaWrite k ((s.fn k).chan c).addr (((s.fn k).chan c).snap.take n) ∈ u.out) := by
  obtain ⟨x, hx⟩ : ∃ x, x = (s.fn k).chan c := ⟨_, rfl⟩
  obtain ⟨n, hn⟩ : ∃ n, n = movedBytes x s.draw.1.toNat := ⟨_, rfl⟩
  have moved := readMoved_rest k x n s
  have recorded := recordStatus_fn_rest k (x.key / 256) (x.key % 256) stAborted (readMoved k x n s)
  rw [← hx] at h ⊢
  refine ⟨n, recordStatus (.fn k) (x.key / 256) (x.key % 256) stAborted (readMoved k x n s), ?_, ?_, ?_, fun j => ?_,
    fun h0 => ?_⟩
  · unfold abortChan
    rw [← hx]
    dsimp only
    rw [if_neg (by simp [h]), ← hn]
    rfl
  · exact hn ▸ movedBytes_le x _
  · rw [recorded, moved]
  · rw [recordStatus_fn_chans, moved]; rfl
  · rw [recorded]; exact mem_out_readMoved h0

/-- ABORT of a busy channel that lets nothing else go on is the end of its transfer. -/
theorem exec_btAbort {dt : Nat} {k : Fin 17} {c : Fin 4} {s t : State} (hd : s.devState ≠ .boot)
    (hc : ((s.fn k).chan c).state = 1) (h : abortChan k c (s.later dt) = t)
    (hq : t.quiet = { s.later dt with freeCount := t.freeCount }.quiet)
    (hs : ∀ n, (t.moa.sessions.get? n).map Session.still = (s.moa.sessions.get? n).map Session.still) :
    exec (.btAbort dt k c) s = .next t := by
  have busy : ¬ ((s.later dt).devState = .boot ∨ (((s.later dt).fn k).chan c).state ≠ 1) := fun h => h.elim hd (not_not_intro hc)
  have effect : abortBusy k c (s.later dt) = t := (if_neg busy).trans h
  have settles : settled (abortBusy k c) (s.later dt) = t :=
    (settled_of_waiting _ _ (by rw [effect]; exact (congrArg State.devState hq :)) (by rw [effect]; exact hs)).trans effect
  change execBtAbort dt k c s = _
  unfold execBtAbort
  exact run_of settles (congrArg State.now hq :) (congrArg State.pending hq :)

/-- R44: BT_ABORT of a busy read. -/
theorem btAbort_read_answers {dt : Nat} {k : Fin 17} {c : Fin 4} {s : State} (hd : s.devState ≠ .boot)
    (hc : ((s.fn k).chan c).state = 1) (hr : ((s.fn k).chan c).toObject = false) :
    Answers (.btAbort dt k c) s fun t => let x := (t.fn k).chan c
      x.state = 3 ∧ x.code = 9 ∧ x.done ≤ x.length ∧ x.crc = crc32c (((s.fn k).chan c).snap.take x.done) ∧
      (0 < x.done → Out.dmaWrite k x.addr (((s.fn k).chan c).snap.take x.done) ∈ t.out) ∧
      t.quiet = { s.later dt with freeCount := t.freeCount }.quiet ∧
      (∀ j : Fin 17, j ≠ k → (t.fn j).chans = (s.fn j).chans) ∧ ∀ j : Fin 4, j ≠ c → (t.fn k).chan j = (s.fn k).chan j := by
  obtain ⟨n, u, aborted, hn, rest, chans, moved⟩ := abortChan_read (s := s.later dt) (k := k) (c := c) hr
  have chan : ∀ i, (u.fn k).chan i = (s.fn k).chan i := fun i => congrArg (fun m : Map Chan => m.getD i Chan.reset) (chans k)
  obtain ⟨t, ht⟩ : ∃ t, t = endChan k c stAborted n (crc32c (((s.fn k).chan c).snap.take n)) u := ⟨_, rfl⟩
  have quiet : t.quiet = { s.later dt with freeCount := s.freeCount + 1 }.quiet := by
    rw [ht, endChan_quiet, rest]; rfl
  have count : t.freeCount = s.freeCount + 1 := (congrArg State.freeCount quiet :)
  have self : (t.fn k).chan c = Chan.ended stAborted n (crc32c (((s.fn k).chan c).snap.take n)) ((s.fn k).chan c) := by
    rw [ht, chan_endChan_self, chan]
  refine ⟨t, exec_btAbort hd hc (aborted.trans ht.symm) (count ▸ quiet) fun i => ?_, ?_⟩
  · rw [ht, endChan_sessions, rest]; rfl
  dsimp only
  rw [self]
  refine ⟨rfl, rfl, hn, rfl, fun h0 => ?_, count ▸ quiet, fun j hj => ?_, fun j hj => ?_⟩
  · rw [ht]; exact mem_out_endChan (moved h0)
  · rw [ht, chans_endChan_of_ne _ _ _ _ _ (Fin.val_ne_of_ne hj), chans]; rfl
  · rw [ht, chan_endChan_of_ne _ _ _ _ _ (Fin.val_ne_of_ne hj), chan]

/-! ### The last byte -/

/-- A command whose effect changes nothing but what events, bars and functions hold, and no session, lets nothing else go on. -/
theorem settled_answers {c : Instr} {dt : Nat} {s u : State} {f : State → State} {p : State → Prop}
    (hc : exec c s = run dt s (settled f)) (h : f (s.later dt) = u) (hq : u.quiet = (s.later dt).quiet)
    (hs : ∀ n, (u.moa.sessions.get? n).map Session.still = (s.moa.sessions.get? n).map Session.still) (hp : p u) :
    Answers c s p :=
  run_answers_of_quiet hc ((settled_of_waiting _ _ (by rw [h]; exact quiet_to_devState hq) (by rw [h]; exact hs)).trans h) hq hp

/-- R42, R44: BLOCK_DONE of a read. -/
theorem blockDone_read_answers {dt : Nat} {k : Fin 17} {c : Fin 4} {data : List Byte} {s : State}
    (hc : ((s.fn k).chan c).state = 1) (hr : ((s.fn k).chan c).toObject = false) :
    Answers (.blockDone dt k c data) s fun t => let x := (t.fn k).chan c
      x.state = 2 ∧ x.code = 0 ∧ x.done = ((s.fn k).chan c).length ∧ x.crc = crc32c ((s.fn k).chan c).snap ∧
      Out.dmaWrite k ((s.fn k).chan c).addr ((s.fn k).chan c).snap ∈ t.out ∧ t.quiet = (s.later dt).quiet ∧
      (∀ j : Fin 17, j ≠ k → (t.fn j).chans = (s.fn j).chans) ∧ ∀ j : Fin 4, j ≠ c → (t.fn k).chan j = (s.fn k).chan j := by
  obtain ⟨x, hx⟩ : ∃ x, x = (s.fn k).chan c := ⟨_, rfl⟩
  rw [← hx] at hc hr ⊢
  have ready : chanReady (s.later dt) x data = true := by simp [chanReady, hc, hr]
  have effect : chanDone k c data (s.later dt) =
      endChan k c stOK x.length (crc32c x.snap) ((s.later dt).emit (.dmaWrite k x.addr x.snap)) := by
    have now : ((s.later dt).fn k).chan c = x := hx.symm
    unfold chanDone
    dsimp only
    rw [now, if_pos ready]
    exact if_neg (by simp [hr])
  refine settled_answers rfl effect (endChan_quiet _ _ _ _ _ _) (fun n => endChan_sessions _ _ _ _ _ _ _) ?_
  dsimp only
  rw [chan_endChan_self]
  refine ⟨rfl, rfl, rfl, rfl, mem_out_endChan (List.mem_append_right _ (List.mem_singleton.2 rfl)), endChan_quiet _ _ _ _ _ _,
    fun j hj => ?_, fun j hj => ?_⟩
  · rw [chans_endChan_of_ne _ _ _ _ _ (Fin.val_ne_of_ne hj)]; rfl
  · rw [chan_endChan_of_ne _ _ _ _ _ (Fin.val_ne_of_ne hj)]; rfl

/-- The row of the wave tables. -/
def waveRow : Row := ⟨0x4830, 0x00, 0x3F, .domain, .stg, true, false, true, 0, .any⟩

theorem rowAt_wave {sub : Nat} (h : sub < 64) : rowAt 0x4830 sub = some waveRow := by
  have le : sub ≤ 0x3F := Nat.le_of_lt_succ h
  simp [rowAt, rowsOf, rows48, waveRow, le]

/-- R42, R174: a wave table whose range is replaced by `bytes`. -/
def waveWritten (b sub off : Nat) (bytes : List Byte) (s : State) : State :=
  sramJudge b (openHostSet b (okey 0x4830 sub) (.wide (overwrite (s.curW b 0x4830 sub) off bytes)) s)

theorem waveWritten_quiet (b sub off : Nat) (bytes : List Byte) (s : State) : (waveWritten b sub off bytes s).quiet = s.quiet := by
  simp [waveWritten]

theorem waveWritten_sessions (b sub off n : Nat) (bytes : List Byte) (s : State) :
    ((waveWritten b sub off bytes s).moa.sessions.get? n).map Session.still = (s.moa.sessions.get? n).map Session.still := by
  unfold waveWritten
  rw [sramJudge_sessions]; rfl

theorem sramJudge_fn_chans (b j : Nat) (s : State) : ((sramJudge b s).fn j).chans = (s.fn j).chans := by
  obtain e | ⟨o, h⟩ := sramJudge_events b s
  · rw [e]
  · exact h.fn_chans j

theorem waveWritten_fn_chans (b sub off j : Nat) (bytes : List Byte) (s : State) :
    ((waveWritten b sub off bytes s).fn j).chans = (s.fn j).chans := by
  unfold waveWritten
  rw [sramJudge_fn_chans]; rfl

/-- R15: the range is replaced in the open copy of its bar, which is the host's. -/
theorem waveWritten_copies (b sub off : Nat) (bytes : List Byte) (s : State) :
    ((waveWritten b sub off bytes s).bar b).copies = { (s.bar b).copies with
      opn := (s.bar b).opn.set (okey 0x4830 sub) (.wide (overwrite (s.curW b 0x4830 sub) off bytes)), openHost := true } := by
  unfold waveWritten
  rw [sramJudge_copies, openHostSet_eq, bar_modBar_self]; rfl

/-- R42, R174: a completed block write of a wave table. -/
theorem applyBlock_wave {door : Door} {who : Who} {b sub off : Nat} {bytes : List Byte} {s : State} (hw : whoIs s door = some who)
    (hs : sub < 64) (hl : off + bytes.length ≤ 4096) :
    applyBlock door (some b) (okey 0x4830 sub) off bytes s = (stOK, waveWritten b sub off bytes s) := by
  have object : okey 0x4830 sub / 256 = 0x4830 := by unfold okey; omega
  have subindex : okey 0x4830 sub % 256 = sub := by unfold okey; omega
  have allowed : blockCheck s true waveRow (some b) sub off bytes.length = 0 := by
    have fits : ¬ 4096 < off + bytes.length := Nat.not_lt.2 hl
    simp [blockCheck, waveRow, Ty.wide, maxSize, fits, isKey, stOK]
  have stored : wideEffect who waveRow (some b) sub off bytes s = (stOK, waveWritten b sub off bytes s) := by
    have notTable : isTable (okey 0x4830 sub) = false := by unfold isTable; rw [object]; rfl
    simp [wideEffect, imageBusy, waveRow, contentOk, written, wideNow, readWideStg, entryWidth, storeWide, isKey, notTable,
      waveWritten]
  unfold applyBlock
  rw [hw, object, subindex, rowAt_wave hs]
  dsimp only
  rw [if_pos allowed, stored]
  rfl

/-- R42, R43: the end of a block write of a wave table whose bar holds no commit request. -/
theorem finishChan_wave {k : Fin 17} {c : Nat} {x : Chan} {who : Who} {b sub : Nat} {data : List Byte} {s : State}
    (ho : x.toObject = true) (hh : x.hidden = false) (hb : x.bar = some b) (hk : x.key = okey 0x4830 sub) (hs : sub < 64)
    (hw : whoIs s (.fn k) = some who) (hl : x.offset + data.length ≤ 4096) (hr : (s.bar b).heldReq = none) :
    finishChan k c x data s = endChan k c stOK x.length (crc32c data) (waveWritten b sub x.offset data s) := by
  have unheld : ((endChan k c stOK x.length (crc32c data) (waveWritten b sub x.offset data s)).bar b).heldReq = none := by
    calc _ = ((waveWritten b sub x.offset data s).bar b).heldReq := (congrArg Copies.heldReq (copies_endChan _ _ _ _ _ _ _) :)
      _ = (s.bar b).heldReq := (congrArg Copies.heldReq (waveWritten_copies b sub x.offset data s) :)
      _ = none := hr
  unfold finishChan
  rw [if_pos ho, if_neg (by simp [hh]), hb, hk, applyBlock_wave hw hs hl]
  exact trySeal_of_no_request unheld

/-- R42 to R44, R174: BLOCK_DONE of a write of a wave table. -/
theorem blockDone_wave_answers {dt : Nat} {k : Fin 17} {c : Fin 4} {x : Chan} {who : Who} {b sub : Nat} {data : List Byte}
    {s : State} (hx : x = (s.fn k).chan c) (h1 : x.state = 1) (ho : x.toObject = true) (hwait : x.waits = false)
    (he : earlierWrite s x = false) (hd : data.length = x.length) (hh : x.hidden = false) (hb : x.bar = some b)
    (hr : (s.bar b).heldReq = none) (hk : x.key = okey 0x4830 sub) (hs : sub < 64) (hw : whoIs s (.fn k) = some who)
    (hl : x.offset + data.length ≤ 4096) :
    Answers (.blockDone dt k c data) s fun t =>
      (t.bar b).opn = (s.bar b).opn.set (okey 0x4830 sub) (.wide (overwrite (s.curW b 0x4830 sub) x.offset data)) ∧
      (t.bar b).openHost = true ∧ ((t.fn k).chan c).state = 2 ∧ ((t.fn k).chan c).code = 0 ∧
      ((t.fn k).chan c).done = x.length ∧ ((t.fn k).chan c).crc = crc32c data ∧ t.quiet = (s.later dt).quiet ∧
      (∀ j : Fin 17, j ≠ k → (t.fn j).chans = (s.fn j).chans) ∧ ∀ j : Fin 4, j ≠ c → (t.fn k).chan j = (s.fn k).chan j := by
  have earlier : earlierWrite (s.later dt) x = false := he
  have ready : chanReady (s.later dt) x data = true := by simp [chanReady, h1, ho, hwait, earlier, hd]
  have effect : chanDone k c data (s.later dt) =
      endChan k c stOK x.length (crc32c data) (waveWritten b sub x.offset data (s.later dt)) := by
    have now : ((s.later dt).fn k).chan c = x := hx.symm
    unfold chanDone
    dsimp only
    rw [now, if_pos ready]
    exact finishChan_wave ho hh hb hk hs hw hl hr
  have chans : ∀ j, ((waveWritten b sub x.offset data (s.later dt)).fn j).chans = (s.fn j).chans := fun j => waveWritten_fn_chans _ _ _ j _ _
  have chan : ∀ i, ((waveWritten b sub x.offset data (s.later dt)).fn k).chan i = (s.fn k).chan i :=
    fun i => congrArg (fun m : Map Chan => m.getD i Chan.reset) (chans k)
  have copies := (copies_endChan k c stOK x.length (crc32c data) b _).trans (waveWritten_copies b sub x.offset data (s.later dt))
  have quiet := (endChan_quiet k c stOK x.length (crc32c data) _).trans (waveWritten_quiet b sub x.offset data (s.later dt))
  refine settled_answers rfl effect quiet
    (fun n => (endChan_sessions _ _ _ _ _ _ _).trans (waveWritten_sessions _ _ _ _ _ _)) ?_
  rw [chan_endChan_self]
  refine ⟨(congrArg Copies.opn copies :), (congrArg Copies.openHost copies :), rfl, rfl, rfl, rfl, quiet, fun j hj => ?_, fun j hj => ?_⟩
  · rw [chans_endChan_of_ne _ _ _ _ _ (Fin.val_ne_of_ne hj), chans]
  · rw [chan_endChan_of_ne _ _ _ _ _ (Fin.val_ne_of_ne hj), chan]

/-- Settles O10: START of a read and of a write, ABORT of a read, and the last byte of a read and of a wave table's write. -/
theorem blockTransfersRun : Obligations.BlockTransfersRun := by
  unfold Obligations.BlockTransfersRun
  refine ⟨?_, ?_, ?_, ?_, ?_⟩
  · intro dt k c r row bar dsub s hd hc h0 h1 ha hg
    obtain ⟨t, ht, ⟨order, chan⟩, rest⟩ := btStart_answers hd hc h0 h1 ha hg
    refine ⟨t, ht, ?_⟩
    dsimp only
    rw [chan]
    exact ⟨rfl, rfl, rfl, rfl, rfl, rest⟩
  · intro dt k c r row bar dsub s hd hc h0 h1 ha hg
    obtain ⟨t, ht, ⟨order, chan⟩, rest⟩ := btStart_answers hd hc h0 h1 ha hg
    refine ⟨t, ht, ?_⟩
    dsimp only
    rw [chan]
    exact ⟨rfl, rfl, rfl, rfl, rfl, rfl, mustWait_iff, rest⟩
  · intro dt k c s hd hc hr
    exact btAbort_read_answers hd hc hr
  · intro dt k c data s hc hr
    exact blockDone_read_answers hc hr
  · intro dt k c data who row b sub s x h1 ho hwait he hd hh hb hr hk hs hw _ hl
    exact blockDone_wave_answers rfl h1 ho hwait he hd hh hb hr hk hs hw hl

end Sys2Proof.Machine
end

/-! ## Sessions opened by challenge (02_object_dictionary.md R49) -/

section
namespace Sys2Proof.Machine
open Sys2Proof

/-- R45: a frame that is accepted out of BOOT is served. -/
theorem moaFrame_accepted {f : MoaFrame} {serve : State → State} {s : State} (hd : s.devState ≠ .boot)
    (ha : moaAccepts f = true) : moaFrame f serve s = serve s := by
  unfold moaFrame
  rw [if_neg hd, if_pos ha]

/-- R49: a HELLO whose key is present and not locked out is challenged. -/
theorem helloServe_challenge {f : MoaFrame} {role target : Nat} {s : State} (hl : f.payload.length = 20)
    (hr : role = (byteAt f.payload 0).toNat) (ht : target = (byteAt f.payload 1).toNat) (hk : (keyOf s role target).isSome = true)
    (hn : s.moa.sessions.length < 32) (ho : lockedOut s role target = false) : helloServe f s = challenge f role target s := by
  have present : (keyOf s role target).isNone = false := by simp [Option.isNone_eq_false_iff, hk]
  unfold helloServe
  dsimp only
  rw [← hr, ← ht, if_neg (not_not_intro hl), if_neg (by simp [present, hn, ho])]

/-- R49: an AUTH against its challenge, of a host whose key is present. -/
theorem authServe_verified {f : MoaFrame} {c : Challenge} {key : List Byte} {slot : Nat} {s : State}
    (hc : s.moa.challenges.get? f.session.toNat = some c) (hi : c.ip = f.ip.toNat) (hk : keyOf s c.role c.target = some key)
    (hp : f.payload = proofH key c.nonceH c.nonceD f.session.toNat c.role c.target) (hf : freeSlot s = some slot) :
    authServe f s = welcome f f.session.toNat c key slot s := by
  unfold authServe
  dsimp only
  rw [hc]; dsimp only
  rw [if_neg (not_not_intro hi), hk]; dsimp only
  rw [if_pos hp, hf]

theorem authServe_unverified {f : MoaFrame} {c : Challenge} {key : List Byte} {s : State}
    (hc : s.moa.challenges.get? f.session.toNat = some c) (hi : c.ip = f.ip.toNat) (hk : keyOf s c.role c.target = some key)
    (hp : f.payload ≠ proofH key c.nonceH c.nonceD f.session.toNat c.role c.target) :
    authServe f s = authRefused f f.session.toNat c s := by
  unfold authServe
  dsimp only
  rw [hc]; dsimp only
  rw [if_neg (not_not_intro hi), hk]; dsimp only
  rw [if_neg hp]

/-- R49: the session opens and its challenge ends. -/
def Moa.opened (sid : Nat) (x : Session) (m : Moa) : Moa :=
  { m with challenges := m.challenges.erase sid, sessions := m.sessions.set sid x }

/-- R49: WELCOME opens the session, and what follows is sent and posted. -/
theorem welcome_events (f : MoaFrame) (sid : Nat) (c : Challenge) (key : List Byte) (slot : Nat) (s : State) :
    EventsOnly (s.modMoa (Moa.opened sid (newSession f c slot (sessionKey key c.nonceH c.nonceD sid) s.now)))
      (welcome f sid c key slot s) :=
  (emit_events _ _).trans (postD_events _ _ _ _)

/-- R49: the sessions that events only reach stand, each with its own key, role, target and slot. -/
theorem EventsOnly.get?_session {s t : State} (h : EventsOnly s t) {n : Nat} {x : Session} (hx : s.moa.sessions.get? n = some x) :
    ∃ y, t.moa.sessions.get? n = some y ∧ y.still = x.still := by
  have e := h.session n
  rw [hx] at e
  exact Option.map_eq_some_iff.1 e

theorem EventsOnly.isSome_session {s t : State} (h : EventsOnly s t) (n : Nat) :
    (t.moa.sessions.get? n).isSome = (s.moa.sessions.get? n).isSome := by
  have e := congrArg Option.isSome (h.session n)
  rwa [Option.isSome_map, Option.isSome_map] at e

/-- R49: the count of refused AUTHs and the lockouts of `s`, with a refusal under challenge `c`. -/
def Moa.refused (s : State) (c : Challenge) (m : Moa) : Moa :=
  let k := (keyNumber c.role c.target).getD 0
  let fs := refusals s k
  let lock := decide (4 ≤ fs.length)
  { m with
    fails := m.fails.set k (if lock then [] else fs),
    lockout := if lock then m.lockout.set k (s.now + 10 * Config.second) else m.lockout }

/-- R49: a refused AUTH is counted, answered, and posted. -/
theorem authRefused_events (f : MoaFrame) (sid : Nat) (c : Challenge) (s : State) :
    EventsOnly (plainReply f 0x04 sid stAuth [] (s.modMoa (Moa.refused s c))) (authRefused f sid c s) := postD_events _ _ _ _

/-- R49: HELLO is answered with a CHALLENGE. -/
theorem hello_answers {dt : Nat} {f : MoaFrame} {role target : Nat} {s : State} (hd : s.devState ≠ .boot)
    (ha : moaAccepts f = true) (hl : f.payload.length = 20) (hr : role = (byteAt f.payload 0).toNat)
    (ht : target = (byteAt f.payload 1).toNat) (hk : (keyOf s role target).isSome = true) (hn : s.moa.sessions.length < 32)
    (ho : lockedOut (s.later dt) role target = false) :
    Answers (.hello dt f) s fun t => ∃ sid nonce,
      let c : Challenge := ⟨f.ip.toNat, f.port.toNat, role, target, f.payload.drop 4, nonce, s.now + dt⟩
      t.moa = { s.moa with challenges := s.moa.challenges.set sid c } ∧
      t.out = s.out ++ [.moa f.ip.toNat f.port.toNat 0x02 sid 0 0 nonce []] ∧
      t = { s.later dt with moa := t.moa, out := t.out, freeCount := t.freeCount } := by
  have effect : moaFrame f (helloServe f) (s.later dt) = challenge f role target (s.later dt) :=
    (moaFrame_accepted (s := s.later dt) hd ha).trans (helloServe_challenge (s := s.later dt) hl hr ht hk hn ho)
  exact run_answers (c := .hello dt f) rfl effect rfl rfl ⟨_, _, rfl, rfl, rfl⟩

/-- R49: an AUTH that verifies opens its session. -/
theorem auth_verified_answers {dt : Nat} {f : MoaFrame} {c : Challenge} {key : List Byte} {slot : Nat} {s : State}
    (hd : s.devState ≠ .boot) (ha : moaAccepts f = true) (hc : s.moa.challenges.get? f.session.toNat = some c)
    (hi : c.ip = f.ip.toNat) (hk : keyOf s c.role c.target = some key)
    (hp : f.payload = proofH key c.nonceH c.nonceD f.session.toNat c.role c.target) (hf : freeSlot s = some slot) :
    Answers (.auth dt f) s fun t => ∃ x, t.moa.sessions.get? f.session.toNat = some x ∧ x.role = c.role ∧
      x.target = c.target ∧ x.slot = slot ∧ x.key = sessionKey key c.nonceH c.nonceD f.session.toNat ∧ x.last = 0 ∧
      t.moa.challenges = s.moa.challenges.erase f.session.toNat ∧ t.quiet = (s.later dt).quiet := by
  have effect : moaFrame f (authServe f) (s.later dt) = welcome f f.session.toNat c key slot (s.later dt) :=
    (moaFrame_accepted (s := s.later dt) hd ha).trans (authServe_verified (s := s.later dt) hc hi hk hp hf)
  have events := welcome_events f f.session.toNat c key slot (s.later dt)
  obtain ⟨y, hy, still⟩ := events.get?_session (Map.get?_set_self _ _ _)
  have quiet := welcome_quiet f f.session.toNat c key slot (s.later dt)
  exact run_answers_of_quiet (c := .auth dt f) rfl effect quiet ⟨y, hy, (congrArg Session.role still :),
    (congrArg Session.target still :), (congrArg Session.slot still :), (congrArg Session.key still :),
    (congrArg Session.last still :), events.moa_challenges, quiet⟩

/-- R49: one that does not verify is refused. -/
theorem auth_unverified_answers {dt : Nat} {f : MoaFrame} {c : Challenge} {key : List Byte} {s : State}
    (hd : s.devState ≠ .boot) (ha : moaAccepts f = true) (hc : s.moa.challenges.get? f.session.toNat = some c)
    (hi : c.ip = f.ip.toNat) (hk : keyOf s c.role c.target = some key)
    (hp : f.payload ≠ proofH key c.nonceH c.nonceD f.session.toNat c.role c.target) :
    Answers (.auth dt f) s fun t => t.moa.challenges = s.moa.challenges ∧
      (∀ sid, (t.moa.sessions.get? sid).isSome = (s.moa.sessions.get? sid).isSome) ∧
      Out.moa f.ip.toNat f.port.toNat 0x04 f.session.toNat 0 0x0A [] [] ∈ t.out := by
  have effect : moaFrame f (authServe f) (s.later dt) = authRefused f f.session.toNat c (s.later dt) :=
    (moaFrame_accepted (s := s.later dt) hd ha).trans (authServe_unverified (s := s.later dt) hc hi hk hp)
  have events := authRefused_events f f.session.toNat c (s.later dt)
  exact run_answers_of_quiet (c := .auth dt f) rfl effect (authRefused_quiet _ _ _ _)
    ⟨events.moa_challenges, events.isSome_session, events.mem_out (List.mem_append_right _ (List.mem_singleton.2 rfl))⟩

/-- Settles O11: HELLO, an AUTH that verifies, and one that does not. -/
theorem sessionsOpenByChallenge : Obligations.SessionsOpenByChallenge := by
  unfold Obligations.SessionsOpenByChallenge
  refine ⟨?_, ?_, ?_⟩
  · intro dt f role target s hd ha hl hr ht hk hn ho
    exact hello_answers hd ha hl hr ht hk hn ho
  · intro dt f c key slot s hd ha hc hi hk hp hf
    exact auth_verified_answers hd ha hc hi hk hp hf
  · intro dt f c key s hd ha hc hi hk hp
    exact auth_unverified_answers hd ha hc hi hk hp

end Sys2Proof.Machine
end

/-! ## Requests of sessions (02_object_dictionary.md R43, R47 to R52): what else the machine does in the same command

A request that ends a block write may let a commit go on, and with the commit the requests of another session that waited for
it; and an event that a write posts takes a sequence number before the response to it. -/

section
namespace Sys2Proof.Machine
open Sys2Proof

/-- Command `c` at `s` leaves a state of which the check `p` holds. -/
def leaves (c : Instr) (s : State) (p : State → Bool) : Bool := match exec c s with | .next t => p t | _ => false

/-- What is proved of a command's answer and what is checked of it hold of one state. -/
theorem Answers.both {c : Instr} {s : State} {q : State → Prop} {p : State → Bool} (h : Answers c s q) (hp : leaves c s p = true) :
    ∃ t, q t ∧ p t = true := by
  obtain ⟨t, ht, hq⟩ := h
  unfold leaves at hp
  rw [ht] at hp
  exact ⟨t, hq, hp⟩

/-! ### Frames and sessions of bar 0's host -/

/-- A frame of a session whose key is `[5]`, under its MAC. -/
def hostFrame (op sid seq : Nat) (payload : List Byte) : MoaFrame :=
  { ip := 9, port := 7, fragmented := false, udpLen := 20 + payload.length, version := 1, flags := 2, session := BitVec.ofNat 32 sid,
    seq := BitVec.ofNat 32 seq, len := BitVec.ofNat 16 payload.length, status := 0, payload := payload,
    mac := (hmac [5] (moaHeader op 2 sid seq payload.length 0 ++ payload)).take 16 }

/-- A session of the host of bar 0 that has sent nothing yet but the pieces of its block. -/
def hostSession (slot : Nat) (block : Option MoaBlock) (early : List (Nat × MoaFrame)) (lastAt : Nat) : Session :=
  { slot := slot, ip := 9, port := 7, role := 1, target := 0, key := [5], last := 0, kept := [], early := early, block := block,
    lastAt := lastAt, own := [], txSeq := 0, unacked := [], lost := 0 }

/-- A block write of 2 bytes to wave table 0 of bar 0, all deposited. -/
def waveBlock (buf : Nat) (waits : Bool) : MoaBlock :=
  { key := okey 0x4830 0, hidden := false, bar := some 0, toObject := true, offset := 0, length := 2, buf := buf,
    chunks := [(0, [7, 8])], snap := [], sent := 0, bad := false, waits := waits }

/-- BLOCK_END of that block. -/
def waveEnd (sid seq : Nat) : MoaFrame := hostFrame 0x22 sid seq (leBytes 4 (crc32c [7, 8]))

/-! ### A session that ends lets another one end -/

/-- Session 3 holds a block write of bar 0 open, for which a commit request of that bar is held; session 4 began its block after
the request, so its BLOCK_END waits, and behind it its CLOSE. -/
def sharedBar : State :=
  { State.reset with
    devState := .config
    bars := [(0, { Bar.reset with heldReq := some (1, false) })]
    moa := { Moa.reset with sessions :=
      [(3, hostSession 0 (some (waveBlock 0 false)) [] 0),
       (4, hostSession 1 (some (waveBlock 1 true)) [(0x22, waveEnd 4 1), (0x05, hostFrame 0x05 4 2 [])] 1000000000000)] } }

theorem sharedBar_open : (sharedBar.moa.sessions.get? 4).isSome = true := by decide +kernel

theorem sharedBar_close_inTurn : InTurn sharedBar 0x05 (hostFrame 0x05 3 1 []) (hostSession 0 (some (waveBlock 0 false)) [] 0) where
  served := by decide +kernel
  accepted := by decide +kernel
  known := by decide +kernel
  valid := by decide +kernel
  next := by decide +kernel
  fresh := by decide +kernel
  alone := rfl
  free := rfl

/-- CLOSE of session 3 ends session 4 too. -/
theorem sharedBar_close : leaves (.close 5 (hostFrame 0x05 3 1 [])) sharedBar (fun t => (t.moa.sessions.get? 4).isNone) = true := by
  decide +kernel

/-- So does its timeout. -/
theorem sharedBar_timeout : leaves (.sessionTimeout 1000000000000 3) sharedBar (fun t => (t.moa.sessions.get? 4).isNone) = true := by
  decide +kernel

/-- A session that is open in one state and not in another. -/
theorem absurd_session {n : Nat} {s t : State} (h : (t.moa.sessions.get? n).isSome = (s.moa.sessions.get? n).isSome)
    (hs : (s.moa.sessions.get? n).isSome = true) (ht : (t.moa.sessions.get? n).isNone = true) : False := by
  rw [hs] at h
  rw [Option.isNone_iff_eq_none.1 ht] at h
  cases h

/-- Refutes O12 (the clause of CLOSE): session 3's CLOSE ends its block write, so the commit that waited for it seals, session 4's
BLOCK_END no longer waits (R43), and its CLOSE behind it runs in the same command. -/
theorem not_sessionRequestsAreServed : ¬ Obligations.SessionRequestsAreServed := by
  unfold Obligations.SessionRequestsAreServed
  rintro ⟨close, -⟩
  obtain ⟨t, ⟨-, -, others, -⟩, ended⟩ := (close 5 _ _ _ sharedBar_close_inTurn).both sharedBar_close
  exact absurd_session (others 4 (by decide)) sharedBar_open ended

/-- Refutes O14 (the clause of SESSION_TIMEOUT): the timeout of session 3 ends session 4 as its CLOSE does. -/
theorem not_sessionTimersRunOut : ¬ Obligations.SessionTimersRunOut := by
  unfold Obligations.SessionTimersRunOut
  rintro ⟨-, -, timeout, -⟩
  obtain ⟨t, ⟨-, others, -⟩, ended⟩ :=
    (timeout 1000000000000 3 _ sharedBar (by decide +kernel : sharedBar.moa.sessions.get? _ = some (hostSession 0
      (some (waveBlock 0 false)) [] 0)) (by decide +kernel)).both sharedBar_timeout
  exact absurd_session (others 4 (by decide)) sharedBar_open ended

/-! ### An event before the response -/

/-- Session 3 of the host of bar 0, which has one span, has deposited its block; SRAM_QUOTA of the bar is 0, and SRAM_OVER is still
to be judged. -/
def unjudgedQuota : State :=
  { State.reset with
    devState := .config
    dev := [(okey 0x1206 0, .slot 0x100)]
    bars := [(0, { Bar.reset with obj := [(okey 0x7101 0, .slot 0)] })]
    moa := { Moa.reset with sessions := [(3, hostSession 0 (some (waveBlock 0 false)) [] 0)] } }

/-- A response of opcode `op` with sequence number `seq` has been sent. -/
def respondedAt (op seq : Nat) (t : State) : Bool :=
  t.out.any (fun o => match o with | .moa _ _ p _ q _ _ _ => p == op && q == seq | _ => false)

theorem Responds.respondedAt {t : State} {x : Session} {op seq status : Nat} {f : MoaFrame} {payload : List Byte}
    (h : Responds t x op f seq status payload) : respondedAt op seq t = true := by
  obtain ⟨mac, h⟩ := h
  exact List.any_eq_true.2 ⟨_, h, by simp⟩

theorem unjudgedQuota_inTurn : InTurn unjudgedQuota 0x22 (waveEnd 3 1) (hostSession 0 (some (waveBlock 0 false)) [] 0) where
  served := by decide +kernel
  accepted := by decide +kernel
  known := by decide +kernel
  valid := by decide +kernel
  next := by decide +kernel
  fresh := by decide +kernel
  alone := rfl
  free := rfl

/-- The write posts QUOTA_OVER to the session, as its frame 1; the response is its frame 2. -/
theorem unjudgedQuota_blockEnd :
    leaves (.blockEnd 5 (waveEnd 3 1)) unjudgedQuota (fun t => respondedAt 0x22 2 t && !respondedAt 0x22 1 t) = true := by
  decide +kernel

/-- Refutes O13 (the clause of BLOCK_END): the write brings the judgement of SRAM_OVER (R249), its event goes to the same session
and takes the sequence number that the statement gives the response. -/
theorem not_sessionBlocksAreCollected : ¬ Obligations.SessionBlocksAreCollected := by
  unfold Obligations.SessionBlocksAreCollected
  rintro ⟨-, -, blockEnd⟩
  obtain ⟨t, ⟨-, -, responds, -⟩, second⟩ :=
    (blockEnd 5 _ _ _ 0 0 waveRow (.host 0) _ unjudgedQuota_inTurn rfl rfl rfl (by decide +kernel) rfl (by decide +kernel) rfl
      (by decide) (by decide +kernel) (rowAt_wave (by decide)) (by decide) (by decide +kernel)).both unjudgedQuota_blockEnd
  have first : respondedAt 0x22 1 t = true := responds.respondedAt
  simp [first] at second

end Sys2Proof.Machine
end

/-! ## Targets of bars (02_object_dictionary.md R58, R59, Table 02-11; 03_intake.md R66) -/

section
namespace Sys2Proof.Machine
open Sys2Proof

/-! ### What a bar's target turns on -/

/-- What the targets of a bar turn on, and the work queue that VB_OFF empties: VB_STATE, VB_TARGET, WQ_HEAD and WQ_TAIL. -/
structure Posture where
  vb : VbState
  waiting : Option VbState
  wqHead : Nat
  wqTail : Nat

def Bar.posture (x : Bar) : Posture := ⟨x.vb, x.waiting, x.intake.wqHead, x.intake.wqTail⟩

/-- `t` has bar `b`, the device state and the reins as `s` has them. -/
structure Unmoved (b : Nat) (s t : State) : Prop where
  bar : (t.bar b).posture = (s.bar b).posture
  devState : t.devState = s.devState
  holder : Machine.holder t = Machine.holder s

theorem Unmoved.refl (b : Nat) (s : State) : Unmoved b s s := ⟨rfl, rfl, rfl⟩

theorem Unmoved.trans {b : Nat} {s t u : State} (h : Unmoved b s t) (g : Unmoved b t u) : Unmoved b s u :=
  ⟨g.bar.trans h.bar, g.devState.trans h.devState, g.holder.trans h.holder⟩

theorem EventsOnly.holder {s t : State} (h : EventsOnly s t) : Machine.holder t = Machine.holder s := by
  unfold Machine.holder pairMode
  rw [h.dv _ _ (by decide) (by decide) (by decide) (by decide), h.pair]

theorem Unmoved.of_eq {b : Nat} {s t : State} (hb : t.bars = s.bars) (hd : t.dev = s.dev) (hs : t.devState = s.devState)
    (hp : t.pair = s.pair) : Unmoved b s t where
  bar := by rw [bar_eq_of_bars hb]
  devState := hs
  holder := by unfold Machine.holder pairMode State.dv; rw [hd, hp]

theorem EventsOnly.unmoved {s t : State} (h : EventsOnly s t) (b : Nat) : Unmoved b s t where
  bar := (congrArg Bar.posture (h.bar b) : (t.bar b).still.posture = (s.bar b).still.posture)
  devState := h.devState
  holder := h.holder

section
variable {b : Nat} {s t : State}

theorem Unmoved.events {u : State} (h : Unmoved b s t) (e : EventsOnly t u) : Unmoved b s u := h.trans (e.unmoved b)

theorem Unmoved.modBar {f : Bar → Bar} (h : Unmoved b s t) (hf : ∀ x, (f x).posture = x.posture) : Unmoved b s (t.modBar b f) where
  bar := by rw [bar_modBar_self, hf, h.bar]
  devState := h.devState
  holder := h.holder

theorem Unmoved.modIntake {f : Intake → Intake} (h : Unmoved b s t)
    (hf : ∀ x, (f x).wqHead = x.wqHead ∧ (f x).wqTail = x.wqTail) : Unmoved b s (t.modIntake b f) :=
  h.modBar fun x => by simp [Bar.posture, hf]

theorem Unmoved.bumpB (h : Unmoved b s t) (i j : Nat) : Unmoved b s (t.bumpB b i j) := by
  unfold State.bumpB State.bumpBN State.setBo
  exact h.modBar fun _ => rfl

theorem Unmoved.modPage (h : Unmoved b s t) (n : Nat) (f : Page → Page) : Unmoved b s (t.modPage b n f) := by
  unfold State.modPage
  split
  · exact h
  · exact h.modBar fun _ => rfl

theorem Unmoved.bump {i j : Nat} (h : Unmoved b s t) (hi : okey 0x8000 0 ≠ okey i j) : Unmoved b s (t.bump i j) where
  bar := h.bar
  devState := h.devState
  holder := by
    refine Eq.trans ?_ h.holder
    unfold Machine.holder pairMode
    rw [show (t.bump i j).dv 0x8000 0 = t.dv 0x8000 0 from dv_setDv_of_ne _ _ _ _ _ _ hi]
    rfl

theorem Unmoved.setPlace (h : Unmoved b s t) (q : Place) : Unmoved b s { t with place := q } := ⟨h.bar, h.devState, h.holder⟩

theorem Unmoved.forAll {α : Type} {f : α → State → State} (h : Unmoved b s t) (xs : List α)
    (hf : ∀ x u, Unmoved b s u → Unmoved b s (f x u)) : Unmoved b s (Machine.forAll xs f t) :=
  forAll_induct (Unmoved b s) xs f t hf h

/-! ### The placer and the lanes -/

theorem Unmoved.placeApply (h : Unmoved b s t) (cause : Nat) (emergency : Bool) (new : Map (List (Nat × Nat))) :
    Unmoved b s (placeApply cause emergency new t) := by
  unfold Machine.placeApply placeChanged
  dsimp only
  split
  · exact h.setPlace _
  · refine Unmoved.events (Unmoved.bump ?_ ?_) (postD_events _ _ _ _)
    · exact (h.setPlace _).setPlace _
    · unfold okey; split <;> decide

theorem Unmoved.placeFull (h : Unmoved b s t) (cause : Nat) (emergency frozen : Bool) :
    Unmoved b s (placeFull cause emergency frozen t) :=
  (h.setPlace _).placeApply _ _ _

theorem Unmoved.placeBar (h : Unmoved b s t) (a : Nat) (entered : Bool) : Unmoved b s (placeBar a entered t) := by
  unfold Machine.placeBar
  split
  · split
    · exact h.placeApply _ _ _
    · dsimp only
      split
      · exact h.placeFull _ _ _
      · exact h.placeApply _ _ _
  · exact h.placeFull _ _ _

theorem Unmoved.modPort (h : Unmoved b s t) (p : Nat) (f : Port → Port) : Unmoved b s (t.modPort p f) :=
  h.trans (.of_eq rfl rfl rfl rfl)

theorem Unmoved.trimBegin (h : Unmoved b s t) (item : Nat) : Unmoved b s (t.trimBegin item) := h.trans (.of_eq rfl rfl rfl rfl)

theorem Unmoved.setLane (h : Unmoved b s t) (p : Nat) (st : LaneState) : Unmoved b s (setLane p st t) := by
  unfold Machine.setLane
  dsimp only
  split
  · exact h
  · refine Unmoved.events ?_ (postD_events _ _ _ _)
    split
    · exact Unmoved.trimBegin (h.modPort _ _) _
    · exact h.modPort _ _

theorem Unmoved.wakeLane (h : Unmoved b s t) (p : Nat) : Unmoved b s (wakeLane p t) := by
  unfold Machine.wakeLane
  split
  · exact ((h.setLane p .wake).events (emit_events _ _)).modPort _ _
  · exact h

/-! ### The quota -/

theorem Unmoved.evictPage (h : Unmoved b s t) (p : Page) : Unmoved b s (evictPage b p t) := by
  unfold Machine.evictPage
  dsimp only
  have dropped := fun f => (h.modPage p.num f).events (mirror_events (.caldera (Fin.ofNat 16 b) (BitVec.ofNat 32 p.num) false) _)
  split
  · refine Unmoved.events ?_ (postB_events _ _ _ _ _ _)
    exact (dropped _).bumpB _ _
  · exact dropped _

theorem Unmoved.postPaused (h : Unmoved b s t) (a cause : Nat) (resumed : Bool) : Unmoved b s (postPaused a cause resumed t) :=
  h.events (postB_events _ _ _ _ _ _)

theorem Unmoved.makeRoom (h : Unmoved b s t) (need n : Nat) : Unmoved b s (makeRoom b need n t) := by
  induction n generalizing t with
  | zero => exact h
  | succ n ih =>
    unfold Machine.makeRoom
    dsimp only
    split
    · split
      · refine Unmoved.postPaused ?_ _ _ _
        exact h.modIntake fun _ => ⟨rfl, rfl⟩
      · exact h
    · split
      · exact ih (h.evictPage _)
      · split
        · exact h.modIntake fun _ => ⟨rfl, rfl⟩
        · refine Unmoved.postPaused ?_ _ _ _
          exact h.modIntake fun _ => ⟨rfl, rfl⟩

theorem Unmoved.evictToQuota (h : Unmoved b s t) (n : Nat) : Unmoved b s (evictToQuota b n t) := by
  induction n generalizing t with
  | zero => exact h
  | succ n ih =>
    unfold Machine.evictToQuota
    split
    · split
      · exact ih (h.evictPage _)
      · exact h
    · exact h

theorem Unmoved.retryRoom (h : Unmoved b s t) : Unmoved b s (retryRoom b t) := by
  unfold Machine.retryRoom
  split
  · exact h.makeRoom _ _
  · exact h

theorem Unmoved.applyQuota (h : Unmoved b s t) : Unmoved b s (applyQuota b t) := by
  unfold Machine.applyQuota
  dsimp only
  have room := (h.evictToQuota (t.bar b).pages.length).retryRoom
  split
  · exact room
  · refine Unmoved.postPaused (Unmoved.events ?_ (postB_events _ _ _ _ _ _)) _ _ _
    exact room.modIntake fun _ => ⟨rfl, rfl⟩

theorem Unmoved.webSlowJudge (h : Unmoved b s t) : Unmoved b s (webSlowJudge t) := by
  unfold Machine.webSlowJudge
  split
  · split
    · refine Unmoved.events ?_ (postD_events _ _ _ _)
      exact h.trans (.of_eq rfl rfl rfl rfl)
    · exact h
  · exact h

theorem Unmoved.unpin (h : Unmoved b s t) (p : Page) : Unmoved b s (unpin b p t) := by
  unfold Machine.unpin
  split
  · exact h.modPage _ _
  · exact h

end

/-! ### A bar moves -/

/-- The posture of a bar that has entered `st`: VB_OFF empties the queue, its tail being where it was (R66). -/
def Posture.entered (st : VbState) (x : Posture) : Posture :=
  { x with vb := st, wqHead := if st = .off then x.wqTail else x.wqHead }

/-- R58: `t` is `s` with bar `b` in state `st`, and the device state and the reins as they were. -/
structure Entered (b : Nat) (st : VbState) (s t : State) : Prop where
  bar : (t.bar b).posture = (s.bar b).posture.entered st
  devState : t.devState = s.devState
  holder : Machine.holder t = Machine.holder s

section
variable {b : Nat} {st : VbState} {s t : State}

theorem Entered.trans {u : State} (h : Entered b st s t) (g : Unmoved b t u) : Entered b st s u :=
  ⟨g.bar.trans h.bar, g.devState.trans h.devState, g.holder.trans h.holder⟩

/-- R58: the pages not started go, and with VB_OFF the queue is emptied. -/
theorem emptyBar_entered (h : Unmoved b (s.modBar b fun x => { x with vb := .off }) t) : Entered b .off s (emptyBar b t) := by
  have unpinned : Unmoved b (s.modBar b fun x => { x with vb := .off })
      (dropJobs b (notStarted t b) (forAll (notStarted t b) (unpin b) t)) :=
    (h.forAll _ fun p u hu => hu.unpin p).trans (.of_eq rfl rfl rfl rfl)
  refine Entered.trans ?_ (Unmoved.refl b (clearBar b (dropJobs b (notStarted t b) (forAll (notStarted t b) (unpin b) t)))
    |>.applyQuota.webSlowJudge)
  generalize dropJobs b (notStarted t b) (forAll (notStarted t b) (unpin b) t) = u at unpinned
  have bar : (u.bar b).posture = { (s.bar b).posture with vb := .off } := by rw [unpinned.bar, bar_modBar_self]; rfl
  refine ⟨?_, unpinned.devState, unpinned.holder⟩
  calc ((clearBar b u).bar b).posture = { (u.bar b).posture with wqHead := (u.bar b).posture.wqTail } := by
        rw [clearBar, bar_modBar_self]; rfl
    _ = (s.bar b).posture.entered .off := by rw [bar]; rfl

theorem Unmoved.entered (h : Unmoved b (s.modBar b fun x => { x with vb := st }) t) (hs : st ≠ .off) : Entered b st s t := by
  refine ⟨?_, h.devState, h.holder⟩
  rw [h.bar, bar_modBar_self, Posture.entered, if_neg hs]; rfl

/-- R58, R189, R238: a bar that leaves VB_OFF is placed, and its lanes wake. -/
def leftOff (b : Nat) (old : VbState) (s : State) : State :=
  if old = .off then
    forAll (instPorts (placeBar b false (s.modIntake b fun q => { q with expect := none })) b) wakeLane
      (placeBar b false (s.modIntake b fun q => { q with expect := none }))
  else s

/-- R58: a bar that prints needs its first line. -/
def startedPrinting (b : Nat) (st : VbState) (s : State) : State :=
  if st = .printing then s.modScan b (fun c => { c with needFirst := true, stripSince := 0 }) else s

theorem moveVb_eq (b : Nat) (st : VbState) (s : State) : moveVb b st s =
    (if st = .off then placeBar b true (emptyBar b (startedPrinting b st (leftOff b (s.bar b).vb (s.modBar b fun x => { x with vb := st }))))
      else startedPrinting b st (leftOff b (s.bar b).vb (s.modBar b fun x => { x with vb := st }))) := rfl

theorem Unmoved.leftOff (h : Unmoved b s t) (old : VbState) : Unmoved b s (leftOff b old t) := by
  unfold Machine.leftOff
  split
  · have placed : Unmoved b s (Machine.placeBar b false (t.modIntake b fun q => { q with expect := none })) := by
      refine Unmoved.placeBar ?_ _ _
      exact h.modIntake fun _ => ⟨rfl, rfl⟩
    exact placed.forAll _ fun p u hu => hu.wakeLane p
  · exact h

theorem Unmoved.startedPrinting (h : Unmoved b s t) (st : VbState) : Unmoved b s (startedPrinting b st t) := by
  unfold Machine.startedPrinting
  split
  · exact h.modBar fun _ => rfl
  · exact h

theorem moveVb_entered (b : Nat) (st : VbState) (s : State) : Entered b st s (moveVb b st s) := by
  have moved := ((Unmoved.refl b (s.modBar b fun x => { x with vb := st })).leftOff (s.bar b).vb).startedPrinting st
  rw [moveVb_eq]
  split
  · next off =>
    subst off
    exact (emptyBar_entered moved).trans ((Unmoved.refl b _).placeBar _ _)
  · next on => exact moved.entered on

end

/-! ### The device follows -/

/-- R58: no target lapses on entry to READY or PRINT. -/
theorem lapseAll_bar {s : State} (h : s.devState = .ready ∨ s.devState = .print) (b : Nat) : (lapseAll s).bar b = s.bar b := by
  have keeps : ∀ t, lapses s.devState t = false := by
    intro t
    obtain h | h := h <;> rw [h] <;> cases t <;> rfl
  unfold State.bar lapseAll Map.getD
  rw [Map.get?_mapVals]
  simp [keeps]

theorem printClock_bars (st : DevState) (s : State) : (printClock st s).bars = s.bars := by
  unfold printClock
  split <;> split <;> rfl

/-- R58: the device enters READY or PRINT with the bars' targets as they were. -/
theorem setDev_posture {st : DevState} (h : st = .ready ∨ st = .print) (b cause : Nat) (s : State) :
    ((setDev st cause s).bar b).posture = (s.bar b).posture := by
  unfold setDev
  dsimp only
  split
  · rfl
  · rw [(((postD_events _ _ _ _).trans (mirror_events _ _)).unmoved b).bar, lapseAll_bar h]
    exact congrArg Bar.posture (bar_eq_of_bars (printClock_bars st s) b)

theorem setDev_devState (st : DevState) (cause : Nat) (s : State) : (setDev st cause s).devState = st := by
  unfold setDev
  dsimp only
  split
  · assumption
  · rw [((postD_events _ _ _ _).trans (mirror_events _ _)).devState]; rfl

theorem followBars_posture (b : Nat) (s : State) : ((followBars s).bar b).posture = (s.bar b).posture := by
  unfold followBars
  split
  · rfl
  · split
    · exact setDev_posture (.inr rfl) _ _ _
    · split
      · exact setDev_posture (.inl rfl) _ _ _
      · rfl

theorem anyRunning_of {b : Nat} {s : State} (hb : b < 16) (h : (s.bar b).vb = .armed ∨ (s.bar b).vb = .printing) :
    anyRunning s = true := by
  refine List.any_eq_true.2 ⟨b, List.mem_range.2 hb, ?_⟩
  obtain h | h := h <;> rw [h] <;> rfl

/-- R58: with a bar armed or printing, the holder's device is in PRINT. -/
theorem followBars_print {s : State} (hh : holder s = true) (ha : anyRunning s = true)
    (hd : s.devState = .ready ∨ s.devState = .print) : (followBars s).devState = .print := by
  unfold followBars
  rw [if_neg (by simp [hh])]
  obtain hd | hd := hd
  · rw [if_pos (by simp [hd, ha]), setDev_devState]
  · rw [if_neg (by simp [hd]), if_neg (by simp [ha]), hd]

/-! ### A target carried out -/

/-- R58: the bar and its device before the device follows. -/
theorem setVb_eq {b : Nat} {st : VbState} {s : State} (h : (s.bar b).vb ≠ st) :
    ∃ t, setVb b st s = followBars t ∧ Entered b st s t := by
  unfold setVb
  dsimp only
  rw [if_neg h]
  refine ⟨_, rfl, (moveVb_entered b st s).trans ?_⟩
  refine Unmoved.events (Unmoved.events ?_ (postB_events _ _ _ _ _ _)) (mirror_events _ _)
  exact (Unmoved.refl b _).modBar fun _ => rfl

/-- R58: a target that may be entered at once is entered, and waits no longer. -/
theorem advanceBar_reaches {b n : Nat} {v : VbState} {s : State} (hw : (s.bar b).waiting = some v)
    (hm : moveNow s b v = some v) (hv : (s.bar b).vb ≠ v) :
    advanceBar b (n + 2) s = (setVb b v s).modBar b (fun x => { x with waiting := none }) := by
  obtain ⟨t, ht, entered⟩ := setVb_eq hv
  have posture := (congrArg (fun u : State => (u.bar b).posture) ht).trans ((followBars_posture b t).trans entered.bar)
  have vb : ((setVb b v s).bar b).vb = v := (congrArg Posture.vb posture :)
  have waiting : ((setVb b v s).bar b).waiting = some v := (congrArg Posture.waiting posture :).trans hw
  have stays : moveNow (setVb b v s) b v = none := by
    unfold moveNow
    rw [vb]
    cases v <;> rfl
  unfold advanceBar
  rw [hw]; dsimp only
  rw [hm]; dsimp only
  unfold advanceBar
  rw [waiting]; dsimp only
  rw [stays]; dsimp only
  rw [if_pos vb]

/-- What a target that may be entered at once leaves. -/
structure Reached (b : Nat) (v : VbState) (s t : State) : Prop where
  vb : (t.bar b).vb = v
  waiting : (t.bar b).waiting = none
  emptied : v = .off → (t.bar b).intake.wqHead = (s.bar b).intake.wqTail
  print : b < 16 → holder s = true → v = .armed ∨ v = .printing → s.devState = .ready ∨ s.devState = .print → t.devState = .print

theorem advanceBar_reached {b n : Nat} {v : VbState} {s : State} (hw : (s.bar b).waiting = some v)
    (hm : moveNow s b v = some v) (hv : (s.bar b).vb ≠ v) : Reached b v s (advanceBar b (n + 2) s) := by
  rw [advanceBar_reaches hw hm hv]
  obtain ⟨t, ht, entered⟩ := setVb_eq hv
  rw [ht]
  have posture := (followBars_posture b t).trans entered.bar
  have vb : (t.bar b).vb = v := (congrArg Posture.vb entered.bar :)
  refine ⟨?_, ?_, fun off => ?_, fun hb hh hr hd => ?_⟩
  · rw [bar_modBar_self]; exact (congrArg Posture.vb posture :)
  · rw [bar_modBar_self]
  · rw [bar_modBar_self]
    refine (congrArg Posture.wqHead posture :).trans ?_
    rw [Posture.entered, if_pos off]; rfl
  · refine followBars_print (entered.holder.trans hh) (anyRunning_of hb (vb ▸ hr)) ?_
    rw [entered.devState]; exact hd

/-! ### The commands -/

/-- R58: what a bar's target is does not turn on whether the bar may enter a state. -/
theorem moveNow_waiting (b : Nat) (o : Option VbState) (v : VbState) (s : State) :
    moveNow (s.modBar b fun x => { x with waiting := o }) b v = moveNow s b v := by
  have self := bar_modBar_self s b fun x => { x with waiting := o }
  have delay : stripDelay (s.modBar b fun x => { x with waiting := o }) b = stripDelay s b := by
    unfold stripDelay State.stripN; rw [self]
  have idle : idleBar (s.modBar b fun x => { x with waiting := o }) b = idleBar s b := by
    unfold idleBar stripLast; rw [self, delay]; rfl
  have enabled : (s.modBar b fun x => { x with waiting := o }).bo b 0x2000 3 = s.bo b 0x2000 3 := by unfold State.bo; rw [self]
  have fixed : fixedDone (s.modBar b fun x => { x with waiting := o }) b = fixedDone s b := by unfold fixedDone; rw [self]
  unfold moveNow
  rw [self, enabled, fixed, idle]

/-- R58, R59: a target of the holder that its bar may enter at once. -/
theorem targetBar_reached {b : Nat} {v : VbState} {s : State} (hr : vbRefused s v = false) (hm : moveNow s b v = some v)
    (hv : (s.bar b).vb ≠ v) : ∃ t, targetBar b v s = (stOK, t) ∧ Reached b v s t := by
  have self := bar_modBar_self s b fun x => { x with waiting := some v }
  obtain ⟨vb, waiting, emptied, print⟩ := advanceBar_reached (n := 2) (congrArg Bar.waiting self)
    ((moveNow_waiting b _ v s).trans hm) (by rw [self]; exact hv)
  rw [self] at emptied
  refine ⟨_, ?_, vb, waiting, emptied, print⟩
  unfold targetBar
  rw [hr]; rfl

/-- R58, R275: VB_TARGET through the holder's door. -/
theorem vbTarget_reached {dt : Nat} {door : Door} {b : Nat} {v : VbState} {x w : Slot} {s : State}
    (hw : Written s door 0x1202 0 x (some b) 0 w) (hn : vbOf w.toNat = some v) (hh : holder s = true)
    (hr : vbRefused s v = false) (hm : moveNow s b v = some v) (hv : (s.bar b).vb ≠ v) :
    Reached b v s (writeThrough door 0x1202 0 x vbTargetEffect (s.later dt)) := by
  have holds : holder (s.later dt) = true := hh
  obtain ⟨t, ht, vb, waiting, emptied, print⟩ := targetBar_reached (s := s.later dt) hr hm hv
  rw [(hw.later dt).through vbTargetEffect t fun row => ?_]
  · exact ⟨vb, waiting, emptied, print⟩
  · unfold vbTargetEffect
    rw [hn]; dsimp only
    unfold forwarded
    rw [if_pos (by simp [holds])]
    exact ht

/-- A command answers what its effect leaves, at its instant and with the queue as it was. -/
theorem run_answers_at {c : Instr} {dt : Nat} {s u : State} {f : State → State} {p : State → Prop} (hc : exec c s = run dt s f)
    (h : f (s.later dt) = u) (hp : p { u with now := s.now + dt, pending := s.pending }) : Answers c s p := by
  subst h
  exact ⟨_, hc, hp⟩

/-- R58: a waiting target whose condition holds moves its bar. -/
theorem vbTargetMet_reached {b : Fin 16} {dt : Nat} {v : VbState} {s : State} (hh : holder s = true)
    (hw : (s.bar b).waiting = some v) (hm : moveNow s b v = some v) (hv : (s.bar b).vb ≠ v) :
    Answers (.vbTargetMet dt b) s fun t => (t.bar b).vb = v ∧ (t.bar b).waiting = none := by
  have holds : holder (s.later dt) = true := hh
  obtain ⟨vb, waiting, -, -⟩ := advanceBar_reached (n := 2) (s := s.later dt) hw hm hv
  exact run_answers_at (c := .vbTargetMet dt b) rfl (if_pos holds) ⟨vb, waiting⟩

/-- R58: one whose condition does not hold is left. -/
theorem advanceBar_waits {b : Nat} {v : VbState} {s : State} (hw : (s.bar b).waiting = some v) (hm : moveNow s b v = none)
    (hv : (s.bar b).vb ≠ v) (n : Nat) : advanceBar b n s = s := by
  cases n with
  | zero => rfl
  | succ n =>
    unfold advanceBar
    rw [hw]; dsimp only
    rw [hm]; dsimp only
    rw [if_neg hv]

theorem exec_vbTargetMet_waits {b : Fin 16} {dt : Nat} {v : VbState} {s : State} (hw : (s.bar b).waiting = some v)
    (hm : moveNow s b v = none) (hv : (s.bar b).vb ≠ v) : exec (.vbTargetMet dt b) s = .next (s.later dt) := by
  change execVbTargetMet dt b s = _
  unfold execVbTargetMet
  refine run_of ?_ rfl rfl
  rw [advanceBar_waits (s := s.later dt) hw hm hv, ite_self]

/-- Settles O16: each target is one that the bar may enter at once, which `advanceBar` enters in its first round and ends in its
second; a waiting target whose condition fails is left. -/
theorem barTargetsMoveTheBar : Obligations.BarTargetsMoveTheBar := by
  unfold Obligations.BarTargetsMoveTheBar
  refine ⟨?_, ?_, ?_, ?_, ?_, ?_⟩
  · rintro dt door b w s hw rfl hb hh hd hv he
    have reached := vbTarget_reached (dt := dt) (v := .armed) hw rfl hh (by simp [vbRefused, hd]) (by simp [moveNow, hv, he]) (by simp [hv])
    exact run_answers_at (c := .vbTargetArmed dt door) rfl rfl
      ⟨reached.vb, reached.waiting, reached.print hb hh (.inl rfl) (.inl hd)⟩
  · rintro dt door b w s hw rfl hb hh hd hv
    have reached := vbTarget_reached (dt := dt) (v := .printing) hw rfl hh (by simp [vbRefused, hd]) (by simp [moveNow, hv]) (by simp [hv])
    exact run_answers_at (c := .vbTargetPrinting dt door) rfl rfl
      ⟨reached.vb, reached.waiting, reached.print hb hh (.inr rfl) (.inr hd)⟩
  · rintro dt door b w s hw rfl hb hh hd hv
    have reached := vbTarget_reached (dt := dt) (v := .held) hw rfl hh (by simp [vbRefused, hd]) (by simp [moveNow, hv]) (by simp [hv])
    exact run_answers_at (c := .vbTargetHeld dt door) rfl rfl ⟨reached.vb, reached.waiting⟩
  · rintro dt door b w s hw rfl hb hh hv hf hi
    have reached := vbTarget_reached (dt := dt) (v := .off) hw rfl hh rfl (by simp [moveNow, hv, hf, hi]) (by simp [hv])
    exact run_answers_at (c := .vbTargetOff dt door) rfl rfl ⟨reached.vb, reached.waiting, reached.emptied rfl⟩
  · intro dt b s hh hw hv hf
    exact vbTargetMet_reached hh hw (by simp [moveNow, hv, hf]) (by simp [hv])
  · intro dt b s hw hv hf
    exact exec_vbTargetMet_waits hw (by simp [moveNow, hv, hf]) (by simp [hv])

end Sys2Proof.Machine
end

/-! ## What stands while bars and intake go on (02_object_dictionary.md Table 02-10; 15_power_thermal_trim.md R337)

Leaving CONFIG and entering DOZE apply every bar's quota, which may let a held page head go on, with all that an opened page
brings. Through all of that CONFIG_CHECK and BAR_POOL stand, no engine changes, and a scheduler without threads stays empty. -/

section
namespace Sys2Proof.Machine
open Sys2Proof

/-- CONFIG_CHECK (1204) and BAR_POOL (7105). -/
def setupObject (i : Nat) : Prop := i = 0x1204 ∨ i = 0x7105

/-- From `s` to `t` CONFIG_CHECK, BAR_POOL and the engines stand, and an empty scheduler stays empty. -/
structure Steady (s t : State) : Prop where
  dv : ∀ i, setupObject i → t.dv i 0 = s.dv i 0
  sched : s.sched = Sched.reset → t.sched = Sched.reset
  engines : t.engines = s.engines

theorem Steady.refl (s : State) : Steady s s := ⟨fun _ _ => rfl, id, rfl⟩

theorem Steady.trans {s t u : State} (h : Steady s t) (g : Steady t u) : Steady s u :=
  ⟨fun i hi => (g.dv i hi).trans (h.dv i hi), g.sched ∘ h.sched, g.engines.trans h.engines⟩

section
variable {s t : State}

/-- A loop whose turns on its own list are steady. -/
theorem forAll_steady_mem {α : Type} {xs : List α} {f : α → State → State} (h : Steady s t)
    (hf : ∀ x ∈ xs, ∀ u, Steady s u → Steady s (f x u)) : Steady s (forAll xs f t) := by
  induction xs generalizing t with
  | nil => exact h
  | cons x xs ih =>
    rw [forAll_cons]
    exact ih (hf x List.mem_cons_self t h) fun y hy => hf y (List.mem_cons_of_mem x hy)

theorem forAll_steady {α : Type} {xs : List α} {f : α → State → State} (h : Steady s t)
    (hf : ∀ x u, Steady s u → Steady s (f x u)) : Steady s (forAll xs f t) :=
  forAll_induct (Steady s) xs f t hf h

end

/-! ### Events -/

theorem signal_sched (k cls : Nat) (s : State) : (signal k cls s).sched = s.sched := by
  unfold signal; dsimp only; split <;> rfl

theorem eqWrite_sched (b : Nat) (rec : List Byte) (cls : Nat) (s : State) : (eqWrite b rec cls s).sched = s.sched :=
  signal_sched _ _ _

theorem eqFlush_sched (b : Nat) (s : State) : (eqFlush b s).sched = s.sched := by
  unfold eqFlush; dsimp only
  split
  · exact eqWrite_sched _ _ _ _
  · rfl

theorem eqPush_sched (b : Nat) (rec : List Byte) (cls : Nat) (s : State) : (eqPush b rec cls s).sched = s.sched := by
  unfold eqPush; dsimp only
  split
  · exact (eqWrite_sched _ _ _ _).trans (eqFlush_sched _ _)
  · exact eqFlush_sched _ _

theorem deqWrite_sched (rec : List Byte) (cls : Nat) (s : State) : (deqWrite rec cls s).sched = s.sched := signal_sched _ _ _

theorem deqFlush_sched (s : State) : (deqFlush s).sched = s.sched := by
  unfold deqFlush
  split
  · exact deqWrite_sched _ _ _
  · rfl

theorem deqPush_sched (rec : List Byte) (cls : Nat) (s : State) : (deqPush rec cls s).sched = s.sched := by
  unfold deqPush; dsimp only
  split
  · exact (deqWrite_sched _ _ _).trans (deqFlush_sched _)
  · exact deqFlush_sched _

theorem modSession_sched (s : State) (n : Nat) (f : Session → Session) : (s.modSession n f).sched = s.sched := by
  unfold State.modSession; split <;> rfl

theorem moaEvent_sched (sid : Nat) (rec : List Byte) (s : State) : (moaEvent sid rec s).sched = s.sched := by
  unfold moaEvent moaEventSend
  split
  · rfl
  · split <;> exact modSession_sched _ _ _

/-- R53: delivering an event leaves the scheduler alone. -/
theorem deliver_sched (e : Event) (s : State) : (deliver e s).sched = s.sched := by
  have sessions : ∀ f : Nat × Session → State → State, (∀ p u, (f p u).sched = u.sched) →
      (forAll s.moa.sessions f s).sched = s.sched := fun f hf => forAll_keeps State.sched _ f s hf
  unfold deliver
  split
  · unfold deliverAll; dsimp only
    have told := sessions (fun p u => if sessionTakes p.2 e then moaEvent p.1 (sessionRecord s.time p.2 e) u else u) fun p u => by
      split
      · exact moaEvent_sched _ _ _
      · rfl
    cases e.bar with
    | none => exact (deqPush_sched _ _ _).trans told
    | some b =>
      dsimp only
      split
      · exact (deqPush_sched _ _ _).trans ((eqPush_sched _ _ _ _).trans told)
      · exact (eqPush_sched _ _ _ _).trans told
  · rfl

/-- R298, R307: without threads no source wakes one, and ALL_WAIT does not change. -/
theorem raiseSource_asleep {n : Nat} {s : State} (h : s.sched = Sched.reset) : raiseSource n s = s := by
  have free : ∀ t, (s.thread t).st = .free := fun t => by unfold State.thread; rw [h]; rfl
  have quiet : raiseQuiet n s = s := by
    unfold raiseQuiet setFlag; dsimp only
    split
    · exact if_pos (.inl (free _))
    · rfl
  have noWait : allWait s = s.sched.allWaitAt.isSome := by
    unfold allWait threadList; rw [h]; rfl
  unfold raiseSource judgeWait
  rw [quiet]
  exact if_pos noWait

section
variable {s t : State}

theorem steady_post {e : Event} (h : Steady s t) : Steady s (post e t) where
  dv i hi := by
    refine ((post_events e t).dv i 0 (by decide) ?_ ?_ ?_).trans (h.dv i hi) <;> obtain rfl | rfl := hi <;> decide
  sched hs := by
    have asleep : (deliver e t).sched = Sched.reset := (deliver_sched e t).trans (h.sched hs)
    unfold post
    rw [raiseSource_asleep asleep, asleep]
  engines := (post_events e t).engines.trans h.engines

theorem steady_postD {ev : Ev} {flags : Nat} {data : List Byte} (h : Steady s t) : Steady s (postD ev flags data t) :=
  steady_post h

theorem steady_postB {ev : Ev} {b page flags : Nat} {data : List Byte} (h : Steady s t) :
    Steady s (postB ev b page flags data t) := steady_post h

theorem steady_raiseSource {n : Nat} (h : Steady s t) : Steady s (raiseSource n t) where
  dv i hi := by
    refine ((raiseSource_events n t).dv i 0 (by decide) ?_ ?_ ?_).trans (h.dv i hi) <;> obtain rfl | rfl := hi <;> decide
  sched hs := by rw [raiseSource_asleep (h.sched hs), h.sched hs]
  engines := (raiseSource_events n t).engines.trans h.engines

/-! ### State operations -/

theorem steady_modBar {b : Nat} {f : Bar → Bar} (h : Steady s t) : Steady s (t.modBar b f) := ⟨h.dv, h.sched, h.engines⟩
theorem steady_modPort {p : Nat} {f : Port → Port} (h : Steady s t) : Steady s (t.modPort p f) := ⟨h.dv, h.sched, h.engines⟩
theorem steady_modAxis {n : Nat} {f : Axis → Axis} (h : Steady s t) : Steady s (t.modAxis n f) := ⟨h.dv, h.sched, h.engines⟩
theorem steady_modCam {n : Nat} {f : Cam → Cam} (h : Steady s t) : Steady s (t.modCam n f) := ⟨h.dv, h.sched, h.engines⟩
theorem steady_modSupply {k : Nat} {f : Supply → Supply} (h : Steady s t) : Steady s (t.modSupply k f) :=
  ⟨h.dv, h.sched, h.engines⟩
theorem steady_modMram {f : Mram → Mram} (h : Steady s t) : Steady s (t.modMram f) := ⟨h.dv, h.sched, h.engines⟩
theorem steady_modPair {f : Pair → Pair} (h : Steady s t) : Steady s (t.modPair f) := ⟨h.dv, h.sched, h.engines⟩
theorem steady_modPower {f : Power → Power} (h : Steady s t) : Steady s (t.modPower f) := ⟨h.dv, h.sched, h.engines⟩
theorem steady_modTrig {f : Trig → Trig} (h : Steady s t) : Steady s (t.modTrig f) := ⟨h.dv, h.sched, h.engines⟩
theorem steady_emit {o : Out} (h : Steady s t) : Steady s (t.emit o) := ⟨h.dv, h.sched, h.engines⟩
theorem steady_setBo {b i j v : Nat} (h : Steady s t) : Steady s (t.setBo b i j v) := steady_modBar h
theorem steady_bumpBN {b i j n : Nat} (h : Steady s t) : Steady s (t.bumpBN b i j n) := steady_setBo h
theorem steady_bumpB {b i j : Nat} (h : Steady s t) : Steady s (t.bumpB b i j) := steady_bumpBN h
theorem steady_countB64 {b i j n : Nat} (h : Steady s t) : Steady s (t.countB64 b i j n) := steady_setBo h
theorem steady_modIntake {b : Nat} {f : Intake → Intake} (h : Steady s t) : Steady s (t.modIntake b f) := steady_modBar h
theorem steady_modScan {b : Nat} {f : Scan → Scan} (h : Steady s t) : Steady s (t.modScan b f) := steady_modBar h
theorem steady_modGen {b : Nat} {f : PendGen → PendGen} (h : Steady s t) : Steady s (t.modGen b f) := steady_modBar h

theorem steady_modPage {b n : Nat} {f : Page → Page} (h : Steady s t) : Steady s (t.modPage b n f) := by
  unfold State.modPage
  split
  · exact h
  · exact steady_modBar h

theorem steady_flagPage {b n bits : Nat} (h : Steady s t) : Steady s (t.flagPage b n bits) := steady_modPage h

/-- A device object of another key. -/
theorem steady_setDv {i j v : Nat} (h : Steady s t) (hi : ∀ k, setupObject k → okey k 0 ≠ okey i j) : Steady s (t.setDv i j v) :=
  ⟨fun k hk => (dv_setDv_of_ne _ _ _ _ _ _ (hi k hk)).trans (h.dv k hk), h.sched, h.engines⟩

/-- An index above both objects. -/
theorem setupObject_ne {i j : Nat} (h : 0x7105 < i) : ∀ k, setupObject k → okey k 0 ≠ okey i j := by
  rintro k (rfl | rfl) <;> unfold okey <;> omega

theorem steady_pairSend {r : PairOut} (h : Steady s t) : Steady s (pairSend r t) := by
  unfold pairSend
  split
  · exact steady_emit h
  · exact h

theorem steady_mirror {m : MirrorItem} (h : Steady s t) : Steady s (mirror m t) := by
  unfold mirror
  split
  · exact steady_pairSend h
  · exact h

/-! ### A generation sealed, live, and its gaps -/

theorem steady_gapDecide {b : Nat} (h : Steady s t) : Steady s (gapDecide b t) := by
  unfold gapDecide; dsimp only
  refine forAll_steady h fun p u hu => ?_
  split
  · exact steady_modBar hu
  · exact hu

theorem steady_addReq {p op addr count : Nat} {words : List (BitVec 64)} {forPage : Option (Nat × Nat)} {deadline : Option Nat}
    (h : Steady s t) : Steady s (addReq p op addr count words forPage deadline t) := steady_modPort h

theorem steady_writeWords {p : Nat} {forPage : Option (Nat × Nat)} {n : Nat} {addr : Nat} {ws : List (BitVec 64)}
    (h : Steady s t) : Steady s (writeWords p addr forPage n ws t) := by
  induction n generalizing t addr ws with
  | zero => exact h
  | succ n ih =>
    unfold writeWords
    split
    · exact h
    · exact ih (steady_addReq h)

theorem steady_sendReq {p : Nat} {r : MgmtReq} (h : Steady s t) : Steady s (sendReq p r t) := by
  unfold sendReq countFrame
  exact steady_modPort (steady_emit h)

theorem steady_pumpReqs {p : Nat} (h : Steady s t) : Steady s (pumpReqs p t) := by
  unfold pumpReqs; dsimp only
  split
  · exact steady_modPort (forAll_steady h fun r u hu => steady_sendReq hu)
  · exact h

theorem steady_writePhase {p lo hi : Nat} {copy : Nat → Nat → Option Val} {forPage : Option (Nat × Nat)} (h : Steady s t) :
    Steady s (writePhase p lo hi copy forPage t) := steady_writeWords h

theorem steady_writeWave {p : Nat} {v : Option Val} {forPage : Option (Nat × Nat)} (h : Steady s t) :
    Steady s (writeWave p v forPage t) := steady_writeWords h

theorem steady_shadowPort {b e p : Nat} {keys : List Nat} (h : Steady s t) : Steady s (shadowPort b e keys p t) := by
  unfold shadowPort; dsimp only
  split
  · split
    · exact steady_writeWave (steady_writePhase h)
    · exact steady_writePhase h
  · split
    · exact steady_writeWave h
    · exact h

theorem steady_shadowWrites {b : Nat} (h : Steady s t) : Steady s (shadowWrites b t) := by
  unfold shadowWrites; dsimp only
  split
  · exact h
  · split
    · refine steady_modGen (forAll_steady h fun p u hu => ?_)
      exact steady_pumpReqs (steady_shadowPort hu)
    · split
      · exact steady_modGen h
      · exact h

theorem steady_joinHeads {b : Nat} (h : Steady s t) : Steady s (joinHeads b t) := by
  unfold joinHeads
  split
  · exact h
  · exact steady_modBar (steady_modGen h)

theorem steady_sealWrites {b : Nat} (h : Steady s t) : Steady s (sealWrites b t) := by
  unfold sealWrites; dsimp only
  have seals : ∀ u, Steady s u → Steady s (if (u.bar b).heads.isSome then u else shadowWrites b u) := fun u hu => by
    split
    · exact hu
    · exact steady_shadowWrites hu
  refine seals _ ?_
  split
  · exact steady_joinHeads h
  · exact h

theorem steady_rescreen {b e : Nat} (h : Steady s t) : Steady s (rescreen b e t) := by
  unfold rescreen; dsimp only
  split
  · exact steady_modBar (steady_modBar h)
  · exact steady_postB (steady_bumpBN (steady_modBar (steady_modBar h)))

theorem steady_sealAt {b p e : Nat} {merged idle : Bool} (h : Steady s t) : Steady s (sealAt b p e merged idle t) := by
  unfold sealAt; dsimp only
  refine steady_sealWrites ?_
  split
  · exact steady_rescreen (steady_postB (steady_modBar (steady_gapDecide h)))
  · exact steady_postB (steady_modBar (steady_gapDecide h))

theorem steady_digestJudge {b e theirs : Nat} (h : Steady s t) : Steady s (digestJudge b e theirs t) := by
  unfold digestJudge; dsimp only
  split
  · exact h
  · exact steady_pairSend (steady_postB (steady_modBar (steady_bumpB h)))

theorem steady_sealPeer {b p theirs : Nat} {merged : Bool} (h : Steady s t) : Steady s (sealPeer b p theirs merged t) := by
  unfold sealPeer; dsimp only
  exact steady_digestJudge (steady_sealAt (steady_modBar h))

theorem steady_sealNow {b p : Nat} {merged : Bool} (h : Steady s t) : Steady s (sealNow b p merged t) := by
  unfold sealNow; dsimp only
  split
  · exact steady_sealPeer h
  · split
    · exact steady_pairSend (steady_sealAt h)
    · exact steady_sealAt h

theorem steady_releaseWaits {b : Nat} (h : Steady s t) : Steady s (releaseWaits b t) := ⟨h.dv, h.sched, h.engines⟩

theorem steady_trySeal {b : Nat} (h : Steady s t) : Steady s (trySeal b t) := by
  unfold trySeal; dsimp only
  split
  · exact h
  · split
    · exact h
    · refine steady_releaseWaits ?_
      split
      · exact steady_postB (steady_modBar h)
      · exact steady_sealNow (steady_modBar h)

theorem steady_nozzleEvents {b e p : Nat} {dev : List Nat} {old new : Map Val} (h : Steady s t) :
    Steady s (nozzleEvents b e dev old new p t) := by
  unfold nozzleEvents; dsimp only
  split
  · refine forAll_steady h fun k u hu => ?_
    split
    · exact hu
    · exact steady_post hu
  · exact h

theorem steady_abandonSearch {c : Nat} (h : Steady s t) : Steady s (abandonSearch c t) := by
  unfold abandonSearch
  split
  · exact steady_postD (steady_modCam h)
  · exact h

theorem steady_standbyOutputs (h : Steady s t) : Steady s (standbyOutputs t) := ⟨h.dv, h.sched, h.engines⟩
theorem steady_ownMirror (h : Steady s t) : Steady s (ownMirror t) := ⟨h.dv, h.sched, h.engines⟩
theorem steady_dropWrites (h : Steady s t) : Steady s (dropWrites t) := ⟨h.dv, h.sched, h.engines⟩

theorem steady_releaseReins {cause : Nat} (h : Steady s t) : Steady s (releaseReins cause t) := by
  unfold releaseReins abandonSearches; dsimp only
  split
  · refine steady_postD (steady_modPair (steady_pairSend (steady_dropWrites (forAll_steady ?_ fun c u hu => ?_))))
    · exact steady_standbyOutputs (steady_ownMirror h)
    · exact steady_abandonSearch hu
  · exact h

theorem steady_logVolatile {e : LogEntry} (h : Steady s t) : Steady s (logVolatile e t) := ⟨h.dv, h.sched, h.engines⟩
theorem steady_draw (h : Steady s t) : Steady s t.draw.2 := ⟨h.dv, h.sched, h.engines⟩

theorem steady_logMram {e : LogEntry} {always : Bool} (h : Steady s t) : Steady s (logMram e always t) := by
  unfold logMram; dsimp only
  split
  · exact steady_modMram (steady_draw h)
  · exact steady_modMram h

theorem steady_setCause {bits : Nat} (h : Steady s t) : Steady s (setCause bits t) := by
  unfold setCause logBoth; dsimp only
  split
  · exact h
  · split
    · exact steady_releaseReins (steady_postD (steady_logMram (steady_logVolatile (steady_modMram h))))
    · exact steady_postD (steady_logMram (steady_logVolatile (steady_modMram h)))

/-- 3430 lies between the two objects. -/
theorem steady_headGapPort {p : Nat} (hp : p < 64) (h : Steady s t) : Steady s (headGapPort p t) := by
  have between : ∀ k, setupObject k → okey k 0 ≠ okey 0x3430 p := by
    rintro k (rfl | rfl) <;> unfold okey <;> omega
  unfold headGapPort; dsimp only
  split
  · exact h
  · split
    · exact steady_setCause (steady_postD (steady_postD (steady_setDv h between)))
    · exact steady_postD (steady_setDv h between)

theorem steady_headGaps (h : Steady s t) : Steady s (headGaps t) :=
  forAll_steady_mem h fun _ hp _ hu => steady_headGapPort (List.mem_range.1 hp) hu

theorem steady_commitLive {b n : Nat} (h : Steady s t) : Steady s (commitLive b n t) := by
  unfold commitLive; dsimp only
  split
  · exact h
  · refine steady_trySeal ?_
    split
    · refine forAll_steady ?_ fun p u hu => steady_nozzleEvents hu
      exact steady_headGaps (steady_modScan (steady_raiseSource (steady_postB (steady_modBar h))))
    · exact steady_headGaps (steady_raiseSource (steady_postB (steady_modBar h)))

end

end Sys2Proof.Machine
end

/-! ## Pages started, taken in and closed (03_intake.md), as far as leaving CONFIG and entering DOZE let them go on -/

section
namespace Sys2Proof.Machine
open Sys2Proof

section
variable {s t : State}

theorem steady_ite {c : Prop} [Decidable c] {u v : State} (hu : Steady s u) (hv : Steady s v) :
    Steady s (if c then u else v) := by
  split
  · exact hu
  · exact hv

/-! ### A page starts -/

theorem steady_postStop {n cause : Nat} {hard : Bool} (h : Steady s t) : Steady s (postStop n cause hard t) := steady_postD h

theorem steady_mirrorAxis {n : Nat} (h : Steady s t) : Steady s (mirrorAxis n t) := steady_mirror h

theorem steady_stopNow {n cause : Nat} {fast : Bool} (h : Steady s t) : Steady s (stopNow n cause fast t) :=
  steady_mirrorAxis (steady_postStop (steady_modAxis h))

theorem steady_stopRamp {n cause decel : Nat} (h : Steady s t) : Steady s (stopRamp n cause decel t) := by
  unfold stopRamp
  split
  · exact steady_modAxis h
  · exact h

theorem steady_axDo {n c : Nat} (h : Steady s t) : Steady s (axDo n c t) := by
  unfold axDo stopHard
  split
  · exact steady_stopRamp h
  · split
    · exact steady_stopNow h
    · exact h
  · exact steady_modAxis h
  · exact steady_modAxis h
  · exact steady_modAxis h

theorem steady_startArmed (h : Steady s t) : Steady s (startArmed t) := by
  refine forAll_steady h fun n u hu => ?_
  split
  · exact steady_axDo (steady_modAxis hu)
  · exact hu

theorem steady_liveAtPage {b n : Nat} (h : Steady s t) : Steady s (liveAtPage b n t) := by
  unfold liveAtPage
  split
  · split
    · exact steady_commitLive h
    · exact h
  · exact h

theorem steady_headsStarted {b : Nat} (h : Steady s t) : Steady s (headsStarted b t) := by
  unfold headsStarted
  split
  · exact steady_shadowWrites (steady_modBar h)
  · exact h

theorem steady_putTable {b kind key len : Nat} (h : Steady s t) : Steady s (putTable b kind key len t) := by
  unfold putTable
  exact steady_modBar h

theorem steady_placeChanged (h : Steady s t) : Steady s (placeChanged t) := ⟨h.dv, h.sched, h.engines⟩

theorem steady_moveTable {b : Nat} {x : Nat × Nat × Nat} (h : Steady s t) : Steady s (moveTable b x t) := by
  unfold moveTable; dsimp only
  split
  · split
    · exact steady_putTable h
    · exact steady_placeChanged (steady_putTable h)
  · exact h

theorem steady_moveTables {b : Nat} (h : Steady s t) : Steady s (moveTables b t) :=
  forAll_steady h fun _ _ hu => steady_moveTable hu

theorem steady_sramJudge {b : Nat} (h : Steady s t) : Steady s (sramJudge b t) := by
  unfold sramJudge; dsimp only
  split
  · exact h
  · exact steady_postB (steady_modIntake h)

theorem steady_writeInteg {b n : Nat} (h : Steady s t) : Steady s (writeInteg b n t) := by
  unfold writeInteg
  split
  · exact h
  · exact forAll_steady (steady_setBo h) fun _ _ hu => steady_setBo hu

theorem steady_rectFinal {b n k : Nat} (h : Steady s t) : Steady s (rectFinal b n k t) := by
  unfold rectFinal; dsimp only
  split
  · exact h
  · split
    · exact h
    · split
      · exact steady_bumpB (steady_writeInteg (steady_modPage h))
      · exact steady_postB (steady_bumpB (steady_writeInteg (steady_modPage h)))

theorem steady_integCheck {b n : Nat} (h : Steady s t) : Steady s (integCheck b n t) := by
  unfold integCheck
  split
  · exact h
  · split
    · refine forAll_steady h fun k u hu => ?_
      split
      · split
        · exact steady_rectFinal hu
        · exact hu
      · exact hu
    · exact h

theorem steady_startPage {b n time : Nat} {p : Page} (h : Steady s t) : Steady s (startPage b n time p t) := by
  unfold startPage; dsimp only
  have started : ∀ u, Steady s u → Steady s (if u.dv 0xA010 1 = 0x2000 + b ∧ holder u then startArmed u else u) := fun u hu => by
    split
    · exact steady_startArmed hu
    · exact hu
  refine started _ (steady_integCheck (steady_postB ?_))
  refine steady_setBo (steady_setBo (steady_setBo (steady_setBo (steady_modScan (steady_modPage ?_)))))
  exact steady_sramJudge (steady_moveTables (steady_headsStarted (steady_liveAtPage h)))

/-! ### A page ends -/

theorem steady_evictPage {b : Nat} {p : Page} (h : Steady s t) : Steady s (evictPage b p t) := by
  unfold evictPage; dsimp only
  split
  · exact steady_postB (steady_bumpB (steady_mirror (steady_modPage h)))
  · exact steady_mirror (steady_modPage h)

theorem steady_postPaused {b cause : Nat} {resumed : Bool} (h : Steady s t) : Steady s (postPaused b cause resumed t) :=
  steady_postB h

theorem steady_makeRoom {b need n : Nat} (h : Steady s t) : Steady s (makeRoom b need n t) := by
  induction n generalizing t with
  | zero => exact h
  | succ n ih =>
    unfold makeRoom; dsimp only
    split
    · split
      · exact steady_postPaused (steady_modIntake h)
      · exact h
    · split
      · exact ih (steady_evictPage h)
      · split
        · exact steady_modIntake h
        · exact steady_postPaused (steady_modIntake h)

theorem steady_evictToQuota {b n : Nat} (h : Steady s t) : Steady s (evictToQuota b n t) := by
  induction n generalizing t with
  | zero => exact h
  | succ n ih =>
    unfold evictToQuota
    split
    · split
      · exact ih (steady_evictPage h)
      · exact h
    · exact h

theorem steady_retryRoom {b : Nat} (h : Steady s t) : Steady s (retryRoom b t) := by
  unfold retryRoom
  split
  · exact steady_makeRoom h
  · exact h

theorem steady_applyQuota {b : Nat} (h : Steady s t) : Steady s (applyQuota b t) := by
  unfold applyQuota; dsimp only
  split
  · exact steady_retryRoom (steady_evictToQuota h)
  · exact steady_postPaused (steady_postB (steady_modIntake (steady_retryRoom (steady_evictToQuota h))))

theorem steady_retainPrinted {b n : Nat} (h : Steady s t) : Steady s (retainPrinted b n t) := by
  unfold retainPrinted; dsimp only
  split
  · exact h
  · next p hp =>
    have unpinned : ∀ u, Steady s u → Steady s (match p.source with
        | some src => u.modPage b src (fun q => { q with pins := q.pins - 1 })
        | none => u) := fun u hu => by
      split
      · exact steady_modPage hu
      · exact hu
    split
    · exact steady_applyQuota (steady_modPage (steady_modPage (unpinned _ (steady_modPage h))))
    · exact steady_applyQuota (steady_mirror (steady_modPage (steady_modPage (unpinned _ (steady_modPage h)))))

theorem steady_pageEnd {b n line : Nat} {cut : Bool} (h : Steady s t) : Steady s (pageEnd b n cut line t) := by
  unfold pageEnd; dsimp only
  split
  · exact steady_flagPage h
  · exact steady_retainPrinted (steady_postB (steady_setBo (steady_ite
      (steady_modScan (steady_bumpB (steady_modPage (steady_flagPage h)))) (steady_modPage (steady_flagPage h)))))

theorem steady_rectIncomplete {b n k : Nat} (h : Steady s t) : Steady s (rectIncomplete b n k t) := by
  unfold rectIncomplete; dsimp only
  split
  · exact h
  · split
    · exact h
    · split
      · exact h
      · exact steady_postB (steady_bumpB (steady_modPage h))

theorem steady_integCut {b n : Nat} (h : Steady s t) : Steady s (integCut b n t) := by
  unfold integCut
  split
  · exact h
  · exact forAll_steady h fun _ _ hu => steady_rectIncomplete hu

/-! ### A flip line fixed -/

theorem steady_bandSelects {b : Nat} {c : BandChange} (h : Steady s t) : Steady s (bandSelects b c t) :=
  forAll_steady h fun _ _ hu => steady_emit hu

theorem steady_freezeBand {b page line : Nat} (h : Steady s t) : Steady s (freezeBand b page line t) := by
  unfold freezeBand decideBand; dsimp only
  split
  · exact steady_pairSend (steady_bandSelects (steady_modScan h))
  · exact h

theorem steady_activatePort {b flip p : Nat} {pg : Page} {keys : List Nat} (h : Steady s t) :
    Steady s (activatePort b pg flip keys p t) := steady_pumpReqs (steady_addReq h)

theorem steady_activates {b flip : Nat} {pg : Page} (h : Steady s t) : Steady s (activates b pg flip t) := by
  unfold activates activateKeys; dsimp only
  split
  · exact forAll_steady (steady_modPage h) fun _ _ hu => steady_activatePort hu
  · exact steady_modPage h

theorem steady_fixFlip {b f residual : Nat} {p : Page} (h : Steady s t) : Steady s (fixFlip b p f residual t) := by
  unfold fixFlip; dsimp only
  exact steady_activates (steady_freezeBand (steady_ite
    (steady_pairSend (steady_modScan (steady_modPage h))) (steady_modScan (steady_modPage h))))

theorem steady_peerFlip {b n f : Nat} {cut : Option Nat} (h : Steady s t) : Steady s (peerFlip b n f cut t) := by
  unfold peerFlip; dsimp only
  split
  · split
    · split
      · exact steady_pageEnd (steady_integCut (steady_startPage h))
      · exact steady_startPage h
    · exact h
  · exact h

theorem steady_takeAhead {b n : Nat} (h : Steady s t) : Steady s (takeAhead b n t) := by
  unfold takeAhead; dsimp only
  split
  · exact steady_peerFlip (steady_fixFlip (steady_modScan h))
  · exact h

/-! ### Waybills -/

theorem steady_modFlight {b idx : Nat} {f : Inflight → Inflight} (h : Steady s t) : Steady s (modFlight b idx f t) :=
  steady_modIntake h

theorem steady_advanceHead {b : Nat} (h : Steady s t) : Steady s (advanceHead b t) := steady_modIntake h

theorem steady_flightDone {b idx : Nat} (h : Steady s t) : Steady s (flightDone b idx t) := steady_advanceHead (steady_modFlight h)

theorem steady_postSpan {ev : Ev} {b page flags span : Nat} {d : Nat → List Byte} (h : Steady s t) :
    Steady s (postSpan ev b page flags d span t) := steady_post h

theorem steady_wbFail {b idx code type page : Nat} {w : Nat × Nat × Nat} (h : Steady s t) :
    Steady s (wbFail b idx code type page w t) := by
  unfold wbFail; dsimp only
  split
  · exact steady_postSpan (steady_setBo (steady_bumpB h))
  · exact steady_postB (steady_setBo (steady_bumpB h))

theorem steady_notify {b page : Nat} {bs : List Byte} (h : Steady s t) : Steady s (notify b page bs t) := by
  unfold notify
  split
  · exact steady_postB h
  · exact h

theorem steady_addPage {b : Nat} {p : Page} (h : Steady s t) : Steady s (addPage b p t) := by
  unfold addPage; dsimp only
  refine steady_modIntake (steady_modPage ?_)
  split
  · exact steady_modScan (steady_modBar h)
  · exact steady_modBar h

theorem steady_closeIfDone {b n : Nat} (h : Steady s t) : Steady s (closeIfDone b n t) := by
  unfold closeIfDone; dsimp only
  split
  · exact h
  · split
    · exact steady_postB (steady_modPage h)
    · exact h

theorem steady_checkHead {b : Nat} {e : Inflight} (h : Steady s t) : Steady s (checkHead b e t) := by
  unfold checkHead acceptHead; dsimp only
  split
  · exact steady_flightDone (steady_wbFail h)
  · split
    · exact steady_takeAhead (steady_closeIfDone (steady_notify (steady_flightDone (steady_applyQuota (steady_addPage h)))))
    · exact steady_modFlight h

theorem steady_rectsUnknown {b n plane span band wy : Nat} (h : Steady s t) : Steady s (rectsUnknown b n plane span band wy t) := by
  unfold rectsUnknown
  split
  · exact h
  · refine forAll_steady h fun k u hu => ?_
    split
    · split
      · exact steady_rectIncomplete hu
      · exact hu
    · exact hu

theorem steady_wagonFail {b n code : Nat} {w : Wagon} (h : Steady s t) : Steady s (wagonFail b n w code t) := by
  unfold wagonFail quotaAfterLoss; dsimp only
  have counted : ∀ u, Steady s u → Steady s (if code = 0x30 then u.bumpB b 0x2007 2 else u) := fun u hu => by
    split
    · exact steady_bumpB hu
    · exact hu
  have unknown : ∀ withheld : Bool, ∀ a₁ a₂ a₃ a₄ u, Steady s u →
      Steady s (if withheld then rectsUnknown b n a₁ a₂ a₃ a₄ u else u) := fun _ _ _ _ _ _ hu => steady_ite (steady_rectsUnknown hu) hu
  have quota : ∀ u, Steady s u → Steady s (if w.isStored then applyQuota b u else u) := fun _ hu => steady_ite (steady_applyQuota hu) hu
  exact steady_closeIfDone (quota _ (unknown _ _ _ _ _ _
    (steady_postSpan (steady_setBo (counted _ (steady_bumpB (steady_modPage h)))))))

theorem steady_auditCheck {b : Nat} (h : Steady s t) : Steady s (auditCheck b t) := by
  unfold auditCheck; dsimp only
  split
  · exact h
  · split
    · exact h
    · split
      · exact steady_postB (steady_modIntake h)
      · exact h

theorem steady_finishPage {b n : Nat} (h : Steady s t) : Steady s (finishPage b n t) := by
  unfold finishPage
  split
  · split
    · exact steady_modPage h
    · exact h
  · exact h

theorem steady_settle {b n : Nat} (h : Steady s t) : Steady s (settle b n t) :=
  steady_finishPage (steady_auditCheck (steady_integCheck h))

theorem steady_checkWagon {b : Nat} {e : Inflight} (h : Steady s t) : Steady s (checkWagon b e t) := by
  unfold checkWagon; dsimp only
  split
  · exact steady_flightDone (steady_wbFail h)
  · split
    · exact steady_flightDone (steady_settle (steady_wagonFail (steady_wbFail h)))
    · exact steady_modFlight (steady_modPage (steady_countB64 h))

theorem steady_reprintPage {b n src : Nat} (h : Steady s t) : Steady s (reprintPage b n src t) := by
  unfold reprintPage; dsimp only
  split
  · exact h
  · refine steady_takeAhead ?_
    split
    · exact steady_postB (steady_mirror (steady_modPage (steady_addPage h)))
    · exact steady_integCut (steady_postB (steady_mirror (steady_modPage (steady_addPage h))))

theorem steady_checkReprint {b : Nat} {e : Inflight} (h : Steady s t) : Steady s (checkReprint b e t) := by
  unfold checkReprint
  extract_lets bs flags n src k at_ code
  split
  · exact steady_flightDone (steady_wbFail (forAll_steady h fun _ _ hu => steady_mirror hu))
  · split
    · exact steady_flightDone (steady_wbFail h)
    · exact steady_notify (steady_flightDone (steady_postB (forAll_steady h fun _ _ hu => steady_reprintPage hu)))

theorem steady_checkWaybill {b : Nat} {e : Inflight} (h : Steady s t) : Steady s (checkWaybill b e t) := by
  unfold checkWaybill; dsimp only
  split
  · exact steady_flightDone (steady_wbFail h)
  · split
    · exact steady_checkWagon h
    · split
      · exact steady_postPaused (steady_modIntake (steady_modFlight h))
      · exact steady_checkHead h
    · exact steady_checkReprint h
    · exact steady_flightDone (steady_wbFail h)

theorem steady_checkRun {b n : Nat} (h : Steady s t) : Steady s (checkRun b n t) := by
  induction n generalizing t with
  | zero => exact h
  | succ n ih =>
    unfold checkRun
    split
    · split
      · exact ih (steady_checkWaybill h)
      · exact h
    · exact h

theorem steady_resumeHold {b : Nat} (h : Steady s t) : Steady s (resumeHold b t) := by
  unfold resumeHold checkAll; dsimp only
  split
  · split
    · exact steady_checkRun (steady_checkHead (steady_postPaused (steady_modIntake h)))
    · exact steady_postPaused (steady_modIntake h)
  · exact h

/-- R247, R248: every bar's quota applied. -/
theorem steady_applyQuotas (h : Steady s t) : Steady s (applyQuotas t) :=
  forAll_steady h fun _ _ hu => steady_resumeHold (steady_retryRoom (steady_applyQuota hu))

end

end Sys2Proof.Machine
end

/-! ## Targets of the device (02_object_dictionary.md R56, Table 02-10; 15_power_thermal_trim.md R337, R339) -/

section
namespace Sys2Proof.Machine
open Sys2Proof

/-- `Steady`, and the device state and the running exit from DOZE stand too. -/
structure Calm (s t : State) : Prop extends Steady s t where
  devState : t.devState = s.devState
  exitAt : t.power.dozeExitAt = s.power.dozeExitAt

theorem Calm.refl (s : State) : Calm s s := ⟨Steady.refl s, rfl, rfl⟩

section
variable {s t : State}

theorem forAll_calm {α : Type} {xs : List α} {f : α → State → State} (h : Calm s t) (hf : ∀ x u, Calm s u → Calm s (f x u)) :
    Calm s (forAll xs f t) :=
  forAll_induct (Calm s) xs f t hf h

theorem calm_ite {c : Prop} [Decidable c] {u v : State} (hu : Calm s u) (hv : Calm s v) : Calm s (if c then u else v) := by
  split
  · exact hu
  · exact hv

/-! ### State operations -/

theorem calm_postD {ev : Ev} {flags : Nat} {data : List Byte} (h : Calm s t) : Calm s (postD ev flags data t) where
  toSteady := steady_postD h.toSteady
  devState := (postD_events _ _ _ _).devState.trans h.devState
  exitAt := by rw [(postD_events _ _ _ _).power, h.exitAt]

theorem calm_mirror {m : MirrorItem} (h : Calm s t) : Calm s (mirror m t) where
  toSteady := steady_mirror h.toSteady
  devState := (mirror_events _ _).devState.trans h.devState
  exitAt := by rw [(mirror_events _ _).power, h.exitAt]

theorem calm_modPort {p : Nat} {f : Port → Port} (h : Calm s t) : Calm s (t.modPort p f) :=
  ⟨steady_modPort h.toSteady, h.devState, h.exitAt⟩
theorem calm_modSupply {k : Nat} {f : Supply → Supply} (h : Calm s t) : Calm s (t.modSupply k f) :=
  ⟨steady_modSupply h.toSteady, h.devState, h.exitAt⟩
theorem calm_modPair {f : Pair → Pair} (h : Calm s t) : Calm s (t.modPair f) :=
  ⟨steady_modPair h.toSteady, h.devState, h.exitAt⟩
theorem calm_modTrig {f : Trig → Trig} (h : Calm s t) : Calm s (t.modTrig f) :=
  ⟨steady_modTrig h.toSteady, h.devState, h.exitAt⟩
theorem calm_emit {o : Out} (h : Calm s t) : Calm s (t.emit o) := ⟨steady_emit h.toSteady, h.devState, h.exitAt⟩
theorem calm_trimBegin {i : Nat} (h : Calm s t) : Calm s (t.trimBegin i) :=
  ⟨⟨h.dv, h.sched, h.engines⟩, h.devState, h.exitAt⟩
theorem calm_setDv {i j v : Nat} (h : Calm s t) (hi : 0x7105 < i) : Calm s (t.setDv i j v) :=
  ⟨steady_setDv h.toSteady (setupObject_ne hi), h.devState, h.exitAt⟩

/-! ### Supplies and the trigger off -/

theorem calm_setSupply {k : Nat} {st : SupplyState} (h : Calm s t) : Calm s (setSupply k st t) := by
  unfold setSupply; dsimp only
  split
  · exact h
  · exact calm_postD (calm_modSupply h)

theorem calm_mirrorSupply {k : Nat} (h : Calm s t) : Calm s (mirrorSupply k t) := calm_mirror h

theorem calm_disableSupply {k : Nat} (h : Calm s t) : Calm s (disableSupply k t) := by
  unfold disableSupply; dsimp only
  split
  · exact h
  · exact calm_mirrorSupply (calm_setSupply (calm_modSupply h))

theorem calm_disableAll (h : Calm s t) : Calm s (disableAll t) := forAll_calm h fun _ _ hu => calm_disableSupply hu

theorem calm_riseSupply {k : Nat} (h : Calm s t) : Calm s (riseSupply k t) := by
  unfold riseSupply; dsimp only
  exact calm_mirrorSupply (calm_setSupply (calm_modSupply h))

theorem calm_trigOff (h : Calm s t) : Calm s (trigOff t) := by
  unfold trigOff riseWaiting
  split
  · exact forAll_calm (calm_modTrig h) fun _ _ hu => calm_riseSupply hu
  · exact h

/-! ### The links -/

theorem calm_advertise {only100 : Bool} {p : Nat} (h : Calm s t) : Calm s (advertise only100 p t) := by
  unfold advertise; dsimp only
  split
  · exact calm_emit h
  · exact h

theorem calm_setLink {p : Nat} {up slow : Bool} (h : Calm s t) : Calm s (setLink p up slow t) := by
  unfold setLink; dsimp only
  exact calm_ite h (calm_postD (calm_setDv h (by decide)))

theorem calm_relink {doze : Bool} (h : Calm s t) : Calm s (relink doze t) :=
  calm_setLink (calm_setLink (calm_advertise (calm_advertise h)))

theorem calm_setPairState {p : PairState} (h : Calm s t) : Calm s (setPairState p t) := by
  unfold setPairState; dsimp only
  split
  · exact h
  · exact calm_postD (calm_modPair h)

theorem calm_supplyFollow {k : Nat} (h : Calm s t) : Calm s (supplyFollow k t) := by
  unfold supplyFollow; dsimp only
  split
  · split
    · exact calm_riseSupply h
    · exact h
  · split
    · exact calm_modSupply h
    · exact calm_setSupply (calm_modSupply h)

theorem calm_standbyOutputs (h : Calm s t) : Calm s (standbyOutputs t) := ⟨steady_standbyOutputs h.toSteady, h.devState, h.exitAt⟩

theorem calm_linkLost {lane : Nat} (h : Calm s t) : Calm s (linkLost lane t) := by
  have isolated := calm_setPairState (p := .isolated) (calm_postD (ev := .pairLink) (flags := 0)
    (data := leBytes 1 (lanesUp (t.modPair fun x => { x with linkUp := false })) ++ leBytes 1 lane)
    (calm_modPair (f := fun x => { x with linkUp := false }) h))
  unfold linkLost; dsimp only
  split
  · exact isolated
  · exact forAll_calm (calm_standbyOutputs isolated) fun _ _ hu => calm_supplyFollow hu

theorem calm_dozeLink (h : Calm s t) : Calm s (dozeLink t) := by
  unfold dozeLink; dsimp only
  split
  · have lanes := forAll_calm (xs := [1, 2, 3])
      (f := fun n u => if pairLane u n = 3 then u else u.modPair fun x => { x with lanes := x.lanes.set n 0 }) h
      fun _ _ hu => calm_ite hu (calm_modPair hu)
    exact calm_ite (calm_linkLost lanes) lanes
  · exact h

theorem calm_dozeLinkBack (h : Calm s t) : Calm s (dozeLinkBack t) := by
  unfold dozeLinkBack
  split
  · exact forAll_calm h fun _ _ hu => calm_ite (calm_modPair hu) hu
  · exact h

/-! ### The lanes -/

theorem calm_setLane {p : Nat} {st : LaneState} (h : Calm s t) : Calm s (setLane p st t) := by
  unfold setLane; dsimp only
  split
  · exact h
  · exact calm_postD (calm_ite (calm_trimBegin (calm_modPort h)) (calm_modPort h))

theorem calm_wakeLane {p : Nat} (h : Calm s t) : Calm s (wakeLane p t) := by
  unfold wakeLane
  split
  · exact calm_modPort (calm_emit (calm_setLane h))
  · exact h

theorem calm_laneEnable {p : Nat} (h : Calm s t) : Calm s (laneEnable p t) := by
  unfold laneEnable
  split
  · split
    · split
      · exact calm_setLane h
      · exact calm_modPort (calm_setLane h)
    · exact h
  · exact calm_setLane (calm_modPort h)

theorem calm_wakeAll {p : Nat} (h : Calm s t) : Calm s (wakeAll p t) := by
  unfold wakeAll
  split
  · exact calm_wakeLane h
  · exact calm_laneEnable h
  · exact h

/-! ### The device state -/

theorem steady_setDev {st : DevState} {cause : Nat} (h : Steady s t) : Steady s (setDev st cause t) := by
  have clock : Steady s (printClock st t) := by
    unfold printClock
    split
    · split
      · exact h
      · exact ⟨h.dv, h.sched, h.engines⟩
    · split
      · exact ⟨h.dv, h.sched, h.engines⟩
      · exact h
  have moved : Steady s (lapseAll { printClock st t with devState := st }) := ⟨clock.dv, clock.sched, clock.engines⟩
  unfold setDev; dsimp only
  split
  · exact h
  · exact steady_mirror (steady_postD moved)

theorem printClock_power (st : DevState) (s : State) : (printClock st s).power = s.power := by
  unfold printClock
  split
  · split <;> rfl
  · split <;> rfl

theorem setDev_power (st : DevState) (cause : Nat) (s : State) : (setDev st cause s).power = s.power := by
  unfold setDev; dsimp only
  split
  · rfl
  · rw [((postD_events _ _ _ _).trans (mirror_events _ _)).power]
    exact printClock_power st s

/-! ### Into CONFIG and out of it -/

theorem enterConfig_devState (s : State) : (enterConfig s).devState = .config := setDev_devState _ _ _

theorem leaveConfig_devState (s : State) : (leaveConfig s).devState = .ready := setDev_devState _ _ _

theorem steady_enterConfig (s : State) : Steady s (enterConfig s) :=
  steady_setDev (calm_disableAll (calm_trigOff (Calm.refl s))).toSteady

/-- 7021, the migrations counted, lies between the two objects. -/
theorem steady_placeApply {cause : Nat} {emergency : Bool} {new : Map (List (Nat × Nat))} (h : Steady s t) :
    Steady s (placeApply cause emergency new t) := by
  have between : ∀ j < 2, ∀ k, setupObject k → okey k 0 ≠ okey 0x7021 j := by
    rintro j hj k (rfl | rfl) <;> unfold okey <;> omega
  unfold placeApply; dsimp only
  split
  · exact ⟨h.dv, h.sched, h.engines⟩
  · refine steady_postD (steady_setDv (steady_placeChanged ⟨h.dv, h.sched, h.engines⟩) (between _ ?_))
    split <;> decide

theorem steady_placeRun {cause : Nat} {emergency : Bool} (h : Steady s t) : Steady s (placeRun cause emergency t) := by
  unfold placeRun placeFull
  split
  · exact h
  · exact steady_placeApply ⟨h.dv, h.sched, h.engines⟩

/-- R248: CONFIG_CHECK is none of the objects that the regions set. -/
theorem layRegions_configCheck (s : State) : (layRegions s).dv 0x1204 0 = s.dv 0x1204 0 := by
  unfold layRegions; dsimp only
  rw [(steady_applyQuotas (Steady.refl _)).dv 0x1204 (.inl rfl), dv_setDv_of_ne _ _ _ _ _ _ (by decide)]
  refine (dv_setDv_of_ne _ _ _ _ _ _ (by decide)).trans ?_
  rw [dv_setDv_of_ne _ _ _ _ _ _ (by decide), dv_setDv_of_ne _ _ _ _ _ _ (by decide)]

theorem leaveConfig_configCheck (s : State) : (leaveConfig s).dv 0x1204 0 = s.dv 0x1204 0 := by
  have left : Steady (layRegions s) (leaveConfig s) :=
    steady_setDev (forAll_steady (steady_placeRun (Steady.refl _)) fun _ _ hu => steady_modScan hu)
  exact (left.dv 0x1204 (.inl rfl)).trans (layRegions_configCheck s)

/-! ### Into DOZE and out of it -/

theorem steady_dozeDomain {d : Nat} (h : Steady s t) : Steady s (dozeDomain d t) := by
  unfold dozeDomain; dsimp only
  split
  · exact h
  · exact steady_postD (steady_modPower h)

theorem steady_dozeRails (h : Steady s t) : Steady s (dozeRails t) :=
  steady_modPower (forAll_steady h fun _ _ hu => forAll_steady hu fun _ _ hv => steady_emit hv)

theorem applyQuotas_asleep {u : State} (hs : u.sched = Sched.reset) (he : u.engines = []) :
    (applyQuotas u).sched = Sched.reset ∧ (applyQuotas u).engines = [] :=
  have applied := steady_applyQuotas (Steady.refl u)
  ⟨applied.sched hs, applied.engines.trans he⟩

/-- R337: the units that DOZE takes off leave no thread and no engine. -/
theorem dozeLose_asleep (s : State) : (dozeLose s).sched = Sched.reset ∧ (dozeLose s).engines = [] := by
  unfold dozeLose
  exact applyQuotas_asleep rfl rfl

theorem enterDoze_asleep (s : State) : (enterDoze s).sched = Sched.reset ∧ (enterDoze s).engines = [] := by
  obtain ⟨asleep, idle⟩ := dozeLose_asleep (forAll (List.range 64) dozeLane (disableAll (trigOff s)))
  have units : Steady (dozeLose (forAll (List.range 64) dozeLane (disableAll (trigOff s)))) (dozeUnits s) :=
    forAll_steady (Steady.refl _) fun _ _ hu => steady_dozeDomain hu
  have down : Steady (dozeUnits s) (setDev .doze 0 (relink true (dozeRails (dozeUnits s)))) := by
    refine steady_setDev (Steady.trans (steady_dozeRails (Steady.refl _)) ?_)
    exact (calm_relink (Calm.refl _)).toSteady
  have linked := (units.trans down).trans (calm_dozeLink (Calm.refl _)).toSteady
  exact ⟨linked.sched asleep, linked.engines.trans idle⟩

theorem enterDoze_devState (s : State) : (enterDoze s).devState = .doze :=
  (calm_dozeLink (Calm.refl _)).devState.trans (setDev_devState _ _ _)

theorem firmwareStart_power (s : State) : (firmwareStart s).power = s.power := by
  unfold firmwareStart
  rw [(makeReady_events _ _).power]
  rfl

theorem dozeBack_ready (a : Nat) (s : State) : (dozeBack a s).devState = .ready ∧ (dozeBack a s).power.dozeExitAt = none := by
  unfold dozeBack; dsimp only
  have back := fun u : State => forAll_calm (xs := List.range 64) (f := wakeAll)
    (calm_dozeLinkBack (calm_relink (doze := false) (Calm.refl u))) fun _ _ hu => calm_wakeAll hu
  refine ⟨(back _).devState.trans (setDev_devState _ _ _), (back _).exitAt.trans ?_⟩
  rw [setDev_power]
  exact congrArg Power.dozeExitAt (firmwareStart_power _)

/-! ### The reboot -/

theorem reapply_devState (key : Nat) (s : State) : (reapply key s).devState = s.devState := by
  unfold reapply; dsimp only
  split <;> split <;> rfl

theorem reapplyAll_devState (s : State) : (reapplyAll s).devState = s.devState := by
  unfold reapplyAll; dsimp only
  have counted := fun u : State => forAll_keeps State.devState (List.range 9) (fun c u => u.setDv 0xC004 c (retiredCount u c)) u
    fun _ _ => rfl
  rw [counted, forAll_keeps State.devState _ _ _ reapply_devState, modMram_devState]

theorem trimStart_devState (i : Nat) (s : State) : (trimStart i s).devState = s.devState := by
  unfold trimStart
  split
  · rfl
  · split <;> rfl

theorem subch_devState (m : Map Subch) (s : State) : ({ s with subch := m } : State).devState = s.devState := rfl

theorem bootEnter_devState (s : State) : (bootEnter s).devState = .boot := by
  unfold bootEnter; dsimp only
  split
  · exact setDev_devState _ _ _
  · rw [modBoot_devState, forAll_keeps State.devState _ _ _ trimStart_devState, modPower_devState,
      forAll_keeps State.devState _ _ _ fun _ _ => modSch_devState _ _ _]
    exact (subch_devState _ (reapplyAll (setDev .boot 2 (closeAll s)))).trans
      ((reapplyAll_devState _).trans (setDev_devState _ _ _))

end

/-! ### The commands -/

/-- A command answers what its effect leaves, where the claim is not of the instant or of the queue. -/
theorem run_answers_timeless {c : Instr} {dt : Nat} {s u : State} {f : State → State} {p : State → Prop}
    (ht : ∀ (t : State) (n : Nat) (q : List Instr), p t → p { t with now := n, pending := q }) (hc : exec c s = run dt s f)
    (h : f (s.later dt) = u) (hp : p u) : Answers c s p :=
  run_answers_at hc h (ht _ _ _ hp)

/-- R56, R275: DEV_TARGET through the holder's door, where the target's status is OK. -/
theorem devTarget_through {dt n : Nat} {door : Door} {x w : Slot} {s u : State} (hw : Written s door 0x1203 0 x none 0 w)
    (hn : w.toNat = n) (hh : holder s = true) (ht : devTarget n (s.later dt) = (stOK, u)) :
    writeThrough door 0x1203 0 x devTargetEffect (s.later dt) = u := by
  subst hn
  have holds : holder (s.later dt) = true := hh
  refine (hw.later dt).through devTargetEffect u fun row => ?_
  unfold devTargetEffect forwarded
  rw [if_pos (by simp [holds])]
  exact ht

theorem devTarget_config {s : State} (hd : s.devState = .ready) (ho : allOff s = true) : devTarget 1 s = (stOK, enterConfig s) := by
  simp [devTarget, hd, ho]

theorem devTarget_doze {s : State} (hd : s.devState = .ready) (ho : allOff s = true) : devTarget 5 s = (stOK, enterDoze s) := by
  simp [devTarget, hd, ho]

theorem devTarget_ready {s : State} (hd : s.devState = .config) : devTarget 2 s = configToReady s := by
  simp [devTarget, hd]

/-- R397: a failed configuration check. -/
theorem devTarget_checkFails {dt : Nat} {door : Door} {x w : Slot} {n plane : Nat} {s : State}
    (hw : Written s door 0x1203 0 x none 0 w) (h2 : w.toNat = 2) (hh : holder s = true) (hd : s.devState = .config)
    (hf : configFailure (s.later dt) = some (n, plane)) (hn : n < 256) (hp : plane < 256) :
    ∃ u, doorWrite door 0x1203 0 x devTargetEffect (s.later dt) = (stState, u) ∧
      u.dv 0x1204 0 = plane * 256 + n ∧ u.quiet = (s.later dt).quiet := by
  have holds : holder (s.later dt) = true := hh
  obtain ⟨row, -, written⟩ := (hw.later dt).doorWrite devTargetEffect
  have effect : devTargetEffect row none 0 w (s.later dt) = configToReady (s.later dt) := by
    unfold devTargetEffect forwarded
    rw [if_pos (by simp [holds])]
    exact (congrArg (devTarget · (s.later dt)) h2).trans (devTarget_ready hd)
  unfold configToReady at effect
  rw [hf] at effect
  rw [written, effect]
  refine ⟨_, rfl, ?_, ?_⟩
  · unfold State.dv
    rw [recordStatus_dev]
    exact ((steady_postD (Steady.refl _)).dv 0x1204 (.inl rfl)).trans ((dv_setDv_self _ _ _ _).trans (Nat.mod_eq_of_lt (by omega)))
  · simp

/-- R337, R339: the exit from DOZE. -/
theorem dozeExit_answers {dt a : Nat} {s : State} {p : State → Prop} (hd : s.devState = .doze) (ha : s.power.dozeExitAt = some a)
    (hr : s.power.railPhase = 3) (ht : ∀ (t : State) (n : Nat) (q : List Instr), p t → p { t with now := n, pending := q })
    (hp : p (if imageStands s then dozeBack a (s.later dt) else reboot (s.later dt))) : Answers (.dozeExitDone dt) s p := by
  have doze : (s.later dt).devState = .doze := hd
  have leaving : (s.later dt).power.dozeExitAt = some a := ha
  have exits : exec (.dozeExitDone dt) s = execDozeExitDone dt s := rfl
  unfold execDozeExitDone at exits
  refine run_answers_timeless ht exits ?_ hp
  rw [doze, leaving]; dsimp only
  exact if_pos hr

theorem devTargetConfig_answers {dt : Nat} {door : Door} {x w : Slot} {s : State} (hw : Written s door 0x1203 0 x none 0 w)
    (hx : exec (.devTargetConfig dt door) s = run dt s (writeThrough door 0x1203 0 x devTargetEffect)) (hn : w.toNat = 1)
    (hh : holder s = true) (hd : s.devState = .ready) (ho : allOff s = true) :
    Answers (.devTargetConfig dt door) s fun t => t.devState = .config ∧ t.dv 0x7105 0 = s.dv 0x7105 0 ∧ t.subch = s.subch := by
  have target : devTarget 1 (s.later dt) = (stOK, enterConfig (s.later dt)) := devTarget_config hd ho
  have pool := (steady_enterConfig (s.later dt)).dv 0x7105 (.inr rfl)
  exact run_answers_timeless (fun _ _ _ h => h) hx (devTarget_through hw hn hh target)
    ⟨enterConfig_devState (s.later dt), pool, enterConfig_subch (s.later dt)⟩

theorem devTargetReady_answers {dt : Nat} {door : Door} {x w : Slot} {s : State} (hw : Written s door 0x1203 0 x none 0 w)
    (hx : exec (.devTargetReady dt door) s = run dt s (writeThrough door 0x1203 0 x devTargetEffect)) (hn : w.toNat = 2)
    (hh : holder s = true) (hd : s.devState = .config) (hf : configFailure (s.later dt) = none) :
    Answers (.devTargetReady dt door) s fun t => t.devState = .ready ∧ t.dv 0x1204 0 = 0 ∧ t.subch = s.subch := by
  have config : (s.later dt).devState = .config := hd
  have target : devTarget 2 (s.later dt) = (stOK, leaveConfig ((s.later dt).setDv 0x1204 0 0)) := by
    rw [devTarget_ready config]
    unfold configToReady
    rw [hf]
  have check := (leaveConfig_configCheck ((s.later dt).setDv 0x1204 0 0)).trans (dv_setDv_self _ _ _ _)
  exact run_answers_timeless (fun _ _ _ h => h) hx (devTarget_through hw hn hh target)
    ⟨leaveConfig_devState _, check, leaveConfig_subch ((s.later dt).setDv 0x1204 0 0)⟩

theorem devTargetReady_refused {dt n plane : Nat} {door : Door} {x w : Slot} {s : State} (hw : Written s door 0x1203 0 x none 0 w)
    (hx : exec (.devTargetReady dt door) s = run dt s (writeThrough door 0x1203 0 x devTargetEffect)) (h2 : w.toNat = 2)
    (hh : holder s = true) (hd : s.devState = .config) (hf : configFailure (s.later dt) = some (n, plane)) (hn : n < 256)
    (hp : plane < 256) :
    (doorWrite door 0x1203 0 x devTargetEffect (s.later dt)).1 = stState ∧
    Answers (.devTargetReady dt door) s fun t => t.devState = .config ∧ t.dv 0x1204 0 = plane * 256 + n ∧
      t.quiet = (s.later dt).quiet := by
  obtain ⟨u, hu, check, quiet⟩ := devTarget_checkFails hw h2 hh hd hf hn hp
  refine ⟨by rw [hu], run_answers_of_quiet (u := u) hx ?_ quiet ⟨(quiet_to_devState quiet).trans hd, check, quiet⟩⟩
  unfold writeThrough
  rw [hu]

theorem devTargetDoze_answers {dt : Nat} {door : Door} {x w : Slot} {s : State} (hw : Written s door 0x1203 0 x none 0 w)
    (hx : exec (.devTargetDoze dt door) s = run dt s (writeThrough door 0x1203 0 x devTargetEffect)) (hn : w.toNat = 5)
    (hh : holder s = true) (hd : s.devState = .ready) (ho : allOff s = true) :
    Answers (.devTargetDoze dt door) s fun t => t.devState = .doze ∧ t.sched = Sched.reset ∧ t.engines = [] ∧
      t.subch = s.subch := by
  have target : devTarget 5 (s.later dt) = (stOK, enterDoze (s.later dt)) := devTarget_doze hd ho
  obtain ⟨asleep, idle⟩ := enterDoze_asleep (s.later dt)
  exact run_answers_timeless (fun _ _ _ h => h) hx (devTarget_through hw hn hh target)
    ⟨enterDoze_devState (s.later dt), asleep, idle, enterDoze_subch (s.later dt)⟩

theorem dozeExitDone_ready {dt a : Nat} {s : State} (hd : s.devState = .doze) (ha : s.power.dozeExitAt = some a)
    (hr : s.power.railPhase = 3) (hi : imageStands s = true) :
    Answers (.dozeExitDone dt) s fun t => t.devState = .ready ∧ t.power.dozeExitAt = none ∧ t.subch = s.subch := by
  obtain ⟨ready, ended⟩ := dozeBack_ready a (s.later dt)
  refine dozeExit_answers hd ha hr (fun _ _ _ h => h) ?_
  rw [if_pos hi]
  exact ⟨ready, ended, dozeBack_subch a (s.later dt)⟩

theorem dozeExitDone_boot {dt a : Nat} {s : State} (hd : s.devState = .doze) (ha : s.power.dozeExitAt = some a)
    (hr : s.power.railPhase = 3) (hi : imageStands s = false) : Answers (.dozeExitDone dt) s fun t => t.devState = .boot := by
  refine dozeExit_answers hd ha hr (fun _ _ _ h => h) ?_
  rw [if_neg (by simp [hi])]
  exact bootEnter_devState _

/-- Settles O15: CONFIG_CHECK, BAR_POOL and what DOZE takes off stand through every quota applied (`Steady`), and the device
state entered stands through the links and lanes that follow it (`Calm`). -/
theorem deviceTargetsMoveTheDevice : Obligations.DeviceTargetsMoveTheDevice := by
  unfold Obligations.DeviceTargetsMoveTheDevice
  refine ⟨?_, ?_, ?_, ?_, ?_, ?_⟩
  · rintro dt door w s hw rfl hh hd ho
    exact devTargetConfig_answers hw rfl rfl hh hd ho
  · rintro dt door w s hw rfl hh hd hf
    exact devTargetReady_answers hw rfl rfl hh hd hf
  · rintro dt door w n plane s hw rfl hh hd hf hn hp
    exact devTargetReady_refused hw rfl rfl hh hd hf hn hp
  · rintro dt door w s hw rfl hh hd ho
    exact devTargetDoze_answers hw rfl rfl hh hd ho
  · intro dt a s hd ha hr hi
    exact dozeExitDone_ready hd ha hr hi
  · intro dt a s hd ha hr hi
    exact dozeExitDone_boot hd ha hr hi

end Sys2Proof.Machine
end

/-! ## Rings in host memory (03_intake.md R61, R63 to R65, R82) -/

section
namespace Sys2Proof.Machine
open Sys2Proof

/-! ### Loops over bars -/

/-- A fold reaches what the turn of one element brings about, when every turn after it keeps it and those before do no harm. -/
theorem foldl_reaches {α β : Type} {P Q : β → Prop} {xs : List α} {f : β → α → β} {t : β} {x : α} (hx : x ∈ xs)
    (turn : ∀ t, P t → Q (f t x)) (before : ∀ y ∈ xs, y ≠ x → ∀ t, P t → P (f t y))
    (after : ∀ y ∈ xs, ∀ t, Q t → Q (f t y)) (ht : P t) : Q (xs.foldl f t) := by
  induction xs generalizing t with
  | nil => cases hx
  | cons y ys ih =>
    have later := fun z (hz : z ∈ ys) => after z (List.mem_cons_of_mem y hz)
    by_cases e : y = x
    · subst e
      exact List.foldlRecOn ys f (turn t ht) fun t q z hz => later z hz t q
    · exact ih ((List.mem_cons.mp hx).resolve_left (Ne.symm e)) (fun z hz => before z (List.mem_cons_of_mem y hz)) later
        (before y List.mem_cons_self e t ht)

/-- What the turns of the elements of a list preserve, the loop over it preserves. -/
theorem forAll_induct_mem {α : Type} {P : State → Prop} {xs : List α} {f : α → State → State} {s : State}
    (h : ∀ x ∈ xs, ∀ t, P t → P (f x t)) (hs : P s) : P (forAll xs f s) :=
  List.foldlRecOn xs (fun t x => f x t) hs fun t ht x hx => h x hx t ht

/-! ### A queue of a bar changed -/

@[simp] theorem intake_modIntake_self (s : State) (b : Nat) (f : Intake → Intake) :
    ((s.modIntake b f).bar b).intake = f (s.bar b).intake := by rw [State.modIntake, bar_modBar_self]

theorem bar_modIntake_of_ne (s : State) {a b : Nat} (f : Intake → Intake) (h : a ≠ b) : (s.modIntake b f).bar a = s.bar a :=
  bar_modBar_of_ne s _ h

@[simp] theorem bo_modIntake (s : State) (b : Nat) (f : Intake → Intake) (a i j : Nat) : (s.modIntake b f).bo a i j = s.bo a i j := by
  unfold State.bo
  by_cases e : a = b
  · subst e; rw [State.modIntake, bar_modBar_self]
  · rw [bar_modIntake_of_ne _ _ e]

@[simp] theorem queueFn_modIntake (s : State) (b : Nat) (f : Intake → Intake) (a : Nat) :
    queueFn (s.modIntake b f) a = queueFn s a := by unfold queueFn; rw [bo_modIntake]

theorem EventsOnly.queueFn {s t : State} (h : EventsOnly s t) (b : Nat) : Machine.queueFn t b = Machine.queueFn s b := by
  unfold Machine.queueFn; rw [h.bo b _ _ (by decide) (by decide)]

theorem EventsOnly.dmaBlocked {s t : State} (h : EventsOnly s t) (b : Nat) : Machine.dmaBlocked t b = Machine.dmaBlocked s b := by
  unfold Machine.dmaBlocked; rw [h.queueFn, h.fn_bme]

/-! ### A pointer written -/

/-- An accepted write that moves a pointer, whose effect beyond that is events, answers so. -/
theorem pointer_answers {c : Instr} {dt : Nat} {door : Door} {idx sub : Nat} {v w : Slot} {bar : Option Nat} {d : Nat} {eff : Effect}
    {s u t : State} (hc : exec c s = run dt s (writeThrough door idx sub v eff)) (hw : Written s door idx sub v bar d w)
    (he : ∀ row, eff row bar d w (s.later dt) = (stOK, t)) (hn : u.now = s.now + dt) (hp : u.pending = s.pending)
    (ev : EventsOnly u t) : Answers c s fun t => EventsOnly u t :=
  run_answers hc ((hw.later dt).through eff t he) (ev.now.trans hn) (ev.pending.trans hp) ev

/-- R40: a status recorded is an object of the session or the function. -/
theorem recordStatus_bars (door : Door) (idx sub code : Nat) (s : State) : (recordStatus door idx sub code s).bars = s.bars := by
  unfold recordStatus
  split
  · rfl
  · unfold modOwn
    split
    · rfl
    · unfold State.modSession
      split <;> rfl
    · rfl

theorem wqTailEffect_of_free {row : Row} {b d : Nat} {w : Slot} {s : State}
    (h : tailRefused (s.bar b).intake.wqHead (s.bar b).intake.wqTail (s.bo b 0x2000 1) w.toNat = false) :
    wqTailEffect row (some b) d w s =
      (stOK, raiseSource (0x10 + b) (s.modIntake b fun q => { q with wqTail := w.toNat, tailBad := false })) := by
  unfold wqTailEffect onBar; dsimp only; rw [h, if_neg Bool.false_ne_true]

theorem wqTailEffect_of_refused {row : Row} {b d : Nat} {w : Slot} {s : State}
    (h : tailRefused (s.bar b).intake.wqHead (s.bar b).intake.wqTail (s.bo b 0x2000 1) w.toNat = true) :
    wqTailEffect row (some b) d w s = (stRange, s.modIntake b fun q => { q with tailBad := true }) := by
  unfold wqTailEffect onBar; dsimp only; rw [h, if_pos rfl]

theorem eqHeadEffect_of_free {row : Row} {b d : Nat} {w : Slot} {s : State}
    (h : headRefused (s.bar b).intake.eqHead (s.bar b).intake.eqTail w.toNat = false) :
    eqHeadEffect row (some b) d w s = (stOK, eqFlush b (s.modIntake b fun q => { q with eqHead := w.toNat })) := by
  unfold eqHeadEffect onBar; dsimp only; rw [h, if_neg Bool.false_ne_true]

theorem onDev_apply (f : Nat → Slot → State → Nat × State) (row : Row) (bar : Option Nat) (sub : Nat) (w : Slot) (s : State) :
    onDev f row bar sub w s = f sub w s := rfl

theorem deqHeadEffect_of_free {row : Row} {bar : Option Nat} {d : Nat} {w : Slot} {s : State}
    (h : headRefused s.deqHead s.deqTail w.toNat = false) :
    deqHeadEffect row bar d w s = (stOK, deqFlush { s with deqHead := w.toNat }) := by
  rw [deqHeadEffect, onDev_apply, h, if_neg Bool.false_ne_true]

theorem deqEnEffect_of_free {row : Row} {bar : Option Nat} {d : Nat} {w : Slot} {s : State} (h : w = 0 ∨ s.dv 0x2010 0 ≠ 0) :
    deqEnEffect row bar d w s = (stOK, deqFlush (s.setDv 0x2010 2 w.toNat)) := by
  rw [deqEnEffect, onDev_apply, if_neg fun refused => h.elim refused.1 fun based => based refused.2]

theorem djTailEffect_of_free {row : Row} {b d : Nat} {w : Slot} {s : State}
    (h : tailRefused (s.bar b).intake.djHead (s.bar b).intake.djTail (s.bo b 0x2300 1) w.toNat = false) :
    djTailEffect row (some b) d w s = (stOK, s.modIntake b fun q => { q with djTail := w.toNat }) := by
  unfold djTailEffect onBar; dsimp only; rw [h, if_neg Bool.false_ne_true]

/-- R61: a tail that is not refused moves. -/
theorem wqTail_moves {dt : Nat} {door : Door} {b d : Nat} {v w : Slot} {s : State} (hw : Written s door 0x2001 0 v (some b) d w)
    (ht : tailRefused (s.bar b).intake.wqHead (s.bar b).intake.wqTail (s.bo b 0x2000 1) w.toNat = false) :
    Answers (.wqTail dt door v) s fun t =>
      EventsOnly ((s.later dt).modIntake b fun q => { q with wqTail := w.toNat, tailBad := false }) t :=
  pointer_answers (c := .wqTail dt door v) rfl hw (fun _ => wqTailEffect_of_free (s := s.later dt) ht) rfl rfl (raiseSource_events _ _)

/-- R61: a refused tail leaves the tail, and says so in TAIL_BAD. -/
theorem wqTail_refused {dt : Nat} {door : Door} {b d : Nat} {v w : Slot} {s : State} (hw : Written s door 0x2001 0 v (some b) d w)
    (ht : tailRefused (s.bar b).intake.wqHead (s.bar b).intake.wqTail (s.bo b 0x2000 1) w.toNat = true) :
    (doorWrite door 0x2001 0 v wqTailEffect s).1 = stRange ∧ Answers (.wqTail dt door v) s fun t =>
      (t.bar b).intake.wqTail = (s.bar b).intake.wqTail ∧ (t.bar b).intake.tailBad = true ∧ t.quiet = (s.later dt).quiet := by
  refine ⟨?_, ?_⟩
  · obtain ⟨row, -, written⟩ := hw.doorWrite wqTailEffect
    rw [written, wqTailEffect_of_refused ht]
  · obtain ⟨row, -, written⟩ := (hw.later dt).doorWrite wqTailEffect
    rw [wqTailEffect_of_refused (s := s.later dt) ht] at written
    have left : writeThrough door 0x2001 0 v wqTailEffect (s.later dt) = _ := congrArg Prod.snd written
    have bars := bar_eq_of_bars (recordStatus_bars door 0x2001 0 stRange
      ((s.later dt).modIntake b fun q => { q with tailBad := true })) b
    refine run_answers_of_quiet (c := .wqTail dt door v) rfl left (by simp) ⟨?_, ?_, by simp⟩
    · rw [bars, intake_modIntake_self]; rfl
    · rw [bars, intake_modIntake_self]

/-- R64: EQ_HEAD moves. -/
theorem eqHead_moves {dt : Nat} {door : Door} {b d : Nat} {v w : Slot} {s : State} (hw : Written s door 0x2003 0 v (some b) d w)
    (hh : headRefused (s.bar b).intake.eqHead (s.bar b).intake.eqTail w.toNat = false) :
    Answers (.eqHead dt door v) s fun t => EventsOnly ((s.later dt).modIntake b fun q => { q with eqHead := w.toNat }) t :=
  pointer_answers (c := .eqHead dt door v) rfl hw (fun _ => eqHeadEffect_of_free (s := s.later dt) hh) rfl rfl (eqFlush_events _ _)

/-- R65: DEQ_HEAD moves. -/
theorem deqHead_moves {dt : Nat} {door : Door} {d : Nat} {v w : Slot} {s : State} (hw : Written s door 0x2011 0 v none d w)
    (hh : headRefused s.deqHead s.deqTail w.toNat = false) :
    Answers (.deqHead dt door v) s fun t => EventsOnly { s.later dt with deqHead := w.toNat } t :=
  pointer_answers (c := .deqHead dt door v) rfl hw (fun _ => deqHeadEffect_of_free (s := s.later dt) hh) rfl rfl (deqFlush_events _)

/-- R65: DEQ_EN takes its value. -/
theorem deqEn_moves {dt : Nat} {door : Door} {d : Nat} {v w : Slot} {s : State} (hw : Written s door 0x2010 2 v none d w)
    (hb : w = 0 ∨ s.dv 0x2010 0 ≠ 0) :
    Answers (.deqEn dt door v) s fun t => EventsOnly ((s.later dt).setDv 0x2010 2 w.toNat) t :=
  pointer_answers (c := .deqEn dt door v) rfl hw (fun _ => deqEnEffect_of_free (s := s.later dt) hb) rfl rfl (deqFlush_events _)

/-- R61, R82: DJ_TAIL moves, and that is all. -/
theorem exec_djTail {dt : Nat} {door : Door} {b d : Nat} {v w : Slot} {s : State} (hw : Written s door 0x2301 0 v (some b) d w)
    (ht : tailRefused (s.bar b).intake.djHead (s.bar b).intake.djTail (s.bo b 0x2300 1) w.toNat = false) :
    exec (.djTail dt door v) s = .next ((s.later dt).modIntake b fun q => { q with djTail := w.toNat }) :=
  run_next (c := .djTail dt door v) rfl
    ((hw.later dt).through djTailEffect _ fun _ => djTailEffect_of_free (s := s.later dt) ht) rfl rfl

/-! ### Bus Master Enable (R63 to R65) -/

theorem dmaJudge_events (b : Nat) (was : Bool) (s : State) : EventsOnly s (dmaJudge b was s) := by
  unfold dmaJudge
  split
  · exact EventsOnly.refl s
  · exact postB_events _ _ _ _ _ _

theorem fetchAgain_of_blocked {b : Nat} {s : State} (h : dmaBlocked s b = true) : fetchAgain b s = s := by
  unfold fetchAgain; rw [if_pos h]

/-- The aborted fetches of a bar go out again. -/
def requestAgain (b : Nat) (s : State) : State :=
  forAll ((s.bar b).intake.inflight.filter (fun e => e.again))
    (fun e t => t.emit (.dmaRead (queueFn t b) b (flightRead t b e).1 (flightRead t b e).2.1 (flightRead t b e).2.2)) s

theorem requestAgain_events (b : Nat) (s : State) : EventsOnly s (requestAgain b s) :=
  forAll_events _ _ _ fun _ _ => emit_events _ _

theorem fetchAgain_of_free {b : Nat} {s : State} (h : dmaBlocked s b = false) : fetchAgain b s =
    (requestAgain b s).modIntake b fun q => { q with inflight := q.inflight.map fun e => { e with again := false } } := by
  unfold fetchAgain; rw [if_neg (ne_true_of_eq_false h)]; rfl

/-- A bar changed into itself is no change that is read. -/
theorem modBar_fixed_events {b : Nat} {f : Bar → Bar} {s : State} (h : f (s.bar b) = s.bar b) : EventsOnly s (s.modBar b f) := by
  have same (a : Nat) : (s.modBar b f).bar a = s.bar a := by
    by_cases e : a = b
    · subst e; rw [bar_modBar_self, h]
    · exact bar_modBar_of_ne s f e
  exact ⟨State_modBar_quiet _ _ _, ⟨[], (List.append_nil _).symm⟩, fun _ _ _ _ => rfl, fun a => by rw [same],
    fun a _ _ => by rw [same], fun _ => rfl, rfl, fun _ => rfl⟩

theorem map_again_false {l : List Inflight} (h : ∀ e ∈ l, e.again = false) : l.map (fun e => { e with again := false }) = l := by
  refine (List.map_congr_left fun e he => ?_).trans (List.map_id l)
  rw [← h e he]; rfl

/-- A bar without aborted fetches requests none. -/
theorem fetchAgain_events {b : Nat} {s : State} (h : dmaBlocked s b = true ∨ ∀ e ∈ (s.bar b).intake.inflight, e.again = false) :
    EventsOnly s (fetchAgain b s) := by
  cases blocked : dmaBlocked s b with
  | true => rw [fetchAgain_of_blocked blocked]; exact EventsOnly.refl s
  | false =>
    have none : ∀ e ∈ ((requestAgain b s).bar b).intake.inflight, e.again = false := by
      rw [(requestAgain_events b s).intake_inflight]
      exact h.resolve_left (ne_true_of_eq_false blocked)
    rw [fetchAgain_of_free blocked]
    refine (requestAgain_events b s).trans (modBar_fixed_events ?_)
    dsimp only
    rw [map_again_false none]

/-- What BUS_MASTER_CHANGE does for each bar that uses the function; `before` is the state before it. -/
def busTurn (before : State) (b : Nat) (s : State) : State := fetchAgain b (dmaJudge b (dmaBlocked before b) (eqFlush b s))

/-- Bus Master Enable has its level, and the device event queue goes on. -/
def busSet (k : Nat) (en : Bool) (s : State) : State :=
  if k = 0 then deqFlush (s.modFn k fun f => { f with bme := en }) else s.modFn k fun f => { f with bme := en }

theorem busMaster_eq (k : Nat) (en : Bool) (s : State) : busMaster k en s =
    forAll ((List.range 16).filter fun b => queueFn (busSet k en s) b == k) (busTurn s) (busSet k en s) := rfl

theorem busSet_events (k : Nat) (en : Bool) (s : State) : EventsOnly (s.modFn k fun f => { f with bme := en }) (busSet k en s) := by
  unfold busSet
  split
  · exact deqFlush_events _
  · exact EventsOnly.refl _

theorem queueFn_busSet (k : Nat) (en : Bool) (s : State) (b : Nat) : queueFn (busSet k en s) b = queueFn s b :=
  (busSet_events k en s).queueFn b

theorem dmaBlocked_of_fn {k b : Nat} {en : Bool} {s t : State} (e : EventsOnly (s.modFn k fun f => { f with bme := en }) t)
    (hq : queueFn s b = k) : dmaBlocked t b = !en := by
  have same : queueFn (s.modFn k fun f => { f with bme := en }) b = k := hq
  rw [e.dmaBlocked, dmaBlocked, same, fn_modFn_self]

/-- R63: without aborted fetches to request again, a change of Bus Master Enable brings events alone. -/
theorem busMaster_events {k : Nat} {en : Bool} {s : State}
    (h : en = false ∨ ∀ b < 16, queueFn s b = k → ∀ e ∈ (s.bar b).intake.inflight, e.again = false) :
    EventsOnly (s.modFn k fun f => { f with bme := en }) (busMaster k en s) := by
  rw [busMaster_eq]
  refine forAll_induct_mem (fun b hb t ht => ?_) (busSet_events k en s)
  obtain ⟨hb16, hbk⟩ := List.mem_filter.mp hb
  have hq : queueFn s b = k := (queueFn_busSet k en s b).symm.trans (beq_iff_eq.mp hbk)
  have delivered := (ht.trans (eqFlush_events b t)).trans (dmaJudge_events b (dmaBlocked s b) _)
  refine delivered.trans (fetchAgain_events ?_)
  rcases h with off | settled
  · exact .inl (by rw [dmaBlocked_of_fn delivered hq, off]; rfl)
  · refine .inr ?_
    rw [delivered.intake_inflight]
    exact settled b (List.mem_range.mp hb16) hq

/-- What one bar's turn leaves as it was: Bus Master Enable, the objects that rings are placed by, and the outputs made. -/
structure TurnKeeps (s t : State) : Prop where
  bme : ∀ k, (t.fn k).bme = (s.fn k).bme
  bo : ∀ a i j, j < 256 → i ≠ 0x2004 → t.bo a i j = s.bo a i j
  out : ∀ o ∈ s.out, o ∈ t.out

theorem TurnKeeps.trans {s t u : State} (h : TurnKeeps s t) (g : TurnKeeps t u) : TurnKeeps s u where
  bme k := (g.bme k).trans (h.bme k)
  bo a i j hj hi := (g.bo a i j hj hi).trans (h.bo a i j hj hi)
  out o ho := g.out o (h.out o ho)

theorem EventsOnly.turnKeeps {s t : State} (h : EventsOnly s t) : TurnKeeps s t where
  bme := h.fn_bme
  bo a i j hj hi := h.bo a i j hj hi
  out _ ho := h.mem_out ho

theorem TurnKeeps.modIntake {s t : State} (h : TurnKeeps s t) (b : Nat) (f : Intake → Intake) : TurnKeeps s (t.modIntake b f) where
  bme := h.bme
  bo a i j hj hi := (bo_modIntake t b f a i j).trans (h.bo a i j hj hi)
  out := h.out

theorem TurnKeeps.queueFn {s t : State} (h : TurnKeeps s t) (b : Nat) : Machine.queueFn t b = Machine.queueFn s b := by
  unfold Machine.queueFn; rw [h.bo b _ _ (by decide) (by decide)]

theorem TurnKeeps.flightRead {s t : State} (h : TurnKeeps s t) (b : Nat) (e : Inflight) :
    Machine.flightRead t b e = Machine.flightRead s b e := by
  unfold Machine.flightRead
  rw [h.bo b 0x2000 0 (by decide) (by decide), h.bo b 0x2000 1 (by decide) (by decide)]

theorem TurnKeeps.dmaBlocked {s t : State} (h : TurnKeeps s t) (b : Nat) : Machine.dmaBlocked t b = Machine.dmaBlocked s b := by
  unfold Machine.dmaBlocked; rw [h.queueFn, h.bme]

/-- The read that requests a fetch again. -/
def againRead (s : State) (b : Nat) (e : Inflight) : Out :=
  .dmaRead (queueFn s b) b (flightRead s b e).1 (flightRead s b e).2.1 (flightRead s b e).2.2

theorem TurnKeeps.againRead {s t : State} (h : TurnKeeps s t) (b : Nat) (e : Inflight) :
    Machine.againRead t b e = Machine.againRead s b e := by
  unfold Machine.againRead; rw [h.queueFn, h.flightRead]

/-- The waybills of a bar, none of them to be requested again. -/
def Bar.requested (x : Bar) : List Inflight := x.intake.inflight.map fun e => { e with again := false }

/-- R63: every aborted fetch of the bar is read again. -/
theorem againRead_mem_requestAgain {b : Nat} {s : State} {e : Inflight} (he : e ∈ (s.bar b).intake.inflight)
    (ha : e.again = true) : againRead s b e ∈ (requestAgain b s).out := by
  have emits (x : Inflight) (t : State) : EventsOnly t (t.emit (againRead t b x)) := emit_events _ _
  refine (foldl_reaches (f := fun t x => t.emit (againRead t b x)) (P := fun t => TurnKeeps s t) (Q := fun t => TurnKeeps s t ∧ againRead s b e ∈ t.out)
    (List.mem_filter.mpr ⟨he, ha⟩) (fun t ht => ⟨ht.trans (emits e t).turnKeeps, ?_⟩)
    (fun x _ _ t ht => ht.trans (emits x t).turnKeeps)
    (fun x _ t ht => ⟨ht.1.trans (emits x t).turnKeeps, (emits x t).mem_out ht.2⟩) (EventsOnly.refl s).turnKeeps).2
  rw [← ht.againRead]
  exact List.mem_append_right _ List.mem_cons_self

/-- What the turn of bar `b` does, whose function may fetch. -/
theorem busTurn_free {before t : State} {b : Nat} (h : dmaBlocked t b = false) :
    TurnKeeps t (busTurn before b t) ∧ ((busTurn before b t).bar b).intake.inflight = (t.bar b).requested ∧
    (∀ a ≠ b, ((busTurn before b t).bar a).intake.inflight = (t.bar a).intake.inflight) ∧
    ∀ e ∈ (t.bar b).intake.inflight, e.again = true → againRead t b e ∈ (busTurn before b t).out := by
  have delivered := (eqFlush_events b t).trans (dmaJudge_events b (dmaBlocked before b) _)
  have asked := delivered.trans (requestAgain_events b _)
  have free := (delivered.dmaBlocked b).trans h
  unfold busTurn
  rw [fetchAgain_of_free free]
  refine ⟨asked.turnKeeps.modIntake _ _, ?_, fun a ha => ?_, fun e he ha => ?_⟩
  · rw [intake_modIntake_self, Bar.requested, ← asked.intake_inflight]
  · rw [bar_modIntake_of_ne _ _ ha, asked.intake_inflight]
  · rw [← delivered.turnKeeps.againRead]
    exact againRead_mem_requestAgain (by rwa [delivered.intake_inflight]) ha

theorem Bar.requested_of_inflight {x y : Bar} (h : x.intake.inflight = y.requested) : x.requested = y.requested := by
  unfold Bar.requested at *; rw [h, List.map_map]; rfl

/-- Between the turns of the bars that use a function whose Bus Master Enable is set, each of them may fetch. -/
theorem between_free {k a : Nat} {s t : State} (ha : a ∈ (List.range 16).filter fun a => queueFn (busSet k true s) a == k)
    (ht : TurnKeeps (busSet k true s) t) : dmaBlocked t a = false := by
  have hq := beq_iff_eq.mp (List.mem_filter.mp ha).2
  rw [ht.dmaBlocked, dmaBlocked_of_fn (busSet_events k true s) ((queueFn_busSet k true s a).symm.trans hq)]
  rfl

theorem busMaster_keeps (k : Nat) (s : State) : TurnKeeps (busSet k true s) (busMaster k true s) := by
  rw [busMaster_eq]
  exact forAll_induct_mem (fun a ha t ht => ht.trans (busTurn_free (before := s) (between_free ha ht)).1)
    (EventsOnly.refl _).turnKeeps

/-- R63: Bus Master Enable set again requests the aborted fetches of the bars that use the function, and of no other. -/
theorem busMaster_inflight (k : Nat) (s : State) {b : Nat} (hb : b < 16) :
    (queueFn s b = k → ((busMaster k true s).bar b).intake.inflight = (s.bar b).requested ∧
      ∀ e ∈ (s.bar b).intake.inflight, e.again = true → againRead s b e ∈ (busMaster k true s).out) ∧
    (queueFn s b ≠ k → ((busMaster k true s).bar b).intake.inflight = (s.bar b).intake.inflight) := by
  have set := busSet_events k true s
  have inflight (a : Nat) : ((busSet k true s).bar a).intake.inflight = (s.bar a).intake.inflight := set.intake_inflight a
  have read (e : Inflight) : againRead (busSet k true s) b e = againRead s b e :=
    (set.turnKeeps.againRead b e).trans rfl
  rw [busMaster_eq]
  constructor
  · intro hq
    have mem : b ∈ (List.range 16).filter fun a => queueFn (busSet k true s) a == k :=
      List.mem_filter.mpr ⟨List.mem_range.mpr hb, beq_iff_eq.mpr ((queueFn_busSet k true s b).trans hq)⟩
    refine (foldl_reaches (f := fun t a => busTurn s a t)
      (P := fun t => TurnKeeps (busSet k true s) t ∧ (t.bar b).intake.inflight = (s.bar b).intake.inflight)
      (Q := fun t => TurnKeeps (busSet k true s) t ∧ (t.bar b).intake.inflight = (s.bar b).requested ∧
        ∀ e ∈ (s.bar b).intake.inflight, e.again = true → againRead s b e ∈ t.out)
      mem (fun t ht => ?_) (fun a ha hab t ht => ?_) (fun a ha t ht => ?_) ⟨(EventsOnly.refl _).turnKeeps, inflight b⟩).2
    · obtain ⟨kept, same⟩ := ht
      obtain ⟨turn, own, -, reads⟩ := busTurn_free (before := s) (between_free mem kept)
      refine ⟨kept.trans turn, own.trans (congrArg (List.map _) same), fun e he again => ?_⟩
      rw [← read, ← kept.againRead]
      exact reads e (same ▸ he) again
    · obtain ⟨kept, same⟩ := ht
      obtain ⟨turn, -, others, -⟩ := busTurn_free (before := s) (between_free ha kept)
      exact ⟨kept.trans turn, (others b hab.symm).trans same⟩
    · obtain ⟨kept, done, reads⟩ := ht
      obtain ⟨turn, own, others, -⟩ := busTurn_free (before := s) (between_free ha kept)
      refine ⟨kept.trans turn, ?_, fun e he again => turn.out _ (reads e he again)⟩
      by_cases e : a = b
      · subst e; exact own.trans (Bar.requested_of_inflight done)
      · exact (others b (Ne.symm e)).trans done
  · intro hq
    refine (forAll_induct_mem
      (P := fun t => TurnKeeps (busSet k true s) t ∧ (t.bar b).intake.inflight = (s.bar b).intake.inflight)
      (fun a ha t ht => ?_) ⟨(EventsOnly.refl _).turnKeeps, inflight b⟩).2
    obtain ⟨kept, same⟩ := ht
    obtain ⟨turn, -, others, -⟩ := busTurn_free (before := s) (between_free ha kept)
    refine ⟨kept.trans turn, (others b ?_).trans same⟩
    rintro rfl
    exact hq ((queueFn_busSet k true s b).symm.trans (beq_iff_eq.mp (List.mem_filter.mp ha).2))

theorem busMaster_sets (dt : Nat) (k : Fin 17) (s : State) :
    Answers (.busMasterChange dt k true) s fun t => (t.fn k).bme = true ∧ t.quiet = (s.later dt).quiet ∧ ∀ b : Fin 16,
      (queueFn s b = k →
        (t.bar b).intake.inflight = (s.bar b).intake.inflight.map (fun e => { e with again := false }) ∧
        ∀ e ∈ (s.bar b).intake.inflight, e.again = true →
          Out.dmaRead k b (flightRead s b e).1 (flightRead s b e).2.1 (flightRead s b e).2.2 ∈ t.out) ∧
      (queueFn s b ≠ k → (t.bar b).intake.inflight = (s.bar b).intake.inflight) := by
  have quiet := busMaster_quiet k true (s.later dt)
  refine run_answers_of_quiet (c := .busMasterChange dt k true) rfl rfl quiet ⟨?_, quiet, fun b => ?_⟩
  · rw [(busMaster_keeps k (s.later dt)).bme, (busSet_events k true (s.later dt)).fn_bme, fn_modFn_self]
  · obtain ⟨uses, others⟩ := busMaster_inflight k (s.later dt) b.isLt
    refine ⟨fun hq => ?_, others⟩
    obtain ⟨inflight, reads⟩ := uses hq
    refine ⟨inflight, fun e he again => ?_⟩
    have read : Out.dmaRead k b (flightRead s b e).1 (flightRead s b e).2.1 (flightRead s b e).2.2 = againRead (s.later dt) b e := by
      rw [← hq]; rfl
    rw [read]
    exact reads e he again

/-- Settles O18: one turn of each bar that uses the function requests its aborted fetches again (`busTurn_free`), and the turns
of the others leave it alone. -/
theorem ringPointersMove : Obligations.RingPointersMove := by
  unfold Obligations.RingPointersMove
  refine ⟨?_, ?_, ?_, ?_, ?_, ?_, ?_, ?_⟩
  · intro dt door b d v w s hw ht
    exact wqTail_moves hw ht
  · intro dt door b d v w s hw ht
    exact wqTail_refused hw ht
  · intro dt door b d v w s hw hh
    exact eqHead_moves hw hh
  · intro dt door d v w s hw hh
    exact deqHead_moves hw hh
  · intro dt door v d w s hw hb
    exact deqEn_moves hw hb
  · intro dt door b d v w s hw ht
    exact exec_djTail hw ht
  · intro dt k en s h
    have ev := busMaster_events (k := k) (en := en) (s := s.later dt)
      (h.imp_right fun settled b hb => settled ⟨b, hb⟩)
    exact run_answers (c := .busMasterChange dt k en) rfl rfl ev.now ev.pending ev
  · intro dt k s
    exact busMaster_sets dt k s

end Sys2Proof.Machine
end

/-! ## Fetches of a bar (03_intake.md R399, Table 03-7; 10_placement_memory.md R261) -/

section
namespace Sys2Proof.Machine
open Sys2Proof

/-! ### Waybills on their way -/

/-- A change of the waybill of queue index `idx` among those on their way. -/
def changeFlight (idx : Nat) (f : Inflight → Inflight) (e : Inflight) : Inflight := if e.idx = idx then f e else e

theorem changeFlight_self (e : Inflight) (f : Inflight → Inflight) : changeFlight e.idx f e = f e := if_pos rfl

@[simp] theorem inflight_modFlight (b idx : Nat) (f : Inflight → Inflight) (s : State) :
    ((modFlight b idx f s).bar b).intake.inflight = (s.bar b).intake.inflight.map (changeFlight idx f) := by
  unfold modFlight; rw [intake_modIntake_self]; rfl

/-- What a change keeps of every waybill, the search by it does not see. -/
theorem find?_changeFlight {idx : Nat} {f : Inflight → Inflight} {p : Inflight → Bool} (h : ∀ e, p (f e) = p e)
    (l : List Inflight) : (l.map (changeFlight idx f)).find? p = (l.find? p).map (changeFlight idx f) := by
  have same : p ∘ changeFlight idx f = p := funext fun e => by
    show p (if e.idx = idx then f e else e) = p e
    split
    · exact h e
    · rfl
  rw [List.find?_map, same]

/-! ### A grant (R261, R399) -/

/-- R261: the party whose deficit exceeds that of every other is the one of the greatest. -/
theorem bestDeficit_of_greatest {d : Map Int} {key : Nat → Nat} {xs : List Nat} {b : Nat} (hb : b ∈ xs)
    (h : ∀ a ∈ xs, a = b ∨ d.getD (key a) 0 < d.getD (key b) 0) : bestDeficit d key xs = some b := by
  refine foldl_reaches (P := fun best => ∀ y, best = some y → d.getD (key y) 0 < d.getD (key b) 0)
    (Q := fun best => best = some b) hb (fun best hp => ?_) (fun a ha hab best hp => ?_) (fun a ha best hq => ?_) nofun
  · cases best with
    | none => rfl
    | some y => exact if_pos (hp y rfl)
  · have less := (h a ha).resolve_left hab
    cases best with
    | none => rintro y ⟨⟩; exact less
    | some x =>
      dsimp only
      split
      · rintro y ⟨⟩; exact less
      · rintro y ⟨⟩; exact hp x rfl
  · subst hq
    exact (h a ha).elim (fun e => by subst e; exact if_neg (lt_irrefl _)) fun less => if_neg less.not_gt

theorem wantsAny_of_wantsFetch {s : State} {kind : FetchKind} {b : Nat} (h : wantsFetch s kind b = true) : wantsAny s b = true :=
  List.any_eq_true.mpr ⟨kind, by cases kind <;> decide, h⟩

/-- R399, R261: the bar that wants the fetch and has the greatest deficit gets it. -/
theorem grantFetch_greatest {s : State} {kind : FetchKind} {b : Nat} (hb : b < 16) (hw : wantsFetch s kind b = true)
    (h : ∀ a < 16, wantsAny s a = true → a = b ∨ s.deficit.getD (64 + a) 0 < s.deficit.getD (64 + b) 0) :
    ∃ d, grantFetch kind s = beginFetch b kind { s with deficit := d } := by
  have pending : b ∈ (List.range 16).filter (wantsAny s) :=
    List.mem_filter.mpr ⟨List.mem_range.mpr hb, wantsAny_of_wantsFetch hw⟩
  have best : bestDeficit s.deficit (fun b => 64 + b) ((List.range 16).filter (wantsAny s)) = some b :=
    bestDeficit_of_greatest pending fun a ha =>
      h a (List.mem_range.mp (List.mem_filter.mp ha).1) (List.mem_filter.mp ha).2
  unfold grantFetch
  dsimp only
  rw [best]; dsimp only
  rw [if_pos hw]
  exact ⟨_, rfl⟩

theorem beginFetch_out (b : Nat) (kind : FetchKind) (s : State) : (beginFetch b kind s).out =
    s.out ++ [.dmaRead (queueFn s b) b kind (fetchOf s b kind).1 (fetchOf s b kind).2] := by
  cases kind with
  | waybill => rfl
  | payload | integ => unfold beginFetch; dsimp only; split <;> rfl

theorem beginFetch_bar_of_ne {a b : Nat} (kind : FetchKind) (s : State) (h : a ≠ b) : (beginFetch b kind s).bar a = s.bar a := by
  cases kind with
  | waybill => exact bar_modIntake_of_ne _ _ h
  | payload | integ =>
    unfold beginFetch; dsimp only; split
    · exact bar_modIntake_of_ne _ _ h
    · rfl

/-- A waybill fetch takes the next entry of the ring. -/
theorem beginFetch_waybill (b : Nat) (s : State) :
    ((beginFetch b .waybill s).bar b).intake.fetchIdx = ((s.bar b).intake.fetchIdx + 1) % 2 ^ 32 ∧
    ((beginFetch b .waybill s).bar b).intake.inflight.length = (s.bar b).intake.inflight.length + 1 := by
  unfold beginFetch
  dsimp only
  rw [intake_modIntake_self]
  exact ⟨rfl, List.length_append⟩

/-- The waybill whose payload or integrity entries have been requested. -/
def Inflight.asked (e : Inflight) : Inflight := { e with granted := true }

theorem beginFetch_of_toGrant {b : Nat} {kind : FetchKind} {s : State} {e : Inflight} (hk : kind ≠ .waybill)
    (h : toGrant s b kind = some e) : ((beginFetch b kind s).bar b).intake.inflight =
      (s.bar b).intake.inflight.map (changeFlight e.idx Inflight.asked) := by
  have emitted (o : Out) : toGrant (s.emit o) b kind = some e := h
  cases kind with
  | waybill => exact absurd rfl hk
  | payload | integ => unfold beginFetch; dsimp only; rw [emitted]; exact inflight_modFlight _ _ _ _

/-- R399: of the payloads not yet granted, the first is granted: then the first of all is. -/
theorem payloadFlight_of_toGrant {b : Nat} {s t : State} {e : Inflight} (h : toGrant s b .payload = some e)
    (ht : (t.bar b).intake.inflight = (s.bar b).intake.inflight.map (changeFlight e.idx Inflight.asked)) :
    (payloadFlight t b).isSome = true := by
  obtain ⟨first, found⟩ : ∃ x, (s.bar b).intake.inflight.find? (fun x => x.phase == 4) = some x := by
    have phase := List.find?_some h
    simp only [Bool.and_eq_true] at phase
    exact Option.isSome_iff_exists.mp (List.find?_isSome.mpr ⟨e, List.mem_of_find?_eq_some h, phase.2⟩)
  have granted : (changeFlight e.idx Inflight.asked first).granted = true := by
    unfold changeFlight
    by_cases hg : first.granted = true
    · split
      · rfl
      · exact hg
    · have same : first = e := by
        obtain ⟨phase, before, after, split, none⟩ := List.find?_eq_some_iff_append.mp found
        refine Option.some.inj (Eq.trans (Eq.symm ?_) h)
        refine List.find?_eq_some_iff_append.mpr ⟨by simpa [hg] using phase, before, after, split, fun x hx => ?_⟩
        have := none x hx
        simp_all
      rw [same, if_pos rfl]; rfl
  unfold payloadFlight
  rw [ht, find?_changeFlight (f := Inflight.asked) fun _ => rfl, found]
  dsimp only [Option.map_some]
  rw [if_pos granted]; rfl

/-- R399: the payload or integrity fetch that begins is the one under way. -/
theorem flying_beginFetch {b : Nat} {kind : FetchKind} {s : State} (hk : kind ≠ .waybill) (h : (toGrant s b kind).isSome = true) :
    (flying (beginFetch b kind s) b kind).isSome = true := by
  obtain ⟨e, he⟩ := Option.isSome_iff_exists.mp h
  have inflight := beginFetch_of_toGrant hk he
  cases kind with
  | waybill => exact absurd rfl hk
  | integ =>
    have phase := List.find?_some he
    simp only [Bool.and_eq_true, if_true] at phase
    unfold flying
    dsimp only
    rw [inflight, List.find?_isSome]
    exact ⟨_, List.mem_map_of_mem (List.mem_of_find?_eq_some he), by
      rw [changeFlight_self]; exact Bool.and_eq_true_iff.mpr ⟨phase.2, rfl⟩⟩
  | payload => exact payloadFlight_of_toGrant he inflight

theorem toGrant_of_wantsFetch {s : State} {kind : FetchKind} {b : Nat} (hk : kind ≠ .waybill) (h : wantsFetch s kind b = true) :
    (toGrant s b kind).isSome = true := by
  unfold wantsFetch at h
  cases kind with
  | waybill => exact absurd rfl hk
  | payload | integ => exact (Bool.and_eq_true_iff.mp h).2

/-- R399, R261: FETCH_GRANT serves the bar of the greatest deficit, and no other bar changes. -/
theorem fetchGrant_answers {dt b : Nat} {kind : FetchKind} {s : State} (hb : b < 16) (hw : wantsFetch s kind b = true)
    (h : ∀ a < 16, wantsAny s a = true → a = b ∨ s.deficit.getD (64 + a) 0 < s.deficit.getD (64 + b) 0) :
    Answers (.fetchGrant dt kind) s fun t =>
      t.out = s.out ++ [.dmaRead (queueFn s b) b kind (fetchOf s b kind).1 (fetchOf s b kind).2] ∧
      (kind = .waybill → (t.bar b).intake.fetchIdx = ((s.bar b).intake.fetchIdx + 1) % 2 ^ 32 ∧
        (t.bar b).intake.inflight.length = (s.bar b).intake.inflight.length + 1) ∧
      (kind ≠ .waybill → (flying t b kind).isSome = true) ∧ ∀ a, a ≠ b → t.bar a = s.bar a := by
  obtain ⟨d, granted⟩ := grantFetch_greatest (s := s.later dt) hb hw h
  refine run_answers_at (c := .fetchGrant dt kind) rfl granted
    ⟨beginFetch_out b kind _, ?_, fun hk => ?_, fun a ha => beginFetch_bar_of_ne kind _ ha⟩
  · rintro rfl
    exact beginFetch_waybill b _
  · exact flying_beginFetch hk (toGrant_of_wantsFetch hk hw)

/-! ### An abort (Table 03-7, R63) -/

/-- A change that keeps the phase and the grant is seen in the fetch under way. -/
theorem flying_modFlight {s : State} {b : Nat} {kind : FetchKind} {e : Inflight} {f : Inflight → Inflight}
    (hp : ∀ e, (f e).phase = e.phase) (hg : ∀ e, (f e).granted = e.granted) (h : flying s b kind = some e) :
    flying (modFlight b e.idx f s) b kind = some (f e) := by
  unfold flying payloadFlight at *
  cases kind with
  | waybill =>
    dsimp only at *
    rw [inflight_modFlight, find?_changeFlight (fun e => by rw [hp]), h, Option.map_some, changeFlight_self]
  | integ =>
    dsimp only at *
    rw [inflight_modFlight, find?_changeFlight (fun e => by rw [hp, hg]), h, Option.map_some, changeFlight_self]
  | payload =>
    dsimp only at *
    rw [inflight_modFlight, find?_changeFlight (fun e => by rw [hp])]
    split at h
    · next x found =>
      obtain ⟨granted, same⟩ := Option.ite_none_right_eq_some.mp h
      obtain rfl := Option.some.inj same
      rw [found, Option.map_some, changeFlight_self]
      dsimp only
      rw [hg, if_pos granted]
    · cases h

/-- The aborts of the last second, with one more now. -/
def Inflight.abortedAt (e : Inflight) (now : Nat) : List Nat := e.aborts.filter (fun t => decide (now < t + Config.second)) ++ [now]

theorem abortFetch_retries {b : Nat} {kind : FetchKind} {e : Inflight} {s : State}
    (h : (e.aborts.filter (fun t => decide (s.now < t + Config.second))).length < 3) (hb : dmaBlocked s b = false) :
    abortFetch b kind e s = (modFlight b e.idx (fun x => { x with aborts := e.abortedAt s.now }) s).emit
      (.dmaRead (queueFn s b) b (flightRead s b e).1 (flightRead s b e).2.1 (flightRead s b e).2.2) := by
  have few : (e.abortedAt s.now).length ≤ 3 := by rw [Inflight.abortedAt, List.length_append]; exact h
  unfold abortFetch
  dsimp only
  rw [if_neg (c := dmaBlocked s b = true) (ne_true_of_eq_false hb)]
  exact if_pos few

theorem abortFetch_waits {b : Nat} {kind : FetchKind} {e : Inflight} {s : State}
    (h : (e.aborts.filter (fun t => decide (s.now < t + Config.second))).length < 3) (hb : dmaBlocked s b = true) :
    abortFetch b kind e s = modFlight b e.idx (fun x => { x with aborts := e.abortedAt s.now, again := true }) s := by
  have few : (e.abortedAt s.now).length ≤ 3 := by rw [Inflight.abortedAt, List.length_append]; exact h
  unfold abortFetch
  dsimp only
  rw [if_pos (c := dmaBlocked s b = true) hb]
  exact if_pos few

/-- FETCH_ABORT judges the fetch that is under way. -/
theorem fetchAbort_answers {dt : Nat} {b : Fin 16} {kind : FetchKind} {e : Inflight} {s u : State} {p : State → Prop}
    (hf : flying s b kind = some e) (h : abortFetch b kind e (s.later dt) = u)
    (hp : p { u with now := s.now + dt, pending := s.pending }) : Answers (.fetchAbort dt b kind) s p := by
  have under : flying (s.later dt) b kind = some e := hf
  have aborts : exec (.fetchAbort dt b kind) s = execFetchAbort dt b kind s := rfl
  unfold execFetchAbort at aborts
  refine run_answers_at aborts ?_ hp
  rw [under]
  exact h

/-- Settles O19. -/
theorem fetchesAreGrantedAndRetried : Obligations.FetchesAreGrantedAndRetried := by
  unfold Obligations.FetchesAreGrantedAndRetried
  refine ⟨?_, ?_, ?_⟩
  · intro dt kind b s hb hw h
    exact fetchGrant_answers hb hw h
  · intro dt b kind e s hf hn hb
    exact fetchAbort_answers hf (abortFetch_retries (s := s.later dt) hn hb)
      ⟨rfl, flying_modFlight (s := s.later dt) (fun _ => rfl) (fun _ => rfl) hf⟩
  · intro dt b kind e s hf hn hb
    exact fetchAbort_answers hf (abortFetch_waits (s := s.later dt) hn hb)
      ⟨rfl, flying_modFlight (s := s.later dt) (fun _ => rfl) (fun _ => rfl) hf⟩

end Sys2Proof.Machine
end

/-! ## Pages of a bar, and the room for them (03_intake.md R78, R81; 10_placement_memory.md R246, R247; 08_page_scanout.md R205) -/

section
namespace Sys2Proof.Machine
open Sys2Proof

/-! ### A page changed -/

/-- The youngest page of number `n`. -/
def youngest (n : Nat) (ps : List Page) : Option Page := ps.reverse.find? fun p => p.num == n

theorem page?_eq (s : State) (b n : Nat) : s.page? b n = youngest n (s.bar b).pages := rfl

theorem youngest_cons (n : Nat) (p : Page) (ps : List Page) :
    youngest n (p :: ps) = (youngest n ps).or (if p.num = n then some p else none) := by
  unfold youngest
  rw [List.reverse_cons, List.find?_append, List.find?_singleton]
  simp only [beq_iff_eq]

theorem youngest_concat (n : Nat) (ps : List Page) (p : Page) :
    youngest n (ps ++ [p]) = if p.num = n then some p else youngest n ps := by
  unfold youngest
  rw [List.reverse_append, List.reverse_singleton, List.singleton_append]
  split
  · next h => exact List.find?_cons_of_pos (beq_iff_eq.mpr h)
  · next h => exact List.find?_cons_of_neg (by simpa using h)

theorem youngest_isSome {n : Nat} {ps : List Page} : (youngest n ps).isSome = true ↔ ∃ p ∈ ps, p.num = n := by
  simp [youngest, List.find?_isSome]

theorem any_num {n : Nat} {ps : List Page} : ps.any (fun q => q.num == n) = (youngest n ps).isSome := by
  rw [Bool.eq_iff_iff, youngest_isSome]; simp

/-- R205: what changes is the youngest page of the number. -/
theorem youngest_modLast {n : Nat} {f : Page → Page} (hf : ∀ p, (f p).num = p.num) (m : Nat) (ps : List Page) :
    youngest m (modLast n f ps) = if m = n then (youngest m ps).map f else youngest m ps := by
  induction ps with
  | nil => simp [modLast, youngest]
  | cons p ps ih =>
    unfold modLast
    rw [any_num]
    by_cases later : (youngest n ps).isSome = true
    · rw [if_pos later, youngest_cons, youngest_cons, ih]
      split
      · next e => subst e; obtain ⟨q, hq⟩ := Option.isSome_iff_exists.mp later; rw [hq]; rfl
      · rfl
    · rw [if_neg later]
      have none : youngest n ps = none := Option.not_isSome_iff_eq_none.mp later
      split
      · next here =>
        rw [youngest_cons, youngest_cons, hf, here]
        split
        · next e => subst e; simp [none]
        · next e => simp [Ne.symm e]
      · next elsewhere =>
        rw [youngest_cons, youngest_cons, ih]
        split
        · next e => subst e; simp [none, elsewhere]
        · rfl

/-- A page of the list after the change is one of the list before, or the changed one. -/
theorem mem_modLast {n : Nat} {f : Page → Page} {ps : List Page} {q : Page} (h : q ∈ modLast n f ps) :
    q ∈ ps ∨ ∃ p ∈ ps, p.num = n ∧ q = f p := by
  induction ps with
  | nil => exact .inl h
  | cons p ps ih =>
    have inner (h : q ∈ p :: modLast n f ps) : q ∈ p :: ps ∨ ∃ x ∈ p :: ps, x.num = n ∧ q = f x := by
      rcases List.mem_cons.mp h with rfl | h
      · exact .inl List.mem_cons_self
      · exact (ih h).imp (List.mem_cons_of_mem p) fun ⟨x, hx, e⟩ => ⟨x, List.mem_cons_of_mem p hx, e⟩
    unfold modLast at h
    split at h
    · exact inner h
    · split at h
      · next here =>
        rcases List.mem_cons.mp h with rfl | h
        · exact .inr ⟨p, List.mem_cons_self, here, rfl⟩
        · exact .inl (List.mem_cons_of_mem p h)
      · exact inner h

theorem modLast_of_absent {n : Nat} (f : Page → Page) {ps : List Page} (h : youngest n ps = none) : modLast n f ps = ps := by
  induction ps with
  | nil => rfl
  | cons p ps ih =>
    rw [youngest_cons, Option.or_eq_none_iff] at h
    obtain ⟨later, here⟩ := h
    have elsewhere : p.num ≠ n := fun e => nomatch (if_pos e).symm.trans here
    unfold modLast
    rw [any_num, later, ih later, if_neg (by simp), if_neg elsewhere]

/-- A change of a page changes the bar's list of pages and its log. -/
theorem bar_modPage (s : State) (b n : Nat) (f : Page → Page) :
    ∃ l, (s.modPage b n f).bar b = { s.bar b with pages := modLast n f (s.bar b).pages, log := l } := by
  unfold State.modPage
  cases h : s.page? b n with
  | none => exact ⟨(s.bar b).log, by rw [modLast_of_absent f h]⟩
  | some p => exact ⟨_, bar_modBar_self _ _ _⟩

@[simp] theorem intake_modPage (s : State) (b n : Nat) (f : Page → Page) : ((s.modPage b n f).bar b).intake = (s.bar b).intake := by
  obtain ⟨l, e⟩ := bar_modPage s b n f; rw [e]

@[simp] theorem scan_modPage (s : State) (b n : Nat) (f : Page → Page) : ((s.modPage b n f).bar b).scan = (s.bar b).scan := by
  obtain ⟨l, e⟩ := bar_modPage s b n f; rw [e]

@[simp] theorem pages_modPage (s : State) (b n : Nat) (f : Page → Page) :
    ((s.modPage b n f).bar b).pages = modLast n f (s.bar b).pages := by
  obtain ⟨l, e⟩ := bar_modPage s b n f; rw [e]

theorem page?_modPage_self (s : State) (b n : Nat) {f : Page → Page} (hf : ∀ p, (f p).num = p.num) :
    (s.modPage b n f).page? b n = (s.page? b n).map f := by
  rw [page?_eq, page?_eq, pages_modPage, youngest_modLast hf, if_pos rfl]

theorem page?_modPage_of_ne (s : State) (b : Nat) {m n : Nat} {f : Page → Page} (hf : ∀ p, (f p).num = p.num) (h : m ≠ n) :
    (s.modPage b n f).page? b m = s.page? b m := by
  rw [page?_eq, page?_eq, pages_modPage, youngest_modLast hf, if_neg h]

@[simp] theorem page?_modIntake (s : State) (b : Nat) (f : Intake → Intake) (n : Nat) :
    (s.modIntake b f).page? b n = s.page? b n := by
  rw [page?_eq, State.modIntake, bar_modBar_self]; rfl

theorem EventsOnly.page? {s t : State} (h : EventsOnly s t) (b n : Nat) : t.page? b n = s.page? b n := by
  rw [page?_eq, page?_eq, h.bar_pages]

/-! ### The room for pages -/

/-- A bar's intake without what events and the judgement of its room change. -/
def Intake.course (q : Intake) : Intake :=
  { q with eqTail := 0, eqLost := 0, calderaFull := false, overQuota := false, calderaNeed := 0 }

theorem Intake.inflight_of_course {p q : Intake} (h : p.course = q.course) : p.inflight = q.inflight :=
  (congrArg Intake.inflight h : p.course.inflight = q.course.inflight)
theorem Intake.wqHead_of_course {p q : Intake} (h : p.course = q.course) : p.wqHead = q.wqHead :=
  (congrArg Intake.wqHead h : p.course.wqHead = q.course.wqHead)
theorem Intake.expect_of_course {p q : Intake} (h : p.course = q.course) : p.expect = q.expect :=
  (congrArg Intake.expect h : p.course.expect = q.course.expect)
theorem Intake.pageHold_of_course {p q : Intake} (h : p.course = q.course) : p.pageHold = q.pageHold :=
  (congrArg Intake.pageHold h : p.course.pageHold = q.course.pageHold)
theorem Intake.jobs_of_course {p q : Intake} (h : p.course = q.course) : p.jobs = q.jobs :=
  (congrArg Intake.jobs h : p.course.jobs = q.course.jobs)
theorem Intake.djHead_of_course {p q : Intake} (h : p.course = q.course) : p.djHead = q.djHead :=
  (congrArg Intake.djHead h : p.course.djHead = q.course.djHead)
theorem Intake.audit_of_course {p q : Intake} (h : p.course = q.course) : p.audit = q.audit :=
  (congrArg Intake.audit h : p.course.audit = q.course.audit)

theorem Intake.course_overQuota (q : Intake) (full : Bool) : { q with overQuota := full }.course = q.course := rfl

/-- R78: the bar retains no printed page of number `n`. -/
def Unretained (s : State) (b n : Nat) : Prop :=
  ∀ p ∈ (s.bar b).pages, p.num = n → ((p.printed || p.cut) && p.retained) = false

/-- What judging the room of bar `b` leaves: its queues, its scan-out, and the pages of every number of which none is retained. -/
structure RoomOnly (b : Nat) (s t : State) : Prop where
  intake : (t.bar b).intake.course = (s.bar b).intake.course
  scan : (t.bar b).scan = (s.bar b).scan
  page : ∀ n, Unretained s b n → Unretained t b n ∧ t.page? b n = s.page? b n

theorem RoomOnly.refl (b : Nat) (s : State) : RoomOnly b s s := ⟨rfl, rfl, fun _ h => ⟨h, rfl⟩⟩

theorem RoomOnly.trans {b : Nat} {s t u : State} (h : RoomOnly b s t) (g : RoomOnly b t u) : RoomOnly b s u where
  intake := g.intake.trans h.intake
  scan := g.scan.trans h.scan
  page n hn := ⟨(g.page n (h.page n hn).1).1, (g.page n (h.page n hn).1).2.trans (h.page n hn).2⟩

theorem EventsOnly.roomOnly {s t : State} (h : EventsOnly s t) (b : Nat) : RoomOnly b s t where
  intake := (congrArg (fun x : Bar => x.intake.course) (h.bar b) : (t.bar b).still.intake.course = (s.bar b).still.intake.course)
  scan := h.bar_scan b
  page n hn := ⟨by unfold Unretained; rw [h.bar_pages]; exact hn, h.page? b n⟩

section
variable {b : Nat} {s t : State}

theorem RoomOnly.events {u : State} (h : RoomOnly b s t) (e : EventsOnly t u) : RoomOnly b s u := h.trans (e.roomOnly b)

theorem RoomOnly.modIntake {f : Intake → Intake} (h : RoomOnly b s t) (hf : ∀ q, (f q).course = q.course) :
    RoomOnly b s (t.modIntake b f) := by
  refine h.trans ⟨by rw [intake_modIntake_self, hf], ?_, fun n hn => ⟨?_, page?_modIntake t b f n⟩⟩
  · rw [State.modIntake, bar_modBar_self]
  · unfold Unretained; rw [State.modIntake, bar_modBar_self]; exact hn

theorem RoomOnly.bumpB (h : RoomOnly b s t) (i j : Nat) : RoomOnly b s (t.bumpB b i j) := by
  have same : ∃ m, (t.bumpB b i j).bar b = { t.bar b with obj := m } := ⟨_, bar_modBar_self _ _ _⟩
  obtain ⟨m, e⟩ := same
  exact h.trans ⟨by rw [e], by rw [e], fun n hn => ⟨by unfold Unretained; rw [e]; exact hn, by rw [page?_eq, e, page?_eq]⟩⟩

/-- A change of a page that is retained. -/
theorem RoomOnly.modPage {f : Page → Page} (h : RoomOnly b s t) (hf : ∀ p, (f p).num = p.num) {p : Page}
    (hp : p ∈ (t.bar b).pages) (hr : ((p.printed || p.cut) && p.retained) = true) : RoomOnly b s (t.modPage b p.num f) := by
  refine h.trans ⟨by rw [intake_modPage], scan_modPage _ _ _ _, fun n hn => ?_⟩
  have other : n ≠ p.num := fun e => nomatch (hn p hp e.symm).symm.trans hr
  refine ⟨fun q hq hqn => ?_, page?_modPage_of_ne t b hf other⟩
  rw [pages_modPage] at hq
  rcases mem_modLast hq with hq | ⟨x, -, hx, rfl⟩
  · exact hn q hq hqn
  · exact absurd (hqn.symm.trans ((hf x).trans hx)) other

theorem oldestPage_mem {ps : List Page} {p : Page} (h : oldestPage ps = some p) : p ∈ ps := by
  induction ps with
  | nil => cases h
  | cons q ps ih =>
    unfold oldestPage at h
    split at h
    · next x hx =>
      split at h
      · cases h; exact List.mem_cons_of_mem q (ih hx)
      · cases h; exact List.mem_cons_self
    · cases h; exact List.mem_cons_self

/-- R78: what may be evicted is a retained page. -/
theorem evictable_retained {p : Page} (h : evictable t b = some p) :
    p ∈ (t.bar b).pages ∧ ((p.printed || p.cut) && p.retained) = true := by
  unfold evictable at h
  split at h
  · exact List.mem_filter.mp (List.mem_filter.mp (oldestPage_mem h)).1
  · cases h

theorem RoomOnly.evictPage (h : RoomOnly b s t) {p : Page} (hp : evictable t b = some p) : RoomOnly b s (evictPage b p t) := by
  obtain ⟨mem, retained⟩ := evictable_retained hp
  have dropped (f : Page → Page) (hf : ∀ q, (f q).num = q.num) :=
    (h.modPage hf mem retained).events (mirror_events (.caldera (Fin.ofNat 16 b) (BitVec.ofNat 32 p.num) false) _)
  unfold Machine.evictPage
  dsimp only
  split
  · refine RoomOnly.events (RoomOnly.bumpB ?_ _ _) (postB_events _ _ _ _ _ _)
    refine dropped _ ?_
    exact fun _ => rfl
  · refine dropped _ ?_
    exact fun _ => rfl

theorem RoomOnly.postPaused (h : RoomOnly b s t) (cause : Nat) (resumed : Bool) : RoomOnly b s (postPaused b cause resumed t) :=
  h.events (postB_events _ _ _ _ _ _)

theorem RoomOnly.makeRoom (h : RoomOnly b s t) (need n : Nat) : RoomOnly b s (makeRoom b need n t) := by
  induction n generalizing t with
  | zero => exact h
  | succ n ih =>
    unfold Machine.makeRoom
    dsimp only
    split
    · split
      · refine RoomOnly.postPaused ?_ _ _
        exact h.modIntake fun _ => rfl
      · exact h
    · split
      · next p hp => exact ih (h.evictPage hp)
      · split
        · exact h.modIntake fun _ => rfl
        · refine RoomOnly.postPaused ?_ _ _
          exact h.modIntake fun _ => rfl

theorem RoomOnly.evictToQuota (h : RoomOnly b s t) (n : Nat) : RoomOnly b s (evictToQuota b n t) := by
  induction n generalizing t with
  | zero => exact h
  | succ n ih =>
    unfold Machine.evictToQuota
    split
    · split
      · next p hp => exact ih (h.evictPage hp)
      · exact h
    · exact h

theorem RoomOnly.retryRoom (h : RoomOnly b s t) : RoomOnly b s (retryRoom b t) := by
  unfold Machine.retryRoom
  split
  · exact h.makeRoom _ _
  · exact h

theorem RoomOnly.applyQuota (h : RoomOnly b s t) : RoomOnly b s (applyQuota b t) := by
  unfold Machine.applyQuota
  dsimp only
  have judged := (h.evictToQuota (t.bar b).pages.length).retryRoom
  split
  · exact judged
  · refine RoomOnly.postPaused (RoomOnly.events ?_ (postB_events _ _ _ _ _ _)) _ _
    exact judged.modIntake fun q => q.course_overQuota _

end

section
variable {b : Nat} {s t : State} (h : RoomOnly b s t)
include h

theorem RoomOnly.inflight : (t.bar b).intake.inflight = (s.bar b).intake.inflight := Intake.inflight_of_course h.intake
theorem RoomOnly.wqHead : (t.bar b).intake.wqHead = (s.bar b).intake.wqHead := Intake.wqHead_of_course h.intake
theorem RoomOnly.expect : (t.bar b).intake.expect = (s.bar b).intake.expect := Intake.expect_of_course h.intake
theorem RoomOnly.pageHold : (t.bar b).intake.pageHold = (s.bar b).intake.pageHold := Intake.pageHold_of_course h.intake
theorem RoomOnly.jobs : (t.bar b).intake.jobs = (s.bar b).intake.jobs := Intake.jobs_of_course h.intake
theorem RoomOnly.djHead : (t.bar b).intake.djHead = (s.bar b).intake.djHead := Intake.djHead_of_course h.intake
theorem RoomOnly.audit : (t.bar b).intake.audit = (s.bar b).intake.audit := Intake.audit_of_course h.intake

end

end Sys2Proof.Machine
end

/-! ## Waybills and their checks (03_intake.md R62, R67 to R71, R399, R400) -/

section
namespace Sys2Proof.Machine
open Sys2Proof

/-! ### A single waybill on its way -/

theorem modIntake_congr {s : State} {b : Nat} {f g : Intake → Intake} (h : f (s.bar b).intake = g (s.bar b).intake) :
    s.modIntake b f = s.modIntake b g := by
  unfold State.modIntake State.modBar; dsimp only; rw [h]

theorem modIntake_modIntake (s : State) (b : Nat) (f g : Intake → Intake) :
    (s.modIntake b f).modIntake b g = s.modIntake b fun q => g (f q) := modBar_modBar s b _ _

/-- R62: WQ_HEAD passes the one waybill on its way. -/
def Intake.passed (q : Intake) : Intake := { q with wqHead := (q.wqHead + 1) % 2 ^ 32, inflight := [] }

@[simp] theorem Intake.passed_inflight (q : Intake) : q.passed.inflight = [] := rfl
@[simp] theorem Intake.passed_wqHead (q : Intake) : q.passed.wqHead = (q.wqHead + 1) % 2 ^ 32 := rfl
@[simp] theorem Intake.passed_pageHold (q : Intake) : q.passed.pageHold = q.pageHold := rfl
@[simp] theorem Intake.passed_expect (q : Intake) : q.passed.expect = q.expect := rfl

theorem modFlight_of_single {b idx : Nat} {e : Inflight} {s : State} (f : Inflight → Inflight) (hi : (s.bar b).intake.inflight = [e])
    (he : e.idx = idx) : modFlight b idx f s = s.modIntake b fun q => { q with inflight := [f e] } := by
  refine modIntake_congr ?_
  rw [hi, List.map_singleton, if_pos he]

theorem flightDone_of_single {b idx : Nat} {e : Inflight} {s : State} (hi : (s.bar b).intake.inflight = [e]) (he : e.idx = idx) :
    flightDone b idx s = s.modIntake b Intake.passed := by
  unfold flightDone advanceHead
  rw [modFlight_of_single _ hi he, modIntake_modIntake]
  rfl

theorem resumeHold_of_free {b : Nat} {s : State} (h : (s.bar b).intake.pageHold = false) : resumeHold b s = s := by
  unfold resumeHold; rw [h]; exact if_neg fun held => Bool.false_ne_true held.1

theorem resumeHold_of_full {b : Nat} {s : State} (h : 4 ≤ (openPages s b).length) : resumeHold b s = s := by
  unfold resumeHold; exact if_neg fun held => held.2.not_ge h

/-- The check of the one fetched waybill on its way. -/
theorem checkAll_of_single {b : Nat} {e : Inflight} {s : State} (hi : (s.bar b).intake.inflight = [e]) (hp : e.phase = 1) :
    checkAll b s = checkWaybill b e s := by
  have found : (s.bar b).intake.inflight.find? (fun e => decide (e.phase < 4)) = some e := by
    rw [hi]; exact List.find?_cons_of_pos (by rw [hp]; rfl)
  rw [checkAll, hi, List.length_singleton, checkRun, found]
  exact if_pos hp

theorem checkAll_of_none {b : Nat} {s : State} (hi : (s.bar b).intake.inflight = []) : checkAll b s = s := by
  unfold checkAll; rw [hi]; rfl

/-! ### Objects of a bar -/

@[simp] theorem intake_setBo (s : State) (b i j v : Nat) : ((s.setBo b i j v).bar b).intake = (s.bar b).intake := by
  rw [State.setBo, bar_modBar_self]

@[simp] theorem pages_setBo (s : State) (b i j v : Nat) : ((s.setBo b i j v).bar b).pages = (s.bar b).pages := by
  rw [State.setBo, bar_modBar_self]

theorem bo_setBo_of_ne (s : State) (b i j v i' j' : Nat) (h : okey i' j' ≠ okey i j) :
    (s.setBo b i j v).bo b i' j' = s.bo b i' j' := by
  unfold State.bo slotIn
  rw [State.setBo, bar_modBar_self, Map.get?_set_of_ne _ _ h]

theorem satAdd32_lt (a b : Nat) : satAdd32 a b < 2 ^ 32 := by unfold satAdd32; omega

theorem leNat_lt (bs : List Byte) : leNat bs < 256 ^ bs.length := by
  induction bs with
  | nil => exact Nat.one_pos
  | cons x xs ih =>
    have := x.isLt
    rw [leNat, List.length_cons, Nat.pow_succ]
    omega

theorem fieldLE_lt (bs : List Byte) (o n : Nat) : fieldLE bs o n < 256 ^ n :=
  (leNat_lt _).trans_le (Nat.pow_le_pow_right (by decide) (List.length_take_le n _))

/-! ### A waybill that fails (R400) -/

/-- R400: the failure counted, and LAST_FAIL. -/
def wbNoted (b code page : Nat) (w : Nat × Nat × Nat) (s : State) : State :=
  (s.bumpB b 0x2007 3).setBo b 0x2008 0 (lastFail page w.2.2 (w.2.1 % 32) (w.1 % 8) code)

theorem wbFail_events (b idx code type page : Nat) (w : Nat × Nat × Nat) (s : State) :
    EventsOnly (wbNoted b code page w s) (wbFail b idx code type page w s) := by
  unfold wbFail
  dsimp only
  split
  · exact post_events _ _
  · exact postB_events _ _ _ _ _ _

/-- The one waybill on its way has failed with LAST_FAIL `fail`. -/
structure WaybillFailed (b fail : Nat) (s t : State) : Prop where
  inflight : (t.bar b).intake.inflight = []
  wqHead : (t.bar b).intake.wqHead = ((s.bar b).intake.wqHead + 1) % 2 ^ 32
  pageHold : (t.bar b).intake.pageHold = (s.bar b).intake.pageHold
  pages : (t.bar b).pages = (s.bar b).pages
  lastFail : t.bo b 0x2008 0 = fail
  count : t.bo b 0x2007 3 = satAdd32 (s.bo b 0x2007 3) 1

theorem waybillFailed {b idx code type page : Nat} {w : Nat × Nat × Nat} {e : Inflight} {s : State}
    (hi : (s.bar b).intake.inflight = [e]) (he : e.idx = idx)
    (hl : lastFail page w.2.2 (w.2.1 % 32) (w.1 % 8) code < 2 ^ 64) :
    WaybillFailed b (lastFail page w.2.2 (w.2.1 % 32) (w.1 % 8) code) s (flightDone b idx (wbFail b idx code type page w s)) := by
  have ev := wbFail_events b idx code type page w s
  have intake : ((wbNoted b code page w s).bar b).intake = (s.bar b).intake := by
    simp [wbNoted, State.bumpB, State.bumpBN]
  rw [flightDone_of_single (by rw [ev.intake_inflight, intake, hi]) he]
  refine ⟨?_, ?_, ?_, ?_, ?_, ?_⟩
  · rw [intake_modIntake_self, Intake.passed_inflight]
  · rw [intake_modIntake_self, Intake.passed_wqHead, ev.intake_wqHead, intake]
  · rw [intake_modIntake_self, Intake.passed_pageHold, ev.intake_pageHold, intake]
  · rw [State.modIntake, bar_modBar_self]
    dsimp only
    rw [ev.bar_pages, wbNoted, State.bumpB, State.bumpBN, pages_setBo, pages_setBo]
  · rw [bo_modIntake, ev.bo _ _ _ (by decide) (by decide), wbNoted, bo_setBo_self, Nat.mod_eq_of_lt hl]
  · rw [bo_modIntake, ev.bo _ _ _ (by decide) (by decide), wbNoted, bo_setBo_of_ne _ _ _ _ _ _ _ (by decide), State.bumpB,
      State.bumpBN, bo_setBo_self, Nat.mod_eq_of_lt ((satAdd32_lt _ _).trans (by decide))]

/-! ### A waybill fetched (R67) -/

/-- The waybill with its bytes, to be checked. -/
def Inflight.fetched (bytes : List Byte) (e : Inflight) : Inflight := { e with phase := 1, bytes := bytes }

/-- The one waybill on its way has been fetched. -/
def fetched (b : Nat) (bytes : List Byte) (e : Inflight) (s : State) : State :=
  s.modIntake b fun q => { q with inflight := [e.fetched bytes] }

theorem inflight_fetched (b : Nat) (bytes : List Byte) (e : Inflight) (s : State) :
    ((fetched b bytes e s).bar b).intake.inflight = [e.fetched bytes] := by rw [fetched, intake_modIntake_self]

theorem pages_fetched (b : Nat) (bytes : List Byte) (e : Inflight) (s : State) :
    ((fetched b bytes e s).bar b).pages = (s.bar b).pages := by rw [fetched, State.modIntake, bar_modBar_self]

theorem openPages_fetched (b : Nat) (bytes : List Byte) (e : Inflight) (s : State) :
    openPages (fetched b bytes e s) b = openPages s b := by unfold openPages; rw [pages_fetched]

theorem format_fetched (b : Nat) (bytes : List Byte) (e : Inflight) (s : State) (pl : Nat) :
    (fetched b bytes e s).format b pl = s.format b pl := bo_modIntake _ _ _ _ _ _

/-- WAYBILL_FETCHED checks the one waybill on its way. -/
theorem waybillFetched_answers {dt : Nat} {b : Fin 16} {bytes : List Byte} {e : Inflight} {s u : State} {p : State → Prop}
    (hl : bytes.length = 64) (hi : (s.bar b).intake.inflight = [e]) (hp : e.phase = 0)
    (h : checkWaybill b (e.fetched bytes) (fetched b bytes e (s.later dt)) = u) (hr : resumeHold b u = u)
    (hu : p { u with now := s.now + dt, pending := s.pending }) : Answers (.waybillFetched dt b bytes) s p := by
  have single : ((s.later dt).bar b).intake.inflight = [e] := hi
  have fetch : exec (.waybillFetched dt b bytes) s = execWaybillFetched dt b bytes s := rfl
  unfold execWaybillFetched at fetch
  rw [if_pos hl] at fetch
  refine run_answers_at fetch ?_ hu
  rw [single, List.find?_cons_of_pos (by rw [hp]; rfl)]
  dsimp only
  rw [modFlight_of_single _ single rfl]
  exact (congrArg (resumeHold b) ((checkAll_of_single (inflight_fetched b bytes e _) rfl).trans h)).trans hr

theorem wagonCode_fetched (b : Nat) (bytes : List Byte) (e : Inflight) (s : State) (bs : List Byte) :
    wagonCode (fetched b bytes e s) b bs = wagonCode s b bs := by
  unfold wagonCode; rw [openPages_fetched]; rfl

theorem slotCode_fetched (b : Nat) (bytes : List Byte) (e : Inflight) (s : State) (bs : List Byte) :
    slotCode (fetched b bytes e s) b bs = slotCode s b bs := by
  unfold slotCode; rw [format_fetched]

theorem wagonOf_fetched (b : Nat) (bytes : List Byte) (e : Inflight) (s : State) (bs : List Byte) :
    wagonOf (fetched b bytes e s) b bs = wagonOf s b bs := by
  unfold wagonOf; rw [show ((fetched b bytes e s).bar b).keys = (s.bar b).keys by rw [fetched, State.modIntake, bar_modBar_self]]

theorem headCode_fetched (b : Nat) (bytes : List Byte) (e : Inflight) (s : State) (bs : List Byte) :
    headCode (fetched b bytes e s) b bs = headCode s b bs := by
  unfold headCode
  rw [show ((fetched b bytes e s).bar b).intake.expect = (s.bar b).intake.expect by rw [fetched, intake_modIntake_self]]

theorem checkWaybill_of_badCrc {b : Nat} {e : Inflight} {s : State} (h : crc32c (e.bytes.take 60) ≠ fieldLE e.bytes 60 4) :
    checkWaybill b e s = flightDone b e.idx (wbFail b e.idx 0x01 0 0 (0, 0, 0) s) := by
  unfold checkWaybill; exact if_pos h

theorem checkWaybill_of_wagon {b : Nat} {e : Inflight} {s : State} (h : crc32c (e.bytes.take 60) = fieldLE e.bytes 60 4)
    (ht : byteAt e.bytes 0 = 1) : checkWaybill b e s = checkWagon b e s := by
  unfold checkWaybill
  rw [if_neg (not_not_intro h), ht]
  rfl

theorem checkWaybill_of_head {b : Nat} {e : Inflight} {s : State} (h : crc32c (e.bytes.take 60) = fieldLE e.bytes 60 4)
    (ht : byteAt e.bytes 0 = 2) (ho : (openPages s b).length < 4) : checkWaybill b e s = checkHead b e s := by
  unfold checkWaybill
  rw [if_neg (not_not_intro h), ht]
  exact if_neg ho.not_ge

theorem checkWaybill_of_held {b : Nat} {e : Inflight} {s : State} (h : crc32c (e.bytes.take 60) = fieldLE e.bytes 60 4)
    (ht : byteAt e.bytes 0 = 2) (ho : 4 ≤ (openPages s b).length) : checkWaybill b e s =
      postPaused b 3 false ((modFlight b e.idx (fun e => { e with phase := 2 }) s).modIntake b
        (fun q => { q with pageHold := true })) := by
  unfold checkWaybill
  rw [if_neg (not_not_intro h), ht]
  exact if_pos ho

end Sys2Proof.Machine
end

/-! ## What the checks of a waybill leave (03_intake.md R67 to R71, R78, R399) -/

section
namespace Sys2Proof.Machine
open Sys2Proof

/-! ### A head accepted (R68, R69) -/

theorem modLast_id (n : Nat) (ps : List Page) : modLast n (fun q => q) ps = ps := by
  induction ps with
  | nil => rfl
  | cons p ps ih => unfold modLast; rw [ih]; split_ifs <;> rfl

@[simp] theorem pages_modIntake (s : State) (b : Nat) (f : Intake → Intake) : ((s.modIntake b f).bar b).pages = (s.bar b).pages := by
  rw [State.modIntake, bar_modBar_self]

@[simp] theorem scan_modIntake (s : State) (b : Nat) (f : Intake → Intake) : ((s.modIntake b f).bar b).scan = (s.bar b).scan := by
  rw [State.modIntake, bar_modBar_self]

theorem addPage_pages (b : Nat) (p : Page) (s : State) :
    ((addPage b p s).bar b).pages = (s.bar b).pages.filter (fun q => !forgotten p.num q) ++ [p] := by
  unfold addPage
  rw [pages_modIntake, pages_modPage, modLast_id]
  split <;> simp only [State.modScan, bar_modBar_self]

theorem addPage_ahead (b : Nat) (p : Page) (s : State) : ((addPage b p s).bar b).scan.ahead = (s.bar b).scan.ahead := by
  unfold addPage
  rw [scan_modIntake, scan_modPage]
  split <;> simp only [State.modScan, bar_modBar_self]

/-- A new page changes of the intake the page expected and the AUDIT of the page. -/
theorem addPage_intake (b : Nat) (p : Page) (s : State) : ∃ a,
    ((addPage b p s).bar b).intake = { (s.bar b).intake with expect := some (pageSucc p.num), audit := a } := by
  unfold addPage
  rw [intake_modIntake_self, intake_modPage]
  split <;> simp only [State.modScan, bar_modBar_self] <;> exact ⟨_, rfl⟩

/-- The new page is the youngest of its number, and no page of that number is retained. -/
theorem addPage_page {b : Nat} {p : Page} {s : State} (hp : p.printed = false) (hc : p.cut = false) :
    (addPage b p s).page? b p.num = some p ∧ Unretained (addPage b p s) b p.num := by
  refine ⟨?_, fun q hq hn => ?_⟩
  · rw [page?_eq, addPage_pages, youngest_concat, if_pos rfl]
  · rw [addPage_pages] at hq
    rcases List.mem_append.mp hq with old | new
    · have stays := (List.mem_filter.mp old).2
      unfold forgotten at stays
      rw [hn] at stays
      simp only [beq_self_eq_true, Bool.true_or, Bool.and_true, Bool.not_eq_true'] at stays
      rw [stays]; rfl
    · rw [List.mem_singleton.mp new, hp, hc]; rfl

theorem notify_events (b page : Nat) (bs : List Byte) (s : State) : EventsOnly s (notify b page bs s) := by
  unfold notify
  split
  · exact postB_events _ _ _ _ _ _
  · exact EventsOnly.refl s

/-- R69: a page that closes is no longer open, and events. -/
theorem closeIfDone_cases (b n : Nat) (s : State) : closeIfDone b n s = s ∨
    EventsOnly (s.modPage b n fun q => { q with isOpen := false }) (closeIfDone b n s) := by
  unfold closeIfDone
  split
  · exact .inl rfl
  · split
    · exact .inr (postB_events _ _ _ _ _ _)
    · exact .inl rfl

theorem closeIfDone_intake (b n : Nat) (s : State) :
    ((closeIfDone b n s).bar b).intake.course = (s.bar b).intake.course := by
  rcases closeIfDone_cases b n s with same | ev
  · rw [same]
  · rw [(ev.roomOnly b).intake, intake_modPage]

theorem closeIfDone_scan (b n : Nat) (s : State) : ((closeIfDone b n s).bar b).scan = (s.bar b).scan := by
  rcases closeIfDone_cases b n s with same | ev
  · rw [same]
  · rw [ev.bar_scan, scan_modPage]

/-- What closing may change of a page. -/
theorem closeIfDone_page (b n : Nat) (s : State) :
    ∃ o : Page → Bool, (closeIfDone b n s).page? b n = (s.page? b n).map fun q => { q with isOpen := o q } := by
  rcases closeIfDone_cases b n s with same | ev
  · exact ⟨Page.isOpen, by rw [same]; exact Option.map_id'.symm⟩
  · exact ⟨fun _ => false,
      (ev.page? b n).trans (page?_modPage_self s b n (f := fun q => { q with isOpen := false }) fun _ => rfl)⟩

/-- R69: what the report of a head or wagon and the closing of its page leave of the intake. -/
theorem reported_course (b n m : Nat) (bs : List Byte) (s : State) :
    ((closeIfDone b n (notify b m bs s)).bar b).intake.course = (s.bar b).intake.course :=
  (closeIfDone_intake _ _ _).trans ((notify_events b m bs s).roomOnly b).intake

theorem reported_scan (b n m : Nat) (bs : List Byte) (s : State) : ((closeIfDone b n (notify b m bs s)).bar b).scan = (s.bar b).scan :=
  (closeIfDone_scan _ _ _).trans ((notify_events b m bs s).bar_scan b)

theorem reported_page (b n m : Nat) (bs : List Byte) (s : State) :
    ∃ o : Page → Bool, (closeIfDone b n (notify b m bs s)).page? b n = (s.page? b n).map fun q => { q with isOpen := o q } := by
  rw [← (notify_events b m bs s).page? b n]
  exact closeIfDone_page b n _

theorem takeAhead_of_none {b n : Nat} {s : State} (h : (s.bar b).scan.ahead = []) : takeAhead b n s = s := by
  unfold takeAhead; rw [h]; rfl

/-- A page as a head opens it: its lines and rectangles, and no wagon. -/
structure OpensPage (b n lines : Nat) (rects : List Rect) (s t : State) : Prop where
  inflight : (t.bar b).intake.inflight = []
  pageHold : (t.bar b).intake.pageHold = (s.bar b).intake.pageHold
  expect : (t.bar b).intake.expect = some (pageSucc n)
  page : ∃ p, t.page? b n = some p ∧ p.lines = lines ∧ p.rects = rects ∧ p.slots = []

/-- R68, R69: an accepted head opens its page and ends its waybill; judging the bar's room leaves the new page alone. -/
theorem acceptHead_opens {b : Nat} {e x : Inflight} {rects : List Rect} {s : State} (hi : (s.bar b).intake.inflight = [x])
    (hx : x.idx = e.idx) (ha : (s.bar b).scan.ahead = []) :
    OpensPage b (fieldLE e.bytes 4 4) (fieldLE e.bytes 8 4) rects s (acceptHead b e rects s) := by
  have effect : acceptHead b e rects s = takeAhead b (fieldLE e.bytes 4 4) (closeIfDone b (fieldLE e.bytes 4 4)
      (notify b (fieldLE e.bytes 4 4) e.bytes (flightDone b e.idx (applyQuota b (addPage b (newPage s b (fieldLE e.bytes 4 4)
        (fieldLE e.bytes 8 4) (bitN (fieldLE e.bytes 2 2) 3) none rects) s))))) := rfl
  generalize hn : fieldLE e.bytes 4 4 = n at effect ⊢
  generalize hp : newPage s b n (fieldLE e.bytes 8 4) (bitN (fieldLE e.bytes 2 2) 3) none rects = p at effect
  have num : p.num = n := by rw [← hp]; rfl
  obtain ⟨found, unretained⟩ := addPage_page (b := b) (p := p) (s := s) (by rw [← hp]; rfl) (by rw [← hp]; rfl)
  obtain ⟨a, added⟩ := addPage_intake b p s
  have room : RoomOnly b (addPage b p s) (applyQuota b (addPage b p s)) := (RoomOnly.refl b _).applyQuota
  rw [flightDone_of_single (by rw [room.inflight, added, hi]) hx] at effect
  have course := reported_course b n n e.bytes ((applyQuota b (addPage b p s)).modIntake b Intake.passed)
  obtain ⟨o, page⟩ := reported_page b n n e.bytes ((applyQuota b (addPage b p s)).modIntake b Intake.passed)
  rw [intake_modIntake_self] at course
  rw [takeAhead_of_none (by rw [reported_scan, scan_modIntake, room.scan, addPage_ahead, ha])] at effect
  rw [effect]
  refine ⟨?_, ?_, ?_, ⟨{ p with isOpen := o p }, ?_, ?_, ?_, ?_⟩⟩
  · rw [Intake.inflight_of_course course, Intake.passed_inflight]
  · rw [Intake.pageHold_of_course course, Intake.passed_pageHold, room.pageHold, added]
  · rw [Intake.expect_of_course course, Intake.passed_expect, room.expect, added, num]
  · rw [page, page?_modIntake, ← num, (room.page _ unretained).2, found]; rfl
  all_goals rw [← hp]; rfl

/-! ### The check of a fetched waybill -/

theorem intake_fetched (b : Nat) (bytes : List Byte) (e : Inflight) (s : State) :
    ((fetched b bytes e s).bar b).intake = { (s.bar b).intake with inflight := [e.fetched bytes] } := by
  rw [fetched, intake_modIntake_self]

/-- A wagon that passes names an open page. -/
theorem page?_of_wagonCode {s : State} {b : Nat} {bs : List Byte} (h : wagonCode s b bs = 0) :
    ∃ p, s.page? b (fieldLE bs 4 4) = some p := by
  unfold wagonCode at h
  dsimp only at h
  split at h
  · cases h
  · split at h
    · cases h
    · next p hp =>
      have mem := (List.mem_filter.mp (List.mem_of_find?_eq_some hp)).1
      have num := List.find?_some hp
      exact Option.isSome_iff_exists.mp (youngest_isSome.mpr ⟨p, mem, beq_iff_eq.mp num⟩)

/-- R67, R70: a wagon that passes fills its slot, and its payload is to be fetched. -/
theorem checkWagon_passes {b : Nat} {e : Inflight} {s : State} (hi : (s.bar b).intake.inflight = [e])
    (hw : wagonCode s b e.bytes = 0) (hs : slotCode s b e.bytes = 0) :
    ((checkWagon b e s).page? b (fieldLE e.bytes 4 4)).bind (fun p => p.slots.get?
      (slotKey (wagonOf s b e.bytes).plane (wagonOf s b e.bytes).span (wagonOf s b e.bytes).band)) = some (wagonOf s b e.bytes) ∧
    ((checkWagon b e s).bar b).intake = { (s.bar b).intake with inflight := [{ e with
      phase := 4, granted := false, page := fieldLE e.bytes 4 4, wagon := some (wagonOf s b e.bytes)
      slot := slotKey (wagonOf s b e.bytes).plane (wagonOf s b e.bytes).span (wagonOf s b e.bytes).band }] } := by
  obtain ⟨p, hp⟩ := page?_of_wagonCode hw
  unfold checkWagon
  simp only [hw, hs, ne_eq, not_true_eq_false, if_false]
  generalize wagonOf s b e.bytes = w
  have counted : ((s.countB64 b 0x2007 0 1).bar b).pages = (s.bar b).pages := pages_setBo _ _ _ _ _
  rw [modFlight_of_single _ (e := e) (by rw [intake_modPage, State.countB64, intake_setBo, hi]) rfl]
  constructor
  · rw [page?_modIntake, page?_modPage_self _ _ _ (f := fun p => { p with slots := p.slots.set _ w }) fun _ => rfl, page?_eq,
      counted, ← page?_eq, hp]
    exact Map.get?_set_self _ _ _
  · rw [intake_modIntake_self, intake_modPage, State.countB64, intake_setBo]

/-- Settles O20, by the branches of checkWaybill: each ends, keeps or hands on the one waybill on its way. -/
theorem waybillsAreChecked : Obligations.WaybillsAreChecked := by
  refine ⟨fun dt b bytes e s hl hi hp hh hc => ?_, fun dt b bytes e s hl hi hp hh hc ht hw hs => ?_,
    fun dt b bytes e s hl hi hp hh hc ht ho hw hn ha => ?_, fun dt b bytes e s hl hi hp hh hc ht ho => ?_⟩
  · obtain ⟨inflight, head, hold, -, fail, count⟩ := waybillFailed (b := b) (code := 1) (type := 0) (page := 0) (w := (0, 0, 0))
      (inflight_fetched b bytes e (s.later dt)) rfl (by decide)
    rw [intake_fetched] at head hold
    rw [fetched, bo_modIntake, ← fetched] at count
    exact waybillFetched_answers hl hi hp (checkWaybill_of_badCrc hc) (resumeHold_of_free (hold.trans hh))
      ⟨inflight, head, fail, count⟩
  · obtain ⟨slot, intake⟩ := checkWagon_passes (inflight_fetched b bytes e (s.later dt))
      ((wagonCode_fetched b bytes e _ bytes).trans hw) ((slotCode_fetched b bytes e _ bytes).trans hs)
    rw [show (e.fetched bytes).bytes = bytes from rfl, wagonOf_fetched] at slot intake
    refine waybillFetched_answers hl hi hp (checkWaybill_of_wagon hc ht) (resumeHold_of_free ?_) ⟨slot, ?_⟩
    · rw [intake, intake_fetched]; exact hh
    · exact congrArg Intake.inflight intake
  · have opened := acceptHead_opens (rects := []) (inflight_fetched b bytes e (s.later dt)) rfl
      ((congrArg Scan.ahead (scan_modIntake _ _ _)).trans ha)
    have accepted : checkHead b (e.fetched bytes) (fetched b bytes e (s.later dt)) =
        acceptHead b (e.fetched bytes) [] (fetched b bytes e (s.later dt)) := by
      unfold checkHead
      rw [headCode_fetched]
      exact (if_neg (not_not_intro hw)).trans (if_pos hn)
    refine waybillFetched_answers hl hi hp ((checkWaybill_of_head hc ht (by rwa [openPages_fetched])).trans accepted)
      (resumeHold_of_free ?_) ⟨opened.inflight, opened.expect, opened.page⟩
    rw [opened.pageHold, intake_fetched]
    exact hh
  · have full : 4 ≤ (openPages (fetched b bytes e (s.later dt)) b).length := by rw [openPages_fetched]; exact ho
    have held := checkWaybill_of_held (e := e.fetched bytes) hc ht full
    rw [modFlight_of_single _ (inflight_fetched b bytes e (s.later dt)) rfl, modIntake_modIntake] at held
    generalize hu : (fetched b bytes e (s.later dt)).modIntake b _ = u at held
    have paused : EventsOnly u (postPaused b 3 false u) := postB_events _ _ _ _ _ _
    have pages : ((postPaused b 3 false u).bar b).pages = (s.bar b).pages := by
      rw [paused.bar_pages, ← hu, pages_modIntake, pages_fetched]; rfl
    refine waybillFetched_answers hl hi hp held (resumeHold_of_full ?_) ⟨?_, ?_, pages⟩
    · unfold openPages; rw [pages]; exact ho
    · exact paused.intake_pageHold b |>.trans (by rw [← hu, intake_modIntake_self])
    · exact paused.intake_inflight b |>.trans (by rw [← hu, intake_modIntake_self]; rfl)

end Sys2Proof.Machine
end

/-! ## Integrity entries and payloads (03_intake.md R62, R67, R70, R71, R78, R400) -/

section
namespace Sys2Proof.Machine
open Sys2Proof

theorem rectOk_later (s : State) (dt b n : Nat) : rectOk (s.later dt) b n = rectOk s b n := rfl

/-- INTEG_ENTRIES_FETCHED checks the entries of the one head on its way. -/
theorem integEntriesFetched_answers {dt : Nat} {b : Fin 16} {bytes : List Byte} {e : Inflight} {s u : State} {p : State → Prop}
    (hi : (s.bar b).intake.inflight = [e]) (hp : e.phase = 3) (hg : e.granted = true)
    (hl : bytes.length = 16 * (byteAt e.bytes 12).toNat) (h : checkInteg b e bytes (s.later dt) = u)
    (ho : (u.bar b).intake.inflight = []) (hh : (u.bar b).intake.pageHold = false)
    (hu : p { u with now := s.now + dt, pending := s.pending }) : Answers (.integEntriesFetched dt b bytes) s p := by
  have single : ((s.later dt).bar b).intake.inflight = [e] := hi
  have fetch : exec (.integEntriesFetched dt b bytes) s = execIntegEntriesFetched dt b bytes s := rfl
  unfold execIntegEntriesFetched at fetch
  refine run_answers_at fetch ?_ hu
  rw [single, List.find?_cons_of_pos (by rw [hp, hg]; rfl)]
  dsimp only
  rw [if_pos hl, h, checkAll_of_none ho, resumeHold_of_free hh]

theorem checkInteg_passes {b : Nat} {e : Inflight} {bytes : List Byte} {s : State}
    (h : (chunks 16 (byteAt e.bytes 12).toNat bytes).all (rectOk s b (fieldLE e.bytes 8 4)) = true) :
    checkInteg b e bytes s = acceptHead b e ((chunks 16 (byteAt e.bytes 12).toNat bytes).map rectOf) s := if_pos h

theorem checkInteg_fails {b : Nat} {e : Inflight} {bytes : List Byte} {s : State}
    (h : (chunks 16 (byteAt e.bytes 12).toNat bytes).all (rectOk s b (fieldLE e.bytes 8 4)) = false) :
    checkInteg b e bytes s = flightDone b e.idx (wbFail b e.idx 0x0F 2 (fieldLE e.bytes 4 4) (0, 0, 0) s) := by
  unfold checkInteg; exact if_neg (ne_true_of_eq_false h)

/-! ### A payload stored -/

theorem makeRoom_of_room {b need n : Nat} {s : State} (h : dramUsed s b + need ≤ quotaEff s b * 2 ^ 20)
    (hf : (s.bar b).intake.calderaFull = false) : makeRoom b need (n + 1) s = s := by
  rw [makeRoom, if_pos h, if_neg (ne_true_of_eq_false hf)]

theorem page?_of_flightWagon {s : State} {b : Nat} {e : Inflight} {w : Wagon} (h : flightWagon s b e = some w) :
    ∃ p, s.page? b e.page = some p := by
  unfold flightWagon at h
  cases found : s.page? b e.page with
  | none => rw [found] at h; cases h
  | some p => exact ⟨p, rfl⟩

/-- The slot with the wagon stored. -/
def Page.storing (slot : Nat) (w : Wagon) (bytes : List Byte) (p : Page) : Page :=
  { p with slots := p.slots.set slot { w with phase := .stored, payload := bytes } }

/-- The wagon is in its slot and its waybill has been passed; the bar's room is still to be judged. -/
def wagonStored (b : Nat) (e : Inflight) (w : Wagon) (bytes : List Byte) (s : State) : State :=
  (s.modPage b e.page (Page.storing e.slot w bytes)).modIntake b Intake.passed

/-- R62, R71: a payload for which there is room, whose slot is free, is stored. -/
theorem storePayload_effect {b : Nat} {e : Inflight} {w : Wagon} {bytes : List Byte} {s : State}
    (hi : (s.bar b).intake.inflight = [e]) (hw : w.failCode = 0) (ht : slotTaken s b e = false)
    (hf : (s.bar b).intake.calderaFull = false) (hr : dramUsed s b + wagonBytes w ≤ quotaEff s b * 2 ^ 20) :
    storePayload b e w bytes s = resumeHold b (closeIfDone b e.page (notify b e.page e.bytes
      (applyQuota b (wagonStored b e w bytes s)))) := by
  unfold storePayload
  dsimp only
  rw [if_neg (not_not_intro hw), if_neg (ne_true_of_eq_false ht), makeRoom_of_room hr hf, if_neg (ne_true_of_eq_false hf),
    flightDone_of_single (by rw [intake_modPage, hi]) rfl]
  rfl

theorem wagonStored_intake (b : Nat) (e : Inflight) (w : Wagon) (bytes : List Byte) (s : State) :
    ((wagonStored b e w bytes s).bar b).intake = (s.bar b).intake.passed := by
  rw [wagonStored, intake_modIntake_self, intake_modPage]

/-- R78: storing retains no page. -/
theorem wagonStored_unretained {b : Nat} {e : Inflight} {w : Wagon} {bytes : List Byte} {s : State}
    (h : ∀ p ∈ (s.bar b).pages, p.retained = false) (n : Nat) : Unretained (wagonStored b e w bytes s) b n := by
  intro q hq _
  rw [wagonStored, pages_modIntake, pages_modPage] at hq
  have kept : q.retained = false := by
    rcases mem_modLast hq with old | ⟨p, hp, -, rfl⟩
    · exact h q old
    · exact h p hp
  rw [kept, Bool.and_false]

theorem wagonStored_page {b : Nat} {e : Inflight} {w : Wagon} {bytes : List Byte} {s : State} {p : Page}
    (h : s.page? b e.page = some p) : (wagonStored b e w bytes s).page? b e.page = some (p.storing e.slot w bytes) := by
  rw [wagonStored, page?_modIntake, page?_modPage_self _ _ _ (f := Page.storing e.slot w bytes) fun _ => rfl, h, Option.map_some]

/-- PAYLOAD_STORED takes the payload of the one wagon on its way. -/
theorem payloadStored_answers {dt : Nat} {b : Fin 16} {bytes : List Byte} {e : Inflight} {w : Wagon} {s u : State}
    {p : State → Prop} (hi : (s.bar b).intake.inflight = [e]) (hp : e.phase = 4) (hg : e.granted = true)
    (hw : flightWagon s b e = some w) (hl : bytes.length = w.payloadLen) (h : storePayload b e w bytes (s.later dt) = u)
    (hu : p { u with now := s.now + dt, pending := s.pending }) : Answers (.payloadStored dt b bytes) s p := by
  have flight : payloadFlight (s.later dt) b = some e := by
    have single : ((s.later dt).bar b).intake.inflight = [e] := hi
    rw [payloadFlight, single, List.find?_cons_of_pos (by rw [hp]; rfl)]
    exact if_pos hg
  have wagon : flightWagon (s.later dt) b e = some w := hw
  have fetch : exec (.payloadStored dt b bytes) s = execPayloadStored dt b bytes s := rfl
  unfold execPayloadStored at fetch
  refine run_answers_at fetch ?_ hu
  rw [flight]
  dsimp only
  rw [wagon]
  dsimp only
  rw [if_pos hl, h]

/-- Settles O21, by the outcomes of the check of the integrity entries and of the arrival of a payload. -/
theorem payloadsAndIntegrityEntriesArrive : Obligations.PayloadsAndIntegrityEntriesArrive := by
  refine ⟨fun dt b bytes e s hi hp hg hl hh ha hr => ?_, fun dt b bytes e s hi hp hg hl hh hr => ?_,
    fun dt b bytes e w s hi hp hg hw hl hc ht hh hf hr => ?_⟩
  · have opened := acceptHead_opens (rects := (chunks 16 (byteAt e.bytes 12).toNat bytes).map rectOf) (s := s.later dt)
      hi rfl ha
    obtain ⟨p, page, lines, rects, -⟩ := opened.page
    exact integEntriesFetched_answers hi hp hg hl (checkInteg_passes (by rwa [rectOk_later])) opened.inflight
      (opened.pageHold.trans hh) ⟨opened.inflight, p, page, lines, rects⟩
  · have small : lastFail (fieldLE e.bytes 4 4) 0 0 0 0x0F < 2 ^ 64 := by
      have := fieldLE_lt e.bytes 4 4
      unfold lastFail; omega
    have failed := waybillFailed (type := 2) (w := (0, 0, 0)) (s := s.later dt) hi rfl small
    exact integEntriesFetched_answers hi hp hg hl (checkInteg_fails (by rwa [rectOk_later])) failed.inflight
      (failed.pageHold.trans hh) ⟨failed.inflight, failed.pages, failed.lastFail⟩
  · obtain ⟨p, hpage⟩ := page?_of_flightWagon hw
    have stored := storePayload_effect (bytes := bytes) (s := s.later dt) hi hc ht hf hr
    generalize hv : wagonStored b e w bytes (s.later dt) = v at stored
    have room : RoomOnly b v (applyQuota b v) := (RoomOnly.refl b v).applyQuota
    have course := (reported_course b e.page e.page e.bytes (applyQuota b v)).trans room.intake
    obtain ⟨o, page⟩ := reported_page b e.page e.page e.bytes (applyQuota b v)
    rw [← hv, wagonStored_intake, hv] at course
    rw [resumeHold_of_free ((Intake.pageHold_of_course course).trans hh)] at stored
    refine payloadStored_answers hi hp hg hw hl stored ⟨Intake.inflight_of_course course, Intake.wqHead_of_course course, fun hn => ?_⟩
    have slot : v.page? b e.page = some (p.storing e.slot w bytes) := by rw [← hv]; exact wagonStored_page hpage
    have unretained : Unretained v b e.page := by rw [← hv]; exact wagonStored_unretained (s := s.later dt) hn _
    rw [(room.page _ unretained).2, slot] at page
    refine (congrArg (fun x : Option Page => x.bind fun p => p.slots.get? e.slot) page).trans ?_
    exact Map.get?_set_self _ _ _

end Sys2Proof.Machine
end

/-! ## Inflate engines (03_intake.md R72 to R77; 10_placement_memory.md R241; 16_faults_test.md R356) -/

section
namespace Sys2Proof.Machine
open Sys2Proof

/-! ### The slot of a page -/

/-- The wagon in a slot of a page. -/
def slotOf (s : State) (b n key : Nat) : Option Wagon := (s.page? b n).bind fun p => p.slots.get? key

/-- The slots of the pages are those of the bars. -/
theorem slotOf_congr {s t : State} (h : t.bars = s.bars) (b n key : Nat) : slotOf t b n key = slotOf s b n key := by
  unfold slotOf State.page? State.bar; rw [h]

theorem EventsOnly.slotOf {s t : State} (h : EventsOnly s t) (b n key : Nat) : slotOf t b n key = slotOf s b n key := by
  unfold Machine.slotOf; rw [h.page?]

@[simp] theorem slotOf_bumpB (s : State) (b i j m n key : Nat) : slotOf (s.bumpB m i j) b n key = slotOf s b n key := by
  unfold slotOf
  rw [page?_eq, page?_eq, State.bumpB, State.bumpBN, State.setBo]
  by_cases h : b = m
  · subst h; rw [bar_modBar_self]
  · rw [bar_modBar_of_ne _ _ h]

/-- A page with the wagon of a slot changed. -/
def Page.slotChanged (key : Nat) (f : Wagon → Wagon) (p : Page) : Page :=
  { p with slots := match p.slots.get? key with | some w => p.slots.set key (f w) | none => p.slots }

theorem page?_modSlot (b n key : Nat) (f : Wagon → Wagon) (s : State) :
    (modSlot b n key f s).page? b n = (s.page? b n).map (Page.slotChanged key f) :=
  page?_modPage_self s b n (f := Page.slotChanged key f) fun _ => rfl

theorem slots_slotChanged (key : Nat) (f : Wagon → Wagon) (p : Page) :
    (p.slotChanged key f).slots.get? key = (p.slots.get? key).map f := by
  unfold Page.slotChanged
  cases h : p.slots.get? key with
  | none => simp only [h, Option.map_none]
  | some w => simp only [Map.get?_set_self, Option.map_some]

theorem slotOf_modSlot (b n key : Nat) (f : Wagon → Wagon) (s : State) :
    slotOf (modSlot b n key f s) b n key = (slotOf s b n key).map f := by
  unfold slotOf
  rw [page?_modSlot]
  cases s.page? b n with
  | none => rfl
  | some p => exact slots_slotChanged key f p

@[simp] theorem modSlot_engines (b n key : Nat) (f : Wagon → Wagon) (s : State) : (modSlot b n key f s).engines = s.engines := by
  unfold modSlot State.modPage; split <;> rfl

@[simp] theorem modSlot_out (b n key : Nat) (f : Wagon → Wagon) (s : State) : (modSlot b n key f s).out = s.out := by
  unfold modSlot State.modPage; split <;> rfl

@[simp] theorem modSlot_dev (b n key : Nat) (f : Wagon → Wagon) (s : State) : (modSlot b n key f s).dev = s.dev := by
  unfold modSlot State.modPage; split <;> rfl

theorem engine_congr {s t : State} (h : t.engines = s.engines) (e : Nat) : t.engine e = s.engine e := by
  unfold State.engine; rw [h]

theorem dv_congr {s t : State} (h : t.dev = s.dev) (i j : Nat) : t.dv i j = s.dv i j := by
  unfold State.dv; rw [h]

/-- What an engine has in hand, by its job. -/
theorem engineWagon_eq_some {s : State} {e b n key : Nat} {w : Wagon} :
    engineWagon s e = some (b, n, key, w) ↔ (s.engine e).job = some (b, n, key) ∧ slotOf s b n key = some w := by
  unfold engineWagon slotOf
  split
  · next x y z h =>
    constructor
    · intro found
      obtain ⟨v, hv, e⟩ := Option.map_eq_some_iff.mp found
      cases e
      exact ⟨h, hv⟩
    · rintro ⟨job, slot⟩
      cases h.symm.trans job
      rw [slot]; rfl
  · next h => exact ⟨fun found => (nomatch found), fun ⟨job, _⟩ => nomatch h.symm.trans job⟩

/-! ### A wagon taken -/

@[simp] theorem wakeDomain_bars (s : State) (d : Nat) : (s.wakeDomain d).bars = s.bars := by
  unfold State.wakeDomain; split <;> rfl

@[simp] theorem wakeDomain_engines (s : State) (d : Nat) : (s.wakeDomain d).engines = s.engines := by
  unfold State.wakeDomain; split <;> rfl

theorem startEngine_engine (e : Nat) (w : Waiting) (s : State) :
    (startEngine e w s).engine e = { job := some (w.bar, w.page, w.slot), rowsDone := 0 } := by
  have moved : (startEngine e w s).engines = ((modSlot w.bar w.page w.slot (fun x => { x with
      phase := .inflating, attempts := x.attempts + 1 }) s).modEngine e fun _ => {
        job := some (w.bar, w.page, w.slot), rowsDone := 0 }).engines := wakeDomain_engines _ _
  rw [engine_congr moved, engine_modEngine_self]

theorem startEngine_slot (e : Nat) (w : Waiting) (s : State) : slotOf (startEngine e w s) w.bar w.page w.slot =
    (slotOf s w.bar w.page w.slot).map fun x => { x with phase := .inflating, attempts := x.attempts + 1 } := by
  rw [← slotOf_modSlot]
  have bars : (startEngine e w s).bars = (modSlot w.bar w.page w.slot (fun x => { x with
      phase := .inflating, attempts := x.attempts + 1 }) s).bars := wakeDomain_bars _ _
  rw [slotOf_congr bars]

/-- R241: a wagon whose key is there goes to the engine picked; nothing of its page has changed before. -/
theorem assignWagon_starts {w : Waiting} {e : Nat} {passed : Bool} {s : State}
    (hn : nextWagon s ((List.range 16).filter (fun b => (s.bar b).vb != .off && !(waitingOf s b).isEmpty)) = some w)
    (hk : w.wagon.encrypted = true → w.wagon.key.isSome = true) (hp : pickEngine s w.wagon = some (e, passed)) :
    ∃ u, slotOf u w.bar w.page w.slot = slotOf s w.bar w.page w.slot ∧ assignWagon s = startEngine e w u := by
  have keyed : ¬(w.wagon.encrypted = true ∧ w.wagon.key.isNone = true) := fun ⟨enc, absent⟩ => by
    have there := hk enc
    rw [Option.isNone_iff_eq_none.mp absent] at there
    cases there
  unfold assignWagon
  dsimp only
  rw [hn]
  dsimp only
  rw [if_neg keyed, hp]
  dsimp only
  refine ⟨_, ?_, rfl⟩
  split
  · exact (slotOf_bumpB _ _ _ _ _ _ _).trans (slotOf_congr rfl _ _ _)
  · exact slotOf_congr rfl _ _ _

/-! ### An engine freed -/

theorem freeEngine_job (e : Nat) (s : State) : ((freeEngine e s).engine e).job = none := by
  unfold freeEngine
  split
  · next h => exact Option.isNone_iff_eq_none.mp h
  · exact congrArg Engine.job (engine_modEngine_self s e fun _ => { job := none, rowsDone := 0 })

@[simp] theorem freeEngine_bars (e : Nat) (s : State) : (freeEngine e s).bars = s.bars := by
  unfold freeEngine; split <;> rfl

@[simp] theorem freeEngine_out (e : Nat) (s : State) : (freeEngine e s).out = s.out := by
  unfold freeEngine; split <;> rfl

@[simp] theorem freeEngine_dev (e : Nat) (s : State) : (freeEngine e s).dev = s.dev := by
  unfold freeEngine; split <;> rfl

theorem freeEngine_slot (e b n key : Nat) (s : State) : slotOf (freeEngine e s) b n key = slotOf s b n key := by
  rw [slotOf_congr (freeEngine_bars e s)]

/-! ### A row, and the end of the wagon -/

theorem rowDone_of_row {e b n key : Nat} {w : Wagon} {s : State}
    (h : (s.engine e).rowsDone < (wholeRows w (decodeWagon w).1).length) : rowDone e b n key w s =
      (modSlot b n key (fun x => withRows x (wholeRows w (decodeWagon w).1) ((s.engine e).rowsDone + 1)) s).modEngine e
        fun x => { x with rowsDone := (s.engine e).rowsDone + 1 } := if_pos h

theorem wagonEnd_of_decoded {e b n key : Nat} {w : Wagon} {s : State} (h : (decodeWagon w).2 = 0) : wagonEnd e b n key w s =
    freeEngine e (modSlot b n key (fun x => { x with
      phase := .done, rows := wholeRows w (decodeWagon w).1, released := (wholeRows w (decodeWagon w).1).length })
      ((s.count64 0x2101 e 1).count64 0x2120 0 (decodeWagon w).1.length)) := if_neg (not_not_intro h)

/-! ### A fault of an engine (R356) -/

/-- The entry of a retryable fault in the error log. -/
def faultEntry (cls ch : Nat) (full : Bool) (past : List Nat) : LogEntry :=
  { code := 0x1001, kind := 1, refused := full && decide (3 ≤ past.length), channel := cls * 256 + ch % 256, hist := past.length + 1 }

/-- The faults of a channel within the last second (R356). -/
def recentFaults (cls ch : Nat) (s : State) : List Nat :=
  (s.health.getD (chanKey cls ch) Health.reset).hist.filter fun a => decide (s.now ≤ a + Config.second)

/-- R356: a fault is noted in the log, in an event and in the channel's health, and nowhere else. -/
theorem noteFault_effect (cls ch : Nat) (full : Bool) (s : State) : ∃ u m,
    EventsOnly (logVolatile (faultEntry cls ch full (recentFaults cls ch s)) s) u ∧ noteFault cls ch full s = { u with health := m } ∧
      (m.getD (chanKey cls ch) Health.reset).hist = recentFaults cls ch s := by
  unfold noteFault
  refine ⟨_, _, ?_, rfl, ?_⟩
  · split
    · exact post_events _ _
    · exact EventsOnly.refl _
  · exact congrArg Health.hist (Map.getD_set_self _ _ _ _)

/-- R356: a fault that is retried. -/
theorem channelFault_retried {cls ch : Nat} {full : Bool} {s : State} (h : (recentFaults cls ch s).length < 3) :
    ∃ u m, EventsOnly (logVolatile (faultEntry cls ch full (recentFaults cls ch s)) s) u ∧
      (channelFault cls ch full s).2 = { u with health := m } := by
  obtain ⟨u, m, ev, noted, hist⟩ := noteFault_effect cls ch full s
  refine ⟨u, m.set (chanKey cls ch) { m.getD (chanKey cls ch) Health.reset with
    hist := (m.getD (chanKey cls ch) Health.reset).hist ++ [u.now] }, ev, ?_⟩
  unfold channelFault
  rw [noted]
  dsimp only
  rw [if_pos (by rw [hist]; exact h)]

/-- R77: the wagon of a faulted engine, before its third attempt, is stored again for another one. -/
theorem engineLost_of_retry {e b n key : Nat} {w : Wagon} {s : State} (h : engineWagon s e = some (b, n, key, w))
    (hp : w.phase = .inflating) (ha : w.attempts < 3) : engineLost e s =
      freeEngine e (modSlot b n key (fun x => { x with phase := .stored, tried := x.tried ++ [e] }) s) := by
  unfold engineLost
  rw [h]
  dsimp only
  rw [if_pos hp, if_neg ha.not_ge]

/-- R73: one more row of the wagon in hand. -/
theorem rowDone_inflates {e b n key : Nat} {w : Wagon} {s : State} (hw : engineWagon s e = some (b, n, key, w))
    (hr : (s.engine e).rowsDone < (wholeRows w (decodeWagon w).1).length) :
    ((rowDone e b n key w s).engine e).rowsDone = (s.engine e).rowsDone + 1 ∧
    engineWagon (rowDone e b n key w s) e =
      some (b, n, key, withRows w (wholeRows w (decodeWagon w).1) ((s.engine e).rowsDone + 1)) ∧
    (rowDone e b n key w s).out = s.out := by
  obtain ⟨job, slot⟩ := engineWagon_eq_some.mp hw
  rw [rowDone_of_row hr]
  have changed := slotOf_modSlot b n key (fun x => withRows x (wholeRows w (decodeWagon w).1) ((s.engine e).rowsDone + 1)) s
  refine ⟨?_, engineWagon_eq_some.mpr ⟨?_, ?_⟩, ?_⟩
  · rw [engine_modEngine_self]
  · rw [engine_modEngine_self]
    exact (congrArg Engine.job (engine_congr (modSlot_engines _ _ _ _ _) e)).trans job
  · rw [slot] at changed
    exact (slotOf_congr rfl b n key).trans changed
  · exact modSlot_out _ _ _ _ _

/-- R73, R74: the wagon in hand has been decoded whole. -/
theorem wagonEnd_inflates {e : Fin 32} {b n key : Nat} {w : Wagon} {s : State} (hw : engineWagon s e = some (b, n, key, w))
    (hd : (decodeWagon w).2 = 0) :
    ((wagonEnd e b n key w s).engine e).job = none ∧ (wagonEnd e b n key w s).out = s.out ∧
    (wagonEnd e b n key w s).dv 0x2101 e = (s.dv 0x2101 e + 1) % 2 ^ 64 ∧
    (wagonEnd e b n key w s).dv 0x2120 0 = (s.dv 0x2120 0 + (decodeWagon w).1.length) % 2 ^ 64 ∧
    slotOf (wagonEnd e b n key w s) b n key = some { w with
      phase := .done, rows := wholeRows w (decodeWagon w).1, released := (wholeRows w (decodeWagon w).1).length } := by
  have held : slotOf ((s.count64 0x2101 e 1).count64 0x2120 0 (decodeWagon w).1.length) b n key = some w :=
    (engineWagon_eq_some.mp hw).2
  have other : okey 0x2101 e ≠ okey 0x2120 0 := by unfold okey; have := e.isLt; omega
  rw [wagonEnd_of_decoded hd]
  refine ⟨freeEngine_job _ _, ?_, ?_, ?_, ?_⟩
  · rw [freeEngine_out, modSlot_out]; rfl
  · rw [dv_congr ((freeEngine_dev _ _).trans (modSlot_dev _ _ _ _ _)), State.count64, dv_setDv_of_ne _ _ _ _ _ _ other, State.count64,
      dv_setDv_self, Nat.mod_mod]
  · rw [dv_congr ((freeEngine_dev _ _).trans (modSlot_dev _ _ _ _ _)), State.count64, dv_setDv_self, Nat.mod_mod, State.count64,
      dv_setDv_of_ne _ _ _ _ _ _ other.symm]
  · rw [freeEngine_slot, slotOf_modSlot, held]; rfl

/-- R77, R356: a fault that is retried puts the wagon back for another engine. -/
theorem engineFault_retries {e : Fin 32} {b n key : Nat} {w : Wagon} {full : Bool} {s : State}
    (hw : engineWagon s e = some (b, n, key, w)) (hp : w.phase = .inflating) (ha : w.attempts < 3)
    (hf : (recentFaults 4 e s).length < 3) :
    let t := engineLost e (channelFault 4 e full s).2
    (t.engine e).job = none ∧ t.dv 0x2102 e = s.dv 0x2102 e ∧
    slotOf t b n key = some { w with phase := .stored, tried := w.tried ++ [e.val] } := by
  obtain ⟨job, slot⟩ := engineWagon_eq_some.mp hw
  obtain ⟨u, m, ev, noted⟩ := channelFault_retried (full := full) hf
  rw [noted]
  have held : slotOf { u with health := m } b n key = some w := (ev.slotOf b n key).trans ((slotOf_congr rfl b n key).trans slot)
  have inHand : engineWagon { u with health := m } e = some (b, n, key, w) :=
    engineWagon_eq_some.mpr ⟨(congrArg Engine.job (ev.engine e)).trans job, held⟩
  rw [engineLost_of_retry inHand hp ha]
  refine ⟨freeEngine_job _ _, ?_, ?_⟩
  · rw [dv_congr ((freeEngine_dev _ _).trans (modSlot_dev _ _ _ _ _))]
    exact ev.dv _ _ (by omega) (by decide) (by decide) (by decide)
  · rw [freeEngine_slot, slotOf_modSlot, held]; rfl

theorem engineWagon_later (s : State) (dt e : Nat) : engineWagon (s.later dt) e = engineWagon s e := rfl

/-- Settles O22, by the four commands: each comes down to a change of one slot and of one engine. -/
theorem enginesInflateWagons : Obligations.EnginesInflateWagons := by
  refine ⟨fun dt w e passed s hn hk hp => ?_, fun dt e b n key w s hw hp hr => ?_, fun dt e b n key w s hw hp hd => ?_,
    fun dt e b n key w s hs hw hp ha hf => ?_⟩
  · have started : nextWagon (s.later dt) ((List.range 16).filter fun b =>
        ((s.later dt).bar b).vb != .off && !(waitingOf (s.later dt) b).isEmpty) = some w := hn
    obtain ⟨u, slot, effect⟩ := assignWagon_starts started hk hp
    refine run_answers_at (c := .inflateStart dt) rfl effect ⟨?_, ?_, fun held => ?_⟩
    · exact congrArg Engine.job (startEngine_engine e w u)
    · exact congrArg Engine.rowsDone (startEngine_engine e w u)
    · exact (startEngine_slot e w u).trans (congrArg _ (slot.trans held))
  · have turn : exec (.inflateRowDone dt e) s = execInflateRowDone dt e s := rfl
    unfold execInflateRowDone at turn
    refine run_answers_at (u := rowDone e b n key w (s.later dt)) turn ?_
      (rowDone_inflates (s := s.later dt) hw hr)
    rw [engineWagon_later, hw]
    exact if_pos hp
  · have turn : exec (.inflateDone dt e) s = execInflateDone dt e s := rfl
    unfold execInflateDone at turn
    refine run_answers_at (u := wagonEnd e b n key w (s.later dt)) turn ?_
      (wagonEnd_inflates (s := s.later dt) hw hd)
    rw [engineWagon_later, hw]
    exact if_pos hp
  · obtain ⟨job, count, slot⟩ := engineFault_retries (full := atLimit (s.later dt) 4) (s := (s.later dt).bump 0x2102 e) hw hp ha hf
    refine run_answers_at (c := .engineFault dt e) rfl (if_pos hs) ⟨job, count.trans ?_, slot⟩
    rw [State.bump, State.bumpN, dv_setDv_self, Nat.mod_eq_of_lt ((satAdd32_lt _ _).trans (by decide))]
    rfl

end Sys2Proof.Machine
end

/-! ## Deflate jobs (03_intake.md R82 to R87) -/

section
namespace Sys2Proof.Machine
open Sys2Proof

/-! ### The jobs of a bar -/

theorem jobOf_congr {s t : State} (h : t.bars = s.bars) (b id : Nat) : jobOf t b id = jobOf s b id := by
  unfold jobOf State.bar; rw [h]

theorem id_of_jobOf {s : State} {b id : Nat} {j : Job} (h : jobOf s b id = some j) : j.id = id :=
  beq_iff_eq.mp (List.find?_some (p := fun k : Job => k.id == id) h)

theorem jobOf_modJob (s : State) (b id : Nat) {f : Job → Job} (hf : ∀ j, (f j).id = j.id) :
    jobOf (modJob b id f s) b id = (jobOf s b id).map f := by
  unfold jobOf modJob
  rw [intake_modIntake_self]
  dsimp only
  induction (s.bar b).intake.jobs with
  | nil => rfl
  | cons j js ih =>
    rw [List.map_cons]
    by_cases h : j.id = id
    · rw [if_pos h, List.find?_cons_of_pos (by rw [hf, h, beq_self_eq_true]), List.find?_cons_of_pos (by rw [h, beq_self_eq_true]),
        Option.map_some]
    · rw [if_neg h, List.find?_cons_of_neg (by simpa using h), List.find?_cons_of_neg (by simpa using h), ih]

/-- R261: idle engines take jobs; the bars and what the unit sends stay as they are. -/
theorem assignDeflate_keeps (s : State) : (assignDeflate s).bars = s.bars ∧ (assignDeflate s).out = s.out := by
  refine forAll_induct_mem (P := fun t => t.bars = s.bars ∧ t.out = s.out) (fun e _ t ht => ?_) ⟨rfl, rfl⟩
  obtain ⟨bars, out⟩ := ht
  split
  · exact ⟨bars, out⟩
  · split
    · split
      · unfold State.wakeDomain; split <;> exact ⟨bars, out⟩
      · exact ⟨bars, out⟩
    · exact ⟨bars, out⟩

theorem jobOf_assignDeflate (s : State) (b id : Nat) : jobOf (assignDeflate s) b id = jobOf s b id :=
  jobOf_congr (assignDeflate_keeps s).1 b id

theorem bar_assignDeflate (s : State) (b : Nat) : (assignDeflate s).bar b = s.bar b :=
  bar_eq_of_bars (assignDeflate_keeps s).1 b

/-- R261: the job whose engine comes free goes behind the others of its bar. -/
theorem jobOf_nextTurn (e b id : Nat) (s : State) : jobOf (nextTurn e b id s) b id = jobOf s b id := by
  unfold nextTurn
  rw [jobOf_assignDeflate]
  unfold jobOf
  rw [intake_modIntake_self]
  dsimp only
  have others : ((s.bar b).intake.jobs.filter fun j => j.id != id).find? (fun j => j.id == id) = none :=
    List.find?_eq_none.mpr fun j hj => by simpa using (List.mem_filter.mp hj).2
  have same : ((s.bar b).intake.jobs.filter fun j => j.id == id).find? (fun j => j.id == id) =
      (s.bar b).intake.jobs.find? fun j => j.id == id := by
    rw [List.find?_filter]; simp only [and_self, Bool.decide_eq_true]
  rw [List.find?_append]
  exact (congrArg (Option.or · _) others).trans same

theorem nextTurn_out (e b id : Nat) (s : State) : (nextTurn e b id s).out = s.out := (assignDeflate_keeps _).2

/-! ### Writebacks (Table 03-8a) -/

/-- Table 03-8a: the writeback goes over its descriptor with its status, and DEFL_DONE is posted. -/
theorem writeBack_effect (b idx op status : Nat) (j : Job) (s : State) : ∃ bytes : List Byte,
    bytes[1]? = some (BitVec.ofNat 8 status) ∧
    EventsOnly (s.emit (.dmaWrite (queueFn s b) (s.bo b 0x2300 0 + 64 * (idx % s.bo b 0x2300 1)) bytes))
      (writeBack b idx op status j s) := by
  unfold writeBack
  exact ⟨_, rfl, postB_events _ _ _ _ _ _⟩

/-- DJ_HEAD and the page hold of a bar are as before. -/
structure HeadKept (b : Nat) (s t : State) : Prop where
  djHead : (t.bar b).intake.djHead = (s.bar b).intake.djHead
  pageHold : (t.bar b).intake.pageHold = (s.bar b).intake.pageHold

theorem HeadKept.refl (b : Nat) (s : State) : HeadKept b s s := ⟨rfl, rfl⟩

section
variable {b : Nat} {s t u : State}

theorem HeadKept.trans (h : HeadKept b s t) (g : HeadKept b t u) : HeadKept b s u :=
  ⟨g.djHead.trans h.djHead, g.pageHold.trans h.pageHold⟩

theorem EventsOnly.headKept (h : EventsOnly s t) (b : Nat) : HeadKept b s t := ⟨h.intake_djHead b, h.intake_pageHold b⟩

theorem RoomOnly.headKept (h : RoomOnly b s t) : HeadKept b s t := ⟨h.djHead, h.pageHold⟩

theorem headKept_emit (o : Out) : HeadKept b s (s.emit o) := ⟨rfl, rfl⟩

theorem headKept_modIntake {f : Intake → Intake} (hd : ∀ q, (f q).djHead = q.djHead) (hp : ∀ q, (f q).pageHold = q.pageHold) :
    HeadKept b s (s.modIntake b f) := ⟨by rw [intake_modIntake_self, hd], by rw [intake_modIntake_self, hp]⟩

theorem headKept_modJob (id : Nat) (f : Job → Job) : HeadKept b s (modJob b id f s) :=
  headKept_modIntake (fun _ => rfl) fun _ => rfl

theorem headKept_writeBack (idx op status : Nat) (j : Job) : HeadKept b s (writeBack b idx op status j s) := by
  obtain ⟨bytes, -, ev⟩ := writeBack_effect b idx op status j s
  exact (headKept_emit _).trans (ev.headKept b)

theorem headKept_closeBuf (id : Nat) (final : Bool) : HeadKept b s (closeBuf b id final s) := by
  unfold closeBuf
  split
  · exact HeadKept.refl b s
  · split
    · exact HeadKept.refl b s
    · refine HeadKept.trans ?_ (headKept_modJob _ _)
      refine HeadKept.trans ?_ (headKept_modIntake (fun _ => rfl) fun _ => rfl)
      refine HeadKept.trans ?_ ((postB_events _ _ _ _ _ _).headKept b)
      exact (headKept_emit _).trans (headKept_emit _)

theorem headKept_cancelBuf (j : Job) : HeadKept b s (cancelBuf b j s) := by
  unfold cancelBuf
  split
  · exact headKept_closeBuf _ _
  · exact HeadKept.refl b s

/-! ### The end of a job -/

theorem jobs_dropJob (b id : Nat) (s : State) :
    ((dropJob b id s).bar b).intake.jobs = (s.bar b).intake.jobs.filter fun j => j.id != id := by
  unfold dropJob; rw [intake_modIntake_self]; rfl

theorem headKept_dropJob (id : Nat) : HeadKept b s (dropJob b id s) := by
  unfold dropJob
  exact ⟨by rw [intake_modIntake_self]; rfl, by rw [intake_modIntake_self]; rfl⟩

theorem jobs_releaseAudit (j : Job) : ((releaseAudit b j s).bar b).intake.jobs = (s.bar b).intake.jobs ∧
    HeadKept b s (releaseAudit b j s) := by
  unfold releaseAudit
  split
  · have room := (RoomOnly.refl b (s.modIntake b fun q => { q with audit := none })).applyQuota
    refine ⟨by rw [room.jobs, intake_modIntake_self], HeadKept.trans ?_ room.headKept⟩
    exact headKept_modIntake (fun _ => rfl) fun _ => rfl
  · exact ⟨rfl, HeadKept.refl b s⟩

/-- R82: a job that ends is gone from its bar. -/
theorem endJob_drops {op status : Nat} {j : Job} (h : (s.bar b).intake.pageHold = false) :
    jobOf (endJob b op status j s) b j.id = none ∧ HeadKept b s (endJob b op status j s) := by
  have dropped := jobs_dropJob b j.id (writeBack b j.descIdx op status j s)
  have kept : HeadKept b s (dropJob b j.id (writeBack b j.descIdx op status j s)) :=
    (headKept_writeBack _ _ _ _).trans (headKept_dropJob _)
  generalize hv : dropJob b j.id (writeBack b j.descIdx op status j s) = v at dropped kept
  obtain ⟨jobs, released⟩ := jobs_releaseAudit (b := b) (s := v) j
  have room := (RoomOnly.refl b (releaseAudit b j v)).retryRoom
  have head := kept.trans (released.trans room.headKept)
  have effect : endJob b op status j s = assignDeflate (retryRoom b (releaseAudit b j v)) := by
    unfold endJob resumeIntake
    rw [hv, resumeHold_of_free (head.pageHold.trans h)]
  rw [effect, jobOf_assignDeflate]
  refine ⟨?_, by rw [bar_assignDeflate, head.djHead], by rw [bar_assignDeflate, head.pageHold]⟩
  unfold jobOf
  rw [room.jobs, jobs, dropped, List.find?_filter]
  exact List.find?_eq_none.mpr fun k _ hk => by simp at hk

end

end Sys2Proof.Machine
end

/-! ## Descriptors of deflate jobs (03_intake.md R82, R86) -/

section
namespace Sys2Proof.Machine
open Sys2Proof

/-! ### Descriptors taken -/

/-- The descriptor at DJ_HEAD has been taken. -/
def taken (b : Nat) (s : State) : State := s.modIntake b fun q => { q with djHead := ((s.bar b).intake.djHead + 1) % 2 ^ 32 }

theorem intake_taken (b : Nat) (s : State) :
    ((taken b s).bar b).intake = { (s.bar b).intake with djHead := ((s.bar b).intake.djHead + 1) % 2 ^ 32 } := by
  rw [taken, intake_modIntake_self]

theorem jobOf_taken (b id : Nat) (s : State) : jobOf (taken b s) b id = jobOf s b id := by
  unfold jobOf; rw [intake_taken]

theorem startStatus_taken (b : Nat) (s : State) (d : List Byte) : startStatus (taken b s) b d = startStatus s b d := by
  unfold startStatus; rw [intake_taken]

/-- The job that a START descriptor opens. -/
def startedJob (b : Nat) (desc : List Byte) (s : State) : Job :=
  let j := jobFrom (s.bar b).intake.djHead desc
  { j with
    start := if j.source = 1 then s.dv 0x6124 (4 + j.srcAddr) else 0
    srcLen := if j.source = 2 then (match (s.bar b).intake.audit with | some a => a.size | none => 0) else j.srcLen }

/-- No job of the bar has the id of an acceptable START descriptor. -/
theorem jobOf_none_of_startStatus {s : State} {b : Nat} {d : List Byte} (h : startStatus s b d = 0) :
    jobOf s b (fieldLE d 4 4) = none := by
  unfold startStatus at h
  dsimp only at h
  split at h
  · cases h
  · next free =>
    have fresh : ((s.bar b).intake.jobs.any fun k => k.id == (jobFrom 0 d).id) = false := by
      rw [Bool.or_eq_true, not_or] at free
      exact Bool.eq_false_iff.mpr free.2
    exact List.find?_eq_none.mpr fun k hk he => by
      rw [List.any_eq_false] at fresh
      exact fresh k hk he

/-- What a descriptor asks for is done, when DJ_HEAD has not reached DJ_TAIL. -/
theorem ready_of_pending {s : State} {b : Nat} {p : Prop} (hd : (s.bar b).intake.djHead ≠ (s.bar b).intake.djTail) (hp : ¬p) :
    ¬((s.bar b).intake.djHead = (s.bar b).intake.djTail ∨ p) := fun h => h.elim hd hp

/-- DJ_START with an acceptable descriptor. -/
theorem djStart_opens {dt : Nat} {b : Fin 16} {desc : List Byte} {s : State} (hl : desc.length = 64)
    (hd : (s.bar b).intake.djHead ≠ (s.bar b).intake.djTail) (hc : descCrc desc = true) (ho : byteAt desc 0 = 1)
    (hs : startStatus s b desc = 0) :
    Answers (.djStart dt b desc) s fun t => (t.bar b).intake.djHead = ((s.bar b).intake.djHead + 1) % 2 ^ 32 ∧ t.out = s.out ∧
      jobOf t b (fieldLE desc 4 4) = some (startedJob b desc (s.later dt)) := by
  let r := taken b (s.later dt)
  let u := r.modIntake b fun q => { q with jobs := q.jobs ++ [startedJob b desc (s.later dt)] }
  have start : exec (.djStart dt b desc) s = execDjStart dt b desc s := rfl
  unfold execDjStart at start
  rw [if_pos hl] at start
  have intake : (u.bar b).intake = { (r.bar b).intake with jobs := (r.bar b).intake.jobs ++ [startedJob b desc (s.later dt)] } :=
    intake_modIntake_self _ _ _
  have passes : startStatus (takeDesc b (s.later dt)).2 b desc = 0 := (startStatus_taken b (s.later dt) desc).trans hs
  refine run_answers_at (u := assignDeflate u) start ?_ ⟨?_, ?_, ?_⟩
  · have op : (byteAt desc 0).toNat = 1 := by rw [ho]; rfl
    dsimp only
    rw [if_neg (ready_of_pending (s := s.later dt) hd (by rw [op]; rintro ⟨-, h | h⟩ <;> cases h)), hc, op]
    refine (if_neg ?_).trans rfl
    exact not_not_intro passes
  · refine (congrArg (fun x : Bar => x.intake.djHead) (bar_assignDeflate u b)).trans ?_
    rw [intake]
    exact congrArg Intake.djHead (intake_taken _ _)
  · exact (assignDeflate_keeps u).2
  · refine (jobOf_assignDeflate u b _).trans ?_
    unfold jobOf
    rw [intake, List.find?_append]
    have none : jobOf r b (fieldLE desc 4 4) = none := (jobOf_taken _ _ _).trans (jobOf_none_of_startStatus (s := s.later dt) hs)
    refine (congrArg (Option.or · _) none).trans ?_
    exact List.find?_cons_of_pos (p := fun k : Job => k.id == fieldLE desc 4 4) (beq_self_eq_true _)

/-- DJ_START with a wrong CRC. -/
theorem djStart_refused {dt : Nat} {b : Fin 16} {desc : List Byte} {s : State} (hl : desc.length = 64)
    (hd : (s.bar b).intake.djHead ≠ (s.bar b).intake.djTail) (hc : descCrc desc = false) :
    Answers (.djStart dt b desc) s fun t => (t.bar b).intake.djHead = ((s.bar b).intake.djHead + 1) % 2 ^ 32 ∧
      ∃ bytes os, t.out = s.out ++ Out.dmaWrite (queueFn s b)
        (s.bo b 0x2300 0 + 64 * ((s.bar b).intake.djHead % s.bo b 0x2300 1)) bytes :: os ∧ bytes[1]? = some 3 := by
  let j := jobFrom (s.bar b).intake.djHead desc
  have start : exec (.djStart dt b desc) s = execDjStart dt b desc s := rfl
  unfold execDjStart at start
  rw [if_pos hl] at start
  obtain ⟨bytes, status, ev⟩ := writeBack_effect b (s.bar b).intake.djHead (byteAt desc 0).toNat 3 j (taken b (s.later dt))
  refine run_answers_at (u := writeBack b (s.bar b).intake.djHead (byteAt desc 0).toNat 3 j (taken b (s.later dt))) start ?_
    ⟨?_, bytes, ?_⟩
  · dsimp only
    rw [if_neg (ready_of_pending (s := s.later dt) hd (by rw [hc]; exact fun h => Bool.false_ne_true h.1)), hc]
    refine if_pos ?_
    exact (by decide : (3 : Nat) ≠ 0)
  · exact (ev.headKept b).djHead.trans (congrArg Intake.djHead (intake_taken _ _))
  · obtain ⟨os, out⟩ := ev.out
    refine ⟨os, out.trans ?_, status⟩
    rw [taken, queueFn_modIntake, bo_modIntake, bo_modIntake]
    exact List.append_assoc _ _ _

/-- DJ_RESUME of a stopped job. -/
theorem djResume_resumes {dt : Nat} {b : Fin 16} {desc : List Byte} {j : Job} {s : State} (hl : desc.length = 64)
    (hd : (s.bar b).intake.djHead ≠ (s.bar b).intake.djTail) (hc : descCrc desc = true) (ho : byteAt desc 0 = 2)
    (hj : jobOf s b (fieldLE desc 4 4) = some j) (hp : j.phase = 1) (hr : outOk true desc = true) :
    Answers (.djResume dt b desc) s fun t => t.out = s.out ∧
      jobOf t b (fieldLE desc 4 4) = some { j with
        outAddr := fieldLE desc 24 8, outLen := fieldLE desc 32 8, cookie := fieldLE desc 48 8
        descIdx := (s.bar b).intake.djHead, op := 2, phase := 0, produced := 0, inCrc := 0xFFFFFFFF, window := [] } := by
  have resume : exec (.djResume dt b desc) s = execDjResume dt b desc s := rfl
  unfold execDjResume at resume
  rw [if_pos hl] at resume
  have found : jobOf (s.later dt) b (fieldLE desc 4 4) = some j := hj
  refine run_answers_at (u := assignDeflate (resumeJob b (s.bar b).intake.djHead desc (taken b (s.later dt)))) resume ?_ ⟨?_, ?_⟩
  · have op : (byteAt desc 0).toNat = 2 := by rw [ho]; rfl
    dsimp only
    rw [if_neg (ready_of_pending (s := s.later dt) hd (by rw [op]; exact fun h => h.2 rfl)), hc, found]
    exact (if_neg Bool.false_ne_true).trans (if_pos ⟨hp, hr⟩)
  · exact (assignDeflate_keeps _).2
  · refine (jobOf_assignDeflate _ _ _).trans ?_
    unfold resumeJob
    refine (jobOf_modJob _ _ _ ?_).trans ?_
    · exact fun _ => rfl
    · rw [jobOf_taken, found]; rfl

/-- The job that a CANCEL names, as closing its buffer leaves it, and the state after its own writeback (R82). -/
def cancelState (b : Nat) (j : Job) (s : State) : Job × State :=
  let s := cancelBuf b j s
  let j := (jobOf s b j.id).getD j
  (j, if j.phase = 1 then s else writeBack b j.descIdx j.op 0x02 j s)

theorem cancelState_id (b : Nat) (j : Job) (s : State) : (cancelState b j s).1.id = j.id := by
  unfold cancelState
  dsimp only
  cases h : jobOf (cancelBuf b j s) b j.id with
  | none => rfl
  | some k => exact id_of_jobOf h

theorem cancelState_headKept (b : Nat) (j : Job) (s : State) : HeadKept b s (cancelState b j s).2 := by
  unfold cancelState
  dsimp only
  split
  · exact headKept_cancelBuf j
  · exact (headKept_cancelBuf j).trans (headKept_writeBack _ _ _ _)

/-- DJ_CANCEL of a job of the bar. -/
theorem djCancel_ends {dt : Nat} {b : Fin 16} {desc : List Byte} {j : Job} {s : State} (hl : desc.length = 64)
    (hd : (s.bar b).intake.djHead ≠ (s.bar b).intake.djTail) (hc : descCrc desc = true) (ho : byteAt desc 0 = 3)
    (hj : jobOf s b (fieldLE desc 4 4) = some j) (hh : (s.bar b).intake.pageHold = false) :
    Answers (.djCancel dt b desc) s fun t => jobOf t b (fieldLE desc 4 4) = none ∧
      (t.bar b).intake.djHead = ((s.bar b).intake.djHead + 1) % 2 ^ 32 := by
  let c := cancelState b j (taken b (s.later dt))
  have cancel : exec (.djCancel dt b desc) s = execDjCancel dt b desc s := rfl
  unfold execDjCancel at cancel
  rw [if_pos hl] at cancel
  have found : jobOf (s.later dt) b (fieldLE desc 4 4) = some j := hj
  have kept : HeadKept b (taken b (s.later dt)) c.2 := cancelState_headKept _ _ _
  have free : (c.2.bar b).intake.pageHold = false :=
    kept.pageHold.trans ((congrArg Intake.pageHold (intake_taken _ _)).trans hh)
  obtain ⟨none, ended⟩ := endJob_drops (op := 3) (status := 0x02)
    (j := { c.1 with descIdx := (s.bar b).intake.djHead, cookie := fieldLE desc 48 8 }) free
  have id : c.1.id = fieldLE desc 4 4 := (cancelState_id _ _ _).trans (id_of_jobOf hj)
  refine run_answers_at cancel ?_ ⟨(congrArg (jobOf _ b) id).symm.trans none,
    (kept.trans ended).djHead.trans (congrArg Intake.djHead (intake_taken _ _))⟩
  have op : (byteAt desc 0).toNat = 3 := by rw [ho]; rfl
  dsimp only
  rw [if_neg (ready_of_pending (s := s.later dt) hd (by rw [op]; exact fun h => h.2 rfl)), hc]
  refine (if_neg Bool.false_ne_true).trans ?_
  rw [show (jobFrom (takeDesc b (s.later dt)).1 desc).id = fieldLE desc 4 4 from rfl, found]
  rfl

end Sys2Proof.Machine
end

/-! ## Blocks, buffers and captures of deflate jobs (03_intake.md R83 to R87) -/

section
namespace Sys2Proof.Machine
open Sys2Proof

/-! ### Blocks (R83, R84, R86) -/

/-- The source of a job that reads host memory is what has been read. -/
theorem blockSource_of_host {s : State} {b : Nat} {j : Job} {src : List Byte} (hs : j.source = 0) (hn : src ≠ [])
    (hl : src.length ≤ 65536) (hc : j.consumed + src.length < j.srcLen) : blockSource s b j src = some (src, src.length, false) := by
  have some : ¬(src.isEmpty = true ∨ 65536 < src.length ∨ j.srcLen < j.consumed + src.length) := by
    rintro (h | h | h)
    · exact hn (List.isEmpty_iff.mp h)
    · omega
    · omega
  unfold blockSource
  rw [hs, if_neg Nat.zero_ne_one]
  dsimp only
  rw [if_neg (by decide : ¬0 = 2), if_neg some]
  rw [decide_eq_false hc.ne]

/-- R83: a block whose encoding verifies needs no stored form. -/
theorem jobBlock_of_good {e b : Nat} {j : Job} {src enc stored : List Byte} {units : Nat} {last : Bool} {s : State}
    (hg : blockGood j src enc last = true) (hj : jobOf s b j.id = some j) (hs : j.stop = true) :
    ∃ m, jobBlock e b j src enc stored units last s = stopBlock b j src enc units last { s with deficit := m } := by
  unfold jobBlock
  simp only [hg, if_true, hj, Option.getD_some, Bool.not_true, Bool.false_and, Bool.false_eq_true, if_false, hs]
  exact ⟨_, rfl⟩

/-- R86: a block for which there is room is written, and its source is consumed. -/
theorem stopBlock_writes {b : Nat} {j : Job} {src enc : List Byte} {units : Nat} {s : State} (hj : jobOf s b j.id = some j)
    (hr : j.produced + enc.length + 5 ≤ j.outLen) :
    (stopBlock b j src enc units false s).out = s.out ++ [.dmaWrite (queueFn s b) (j.outAddr + j.produced) enc] ∧
    jobOf (stopBlock b j src enc units false s) b j.id = some { j with
      consumed := j.consumed + units, produced := j.produced + enc.length, inCrc := crc32cReg j.inCrc src
      window := (j.window ++ src).drop ((j.window ++ src).length - 32768) } := by
  unfold stopBlock
  rw [if_neg hr.not_gt]
  dsimp only
  rw [if_neg Bool.false_ne_true]
  refine ⟨rfl, ?_⟩
  unfold blockWritten
  refine (jobOf_modJob _ _ _ ?_).trans ?_
  · exact fun _ => rfl
  · refine (congrArg (Option.map _) (jobOf_modJob _ _ _ ?_)).trans ?_
    · exact fun _ => rfl
    · refine (congrArg (fun k => Option.map _ (Option.map _ k)) ((jobOf_congr rfl b j.id).trans hj)).trans rfl

theorem deflateBlockDone_writes {dt : Nat} {e : Fin 6} {src enc stored : List Byte} {b id : Nat} {j : Job} {s : State}
    (he : s.deflaters.get? e = some (b, id)) (hj : jobOf s b id = some j) (hs : j.source = 0) (hp : j.stop = true) (hn : src ≠ [])
    (hl : src.length ≤ 65536) (hc : j.consumed + src.length < j.srcLen) (hg : blockGood j src enc false = true)
    (hr : j.produced + enc.length + 5 ≤ j.outLen) :
    Answers (.deflateBlockDone dt e src ⟨enc, stored⟩) s fun t =>
      t.out = s.out ++ [.dmaWrite (queueFn s b) (j.outAddr + j.produced) enc] ∧
      jobOf t b id = some { j with
        consumed := j.consumed + src.length, produced := j.produced + enc.length, inCrc := crc32cReg j.inCrc src
        window := (j.window ++ src).drop ((j.window ++ src).length - 32768) } := by
  have turn : exec (.deflateBlockDone dt e src ⟨enc, stored⟩) s = execDeflateBlockDone dt e src ⟨enc, stored⟩ s := rfl
  unfold execDeflateBlockDone at turn
  obtain rfl : j.id = id := id_of_jobOf hj
  have onEngine : (s.later dt).deflaters.get? e = some (b, j.id) := he
  have found : jobOf (s.later dt) b j.id = some j := hj
  let u := modJob b j.id (fun j => { j with dropped := j.dropped + 0 }) (s.later dt)
  have held : jobOf u b j.id = some j :=
    (jobOf_modJob (s.later dt) b j.id (f := fun j => { j with dropped := j.dropped + 0 }) fun _ => rfl).trans (congrArg _ found)
  have source : blockSource u b j src = some (src, src.length, false) := blockSource_of_host hs hn hl hc
  obtain ⟨m, block⟩ := jobBlock_of_good (e := e) (stored := stored) (units := src.length) hg held hp
  obtain ⟨out, job⟩ := stopBlock_writes (src := src) (units := src.length) (s := { u with deficit := m })
    ((jobOf_congr rfl b j.id).trans held) hr
  rw [← block] at job out
  refine run_answers_at turn (u := nextTurn e b j.id (jobBlock e b j src enc stored src.length false u)) ?_
    ⟨(nextTurn_out _ _ _ _).trans (out.trans ?_), (jobOf_nextTurn _ _ _ _).trans job⟩
  · rw [onEngine]
    dsimp only
    rw [found]
    dsimp only
    rw [if_neg (show ¬j.source = 1 by rw [hs]; decide)]
    change (match blockSource u b j src with
      | some (bytes, units, last) => nextTurn e b j.id (jobBlock e b j bytes enc stored units last u)
      | none => u) = _
    rw [source]
  · have fn : queueFn u b = queueFn s b := queueFn_modIntake (s.later dt) b _ b
    exact congrArg (fun k => s.out ++ [Out.dmaWrite k (j.outAddr + j.produced) enc]) fn

/-! ### Buffers and captures (R85, R87) -/

/-- R85: an entry made available while no job of the bar fills the ring. -/
theorem chainTailEffect_of_unused {row : Row} {b d : Nat} {w : Slot} {x : Nat × Nat} {s : State}
    (h : ∀ j ∈ (s.bar b).intake.jobs, j.stop = true ∨ j.chain ≠ d) :
    chainTailEffect [x] row (some b) d w s = (stOK, assignDeflate (s.modIntake b fun q => { q with
      chainTail := q.chainTail.set d w.toNat
      chainBufs := q.chainBufs.set (d * 2 ^ 32 + (s.bar b).intake.chainTail.getD d 0 % 2 ^ 32) x })) := by
  unfold chainTailEffect onBar
  dsimp only [List.foldl]
  have none : ((s.bar b).intake.jobs.filter fun j => !j.stop && j.chain == d) = [] :=
    List.filter_eq_nil_iff.mpr fun j hj used => by
      rw [Bool.and_eq_true, Bool.not_eq_true', beq_iff_eq] at used
      rcases h j hj with stop | other
      · exact Bool.false_ne_true (used.1.symm.trans stop)
      · exact other used.2
  rw [intake_modIntake_self, none]
  rfl

theorem chainTail_opens {dt : Nat} {door : Door} {k : Fin 4} {v w : Slot} {a : BitVec 64} {len : BitVec 32} {b d : Nat} {s : State}
    (hw : Written s door 0x2302 k v (some b) d w) (hj : ∀ j ∈ (s.bar b).intake.jobs, j.stop = true ∨ j.chain ≠ d) :
    Answers (.chainTail dt door k v [(a, len)]) s fun t => (t.bar b).intake.chainTail.get? d = some w.toNat ∧
      (t.bar b).intake.chainBufs.get? (d * 2 ^ 32 + (s.bar b).intake.chainTail.getD d 0 % 2 ^ 32) =
        some (a.toNat, len.toNat) := by
  have effect := (hw.later dt).through (chainTailEffect [(a.toNat, len.toNat)]) _ fun _ => chainTailEffect_of_unused (s := s.later dt) hj
  refine run_answers_at (c := .chainTail dt door k v [(a, len)]) rfl effect ⟨?_, ?_⟩
  · refine (congrArg (fun x : Bar => x.intake.chainTail.get? d) (bar_assignDeflate _ b)).trans ?_
    rw [intake_modIntake_self]
    exact Map.get?_set_self _ _ _
  · refine (congrArg (fun x : Bar => x.intake.chainBufs.get? _) (bar_assignDeflate _ b)).trans ?_
    rw [intake_modIntake_self]
    exact Map.get?_set_self _ _ _

/-- R87: the capture asked for. -/
def capture (s : State) (b n pl : Nat) : Audit :=
  { plane := pl, page := n, size := match s.page? b n with | some p => auditSize s b pl p.lines | none => 0, ready := false, data := [] }

theorem capture_later (s : State) (dt b n pl : Nat) : capture (s.later dt) b n pl = capture s b n pl := rfl

theorem screeningBegun_later (s : State) (dt b n : Nat) : screeningBegun (s.later dt) b n = screeningBegun s b n := rfl

theorem auditEffect_captures {row : Row} {b d n pl : Nat} {w : Slot} {s : State} (hn : n = bitsN w.toNat 63 32)
    (hpl : pl = bitsN w.toNat 2 0) (hb : screeningBegun s b n = false) (hu : s.inUse pl = true)
    (hs : (capture s b n pl).size ≤ 2 ^ 32) :
    auditEffect row (some b) d w s = (stOK, applyQuota b ((dropAudit b s).modIntake b fun q => { q with
      audit := some (capture s b n pl) })) := by
  unfold auditEffect onBar
  dsimp only
  rw [← hn, ← hpl, hb, if_neg Bool.false_ne_true, hu]
  refine (if_neg ?_).trans rfl
  rintro (h | h)
  · exact hs.not_gt h
  · exact Bool.false_ne_true h

theorem auditReq_captures {dt : Nat} {door : Door} {v w : Slot} {b d n pl : Nat} {s : State}
    (hw : Written s door 0x2303 0 v (some b) d w) (hn : n = bitsN w.toNat 63 32) (hpl : pl = bitsN w.toNat 2 0)
    (hb : screeningBegun s b n = false) (hu : s.inUse pl = true) (hs : (capture s b n pl).size ≤ 2 ^ 32) :
    Answers (.auditReq dt door v) s fun t => (t.bar b).intake.audit = some (capture s b n pl) := by
  rw [← screeningBegun_later s dt] at hb
  rw [← capture_later s dt] at hs
  have effect := (hw.later dt).through auditEffect _ fun _ => auditEffect_captures (s := s.later dt) hn hpl hb hu hs
  rw [capture_later] at effect
  generalize hv : (dropAudit b (s.later dt)).modIntake b _ = u at effect
  have asked : (u.bar b).intake.audit = some (capture s b n pl) := by rw [← hv, intake_modIntake_self]
  have room := (RoomOnly.refl b u).applyQuota
  generalize applyQuota b u = t at effect room
  exact run_answers_timeless (c := .auditReq dt door v) (fun _ _ _ h => h) rfl effect (room.audit.trans asked)

/-- Settles O23, by the six commands: a job is opened, renewed, moved on or dropped, and engines only take idle jobs beyond that. -/
theorem deflateJobsRun : Obligations.DeflateJobsRun := by
  refine ⟨fun dt b desc s hl hd hc ho hs => ?_, fun dt b desc s hl hd hc => djStart_refused hl hd hc,
    fun dt b desc j s hl hd hc ho hj hp hr => djResume_resumes hl hd hc ho hj hp hr,
    fun dt b desc j s hl hd hc ho hj hh _ => djCancel_ends hl hd hc ho hj hh,
    fun dt e src enc stored b id j s he hj hs hp hn hl hc hg hr => deflateBlockDone_writes he hj hs hp hn hl hc hg hr,
    fun dt door k v a len b d w s hw hj => chainTail_opens hw hj, fun dt door v b d w n pl size s hw hn hpl hb hu hz hs => ?_⟩
  · obtain ⟨t, step, head, out, job⟩ := djStart_opens (dt := dt) hl hd hc ho hs
    exact ⟨t, step, head, out, _, job, rfl, rfl, rfl, rfl, rfl, rfl⟩
  · subst hz
    exact auditReq_captures hw hn hpl hb hu hs

end Sys2Proof.Machine
end

/-! ## Screening (04_screening.md R104, R105; 13_control_cores.md R302, R306): a token that wakes a thread

A token of a captured page can complete the capture; its AUDIT_READY may wake a thread, whose pre-emption is counted in 9004.01. The
statement takes the geyser from whatever the placement lists, and the table of objects is keyed by `okey`, so that a state may list a
number at which the counter of geyser decisions (3012) is that very entry. The device's 32 geysers are far below such a number. -/

section
namespace Sys2Proof.Machine
open Sys2Proof

/-- The subindex at which the entry of 3012 is that of 9004.01, the count of pre-emptions into the reserved window (R306). -/
def strayGeyser : Nat := okey 0x9004 1 - okey 0x3012 0

/-- Span 0 of plane 0, inflated as far as line 0 needs. -/
def strayWagon : Wagon :=
  { plane := 0, span := 0, band := 0, lines := 1, format := 1, encrypted := false, hasCrc := false, payloadLen := 0, inflatedCrc := 0
    iv := [], affinity := 0, cookie := 0, aad := [], key := none, phase := .done, payload := [], rows := [], released := 1, attempts := 0
    tried := [], failCode := 0, failFrom := none, withheld := false }

/-- Page 1 of one line, of which plane 1 is screened and plane 0 is not. -/
def strayPage : Page :=
  { num := 1, lines := 1, noRetain := false, source := none, rects := [], slots := [(0, strayWagon)], isOpen := false, status := 0
    flip := none, flipTime := 0, started := false, printed := false, cut := false, lateJudged := false, gapBefore := 0, endTime := 0
    endLine := 0, integPass := 0, integFail := 0, bandFirst := 0, bandLast := 0, bandChanges := 0, bandLine := none, residual := 0
    skipped := 0, withheldLines := 0, lastLine := 0, retained := false, pins := 0, webMark := 0, tokens := [], logical := []
    screened := [(lineKey 1 0 0, true)], counted := [], genWithheld := false, under := none, actKeys := [], moved := [], store := 0
    lineGen := [] }

/-- Core 0, the only one in service, runs thread 0 and has every window taken; thread 1, of the group with the greater deficit, waits in
PREEMPT mode for the class of AUDIT_READY. -/
def busyCore : Sched :=
  { Sched.reset with
    threads := [(0, { Thread.reset with st := .running }), (1, { Thread.reset with st := .waiting, group := 1, mask := 1, wake := 1 })] ++
      (List.range 64).map (fun k => (2 + k, { Thread.reset with st := .waiting, window := some 0 }))
    cores := [(0, { CoreSt.reset with thread := some 0 })]
    deficit := [(1, 1)] }

/-- Bar 0 has span 0 and the head on port 0; its page is captured in plane 1, and the placement gives its tokens to a geyser that the
device does not have. -/
def strayPlacement : State :=
  { State.reset with
    devState := .print
    dev := [(okey 0x1206 0, .slot 0x100), (okey 0x3000 0, .slot 1), (okey 0x3200 0, .slot 0x80000000), (okey 0x9000 0, .slot 1),
      (okey 0x9020 1, .slot 0x80010000)]
    bars := [(0, { Bar.reset with
      vb := .printing
      pages := [strayPage]
      intake := { Intake.reset with audit := some { plane := 1, page := 1, size := 0, ready := false, data := [] } } })]
    power := { Power.reset with domains := [(strayGeyser / 4, 2)] }
    place := { Place.reset with spans := [(0, [(strayGeyser, 64)])], owner := [(0, 0)] }
    sched := busyCore }

theorem strayPlacement_page :
    tokenPage (strayPlacement.later 5) 0 0 0 5 (tokenCols strayPlacement 0 0 5) = some strayPage := by decide +kernel

theorem strayPlacement_turn :
    let u := handover 0 strayPage 0 0 (strayPlacement.later 5)
    tokenGeyser u 0 1 0 0 0 5 = some strayGeyser ∧ u.domainOn (strayGeyser / 4) = true ∧
      geyserTurn u strayGeyser 0 (lineOrder u 0 strayPage 0 0 0) = true := by decide +kernel

/-- The token adds one to the entry, and the pre-emption by thread 1 another. -/
theorem strayPlacement_counted :
    leaves (.screenToken 5 0 0 0 5) strayPlacement (fun t => t.dv 0x3012 strayGeyser == 2) = true := by decide +kernel

/-- Refutes O24 (the clause of SCREEN_TOKEN): in `strayPlacement` the entry that should go from 0 to 1 goes to 2. The state is not one
that the placer makes: no span is given to a geyser beyond 31. -/
theorem not_screeningDecidesDots : ¬ Obligations.ScreeningDecidesDots := by
  unfold Obligations.ScreeningDecidesDots
  rintro ⟨token, -⟩
  obtain ⟨geyser, powered, turn⟩ := strayPlacement_turn
  obtain ⟨t, ⟨counted, -⟩, twice⟩ :=
    (token 5 0 0 0 5 strayPage 80 strayGeyser strayPlacement (by decide +kernel) (by decide +kernel) strayPlacement_page
      (by decide +kernel) (by decide +kernel) (by decide +kernel) rfl (by decide +kernel) geyser powered turn).both
      strayPlacement_counted
  have before : strayPlacement.dv 0x3012 strayGeyser = 0 := by decide +kernel
  rw [before] at counted
  simp [counted] at twice

end Sys2Proof.Machine
end

/-! ## What leaves the trigger as it was (06_firing_timeline.md R134 to R139) -/

section
namespace Sys2Proof.Machine
open Sys2Proof

/-! ### State operations

The lemmas read the trigger through `quiet`, so that what the operations of Laws/Quiet leave as it was counts here as well. -/

section
variable (k n b p line : Nat) (s : State)

@[simp] theorem ite_trigger (c : Prop) [Decidable c] (s t : State) :
    (if c then s else t).quiet.trig = if c then s.quiet.trig else t.quiet.trig := by split <;> rfl

@[simp] theorem forAll_trigger {α : Type} (xs : List α) (f : α → State → State)
    (h : ∀ x t, (f x t).quiet.trig = t.quiet.trig) : (forAll xs f s).quiet.trig = s.quiet.trig :=
  forAll_keeps (fun u => u.quiet.trig) xs f s h

@[simp] theorem modPort_trigger (f) : (s.modPort p f).quiet.trig = s.quiet.trig := rfl
@[simp] theorem modAxis_trigger (f) : (s.modAxis k f).quiet.trig = s.quiet.trig := rfl
@[simp] theorem modCam_trigger (f) : (s.modCam k f).quiet.trig = s.quiet.trig := rfl
@[simp] theorem modCmp_trigger (f) : (s.modCmp k f).quiet.trig = s.quiet.trig := rfl
@[simp] theorem modDray_trigger (f) : (s.modDray k f).quiet.trig = s.quiet.trig := rfl
@[simp] theorem modSupply_trigger (f) : (s.modSupply k f).quiet.trig = s.quiet.trig := rfl
@[simp] theorem modMram_trigger (f) : (s.modMram f).quiet.trig = s.quiet.trig := rfl
@[simp] theorem modPair_trigger (f) : (s.modPair f).quiet.trig = s.quiet.trig := rfl
@[simp] theorem trimBegin_trigger : (s.trimBegin n).quiet.trig = s.quiet.trig := rfl
@[simp] theorem draw_trigger : s.draw.2.quiet.trig = s.quiet.trig := rfl
@[simp] theorem webSlow_trigger (w) : State.trig (State.quiet { s with webSlow := w }) = s.quiet.trig := rfl
@[simp] theorem health_trigger (h) : State.trig (State.quiet { s with health := h }) = s.quiet.trig := rfl
@[simp] theorem place_trigger (q) : State.trig (State.quiet { s with place := q }) = s.quiet.trig := rfl

/-! ### Reins, the log and faults -/

@[simp] theorem standbyOutputs_trigger : (standbyOutputs s).quiet.trig = s.quiet.trig := rfl
@[simp] theorem ownMirror_trigger : (ownMirror s).quiet.trig = s.quiet.trig := rfl
@[simp] theorem dropWrites_trigger : (dropWrites s).quiet.trig = s.quiet.trig := rfl
@[simp] theorem logVolatile_trigger (e : LogEntry) : (logVolatile e s).quiet.trig = s.quiet.trig := rfl

@[simp] theorem releaseReins_trigger (cause : Nat) : (releaseReins cause s).quiet.trig = s.quiet.trig := by
  simp [releaseReins, abandonSearches, abandonSearch]

@[simp] theorem encoderJudge_trigger : (encoderJudge s).quiet.trig = s.quiet.trig := by
  simp [encoderJudge]

@[simp] theorem logBoth_trigger (e : LogEntry) : (logBoth e s).quiet.trig = s.quiet.trig := by
  simp [logBoth, logMram]

@[simp] theorem setCause_trigger (bits : Nat) : (setCause bits s).quiet.trig = s.quiet.trig := by
  simp [setCause]

@[simp] theorem deviceFault_trigger (code : Nat) : (deviceFault code s).quiet.trig = s.quiet.trig := by
  simp [deviceFault]

@[simp] theorem retire_trigger (cls ch : Nat) (boot : Bool) : (retire cls ch boot s).quiet.trig = s.quiet.trig := by
  unfold retire
  split <;> simp

@[simp] theorem noteFault_trigger (cls ch : Nat) (full : Bool) : (noteFault cls ch full s).quiet.trig = s.quiet.trig := by
  simp [noteFault]

@[simp] theorem channelFault_trigger (cls ch : Nat) (full : Bool) :
    (channelFault cls ch full s).2.quiet.trig = s.quiet.trig := by
  unfold channelFault; dsimp only
  split
  · exact (health_trigger _ _).trans (noteFault_trigger s cls ch full)
  · split
    · have refused := fun h => (health_trigger (noteFault cls ch full s) h).trans (noteFault_trigger s cls ch full)
      rw [ite_trigger, deviceFault_trigger, ite_self]
      exact refused _
    · rw [retire_trigger, noteFault_trigger]

/-! ### Lanes, their requests and frames -/

@[simp] theorem countFrame_trigger : (countFrame p s).quiet.trig = s.quiet.trig := rfl

@[simp] theorem pumpReqs_trigger : (pumpReqs p s).quiet.trig = s.quiet.trig := by
  simp [pumpReqs, sendReq]

@[simp] theorem addReq_trigger (op addr count : Nat) (ws g d) : (addReq p op addr count ws g d s).quiet.trig = s.quiet.trig := rfl

@[simp] theorem writeWords_trigger (addr : Nat) (g) (ws) : (writeWords p addr g n ws s).quiet.trig = s.quiet.trig := by
  induction n generalizing addr ws s with
  | zero => rfl
  | succ n ih => rw [writeWords, ite_trigger, ih, addReq_trigger, ite_self]

@[simp] theorem writePhase_trigger (lo hi : Nat) (copy g) : (writePhase p lo hi copy g s).quiet.trig = s.quiet.trig :=
  writeWords_trigger _ _ _ _ _ _

@[simp] theorem writeWave_trigger (v g) : (writeWave p v g s).quiet.trig = s.quiet.trig := writeWords_trigger _ _ _ _ _ _

@[simp] theorem shadowPort_trigger (e : Nat) (keys : List Nat) : (shadowPort b e keys p s).quiet.trig = s.quiet.trig := by
  simp [shadowPort]

@[simp] theorem shadowWrites_trigger : (shadowWrites b s).quiet.trig = s.quiet.trig := by
  unfold shadowWrites
  split <;> simp

@[simp] theorem headsStarted_trigger : (headsStarted b s).quiet.trig = s.quiet.trig := by
  unfold headsStarted
  split <;> simp

@[simp] theorem setLane_trigger (st : LaneState) : (setLane p st s).quiet.trig = s.quiet.trig := by
  simp [setLane]

@[simp] theorem enterTrain_trigger : (enterTrain p s).quiet.trig = s.quiet.trig := by
  simp [enterTrain, startRow, applyRow]

@[simp] theorem faultNext_trigger (kind : Nat) : (faultNext p kind s).quiet.trig = s.quiet.trig := by
  unfold faultNext
  split <;> simp [resetTries, enterDetect]

/-! ### Generations sealed and live -/

@[simp] theorem sealAt_trigger (e : Nat) (merged idle : Bool) : (sealAt b p e merged idle s).quiet.trig = s.quiet.trig := by
  simp [sealAt, sealWrites]

@[simp] theorem sealNow_trigger (merged : Bool) : (sealNow b p merged s).quiet.trig = s.quiet.trig := by
  unfold sealNow
  split <;> simp [sealPeer]

@[simp] theorem trySeal_trigger : (trySeal b s).quiet.trig = s.quiet.trig := by
  unfold trySeal
  split <;> simp

@[simp] theorem headGaps_trigger : (headGaps s).quiet.trig = s.quiet.trig := by
  simp [headGaps, headGapPort]

@[simp] theorem commitLive_trigger : (commitLive b n s).quiet.trig = s.quiet.trig := by
  unfold commitLive
  split <;> simp

@[simp] theorem liveAtPage_trigger : (liveAtPage b n s).quiet.trig = s.quiet.trig := by
  unfold liveAtPage
  split <;> simp

@[simp] theorem commitRequest_trigger : (commitRequest b p s).quiet.trig = s.quiet.trig := by
  unfold commitRequest
  split <;> simp

@[simp] theorem laneFault_trigger (kind : Nat) : (laneFault p kind s).quiet.trig = s.quiet.trig := by
  simp [laneFault, retireNozzles, autoCommit]

@[simp] theorem activateLate_trigger : (activateLate p line s).quiet.trig = s.quiet.trig := by
  simp [activateLate]

/-! ### Axes, supplies and compare outputs -/

@[simp] theorem axDo_trigger (c : Nat) : (axDo n c s).quiet.trig = s.quiet.trig := by
  unfold axDo
  split <;> simp [stopRamp, stopHard, stopNow]

@[simp] theorem startArmed_trigger : (startArmed s).quiet.trig = s.quiet.trig := by
  refine forAll_trigger _ _ _ fun n t => ?_
  split <;> simp

@[simp] theorem riseSupply_trigger : (riseSupply k s).quiet.trig = s.quiet.trig := by
  simp [riseSupply, setSupply]

@[simp] theorem riseWaiting_trigger : (riseWaiting s).quiet.trig = s.quiet.trig := by
  simp [riseWaiting]

@[simp] theorem cmpFire_trigger : (cmpFire k s).quiet.trig = s.quiet.trig := by
  simp [cmpFire]

@[simp] theorem cmpMotion_trigger (src : Nat) (old new : Int) : (cmpMotion src old new s).quiet.trig = s.quiet.trig := by
  simp [cmpMotion, cmpMove]

/-! ### Pages -/

@[simp] theorem placeChanged_trigger : (placeChanged s).quiet.trig = s.quiet.trig := rfl

@[simp] theorem moveTables_trigger : (moveTables b s).quiet.trig = s.quiet.trig := by
  exact forAll_trigger _ _ _ fun x t => by simp [moveTable]

@[simp] theorem startPage_trigger (time : Nat) (pg : Page) : (startPage b n time pg s).quiet.trig = s.quiet.trig := by
  simp [startPage]

@[simp] theorem activates_trigger (pg : Page) (flip : Nat) : (activates b pg flip s).quiet.trig = s.quiet.trig := by
  simp [activates, activateKeys, activatePort]

@[simp] theorem fixFlip_trigger (pg : Page) (f residual : Nat) : (fixFlip b pg f residual s).quiet.trig = s.quiet.trig := by
  simp [fixFlip]

@[simp] theorem peerFlip_trigger (f : Nat) (cut : Option Nat) : (peerFlip b n f cut s).quiet.trig = s.quiet.trig := by
  unfold peerFlip
  split
  · split
    · split <;> simp
    · rfl
  · rfl

@[simp] theorem takeAhead_trigger : (takeAhead b n s).quiet.trig = s.quiet.trig := by
  unfold takeAhead
  split <;> simp

@[simp] theorem checkHead_trigger (e : Inflight) : (checkHead b e s).quiet.trig = s.quiet.trig := by
  simp [checkHead, acceptHead]

@[simp] theorem reprintPage_trigger (src : Nat) : (reprintPage b n src s).quiet.trig = s.quiet.trig := by
  unfold reprintPage
  split <;> simp

@[simp] theorem checkReprint_trigger (e : Inflight) : (checkReprint b e s).quiet.trig = s.quiet.trig := by
  simp [checkReprint]

@[simp] theorem checkWaybill_trigger (e : Inflight) : (checkWaybill b e s).quiet.trig = s.quiet.trig := by
  unfold checkWaybill; dsimp only
  split
  · simp
  · split <;> simp

@[simp] theorem checkRun_trigger : (checkRun b n s).quiet.trig = s.quiet.trig := by
  induction n generalizing s with
  | zero => rfl
  | succ n ih =>
    unfold checkRun
    split <;> simp [ih]

@[simp] theorem resumeHold_trigger : (resumeHold b s).quiet.trig = s.quiet.trig := by
  unfold resumeHold
  split
  · dsimp only
    split <;> simp [checkAll]
  · rfl

/-! ### Bars and the device -/

@[simp] theorem placeApply_trigger (cause : Nat) (emergency : Bool) (new) :
    (placeApply cause emergency new s).quiet.trig = s.quiet.trig := by
  simp [placeApply]

@[simp] theorem placeBar_trigger (entered : Bool) : (placeBar b entered s).quiet.trig = s.quiet.trig := by
  simp [placeBar, placeFull]

@[simp] theorem webSlowJudge_trigger : (webSlowJudge s).quiet.trig = s.quiet.trig := by
  unfold webSlowJudge
  split <;> simp

@[simp] theorem dropJobs_trigger (gone : List Page) : (dropJobs b gone s).quiet.trig = s.quiet.trig := rfl

@[simp] theorem moveVb_trigger (st : VbState) : (moveVb b st s).quiet.trig = s.quiet.trig := by
  simp [moveVb, wakeLane, emptyBar]

@[simp] theorem printClock_trigger (st : DevState) : (printClock st s).quiet.trig = s.quiet.trig := by
  unfold printClock
  split <;> split <;> rfl

theorem setDev_trigger (st : DevState) (cause : Nat) : (setDev st cause s).quiet.trig = s.quiet.trig := by
  have entered : ∀ u : State, State.trig (State.quiet { u with devState := st }) = u.quiet.trig := fun _ => rfl
  unfold setDev; dsimp only
  split
  · rfl
  · rw [mirror_quiet, postD_quiet]
    exact (entered _).trans (printClock_trigger s st)

@[simp] theorem setVb_trigger (st : VbState) : (setVb b st s).quiet.trig = s.quiet.trig := by
  simp [setVb, followBars, setDev_trigger]

@[simp] theorem advanceBar_trigger : (advanceBar b n s).quiet.trig = s.quiet.trig := by
  induction n generalizing s with
  | zero => rfl
  | succ n ih =>
    unfold advanceBar
    split
    · rfl
    · split <;> simp [ih]

@[simp] theorem advanceBars_trigger : (advanceBars s).quiet.trig = s.quiet.trig := by
  simp [advanceBars]

/-! ### A line, around its strike -/

@[simp] theorem startLineDue_trigger (time : Nat) : (startLineDue b n time s).quiet.trig = s.quiet.trig := by
  unfold startLineDue
  split <;> simp

@[simp] theorem barBefore_trigger (t period : Nat) : (barBefore n t period b s).quiet.trig = s.quiet.trig := by
  simp [barBefore]

@[simp] theorem strikePorts_trigger : (strikePorts n s).quiet.trig = s.quiet.trig := by
  simp [strikePorts]

@[simp] theorem risesDue_trigger : (risesDue n s).quiet.trig = s.quiet.trig := by
  simp [risesDue]

@[simp] theorem drayReads_trigger : (drayReads n s).quiet.trig = s.quiet.trig := by
  refine (forAll_trigger _ _ _ ?_).trans (forAll_trigger _ _ _ fun p t => ?_)
  · exact fun _ _ => rfl
  · simp [drayPort]

@[simp] theorem launchLine_trigger (m : Nat) : (launchLine m line s).quiet.trig = s.quiet.trig := by
  simp [launchLine, launchPort, sendBursts, sendBurst]

@[simp] theorem webSlowAsk_trigger : (webSlowAsk b s).quiet.trig = s.quiet.trig := by
  simp [webSlowAsk]

@[simp] theorem judgeLate_trigger : (judgeLate b n s).quiet.trig = s.quiet.trig := by
  unfold judgeLate
  split
  · rfl
  · split
    · rfl
    · split
      · rfl
      · dsimp only
        split <;> simp

@[simp] theorem cmpMark_trigger : (cmpMark b s).quiet.trig = s.quiet.trig := by
  simp [cmpMark, cmpMarkOne]

@[simp] theorem barAfter_trigger : (barAfter n b s).quiet.trig = s.quiet.trig := by
  simp [barAfter, resumeIntake, markReqsDue]

@[simp] theorem camTriggers_trigger (t : Nat) : (camTriggers n t s).quiet.trig = s.quiet.trig := by
  exact forAll_trigger _ _ _ fun _ _ => rfl

@[simp] theorem joinLineDue_trigger : (joinLineDue n s).quiet.trig = s.quiet.trig := by
  simp [joinLineDue, setPairState]

end

end Sys2Proof.Machine
end

/-! ## Lines fall due (06_firing_timeline.md R134 to R139; 02_object_dictionary.md R43) -/

section
namespace Sys2Proof.Machine
open Sys2Proof

/-- The number, the instant and the period of the last line that fell due. -/
def Trig.beat (x : Trig) : Nat × Option Nat × Nat := (x.line, x.lastDue, x.period)

section
variable (n : Nat) (d : Due) (s : State)

@[simp] theorem modTrig_trigger (f) : (s.modTrig f).quiet.trig = f s.quiet.trig := rfl

theorem ite_beat (c : Prop) [Decidable c] (t u : State) :
    (if c then t else u).quiet.trig.beat = if c then t.quiet.trig.beat else u.quiet.trig.beat := by split <;> rfl

/-! ### The strike -/

theorem noteStrike_beat : (noteStrike s).quiet.trig.beat = s.quiet.trig.beat := by
  unfold noteStrike
  split
  · dsimp only
    split <;> simp [Trig.beat]
  · rfl

theorem strikeLine_beat (t : Nat) : (strikeLine n t s).quiet.trig.beat = s.quiet.trig.beat := by
  simp only [strikeLine, strikeSources, forAll_quiet, raiseSource_quiet, implies_true]
  rw [noteStrike_beat]
  simp [Trig.beat, deadFired, lastStruck]

theorem noteSkip_beat : (noteSkip n s).quiet.trig.beat = s.quiet.trig.beat := by
  simp only [noteSkip]
  split <;> simp [Trig.beat]

theorem admitLine_beat : (admitLine n s).quiet.trig.beat = s.quiet.trig.beat := by
  refine (ite_beat _ _ _).trans ?_
  exact ite_self _

theorem putRecord_beat (skipped : Bool) : (putRecord n d skipped s).quiet.trig.beat = s.quiet.trig.beat := rfl

theorem fireLine_beat : (fireLine n d s).quiet.trig.beat = s.quiet.trig.beat := by
  have held (u : State) (m : Map Port) : State.trig (State.quiet { u with ports := m }) = u.quiet.trig := rfl
  have pruned (u : State) (f : Trig → List Nat) : (u.modTrig fun t => { t with admitted := f t }).quiet.trig.beat =
      u.quiet.trig.beat := rfl
  unfold fireLine; dsimp only
  rw [held, pruned, putRecord_beat, ite_beat, ite_beat, strikeLine_beat, noteSkip_beat, ite_self, ite_self]

/-- R134, R137: what falls to a line beside its number, instant and period changes none of the three. -/
theorem lineFalls_beat : (lineFalls d s).quiet.trig.beat = (s.trig.line + 1, some d.at_, periodTo s d.at_) := by
  simp [lineFalls]
  rw [fireLine_beat, admitLine_beat]
  simp [Trig.beat]

end
end Sys2Proof.Machine
end

/-! ## LINE_DUE (06_firing_timeline.md R134, R135, R137) -/

section
namespace Sys2Proof.Machine
open Sys2Proof

theorem resumeCut_trigger (s t : State) : (resumeCut s t).quiet.trig = t.quiet.trig := by
  unfold resumeCut
  split <;> simp

/-- R134, R137: a line that has fallen due takes the next number. -/
theorem lineDue_numbers {dt : Nat} {d : Due} {s : State} (he : s.trig.en = true) (hn : numbers s = true)
    (hd : dueOf (s.later dt) = some d) (ht : d.at_ ≤ s.now + dt) (hw : waitingEnds s = []) :
    Answers (.lineDue dt) s fun t => t.trig.line = s.trig.line + 1 ∧ t.trig.lastDue = some d.at_ ∧
      t.trig.period = periodTo s d.at_ := by
  have enabled : ((s.later dt).trig.en && numbers (s.later dt)) = true := Bool.and_eq_true_iff.mpr ⟨he, hn⟩
  have falls : lineDue (s.later dt) = lineFalls d (s.later dt) := by
    unfold lineDue
    rw [if_pos enabled, hd]
    exact if_pos ht
  have none : waitingEnds (s.later dt) = [] := hw
  have whole : settled lineDue (s.later dt) = resumeCut (s.later dt) (lineFalls d (s.later dt)) := by
    unfold settled
    rw [none, forAll_nil, falls]
  have beat : (resumeCut (s.later dt) (lineFalls d (s.later dt))).trig.beat = (s.trig.line + 1, some d.at_, periodTo s d.at_) :=
    (congrArg Trig.beat (resumeCut_trigger _ _)).trans (lineFalls_beat d (s.later dt))
  obtain ⟨line, rest⟩ := Prod.mk.inj beat
  obtain ⟨lastDue, period⟩ := Prod.mk.inj rest
  exact run_answers_at (c := .lineDue dt) rfl whole ⟨line, lastDue, period⟩

/-- R136, R135: no line falls due with TRIG_EN 0, or before its count has come. -/
theorem lineDue_idle {dt : Nat} {s : State} (h : s.trig.en = false ∨ dueOf (s.later dt) = none) :
    exec (.lineDue dt) s = .next (s.later dt) := by
  have idle : lineDue (s.later dt) = s.later dt := by
    unfold lineDue
    obtain off | early := h
    · rw [if_neg]
      rw [show (s.later dt).trig.en = false from off]
      simp
    · rw [early]
      exact ite_self _
  refine run_next (c := .lineDue dt) rfl ((settled_of_waiting _ _ ?_ fun _ => ?_).trans idle) rfl rfl <;> rw [idle]

end Sys2Proof.Machine
end

/-! ## Flip lines fixed (08_page_scanout.md R192, R194 to R196, R200) -/

section
namespace Sys2Proof.Machine
open Sys2Proof

/-! ### Objects of the device -/

/-- `t` differs from `s` in no object of the device but those that count events. -/
def SameDev (s t : State) : Prop :=
  ∀ k, k / 256 ≠ 0x2012 → k / 256 ≠ 0x9004 → k / 256 ≠ 0x9005 → t.dev.get? k = s.dev.get? k

theorem SameDev.of_eq {s t : State} (h : t.dev = s.dev) : SameDev s t := fun _ _ _ _ => by rw [h]

theorem EventsOnly.sameDev {s t : State} (h : EventsOnly s t) : SameDev s t := h.dev

theorem SameDev.trans {s t u : State} (h : SameDev s t) (g : SameDev t u) : SameDev s u :=
  fun k h1 h2 h3 => (g k h1 h2 h3).trans (h k h1 h2 h3)

theorem SameDev.dv {s t : State} (h : SameDev s t) (i j : Nat) (hj : j < 256) (h1 : i ≠ 0x2012) (h2 : i ≠ 0x9004)
    (h3 : i ≠ 0x9005) : t.dv i j = s.dv i j := by
  have index : okey i j / 256 = i := by unfold okey; omega
  unfold State.dv slotIn
  rw [h (okey i j) (by omega) (by omega) (by omega)]

theorem modPage_dev (s : State) (b n : Nat) (f : Page → Page) : (s.modPage b n f).dev = s.dev := by
  unfold State.modPage
  split <;> rfl

theorem flagNext_dev (b bits : Nat) (s : State) : (flagNext b bits s).dev = s.dev := by
  unfold flagNext
  split
  · exact modPage_dev _ _ _ _
  · rfl

/-! ### A strip decided in a gap -/

/-- What deciding a strip leaves of a bar: its objects but the counters of strips, and which pages there are. -/
structure StripOnly (b : Nat) (s t : State) : Prop where
  dev : SameDev s t
  obj : ∀ i j, j < 256 → i ≠ 0x2004 → i ≠ 0x5022 → t.bo b i j = s.bo b i j
  page : ∀ n, (t.page? b n).isSome = (s.page? b n).isSome

section
variable {b : Nat} {s t : State}

theorem StripOnly.refl (b : Nat) (s : State) : StripOnly b s s := ⟨.of_eq rfl, fun _ _ _ _ _ => rfl, fun _ => rfl⟩

theorem StripOnly.events {u : State} (h : StripOnly b s t) (e : EventsOnly t u) : StripOnly b s u where
  dev := h.dev.trans e.sameDev
  obj := fun i j hj h1 h2 => (e.bo b i j hj h1).trans (h.obj i j hj h1 h2)
  page := fun n => (congrArg _ (e.page? b n)).trans (h.page n)

theorem StripOnly.modScan (h : StripOnly b s t) (f : Scan → Scan) : StripOnly b s (t.modScan b f) where
  dev := h.dev.trans (.of_eq rfl)
  obj := fun i j hj h1 h2 => by
    rw [← h.obj i j hj h1 h2]
    unfold State.bo State.modScan
    rw [bar_modBar_self]
  page := fun n => by rw [← h.page n, page?_eq, page?_eq, State.modScan, bar_modBar_self]

theorem StripOnly.countStrip (h : StripOnly b s t) (k : Nat) (hk : k < 256) : StripOnly b s (t.bumpB b 0x5022 k) where
  dev := h.dev.trans (.of_eq rfl)
  obj := fun i j hj h1 h2 => by
    rw [← h.obj i j hj h1 h2]
    exact bo_setBo_of_ne _ _ _ _ _ _ _ (by unfold okey; omega)
  page := fun n => by rw [← h.page n, page?_eq, page?_eq, State.bumpB, State.bumpBN, pages_setBo]

theorem StripOnly.flagNext (h : StripOnly b s t) (bits : Nat) : StripOnly b s (flagNext b bits t) := by
  unfold Machine.flagNext
  split
  · next p _ =>
    obtain ⟨l, changed⟩ := bar_modPage t b p.num fun q => { q with status := q.status ||| bits }
    refine ⟨h.dev.trans (.of_eq (modPage_dev _ _ _ _)), fun i j hj h1 h2 => ?_, fun n => ?_⟩
    · rw [← h.obj i j hj h1 h2]
      unfold State.bo State.flagPage
      rw [changed]
    · rw [← h.page n, State.flagPage]
      by_cases same : n = p.num
      · rw [same, page?_modPage_self, Option.isSome_map]
        exact fun _ => rfl
      · rw [page?_modPage_of_ne _ _ _ same]
        exact fun _ => rfl
  · exact h.modScan _

theorem StripOnly.ite {c : Prop} [Decidable c] {u v : State} (hu : StripOnly b s u) (hv : StripOnly b s v) :
    StripOnly b s (if c then u else v) := by
  split
  · exact hu
  · exact hv

/-- R200: deciding the strip of a gap, whether it is placed or not. -/
theorem decideStrip_stripOnly (b : Nat) (s : State) : StripOnly b s (decideStrip b s) := by
  unfold decideStrip; dsimp only
  refine .ite (.refl b s) ?_
  have decided (f : Scan → Scan) : StripOnly b s (s.modScan b f) := (StripOnly.refl b s).modScan f
  split
  · refine .ite ?_ ?_
    · exact ((((decided _).modScan _).countStrip 2 (by decide)).flagNext _).events (postB_events _ _ _ _ _ _)
    · exact ((decided _).countStrip 3 (by decide)).events (postB_events _ _ _ _ _ _)
  · exact decided _

end

/-! ### A flip line fixed -/

theorem freezeBand_pages (b page line : Nat) (s : State) : ((freezeBand b page line s).bar b).pages = (s.bar b).pages := by
  unfold freezeBand
  split
  · unfold decideBand; dsimp only
    rw [(pairSend_events _ _).bar_pages, bandSelects, bar_eq_of_bars (forAll_bars _ _ _ ?_), State.modScan, bar_modBar_self]
    exact fun _ _ => rfl
  · rfl

theorem activateKeys_bars (b flip : Nat) (pg : Page) (keys : List Nat) (s : State) :
    (activateKeys b pg flip keys s).bars = s.bars := by
  unfold activateKeys
  split
  · exact forAll_bars _ _ _ fun p t => by unfold activatePort; dsimp only; rw [pumpReqs_bars, addReq_bars]
  · rfl

/-- R195, R196: the page has the flip line whatever else its fixing brings. -/
theorem fixFlip_flip {b : Nat} {p : Page} {s : State} (hp : (s.page? b p.num).isSome = true) (f residual : Nat) :
    ∃ q, (fixFlip b p f residual s).page? b p.num = some q ∧ q.flip = some f := by
  obtain ⟨q, hq⟩ := Option.isSome_iff_exists.mp hp
  have linked (c : Prop) [Decidable c] (r : PairOut) (t : State) :
      ((if c then pairSend r t else t).bar b).pages = (t.bar b).pages := by
    split
    · exact (pairSend_events r t).bar_pages b
    · rfl
  unfold fixFlip activates; dsimp only
  rw [page?_eq, bar_eq_of_bars (activateKeys_bars _ _ _ _ _), ← page?_eq, page?_modPage_self, page?_eq, freezeBand_pages, linked,
    State.modScan, bar_modBar_self]
  · rw [← page?_eq, page?_modPage_self, hq]
    · exact ⟨_, rfl, rfl⟩
    · exact fun _ => rfl
  · exact fun _ => rfl

theorem readyPage_present {b : Nat} {p : Page} {s : State} (h : readyPage s b = some p) : (s.page? b p.num).isSome = true := by
  unfold readyPage at h
  split at h
  · next q hq =>
    split at h
    · cases h
      exact youngest_isSome.mpr ⟨p, (List.mem_filter.mp (List.mem_of_mem_head? hq)).1, rfl⟩
    · cases h
  · cases h

/-- R194 to R196: without mark registration the flip line of a ready page is the first that the lead and the gap allow. -/
theorem flipFixed_fixes {dt : Nat} {b : Fin 16} {p : Page} {s : State} (hh : holder s = true) (hr : readyPage s b = some p)
    (hm : markReg s b = false) : Answers (.flipFixed dt b) s fun t => ∃ q, t.page? b p.num = some q ∧
      q.flip = some (let u := decideStrip b (s.later dt)
        max (s.trig.line + s.dv 0x5002 0) (gapE u b + effectiveMin u b)) := by
  have holds : holder (s.later dt) = true := hh
  have ready : readyPage (s.later dt) b = some p := hr
  generalize hu : decideStrip b (s.later dt) = u
  have only : StripOnly b (s.later dt) u := hu ▸ decideStrip_stripOnly b (s.later dt)
  have line : u.trig.line = s.trig.line := hu ▸ congrArg (fun q => q.trig.line) (decideStrip_quiet b (s.later dt))
  have lead : u.dv 0x5002 0 = s.dv 0x5002 0 := only.dev.dv _ _ (by omega) (by omega) (by omega) (by omega)
  have free : markReg u b = false := by
    unfold markReg
    rw [only.obj _ _ (by omega) (by omega) (by omega)]
    exact hm
  have noted : noteReady b u = u := by
    unfold noteReady
    rw [free]
    exact if_neg Bool.false_ne_true
  have first : flipLine u b u.trig.line = some (max (u.trig.line + u.dv 0x5002 0) (gapE u b + effectiveMin u b), 0) := by
    unfold flipLine; dsimp only
    rw [free]
    exact if_neg Bool.false_ne_true
  have present : (u.page? b p.num).isSome = true := by
    rw [only.page]
    exact readyPage_present ready
  obtain ⟨q, hq, flip⟩ := fixFlip_flip present (max (s.trig.line + s.dv 0x5002 0) (gapE u b + effectiveMin u b)) 0
  have hc : exec (.flipFixed dt b) s = execFlipFixed dt b s := rfl
  rw [line, lead] at first
  refine run_answers_timeless (fun _ _ _ h => h) hc ?_ ⟨q, hq, flip⟩
  rw [if_pos holds, ready]; dsimp only
  rw [hu, noted, free, if_neg Bool.false_ne_true, if_neg Bool.false_ne_true, line, first]

/-- R194: the next page of a bar that does not print is not ready. -/
theorem flipFixed_idle {dt : Nat} {b : Fin 16} {s : State} (h : (s.bar b).vb ≠ .printing) :
    exec (.flipFixed dt b) s = .next (s.later dt) := by
  have unready : readyPage (s.later dt) b = none := by
    unfold readyPage
    split
    · rw [if_neg]
      simp [show ((s.later dt).bar b).vb ≠ .printing from h]
    · rfl
  have hc : exec (.flipFixed dt b) s = execFlipFixed dt b s := rfl
  refine run_next hc ?_ rfl rfl
  rw [unready]
  exact ite_self _

end Sys2Proof.Machine
end

/-! ## Reads of a dray (06_firing_timeline.md R152; 10_placement_memory.md R256, R257) -/

section
namespace Sys2Proof.Machine
open Sys2Proof

theorem mcPanic_modSch (s : State) (k j : Nat) (f : Subch → Subch) (h : (f (s.sch k)).readQ = (s.sch k).readQ) :
    mcPanic (s.modSch k f) j = mcPanic s j := by
  have queue : ((s.modSch k f).sch j).readQ = (s.sch j).readQ := by
    by_cases same : j = k
    · rw [same, sch_modSch_self, h]
    · rw [sch_modSch_of_ne _ _ same]
  unfold mcPanic
  rw [queue]
  rfl

theorem repayRefresh_dray (k d : Nat) (s : State) : (repayRefresh k s).dray d = s.dray d := by
  unfold repayRefresh
  split <;> rfl

theorem repayRefresh_mcPanic (k j : Nat) (s : State) : mcPanic (repayRefresh k s) j = mcPanic s j := by
  unfold repayRefresh
  split
  · rfl
  · exact mcPanic_modSch _ _ _ _ rfl

theorem repayRefresh_sch_of_ne {k j : Nat} (h : j ≠ k) (s : State) : (repayRefresh k s).sch j = s.sch j := by
  unfold repayRefresh
  split
  · rfl
  · exact sch_modSch_of_ne _ _ h

theorem repayRefresh_sch_of_panic {k : Nat} {s : State} (h : mcPanic s k = true) : (repayRefresh k s).sch k = s.sch k := by
  unfold repayRefresh
  rw [h]
  rfl

theorem repayRefresh_repays {k : Nat} {s : State} (h : mcPanic s k = false) :
    ((repayRefresh k s).sch k).owed = 0 ∧ ((repayRefresh k s).sch k).cells = (s.sch k).cells := by
  unfold repayRefresh
  rw [h, Bool.false_or]
  split
  · next none => exact ⟨beq_iff_eq.mp none, rfl⟩
  · rw [sch_modSch_self]; exact ⟨rfl, rfl⟩

/-- What the end of a dray's panic leaves of the subchannels, those of `ks` having been judged. -/
structure Repaid (ks : List Nat) (s t : State) : Prop where
  dray : ∀ d, t.dray d = s.dray d
  panic : ∀ k, mcPanic t k = mcPanic s k
  held : ∀ k, (mcPanic s k = true ∨ k ∉ ks) → t.sch k = s.sch k
  repaid : ∀ k ∈ ks, mcPanic s k = false → (t.sch k).owed = 0 ∧ (t.sch k).cells = (s.sch k).cells

/-- R257: each subchannel without panic repays its own refreshes. -/
theorem repayAll (ks : List Nat) (hk : ks.Nodup) (s : State) : Repaid ks s (forAll ks repayRefresh s) := by
  induction ks generalizing s with
  | nil => exact ⟨fun _ => rfl, fun _ => rfl, fun _ _ => rfl, fun _ h => absurd h List.not_mem_nil⟩
  | cons j ks ih =>
    obtain ⟨fresh, distinct⟩ := List.nodup_cons.mp hk
    obtain ⟨dray, panic, held, repaid⟩ := ih distinct (repayRefresh j s)
    rw [forAll_cons]
    refine ⟨fun d => ?_, fun k => ?_, fun k h => ?_, fun k h none => ?_⟩
    · rw [dray, repayRefresh_dray]
    · rw [panic, repayRefresh_mcPanic]
    · rw [held k (h.imp (fun p => by rw [repayRefresh_mcPanic, p]) fun out => fun i => out (List.mem_cons_of_mem j i))]
      by_cases same : k = j
      · subst same
        exact repayRefresh_sch_of_panic (h.resolve_right fun out => out List.mem_cons_self)
      · exact repayRefresh_sch_of_ne same s
    · rcases List.mem_cons.mp h with rfl | later
      · rw [held k (.inr fresh)]
        exact repayRefresh_repays none
      · have other : k ≠ j := fun e => fresh (e ▸ later)
        have done := repaid k later (by rw [repayRefresh_mcPanic, none])
        rwa [repayRefresh_sch_of_ne other] at done

/-- R151: the oldest read leaves the dray, and its panic ends. -/
def Dray.readDone (x : Dray) : Dray := { x with reading := x.reading.drop 1, panic := false }

theorem drayReadDone_calm {dt : Nat} {d : Fin 8} {s : State} (h : (s.dray d).panic = false) :
    exec (.drayReadDone dt d) s = .next ((s.later dt).modDray d Dray.readDone) := by
  have calm : ((s.later dt).dray d).panic = false := h
  have hc : exec (.drayReadDone dt d) s = execDrayReadDone dt d s := rfl
  refine run_next hc ?_ rfl rfl
  rw [calm]
  rfl

/-- R152, R257: a read that ends the panic of its dray lets the refreshes go that this panic alone held. -/
theorem drayReadDone_repays {dt : Nat} {d : Fin 8} {s : State} (h : (s.dray d).panic = true) :
    Answers (.drayReadDone dt d) s fun t => (t.dray d).reading = (s.dray d).reading.drop 1 ∧ (t.dray d).panic = false ∧
      (∀ k : Fin 8, if mcPanic t k then t.sch k = s.sch k else (t.sch k).owed = 0 ∧ (t.sch k).cells = (s.sch k).cells) := by
  have panics : ((s.later dt).dray d).panic = true := h
  have all := repayAll (List.range 8) List.nodup_range ((s.later dt).modDray d Dray.readDone)
  generalize hu : forAll (List.range 8) repayRefresh ((s.later dt).modDray d Dray.readDone) = u at all
  obtain ⟨dray, panic, held, repaid⟩ := all
  have hc : exec (.drayReadDone dt d) s = execDrayReadDone dt d s := rfl
  have done := (dray d).trans (dray_modDray_self (s.later dt) d Dray.readDone)
  refine run_answers_timeless (fun _ _ _ h => h) hc (u := u) ?_
    ⟨congrArg Dray.reading done, congrArg Dray.panic done, fun k => ?_⟩
  · rw [panics, ← hu]
    rfl
  · split
    · next still => exact held k (.inl ((panic k).symm.trans still))
    · next ended =>
      exact repaid k (List.mem_range.mpr k.isLt) ((panic k).symm.trans (Bool.eq_false_iff.mpr ended))

/-- R152, Table 10-10: a raise is counted; beyond that, its dray and events change. -/
theorem raisePanic_events (d : Nat) (s : State) : ∃ times last, EventsOnly
    ((s.bump 0x7230 d).modDray d fun x => { x with panic := true, panicTimes := times, postAt := last }) (raisePanic d s) := by
  unfold raisePanic; dsimp only
  split
  · exact ⟨_, _, postD_events _ _ _ _⟩
  · exact ⟨_, _, .refl _⟩

theorem dv_bump_self (s : State) (i j : Nat) : (s.bump i j).dv i j = satAdd32 (s.dv i j) 1 := by
  unfold State.bump State.bumpN
  rw [dv_setDv_self]
  exact Nat.mod_eq_of_lt ((satAdd32_lt _ _).trans (by decide))

/-- R152: a dray whose oldest read is a quarter of a line period old raises panic. -/
theorem drayPanic_raises {dt : Nat} {d : Fin 8} {q : Nat × Nat} {rest : List (Nat × Nat)} {s : State}
    (hr : (s.dray d).reading = q :: rest) (hp : (s.dray d).panic = false) (ht : q.2 + s.trig.period / 4 ≤ s.now + dt) :
    Answers (.drayPanic dt d) s fun t => (t.dray d).panic = true ∧ (t.dray d).reading = (s.dray d).reading ∧
      t.dv 0x7230 d = satAdd32 (s.dv 0x7230 d) 1 := by
  have old : panicDue (s.later dt) d = true := by
    have reading : ((s.later dt).dray d).reading = q :: rest := hr
    unfold panicDue
    rw [reading]
    exact Bool.and_eq_true_iff.mpr ⟨congrArg not hp, decide_eq_true ht⟩
  have hc : exec (.drayPanic dt d) s = execDrayPanic dt d s := rfl
  refine run_answers_timeless (fun _ _ _ h => h) hc (u := raisePanic d (s.later dt)) (if_pos old) ?_
  obtain ⟨times, last, posted⟩ := raisePanic_events d (s.later dt)
  have raised := (posted.dray d).trans (dray_modDray_self _ _ _)
  refine ⟨congrArg Dray.panic raised, (congrArg Dray.reading raised :), ?_⟩
  rw [posted.dv _ _ (by omega) (by decide) (by decide) (by decide)]
  exact dv_bump_self (s.later dt) _ _

/-! ### WEB_SLOW (08_page_scanout.md R199) -/

/-- R199: WEB_SLOW is released once no late page waits and its minimum has passed. -/
theorem webSlowRelease_releases {dt a b : Nat} {s : State} (hs : s.webSlow = some (a, b)) (hl : lateBars s = [])
    (ht : a + s.dv 0x5003 0 * Config.milli ≤ s.now + dt) :
    Answers (.webSlowRelease dt) s fun t => EventsOnly { s.later dt with webSlow := none } t := by
  have asked : (s.later dt).webSlow = some (a, b) := hs
  have due : (lateBars (s.later dt)).isEmpty ∧ a + (s.later dt).dv 0x5003 0 * Config.milli ≤ (s.later dt).now :=
    ⟨List.isEmpty_iff.mpr hl, ht⟩
  have released : webSlowJudge (s.later dt) = postD .webSlow 1 (leBytes 1 b ++ leBytes 3 0 ++ leBytes 8 (s.later dt).trig.line)
      { s.later dt with webSlow := none } := by
    unfold webSlowJudge
    rw [asked]
    exact if_pos due
  have posted := postD_events .webSlow 1 (leBytes 1 b ++ leBytes 3 0 ++ leBytes 8 (s.later dt).trig.line)
      { s.later dt with webSlow := none }
  exact run_answers (c := .webSlowRelease dt) rfl released posted.now posted.pending posted

theorem webSlowRelease_stays {dt a b : Nat} {s : State} (hs : s.webSlow = some (a, b))
    (h : lateBars s ≠ [] ∨ s.now + dt < a + s.dv 0x5003 0 * Config.milli) :
    exec (.webSlowRelease dt) s = .next (s.later dt) := by
  have asked : (s.later dt).webSlow = some (a, b) := hs
  have stays : webSlowJudge (s.later dt) = s.later dt := by
    unfold webSlowJudge
    rw [asked]
    refine if_neg fun due => ?_
    exact h.elim (fun late => late (List.isEmpty_iff.mp due.1)) fun early => absurd due.2 (Nat.not_le.mpr early)
  exact run_next (c := .webSlowRelease dt) rfl stays rfl rfl

end Sys2Proof.Machine
end

/-! ## O26 (06_firing_timeline.md, 08_page_scanout.md) -/

section
namespace Sys2Proof.Machine
open Sys2Proof

/-- Settles O26: a line keeps its number, instant and period through all that falls to it (`lineFalls_beat`); a flip line stands
through the records and requests that follow it (`fixFlip_flip`); each subchannel repays its own refreshes (`repayAll`). -/
theorem linesFallDueAndFlipsAreFixed : Obligations.LinesFallDueAndFlipsAreFixed := by
  refine ⟨?line, ?idle, ?flip, ?unready, ?calm, ?repays, ?panic, ?release, ?stays⟩
  case line =>
    intro dt d s enabled numbered due come none
    exact lineDue_numbers enabled numbered due come none
  case idle =>
    intro dt s h
    exact lineDue_idle h
  case flip =>
    intro dt b p s holds ready free
    exact flipFixed_fixes holds ready free
  case unready =>
    intro dt b s h
    exact flipFixed_idle h
  case calm =>
    intro dt d s h
    exact drayReadDone_calm h
  case repays =>
    intro dt d s h
    exact drayReadDone_repays h
  case panic =>
    intro dt d q rest s reading calm old
    exact drayPanic_raises reading calm old
  case release =>
    intro dt a b s asked none passed
    exact webSlowRelease_releases asked none passed
  case stays =>
    intro dt a b s asked h
    exact webSlowRelease_stays asked h

end Sys2Proof.Machine
end

/-! ## Encoders (06_firing_timeline.md R130, R131) -/

section
namespace Sys2Proof.Machine
open Sys2Proof

/-! ### What stands while errors are flagged, reins released and axes started -/

/-- `t` has the encoders and the marks of `s`, and its device objects but for those that count events. -/
structure SameInputs (s t : State) : Prop where
  dev : SameDev s t
  encs : t.encs = s.encs
  marks : t.marks = s.marks

section
variable {s t u : State}

theorem SameInputs.refl (s : State) : SameInputs s s := ⟨.of_eq rfl, rfl, rfl⟩

theorem SameInputs.trans (h : SameInputs s t) (g : SameInputs t u) : SameInputs s u :=
  ⟨h.dev.trans g.dev, g.encs.trans h.encs, g.marks.trans h.marks⟩

theorem EventsOnly.sameInputs (h : EventsOnly s t) : SameInputs s t := ⟨h.sameDev, h.encs, h.marks⟩

/-- What touches neither the device objects nor anything that events cannot. -/
theorem SameInputs.of_quiet (hd : t.dev = s.dev) (hq : t.quiet = s.quiet) : SameInputs s t :=
  ⟨.of_eq hd, (congrArg State.encs hq : t.quiet.encs = s.quiet.encs), (congrArg State.marks hq : t.quiet.marks = s.quiet.marks)⟩

theorem SameInputs.ite {c : Prop} [Decidable c] (ht : SameInputs s t) (hu : SameInputs s u) : SameInputs s (if c then t else u) := by
  split
  · exact ht
  · exact hu

theorem SameInputs.forAll {α : Type} (xs : List α) {f : α → State → State} (h : SameInputs s t)
    (hf : ∀ x u, SameInputs u (f x u)) : SameInputs s (forAll xs f t) :=
  forAll_induct (SameInputs s) xs f t (fun x u hu => hu.trans (hf x u)) h

theorem SameInputs.enc (h : SameInputs s t) (e : Nat) : t.enc e = s.enc e := by
  unfold State.enc
  rw [h.encs]

theorem SameInputs.mark (h : SameInputs s t) (k : Nat) : t.mark k = s.mark k := by
  unfold State.mark
  rw [h.marks]

end

section
variable (b k n : Nat) (s : State)

theorem flagProgress_inputs (bits : Nat) : SameInputs s (flagProgress b bits s) :=
  .forAll _ (.refl s) fun _ _ => .of_quiet (modPage_dev _ _ _ _) (State_flagPage_quiet _ _ _ _)

theorem flagNext_inputs (bits : Nat) : SameInputs s (flagNext b bits s) :=
  .of_quiet (flagNext_dev b bits s) (flagNext_quiet b bits s)

theorem modPair_inputs (f : Pair → Pair) : SameInputs s (s.modPair f) := ⟨.of_eq rfl, rfl, rfl⟩
theorem modAxis_inputs (f : Axis → Axis) : SameInputs s (s.modAxis n f) := ⟨.of_eq rfl, rfl, rfl⟩
theorem modCam_inputs (f : Cam → Cam) : SameInputs s (s.modCam k f) := ⟨.of_eq rfl, rfl, rfl⟩
theorem modScan_inputs (f : Scan → Scan) : SameInputs s (s.modScan b f) := ⟨.of_eq rfl, rfl, rfl⟩

theorem releaseReins_inputs (cause : Nat) : SameInputs s (releaseReins cause s) := by
  have standby : SameInputs s (standbyOutputs (ownMirror s)) := ⟨.of_eq rfl, rfl, rfl⟩
  have searches (u : State) : SameInputs u (abandonSearches u) := by
    refine .forAll _ (.refl u) fun c v => .ite ?_ (.refl v)
    exact (modCam_inputs c v _).trans (postD_events _ _ _ _).sameInputs
  have writes (u : State) : SameInputs u (dropWrites u) := ⟨.of_eq rfl, rfl, rfl⟩
  unfold releaseReins; dsimp only
  refine .ite ?_ (.refl s)
  exact (standby.trans (searches _)).trans ((writes _).trans ((pairSend_events _ _).sameInputs.trans
    ((modPair_inputs _ _).trans (postD_events _ _ _ _).sameInputs)))

theorem encoderJudge_inputs : SameInputs s (encoderJudge s) := .ite (releaseReins_inputs s 1) (.refl s)

theorem stopNow_inputs (cause : Nat) (fast : Bool) : SameInputs s (stopNow n cause fast s) :=
  (modAxis_inputs n s _).trans ((postD_events _ _ _ _).trans (mirror_events _ _)).sameInputs

theorem axDo_inputs (c : Nat) : SameInputs s (axDo n c s) := by
  unfold axDo
  split
  · exact .ite (modAxis_inputs n s _) (.refl s)
  · exact .ite (stopNow_inputs n s _ _) (.refl s)
  all_goals exact modAxis_inputs n s _

theorem startArmed_inputs : SameInputs s (startArmed s) := by
  refine .forAll _ (.refl s) fun n t => ?_
  split
  · exact (modAxis_inputs n t _).trans (axDo_inputs n _ _)
  · exact .refl t

theorem missMark_inputs (line flags : Nat) : SameInputs s (missMark b k line flags s) :=
  have counted : SameInputs s (s.bumpB b 0x4052 0) := .of_quiet rfl (State_bumpB_quiet _ _ _ _)
  counted.trans (postB_events _ _ _ _ _ _).sameInputs

theorem registerMark_inputs (m : Nat) : SameInputs s (registerMark b k m s) := by
  unfold registerMark; dsimp only
  exact .ite (missMark_inputs _ _ _ _ _) (.ite (missMark_inputs _ _ _ _ _) (modScan_inputs b s _))

/-! ### Steps -/

theorem ite_encs (c : Prop) [Decidable c] (s t : State) : (if c then s else t).encs = if c then s.encs else t.encs := by
  split <;> rfl

theorem postD_encs (ev : Ev) (flags : Nat) (data : List Byte) : (postD ev flags data s).encs = s.encs :=
  (postD_events ev flags data s).encs

theorem quiet_to_encs {s t : State} (h : t.quiet = s.quiet) : t.encs = s.encs :=
  (congrArg State.encs h : t.quiet.encs = s.quiet.encs)

theorem flagAll_encs (bits : Nat) : (flagAll bits s).encs = s.encs := quiet_to_encs (flagAll_quiet bits s)

theorem cmpMotion_encs (src : Nat) (old new : Int) : (cmpMotion src old new s).encs = s.encs := by
  unfold cmpMotion
  split
  · rfl
  · exact forAll_keeps State.encs _ _ s fun k t => by simp [cmpMove, cmpFire, ite_encs]

theorem countAbove_encs (c : Int) : (countAbove c s).encs = s.encs := by
  simp [countAbove, ite_encs, postD_encs]

theorem countBelow_encs (c : Int) : (countBelow c s).encs = s.encs := by
  simp [countBelow, ite_encs, postD_encs, flagAll_encs]

/-- R130: a step moves the count of its encoder. -/
theorem encStep_enc (e : Nat) (d : Int) (s : State) :
    (encStep e d s).enc e = { s.enc e with count := (s.enc e).count + d } := by
  unfold encStep; dsimp only
  split
  · next still => rw [still, Int.add_zero]
  · have counted (u : State) (h : u.encs = (cmpMotion e (s.enc e).count ((s.enc e).count + d)
        (s.modEnc e fun x => { x with count := (s.enc e).count + d })).encs) :
        u.enc e = { s.enc e with count := (s.enc e).count + d } := by
      unfold State.enc at *
      rw [h, cmpMotion_encs]
      exact enc_modEnc_self s e _
    split
    · exact counted _ rfl
    · split
      · exact counted _ (countAbove_encs _ _)
      · exact counted _ (countBelow_encs _ _)

/-! ### Errors -/

/-- R131: `t` has counted and shown an error of encoder `e` at `s`, whose levels and count are those of `s`. -/
structure ErrorShown (e : Nat) (s t : State) : Prop where
  shown : t.quiet.trig.encErrAt = some s.now
  counted : t.dv 0x4005 e = satAdd32 (s.dv 0x4005 e) 1
  enc : ∃ last, t.enc e = { s.enc e with postAt := last }

theorem ErrorShown.inputs {e : Nat} {s t u : State} (he : e < 256) (h : ErrorShown e s t) (i : SameInputs t u)
    (ht : u.quiet.trig = t.quiet.trig) : ErrorShown e s u where
  shown := ht ▸ h.shown
  counted := (i.dev.dv _ _ he (by decide) (by decide) (by decide)).trans h.counted
  enc := h.enc.imp fun _ g => (i.enc e).trans g

theorem ErrorShown.posted {e : Nat} {s t : State} (h : ErrorShown e s t) (last : Option Nat) :
    ErrorShown e s (t.modEnc e fun x => { x with postAt := last }) where
  shown := h.shown
  counted := h.counted
  enc := by
    obtain ⟨_, g⟩ := h.enc
    exact ⟨last, by rw [enc_modEnc_self, g]⟩

/-- R131: an error is counted and shown; beyond that it posts events at most once a millisecond, flags pages, and may cost a
standby its strikes or the holder its reins. -/
theorem quadError_shown {e : Nat} (he : e < 256) (s : State) : ErrorShown e s (quadError e s) := by
  have shown : ErrorShown e s ((s.bump 0x4005 e).modTrig fun x => { x with encErrAt := some s.now }) :=
    ⟨rfl, dv_bump_self s _ _, _, rfl⟩
  unfold quadError; dsimp only
  generalize (s.bump 0x4005 e).modTrig _ = u at shown
  split
  · exact shown
  · have reported : ErrorShown e s (if msGate (u.enc e).postAt u.now then
        (postD .encError 0 (leBytes 1 e ++ leBytes 4 (u.dv 0x4005 e)) u).modEnc e (fun x => { x with postAt := some u.now })
      else u) := by
      split
      · exact (shown.inputs he (postD_events _ _ _ _).sameInputs (by simp)).posted _
      · exact shown
    refine reported.inputs he ?_ ?_
    · refine SameInputs.trans (.trans (.forAll _ (.refl _) fun b t => ?_) (.ite (modPair_inputs _ _) (.refl _))) (encoderJudge_inputs _)
      exact (flagProgress_inputs b t _).trans (flagNext_inputs b _ _)
    · rw [encoderJudge_trigger, ite_trigger, modPair_trigger, ite_self]
      exact forAll_trigger _ _ _ fun b t => by simp

/-! ### Levels accepted -/

/-- R130: the levels (a, b) as accepted at `now`. -/
def Enc.accepted (a b : Bool) (now : Nat) (x : Enc) : Enc :=
  { x with a := a, b := b, aAt := if a ≠ x.a then some now else x.aAt, bAt := if b ≠ x.b then some now else x.bAt }

/-- R130: the level that an input has once its filter has seen a new one. -/
def filtered (w now : Nat) (last : Option Nat) (old new : Bool) : Bool := if withinFilter w now last then old else new

theorem filtered_of_held {w now : Nat} {last : Option Nat} {old new : Bool} (h : withinFilter w now last = false) :
    filtered w now last old new = new := by
  unfold filtered
  rw [h]
  rfl

theorem filtered_same {w now : Nat} {last : Option Nat} {old : Bool} : filtered w now last old old = old := ite_self _

theorem filtered_of_within {w now : Nat} {last : Option Nat} {old new : Bool} (h : withinFilter w now last = true) :
    filtered w now last old new = old := if_pos h

/-- R131: do changes to (a, b) come within one filter window? -/
def clashes (w now : Nat) (x : Enc) (a b : Bool) : Prop :=
  (a ≠ x.a ∧ (b ≠ x.b ∨ withinFilter w now x.bAt = true)) ∨ (b ≠ x.b ∧ withinFilter w now x.aAt = true)

section
variable {e : Nat} {a b a0 b0 : Bool} {s : State}

theorem encChange_steps (ha : filtered (filterTime (s.dv 0x4001 e)) s.now (s.enc e).aAt (s.enc e).a a0 = a)
    (hb : filtered (filterTime (s.dv 0x4001 e)) s.now (s.enc e).bAt (s.enc e).b b0 = b)
    (h : ¬ clashes (filterTime (s.dv 0x4001 e)) s.now (s.enc e) a b) :
    encChange e a0 b0 s =
      (let d := decodeStep (bitsN (s.dv 0x4001 e) 9 8) (s.enc e).a (s.enc e).b a b
       encStep e (if bitN (s.dv 0x4001 e) 10 then -d else d) (s.modEnc e (Enc.accepted a b s.now))) := by
  subst ha hb
  exact if_neg h

theorem encChange_errs (ha : filtered (filterTime (s.dv 0x4001 e)) s.now (s.enc e).aAt (s.enc e).a a0 = a)
    (hb : filtered (filterTime (s.dv 0x4001 e)) s.now (s.enc e).bAt (s.enc e).b b0 = b)
    (h : clashes (filterTime (s.dv 0x4001 e)) s.now (s.enc e) a b) :
    encChange e a0 b0 s = quadError e (s.modEnc e (Enc.accepted a b s.now)) := by
  subst ha hb
  exact if_pos h

end

section
variable {dt : Nat} {e : Fin 4} {a b : Bool} {s : State}

/-- R130: accepted levels that do not clash count a step. -/
theorem encInputChange_steps {d : Int} (hn : ¬(a ≠ (s.enc e).a ∧ b ≠ (s.enc e).b))
    (ha : withinFilter (filterTime (s.dv 0x4001 e)) (s.now + dt) (s.enc e).aAt = false)
    (hb : withinFilter (filterTime (s.dv 0x4001 e)) (s.now + dt) (s.enc e).bAt = false)
    (hd : d = decodeStep (bitsN (s.dv 0x4001 e) 9 8) (s.enc e).a (s.enc e).b a b) :
    Answers (.encInputChange dt e a b) s fun t => (t.enc e).a = a ∧ (t.enc e).b = b ∧
      (t.enc e).count = (s.enc e).count + (if bitN (s.dv 0x4001 e) 10 then -d else d) := by
  have apart : ¬ clashes (filterTime (s.dv 0x4001 e)) (s.now + dt) (s.enc e) a b := by
    unfold clashes
    rw [ha, hb]
    simpa using hn
  have counted := (encStep_enc e (if bitN (s.dv 0x4001 e) 10 then -d else d)
    ((s.later dt).modEnc e (Enc.accepted a b (s.now + dt))))
  rw [enc_modEnc_self] at counted
  have hc : exec (.encInputChange dt e a b) s = execEncInputChange dt e a b s := rfl
  refine run_answers_timeless (fun _ _ _ h => h) hc
    (encChange_steps (s := s.later dt) (filtered_of_held ha) (filtered_of_held hb) apart) ?_
  subst hd
  exact ⟨congrArg Enc.a counted, congrArg Enc.b counted, congrArg Enc.count counted⟩

/-- R130: with DECODE ×4 and without INVERT the steps are those of the cycle 00, 10, 11, 01. -/
theorem quadStep_eq (x y : Bool) : quadStep x y a b =
    if a ≠ x then (if x = y then 1 else -1) else if b ≠ y then (if x = y then -1 else 1) else 0 := by
  cases x <;> cases y <;> cases a <;> cases b <;> rfl

theorem decodeStep_same (mode : Nat) (x y : Bool) : decodeStep mode x y x y = 0 := by
  unfold decodeStep
  split <;> simp [quadStep]

/-- R130: a level that its filter does not accept changes nothing. -/
theorem encInputChange_filtered (hb : b = (s.enc e).b)
    (ha : withinFilter (filterTime (s.dv 0x4001 e)) (s.now + dt) (s.enc e).aAt = true) :
    Answers (.encInputChange dt e a b) s fun t => t.enc e = s.enc e ∧ t.trig = s.trig := by
  have apart : ¬ clashes (filterTime (s.dv 0x4001 e)) (s.now + dt) (s.enc e) (s.enc e).a (s.enc e).b := by simp [clashes]
  have still : encChange e a b (s.later dt) = (s.later dt).modEnc e (Enc.accepted (s.enc e).a (s.enc e).b (s.now + dt)) := by
    rw [hb]
    refine (encChange_steps (s := s.later dt) (filtered_of_within ha) filtered_same apart).trans ?_
    rw [decodeStep_same]
    exact if_pos (by simp)
  have hc : exec (.encInputChange dt e a b) s = execEncInputChange dt e a b s := rfl
  refine run_answers_timeless (fun _ _ _ h => h) hc still ⟨?_, rfl⟩
  rw [enc_modEnc_self]
  simp [Enc.accepted, State.later, State.enc]

/-- R131: changes of both inputs within one filter window are an error; the count stays. -/
theorem encInputChange_errs {a0 b0 : Bool}
    (ha : filtered (filterTime (s.dv 0x4001 e)) (s.now + dt) (s.enc e).aAt (s.enc e).a a0 = a)
    (hb : filtered (filterTime (s.dv 0x4001 e)) (s.now + dt) (s.enc e).bAt (s.enc e).b b0 = b)
    (h : clashes (filterTime (s.dv 0x4001 e)) (s.now + dt) (s.enc e) a b) :
    Answers (.encInputChange dt e a0 b0) s fun t => (t.enc e).a = a ∧ (t.enc e).b = b ∧ (t.enc e).count = (s.enc e).count ∧
      t.dv 0x4005 e = satAdd32 (s.dv 0x4005 e) 1 ∧ t.trig.encErrAt = some (s.now + dt) := by
  obtain ⟨shown, counted, last, enc⟩ :=
    quadError_shown (e := e) (by omega) ((s.later dt).modEnc e (Enc.accepted a b (s.now + dt)))
  rw [enc_modEnc_self] at enc
  have hc : exec (.encInputChange dt e a0 b0) s = execEncInputChange dt e a0 b0 s := rfl
  exact run_answers_timeless (fun _ _ _ h => h) hc (encChange_errs (s := s.later dt) ha hb h)
    ⟨congrArg Enc.a enc, congrArg Enc.b enc, (congrArg Enc.count enc :), counted, shown⟩

end

end
end Sys2Proof.Machine
end

/-! ## Web motion, TRIG_EN and mark edges (06_firing_timeline.md R131, R133, R134, R136, R157, R158) -/

section
namespace Sys2Proof.Machine
open Sys2Proof

theorem trig_quiet (s : State) : s.quiet.trig = s.trig := rfl

/-! ### The web (06_firing_timeline.md R131, R133) -/

/-- R131: ENC_ERROR ends a millisecond after the last error. -/
theorem encErrorClear_ends {dt a : Nat} {s : State} (h : s.trig.encErrAt = some a) : exec (.encErrorClear dt) s =
    .next (if a + Config.milli ≤ s.now + dt then (s.later dt).modTrig fun x => { x with encErrAt := none } else s.later dt) := by
  have shown : (s.later dt).trig.encErrAt = some a := h
  have hc : exec (.encErrorClear dt) s = execEncErrorClear dt s := rfl
  refine run_next hc ?_ ?_ ?_
  · rw [shown]; rfl
  · split <;> rfl
  · split <;> rfl

theorem webStops_trig (s : State) : (webStops s).trig =
    Trig.stand s.now { s.trig with moving := false, stopped := true, fresh := 0 } := by
  rw [← trig_quiet, ← trig_quiet s]
  simp [webStops]

/-- R133: the web has stopped once no count has exceeded H for STOP_TIME. -/
theorem webStop_stops {dt : Nat} {s : State} (he : s.trig.en = true) (hm : s.trig.moving = true)
    (hq : ∀ q, s.trig.times.head? = some q → q.2 + s.dv 0x4013 0 * Config.micro ≤ s.now + dt) :
    Answers (.webStop dt) s fun t =>
      t.trig = Trig.stand (s.now + dt) { s.trig with moving := false, stopped := true, fresh := 0 } := by
  have quietLong : stopDue (s.later dt) = true := by
    unfold stopDue
    rw [show (s.later dt).trig.en = true from he, show (s.later dt).trig.moving = true from hm]
    split
    · next q last => exact decide_eq_true (hq q last)
    · rfl
  have hc : exec (.webStop dt) s = execWebStop dt s := rfl
  exact run_answers_timeless (fun _ _ _ h => h) hc (if_pos quietLong) (webStops_trig (s.later dt))

/-! ### TRIG_EN (06_firing_timeline.md R134, R136, R153) -/

@[simp] theorem drayPort_trigger (m p : Nat) (s : State) : (drayPort m p s).quiet.trig = s.quiet.trig := by
  simp [drayPort]

theorem firstLaunches_trigger (s : State) : (firstLaunches s).quiet.trig = s.quiet.trig := by
  simp [firstLaunches]

/-- R134: TRIG_EN starts with H at the present count, and keeps the line number. -/
theorem trigOn_trig (s : State) : (trigOn s).trig.en = true ∧ (trigOn s).trig.line = s.trig.line ∧
    (trigOn s).trig.h = (s.enc (trigEnc s)).count := by
  rw [← trig_quiet]
  simp only [trigOn, ite_trigger, firstLaunches_trigger, bandStops_quiet, modPair_trigger, ite_self, modTrig_trigger]
  exact ⟨rfl, rfl, rfl⟩

/-- R136, R326: TRIG_EN ends with the web neither moving, stopped nor reversed. -/
theorem trigOff_trig {s : State} (h : s.trig.en = true) : (trigOff s).trig =
    Trig.stand s.now { s.trig with en := false, moving := false, stopped := false, reversed := false } := by
  rw [← trig_quiet, ← trig_quiet s]
  simp [trigOff, h]

theorem quiet_to_trig {s t : State} (h : t.quiet = s.quiet) : t.trig = s.trig :=
  (congrArg State.trig h : t.quiet.trig = s.quiet.trig)

/-- R30: an accepted write has its effect's status, and leaves what its effect leaves, but for what events touch. -/
theorem Written.leaves {s : State} {door idx sub v bar dsub w} {eff : Effect} {u : State} {st : Nat}
    (h : Written s door idx sub v bar dsub w) (he : ∀ row, eff row bar dsub w s = (st, u)) :
    (Machine.doorWrite door idx sub v eff s).1 = st ∧ (writeThrough door idx sub v eff s).quiet = u.quiet := by
  obtain ⟨row, -, e⟩ := h.doorWrite eff
  unfold writeThrough
  rw [e, he row]
  exact ⟨rfl, recordStatus_quiet _ _ _ _ _⟩

theorem trigEnEffect_on {row : Row} {bar : Option Nat} {d : Nat} {w : Slot} {s : State} (hw : w ≠ 0)
    (hd : s.devState = .ready ∨ s.devState = .print ∨ s.devState = .safe) (he : s.trig.en = false) :
    trigEnEffect row bar d w s = (stOK, trigOn s) := by
  rw [trigEnEffect, onDev_apply, if_pos hw, if_pos, he]
  · rfl
  · simpa [or_assoc] using hd

theorem trigEnEffect_refused {row : Row} {bar : Option Nat} {d : Nat} {w : Slot} {s : State} (hw : w ≠ 0)
    (hd : s.devState = .config) : trigEnEffect row bar d w s = (stState, s) := by
  rw [trigEnEffect, onDev_apply, if_pos hw, hd]
  rfl

theorem trigEnEffect_off {row : Row} {bar : Option Nat} {d : Nat} {s : State} (hp : printingBars s = []) :
    trigEnEffect row bar d 0 s = (stOK, trigOff s) := by
  rw [trigEnEffect, onDev_apply, if_neg (not_not_intro rfl), hp]
  rfl

theorem trigEnEffect_printing {row : Row} {bar : Option Nat} {d : Nat} {s : State} (hp : printingBars s ≠ []) :
    trigEnEffect row bar d 0 s = (stState, s) := by
  rw [trigEnEffect, onDev_apply, if_neg (not_not_intro rfl), if_neg]
  simpa using hp

section
variable {dt : Nat} {door : Door} {d : Nat} {w : Slot} {s : State}

theorem trigEnSet_starts (h : Written s door 0x4003 1 1 none d w) (hw : w ≠ 0)
    (hd : s.devState = .ready ∨ s.devState = .print ∨ s.devState = .safe) (he : s.trig.en = false) :
    Answers (.trigEnSet dt door) s fun t => t.trig.en = true ∧ t.trig.line = s.trig.line ∧
      t.trig.h = (s.enc (trigEnc s)).count := by
  obtain ⟨-, left⟩ := (h.later dt).leaves fun _ => trigEnEffect_on (s := s.later dt) hw hd he
  obtain ⟨en, line, high⟩ := trigOn_trig (s.later dt)
  rw [← quiet_to_trig left] at en line high
  have hc : exec (.trigEnSet dt door) s = execTrigEnSet dt door s := rfl
  exact run_answers_timeless (fun _ _ _ h => h) hc rfl ⟨en, line, high⟩

theorem trigEnSet_refused (h : Written s door 0x4003 1 1 none d w) (hw : w ≠ 0) (hd : s.devState = .config) :
    (doorWrite door 0x4003 1 1 trigEnEffect s).1 = stState ∧
      Answers (.trigEnSet dt door) s fun t => t.trig = s.trig ∧ t.quiet = (s.later dt).quiet := by
  obtain ⟨status, -⟩ := h.leaves fun _ => trigEnEffect_refused (s := s) hw hd
  obtain ⟨-, left⟩ := (h.later dt).leaves fun _ => trigEnEffect_refused (s := s.later dt) hw hd
  have hc : exec (.trigEnSet dt door) s = execTrigEnSet dt door s := rfl
  exact ⟨status, run_answers_of_quiet hc rfl left ⟨(quiet_to_trig left :), left⟩⟩

theorem trigEnClear_ends (h : Written s door 0x4003 1 0 none d 0) (he : s.trig.en = true) (hp : printingBars s = []) :
    Answers (.trigEnClear dt door) s fun t =>
      t.trig = Trig.stand (s.now + dt) { s.trig with en := false, moving := false, stopped := false, reversed := false } := by
  obtain ⟨-, left⟩ := (h.later dt).leaves fun _ => trigEnEffect_off (s := s.later dt) hp
  have hc : exec (.trigEnClear dt door) s = execTrigEnClear dt door s := rfl
  exact run_answers_timeless (fun _ _ _ h => h) hc rfl ((quiet_to_trig left).trans (trigOff_trig (s := s.later dt) he))

theorem trigEnClear_refused (h : Written s door 0x4003 1 0 none d 0) (hp : printingBars s ≠ []) :
    (doorWrite door 0x4003 1 0 trigEnEffect s).1 = stState ∧ Answers (.trigEnClear dt door) s fun t => t.trig = s.trig := by
  obtain ⟨status, -⟩ := h.leaves fun _ => trigEnEffect_printing (s := s) hp
  obtain ⟨-, left⟩ := (h.later dt).leaves fun _ => trigEnEffect_printing (s := s.later dt) hp
  have hc : exec (.trigEnClear dt door) s = execTrigEnClear dt door s := rfl
  exact ⟨status, run_answers_of_quiet hc rfl left (quiet_to_trig left :)⟩

end

/-! ### Marks (06_firing_timeline.md R157, R158) -/

theorem markAccepted_records {k m : Nat} (hk : k < 256) (s : State) : ((markAccepted k m s).mark k).last = some m ∧
    (markAccepted k m s).dv 0x4042 k = m % 2 ^ 64 := by
  have kept : SameInputs ((s.modMark k fun x => { x with last := some m }).setDv 0x4042 k m) (markAccepted k m s) := by
    unfold markAccepted; dsimp only
    refine .forAll _ ?_ fun b t => registerMark_inputs b k t m
    have raised := raiseSource_events (0x28 + k) ((s.modMark k fun x => { x with last := some m }).setDv 0x4042 k m)
    exact .ite (raised.sameInputs.trans (startArmed_inputs _)) raised.sameInputs
  refine ⟨?_, ?_⟩
  · rw [kept.mark]
    exact congrArg Mark.last (mark_modMark_self s k fun x => { x with last := some m })
  · rw [kept.dev.dv _ _ hk (by decide) (by decide) (by decide)]
    exact dv_setDv_self _ _ _ _

theorem markEdge_active {dt : Nat} {k : Fin 8} {up : Bool} {s : State} (hn : bitN (s.dv 0x4040 k) 9 = true)
    (hu : up = !bitN (s.dv 0x4040 k) 8) (he : s.trig.en = true)
    (hf : withinFilter (filterTime (s.dv 0x4040 k)) (s.now + dt) (s.mark k).edgeAt = false) :
    let m := lineScale s (webPosition (s.later dt))
    let u := (s.later dt).modMark k fun x => { x with edgeAt := some (s.now + dt) }
    if markRejected s k m then exec (.markEdge dt k up) s = .next (u.bump 0x4043 k)
    else Answers (.markEdge dt k up) s fun t => (t.mark k).last = some m ∧ t.dv 0x4042 k = m % 2 ^ 64 := by
  intro m u
  have last : (u.mark k).last = (s.mark k).last :=
    (congrArg Mark.last (mark_modMark_self (s.later dt) k fun x => { x with edgeAt := some (s.now + dt) }) :)
  have rejects : markRejected u k m = markRejected s k m := by
    unfold markRejected
    rw [last]
    rfl
  have counts : (bitN (u.dv 0x4040 k) 9 && (up == !bitN (u.dv 0x4040 k) 8) && u.trig.en) = true := by
    change (bitN (s.dv 0x4040 k) 9 && (up == !bitN (s.dv 0x4040 k) 8) && s.trig.en) = true
    rw [hn, ← hu, he, beq_self_eq_true]
    rfl
  have edge : markEdge k up (s.later dt) = if markRejected u k m then u.bump 0x4043 k else markAccepted k m u := if_pos counts
  have hc : exec (.markEdge dt k up) s = execMarkEdge dt k up s := rfl
  have passes := Bool.eq_false_iff.mp hf
  rw [rejects] at edge
  split
  · next rejected =>
    exact run_next hc ((if_neg passes).trans (edge.trans (if_pos rejected))) rfl rfl
  · next taken =>
    exact run_answers_timeless (fun _ _ _ h => h) hc ((if_neg passes).trans (edge.trans (if_neg taken)))
      (markAccepted_records (by omega) u)

theorem markEdge_filtered {dt : Nat} {k : Fin 8} {up : Bool} {s : State}
    (h : withinFilter (filterTime (s.dv 0x4040 k)) (s.now + dt) (s.mark k).edgeAt = true) :
    exec (.markEdge dt k up) s = .next (s.later dt) := by
  have hc : exec (.markEdge dt k up) s = execMarkEdge dt k up s := rfl
  exact run_next hc (if_pos h) rfl rfl

end Sys2Proof.Machine
end

/-! ## O25 (06_firing_timeline.md) -/

section
namespace Sys2Proof.Machine
open Sys2Proof

section
variable {dt : Nat} {e : Fin 4} {a b : Bool} {s : State}

/-- R130: with DECODE ×4 and without INVERT the count follows the cycle. -/
theorem encInputChange_cycles (hn : ¬(a ≠ (s.enc e).a ∧ b ≠ (s.enc e).b))
    (ha : withinFilter (filterTime (s.dv 0x4001 e)) (s.now + dt) (s.enc e).aAt = false)
    (hb : withinFilter (filterTime (s.dv 0x4001 e)) (s.now + dt) (s.enc e).bAt = false)
    (hm : bitsN (s.dv 0x4001 e) 9 8 = 0) (hi : bitN (s.dv 0x4001 e) 10 = false) :
    Answers (.encInputChange dt e a b) s fun t => (t.enc e).a = a ∧ (t.enc e).b = b ∧
      (t.enc e).count = (s.enc e).count + (if a ≠ (s.enc e).a then (if (s.enc e).a = (s.enc e).b then 1 else -1)
        else if b ≠ (s.enc e).b then (if (s.enc e).a = (s.enc e).b then -1 else 1) else 0) := by
  have full : quadStep (s.enc e).a (s.enc e).b a b = decodeStep (bitsN (s.dv 0x4001 e) 9 8) (s.enc e).a (s.enc e).b a b := by
    rw [hm]
    rfl
  have steps := encInputChange_steps hn ha hb full
  rw [hi, quadStep_eq] at steps
  exact steps

/-- R131: a change of A within B's filter time is an error. -/
theorem encInputChange_within (ha : a ≠ (s.enc e).a) (hb : b = (s.enc e).b)
    (hf : withinFilter (filterTime (s.dv 0x4001 e)) (s.now + dt) (s.enc e).aAt = false)
    (hw : withinFilter (filterTime (s.dv 0x4001 e)) (s.now + dt) (s.enc e).bAt = true) :
    Answers (.encInputChange dt e a b) s fun t => (t.enc e).a = a ∧ (t.enc e).count = (s.enc e).count ∧
      t.dv 0x4005 e = satAdd32 (s.dv 0x4005 e) 1 ∧ t.trig.encErrAt = some (s.now + dt) := by
  subst hb
  obtain ⟨t, runs, level, -, counts⟩ := encInputChange_errs (filtered_of_held hf) filtered_same (.inl ⟨ha, .inr hw⟩)
  exact ⟨t, runs, level, counts⟩

end

/-- Settles O25: the levels of an encoder either count a step or, within one filter window, an error that leaves the count
(R130, R131); the web's motion and TRIG_EN are records of the trigger alone (R133, R134, R136); a mark edge is filtered,
rejected or accepted (R157, R158). -/
theorem encoderAndWebMove : Obligations.EncoderAndWebMove := by
  unfold Obligations.EncoderAndWebMove
  refine ⟨?cycles, ?steps, ?filtered, ?within, ?both, ?clear, ?stop, ?start, ?refused, ?ends, ?printing, ?edge, ?early⟩
  case cycles => exact fun _ _ _ _ _ hn ha hb hm hi => encInputChange_cycles hn ha hb hm hi
  case steps => exact fun _ _ _ _ _ _ hn ha hb hd => encInputChange_steps hn ha hb hd
  case filtered => exact fun _ _ _ _ _ _ hb ha => encInputChange_filtered hb ha
  case within => exact fun _ _ _ _ _ ha hb hf hw => encInputChange_within ha hb hf hw
  case both =>
    exact fun _ _ _ _ _ ha hb fa fb => encInputChange_errs (filtered_of_held fa) (filtered_of_held fb) (.inl ⟨ha, .inl hb⟩)
  case clear => exact fun _ _ _ h => encErrorClear_ends h
  case stop => exact fun _ _ he hm hq => webStop_stops he hm hq
  case start => exact fun _ _ _ _ _ h hw hd he => trigEnSet_starts h hw hd he
  case refused => exact fun _ _ _ _ _ h hw hd => trigEnSet_refused h hw hd
  case ends => exact fun _ _ _ _ h he hp => trigEnClear_ends h he hp
  case printing => exact fun _ _ _ _ h hp => trigEnClear_refused h hp
  case edge => exact fun _ _ _ _ hn hu he hf => markEdge_active hn hu he hf
  case early => exact fun _ _ _ _ h => markEdge_filtered h

end Sys2Proof.Machine
end

/-! ## What leaves a lane as it was (07_head_link.md, Table 07-9) -/

section
namespace Sys2Proof.Machine
open Sys2Proof

/-- A port without its requests, their TAGs and the count of its frames, which the work for bars and for other ports moves
(R172, R174). -/
def Port.link (x : Port) : Port := { x with reqs := [], nextTag := 0, seq := 0 }

/-- The keys of the objects 4800 to 49FF, those of the head link. -/
def linkKey (k : Nat) : Bool := decide (0x4800 ≤ k / 256) && decide (k / 256 < 0x4A00)

/-- What a command shows of a lane: its port, and the objects of the head link. -/
structure Lane where
  port : Port
  objects : Nat → Option Val

/-- The lane of port `p`. -/
def State.lane (s : State) (p : Nat) : Lane where
  port := (s.port p).link
  objects k := if linkKey k then s.dev.get? k else none

section
variable {s t : State} {p : Nat}

theorem lane_congr (hp : (t.port p).link = (s.port p).link) (hd : ∀ k, linkKey k → t.dev.get? k = s.dev.get? k) :
    t.lane p = s.lane p := by
  unfold State.lane
  rw [hp]
  congr
  funext k
  split
  · next h => exact hd k h
  · rfl

/-- Posting events changes no lane. -/
theorem EventsOnly.lane (h : EventsOnly s t) (p : Nat) : t.lane p = s.lane p := by
  refine lane_congr (congrArg Port.link (h.port p)) fun k hk => ?_
  simp only [linkKey, Bool.and_eq_true, decide_eq_true_eq] at hk
  exact h.dev k (by omega) (by omega) (by omega)

theorem Lane.st_eq (h : t.lane p = s.lane p) : (t.port p).st = (s.port p).st := congrArg (fun x : Lane => x.port.st) h

theorem dv_of_objects {i j : Nat} (h : (t.lane p).objects = (s.lane p).objects) (hj : j < 256)
    (hl : 0x4800 ≤ i) (hu : i < 0x4A00) : t.dv i j = s.dv i j := by
  have index : okey i j / 256 = i := by unfold okey; omega
  have key : linkKey (okey i j) = true := by
    unfold linkKey
    rw [index, decide_eq_true hl, decide_eq_true hu]
    rfl
  have entry := congrFun h (okey i j)
  simp only [State.lane, key, if_true] at entry
  unfold State.dv slotIn
  rw [entry]

end

section
variable (p q b n : Nat) (s : State)

/-! ### State operations -/

@[simp] theorem ite_lane (c : Prop) [Decidable c] (s t : State) :
    (if c then s else t).lane p = if c then s.lane p else t.lane p := by split <;> rfl

@[simp] theorem forAll_lane {α : Type} (xs : List α) (f : α → State → State) (h : ∀ x t, (f x t).lane p = t.lane p) :
    (forAll xs f s).lane p = s.lane p := forAll_keeps (fun u => u.lane p) xs f s h

/-- A change of another lane, or of what `link` leaves out. -/
theorem modPort_lane {f : Port → Port} (h : ∀ x, (f x).link = x.link) : (s.modPort q f).lane p = s.lane p := by
  refine lane_congr ?_ fun _ _ => rfl
  by_cases e : p = q
  · subst e
    rw [port_modPort_self, h]
  · rw [port_modPort_of_ne _ _ e]

theorem setDv_lane {i j v : Nat} (h : linkKey (okey i j) = false) : (s.setDv i j v).lane p = s.lane p := by
  refine lane_congr rfl fun k hk => Map.get?_set_of_ne _ _ fun e => ?_
  rw [e, h] at hk
  exact Bool.false_ne_true hk

@[simp] theorem modBar_lane (f) : (s.modBar b f).lane p = s.lane p := rfl
@[simp] theorem modCam_lane (f) : (s.modCam n f).lane p = s.lane p := rfl
@[simp] theorem modMram_lane (f) : (s.modMram f).lane p = s.lane p := rfl
@[simp] theorem modPair_lane (f) : (s.modPair f).lane p = s.lane p := rfl
@[simp] theorem modGen_lane (f) : (s.modGen b f).lane p = s.lane p := rfl
@[simp] theorem bumpBN_lane (i j : Nat) : (s.bumpBN b i j n).lane p = s.lane p := rfl
@[simp] theorem bumpB_lane (i j : Nat) : (s.bumpB b i j).lane p = s.lane p := rfl
@[simp] theorem trimBegin_lane : (s.trimBegin n).lane p = s.lane p := rfl
@[simp] theorem draw_lane : s.draw.2.lane p = s.lane p := rfl
@[simp] theorem health_lane (h) : State.lane { s with health := h } p = s.lane p := rfl

@[simp] theorem postD_lane (ev : Ev) (flags : Nat) (data : List Byte) : (postD ev flags data s).lane p = s.lane p :=
  (postD_events _ _ _ _).lane p
@[simp] theorem postB_lane (ev : Ev) (page flags : Nat) (data : List Byte) : (postB ev b page flags data s).lane p = s.lane p :=
  (postB_events _ _ _ _ _ _).lane p
@[simp] theorem post_lane (e : Event) : (post e s).lane p = s.lane p := (post_events _ _).lane p
@[simp] theorem pairSend_lane (r : PairOut) : (pairSend r s).lane p = s.lane p := (pairSend_events _ _).lane p
@[simp] theorem mirror_lane (m : MirrorItem) : (mirror m s).lane p = s.lane p := (mirror_events _ _).lane p

/-! ### Reins, the log and faults -/

@[simp] theorem abandonSearches_lane : (abandonSearches s).lane p = s.lane p := by
  simp [abandonSearches, abandonSearch]

@[simp] theorem standbyOutputs_lane : (standbyOutputs s).lane p = s.lane p := rfl
@[simp] theorem ownMirror_lane : (ownMirror s).lane p = s.lane p := rfl

/-- R172: of a port, the loss of the reins drops requests alone. -/
@[simp] theorem dropWrites_lane : (dropWrites s).lane p = s.lane p := by
  refine lane_congr ?_ fun _ _ => rfl
  unfold State.port dropWrites
  dsimp only
  unfold Map.getD
  rw [Map.get?_mapVals]
  cases s.ports.get? p <;> rfl

@[simp] theorem releaseReins_lane (cause : Nat) : (releaseReins cause s).lane p = s.lane p := by
  simp [releaseReins]

@[simp] theorem logVolatile_lane (e : LogEntry) : (logVolatile e s).lane p = s.lane p := rfl

@[simp] theorem logBoth_lane (e : LogEntry) : (logBoth e s).lane p = s.lane p := by
  simp [logBoth, logMram]

@[simp] theorem setCause_lane (bits : Nat) : (setCause bits s).lane p = s.lane p := by
  simp [setCause]

/-- R357: the retirement of a channel of class 0 counts in C004. -/
theorem retire_lane (ch : Nat) (boot : Bool) : (retire 0 ch boot s).lane p = s.lane p := by
  have counted (u : State) (v : Nat) : (u.setDv 0xC004 0 v).lane p = u.lane p := setDv_lane p u rfl
  simp [retire, serviceBit, counted]

/-! ### Seals and requests -/

@[simp] theorem sendReq_lane (r : MgmtReq) : (sendReq q r s).lane p = s.lane p :=
  modPort_lane p q _ (fun _ => rfl)

@[simp] theorem pumpReqs_lane : (pumpReqs q s).lane p = s.lane p := by
  unfold pumpReqs; dsimp only
  split
  · refine (modPort_lane p q _ ?_).trans ?_
    · exact fun _ => rfl
    · exact forAll_lane p s _ _ fun r t => sendReq_lane p q t r
  · rfl

@[simp] theorem addReq_lane (op addr count : Nat) (ws g d) : (addReq q op addr count ws g d s).lane p = s.lane p :=
  modPort_lane p q _ (fun _ => rfl)

@[simp] theorem writeWords_lane (addr : Nat) (g) (ws) : (writeWords q addr g n ws s).lane p = s.lane p := by
  induction n generalizing addr ws s with
  | zero => rfl
  | succ n ih => rw [writeWords, ite_lane, ih, addReq_lane, ite_self]

@[simp] theorem writePhase_lane (lo hi : Nat) (copy g) : (writePhase q lo hi copy g s).lane p = s.lane p :=
  writeWords_lane _ _ _ _ _ _ _

@[simp] theorem writeWave_lane (v g) : (writeWave q v g s).lane p = s.lane p := writeWords_lane _ _ _ _ _ _ _

@[simp] theorem shadowPort_lane (e : Nat) (keys : List Nat) : (shadowPort b e keys q s).lane p = s.lane p := by
  simp [shadowPort]

@[simp] theorem shadowWrites_lane : (shadowWrites b s).lane p = s.lane p := by
  unfold shadowWrites
  split <;> simp

@[simp] theorem joinHeads_lane : (joinHeads b s).lane p = s.lane p := by
  unfold joinHeads
  split <;> simp

@[simp] theorem gapDecide_lane : (gapDecide b s).lane p = s.lane p := by
  refine forAll_lane p s _ _ fun q t => ?_
  split <;> simp [openSet]

@[simp] theorem rescreen_lane (e : Nat) : (rescreen b e s).lane p = s.lane p := by
  simp [rescreen]

@[simp] theorem sealAt_lane (e : Nat) (merged idle : Bool) : (sealAt b n e merged idle s).lane p = s.lane p := by
  simp [sealAt, sealWrites]

@[simp] theorem digestJudge_lane (e theirs : Nat) : (digestJudge b e theirs s).lane p = s.lane p := by
  simp [digestJudge]

@[simp] theorem sealNow_lane (merged : Bool) : (sealNow b n merged s).lane p = s.lane p := by
  unfold sealNow
  split <;> simp [sealPeer]

@[simp] theorem releaseWaits_lane : (releaseWaits b s).lane p = s.lane p := rfl

@[simp] theorem trySeal_lane : (trySeal b s).lane p = s.lane p := by
  unfold trySeal
  split <;> simp

@[simp] theorem autoCommit_lane : (autoCommit b s).lane p = s.lane p := by
  unfold autoCommit commitRequest
  split
  · split <;> simp
  · rfl

@[simp] theorem editEntries_lane (f : Nat → Nat → Nat) : (editEntries b q f s).lane p = s.lane p := by
  simp [editEntries, mirrorNozzles, openSet]

@[simp] theorem applyOutcomes_lane (os : List (Nat × Check)) : (applyOutcomes b q os s).lane p = s.lane p := by
  have counted : ∀ xs : List (Nat × Check), (forAll xs (fun x t => t.countB64 b 0x3432 x.2.code 1) s).lane p = s.lane p :=
    fun xs => forAll_lane p s xs _ fun _ _ => rfl
  simp [applyOutcomes, counted]

@[simp] theorem retireNozzles_lane : (retireNozzles q s).lane p = s.lane p := by
  simp [retireNozzles]

/-! ### What a head asks on its way into RUN -/

@[simp] theorem activatePort_lane (pg : Page) (flip : Nat) (keys : List Nat) :
    (activatePort b pg flip keys q s).lane p = s.lane p := by
  simp [activatePort]

@[simp] theorem runBar_lane : (runBar q b s).lane p = s.lane p := by
  unfold runBar
  split <;> simp

@[simp] theorem runWrites_lane : (runWrites q s).lane p = s.lane p := by
  simp [runWrites]

@[simp] theorem runBands_lane : (runBands q s).lane p = s.lane p := by
  unfold runBands
  split
  · exact forAll_lane p s _ _ fun _ _ => rfl
  · rfl

@[simp] theorem dropWaits_lane : (dropWaits q s).lane p = s.lane p :=
  forAll_lane p s _ _ fun _ _ => rfl

end

end Sys2Proof.Machine
end

/-! ## Lane states entered, and lane faults (07_head_link.md R183, R186 to R188, Table 07-9; 16_faults_test.md R356, R357) -/

section
namespace Sys2Proof.Machine
open Sys2Proof

/-- What a port keeps as its lane changes state. -/
def Port.standing (x : Port) : Port :=
  { x.link with st := .off, since := 0, launched := [], telemAt := none, deepHead := false, lockAt := none }

/-- From `s` to `t` the lane of port `p` enters the state `st`, or stays in it. -/
structure LaneEnters (p : Nat) (st : LaneState) (s t : State) : Prop where
  st : (t.port p).st = st
  standing : (t.port p).standing = (s.port p).standing
  objects : (t.lane p).objects = (s.lane p).objects

section
variable {p : Nat} {st : LaneState} {s t u : State}

theorem standing_of_lane (h : t.lane p = s.lane p) : (t.port p).standing = (s.port p).standing :=
  congrArg (fun x : Lane => x.port.standing) h

theorem LaneEnters.then_lane (h : LaneEnters p st s t) (g : u.lane p = t.lane p) : LaneEnters p st s u where
  st := (Lane.st_eq g).trans h.st
  standing := (standing_of_lane g).trans h.standing
  objects := (congrArg Lane.objects g).trans h.objects

theorem LaneEnters.of_lane (h : LaneEnters p st t u) (g : t.lane p = s.lane p) : LaneEnters p st s u where
  st := h.st
  standing := h.standing.trans (standing_of_lane g)
  objects := h.objects.trans (congrArg Lane.objects g)

theorem LaneEnters.modPort (h : LaneEnters p st s t) {f : Port → Port} (hs : ∀ x, (f x).st = x.st)
    (hf : ∀ x, (f x).standing = x.standing) : LaneEnters p st s (t.modPort p f) where
  st := by rw [port_modPort_self, hs, h.st]
  standing := by rw [port_modPort_self, hf, h.standing]
  objects := h.objects

theorem LaneEnters.upLock (h : LaneEnters p st s t) : (t.port p).upLock = (s.port p).upLock :=
  (congrArg Port.upLock h.standing :)
theorem LaneEnters.upLos (h : LaneEnters p st s t) : (t.port p).upLos = (s.port p).upLos :=
  (congrArg Port.upLos h.standing :)
theorem LaneEnters.dnLock (h : LaneEnters p st s t) : (t.port p).dnLock = (s.port p).dnLock :=
  (congrArg Port.dnLock h.standing :)
theorem LaneEnters.input (h : LaneEnters p st s t) : (t.port p).input = (s.port p).input :=
  (congrArg Port.input h.standing :)
theorem LaneEnters.echo (h : LaneEnters p st s t) : (t.port p).echo = (s.port p).echo :=
  (congrArg Port.echo h.standing :)

theorem LaneEnters.dv (h : LaneEnters p st s t) {i j : Nat} (hj : j < 256) (hl : 0x4800 ≤ i) (hu : i < 0x4A00) :
    t.dv i j = s.dv i j := dv_of_objects h.objects hj hl hu

end

/-! ### States entered -/

section
variable (p : Nat) (st : LaneState) (s : State)

theorem setLane_enters : LaneEnters p st s (setLane p st s) := by
  unfold setLane; dsimp only
  split
  · next same => exact ⟨same, rfl, rfl⟩
  · refine LaneEnters.then_lane ?_ (postD_lane _ _ _ _ _)
    have entered : LaneEnters p st s (s.modPort p fun x =>
        { (if st = .run then x else x.quiet) with st := st, since := s.now, lockAt := none }) := by
      refine ⟨?_, ?_, rfl⟩
      · rw [port_modPort_self]
      · rw [port_modPort_self]
        split <;> rfl
    exact entered.then_lane (by rw [ite_lane, trimBegin_lane, ite_self])

theorem setLane_out : ∃ os, (setLane p st s).out = s.out ++ os := by
  unfold setLane; dsimp only
  split
  · exact ⟨[], (List.append_nil _).symm⟩
  · obtain ⟨os, posted⟩ := (postD_events _ _ _ _).out
    refine ⟨os, posted.trans ?_⟩
    split <;> rfl

@[simp] theorem emit_port (o : Out) : (s.emit o).port p = s.port p := rfl

/-- R183: the trial of a row. -/
theorem startRow_port (row : Nat) : ∃ ctle dfe, (startRow p row s).port p =
    { s.port p with rxCtle := ctle, rxDfe := dfe, row := row, rowAt := s.now + Config.micro } := by
  simp only [startRow, applyRow, emit_port, port_modPort_self]
  exact ⟨_, _, rfl⟩

theorem startRow_objects (row : Nat) : ((startRow p row s).lane p).objects = (s.lane p).objects := rfl

theorem startRow_out (row : Nat) : (startRow p row s).out = s.out ++ [.txSettings p ((eqRow s p row).take 5), .train p 1 row] :=
  List.append_assoc _ _ _

/-- R183: training begins with row 0; the locks stay as they are. -/
theorem enterTrain_port : ((enterTrain p s).port p).st = .train ∧ ((enterTrain p s).port p).row = 0 ∧
    ((enterTrain p s).port p).upLock = (s.port p).upLock := by
  have entered := setLane_enters p .train s
  obtain ⟨ctle, dfe, row⟩ := startRow_port p ((setLane p .train s).modPort p fun x => { x with best := none, reqs := [] }) 0
  rw [port_modPort_self] at row
  unfold enterTrain
  rw [row]
  exact ⟨entered.st, rfl, entered.upLock⟩

theorem enterTrain_out : ∃ os, (enterTrain p s).out = s.out ++ os ++ [.train p 1 0] := by
  obtain ⟨os, entered⟩ := setLane_out p .train s
  have sent := startRow_out p ((setLane p .train s).modPort p fun x => { x with best := none, reqs := [] }) 0
  rw [modPort_out, entered] at sent
  have shift (a b : Out) : s.out ++ os ++ [a, b] = s.out ++ (os ++ [a]) ++ [b] := by simp
  exact ⟨_, sent.trans (shift _ _)⟩

theorem enterTrain_objects : ((enterTrain p s).lane p).objects = (s.lane p).objects :=
  (startRow_objects p _ 0).trans (setLane_enters p .train s).objects

theorem enterDetect_st : ((enterDetect p s).port p).st = .detect := by
  unfold enterDetect
  rw [port_modPort_self]
  exact (setLane_enters p .detect s).st

theorem enterDetect_objects : ((enterDetect p s).lane p).objects = (s.lane p).objects := (setLane_enters p .detect s).objects

theorem enterIdent_st : ((enterIdent p s).port p).st = .ident := by
  unfold enterIdent; dsimp only
  refine (Lane.st_eq ((pumpReqs_lane _ _ _).trans (addReq_lane _ _ _ _ _ _ _ _ _))).trans ?_
  exact (congrArg Port.st (port_modPort_self _ _ _)).trans (setLane_enters p .ident s).st

theorem enterIdent_objects : ((enterIdent p s).lane p).objects = (s.lane p).objects := by
  unfold enterIdent; dsimp only
  rw [pumpReqs_lane, addReq_lane]
  exact (setLane_enters p .ident s).objects

theorem enterRun_enters : LaneEnters p .run s (enterRun p s) := by
  refine LaneEnters.then_lane (t := (setLane p .run s).modPort p fun x =>
    { x with telemAt := some s.now, deepHead := false }) ?_ (by simp [enterRun])
  exact (setLane_enters p .run s).modPort (fun _ => rfl) fun _ => rfl

end

/-! ### Lane faults -/

section
variable (p kind : Nat) (s : State)

theorem noteFault_lane (cls ch : Nat) (full : Bool) : (noteFault cls ch full s).lane p = s.lane p := by
  obtain ⟨u, m, posted, noted, -⟩ := noteFault_effect cls ch full s
  rw [noted]
  exact posted.lane p

/-- R356: the fourth fault within a second retires the channel. -/
theorem channelFault_verdict (cls ch : Nat) :
    (channelFault cls ch false s).1 = if (recentFaults cls ch s).length < 3 then .retry else .retired := by
  obtain ⟨u, m, -, noted, hist⟩ := noteFault_effect cls ch false s
  unfold channelFault
  rw [noted]
  dsimp only
  rw [hist]
  split <;> rfl

theorem channelFault_lane (ch : Nat) : (channelFault 0 ch false s).2.lane p = s.lane p := by
  unfold channelFault; dsimp only
  split
  · exact (health_lane _ _ _).trans (noteFault_lane p s 0 ch false)
  · exact (retire_lane p _ ch false).trans (noteFault_lane p s 0 ch false)

theorem faultNext_objects : ((faultNext p kind s).lane p).objects = (s.lane p).objects := by
  unfold faultNext
  split
  · exact (setLane_enters p .relock s).objects
  · exact enterDetect_objects p s
  · exact enterDetect_objects p s
  · split
    · rw [enterTrain_objects, dropWaits_lane]
    · rfl
  · split
    · exact enterTrain_objects p s
    · rfl
  · rfl

/-- R186, R356: a fault that does not retire the lane is counted, and the lane goes where Table 07-9 says. -/
theorem laneFault_retried (h : (recentFaults 0 p s).length < 3) :
    ∃ u, laneFault p kind s = faultNext p kind u ∧ u.lane p = (s.bump 0x4804 p).lane p := by
  have verdict : (channelFault 0 p false (s.bump 0x4804 p)).1 = .retry :=
    (channelFault_verdict _ 0 p).trans (if_pos h)
  unfold laneFault; dsimp only
  rw [verdict]
  exact ⟨_, rfl, (postD_lane _ _ _ _ _).trans (channelFault_lane p _ p)⟩

/-- R188, R357: the fault that retires the lane. -/
theorem laneFault_retired (h : ¬ (recentFaults 0 p s).length < 3) :
    LaneEnters p .retired (s.bump 0x4804 p) (laneFault p kind s) := by
  have verdict : (channelFault 0 p false (s.bump 0x4804 p)).1 = .retired :=
    (channelFault_verdict _ 0 p).trans (if_neg h)
  have retires (u : State) : LaneEnters p .retired u
      ((setLane p .retired (dropWaits p u)).modPort p fun x => { x with reqs := [] }) :=
    ((setLane_enters p .retired _).of_lane (dropWaits_lane p p u)).modPort (fun _ => rfl) fun _ => rfl
  unfold laneFault; dsimp only
  rw [verdict, if_pos (by rfl)]
  generalize noted : postD _ _ _ _ = u
  refine ((retires u).of_lane ?_).then_lane ?_
  · rw [← noted, postD_lane, channelFault_lane]
  · rw [ite_lane, retireNozzles_lane, ite_self]

theorem laneFault_objects : ((laneFault p kind s).lane p).objects = ((s.bump 0x4804 p).lane p).objects := by
  by_cases h : (recentFaults 0 p s).length < 3
  · obtain ⟨u, fault, counted⟩ := laneFault_retried p kind s h
    rw [fault, faultNext_objects, counted]
  · exact (laneFault_retired p kind s h).objects

theorem laneFault_counts (hp : p < 256) : (laneFault p kind s).dv 0x4804 p = satAdd32 (s.dv 0x4804 p) 1 :=
  (dv_of_objects (laneFault_objects p kind s) hp (by decide) (by decide)).trans (dv_bump_self s _ _)

/-- R186, R187: a fault of a lane in RUN. -/
theorem laneFault_of_run (h : (s.port p).st = .run) :
    LaneEnters p (if (recentFaults 0 p s).length < 3 then .relock else .retired) (s.bump 0x4804 p) (laneFault p kind s) := by
  split
  · next few =>
    obtain ⟨u, fault, counted⟩ := laneFault_retried p kind s few
    have run : (u.port p).st = .run := (Lane.st_eq counted).trans h
    have next : faultNext p kind u = resetTries p (setLane p .relock u) := by
      unfold faultNext
      rw [run]
    rw [fault, next]
    exact ((setLane_enters p .relock u).of_lane counted).then_lane (modPort_lane _ _ _ fun _ => rfl)
  · next many => exact laneFault_retired p kind s many

/-- Table 07-9: a fault of a lane in IDENT. -/
theorem laneFault_of_ident (h : (s.port p).st = .ident) (hf : (recentFaults 0 p s).length < 3) :
    ((laneFault p kind s).port p).st = .detect := by
  obtain ⟨u, fault, counted⟩ := laneFault_retried p kind s hf
  have ident : (u.port p).st = .ident := (Lane.st_eq counted).trans h
  have next : faultNext p kind u = enterDetect p u := by
    unfold faultNext
    rw [ident]
  rw [fault, next]
  exact enterDetect_st p u

/-- R187, R189: a RELOCK or a WAKE that lasts too long. -/
theorem laneFault_expired (h : (s.port p).st = .relock ∧ kind = 6 ∨ (s.port p).st = .wake ∧ kind = 8)
    (hf : (recentFaults 0 p s).length < 3) :
    ((laneFault p kind s).port p).st = .train ∧ ((laneFault p kind s).port p).row = 0 := by
  obtain ⟨u, fault, counted⟩ := laneFault_retried p kind s hf
  have state : (u.port p).st = (s.port p).st := (Lane.st_eq counted :)
  obtain ⟨v, train⟩ : ∃ v, faultNext p kind u = enterTrain p v := by
    unfold faultNext
    rw [state]
    obtain ⟨st, rfl⟩ | ⟨st, rfl⟩ := h <;> rw [st] <;> exact ⟨_, rfl⟩
  obtain ⟨st, row, -⟩ := enterTrain_port p v
  rw [fault, train]
  exact ⟨st, row⟩

end

end Sys2Proof.Machine
end

/-! ## O27: lock, loss of lock and of signal, idle blocks and time-outs (07_head_link.md R165, R186 to R189, Table 07-9) -/

section
namespace Sys2Proof.Machine
open Sys2Proof

section
variable {dt : Nat} {p : Fin 64} {s : State}

/-! ### Lock -/

/-- R165: what an upstream that locks leaves of the port. -/
def Port.locked (x : Port) : Port := { x with upLock := true, upLos := false, present := true }

/-- R187: both directions have held lock for 64 blocks. -/
theorem relockStep_runs {q a : Nat} (hu : (s.port q).upLock = true) (hd : (s.port q).dnLock = true)
    (ha : (s.port q).lockAt = some a) (ht : 100 * a + 64 * blockTime100 s ≤ 100 * s.now) : relockStep q s = enterRun q s := by
  unfold relockStep
  simp only [hu, hd, ha, Bool.and_self, if_true, if_pos ht]

theorem upstreamBlockLock_trains (h : (s.port p).st = .detect) :
    Answers (.upstreamBlockLock dt p) s fun t => (t.port p).st = .train ∧ (t.port p).upLock = true ∧ (t.port p).row = 0 ∧
      ∃ os, t.out = s.out ++ os ++ [.train p 1 0] := by
  have detect : ((s.later dt).port p).st = .detect := h
  have hc : exec (.upstreamBlockLock dt p) s = execUpstreamBlockLock dt p s := rfl
  unfold execUpstreamBlockLock at hc
  obtain ⟨st, row, lock⟩ := enterTrain_port p ((s.later dt).modPort p Port.locked)
  rw [port_modPort_self] at lock
  refine run_answers_timeless (fun _ _ _ h => h) hc (u := enterTrain p ((s.later dt).modPort p Port.locked)) ?_
    ⟨st, lock, row, enterTrain_out p ((s.later dt).modPort p Port.locked)⟩
  rw [detect]
  rfl

theorem upstreamBlockLock_wakes (h : (s.port p).st = .wake) (hd : (s.port p).dnLock = true) :
    Answers (.upstreamBlockLock dt p) s fun t => (t.port p).st = .run ∧ (t.port p).upLock = true := by
  have wake : ((s.later dt).port p).st = .wake := h
  have hc : exec (.upstreamBlockLock dt p) s = execUpstreamBlockLock dt p s := rfl
  unfold execUpstreamBlockLock at hc
  have entered := enterRun_enters p ((s.later dt).modPort p Port.locked)
  have lock := entered.upLock
  rw [port_modPort_self] at lock
  refine run_answers_timeless (fun _ _ _ h => h) hc (u := enterRun p ((s.later dt).modPort p Port.locked)) ?_ ⟨entered.st, lock⟩
  rw [wake]
  refine if_pos ?_
  rw [port_modPort_self]
  exact hd

/-- R187: an upstream that locks in RELOCK. -/
theorem upstreamBlockLock_of_relock (h : (s.port p).st = .relock) : ∃ f, exec (.upstreamBlockLock dt p) s = run dt s f ∧
    f (s.later dt) = relockStep p ((s.later dt).modPort p Port.locked) := by
  have relock : ((s.later dt).port p).st = .relock := h
  have hc : exec (.upstreamBlockLock dt p) s = execUpstreamBlockLock dt p s := rfl
  unfold execUpstreamBlockLock at hc
  refine ⟨_, hc, ?_⟩
  rw [relock]
  rfl

theorem upstreamBlockLock_counts (h : (s.port p).st = .relock) (hd : (s.port p).dnLock = true)
    (ha : (s.port p).lockAt = none) :
    exec (.upstreamBlockLock dt p) s = .next ((s.later dt).modPort p fun x =>
      { x with upLock := true, upLos := false, present := true, lockAt := some (s.now + dt) }) := by
  have held : ((s.later dt).port p).dnLock = true ∧ ((s.later dt).port p).lockAt = none := ⟨hd, ha⟩
  obtain ⟨f, hc, effect⟩ := upstreamBlockLock_of_relock (dt := dt) h
  refine run_next hc (effect.trans ?_) rfl rfl
  unfold relockStep
  rw [port_modPort_self]
  simp only [Port.locked, held, Bool.and_self, if_true]
  exact modPort_modPort _ _ _ _

theorem upstreamBlockLock_relocks {a : Nat} (h : (s.port p).st = .relock) (hd : (s.port p).dnLock = true)
    (ha : (s.port p).lockAt = some a) (ht : 100 * a + 64 * blockTime100 s ≤ 100 * (s.now + dt)) :
    Answers (.upstreamBlockLock dt p) s fun t => (t.port p).st = .run ∧ (t.port p).upLock = true := by
  have locked : ((s.later dt).modPort p Port.locked).port p = ((s.later dt).port p).locked := port_modPort_self _ _ _
  have entered := enterRun_enters p ((s.later dt).modPort p Port.locked)
  obtain ⟨f, hc, effect⟩ := upstreamBlockLock_of_relock (dt := dt) h
  refine run_answers_timeless (fun _ _ _ h => h) hc (effect.trans (relockStep_runs ?_ ?_ ?_ ht))
    ⟨entered.st, entered.upLock.trans (congrArg Port.upLock locked)⟩
  · rw [locked]; rfl
  · rw [locked]; exact hd
  · rw [locked]; exact ha

/-- Table 07-9: a lane in OFF or RETIRED takes no notice of its input. -/
theorem input_ignored (h : (s.port p).st = .off ∨ (s.port p).st = .retired) :
    exec (.upstreamBlockLock dt p) s = .next (s.later dt) ∧ exec (.signalDetect dt p) s = .next (s.later dt) := by
  have state : ((s.later dt).port p).st = .off ∨ ((s.later dt).port p).st = .retired := h
  have hl : exec (.upstreamBlockLock dt p) s = execUpstreamBlockLock dt p s := rfl
  have hs : exec (.signalDetect dt p) s = execSignalDetect dt p s := rfl
  unfold execUpstreamBlockLock at hl
  unfold execSignalDetect at hs
  refine ⟨run_next hl ?_ rfl rfl, run_next hs ?_ rfl rfl⟩ <;> rcases state with st | st <;> rw [st]

/-- R186: a signal above the threshold. -/
theorem signalDetect_shows (ho : (s.port p).st ≠ .off) (hr : (s.port p).st ≠ .retired) :
    exec (.signalDetect dt p) s = .next ((s.later dt).modPort p fun x => { x with upLos := false, present := true }) := by
  have hc : exec (.signalDetect dt p) s = execSignalDetect dt p s := rfl
  unfold execSignalDetect at hc
  refine run_next hc ?_ rfl rfl
  split
  · next off => exact absurd off ho
  · next retired => exact absurd retired hr
  · rfl

/-! ### Faults of a lane in RUN -/

/-- R186, R187: the state that a fault takes a lane in RUN to, at the instant of a command. -/
def faultState (p dt : Nat) (s : State) : LaneState :=
  if (recentFaults 0 p (s.later dt)).length < 3 then .relock else .retired

theorem lossOfLock_faults (hl : (s.port p).upLock = true) (h : (s.port p).st = .run) :
    Answers (.lossOfLock dt p) s fun t => (t.port p).upLock = false ∧ t.dv 0x4804 p = satAdd32 (s.dv 0x4804 p) 1 ∧
      (t.port p).st = faultState p dt s := by
  let u := (s.later dt).modPort p fun x => { x with upLock := false, lockAt := none }
  have changed : u.port p = { s.port p with upLock := false, lockAt := none } := port_modPort_self (s.later dt) _ _
  have run : (u.port p).st = .run := (congrArg Port.st changed).trans h
  have faulted := laneFault_of_run p 2 u run
  have hc : exec (.lossOfLock dt p) s = execLossOfLock dt p s := rfl
  unfold execLossOfLock at hc
  refine run_answers_timeless (fun _ _ _ h => h) hc (u := laneFault p 2 u) (if_pos ?_)
    ⟨faulted.upLock.trans (congrArg Port.upLock changed), laneFault_counts p 2 u (by omega), faulted.st⟩
  change ((s.port p).upLock && (u.port p).st.linked) = true
  rw [hl, run]
  rfl

theorem lossOfSignal_faults (hl : (s.port p).upLos = false) (h : (s.port p).st = .run) :
    Answers (.lossOfSignal dt p) s fun t => (t.port p).upLos = true ∧ t.dv 0x4804 p = satAdd32 (s.dv 0x4804 p) 1 ∧
      (t.port p).st = faultState p dt s := by
  let u := (s.later dt).modPort p fun x => { x with upLos := true, upLock := false, lockAt := none }
  have changed : u.port p = { s.port p with upLos := true, upLock := false, lockAt := none } :=
    port_modPort_self (s.later dt) _ _
  have run : (u.port p).st = .run := (congrArg Port.st changed).trans h
  have faulted := laneFault_of_run p 1 u run
  have hc : exec (.lossOfSignal dt p) s = execLossOfSignal dt p s := rfl
  unfold execLossOfSignal at hc
  refine run_answers_timeless (fun _ _ _ h => h) hc (u := laneFault p 1 u) (if_pos ?_)
    ⟨faulted.upLos.trans (congrArg Port.upLos changed), laneFault_counts p 1 u (by omega), faulted.st⟩
  change ((!(s.port p).upLos) && (u.port p).st.linked) = true
  rw [hl, run]
  rfl

theorem telemTimeout_faults {a : Nat} (h : (s.port p).st = .run) (ha : (s.port p).telemAt = some a)
    (ht : a + 4 * s.dv 0x4911 0 * Config.micro ≤ s.now + dt) (hf : (recentFaults 0 p (s.later dt)).length < 3) :
    Answers (.telemTimeout dt p) s fun t => (t.port p).st = .relock ∧ t.dv 0x4804 p = satAdd32 (s.dv 0x4804 p) 1 := by
  have run : ((s.later dt).port p).st = .run := h
  have last : ((s.later dt).port p).telemAt = some a := ha
  have faulted := laneFault_of_run p 4 (s.later dt) run
  rw [if_pos hf] at faulted
  have hc : exec (.telemTimeout dt p) s = execTelemTimeout dt p s := rfl
  unfold execTelemTimeout at hc
  refine run_answers_timeless (fun _ _ _ h => h) hc (u := laneFault p 4 (s.later dt)) ?_
    ⟨faulted.st, laneFault_counts p 4 (s.later dt) (by omega)⟩
  rw [run, last]
  exact if_pos ht

/-! ### IDLE blocks (R186, R187, R189) -/

theorem upstreamIdle_runs {los : Bool} {inp : Fin 2} {echo : Byte} (hl : (s.port p).upLock = true)
    (h : (s.port p).st = .wake ∨ (s.port p).st = .relock ∧
      ∃ a, (s.port p).lockAt = some a ∧ 100 * a + 64 * blockTime100 s ≤ 100 * (s.now + dt)) :
    Answers (.upstreamIdle dt p true los inp echo) s fun t => (t.port p).st = .run ∧ (t.port p).dnLock = true ∧
      (t.port p).input = inp ∧ (t.port p).echo = echo.toNat := by
  let u := (s.later dt).modPort p fun x => { x with dnLock := true, input := inp, echo := echo.toNat, present := true }
  have changed : u.port p = { s.port p with dnLock := true, input := inp, echo := echo.toNat, present := true } :=
    port_modPort_self (s.later dt) _ _
  have entered := enterRun_enters p u
  have hc : exec (.upstreamIdle dt p true los inp echo) s = execUpstreamIdle dt p true los inp echo s := rfl
  unfold execUpstreamIdle at hc
  refine run_answers_timeless (fun _ _ _ h => h) hc (u := enterRun p u) ?_ ⟨entered.st,
    entered.dnLock.trans (congrArg Port.dnLock changed), entered.input.trans (congrArg Port.input changed),
    entered.echo.trans (congrArg Port.echo changed)⟩
  rcases h with wake | ⟨relock, a, ha, ht⟩
  · have state : ((s.later dt).port p).st = .wake := wake
    dsimp only
    rw [state]
    exact if_pos hl
  · have state : ((s.later dt).port p).st = .relock := relock
    dsimp only
    rw [state]
    refine relockStep_runs ?_ ?_ ?_ ht
    · exact (congrArg Port.upLock changed).trans hl
    · exact congrArg Port.dnLock changed
    · exact (congrArg Port.lockAt changed).trans ha

/-! ### Time-outs -/

theorem relockTimeout_trains (h : (s.port p).st = .relock) (ht : (s.port p).since + 40 * Config.micro ≤ s.now + dt)
    (hf : (recentFaults 0 p (s.later dt)).length < 3) :
    Answers (.relockTimeout dt p) s fun t => (t.port p).st = .train ∧ (t.port p).row = 0 := by
  have hc : exec (.relockTimeout dt p) s = execRelockTimeout dt p s := rfl
  exact run_answers_timeless (fun _ _ _ h => h) hc (if_pos ⟨h, ht⟩) (laneFault_expired p 6 (s.later dt) (.inl ⟨h, rfl⟩) hf)

theorem wakeTimeout_trains (h : (s.port p).st = .wake) (ht : (s.port p).since + 2 * Config.milli ≤ s.now + dt)
    (hf : (recentFaults 0 p (s.later dt)).length < 3) :
    Answers (.wakeTimeout dt p) s fun t => (t.port p).st = .train ∧ (t.port p).row = 0 := by
  have hc : exec (.wakeTimeout dt p) s = execWakeTimeout dt p s := rfl
  exact run_answers_timeless (fun _ _ _ h => h) hc (if_pos ⟨h, ht⟩) (laneFault_expired p 8 (s.later dt) (.inr ⟨h, rfl⟩) hf)

end

/-- Settles O27: lock takes a lane on towards RUN (`enterTrain_port`, `enterRun_enters`); what it loses in RUN is a lane fault
(`laneFault_of_run`), and so is a RELOCK or WAKE that lasts too long (`laneFault_expired`). -/
theorem lanesLockAndFail : Obligations.LanesLockAndFail := by
  unfold Obligations.LanesLockAndFail
  refine ⟨?detect, ?wake, ?first, ?relock, ?dark, ?lock, ?signal, ?detected, ?idle, ?status, ?relockLate, ?wakeLate⟩
  case detect => exact fun _ _ _ h => upstreamBlockLock_trains h
  case wake => exact fun _ _ _ h hd => upstreamBlockLock_wakes h hd
  case first => exact fun _ _ _ h hd ha => upstreamBlockLock_counts h hd ha
  case relock => exact fun _ _ _ _ h hd ha ht => upstreamBlockLock_relocks h hd ha ht
  case dark => exact fun _ _ _ h => input_ignored h
  case lock => exact fun _ _ _ hl h => lossOfLock_faults hl h
  case signal => exact fun _ _ _ hl h => lossOfSignal_faults hl h
  case detected => exact fun _ _ _ ho hr => signalDetect_shows ho hr
  case idle => exact fun _ _ _ _ _ _ hl h => upstreamIdle_runs hl h
  case status => exact fun _ _ _ _ h ha ht hf => telemTimeout_faults h ha ht hf
  case relockLate => exact fun _ _ _ h ht hf => relockTimeout_trains h ht hf
  case wakeLate => exact fun _ _ _ h ht hf => wakeTimeout_trains h ht hf

end Sys2Proof.Machine
end

/-! ## O28: training, deep sleep and LANE_CMD (07_head_link.md R183, R188, R189, Table 07-9) -/

section
namespace Sys2Proof.Machine
open Sys2Proof

/-! ### Training (R183) -/

/-- R183: the best FOM, and its row, once row `row` has shown `fom`. -/
def bestOf (fom row : Nat) (best : Option (Nat × Nat)) : Nat × Nat :=
  match best with
  | some (f, r) => if f < fom then (fom, row) else (f, r)
  | none => (fom, row)

/-- R183: the row under trial has shown its FOM. -/
def fomShown (p fom : Nat) (s : State) : State :=
  s.modPort p fun x => { x with best := some (bestOf fom (s.port p).row x.best) }

theorem fomShown_port (p fom : Nat) (s : State) :
    (fomShown p fom s).port p = { s.port p with best := some (bestOf fom (s.port p).row (s.port p).best) } :=
  port_modPort_self _ _ _

theorem trainStep_eq (p fom : Nat) (s : State) : trainStep p fom s =
    if (s.port p).row + 1 < eqRows s p then startRow p ((s.port p).row + 1) (fomShown p fom s)
    else trainEnd p (fomShown p fom s) := by
  have shown : (s.modPort p fun x => { x with best := match x.best with
      | some (f, r) => if f < fom then some (fom, (s.port p).row) else some (f, r)
      | none => some (fom, (s.port p).row) }) = fomShown p fom s := by
    unfold fomShown bestOf
    congr
    funext x
    cases x.best with
    | none => rfl
    | some b => dsimp only; split <;> rfl
  rw [← shown]
  rfl

/-- R183: the next row is tried. -/
theorem trainStep_next {p fom : Nat} {s : State} (h : (s.port p).row + 1 < eqRows s p) :
    ((trainStep p fom s).port p).row = (s.port p).row + 1 ∧
    (trainStep p fom s).out =
      s.out ++ [.txSettings p ((eqRow s p ((s.port p).row + 1)).take 5), .train p 1 ((s.port p).row + 1)] ∧
    ((trainStep p fom s).port p).rowAt = s.now + Config.micro ∧
    ((trainStep p fom s).port p).best = some (bestOf fom (s.port p).row (s.port p).best) := by
  rw [trainStep_eq, if_pos h]
  obtain ⟨ctle, dfe, tried⟩ := startRow_port p (fomShown p fom s) ((s.port p).row + 1)
  rw [tried]
  exact ⟨rfl, startRow_out p (fomShown p fom s) _, rfl, congrArg Port.best (fomShown_port p fom s)⟩

/-- R183: a best FOM that reaches the threshold is recorded. -/
theorem trainStep_last {p fom : Nat} {s : State} (hp : p < 256) (h : eqRows s p ≤ (s.port p).row + 1) {best : Nat × Nat}
    (hb : best = bestOf fom (s.port p).row (s.port p).best) (ht : fieldLE (eqTable s) 2 2 ≤ best.1) :
    ((trainStep p fom s).port p).st = .ident ∧ (trainStep p fom s).dv 0x4811 p = (best.1 * 65536 + best.2) % 2 ^ 64 := by
  subst hb
  rw [trainStep_eq, if_neg h.not_gt]
  generalize hv : fomShown p fom s = v
  have shown : (v.port p).best = some (bestOf fom (s.port p).row (s.port p).best) := by rw [← hv, fomShown_port]
  have table : eqTable v = eqTable s := by rw [← hv]; rfl
  generalize bestOf fom (s.port p).row (s.port p).best = best at *
  have ends : trainEnd p v = enterIdent p ((applyRow p best.2 (v.setDv 0x4811 p (best.1 * 65536 + best.2))).emit
      (.train p 3 best.2)) := by
    unfold trainEnd
    rw [shown, table]
    exact if_neg ht.not_gt
  rw [ends]
  refine ⟨enterIdent_st p _, (dv_of_objects (enterIdent_objects p _) hp (by decide) (by decide)).trans ?_⟩
  exact dv_setDv_self v _ _ _

section
variable {dt : Nat} {p : Fin 64} {s : State}

theorem trainFom_steps {row : Fin 16} {h v : Byte} {e : BitVec 16} (hs : (s.port p).st = .train)
    (hr : (s.port p).row = row.val) (ht : (s.port p).rowAt ≤ s.now + dt) {P : State → Prop}
    (hP : ∀ (t : State) (n : Nat) (q : List Instr), P t → P { t with now := n, pending := q })
    (hu : P (trainStep p (if e = 0 then h.toNat * v.toNat else 0) (s.later dt))) : Answers (.trainFom dt p row h v e) s P := by
  have hc : exec (.trainFom dt p row h v e) s = execTrainFom dt p row h v e s := rfl
  exact run_answers_timeless hP hc (if_pos ⟨hs, hr, ht⟩) hu

theorem trainFom_next {row : Fin 16} {h v : Byte} {e : BitVec 16} {fom : Nat} (hs : (s.port p).st = .train)
    (hr : (s.port p).row = row.val) (hn : row.val + 1 < eqRows s p) (ht : (s.port p).rowAt ≤ s.now + dt)
    (hf : fom = if e = 0#16 then h.toNat * v.toNat else 0) :
    Answers (.trainFom dt p row h v e) s fun t => (t.port p).row = row.val + 1 ∧
      t.out = s.out ++ [.txSettings p ((eqRow s p (row.val + 1)).take 5), .train p 1 (row.val + 1)] ∧
      (t.port p).rowAt = s.now + dt + Config.micro ∧ (t.port p).best = some (bestOf fom row.val (s.port p).best) := by
  subst hf
  rw [← hr] at hn ⊢
  exact trainFom_steps hs hr ht (fun _ _ _ h => h) (trainStep_next (s := s.later dt) hn)

theorem trainFom_last {row : Fin 16} {h v : Byte} {e : BitVec 16} {fom : Nat} {best : Nat × Nat} (hs : (s.port p).st = .train)
    (hr : (s.port p).row = row.val) (ht : (s.port p).rowAt ≤ s.now + dt) (hn : eqRows s p ≤ row.val + 1)
    (hf : fom = if e = 0#16 then h.toNat * v.toNat else 0) (hb : best = bestOf fom row.val (s.port p).best)
    (hm : fieldLE (eqTable s) 2 2 ≤ best.1) :
    Answers (.trainFom dt p row h v e) s fun t => (t.port p).st = .ident ∧
      t.dv 0x4811 p = (best.1 * 65536 + best.2) % 2 ^ 64 := by
  subst hf
  rw [← hr] at hn hb
  exact trainFom_steps hs hr ht (fun _ _ _ h => h) (trainStep_last (s := s.later dt) (by omega) hn hb hm)

/-- R183: a FOM that does not come counts as 0. -/
theorem fomTimeout_next (hs : (s.port p).st = .train)
    (ht : (s.port p).rowAt + 4096 * blockTime100 s / 100 + 5 * Config.micro ≤ s.now + dt)
    (hn : (s.port p).row + 1 < eqRows s p) :
    Answers (.fomTimeout dt p) s fun t => (t.port p).row = (s.port p).row + 1 ∧
      t.out = s.out ++ [.txSettings p ((eqRow s p ((s.port p).row + 1)).take 5), .train p 1 ((s.port p).row + 1)] := by
  have hc : exec (.fomTimeout dt p) s = execFomTimeout dt p s := rfl
  obtain ⟨row, out, -, -⟩ := trainStep_next (fom := 0) (s := s.later dt) hn
  exact run_answers_timeless (fun _ _ _ h => h) hc (if_pos ⟨hs, ht⟩) ⟨row, out⟩

theorem upstreamDeepEnter_shows (hs : (s.port p).st = .deep) :
    exec (.upstreamDeepEnter dt p) s = .next ((s.later dt).modPort p fun x => { x with deepHead := true }) := by
  have hc : exec (.upstreamDeepEnter dt p) s = execUpstreamDeepEnter dt p s := rfl
  exact run_next hc (if_pos hs) rfl rfl

end

/-! ### LANE_CMD (R183, R188, R189) -/

section
variable {row : Row} {bar : Option Nat} {p : Nat} {s : State}

theorem laneCommand_retrains (h : (s.port p).st = .run ∨ (s.port p).st = .train ∨ (s.port p).st = .ident ∨
    (s.port p).st = .relock ∨ (s.port p).st = .wake ∨ (s.port p).st = .mismatch) :
    laneCommand row bar p 1 s = (stOK, enterTrain p (dropWaits p s)) := by
  unfold laneCommand
  rcases h with st | st | st | st | st | st <;> rw [st] <;> rfl

/-- R189: a bar of the head is armed or prints. -/
def headBusy (s : State) (p : Nat) : Bool :=
  (servedBars s p).any fun b => (s.bar b).vb == .armed || (s.bar b).vb == .printing

theorem laneCommand_deepEnters (h : headBusy s p = false) : laneCommand row bar p 2 s = (stOK, enterDeep p s) :=
  if_neg (Bool.eq_false_iff.mp h)

theorem laneCommand_refused (h : headBusy s p = true) : laneCommand row bar p 2 s = (stState, s) := if_pos h

theorem laneCommand_reinstates (h : (s.port p).st = .retired) :
    laneCommand row bar p 4 s = (stOK, enterDetect p (reinstateChan 0 p s)) := by
  unfold laneCommand
  rw [h]
  rfl

theorem enterDeep_deep (h : (s.port p).st = .run) :
    ((enterDeep p s).port p).st = .deep ∧ ∃ os, (enterDeep p s).out = s.out ++ os ++ [.deepEnter p] := by
  unfold enterDeep
  rw [if_pos h, emit_port, port_modPort_self]
  obtain ⟨os, posted⟩ := setLane_out p .deep s
  exact ⟨(setLane_enters p .deep s).st, os, congrArg (· ++ [Out.deepEnter p]) posted⟩

theorem wakeLane_wakes (h : (s.port p).st = .deep) :
    ((wakeLane p s).port p).st = .wake ∧ ((wakeLane p s).port p).deepHead = false := by
  unfold wakeLane
  rw [if_pos h, port_modPort_self]
  exact ⟨(setLane_enters p .wake s).st, rfl⟩

end

/-! ### The map of retirements (R188) -/

section
variable (p : Nat) (s : State)

theorem logBoth_retired (e : LogEntry) : (logBoth e s).mram.retired = s.mram.retired := by
  unfold logBoth logMram; dsimp only
  split <;> rfl

theorem setLane_mram (st : LaneState) : (setLane p st s).mram = s.mram := by
  unfold setLane; dsimp only
  split
  · rfl
  · refine (postD_events _ _ _ _).mram.trans ?_
    split <;> rfl

/-- R188: REINSTATE clears the entry of the lane. -/
theorem reinstateChan_clears : isRetired (enterDetect p (reinstateChan 0 p s)) 0 p = false := by
  have erased : (reinstateChan 0 p s).mram.retired = s.mram.retired.erase (chanKey 0 p) := by
    unfold reinstateChan; dsimp only
    rw [(postD_events _ _ _ _).mram, logBoth_retired]
    rfl
  have detect : (enterDetect p (reinstateChan 0 p s)).mram.retired = s.mram.retired.erase (chanKey 0 p) :=
    (congrArg Mram.retired (setLane_mram p _ .detect)).trans erased
  unfold isRetired Map.has
  rw [detect, Map.get?_erase_self]
  rfl

end

section
variable {dt : Nat} {door : Door} {p : Fin 64} {s : State}

theorem laneCmdRetrain_trains (hw : Written s door 0x4802 p 1 none p 1)
    (h : (s.port p).st = .run ∨ (s.port p).st = .train ∨ (s.port p).st = .ident ∨ (s.port p).st = .relock ∨
      (s.port p).st = .wake ∨ (s.port p).st = .mismatch) :
    Answers (.laneCmdRetrain dt door p) s fun t => (t.port p).st = .train ∧ (t.port p).row = 0 := by
  have hc : exec (.laneCmdRetrain dt door p) s = execLaneCmdRetrain dt door p s := rfl
  obtain ⟨st, row, -⟩ := enterTrain_port p (dropWaits p (s.later dt))
  exact run_answers_timeless (fun _ _ _ h => h) hc
    ((hw.later dt).through laneCommand _ fun _ => laneCommand_retrains (s := s.later dt) h) ⟨st, row⟩

theorem laneCmdDeepEnter_deep (hw : Written s door 0x4802 p 2 none p 2) (h : (s.port p).st = .run)
    (hb : ∀ b ∈ servedBars s p, (s.bar b).vb ≠ .armed ∧ (s.bar b).vb ≠ .printing) :
    Answers (.laneCmdDeepEnter dt door p) s fun t => (t.port p).st = .deep ∧ ∃ os, t.out = s.out ++ os ++ [.deepEnter p] := by
  have idle : headBusy (s.later dt) p = false := by
    refine List.any_eq_false.mpr fun b hm => ?_
    obtain ⟨armed, printing⟩ := hb b hm
    simpa using ⟨armed, printing⟩
  have hc : exec (.laneCmdDeepEnter dt door p) s = execLaneCmdDeepEnter dt door p s := rfl
  exact run_answers_timeless (fun _ _ _ h => h) hc
    ((hw.later dt).through laneCommand _ fun _ => laneCommand_deepEnters idle) (enterDeep_deep (s := s.later dt) h)

theorem laneCmdDeepEnter_refused {b : Nat} (hw : Written s door 0x4802 p 2 none p 2) (hm : b ∈ servedBars s p)
    (hb : (s.bar b).vb = .printing) : (doorWrite door 0x4802 p 2 laneCommand s).1 = stState ∧
      Answers (.laneCmdDeepEnter dt door p) s fun t => t.ports = s.ports := by
  have busy : headBusy s p = true := List.any_eq_true.mpr ⟨b, hm, by rw [hb]; rfl⟩
  obtain ⟨status, -⟩ := hw.leaves fun _ => laneCommand_refused busy
  obtain ⟨-, left⟩ := (hw.later dt).leaves fun _ => laneCommand_refused (s := s.later dt) busy
  have hc : exec (.laneCmdDeepEnter dt door p) s = execLaneCmdDeepEnter dt door p s := rfl
  exact ⟨status, run_answers_of_quiet hc rfl left (congrArg State.ports left :)⟩

theorem laneCmdDeepExit_wakes (hw : Written s door 0x4802 p 3 none p 3) (h : (s.port p).st = .deep) :
    Answers (.laneCmdDeepExit dt door p) s fun t => (t.port p).st = .wake ∧ (t.port p).deepHead = false := by
  have hc : exec (.laneCmdDeepExit dt door p) s = execLaneCmdDeepExit dt door p s := rfl
  exact run_answers_timeless (fun _ _ _ h => h) hc
    ((hw.later dt).through laneCommand _ fun _ => rfl) (wakeLane_wakes (s := s.later dt) h)

theorem laneCmdReinstate_detects (hw : Written s door 0x4802 p 4 none p 4) (h : (s.port p).st = .retired) :
    Answers (.laneCmdReinstate dt door p) s fun t => (t.port p).st = .detect ∧ isRetired t 0 p = false := by
  have hc : exec (.laneCmdReinstate dt door p) s = execLaneCmdReinstate dt door p s := rfl
  exact run_answers_timeless (fun _ _ _ h => h) hc
    ((hw.later dt).through laneCommand _ fun _ => laneCommand_reinstates (s := s.later dt) h)
    ⟨enterDetect_st p _, reinstateChan_clears p (s.later dt)⟩

end

/-- Settles O28: a FOM moves training on or ends it (`trainStep_next`, `trainStep_last`), and each command of LANE_CMD enters the
state that Table 07-9 gives. -/
theorem lanesTrainAndObeyCommands : Obligations.LanesTrainAndObeyCommands := by
  unfold Obligations.LanesTrainAndObeyCommands
  refine ⟨?next, ?last, ?late, ?asleep, ?retrain, ?deep, ?busy, ?exit, ?reinstate⟩
  case next => exact fun _ _ _ _ _ _ _ _ hs hr hn ht hf => trainFom_next hs hr hn ht hf
  case last => exact fun _ _ _ _ _ _ _ _ _ hs hr ht hn hf hb hm => trainFom_last hs hr ht hn hf hb hm
  case late => exact fun _ _ _ hs ht hn => fomTimeout_next hs ht hn
  case asleep => exact fun _ _ _ hs => upstreamDeepEnter_shows hs
  case retrain => exact fun _ _ _ _ hw h => laneCmdRetrain_trains hw h
  case deep => exact fun _ _ _ _ hw h hb => laneCmdDeepEnter_deep hw h hb
  case busy => exact fun _ _ _ _ _ hw hm hb => laneCmdDeepEnter_refused hw hm hb
  case exit => exact fun _ _ _ _ hw h => laneCmdDeepExit_wakes hw h
  case reinstate => exact fun _ _ _ _ hw h => laneCmdReinstate_detects hw h

end Sys2Proof.Machine
end

/-! ## Frames from the head (07_head_link.md R166, R177, R178, R186, Table 07-5, Table 07-6, Table 07-7, Table 07-12) -/

section
namespace Sys2Proof.Machine
open Sys2Proof

/-! ### Reception (R166) -/

section
variable {p : Nat} {f : QhlFrame} {take : State → State} {s : State}

theorem upFrame_taken (hl : (s.port p).upLock = true) (hc : qhlCrc f = true) (hv : qhlValid f = true) :
    upFrame p f take s = take s := by
  simp [upFrame, hl, hc, hv]

theorem upFrame_discarded (hl : (s.port p).upLock = true) (hc : qhlCrc f = true) (hv : qhlValid f = false) :
    upFrame p f take s = s := by
  simp [upFrame, hl, hc, hv]

theorem upFrame_failed (hl : (s.port p).upLock = true) (hc : qhlCrc f = false) : upFrame p f take s = frameCrc p s := by
  simp [upFrame, hl, hc]

/-- R186: a failed CRC is counted and remembered; fewer than 16 within a millisecond are no fault. -/
theorem frameCrc_remembers (h : (crcWindow s.now (s.port p).crcTimes 1).length < 16) : frameCrc p s =
    (s.bump 0x4805 p).modPort p fun x => { x with crcTimes := crcWindow s.now x.crcTimes 1 } := by
  refine if_neg ?_
  rw [port_modPort_self]
  exact h.not_ge

end

/-! ### STATUS (R177, Table 07-6, Table 07-12) -/

theorem dv_setDv_other {p i k : Nat} (h : i ≠ k) (v : Nat) (s : State) : (s.setDv k p v).dv i p = s.dv i p :=
  dv_setDv_of_ne _ _ _ _ _ _ fun e => h (by unfold okey at e; omega)

/-- A 16-bit reading stands in a signed object. -/
theorem dvi_setDvi_self (s : State) (i j v : Nat) : (s.setDvi i j (toSigned 16 v)).dvi i j = toSigned 16 v := by
  have low : -(2 ^ 15 : Int) ≤ toSigned 16 v ∧ toSigned 16 v < 2 ^ 15 := by unfold toSigned; split <;> omega
  unfold State.dvi State.setDvi
  rw [dv_setDv_self]
  generalize toSigned 16 v = x at *
  unfold toSigned ofSigned
  split <;> omega

section
variable {p i : Nat} (hp : p < 256) (hl : 0x4800 ≤ i) (hu : i < 0x4A00)
include hp hl hu

/-- A lane fault moves no object of the head link but LANE_FAULT_COUNT. -/
theorem laneFault_dv (hi : i ≠ 0x4804) (kind : Nat) (s : State) : (laneFault p kind s).dv i p = s.dv i p :=
  (dv_of_objects (laneFault_objects p kind s) hp hl hu).trans (dv_setDv_other hi _ s)

theorem downstreamCrc_dv (hi : i ≠ 0x4804) (n : Nat) (s : State) : (downstreamCrc p n s).dv i p = s.dv i p := by
  unfold downstreamCrc; dsimp only
  split_ifs
  · exact laneFault_dv hp hl hu hi 3 _
  · rfl

theorem headTemp_dv (temp : Int) (s : State) : (headTemp p temp s).dv i p = s.dv i p := by
  refine dv_of_objects (p := p) (s := s) ?_ hp hl hu
  unfold headTemp; dsimp only
  rw [ite_lane, postD_lane, ite_self]
  rfl

end

/-- The objects of Table 07-12 that show the STATUS data `bs`. -/
structure StatusShown (p u : Nat) (bs : List Byte) (t : State) : Prop where
  temp : t.dvi 0x4900 p = toSigned 16 (fieldLE bs 0 2)
  state : t.dv 0x4901 p = fieldLE bs 6 2 * 65536 + (byteAt bs 2).toNat
  mine : t.dv 0x4902 p = fieldLE bs (8 + 4 * u) 4
  other : t.dv 0x4903 p = fieldLE bs (8 + 4 * (1 - u)) 4
  word : t.dv 0x4904 p = fieldLE bs 24 4

theorem StatusShown.of_dv {p u : Nat} {bs : List Byte} {s t : State} (h : StatusShown p u bs s)
    (hd : ∀ i, 0x4900 ≤ i → i ≤ 0x4904 → t.dv i p = s.dv i p) : StatusShown p u bs t where
  temp := (congrArg (toSigned 64) (hd 0x4900 (by decide) (by decide))).trans h.temp
  state := (hd _ (by decide) (by decide)).trans h.state
  mine := (hd _ (by decide) (by decide)).trans h.mine
  other := (hd _ (by decide) (by decide)).trans h.other
  word := (hd _ (by decide) (by decide)).trans h.word

theorem statusShown_written (p u : Nat) (bs : List Byte) (s : State) : StatusShown p u bs
    (((((s.setDvi 0x4900 p (toSigned 16 (fieldLE bs 0 2))).setDv 0x4901 p (fieldLE bs 6 2 * 65536 + (byteAt bs 2).toNat)).setDv
      0x4902 p (fieldLE bs (8 + 4 * u) 4)).setDv 0x4903 p (fieldLE bs (8 + 4 * (1 - u)) 4)).setDv 0x4904 p (fieldLE bs 24 4)) := by
  have four (o : Nat) : fieldLE bs o 4 % 2 ^ 64 = fieldLE bs o 4 := Nat.mod_eq_of_lt ((fieldLE_lt bs o 4).trans (by decide))
  have word : fieldLE bs 6 2 * 65536 + (byteAt bs 2).toNat < 2 ^ 64 := by
    have := fieldLE_lt bs 6 2
    have := (byteAt bs 2).isLt
    omega
  refine ⟨?_, ?_, ?_, ?_, ?_⟩
  · unfold State.dvi
    iterate 4 rw [dv_setDv_other (by decide)]
    exact dvi_setDvi_self s _ _ _
  · iterate 3 rw [dv_setDv_other (by decide)]
    rw [dv_setDv_self, Nat.mod_eq_of_lt word]
  · iterate 2 rw [dv_setDv_other (by decide)]
    rw [dv_setDv_self, four]
  · rw [dv_setDv_other (by decide), dv_setDv_self, four]
  · rw [dv_setDv_self, four]

theorem takeStatus_shows {p : Nat} (hp : p < 256) (bs : List Byte) (s : State) :
    StatusShown p (b2n s.pins.pairId) bs (takeStatus p bs s) := by
  unfold takeStatus; dsimp only
  generalize s.modPort p _ = v
  refine (statusShown_written p (b2n s.pins.pairId) bs v).of_dv fun i hl hu => ?_
  exact (downstreamCrc_dv hp (by omega) (by omega) (by omega) _ _).trans (headTemp_dv hp (by omega) (by omega) _ _)

section
variable {dt : Nat} {p : Fin 64} {e : QhlEnds} {bytes : List Byte} {s : State}

theorem statusTelemetry_frame (h32 : bytes.length = 32) : ∃ f, exec (.statusTelemetry dt p e bytes) s = run dt s f ∧
    f (s.later dt) = upFrame p (framed e bytes) (fun s => if isTelemetry (framed e bytes) 1 then takeStatus p bytes s else s)
      (s.later dt) := by
  have hc : exec (.statusTelemetry dt p e bytes) s = execStatusTelemetry dt p e bytes s := rfl
  exact ⟨_, hc.trans (if_pos h32), rfl⟩

theorem statusTelemetry_shows (h32 : bytes.length = 32) (hl : (s.port p).upLock = true) (hc : qhlCrc (framed e bytes) = true)
    (hv : qhlValid (framed e bytes) = true) (ht : isTelemetry (framed e bytes) 1 = true) :
    Answers (.statusTelemetry dt p e bytes) s (StatusShown p (b2n s.pins.pairId) bytes) := by
  obtain ⟨f, turn, received⟩ := statusTelemetry_frame (dt := dt) (p := p) (e := e) (s := s) h32
  have taken := received.trans ((upFrame_taken (s := s.later dt) hl hc hv).trans (if_pos ht))
  refine run_answers_timeless (fun _ _ _ h => ?_) turn taken
    (takeStatus_shows (by omega) bytes (s.later dt))
  exact h.of_dv fun _ _ _ => rfl

theorem statusTelemetry_discarded (h32 : bytes.length = 32) (hl : (s.port p).upLock = true)
    (hc : qhlCrc (framed e bytes) = true) (hv : qhlValid (framed e bytes) = false) :
    exec (.statusTelemetry dt p e bytes) s = .next (s.later dt) := by
  obtain ⟨f, turn, received⟩ := statusTelemetry_frame (dt := dt) (p := p) (e := e) (s := s) h32
  exact run_next turn (received.trans (upFrame_discarded (s := s.later dt) hl hc hv)) rfl rfl

theorem statusTelemetry_failed (h32 : bytes.length = 32) (hl : (s.port p).upLock = true)
    (hc : qhlCrc (framed e bytes) = false) (hw : (crcWindow (s.now + dt) (s.port p).crcTimes 1).length < 16) :
    exec (.statusTelemetry dt p e bytes) s = .next (((s.later dt).bump 0x4805 p).modPort p fun x =>
      { x with crcTimes := crcWindow (s.now + dt) x.crcTimes 1 }) := by
  obtain ⟨f, turn, received⟩ := statusTelemetry_frame (dt := dt) (p := p) (e := e) (s := s) h32
  have failed := received.trans (upFrame_failed (s := s.later dt) hl hc)
  exact run_next turn (failed.trans (frameCrc_remembers (s := s.later dt) hw)) rfl rfl

end

/-! ### LINE_STATUS (R178, Table 07-5) -/

/-- R178: a line lost or incomplete takes the next record of the log, and changes no port. -/
theorem missedLine_records (p line : Nat) (a b lost : Bool) (s : State) :
    (missedLine p line a b lost s).missNext = s.missNext + 1 ∧ (missedLine p line a b lost s).ports = s.ports := by
  let recorded : State := { s with
    missLog := s.missLog.set (s.missNext % 1024)
      (leBytes 6 line ++ leBytes 1 p ++ leBytes 1 (b2n a + 2 * b2n b + 4 * b2n lost) ++ leBytes 8 s.time)
    missNext := s.missNext + 1 }
  have left : (missedLine p line a b lost s).quiet = recorded.quiet := by
    unfold missedLine; dsimp only
    rw [markRows_quiet, forAll_quiet]
    exact fun _ _ => post_quiet _ _
  exact ⟨(congrArg State.missNext left :), (congrArg State.ports left :)⟩

theorem forAll_missedLine (p : Nat) (lost : List Nat) (s : State) :
    let t := forAll lost (fun m s => missedLine p m false false true s) s
    t.missNext = s.missNext + lost.length ∧ t.ports = s.ports := by
  induction lost generalizing s with
  | nil => exact ⟨rfl, rfl⟩
  | cons m lost ih =>
    obtain ⟨next, ports⟩ := missedLine_records p m false false true s
    obtain ⟨total, kept⟩ := ih (missedLine p m false false true s)
    refine ⟨total.trans ?_, kept.trans ports⟩
    rw [next, List.length_cons]
    omega

theorem lineStatus_records {dt : Nat} {p : Fin 64} {d1 d2 : Byte} {line : BitVec 40} {s : State}
    (hl : (s.port p).upLock = true) (ht : s.trig.line < 2 ^ 40) :
    Answers (.lineStatus dt p d1 d2 line) s fun t =>
      (t.port p).struck = (s.port p).struck.filter (fun m => decide (line.toNat < m)) ∧
      t.missNext = s.missNext + ((s.port p).struck.filter (fun m => decide (m < line.toNat))).length +
        (if bitsN d1.toNat 1 0 = 0 ∨ bitsN d1.toNat 3 2 = 0 then 1 else 0) := by
  have full : s.trig.line / 2 ^ 40 * 2 ^ 40 + line.toNat = line.toNat := by
    rw [Nat.div_eq_of_lt ht, Nat.zero_mul, Nat.zero_add]
  have recent : ¬(s.trig.line < line.toNat ∧ 2 ^ 40 ≤ line.toNat) := fun h => h.2.not_gt line.isLt
  let ended := (s.later dt).modPort p fun x => { x with struck := (s.port p).struck.filter fun m => decide (line.toNat < m) }
  have struck : (ended.port p).struck = (s.port p).struck.filter (fun m => decide (line.toNat < m)) :=
    congrArg Port.struck (port_modPort_self (s.later dt) p _)
  let lost := forAll ((s.port p).struck.filter fun m => decide (m < line.toNat))
    (fun m s => missedLine p m false false true s) ended
  obtain ⟨total, kept⟩ := forAll_missedLine p ((s.port p).struck.filter fun m => decide (m < line.toNat)) ended
  have turn : exec (.lineStatus dt p d1 d2 line) s = execLineStatus dt p d1 d2 line s := rfl
  unfold execLineStatus at turn
  refine run_answers_timeless (fun _ _ _ h => h) turn (u := if bitsN d1.toNat 1 0 == 0 || bitsN d1.toNat 3 2 == 0 then
    missedLine p line.toNat (bitsN d1.toNat 1 0 == 0) (bitsN d1.toNat 3 2 == 0) false lost else lost) ?_ ?_
  · have locked : ((s.later dt).port p).upLock = true := hl
    have clock : (s.later dt).trig.line = s.trig.line := rfl
    simp only [locked, clock, full, recent, if_false, Bool.not_true, Bool.false_eq_true]
    rfl
  · have port {t : State} (h : t.ports = ended.ports) :
        (t.port p).struck = (s.port p).struck.filter (fun m => decide (line.toNat < m)) := by
      rw [← struck]
      unfold State.port
      rw [h]
    split
    · next missed =>
      obtain ⟨next, same⟩ := missedLine_records p line.toNat (bitsN d1.toNat 1 0 == 0) (bitsN d1.toNat 3 2 == 0) false lost
      rw [if_pos (by simpa using missed), next, total]
      exact ⟨port (same.trans kept), rfl⟩
    · next whole =>
      rw [if_neg (by simpa using whole), total]
      exact ⟨port kept, rfl⟩

/-! ### ACT_RESULT (R177, Table 07-7) -/

@[simp] theorem actBar_lane (p q b : Nat) (ks : List Nat) (s : State) : (actBar q ks b s).lane p = s.lane p := by
  simp [actBar]

theorem takeAct_lane (p : Nat) (data : List Byte) (s : State) :
    (takeAct p data s).lane p = (s.setDv 0x4906 p (actFailed data).length).lane p := by
  simp [takeAct]

/-- R177: a unit without the reins shows the count and posts the report. -/
theorem takeAct_standby {p : Nat} {data : List Byte} {s : State} (hp : p < 64) (h : holder s = false) :
    EventsOnly (s.setDv 0x4906 p (actFailed data).length) (takeAct p data s) := by
  unfold takeAct; dsimp only
  generalize hu : postD _ _ _ _ = u
  have posted : EventsOnly (s.setDv 0x4906 p (actFailed data).length) u := hu ▸ postD_events _ _ _ _
  have mode : (s.setDv 0x4906 p (actFailed data).length).dv 0x8000 0 = s.dv 0x8000 0 :=
    dv_setDv_of_ne _ _ _ _ _ _ (by unfold okey; omega)
  have standby : holder u = false := by
    rw [posted.holder, ← h]
    unfold holder pairMode
    rw [mode]
    rfl
  rw [standby]
  exact posted

section
variable {dt : Nat} {p : Fin 64} {e : QhlEnds} {first count : BitVec 16} {id : BitVec 32} {bits : List Byte} {s : State}

theorem actResult_frame (hl : (s.port p).upLock = true) (hc : qhlCrc (framed e (actData first count id bits)) = true)
    (hv : qhlValid (framed e (actData first count id bits)) = true)
    (ht : isTelemetry (framed e (actData first count id bits)) 2 = true) :
    ∃ f, exec (.actResult dt p e first count id bits) s = run dt s f ∧
      f (s.later dt) = takeAct p (framed e (actData first count id bits)).data (s.later dt) := by
  have turn : exec (.actResult dt p e first count id bits) s = execActResult dt p e first count id bits s := rfl
  unfold execActResult at turn
  exact ⟨_, turn, (upFrame_taken (s := s.later dt) hl hc hv).trans (if_pos ht)⟩

theorem actResult_standby (hl : (s.port p).upLock = true) (hc : qhlCrc (framed e (actData first count id bits)) = true)
    (hv : qhlValid (framed e (actData first count id bits)) = true)
    (ht : isTelemetry (framed e (actData first count id bits)) 2 = true) (hh : holder s = false) :
    Answers (.actResult dt p e first count id bits) s fun t => EventsOnly
      ((s.later dt).setDv 0x4906 p (actFailed (framed e (actData first count id bits)).data).length) t := by
  obtain ⟨f, turn, taken⟩ := actResult_frame (dt := dt) hl hc hv ht
  have shown := takeAct_standby (s := s.later dt) (data := (framed e (actData first count id bits)).data) p.isLt hh
  exact run_answers turn taken shown.now shown.pending shown

theorem actResult_counts (hl : (s.port p).upLock = true) (hc : qhlCrc (framed e (actData first count id bits)) = true)
    (hv : qhlValid (framed e (actData first count id bits)) = true)
    (ht : isTelemetry (framed e (actData first count id bits)) 2 = true) :
    Answers (.actResult dt p e first count id bits) s fun t =>
      t.dv 0x4906 p = (actFailed (framed e (actData first count id bits)).data).length % 2 ^ 64 := by
  obtain ⟨f, turn, taken⟩ := actResult_frame (dt := dt) hl hc hv ht
  have shown := takeAct_lane p (framed e (actData first count id bits)).data (s.later dt)
  refine run_answers_timeless (fun _ _ _ h => h) turn taken ?_
  exact (dv_of_objects (congrArg Lane.objects shown) (by omega) (by decide) (by decide)).trans (dv_setDv_self _ _ _ _)

end

end Sys2Proof.Machine
end

/-! ## O29: answers and time-outs of management requests (07_head_link.md R172, R186, Table 07-9) -/

section
namespace Sys2Proof.Machine
open Sys2Proof

/-! ### An OK answer (R172) -/

theorem sendReq_reqs (p : Nat) (r : MgmtReq) (s : State) : ((sendReq p r s).port p).reqs = (s.port p).reqs := by
  unfold sendReq countFrame
  rw [port_modPort_self]
  rfl

/-- R172: sending changes no TAG. -/
theorem pumpReqs_tags (p : Nat) (s : State) :
    ((pumpReqs p s).port p).reqs.map MgmtReq.tag = (s.port p).reqs.map MgmtReq.tag := by
  unfold pumpReqs; dsimp only
  split
  · have sent (xs : List MgmtReq) : ((forAll xs (sendReq p) s).port p).reqs = (s.port p).reqs :=
      forAll_keeps (fun t => (t.port p).reqs) xs _ s (sendReq_reqs p)
    have marked (r : MgmtReq) (c : Prop) [Decidable c] (n : Nat) :
        (if c then { r with tries := 1, sentAt := n } else r).tag = r.tag := by split <;> rfl
    rw [port_modPort_self]
    simp only [sent, List.map_append, List.map_map, Function.comp_def, marked]
    rw [← List.map_append, List.take_append_drop]
  · rfl

/-- R172: the request that an answer ends. -/
def endReq (p : Nat) (r : MgmtReq) (s : State) : State :=
  s.modPort p fun x => { x with reqs := x.reqs.filter fun q => q.tag != r.tag }

theorem endReq_lane (p : Nat) (r : MgmtReq) (s : State) : (endReq p r s).lane p = s.lane p :=
  modPort_lane _ _ _ fun _ => rfl

/-- R172, R174: the answer to a WRITE or an ACTIVATE ends its request. -/
theorem answered_ends {p : Nat} {r : MgmtReq} {ws : List (BitVec 64)} {s : State} (h : r.op = 1 ∨ r.op = 3) :
    ∀ q ∈ ((answered p r ws s).port p).reqs, q.tag ≠ r.tag := by
  obtain ⟨u, pumped, ports⟩ : ∃ u, answered p r ws s = pumpReqs p u ∧ u.ports = (endReq p r s).ports := by
    unfold answered; dsimp only
    rcases h with op | op <;> rw [op]
    · cases r.forPage with
      | none => exact ⟨_, rfl, rfl⟩
      | some g => exact ⟨_, rfl, (congrArg State.ports (ackWrite_quiet p g.1 g.2 (endReq p r s)) :)⟩
    · exact ⟨_, rfl, rfl⟩
  have left : (u.port p).reqs = (s.port p).reqs.filter fun q => q.tag != r.tag := by
    have same : u.port p = (endReq p r s).port p := by
      unfold State.port
      rw [ports]
    rw [same, endReq, port_modPort_self]
  rw [pumped]
  intro q hq
  have tag : q.tag ∈ ((pumpReqs p u).port p).reqs.map MgmtReq.tag := List.mem_map_of_mem hq
  rw [pumpReqs_tags, left] at tag
  obtain ⟨q', hq', same⟩ := List.mem_map.mp tag
  rw [← same]
  simpa using (List.mem_filter.mp hq').2

/-- Table 07-9: the answer to the IDENT read. -/
theorem answered_ident {p : Nat} {r : MgmtReq} {ws : List (BitVec 64)} {s : State} (h : r.op = 2) (hi : (s.port p).st = .ident) :
    (answered p r ws s).lane p = (identRead p ws (endReq p r s)).lane p := by
  have ident : ((endReq p r s).port p).st = .ident := (Lane.st_eq (endReq_lane p r s)).trans hi
  have read : answered p r ws s = pumpReqs p (identRead p ws (endReq p r s)) := by
    unfold answered; dsimp only
    rw [h]
    exact congrArg (pumpReqs p) (if_pos ident)
  rw [read, pumpReqs_lane]

/-! ### IDENT (Table 07-9) -/

/-- The cause of a mismatch rests on the configuration and on what the port has heard of the head. -/
theorem identCause_congr {s t : State} {p : Nat} (ws : List (BitVec 64)) (hp : p < 256)
    (hd : ∀ i j, j < 256 → i ≠ 0x4820 → i ≠ 0x4821 → t.dv i j = s.dv i j) (hi : (t.port p).input = (s.port p).input)
    (he : (t.port p).echo = (s.port p).echo) (hu : t.pins = s.pins) : identCause t p ws = identCause s p ws := by
  have head := hd 0x3200 p hp (by decide) (by decide)
  have rows := hd 0x4210 p hp (by decide) (by decide)
  have coding := hd 0x4800 0 (by decide) (by decide) (by decide)
  have lead : leadLines t = leadLines s := hd 0x4212 0 (by decide) (by decide) (by decide)
  have size : headSize t p = headSize s p := by
    unfold headSize headEn
    rw [head]
  have plane : headPlane s p < 256 := (Nat.mod_lt _ (by decide)).trans_le (by decide)
  have grey : t.greyBits (headPlane t p) = s.greyBits (headPlane s p) := by
    have same : headPlane t p = headPlane s p := by
      unfold headPlane
      rw [head]
    unfold State.greyBits
    rw [same, hd 0x3000 _ plane (by decide) (by decide)]
  unfold identCause; dsimp only
  rw [size, rows, coding, lead, grey, hi, he, hu]

/-- The IDENT words as they stand in the objects and at the port. -/
def identShown (p : Nat) (ws : List (BitVec 64)) (s : State) : State :=
  ((s.setDv 0x4820 p (ws.getD 0 0).toNat).setDv 0x4821 p (ws.getD 1 0).toNat).modPort p fun x => { x with identWords := ws }

theorem identShown_dv {p : Nat} (ws : List (BitVec 64)) (s : State) (hp : p < 256) {i j : Nat} (hj : j < 256)
    (h0 : i ≠ 0x4820) (h1 : i ≠ 0x4821) : (identShown p ws s).dv i j = s.dv i j := by
  refine (dv_setDv_of_ne _ _ _ _ _ _ ?_).trans (dv_setDv_of_ne _ _ _ _ _ _ ?_) <;> unfold okey <;> omega

theorem identShown_words (p : Nat) (ws : List (BitVec 64)) (s : State) :
    (identShown p ws s).dv 0x4820 p = (ws.getD 0 0).toNat ∧ (identShown p ws s).dv 0x4821 p = (ws.getD 1 0).toNat := by
  constructor
  · refine (dv_setDv_other (by decide) _ _).trans ?_
    rw [dv_setDv_self, Nat.mod_eq_of_lt (BitVec.isLt _)]
  · refine (dv_setDv_self (s.setDv 0x4820 p _) _ _ _).trans ?_
    rw [Nat.mod_eq_of_lt (BitVec.isLt _)]

/-- Table 07-9: after the IDENT read a lane runs, or shows the cause of its mismatch. -/
theorem identDone_enters {p : Nat} {ws : List (BitVec 64)} {s : State} (hp : p < 256) {c : Nat} (hc : identCause s p ws = c) :
    ((identDone p ws s).port p).st = (if c = 0 then .run else .mismatch) ∧
    (c ≠ 0 → ((identDone p ws s).port p).mismatch = c) ∧
    ((identDone p ws s).lane p).objects = ((identShown p ws s).lane p).objects := by
  have shown : (identShown p ws s).port p = { s.port p with identWords := ws } :=
    port_modPort_self ((s.setDv 0x4820 p _).setDv 0x4821 p _) p _
  have cause : identCause (identShown p ws s) p ws = c :=
    (identCause_congr ws hp (fun _ _ hj h0 h1 => identShown_dv ws s hp hj h0 h1) (congrArg Port.input shown :)
      (congrArg Port.echo shown :) rfl).trans hc
  have done : identDone p ws s = if c = 0 then enterRun p (identShown p ws s)
      else postD .headMismatch 0 (leBytes 1 p ++ leBytes 1 c)
        ((setLane p .mismatch (identShown p ws s)).modPort p fun x => { x with mismatch := c, reqs := [] }) := by
    rw [← cause]
    rfl
  rw [done]
  split
  · next agrees =>
    have entered := enterRun_enters p (identShown p ws s)
    exact ⟨entered.st, fun differs => absurd agrees differs, entered.objects⟩
  · have entered := setLane_enters p .mismatch (identShown p ws s)
    rw [postD_lane, (postD_events _ _ _ _).port, port_modPort_self]
    exact ⟨entered.st, fun _ => rfl, entered.objects⟩

/-! ### MGMT_RESPONSE -/

/-- R166, R172: the frame `f` is received whole, and is the OK answer to the request `r` in flight. -/
structure OkAnswer (s : State) (p : Nat) (f : QhlFrame) (r : MgmtReq) : Prop where
  lock : (s.port p).upLock = true
  crc : qhlCrc f = true
  valid : qhlValid f = true
  waits : inFlight s p (byteAt f.start 2).toNat = some r
  start : byteAt f.start 0 = 0x78
  op : (byteAt f.start 1).toNat = r.op + 0x80
  ok : byteAt f.start 3 = 0

theorem OkAnswer.taken {s : State} {p : Nat} {f : QhlFrame} {r : MgmtReq} (h : OkAnswer s p f r) :
    upFrame p f (takeAnswer p f) s = answered p r (dataWords f.data) s := by
  refine (upFrame_taken h.lock h.crc h.valid).trans ?_
  unfold takeAnswer
  rw [h.waits]
  exact if_pos ⟨h.start, h.op, h.ok⟩

section
variable {dt : Nat} {p : Fin 64} {e : QhlEnds} {tag status : Byte} {ws : List (BitVec 64)} {f : QhlFrame} {r : MgmtReq}
  {s : State}

theorem mgmtResponse_answers (hf : f = mgmtAnswer e tag status ws) (h : OkAnswer s p f r) :
    ∃ g, exec (.mgmtResponse dt p e tag status ws) s = run dt s g ∧
      g (s.later dt) = answered p r (dataWords f.data) (s.later dt) := by
  subst hf
  have turn : exec (.mgmtResponse dt p e tag status ws) s = execMgmtResponse dt p e tag status ws s := rfl
  have later : OkAnswer (s.later dt) p (mgmtAnswer e tag status ws) r := ⟨h.lock, h.crc, h.valid, h.waits, h.start, h.op, h.ok⟩
  exact ⟨_, turn, later.taken⟩

theorem mgmtResponse_ends (hf : f = mgmtAnswer e tag status ws) (h : OkAnswer s p f r) (ho : r.op = 1 ∨ r.op = 3) :
    Answers (.mgmtResponse dt p e tag status ws) s fun t => ∀ q ∈ (t.port p).reqs, q.tag ≠ r.tag := by
  obtain ⟨g, turn, answer⟩ := mgmtResponse_answers (dt := dt) hf h
  exact run_answers_timeless (fun _ _ _ h => h) turn answer (answered_ends ho)

/-- R186: the head does not hold lock on this unit's input. -/
theorem mgmtResponse_unlocked (hf : f = mgmtAnswer e tag status ws) (h : OkAnswer s p f r) (ho : r.op = 2)
    (hi : (s.port p).st = .ident) (hb : bitN ((dataWords f.data).getD 2 0).toNat (16 + b2n s.pins.pairId) = false)
    (hh : (recentFaults 0 p (s.later dt)).length < 3) :
    Answers (.mgmtResponse dt p e tag status ws) s fun t =>
      (t.port p).st = .detect ∧ t.dv 0x4804 p = satAdd32 (s.dv 0x4804 p) 1 := by
  obtain ⟨g, turn, answer⟩ := mgmtResponse_answers (dt := dt) hf h
  have ident : ((s.later dt).port p).st = .ident := hi
  have read := answered_ident (ws := dataWords f.data) ho ident
  generalize hu : endReq p r (s.later dt) = u at read
  have heard : u.lane p = (s.later dt).lane p := hu ▸ endReq_lane p r (s.later dt)
  have few : (recentFaults 0 p u).length < 3 := hu ▸ hh
  have pins : u.pins = s.pins := by rw [← hu]; rfl
  have fault : identRead p (dataWords f.data) u = laneFault p 2 u := if_neg (by rw [pins, hb]; decide)
  rw [fault] at read
  refine run_answers_timeless (fun _ _ _ h => h) turn answer ⟨?_, ?_⟩
  · exact (Lane.st_eq read).trans (laneFault_of_ident p 2 u ((Lane.st_eq heard).trans hi) few)
  · refine (dv_of_objects (congrArg Lane.objects read) (by omega) (by decide) (by decide)).trans ?_
    rw [laneFault_counts p 2 u (by omega), dv_of_objects (congrArg Lane.objects heard) (by omega) (by decide) (by decide)]
    rfl

theorem mgmtResponse_identifies {words : List (BitVec 64)} (hf : f = mgmtAnswer e tag status ws) (h : OkAnswer s p f r)
    (ho : r.op = 2) (hi : (s.port p).st = .ident) (hw : words = dataWords f.data)
    (hb : bitN (words.getD 2 0).toNat (16 + b2n s.pins.pairId) = true) :
    Answers (.mgmtResponse dt p e tag status ws) s fun t =>
      t.dv 0x4820 p = (words.getD 0 0).toNat ∧ t.dv 0x4821 p = (words.getD 1 0).toNat ∧
      (t.port p).st = (if identCause s p words = 0 then .run else .mismatch) ∧
      (identCause s p words ≠ 0 → (t.port p).mismatch = identCause s p words) := by
  subst hw
  obtain ⟨g, turn, answer⟩ := mgmtResponse_answers (dt := dt) hf h
  have ident : ((s.later dt).port p).st = .ident := hi
  have read := answered_ident (ws := dataWords f.data) ho ident
  generalize hu : endReq p r (s.later dt) = u at read
  have heard : u.lane p = (s.later dt).lane p := hu ▸ endReq_lane p r (s.later dt)
  have device : u.dev = s.dev := by rw [← hu]; rfl
  have pins : u.pins = s.pins := by rw [← hu]; rfl
  have cause : identCause u p (dataWords f.data) = identCause s p (dataWords f.data) :=
    identCause_congr _ (by omega) (fun _ _ _ _ _ => dv_congr device _ _) (congrArg (fun x : Lane => x.port.input) heard)
      (congrArg (fun x : Lane => x.port.echo) heard) pins
  have done : identRead p (dataWords f.data) u = identDone p (dataWords f.data) u := if_pos (by rw [pins]; exact hb)
  rw [done] at read
  obtain ⟨st, mismatch, objects⟩ := identDone_enters (by omega) cause
  obtain ⟨id, caps⟩ := identShown_words p (dataWords f.data) u
  have shown := (congrArg Lane.objects read).trans objects
  refine run_answers_timeless (fun _ _ _ h => h) turn answer ⟨?_, ?_, ?_, fun differs => ?_⟩
  · exact (dv_of_objects shown (by omega) (by decide) (by decide)).trans id
  · exact (dv_of_objects shown (by omega) (by decide) (by decide)).trans caps
  · exact (Lane.st_eq read).trans st
  · exact (congrArg (fun x : Lane => x.port.mismatch) read).trans (mismatch differs)

end

/-! ### MGMT_TIMEOUT (R172) -/

section
variable {dt : Nat} {p : Fin 64} {tag : Byte} {r : MgmtReq} {s : State}

/-- R172: a request that has had no answer for 20 µs. -/
theorem mgmtTimeout_late (hr : inFlight s p tag.toNat = some r) (ht : r.sentAt + 20 * Config.micro ≤ s.now + dt)
    (hm : (s.port p).st.manages = true) :
    ∃ g, exec (.mgmtTimeout dt p tag) s = run dt s g ∧ g (s.later dt) = reqTimeout p r (s.later dt) := by
  have turn : exec (.mgmtTimeout dt p tag) s = execMgmtTimeout dt p tag s := rfl
  unfold execMgmtTimeout at turn
  have waits : inFlight (s.later dt) p tag.toNat = some r := hr
  refine ⟨_, turn, ?_⟩
  rw [waits]
  exact if_pos ⟨ht, hm⟩

theorem reqTimeout_faults {q : Nat} (hm : mayRequest s r = true) (hn : 3 < r.tries) : reqTimeout q r s = laneFault q 7 s := by
  unfold reqTimeout
  rw [hm, if_neg (by decide), if_neg hn.not_ge]

/-- R172: a request is sent again as it was. -/
theorem reqTimeout_repeats {q : Nat} (hm : mayRequest s r = true) (hn : r.tries ≤ 3) :
    (reqTimeout q r s).out = s.out ++ [.mgmt q (mgmtFrame s r)] ∧ (reqTimeout q r s).lane q = s.lane q := by
  unfold reqTimeout
  rw [hm, if_neg (by decide), if_pos hn]
  exact ⟨rfl, (sendReq_lane _ _ _ _).trans (modPort_lane _ _ _ fun _ => rfl)⟩

theorem mgmtTimeout_repeats (hr : inFlight s p tag.toNat = some r) (ht : r.sentAt + 20 * Config.micro ≤ s.now + dt)
    (hm : (s.port p).st.manages = true) (hq : mayRequest s r = true) (hn : r.tries ≤ 3) :
    Answers (.mgmtTimeout dt p tag) s fun t => t.out = s.out ++ [.mgmt p (mgmtFrame s r)] ∧ (t.port p).st = (s.port p).st := by
  obtain ⟨g, turn, late⟩ := mgmtTimeout_late hr ht hm
  obtain ⟨out, lane⟩ := reqTimeout_repeats (q := p) (s := s.later dt) hq hn
  exact run_answers_timeless (fun _ _ _ h => h) turn late ⟨out, Lane.st_eq lane⟩

theorem mgmtTimeout_faults (hr : inFlight s p tag.toNat = some r) (ht : r.sentAt + 20 * Config.micro ≤ s.now + dt)
    (hs : (s.port p).st = .run) (hq : mayRequest s r = true) (hn : 3 < r.tries)
    (hf : (recentFaults 0 p (s.later dt)).length < 3) :
    Answers (.mgmtTimeout dt p tag) s fun t => (t.port p).st = .relock ∧ t.dv 0x4804 p = satAdd32 (s.dv 0x4804 p) 1 := by
  obtain ⟨g, turn, late⟩ := mgmtTimeout_late hr ht (by rw [hs]; rfl)
  have faulted := laneFault_of_run p 7 (s.later dt) hs
  rw [if_pos hf] at faulted
  exact run_answers_timeless (fun _ _ _ h => h) turn (late.trans (reqTimeout_faults (s := s.later dt) hq hn))
    ⟨faulted.st, laneFault_counts p 7 (s.later dt) (by omega)⟩

/-- R172: a unit without the reins repeats no WRITE and no ACTIVATE. -/
theorem mgmtTimeout_standby (hr : inFlight s p tag.toNat = some r) (hq : mayRequest s r = false) :
    exec (.mgmtTimeout dt p tag) s = .next (s.later dt) := by
  have turn : exec (.mgmtTimeout dt p tag) s = execMgmtTimeout dt p tag s := rfl
  unfold execMgmtTimeout at turn
  have waits : inFlight (s.later dt) p tag.toNat = some r := hr
  have barred : mayRequest (s.later dt) r = false := hq
  have nothing : reqTimeout p r (s.later dt) = s.later dt := by
    unfold reqTimeout
    rw [barred]
    rfl
  refine run_next turn ?_ rfl rfl
  rw [waits]
  dsimp only
  rw [nothing, ite_self]

end

/-- Settles O29: a STATUS, LINE_STATUS or ACT_RESULT shows in its objects and records and moves no lane but by a fault; an answer
ends its request, the IDENT read enters what `identDone_enters` gives, and a request without an answer is sent again or is a
fault. -/
theorem headFramesAreTaken : Obligations.HeadFramesAreTaken := by
  unfold Obligations.HeadFramesAreTaken
  refine ⟨?status, ?discarded, ?failed, ?line, ?standby, ?counts, ?ends, ?unlocked, ?ident, ?repeats, ?faults, ?barred⟩
  case status =>
    rintro dt p e bytes f u s rfl h32 hl hc hv ht rfl
    obtain ⟨t, step, shown⟩ := statusTelemetry_shows (dt := dt) h32 hl hc hv ht
    exact ⟨t, step, shown.temp, shown.state, shown.mine, shown.other, shown.word⟩
  case discarded =>
    rintro dt p e bytes f s rfl h32 hl hc hv
    exact statusTelemetry_discarded h32 hl hc hv
  case failed =>
    rintro dt p e bytes f s rfl h32 hl hc hw
    exact statusTelemetry_failed h32 hl hc hw
  case line => exact fun _ _ _ _ _ _ hl ht => lineStatus_records hl ht
  case standby =>
    rintro dt p e first count id bits f s rfl hl hc hv ht hh
    exact actResult_standby hl hc hv ht hh
  case counts =>
    rintro dt p e first count id bits f s rfl hl hc hv ht -
    exact actResult_counts hl hc hv ht
  case ends =>
    exact fun _ _ _ _ _ _ _ _ _ hf hl hc hv hr h0 h1 h3 ho =>
      mgmtResponse_ends hf ⟨hl, hc, hv, hr, h0, h1, h3⟩ ho
  case unlocked =>
    exact fun _ _ _ _ _ _ _ _ _ hf hl hc hv hr h0 h1 h3 ho hi hb hh =>
      mgmtResponse_unlocked hf ⟨hl, hc, hv, hr, h0, h1, h3⟩ ho hi hb hh
  case ident =>
    exact fun _ _ _ _ _ _ _ _ _ _ hf hl hc hv hr h0 h1 h3 ho hi hw hb =>
      mgmtResponse_identifies hf ⟨hl, hc, hv, hr, h0, h1, h3⟩ ho hi hw hb
  case repeats => exact fun _ _ _ _ _ hr ht hm hq hn => mgmtTimeout_repeats hr ht hm hq hn
  case faults => exact fun _ _ _ _ _ hr ht hs hq hn hf => mgmtTimeout_faults hr ht hs hq hn hf
  case barred => exact fun _ _ _ _ _ hr hq => mgmtTimeout_standby hr hq

end Sys2Proof.Machine
end

/-! ## The focus search (R225, R333) -/

section
namespace Sys2Proof.Machine
open Sys2Proof

theorem mirrorAxis_events (n : Nat) (s : State) : EventsOnly s (mirrorAxis n s) := mirror_events _ s

/-- The FOCUS_CFG axis is the search's axis while no search runs. -/
theorem focusAxis_of_idle {s : State} {c : Nat} (h : (s.cam c).search = none) : focusAxis s c = bitsN (s.dv 0x6133 c) 2 0 := by
  unfold focusAxis; rw [h]

theorem focusAxis_of_search {s : State} {c : Nat} {q : Search} (h : (s.cam c).search = some q) : focusAxis s c = q.axis := by
  unfold focusAxis; rw [h]

/-- R225: a move that the axis takes stands with its search. -/
theorem focusMove_moves {s : State} {c : Nat} {p : Int} {q : Search} (hm : focusMayMove s (focusAxis s c) p = true) :
    EventsOnly ((s.modCam c fun x => { x with search := some q }).modAxis (focusAxis s c) fun x =>
      { x with mode := .move, target := p * stepUnit, next := none, armed := none }) (focusMove c p q s) := by
  have may : focusMayMove (s.modCam c fun x => { x with search := some q }) (focusAxis s c) p = true := hm
  unfold focusMove
  simp only [may, if_true]
  exact mirrorAxis_events _ _

/-- R225: the search that FOCUS_GO starts at an instant. -/
def searchFrom (s : State) (c now : Nat) : Search :=
  { start := (s.axis (focusAxis s c)).steps, i := 0, phase := 0, scores := [], final := 0, edge := false, movedAt := now,
    n := s.dv 0x6135 c, step := toSigned 32 (s.dv 0x6134 c), axis := focusAxis s c }

/-- R225: FOCUS_GO of the holder starts the search that its objects give. -/
theorem focusGoEffect_starts {row : Row} {bar : Option Nat} {c : Nat} {w : Slot} {s : State} (hw : w ≠ 0) (hh : holder s = true)
    (he : bitN (s.dv 0x6133 c) 7 = true) (hi : (s.cam c).search = none) :
    focusGoEffect row bar c w s = (stOK, focusMove c (focusPoint (searchFrom s c s.now) 0) (searchFrom s c s.now) s) := by
  rw [focusGoEffect, onDev_apply, if_neg hw, if_neg (by simp [hh]), if_neg (by simp [he, hi])]
  rfl

theorem focusGo_starts {dt : Nat} {door : Door} {k : Fin 4} {c : Nat} {w : Slot} {q : Search} {s : State}
    (hw : Written s door 0x6136 k 1 none c w) (h0 : w ≠ 0) (hh : holder s = true) (he : bitN (s.dv 0x6133 c) 7 = true)
    (hi : (s.cam c).search = none) (hq : q = searchFrom s c (s.now + dt))
    (hm : focusMayMove s (focusAxis s c) (focusPoint q 0) = true) :
    Answers (.focusGo dt door k) s fun t => (t.cam c).search = some q ∧ (t.axis (focusAxis s c)).mode = .move ∧
      (t.axis (focusAxis s c)).target = focusPoint q 0 * stepUnit := by
  subst hq
  have turn : exec (.focusGo dt door k) s = execFocusGo dt door k s := rfl
  have started := (hw.later dt).through focusGoEffect
    (focusMove c (focusPoint (searchFrom s c (s.now + dt)) 0) (searchFrom s c (s.now + dt)) (s.later dt)) fun row =>
    focusGoEffect_starts (row := row) (bar := none) (s := s.later dt) h0 hh he hi
  have moves := focusMove_moves (s := s.later dt) (c := c) (q := searchFrom s c (s.now + dt)) hm
  refine run_answers_timeless (fun _ _ _ h => h) turn started ⟨?_, ?_⟩
  · rw [moves.cam]
    exact congrArg Cam.search (cam_modCam_self (s.later dt) c fun x => { x with search := some (searchFrom s c (s.now + dt)) })
  · have axis : focusAxis (s.later dt) c = focusAxis s c := rfl
    rw [moves.axis, ← axis, axis_modAxis_self]
    exact ⟨rfl, rfl⟩

/-- R333: FOCUS_GO of a unit without the reins is refused and counted. -/
theorem focusGoEffect_refuses {row : Row} {bar : Option Nat} {c : Nat} {w : Slot} {s : State} (hw : w ≠ 0)
    (hh : holder s = false) : focusGoEffect row bar c w s = (stState, s.bump 0x8014 1) := by
  rw [focusGoEffect, onDev_apply, if_neg hw, if_pos (by simp [hh])]

theorem focusGo_refused {dt : Nat} {door : Door} {k : Fin 4} {c : Nat} {w : Slot} {s : State}
    (hw : Written s door 0x6136 k 1 none c w) (h0 : w ≠ 0) (hh : holder s = false) :
    (doorWrite door 0x6136 k 1 focusGoEffect s).1 = stState ∧
    Answers (.focusGo dt door k) s fun t => t.axes = s.axes ∧ t.cams = s.cams ∧ t.dv 0x8014 1 = satAdd32 (s.dv 0x8014 1) 1 := by
  refine ⟨(hw.leaves fun _ => focusGoEffect_refuses h0 hh).1, ?_⟩
  have turn : exec (.focusGo dt door k) s = execFocusGo dt door k s := rfl
  obtain ⟨row, -, answer⟩ := (hw.later dt).doorWrite focusGoEffect
  rw [focusGoEffect_refuses (s := s.later dt) h0 hh] at answer
  have quiet := recordStatus_quiet door 0x6136 k stState ((s.later dt).bump 0x8014 1)
  refine run_answers_timeless (fun _ _ _ h => h) turn (congrArg Prod.snd answer) ⟨?_, ?_, ?_⟩
  · exact (congrArg State.axes quiet :)
  · exact (congrArg State.cams quiet :)
  · rw [dv_congr (recordStatus_dev ..), dv_bump_self]
    rfl

/-! ### The end of a search -/

theorem abandonSearch_events {s : State} {c : Nat} (h : (s.cam c).search.isSome = true) :
    EventsOnly (s.modCam c fun x => { x with search := none }) (abandonSearch c s) := by
  unfold abandonSearch
  rw [if_pos h]
  exact postD_events _ _ _ _

theorem abandonSearch_search (c : Nat) (s : State) : ((abandonSearch c s).cam c).search = none := by
  by_cases h : (s.cam c).search.isSome = true
  · rw [(abandonSearch_events h).cam, cam_modCam_self]
  · unfold abandonSearch
    rw [if_neg h]
    simpa using h

theorem focusAbort_search (c : Nat) (s : State) : ((focusAbort c s).cam c).search = none := by
  unfold focusAbort
  split
  · exact abandonSearch_search c _
  · assumption

/-- R225: a search whose axis stands and that waits for its statistic is abandoned without a ramp. -/
theorem focusAbort_of_waiting {s : State} {c : Nat} {q : Search} (hq : (s.cam c).search = some q) (hp : q.phase = 1) :
    focusAbort c s = abandonSearch c s := by
  unfold focusAbort
  rw [hq]
  exact congrArg (abandonSearch c) (if_neg (by omega))

theorem focusAbort_ends {dt : Nat} {door : Door} {k : Fin 4} {c : Nat} {s : State} (hw : Written s door 0x6136 k 0 none c 0) :
    Answers (.focusAbort dt door k) s fun t => (t.cam c).search = none := by
  have turn : exec (.focusAbort dt door k) s = execFocusAbort dt door k s := rfl
  have aborted := (hw.later dt).through focusGoEffect (focusAbort c (s.later dt)) fun row => by
    rw [focusGoEffect, onDev_apply, if_pos rfl]
  exact run_answers_timeless (fun _ _ _ h => h) turn aborted (focusAbort_search c _)

theorem focusStatTimeout_ends {dt : Nat} {c : Fin 4} {q : Search} {s : State} (hq : (s.cam c).search = some q) (hp : q.phase = 1)
    (ht : q.movedAt + Config.second ≤ s.now + dt) :
    Answers (.focusStatTimeout dt c) s fun t => EventsOnly ((s.later dt).modCam c fun x => { x with search := none }) t := by
  have turn : exec (.focusStatTimeout dt c) s = execFocusStatTimeout dt c s := rfl
  unfold execFocusStatTimeout at turn
  have search : ((s.later dt).cam c).search = some q := hq
  have ended := abandonSearch_events (s := s.later dt) (c := c) (by rw [search]; rfl)
  refine run_answers turn (u := abandonSearch c (s.later dt)) ?_ ended.now ended.pending ended
  rw [search]
  exact (if_pos ⟨hp, ht⟩).trans (focusAbort_of_waiting search hp)

/-- Settles O31: FOCUS_GO of the holder ends in `focusMove_moves`, of another unit in a counted refusal; an abort and the time-out
both end in `abandonSearch`, after which no search runs. -/
theorem focusSearchesStartAndEnd : Obligations.FocusSearchesStartAndEnd := by
  unfold Obligations.FocusSearchesStartAndEnd
  refine ⟨?starts, ?refused, ?aborted, ?late⟩
  case starts => exact fun _ _ _ _ _ _ _ _ hw h0 hh he hi hq hp hm =>
    hp ▸ focusGo_starts hw h0 hh he hi hq (hp ▸ hm)
  case refused => exact fun _ _ _ _ _ _ hw h0 hh => focusGo_refused hw h0 hh
  case aborted => exact fun _ _ _ _ _ _ hw _ => focusAbort_ends hw
  case late => exact fun _ _ _ _ hq hp ht => focusStatTimeout_ends hq hp ht

end Sys2Proof.Machine
end

/-! ## The records of the pair (08_page_scanout.md R196; 09_inspection.md R236; 11_pair_redundancy.md R274 to R276) -/

section
namespace Sys2Proof.Machine
open Sys2Proof

/-! ### What leaves the device state and the pair as they were

The lemmas read them through `quiet`, so that what the operations of Laws/Quiet leave as it was counts here as well. -/

/-- The device state and the pair. -/
def State.stance (s : State) : DevState × Pair := (s.devState, s.pair)

section
variable (k n b p line : Nat) (s : State)

@[simp] theorem ite_stance (c : Prop) [Decidable c] (s t : State) :
    (if c then s else t).quiet.stance = if c then s.quiet.stance else t.quiet.stance := by split <;> rfl

@[simp] theorem forAll_stance {α : Type} (xs : List α) (f : α → State → State)
    (h : ∀ x t, (f x t).quiet.stance = t.quiet.stance) : (forAll xs f s).quiet.stance = s.quiet.stance :=
  forAll_keeps (fun u => u.quiet.stance) xs f s h

@[simp] theorem modPort_stance (f) : (s.modPort p f).quiet.stance = s.quiet.stance := rfl
@[simp] theorem modSupply_stance (f) : (s.modSupply k f).quiet.stance = s.quiet.stance := rfl
@[simp] theorem modMram_stance (f) : (s.modMram f).quiet.stance = s.quiet.stance := rfl
@[simp] theorem modAxis_stance (f) : (s.modAxis k f).quiet.stance = s.quiet.stance := rfl
@[simp] theorem draw_stance : s.draw.2.quiet.stance = s.quiet.stance := rfl
@[simp] theorem logVolatile_stance (e : LogEntry) : (logVolatile e s).quiet.stance = s.quiet.stance := rfl
@[simp] theorem countFrame_stance : (countFrame p s).quiet.stance = s.quiet.stance := rfl
@[simp] theorem addReq_stance (op addr count : Nat) (ws g d) : (addReq p op addr count ws g d s).quiet.stance = s.quiet.stance := rfl

@[simp] theorem pumpReqs_stance : (pumpReqs p s).quiet.stance = s.quiet.stance := by
  simp [pumpReqs, sendReq]

@[simp] theorem writeWords_stance (addr : Nat) (g) (ws) : (writeWords p addr g n ws s).quiet.stance = s.quiet.stance := by
  induction n generalizing addr ws s with
  | zero => rfl
  | succ n ih => rw [writeWords, ite_stance, ih, addReq_stance, ite_self]

@[simp] theorem writePhase_stance (lo hi : Nat) (copy g) : (writePhase p lo hi copy g s).quiet.stance = s.quiet.stance :=
  writeWords_stance _ _ _ _ _ _

@[simp] theorem writeWave_stance (v g) : (writeWave p v g s).quiet.stance = s.quiet.stance := writeWords_stance _ _ _ _ _ _

@[simp] theorem shadowPort_stance (e : Nat) (keys : List Nat) : (shadowPort b e keys p s).quiet.stance = s.quiet.stance := by
  simp [shadowPort]

@[simp] theorem shadowWrites_stance : (shadowWrites b s).quiet.stance = s.quiet.stance := by
  unfold shadowWrites
  split <;> simp

@[simp] theorem sealAt_stance (e : Nat) (merged idle : Bool) : (sealAt b p e merged idle s).quiet.stance = s.quiet.stance := by
  simp [sealAt, sealWrites]

@[simp] theorem sealNow_stance (merged : Bool) : (sealNow b p merged s).quiet.stance = s.quiet.stance := by
  unfold sealNow
  split <;> simp [sealPeer]

@[simp] theorem trySeal_stance : (trySeal b s).quiet.stance = s.quiet.stance := by
  unfold trySeal
  split <;> simp

@[simp] theorem fixFlip_stance (pg : Page) (f residual : Nat) : (fixFlip b pg f residual s).quiet.stance = s.quiet.stance := by
  simp [fixFlip, activates, activateKeys, activatePort]

@[simp] theorem logBoth_stance (e : LogEntry) : (logBoth e s).quiet.stance = s.quiet.stance := by
  simp [logBoth, logMram]

@[simp] theorem setSupply_stance (st : SupplyState) : (setSupply k st s).quiet.stance = s.quiet.stance := by
  simp [setSupply]

@[simp] theorem supplyFollow_stance : (supplyFollow k s).quiet.stance = s.quiet.stance := by
  simp [supplyFollow, riseSupply, mirrorSupply]

@[simp] theorem mirrorHv_stance (en latch : Bool) : (mirrorHv k en latch s).quiet.stance = s.quiet.stance := by
  simp [mirrorHv, standbyClear]

theorem launchLine_stance (m : Nat) : (launchLine m line s).quiet.stance = s.quiet.stance := by
  simp [launchLine, launchPort, sendBursts, sendBurst]

theorem firstLaunches_stance : (firstLaunches s).quiet.stance = s.quiet.stance := by
  simp [firstLaunches, drayPort, launchLine_stance]

end

theorem devState_of_stance {s t : State} (h : t.quiet.stance = s.quiet.stance) : t.devState = s.devState :=
  congrArg Prod.fst h

/-! ### A record at the standby -/

theorem pairMode_of_standby {s : State} (h : holder s = false) : pairMode s = true := by
  cases m : pairMode s with
  | true => rfl
  | false => simp [holder, m] at h

/-- R268: a standby takes a record, having heard it. -/
theorem toStandby_of_standby {s : State} (h : holder s = false) (f : State → State) : toStandby f s = f (heard s) := by
  have mode : pairMode s = true := pairMode_of_standby h
  have still : holder (heard s) = false := h
  unfold toStandby onRecord
  rw [mode, if_pos rfl]
  exact if_neg (by simp [still])

/-- R43, R69: with no BLOCK_END waiting, an effect that leaves the device state as it was is all of its command. -/
theorem settled_of_none_waiting {f : State → State} {s : State} (hw : waitingEnds s = []) (hd : (f s).devState = s.devState) :
    settled f s = f s := by
  unfold settled resumeCut
  rw [hw, hd, if_neg fun h => h.2 h.1]
  rfl

section
variable {dt : Nat} {s : State}

theorem standby_answers {c : Instr} {f : State → State} {p : State → Prop}
    (ht : ∀ (t : State) (n : Nat) (q : List Instr), p t → p { t with now := n, pending := q })
    (hc : exec c s = run dt s (toStandby f)) (hh : holder s = false) (hp : p (f (heard (s.later dt)))) : Answers c s p :=
  run_answers_timeless ht hc (toStandby_of_standby (s := s.later dt) hh f) hp

/-- A record of which a standby's part is settled at once. -/
theorem standby_settles {c : Instr} {f : State → State} {p : State → Prop}
    (ht : ∀ (t : State) (n : Nat) (q : List Instr), p t → p { t with now := n, pending := q })
    (hc : exec c s = run dt s (settled (toStandby f))) (hh : holder s = false) (hw : waitingEnds s = [])
    (hd : (f (heard (s.later dt))).devState = s.devState) (hp : p (f (heard (s.later dt)))) : Answers c s p := by
  have taken := toStandby_of_standby (s := s.later dt) hh f
  refine run_answers_timeless ht hc ?_ hp
  rw [settled_of_none_waiting (s := s.later dt) hw (by rw [taken, hd]; rfl), taken]

end

/-! ### Commits (R274) -/

/-- What the partner's records leave in a bar until it seals and until it is repaired. -/
def Bar.partner (x : Bar) : Option (Nat × Nat) × Option Nat := (x.peerSeal, x.mismatchFrom)

theorem EventsOnly.partner {s t : State} (h : EventsOnly s t) (a : Nat) : (t.bar a).partner = (s.bar a).partner :=
  (congrArg Bar.partner (h.bar a) : (t.bar a).still.partner = (s.bar a).still.partner)

theorem modBar_partner (s : State) (b a : Nat) (f : Bar → Bar) (h : (f (s.bar b)).partner = (s.bar b).partner) :
    ((s.modBar b f).bar a).partner = (s.bar a).partner := by
  by_cases e : a = b
  · subst e; rw [bar_modBar_self, h]
  · rw [bar_modBar_of_ne _ _ e]

theorem rescreen_partner (b e a : Nat) (s : State) : ((rescreen b e s).bar a).partner = (s.bar a).partner := by
  unfold rescreen; dsimp only
  split
  · rw [modBar_partner _ _ _ _ rfl, modBar_partner _ _ _ _ rfl]
  · rw [(postB_events _ _ _ _ _ _).partner, State.bumpBN, State.setBo, modBar_partner _ _ _ _ rfl,
      modBar_partner _ _ _ _ rfl, modBar_partner _ _ _ _ rfl]

theorem joinHeads_partner (b a : Nat) (s : State) : ((joinHeads b s).bar a).partner = (s.bar a).partner := by
  unfold joinHeads
  split
  · rfl
  · rw [modBar_partner _ _ _ _ rfl, State.modGen, modBar_partner _ _ _ _ rfl]

theorem shadowWrites_partner (b a : Nat) (s : State) : ((shadowWrites b s).bar a).partner = (s.bar a).partner := by
  unfold shadowWrites
  split
  · rfl
  · dsimp only
    split
    · rw [State.modGen, modBar_partner _ _ _ _ rfl, bar_eq_of_bars (forAll_bars _ _ _ fun p t => by simp)]
    · split
      · exact modBar_partner _ _ _ _ rfl
      · rfl

theorem sealWrites_partner (b a : Nat) (s : State) : ((sealWrites b s).bar a).partner = (s.bar a).partner := by
  unfold sealWrites; dsimp only
  split <;> split <;> simp only [joinHeads_partner, shadowWrites_partner]

theorem sealAt_partner (b p e : Nat) (merged idle : Bool) (s : State) :
    ((sealAt b p e merged idle s).bar b).partner = (s.bar b).partner := by
  obtain ⟨m, hm⟩ := gapDecide_bar b s
  have sealed : ((gapDecide b s).bar b).partner = (s.bar b).partner := by rw [hm]; rfl
  unfold sealAt; dsimp only
  rw [sealWrites_partner]
  split
  · rw [rescreen_partner, (postB_events _ _ _ _ _ _).partner, modBar_partner _ _ _ _ rfl, sealed]
  · rw [(postB_events _ _ _ _ _ _).partner, modBar_partner _ _ _ _ rfl, sealed]

/-- R274: the comparison of the digests leaves the copies as they are, and no COMMIT record waiting. -/
theorem digestJudge_keeps (b e theirs : Nat) (s : State) : ((digestJudge b e theirs s).bar b).copies = (s.bar b).copies ∧
    ((digestJudge b e theirs s).bar b).peerSeal = (s.bar b).peerSeal := by
  unfold digestJudge; dsimp only
  split
  · exact ⟨rfl, rfl⟩
  · have told (data : List Byte) (u : State) := (postB_events .genMismatch b e 0 data u).trans (pairSend_events (.wantGen b e) _)
    rw [(told _ _).copies, (told _ _).bar_peerSeal, bar_modBar_self, State.bumpB, State.bumpBN, State.setBo, bar_modBar_self]
    exact ⟨rfl, rfl⟩

/-- R274: sealed and judged, the bar has its open copies pending for the page, and what the partner's records left but for a
mismatch. -/
theorem judged_seal (b p theirs : Nat) (merged idle : Bool) (s : State) :
    ((digestJudge b p theirs (sealAt b p p merged idle s)).bar b).peerSeal = (s.bar b).peerSeal ∧
    ∃ m, ((digestJudge b p theirs (sealAt b p p merged idle s)).bar b).copies =
      { live := (s.bar b).live, pend := m, opn := [], openHost := false, openDev := [], heldReq := (s.bar b).heldReq,
        sealedFor := some p } := by
  obtain ⟨copies, waits⟩ := digestJudge_keeps b p theirs (sealAt b p p merged idle s)
  exact ⟨waits.trans (congrArg Prod.fst (sealAt_partner b p p merged idle s) :), _,
    copies.trans (sealAt_copies b p p merged idle s)⟩

/-- R274: a COMMIT record held for a bar with no generation pending and no block write under way seals at the page that it
names. -/
theorem trySeal_peer {b p q theirs : Nat} {merged : Bool} {s : State} (hr : (s.bar b).heldReq = some (q, merged))
    (hp : (s.bar b).peerSeal = some (p, theirs)) (hg : (s.bar b).gen = none) (hb : blockBusy s b = false) :
    ((trySeal b s).bar b).peerSeal = none ∧
    ∃ m, ((trySeal b s).bar b).copies =
      { live := (s.bar b).live, pend := m, opn := [], openHost := false, openDev := [], heldReq := none, sealedFor := some p } := by
  have seals : trySeal b s = releaseWaits b (sealPeer b p theirs merged (noRequest b s)) := by
    have record : ((noRequest b s).bar b).peerSeal = some (p, theirs) := by rw [noRequest, bar_modBar_self]; exact hp
    have now : sealNow b q merged (noRequest b s) = sealPeer b p theirs merged (noRequest b s) := by
      unfold sealNow; rw [record]
    have written : ((s.bar b).opn.isEmpty && (s.bar b).peerSeal.isNone) = false := by rw [hp]; exact Bool.and_false _
    unfold trySeal
    rw [hr]; dsimp only
    rw [written, hg, hb]
    exact congrArg (releaseWaits b) now
  rw [seals, releaseWaits_bar]
  unfold sealPeer; dsimp only
  obtain ⟨waits, m, copies⟩ := judged_seal b p theirs merged
    ((effectivePage (noRequest b s) b p).2 && (effectivePage (noRequest b s) b p).1 == p)
    ((noRequest b s).modBar b fun x => { x with peerSeal := none })
  rw [bar_modBar_self, noRequest, bar_modBar_self] at waits copies
  exact ⟨waits, m, copies⟩

section
variable {dt : Nat} {b : Fin 16} {s : State} (hh : holder s = false)

include hh in
theorem commitRecord_seals {page dig : BitVec 32} (hg : (s.bar b).gen = none) (hb : blockBusy s b = false)
    (hw : waitingEnds s = []) :
    Answers (.commitRecord dt b page dig) s fun t => (t.bar b).heldReq = none ∧ (t.bar b).peerSeal = none ∧
      (t.bar b).opn = [] ∧ (t.bar b).live = (s.bar b).live ∧ ∃ g, (t.bar b).gen = some g ∧ g.page = page.toNat := by
  refine standby_settles (fun _ _ _ h => h) (c := .commitRecord dt b page dig) rfl hh hw ?_ ?_
  · dsimp only
    exact (devState_of_stance (trySeal_stance b _)).trans rfl
  · have self := bar_modBar_self (heard (s.later dt)) b fun x =>
      { x with peerSeal := some (page.toNat, dig.toNat), heldReq := some (page.toNat, (s.bar b).heldReq.isSome) }
    obtain ⟨waits, m, copies⟩ := trySeal_peer (congrArg Bar.heldReq self) (congrArg Bar.peerSeal self)
      ((congrArg Bar.gen self).trans hg) hb
    rw [self] at copies
    exact ⟨congrArg Copies.heldReq copies, waits, congrArg Copies.opn copies, congrArg Copies.live copies,
      Option.map_eq_some_iff.1 (congrArg Copies.sealedFor copies)⟩

/-! ### The copy of a generation (R274) -/

/-- R274: a bar that pends a generation, with the copy in its place. -/
def Bar.repaired (objs : List GenObj) (x : Bar) : Bar :=
  { x with
    mismatchFrom := none
    pend := if x.gen.isSome then genMap x.pend objs else x.pend
    live := if x.gen.isSome then x.live else genMap x.live objs
    gen := x.gen.map fun g => { g with
      screening := (genMap x.pend objs).keys.any isScreening, headKeys := (genMap x.pend objs).keys.filter isHeadTable } }

/-- R274: the copy replaces what is pending, and the mismatch is over. -/
theorem genRepair_pends {n : Nat} {objs : List GenObj} {e : Nat} {g : PendGen} {s : State}
    (he : (s.bar n).mismatchFrom = some e) (hg : (s.bar n).gen = some g) :
    ((genRepair n objs s).bar n).mismatchFrom = none ∧ ((genRepair n objs s).bar n).pend = genMap (s.bar n).pend objs ∧
      ((genRepair n objs s).bar n).live = (s.bar n).live := by
  have self := bar_modBar_self s n (Bar.repaired objs)
  have pends : ((s.modBar n (Bar.repaired objs)).bar n).gen.isSome = true := by rw [self]; simp [Bar.repaired, hg]
  obtain ⟨data, told⟩ : ∃ data, genRepair n objs s = postB .genMismatch n e 1 data (if objs.any (fun o => isScreening o.key) then
      rescreen n e (s.modBar n (Bar.repaired objs)) else s.modBar n (Bar.repaired objs)) := by
    unfold genRepair
    rw [he]
    exact ⟨_, congrArg (fun u => postB .genMismatch n e 1 _ (if objs.any (fun o => isScreening o.key) then rescreen n e u else u))
      (if_pos pends)⟩
  have kept : ∀ u, ((if objs.any (fun o => isScreening o.key) then rescreen n e u else u).bar n).copies = (u.bar n).copies ∧
      ((if objs.any (fun o => isScreening o.key) then rescreen n e u else u).bar n).partner = (u.bar n).partner := by
    intro u
    split
    · exact ⟨rescreen_copies n e n u, rescreen_partner n e n u⟩
    · exact ⟨rfl, rfl⟩
  obtain ⟨copies, partner⟩ := kept (s.modBar n (Bar.repaired objs))
  rw [self] at copies partner
  have events := postB_events .genMismatch n e 1 data (if objs.any (fun o => isScreening o.key) then
      rescreen n e (s.modBar n (Bar.repaired objs)) else s.modBar n (Bar.repaired objs))
  rw [told]
  refine ⟨(events.bar_mismatchFrom n).trans (congrArg Prod.snd partner :), (events.bar_pend n).trans ?_,
    (events.bar_live n).trans ?_⟩
  · refine (congrArg Copies.pend copies :).trans ?_
    simp [Bar.copies, Bar.repaired, hg]
  · refine (congrArg Copies.live copies :).trans ?_
    simp [Bar.copies, Bar.repaired, hg]

include hh in
theorem genCopyDone_repairs {objs : List GenObj} {e : Nat} {g : PendGen} (he : (s.bar b).mismatchFrom = some e)
    (hg : (s.bar b).gen = some g) :
    Answers (.genCopyDone dt b objs) s fun t => (t.bar b).mismatchFrom = none ∧
      (t.bar b).pend = genMap (s.bar b).pend objs ∧ (t.bar b).live = (s.bar b).live := by
  refine standby_answers (fun _ _ _ h => h) (c := .genCopyDone dt b objs) rfl hh ?_
  have fixed : ∃ ps, (holdFixed b (heard (s.later dt))).bar b = { s.bar b with pages := ps } := by
    have read : ((heard (s.later dt)).bar b).mismatchFrom = some e := he
    unfold holdFixed
    rw [read]
    exact ⟨_, bar_modBar_self _ _ _⟩
  obtain ⟨ps, fixed⟩ := fixed
  have repaired := genRepair_pends (objs := objs) (s := holdFixed b (heard (s.later dt)))
    ((congrArg Bar.mismatchFrom fixed).trans he) ((congrArg Bar.gen fixed).trans hg)
  rw [fixed] at repaired
  exact repaired

/-! ### Flip lines (R196) -/

/-- R196: a flip line still to come fixes the line and starts no page. -/
theorem peerFlip_ahead {n m f residual : Nat} {p : Page} {cut : Option Nat} {s : State} (h : s.trig.line < f) :
    peerFlip n m f cut (fixFlip n p f residual s) = fixFlip n p f residual s := by
  have line : (fixFlip n p f residual s).trig = s.trig := by rw [← trig_quiet, fixFlip_trigger, trig_quiet]
  refine if_neg fun due => absurd due.1 ?_
  rw [line]
  exact h.not_ge

/-- R196: the page that a flip record names is one of the bar's. -/
theorem notStarted_present {n m : Nat} {p : Page} {s : State}
    (h : (notStarted s n).find? (fun p => p.num == m && p.flip.isNone) = some p) : (s.page? n p.num).isSome = true ∧ p.num = m := by
  have found := List.find?_some h
  rw [Bool.and_eq_true, beq_iff_eq] at found
  exact ⟨youngest_isSome.mpr ⟨p, (List.mem_filter.mp (List.mem_of_find?_eq_some h)).1, rfl⟩, found.1⟩

include hh in
theorem flipRecord_fixes {page : BitVec 32} {flip : Nat} {p : Page} (hl : s.trig.line < flip) (hw : waitingEnds s = [])
    (hp : (notStarted s b).find? (fun p => p.num == page.toNat && p.flip.isNone) = some p) :
    Answers (.flipRecord dt b page flip none) s fun t => ∃ q, t.page? b page.toNat = some q ∧ q.flip = some flip := by
  obtain ⟨present, num⟩ := notStarted_present hp
  have found : (notStarted (heard (s.later dt)) b).find? (fun p => p.num == page.toNat && p.flip.isNone) = some p := hp
  have ahead := peerFlip_ahead (n := b) (m := page.toNat) (p := p) (cut := none) (s := heard (s.later dt))
    (residual := ownResidual (heard (s.later dt)) b flip) hl
  have fixed := fixFlip_flip (b := b) (p := p) (s := heard (s.later dt)) present flip (ownResidual (heard (s.later dt)) b flip)
  refine standby_settles (fun _ _ _ h => h) (c := .flipRecord dt b page flip none) rfl hh hw ?_ ?_
  · dsimp only
    rw [found]; dsimp only
    rw [ahead, devState_of_stance (fixFlip_stance _ _ _ _ _)]
    rfl
  · dsimp only
    rw [found]; dsimp only
    rw [ahead, ← num]
    exact fixed

include hh in
theorem flipRecord_waits {page : BitVec 32} {flip : Nat} (hp : s.page? b page.toNat = none) (hw : waitingEnds s = []) :
    Answers (.flipRecord dt b page flip none) s fun t => (page.toNat, flip, none) ∈ (t.bar b).scan.ahead := by
  have unknown : (notStarted (heard (s.later dt)) b).find? (fun p => p.num == page.toNat && p.flip.isNone) = none := by
    cases found : (notStarted (heard (s.later dt)) b).find? (fun p => p.num == page.toNat && p.flip.isNone) with
    | none => rfl
    | some p =>
      obtain ⟨present, num⟩ := notStarted_present found
      have absent : (heard (s.later dt)).page? b p.num = none := by rw [num]; exact hp
      rw [absent] at present
      cases present
  have absent : ((heard (s.later dt)).page? b page.toNat).isSome = false :=
    Option.isSome_eq_false_iff.mpr (Option.isNone_iff_eq_none.mpr hp)
  refine standby_settles (fun _ _ _ h => h) (c := .flipRecord dt b page flip none) rfl hh hw ?_ ?_
  · dsimp only
    rw [unknown]; dsimp only
    rw [absent]
    rfl
  · dsimp only
    rw [unknown]; dsimp only
    rw [absent, if_neg Bool.false_ne_true, State.modScan, bar_modBar_self]
    exact List.mem_append_right _ (List.mem_singleton.mpr rfl)

/-! ### Bands (R144) -/

/-- R141, R171: the band-select blocks of a change of bar `n`, one for each head that it governs. -/
theorem bandSelects_out (n : Nat) (c : BandChange) (s : State) : bandSelects n c s =
    { s with
      out := s.out ++ ((headPorts s).filter fun p => governor s p == some n && (s.port p).st == .run).map fun p =>
        Out.bandSelect p (s.pageN n c.page 0x4101 c.band) (s.pageN n c.page 0x4102 c.band) c.line } := by
  unfold bandSelects
  generalize (headPorts s).filter _ = ps
  induction ps generalizing s with
  | nil => simp [forAll]
  | cons p ps ih =>
    rw [forAll_cons, ih, List.map_cons, List.append_cons]
    rfl

/-- R144: a bar with a change of band to come. -/
def Bar.toldOf (c : BandChange) (x : Bar) : Bar := { x with scan := { x.scan with bandChange := x.scan.bandChange ++ [c] } }

/-- R144: a change of a line still to come stands, and its band-select blocks go out. -/
theorem peerBand_waits {n : Nat} {c : BandChange} {s : State} (h : s.trig.line < c.line) :
    ((peerBand n c s).bar n).scan.bandChange = (s.bar n).scan.bandChange ++ [c] ∧
    ((peerBand n c s).bar n).scan.band = (s.bar n).scan.band ∧
    ∀ p ∈ headPorts s, governor s p = some n → (s.port p).st = .run →
      Out.bandSelect p (s.pageN n c.page 0x4101 c.band) (s.pageN n c.page 0x4102 c.band) c.line ∈ (peerBand n c s).out := by
  have stands : peerBand n c s = bandSelects n c (s.modBar n (Bar.toldOf c)) := if_neg h.not_ge
  have self := bar_modBar_self s n (Bar.toldOf c)
  rw [stands, bandSelects_out]
  refine ⟨(congrArg (fun x : Bar => x.scan.bandChange) self :), (congrArg (fun x : Bar => x.scan.band) self :), fun p hp hg hr => ?_⟩
  refine List.mem_append_right _ (List.mem_map.mpr ⟨p, List.mem_filter.mpr ⟨hp, ?_⟩, ?_⟩)
  · exact Bool.and_eq_true_iff.mpr ⟨beq_iff_eq.mpr hg, beq_iff_eq.mpr hr⟩
  · unfold State.pageN
    rw [self]
    rfl

include hh in
theorem bandRecord_waits {band : Fin 8} {line : Nat} {stop held : Bool} (hl : s.trig.line < line) :
    Answers (.bandRecord dt b band ⟨line, stop, held⟩) s fun t => (t.bar b).scan.bandChange = (s.bar b).scan.bandChange ++
        [{ line := line, band := band.val, stop := stop, held := held, page := bandPageAt s b line }] ∧
      (t.bar b).scan.band = (s.bar b).scan.band ∧
      ∀ p ∈ headPorts s, governor s p = some b.val → (s.port p).st = .run →
        Out.bandSelect p (s.pageN b (bandPageAt s b line) 0x4101 band) (s.pageN b (bandPageAt s b line) 0x4102 band) line
          ∈ t.out :=
  standby_answers (fun _ _ _ h => h) (c := .bandRecord dt b band ⟨line, stop, held⟩) rfl hh
    (peerBand_waits (n := b) (s := heard (s.later dt))
      (c := { line := line, band := band.val, stop := stop, held := held, page := bandPageAt s b line }) hl)

/-- R141: what a change of band leaves of the scan. -/
theorem changeBand_scan (n line new : Nat) (stop held : Bool) (s : State) : ((changeBand n line new stop held s).bar n).scan =
    { (s.bar n).scan with band := new, bandDwell := 0, bandQuiet := 0 } := by
  have objects (u : State) (i j v : Nat) : ((u.setBo n i j v).bar n).scan = (u.bar n).scan := by
    rw [State.setBo, bar_modBar_self]
  have logged (u : State) (old : Nat) : ((bandLog n line old new stop held u).bar n).scan = (u.bar n).scan :=
    (forAll_keeps (fun t => (t.bar n).scan) _ _ _ fun i t => objects t _ _ _).trans (objects u _ _ _)
  have paged (ps : List Page) (u : State) :
      ((forAll ps (fun p s => s.modPage n p.num (bandPage line)) u).bar n).scan = (u.bar n).scan :=
    forAll_keeps (fun t => (t.bar n).scan) _ _ _ fun p t => by
      obtain ⟨l, e⟩ := bar_modPage t n p.num (bandPage line)
      rw [e]
  unfold changeBand; dsimp only
  split
  · rw [State.modScan, bar_modBar_self]
  · rw [(postB_events _ _ _ _ _ _).bar_scan, State.bumpB, State.bumpBN, objects, logged, paged, State.modScan, bar_modBar_self]

/-- R144: a change of a line that has passed acts at once. -/
theorem peerBand_passed {n : Nat} {c : BandChange} {s : State} (h : c.line ≤ s.trig.line) : ((peerBand n c s).bar n).scan =
    { (s.bar n).scan with band := c.band, bandDwell := 0, bandQuiet := 0 } := by
  have passed : peerBand n c s = changeBand n c.line c.band c.stop c.held s := if_pos h
  rw [passed, changeBand_scan]

include hh in
theorem bandRecord_acts {band : Fin 8} {line : Nat} {stop held : Bool} (hl : line ≤ s.trig.line) :
    Answers (.bandRecord dt b band ⟨line, stop, held⟩) s fun t => (t.bar b).scan.band = band.val ∧
      (t.bar b).scan.bandDwell = 0 ∧ (t.bar b).scan.bandQuiet = 0 ∧ (t.bar b).scan.bandChange = (s.bar b).scan.bandChange := by
  have acts := standby_answers (p := fun t => (t.bar b).scan =
      { (s.bar b).scan with band := band.val, bandDwell := 0, bandQuiet := 0 }) (fun _ _ _ h => h)
    (c := .bandRecord dt b band ⟨line, stop, held⟩) (dt := dt) rfl hh (peerBand_passed (n := b) (s := heard (s.later dt))
      (c := { line := line, band := band.val, stop := stop, held := held, page := bandPageAt s b line }) hl)
  obtain ⟨t, step, scan⟩ := acts
  exact ⟨t, step, congrArg Scan.band scan, congrArg Scan.bandDwell scan, congrArg Scan.bandQuiet scan,
    (congrArg Scan.bandChange scan :)⟩

/-! ### Acknowledgements (R174) -/

include hh in
theorem ackRecord_clears {p : Fin 64} {g : PendGen} (hg : (s.bar b).gen = some g) :
    Answers (.ackRecord dt b p) s fun t => (t.bar b).gen = some { g with headWait := g.headWait.filter (fun q => q != p.val) } ∧
      (t.bar b).heads = (s.bar b).heads.map (PendGen.acked p) := by
  refine standby_answers (fun _ _ _ h => h) (c := .ackRecord dt b p) rfl hh ?_
  have gen : ((heard (s.later dt)).bar b).gen = some g := hg
  unfold State.modWaits State.modHeads State.modGen
  rw [bar_modBar_self, bar_modBar_self, gen]
  exact ⟨rfl, rfl⟩

/-! ### Mirrored state (R275, R332, Table 11-3) -/

/-- R268: the mirror lag reads at most 1,000 ns, in DOZE 10,000; nothing else changes but the free values drawn. -/
theorem mirrorLag_reads (s : State) : (mirrorLag s).dv 0x8013 0 ≤ (if s.devState = .doze then 10000 else 1000) ∧
    (mirrorLag s).devState = s.devState ∧ (mirrorLag s).axes = s.axes ∧ (mirrorLag s).supplies = s.supplies := by
  refine ⟨?_, rfl, rfl, rfl⟩
  unfold mirrorLag; dsimp only
  rw [dv_setDv_self]
  refine (Nat.mod_le _ _).trans ?_
  have state : s.draw.2.devState = s.devState := rfl
  rw [state]
  split <;> simp_all <;> omega

include hh in
theorem mirrorAxis_followed {a : Fin 8} {target : BitVec 64} {moving : Bool} {v acc j : BitVec 32} (hw : waitingEnds s = []) :
    Answers (.mirrorRecord dt (.axis a target moving v acc j)) s fun t => (t.axis a).mirrorTarget = target.toInt ∧
      (t.axis a).mirrorMoving = moving ∧ (t.axis a).mirrorProfile = some (v.toNat, acc.toNat, j.toNat) ∧
      t.dv 0x8013 0 ≤ if s.devState = .doze then 10000 else 1000 := by
  let u := (heard (s.later dt)).modAxis a fun x =>
    { x with mirrorTarget := target.toInt, mirrorMoving := moving, mirrorProfile := some (v.toNat, acc.toNat, j.toNat) }
  have self := axis_modAxis_self (heard (s.later dt)) a fun x =>
    { x with mirrorTarget := target.toInt, mirrorMoving := moving, mirrorProfile := some (v.toNat, acc.toNat, j.toNat) }
  obtain ⟨lag, state, axes, -⟩ := mirrorLag_reads u
  have axis : (mirrorLag u).axis a = u.axis a := by unfold State.axis; rw [axes]
  refine standby_settles (fun _ _ _ h => h) (c := .mirrorRecord dt (.axis a target moving v acc j)) rfl hh hw state ?_
  exact ⟨(congrArg Axis.mirrorTarget axis).trans (congrArg Axis.mirrorTarget self),
    (congrArg Axis.mirrorMoving axis).trans (congrArg Axis.mirrorMoving self),
    (congrArg Axis.mirrorProfile axis).trans (congrArg Axis.mirrorProfile self), lag⟩

/-- The mirrored state of a supply and its HVEN. -/
def Supply.mirrored (x : Supply) : Bool × Bool × Bool := (x.mirrorEn, x.mirrorLatch, x.hven)

theorem setSupply_supply (k : Nat) (st : SupplyState) (s : State) : (setSupply k st s).supply k = { s.supply k with st := st } := by
  unfold setSupply; dsimp only
  split
  · next same => rw [← same]
  · rw [(postD_events _ _ _ _).supply, supply_modSupply_self]

theorem standbyClear_mirrored (k : Nat) (s : State) : ((standbyClear k s).supply k).mirrored = (s.supply k).mirrored := by
  unfold standbyClear; dsimp only
  split
  · rw [setSupply_supply]; rfl
  · rfl

theorem riseSupply_mirrored (k : Nat) (s : State) : ((riseSupply k s).supply k).mirrored =
    ((s.supply k).mirrorEn, (s.supply k).mirrorLatch, true) := by
  unfold riseSupply mirrorSupply; dsimp only
  rw [(mirror_events _ _).supply, setSupply_supply, supply_modSupply_self]
  rfl

/-- R332: HVEN of a standby follows the enable of the mirror: low without it, high in OFF with it while the link is up. -/
theorem supplyFollow_mirrored (k : Nat) (s : State) : ∃ h, ((supplyFollow k s).supply k).mirrored =
    ((s.supply k).mirrorEn, (s.supply k).mirrorLatch, h) ∧ ((s.supply k).mirrorEn = false → h = false) ∧
    ((s.supply k).mirrorEn = true → s.pair.linkUp = true → (s.supply k).st = .off → h = true) := by
  unfold supplyFollow; dsimp only
  by_cases on : ((s.supply k).mirrorEn && s.pair.linkUp) = true
  · obtain ⟨en, up⟩ := Bool.and_eq_true_iff.mp on
    rw [if_pos on]
    split
    · exact ⟨true, riseSupply_mirrored k s, fun off => absurd (off.symm.trans en) Bool.false_ne_true, fun _ _ _ => rfl⟩
    · next other => exact ⟨_, rfl, fun off => absurd (off.symm.trans en) Bool.false_ne_true, fun _ _ off => absurd off other⟩
  · rw [if_neg on]
    refine ⟨false, ?_, fun _ => rfl, fun en up => absurd (Bool.and_eq_true_iff.mpr ⟨en, up⟩) on⟩
    split
    · rw [supply_modSupply_self]; rfl
    · rw [setSupply_supply, supply_modSupply_self]; rfl

theorem logBoth_supplies (e : LogEntry) (s : State) : (logBoth e s).supplies = s.supplies := by
  unfold logBoth logMram; dsimp only
  split <;> rfl

/-- R332: the mirrored state of a supply is the holder's, and its HVEN follows. -/
theorem mirrorHv_mirrored (k : Nat) (en latch : Bool) (s : State) : ∃ h,
    ((mirrorHv k en latch s).supply k).mirrored = (en, latch, h) ∧ (en = false → h = false) ∧
    (en = true → s.pair.linkUp = true → (s.supply k).st = .off → h = true) := by
  obtain ⟨h, follows, low, high⟩ := supplyFollow_mirrored k
    (s.modSupply k fun x => { x with mirrorEn := en, mirrorLatch := latch })
  rw [supply_modSupply_self] at follows low high
  refine ⟨h, Eq.trans ?_ ((standbyClear_mirrored k _).trans follows), low, high⟩
  have logged (c : Prop) [Decidable c] (e : LogEntry) (u : State) : (if c then u else logBoth e u).supply k = u.supply k := by
    unfold State.supply
    split
    · rfl
    · rw [logBoth_supplies]
  exact congrArg Supply.mirrored (logged _ _ _)

include hh in
theorem mirrorSupply_followed {k : Fin 16} {en latch : Bool} (hw : waitingEnds s = []) :
    Answers (.mirrorRecord dt (.supply k en latch)) s fun t => (t.supply k).mirrorEn = en ∧
      (t.supply k).mirrorLatch = latch ∧ (en = false → (t.supply k).hven = false) ∧
      (en = true → s.pair.linkUp = true → (s.supply k).st = .off → (t.supply k).hven = true) := by
  obtain ⟨h, follows, low, high⟩ := mirrorHv_mirrored k en latch (heard (s.later dt))
  obtain ⟨-, state, -, supplies⟩ := mirrorLag_reads (mirrorHv k en latch (heard (s.later dt)))
  have shown : ((mirrorLag (mirrorHv k en latch (heard (s.later dt)))).supply k).mirrored = (en, latch, h) := by
    unfold State.supply
    rw [supplies]
    exact follows
  have hven : ((mirrorLag (mirrorHv k en latch (heard (s.later dt)))).supply k).hven = h := congrArg (fun x => x.2.2) shown
  refine standby_settles (fun _ _ _ h => h) (c := .mirrorRecord dt (.supply k en latch)) rfl hh hw ?_ ?_
  · exact state.trans ((devState_of_stance (mirrorHv_stance k _ en latch)).trans rfl)
  · exact ⟨congrArg (fun x => x.1) shown, congrArg (fun x => x.2.1) shown, fun off => hven.trans (low off),
      fun on up off => hven.trans (high on up off)⟩

/-! ### The line numbers (R276) -/

/-- R276: alignment takes the active's line number. -/
theorem align_aligns (n : Nat) (p h : Int) (s : State) : (align n p h s).trig.line = n ∧ (align n p h s).pair.aligned = true ∧
    (align n p h s).pair.strikesStopped = false := by
  unfold align; dsimp only
  generalize hu : ((setK n p h (s.modTrig fun t => { t with line := n })).modTrig _).modPair _ = u
  have trig : (firstLaunches u).trig = u.trig := by rw [← trig_quiet, firstLaunches_trigger, trig_quiet]
  have pair : (firstLaunches u).pair = u.pair := congrArg Prod.snd (firstLaunches_stance u)
  rw [trig, pair, ← hu]
  exact ⟨rfl, rfl, rfl⟩

include hh in
theorem xchkRecord_aligns {line : Nat} {pos h : Int} (he : s.trig.en = true) (ha : s.pair.aligned = false)
    (hl : s.trig.line < line + 1) :
    Answers (.xchkRecord dt line pos h) s fun t => t.trig.line = line ∧ t.pair.aligned = true ∧ t.pair.strikesStopped = false := by
  have en : (heard (s.later dt)).trig.en = true := he
  have unaligned : (heard (s.later dt)).pair.aligned = false := ha
  have ahead : ¬ line + 1 ≤ (heard (s.later dt)).trig.line := hl.not_ge
  refine standby_answers (fun _ _ _ h => h) (c := .xchkRecord dt line pos h) rfl hh ?_
  unfold xchkTake
  rw [en, unaligned, if_neg (by decide), if_pos (by decide), if_neg ahead]
  exact align_aligns line pos h _

include hh in
theorem xchkRecord_untriggered {line : Nat} {pos h : Int} (he : s.trig.en = false) :
    exec (.xchkRecord dt line pos h) s = .next ((s.later dt).modPair fun x => { x with recordAt := s.now + dt }) := by
  have off : (heard (s.later dt)).trig.en = false := he
  refine run_next (c := .xchkRecord dt line pos h) rfl ((toStandby_of_standby (s := s.later dt) hh _).trans ?_) rfl rfl
  unfold xchkTake
  rw [off]
  rfl

end

/-! ### The partner's measurements (R236) -/

theorem modStrip_strips (b first : Nat) (f : Strip → Strip) (s : State) : ((modStrip b first f s).bar b).scan.strips =
    (s.bar b).scan.strips.map fun x => if x.first = first then f x else x := by
  rw [modStrip, State.modScan, bar_modBar_self]

/-- The strip at a datum line after a change of it. -/
theorem stripAt_modStrip {b first : Nat} {f : Strip → Strip} (hf : ∀ x, (f x).first = x.first) (s : State) :
    stripAt (modStrip b first f s) b first = (stripAt s b first).map f := by
  unfold stripAt
  rw [modStrip_strips, List.find?_map]
  have same : ((fun x : Strip => x.first == first) ∘ fun x => if x.first = first then f x else x) = fun x => x.first == first := by
    funext x
    dsimp only [Function.comp]
    split
    · rw [hf]
    · rfl
  rw [same]
  cases found : (s.bar b).scan.strips.find? fun x => x.first == first with
  | none => rfl
  | some y =>
    have first_eq := List.find?_some found
    exact congrArg some (if_pos (beq_iff_eq.mp first_eq))

/-- R235: a strip that a camera port of this unit still measures is not done. -/
theorem stripDoneAt_open {b first : Nat} {s : State} (h : ∀ y, stripAt s b first = some y → ownEnded s y = false) :
    stripDoneAt b first s = s := by
  unfold stripDoneAt
  cases found : stripAt s b first with
  | none => rfl
  | some y =>
    unfold stripDone
    exact if_pos (by simp [h y found])

/-- R236: the strip that a record of a head port belongs to is one of the bar's. -/
theorem recordStrip_mem {s : State} {b p : Nat} {x : Strip} (h : recordStrip s b p = some x) : x ∈ (s.bar b).scan.strips :=
  (List.mem_filter.mp (List.mem_of_getLast? h)).1

/-- R236: a strip with the partner's records of head port `p` put beside what it has. -/
def Strip.joined (p : Nat) (own : Map MeasNoz) (items : List MeasItem) (y : Strip) : Strip :=
  { y with got := putPeer p own items y.got }

/-- R236: the records join an open strip, and do no more. -/
theorem takeMeas_of_open {b p : Nat} {items : List MeasItem} {x : Strip} {s : State} (hx : recordStrip s b p = some x)
    (hn : x.measured = false) (hc : ∃ c ∈ stripPorts s x, c ∉ x.gone)
    (ho : ∀ y, stripAt s b x.first = some y → ownEnded s y = false) :
    takeMeas b p items s = modStrip b x.first (Strip.joined p x.got items) s := by
  obtain ⟨c, port, stays⟩ := hc
  have some_stays : (x.measured || (stripPorts s x).all fun c => x.gone.contains c) = false := by
    rw [hn, Bool.false_or, List.all_eq_false]
    exact ⟨c, port, by simpa using stays⟩
  have unfinished : stripDoneAt b x.first (modStrip b x.first (Strip.joined p x.got items) s) =
      modStrip b x.first (Strip.joined p x.got items) s := by
    refine stripDoneAt_open fun y hy => ?_
    rw [stripAt_modStrip (f := Strip.joined p x.got items) fun _ => rfl] at hy
    obtain ⟨z, hz, rfl⟩ := Option.map_eq_some_iff.1 hy
    exact ho z hz
  unfold takeMeas
  rw [hx]
  exact (if_neg (by rw [Bool.not_eq_true]; exact some_stays)).trans unfinished

/-! ### Records at the holder (R236, R275) -/

section
variable {dt : Nat} {b : Fin 16} {s : State} (hm : pairMode s = true) (hp : s.pair.holder = true)

include hp in
theorem holder_of_pair : holder s = true := by
  unfold holder
  rw [hp, Bool.or_true]

include hm hp

theorem holder_answers {c : Instr} {f : State → State} {p : State → Prop}
    (ht : ∀ (t : State) (n : Nat) (q : List Instr), p t → p { t with now := n, pending := q })
    (hc : exec c s = run dt s (onRecord fun s => if holder s then f s else s)) (hf : p (f (heard (s.later dt)))) :
    Answers c s p := by
  have mode : pairMode (s.later dt) = true := hm
  have holds : holder (heard (s.later dt)) = true := holder_of_pair (s := heard (s.later dt)) hp
  exact run_answers_timeless ht hc ((if_pos mode).trans (if_pos holds)) hf

/-- R58, R275: a forwarded VB_PRINTING lets an armed bar of a printing device print. -/
theorem forwardRecord_prints (hd : s.devState = .print) (hv : (s.bar b).vb = .armed) :
    Answers (.forwardRecord dt (some b) 0x1202 0 2) s fun t => (t.bar b).vb = .printing := by
  have holds : holder (heard (s.later dt)) = true := holder_of_pair (s := heard (s.later dt)) hp
  have print : (heard (s.later dt)).devState = .print := hd
  have armed : ((heard (s.later dt)).bar b).vb = .armed := hv
  have taken : vbRefused (heard (s.later dt)) .printing = false := by unfold vbRefused; rw [print]; rfl
  have moves : moveNow (heard (s.later dt)) b .printing = some .printing := by unfold moveNow; rw [armed]
  obtain ⟨t, target, reached⟩ := targetBar_reached taken moves (by rw [armed]; decide)
  refine holder_answers hm hp (fun _ _ _ h => h) (c := .forwardRecord dt (some b) 0x1202 0 2)
    (f := applyForward (some b) 0x1202 0 2) rfl ?_
  obtain ⟨row, hr⟩ : ∃ row, rowAt 0x1202 0 = some row := Option.isSome_iff_exists.mp (by decide)
  have applied : applyForward (some b) 0x1202 0 2 (heard (s.later dt)) = t := by
    unfold applyForward
    rw [hr]
    have effect : vbTargetEffect row (some b.val) 0 2 (heard (s.later dt)) = (stOK, t) := by
      have passes : (holder (heard (s.later dt)) || (heard (s.later dt)).pair.barred) = true := by rw [holds]; rfl
      exact (if_pos passes).trans target
    exact congrArg Prod.snd effect
  rw [applied]
  exact reached.vb

/-- R236: measurements of nozzles that this unit has not measured join the strip, which stays open while a camera port still
measures it. -/
theorem measRecord_joins {p : Fin 64} {i : MeasItem} {x : Strip} (hx : recordStrip s b p = some x) (hn : x.measured = false)
    (hc : ∃ c ∈ stripPorts s x, c ∉ x.gone) (ho : ∀ y, stripAt s b x.first = some y → ownEnded s y = false)
    (hg : x.got.get? (p * 65536 + i.nozzle) = none) :
    Answers (.measRecord dt b p [i]) s fun t => ∃ y ∈ (t.bar b).scan.strips, y.first = x.first ∧
      y.got.get? (p * 65536 + i.nozzle) =
        some { integral := i.integral, e := i.e, n := i.n, excluded := i.excluded, own := false } := by
  refine holder_answers hm hp (fun _ _ _ h => h) (c := .measRecord dt b p [i]) (f := takeMeas b p [i]) rfl ?_
  rw [takeMeas_of_open (s := heard (s.later dt)) hx hn hc ho, modStrip_strips]
  refine ⟨Strip.joined p x.got [i] x, List.mem_map.mpr ⟨x, recordStrip_mem hx, if_pos rfl⟩, rfl, ?_⟩
  simp [Strip.joined, putPeer, hg]

end

/-- Settles O37: a standby takes each record as the lemmas above say; the holder carries a forwarded target out, and puts the
partner's measurements beside its own. -/
theorem pairRecordsAreTaken : Obligations.PairRecordsAreTaken := by
  unfold Obligations.PairRecordsAreTaken
  refine ⟨?commit, ?copy, ?flip, ?ahead, ?band, ?passed, ?ack, ?axis, ?supply, ?aligned, ?untriggered, ?forward, ?meas⟩
  case commit => exact fun _ _ _ _ _ hh hg hb hw => commitRecord_seals hh hg hb hw
  case copy => exact fun _ _ _ _ _ _ hh he hg => genCopyDone_repairs hh he hg
  case flip => exact fun _ _ _ _ _ _ hh hl hw hp => flipRecord_fixes hh hl hw hp
  case ahead => exact fun _ _ _ _ _ hh hp hw => flipRecord_waits hh hp hw
  case band => exact fun _ _ _ _ _ _ _ hh hl => bandRecord_waits hh hl
  case passed => exact fun _ _ _ _ _ _ _ hh hl => bandRecord_acts hh hl
  case ack => exact fun _ _ _ _ _ hh hg => ackRecord_clears hh hg
  case axis => exact fun _ _ _ _ _ _ _ _ hh hw => mirrorAxis_followed hh hw
  case supply => exact fun _ _ _ _ _ hh hw => mirrorSupply_followed hh hw
  case aligned => exact fun _ _ _ _ _ hh he ha hl => xchkRecord_aligns hh he ha hl
  case untriggered => exact fun _ _ _ _ _ hh he => xchkRecord_untriggered hh he
  case forward => exact fun _ _ _ hm hp hd hv => forwardRecord_prints hm hp hd hv
  case meas => exact fun _ _ _ _ _ _ hm hp hx hn hc ho hg => measRecord_joins hm hp hx hn hc ho hg

end Sys2Proof.Machine
end

/-! ## What the emission of camera lines keeps (09_inspection.md R217 to R236) -/

section
namespace Sys2Proof.Machine
open Sys2Proof

/-! ### What a camera's stream and the strips keep

What a line that is emitted brings about (its outputs, its measurement, a strip that it ends, the commit that this asks for)
leaves the place of the stream and the line counters as they are, and of the strips all but their measurements. -/

/-- The place of a port's stream: the next line's index, and the instants of the last line taken and of the last good one. -/
def Cam.stream (x : Cam) : Nat × Option Nat × Option Nat := (x.index, x.lastIn, x.lineAt)

/-- The objects 6010 to 6017, in which a port counts its lines. -/
def lineCounter (k : Nat) : Bool := decide (0x6010 ≤ k / 256) && decide (k / 256 < 0x6018)

/-- The stream of a port, the line counters, the line number, and of each strip of a bar what a given function tells. -/
structure Optics (α : Type) where
  stream : Nat × Option Nat × Option Nat
  counters : Nat → Option Val
  line : Nat
  strips : List α

def State.optics {α : Type} (s : State) (c b : Nat) (g : Strip → α) : Optics α where
  stream := (s.cam c).stream
  counters k := if lineCounter k then s.dev.get? k else none
  line := s.trig.line
  strips := (s.bar b).scan.strips.map g

section
variable {α : Type} {c b : Nat} {g : Strip → α} {s t : State}

theorem optics_congr (hc : (t.cam c).stream = (s.cam c).stream) (hd : ∀ k, lineCounter k → t.dev.get? k = s.dev.get? k)
    (hl : t.trig.line = s.trig.line) (hs : (t.bar b).scan.strips.map g = (s.bar b).scan.strips.map g) :
    t.optics c b g = s.optics c b g := by
  unfold State.optics
  rw [hc, hl, hs]
  congr 1
  funext k
  split
  · exact hd k ‹_›
  · rfl

theorem EventsOnly.optics (h : EventsOnly s t) : t.optics c b g = s.optics c b g := by
  refine optics_congr (by rw [h.cam]) (fun k hk => ?_) (by rw [h.trig]) (by rw [h.bar_scan])
  unfold lineCounter at hk
  simp only [Bool.and_eq_true, decide_eq_true_eq] at hk
  exact h.dev k (by omega) (by omega) (by omega)

theorem dv_of_optics {i j : Nat} (h : t.optics c b g = s.optics c b g) (hj : j < 256) (hl : 0x6010 ≤ i) (hu : i < 0x6018) :
    t.dv i j = s.dv i j := by
  have index : okey i j / 256 = i := by unfold okey; omega
  have key : lineCounter (okey i j) = true := by
    unfold lineCounter
    rw [index, decide_eq_true hl, decide_eq_true hu]
    rfl
  have entry := congrFun (congrArg Optics.counters h) (okey i j)
  simp only [State.optics, key, if_true] at entry
  unfold State.dv slotIn
  rw [entry]

end

section
variable {α : Type} (c b n p k : Nat) (g : Strip → α) (s : State)

/-! ### State operations -/

@[simp] theorem ite_optics (d : Prop) [Decidable d] (s t : State) :
    (if d then s else t).optics c b g = if d then s.optics c b g else t.optics c b g := by split <;> rfl

@[simp] theorem forAll_optics {β : Type} (xs : List β) (f : β → State → State)
    (h : ∀ x t, (f x t).optics c b g = t.optics c b g) : (forAll xs f s).optics c b g = s.optics c b g :=
  forAll_keeps (fun u => u.optics c b g) xs f s h

theorem modBar_optics {f : Bar → Bar} (h : (f (s.bar n)).scan.strips = (s.bar n).scan.strips) :
    (s.modBar n f).optics c b g = s.optics c b g := by
  refine optics_congr rfl (fun _ _ => rfl) rfl ?_
  by_cases e : b = n
  · subst e; rw [bar_modBar_self, h]
  · rw [bar_modBar_of_ne _ _ e]

theorem modCam_optics {f : Cam → Cam} (h : (f (s.cam n)).stream = (s.cam n).stream) : (s.modCam n f).optics c b g = s.optics c b g := by
  refine optics_congr ?_ (fun _ _ => rfl) rfl rfl
  by_cases e : c = n
  · subst e; rw [cam_modCam_self, h]
  · rw [cam_modCam_of_ne _ _ e]

/-- A change of the strip at a datum line of bar `n` shows in what is told of it alone. -/
theorem modStrip_optics {first : Nat} {f : Strip → Strip} (h : b = n → ∀ y, g (f y) = g y) :
    (modStrip n first f s).optics c b g = s.optics c b g := by
  refine optics_congr rfl (fun _ _ => rfl) rfl ?_
  by_cases e : b = n
  · subst e
    rw [modStrip_strips, List.map_map]
    refine List.map_congr_left fun y _ => ?_
    dsimp only [Function.comp]
    split
    · exact h rfl y
    · rfl
  · rw [modStrip, State.modScan, bar_modBar_of_ne _ _ e]

theorem setDev_optics {k : Nat} {v : Val} (h : lineCounter k = false) :
    State.optics { s with dev := s.dev.set k v } c b g = s.optics c b g := by
  refine optics_congr rfl (fun j hj => Map.get?_set_of_ne _ _ fun e => ?_) rfl rfl
  rw [e, h] at hj
  exact Bool.false_ne_true hj

theorem setDv_optics {i j v : Nat} (h : lineCounter (okey i j) = false) : (s.setDv i j v).optics c b g = s.optics c b g :=
  setDev_optics c b g s h

@[simp] theorem modPort_optics (f) : (s.modPort p f).optics c b g = s.optics c b g := rfl
@[simp] theorem modAxis_optics (f) : (s.modAxis k f).optics c b g = s.optics c b g := rfl
@[simp] theorem modMoa_optics (f) : (s.modMoa f).optics c b g = s.optics c b g := rfl
@[simp] theorem setBo_optics (i j v : Nat) : (s.setBo n i j v).optics c b g = s.optics c b g :=
  modBar_optics _ _ _ _ _ rfl
@[simp] theorem setBw_optics (i j : Nat) (v : List Byte) : (s.setBw n i j v).optics c b g = s.optics c b g :=
  modBar_optics _ _ _ _ _ rfl
@[simp] theorem bumpBN_optics (i j : Nat) : (s.bumpBN n i j k).optics c b g = s.optics c b g := setBo_optics _ _ _ _ _ _ _ _
@[simp] theorem bumpB_optics (i j : Nat) : (s.bumpB n i j).optics c b g = s.optics c b g := setBo_optics _ _ _ _ _ _ _ _
@[simp] theorem countB64_optics (i j : Nat) : (s.countB64 n i j k).optics c b g = s.optics c b g := setBo_optics _ _ _ _ _ _ _ _
@[simp] theorem modGen_optics (f) : (s.modGen n f).optics c b g = s.optics c b g := modBar_optics _ _ _ _ _ rfl
@[simp] theorem openSet_optics (key : Nat) (v : Val) : (openSet n key v s).optics c b g = s.optics c b g :=
  modBar_optics _ _ _ _ _ rfl

@[simp] theorem post_optics (e : Event) : (post e s).optics c b g = s.optics c b g := (post_events _ _).optics
@[simp] theorem postD_optics (ev : Ev) (flags : Nat) (data : List Byte) : (postD ev flags data s).optics c b g = s.optics c b g :=
  (postD_events _ _ _ _).optics
@[simp] theorem postB_optics (ev : Ev) (page flags : Nat) (data : List Byte) :
    (postB ev n page flags data s).optics c b g = s.optics c b g := (postB_events _ _ _ _ _ _).optics
@[simp] theorem pairSend_optics (r : PairOut) : (pairSend r s).optics c b g = s.optics c b g := (pairSend_events _ _).optics
@[simp] theorem mirror_optics (m : MirrorItem) : (mirror m s).optics c b g = s.optics c b g := (mirror_events _ _).optics

/-! ### Seals and requests -/

@[simp] theorem pumpReqs_optics : (pumpReqs p s).optics c b g = s.optics c b g := by
  unfold pumpReqs; dsimp only
  split
  · exact (modPort_optics _ _ _ _ _ _).trans (forAll_optics _ _ _ _ _ _ fun _ _ => rfl)
  · rfl

@[simp] theorem addReq_optics (op addr count : Nat) (ws y d) : (addReq p op addr count ws y d s).optics c b g = s.optics c b g := rfl

@[simp] theorem writeWords_optics (addr : Nat) (y) (ws) : (writeWords p addr y n ws s).optics c b g = s.optics c b g := by
  induction n generalizing addr ws s with
  | zero => rfl
  | succ n ih => rw [writeWords, ite_optics, ih, addReq_optics, ite_self]

@[simp] theorem writePhase_optics (lo hi : Nat) (copy y) : (writePhase p lo hi copy y s).optics c b g = s.optics c b g :=
  writeWords_optics _ _ _ _ _ _ _ _ _

@[simp] theorem writeWave_optics (v y) : (writeWave p v y s).optics c b g = s.optics c b g := writeWords_optics _ _ _ _ _ _ _ _ _

@[simp] theorem shadowPort_optics (e : Nat) (keys : List Nat) : (shadowPort n e keys p s).optics c b g = s.optics c b g := by
  simp [shadowPort]

@[simp] theorem shadowWrites_optics : (shadowWrites n s).optics c b g = s.optics c b g := by
  unfold shadowWrites
  split <;> simp

@[simp] theorem joinHeads_optics : (joinHeads n s).optics c b g = s.optics c b g := by
  unfold joinHeads
  split
  · rfl
  · exact (modBar_optics _ _ _ _ _ rfl).trans (modGen_optics _ _ _ _ _ _)

@[simp] theorem gapDecide_optics : (gapDecide n s).optics c b g = s.optics c b g := by
  refine forAll_optics _ _ _ _ _ _ fun p t => ?_
  split <;> simp

@[simp] theorem rescreen_optics (e : Nat) : (rescreen n e s).optics c b g = s.optics c b g := by
  unfold rescreen; dsimp only
  split
  · rw [modBar_optics _ _ _ _ _ rfl, modBar_optics _ _ _ _ _ rfl]
  · rw [postB_optics, bumpBN_optics, modBar_optics _ _ _ _ _ rfl, modBar_optics _ _ _ _ _ rfl]

@[simp] theorem sealAt_optics (e : Nat) (merged idle : Bool) : (sealAt n p e merged idle s).optics c b g = s.optics c b g := by
  simp only [sealAt, sealWrites, ite_optics, joinHeads_optics, shadowWrites_optics, rescreen_optics, postB_optics, ite_self]
  rw [modBar_optics _ _ _ _ _ rfl, gapDecide_optics]

@[simp] theorem digestJudge_optics (e theirs : Nat) : (digestJudge n e theirs s).optics c b g = s.optics c b g := by
  unfold digestJudge; dsimp only
  split
  · rfl
  · rw [pairSend_optics, postB_optics, modBar_optics _ _ _ _ _ rfl, bumpB_optics]

@[simp] theorem sealNow_optics (merged : Bool) : (sealNow n p merged s).optics c b g = s.optics c b g := by
  unfold sealNow
  split
  · rw [sealPeer, digestJudge_optics, sealAt_optics, modBar_optics _ _ _ _ _ rfl]
  · simp

@[simp] theorem releaseWaits_optics : (releaseWaits n s).optics c b g = s.optics c b g := rfl

@[simp] theorem trySeal_optics : (trySeal n s).optics c b g = s.optics c b g := by
  unfold trySeal
  split
  · rfl
  · simp only [ite_optics, releaseWaits_optics, postB_optics, sealNow_optics, ite_self]
    rw [modBar_optics _ _ _ _ _ rfl, ite_self]

@[simp] theorem commitRequest_optics : (commitRequest n p s).optics c b g = s.optics c b g := by
  unfold commitRequest
  split
  · exact modBar_optics _ _ _ _ _ rfl
  · exact (trySeal_optics _ _ _ _ _).trans (modBar_optics _ _ _ _ _ rfl)

/-! ### The end of a strip -/

@[simp] theorem editEntries_optics (f : Nat → Nat → Nat) : (editEntries n p f s).optics c b g = s.optics c b g := by
  unfold editEntries mirrorNozzles; dsimp only
  split
  · rfl
  · simp only [ite_optics, forAll_optics, mirror_optics, implies_true, ite_self]
    exact (modBar_optics _ _ _ _ _ rfl).trans (openSet_optics _ _ _ _ _ _ _)

@[simp] theorem applyOutcomes_optics (os : List (Nat × Check)) : (applyOutcomes n p os s).optics c b g = s.optics c b g := by
  simp [applyOutcomes]

@[simp] theorem editGains_optics (gs : List (Nat × Nat)) : (editGains n p gs s).optics c b g = s.optics c b g := by
  simp [editGains, mirrorNozzles]

theorem applyHead_optics (x : Strip) (iref : Nat) (all : Bool) (acc : LoopSum × State) :
    (applyHead n x iref p all acc).2.optics c b g = acc.2.optics c b g := by
  simp [applyHead, putResults]


end

/-- What `g` tells of a strip of bar `n` does not turn on its measurements. -/
def Unmeasured {α : Type} (b n : Nat) (g : Strip → α) : Prop :=
  b = n → ∀ (y : Strip) (measured committed : Bool) (ended : Option Nat) (got : Map MeasNoz),
    g { y with measured := measured, committed := committed, endedAt := ended, got := got } = g y

section
variable {α : Type} {c b n : Nat} {g : Strip → α} (hg : Unmeasured b n g) (s : State)
include hg

theorem loopCommit_optics (first : Nat) (r : LoopSum) : (loopCommit n first r s).2.optics c b g = s.optics c b g := by
  unfold loopCommit; dsimp only
  split
  · rw [commitRequest_optics]
    exact modStrip_optics _ _ _ _ _ fun e y => hg e y y.measured true y.endedAt y.got
  · rfl

theorem applyStrip_optics (x : Strip) (iref : Nat) (all : Bool) : (applyStrip n x iref all s).2.2.optics c b g = s.optics c b g := by
  unfold applyStrip; dsimp only
  split
  · rw [loopCommit_optics hg]
    exact foldl_keeps (fun acc : LoopSum × State => acc.2.optics c b g) _ _ _ fun acc p => applyHead_optics _ _ _ _ _ _ _ _ _
  · rfl

theorem stripFinish_optics (x : Strip) : (stripFinish n x s).optics c b g = s.optics c b g := by
  unfold stripFinish; dsimp only
  rw [postB_optics, applyStrip_optics hg, modStrip_optics _ _ _ _ _ fun e y => hg e y true y.committed y.endedAt y.got,
    bumpB_optics]

theorem stripDoneAt_optics (first : Nat) : (stripDoneAt n first s).optics c b g = s.optics c b g := by
  unfold stripDoneAt
  split
  · unfold stripDone
    rw [ite_optics, ite_optics, stripFinish_optics hg,
      modStrip_optics _ _ _ _ _ fun e y => hg e y y.measured y.committed (some (y.endedAt.getD s.now)) y.got, ite_self, ite_self]
  · rfl

end

/-! ### The emission of a line -/

theorem lineCounter_of_other {i j : Nat} (hj : j < 256) (hi : i < 0x6010 ∨ 0x6018 ≤ i) : lineCounter (okey i j) = false := by
  have index : okey i j / 256 = i := by unfold okey; omega
  unfold lineCounter
  rw [index, Bool.and_eq_false_iff, decide_eq_false_iff_not, decide_eq_false_iff_not]
  omega

section
variable {c : Nat} (hc : c < 4) (b n k : Nat) (g : Strip → Unit) (s : State)

section
include hc

theorem register_optics (least : Nat) (m : StripMeas) (ns : Map MeasNoz) :
    (register c least m ns s).2.optics c b g = s.optics c b g := by
  have track (t : Int) : (s.setDvi 0x6108 c t).optics c b g = s.optics c b g :=
    setDv_optics _ _ _ _ (lineCounter_of_other (by omega) (by decide))
  unfold register; dsimp only
  rw [apply_ite Prod.snd, ite_optics]
  refine ite_eq_left_iff.mpr fun _ => ?_
  split
  · rfl
  · simp only [apply_ite Prod.snd, ite_optics, postD_optics, track, ite_self]
    rw [modCam_optics _ _ _ _ _ rfl, ite_self, ite_self]

omit hc in
@[simp] theorem sendMeas_optics (got : Map MeasNoz) : (sendMeas n got s).optics c b g = s.optics c b g := by
  simp [sendMeas]

theorem stripEnd_optics (x : Strip) : (stripEnd c n x s).optics c b g = s.optics c b g := by
  unfold stripEnd; dsimp only
  rw [stripDoneAt_optics fun _ _ _ _ _ _ => rfl, sendMeas_optics, modStrip_optics _ _ _ _ _ (fun _ _ => Subsingleton.elim _ _),
    modCam_optics _ _ _ _ _ rfl, register_optics hc]

theorem measureStrip_optics (d : Int) (l : VisLine) (x : Strip) : (measureStrip c n d l x s).optics c b g = s.optics c b g := by
  have kept : (keepLine c n x d l s).optics c b g = s.optics c b g := modCam_optics _ _ _ _ _ rfl
  simp only [measureStrip, ite_optics, stripEnd_optics hc, kept, ite_self]
  rw [stripDoneAt_optics fun _ _ _ _ _ _ => rfl, ite_self]

theorem measureLine_optics (l : VisLine) : (measureLine c l s).optics c b g = s.optics c b g := by
  unfold measureLine
  split
  · rfl
  · exact forAll_optics _ _ _ _ _ _ fun n t => forAll_optics _ _ _ _ _ _ fun x t => measureStrip_optics hc b n g t _ l x

theorem putRing_optics (ring : Nat) (bs : List Byte) : (putRing c ring bs s).optics c b g = s.optics c b g := by
  have other : lineCounter (okey (0x6120 + 2 * ring) (4 + c)) = false :=
    lineCounter_of_other (by omega) (.inr (by omega))
  have counted : (s.count64 (0x6120 + 2 * ring) (4 + c) 1).optics c b g = s.optics c b g := by
    unfold State.count64
    exact setDv_optics _ _ _ _ other
  refine (modCam_optics _ _ _ _ _ ?_).trans counted
  split <;> rfl

theorem putStripLine_optics (bs : List Byte) : (putStripLine c bs s).optics c b g = s.optics c b g := by
  have counted : (s.bump 0x6121 c).optics c b g = s.optics c b g :=
    setDv_optics _ _ _ _ (lineCounter_of_other (by omega) (by decide))
  unfold putStripLine; dsimp only
  split
  · rw [putRing_optics hc, modCam_optics _ _ _ _ _ rfl]
  · rw [modCam_optics _ _ _ _ _ rfl, counted]

end

theorem assignDeflate_optics : (assignDeflate s).optics c b g = s.optics c b g := by
  refine forAll_optics _ _ _ _ _ _ fun e t => ?_
  split
  · rfl
  · split
    · split
      · unfold State.wakeDomain; split <;> rfl
      · rfl
    · rfl

include hc in
theorem putOutputs_optics (l : VisLine) : (putOutputs c l s).optics c b g = s.optics c b g := by
  unfold putOutputs; dsimp only
  rw [modCam_optics _ _ _ _ _ rfl]
  simp only [ite_optics, assignDeflate_optics, putRing_optics hc, putStripLine_optics hc, ite_self]

@[simp] theorem postSaturation_optics (l : VisLine) : (postSaturation c l s).optics c b g = s.optics c b g := by
  unfold postSaturation; dsimp only
  split
  · rw [ite_optics, postD_optics, modCam_optics _ _ _ _ _ rfl, ite_self]
  · rfl

include hc in
theorem profileLine_optics (l : VisLine) : (profileLine c l s).optics c b g = s.optics c b g := by
  have shown (bs : List Byte) : (s.setDw 0x6140 c bs).optics c b g = s.optics c b g :=
    setDev_optics _ _ _ _ (lineCounter_of_other (by omega) (by decide))
  unfold profileLine; dsimp only
  split
  · rw [modCam_optics _ _ _ _ _ rfl, shown]
  · exact modCam_optics _ _ _ _ _ rfl

include hc in
theorem focusLine_optics (l : VisLine) : (focusLine c l s).2.optics c b g = s.optics c b g := by
  have latched (t : State) (bs : List Byte) : (t.setDw 0x6131 c bs).optics c b g = t.optics c b g :=
    setDev_optics _ _ _ _ (lineCounter_of_other (by omega) (by decide))
  have counted (t : State) (v : Nat) : (t.setDv 0x6131 (4 + c) v).optics c b g = t.optics c b g :=
    setDv_optics _ _ _ _ (lineCounter_of_other (by omega) (by decide))
  unfold focusLine focusLatch; dsimp only
  split
  · rfl
  · split
    · rw [modCam_optics _ _ _ _ _ rfl, counted, latched]
    · exact modCam_optics _ _ _ _ _ rfl

@[simp] theorem abandonSearch_optics : (abandonSearch n s).optics c b g = s.optics c b g := by
  unfold abandonSearch
  rw [ite_optics, postD_optics, modCam_optics _ _ _ _ _ rfl, ite_self]

@[simp] theorem focusAbort_optics : (focusAbort n s).optics c b g = s.optics c b g := by
  unfold focusAbort stopRamp
  split <;> simp

@[simp] theorem focusMove_optics (p : Int) (q : Search) : (focusMove n p q s).optics c b g = s.optics c b g := by
  unfold focusMove mirrorAxis; dsimp only
  rw [ite_optics, focusAbort_optics, mirror_optics, modAxis_optics, modCam_optics _ _ _ _ _ rfl, ite_self]

@[simp] theorem focusLatched_optics : (focusLatched n s).optics c b g = s.optics c b g := by
  unfold focusLatched; dsimp only
  split
  · rfl
  · simp only [ite_optics, focusMove_optics, ite_self]
    rw [modCam_optics _ _ _ _ _ rfl, ite_self]

include hc

theorem emitVision_optics (l : VisLine) : (emitVision c l s).optics c b g = s.optics c b g := by
  unfold emitVision; dsimp only
  rw [ite_optics, focusLatched_optics, focusLine_optics hc, profileLine_optics hc, measureLine_optics hc, putOutputs_optics hc,
    postSaturation_optics, ite_self]

theorem flushBlock_optics : (flushBlock c s).optics c b g = s.optics c b g := by
  unfold flushBlock; dsimp only
  rw [ite_optics, putRing_optics hc, modCam_optics _ _ _ _ _ rfl, ite_self]

theorem emitLine_optics (y : Nat) : (emitLine c y s).optics c b g = s.optics c b g := by
  unfold emitLine; dsimp only
  rw [modCam_optics _ _ _ _ _ rfl, ite_optics, flushBlock_optics hc, ite_self]
  split
  · rw [ite_optics, emitVision_optics hc, ite_self]
  · rfl

/-- R217: what the emission of lines keeps. -/
theorem emitTo_optics (fuel : Nat) : (emitTo c n fuel s).optics c b g = s.optics c b g := by
  induction fuel generalizing s with
  | zero => rfl
  | succ fuel ih =>
    unfold emitTo
    rw [ite_optics, ih, emitLine_optics hc, ite_self]

end

end Sys2Proof.Machine
end

/-! ## Camera commands (09_inspection.md R211 to R219, R226, R227, R235) -/

section
namespace Sys2Proof.Machine
open Sys2Proof

/-! ### Packets (R211, R212, R217) -/

/-- `t` has the settings and counters of the ports, the memory and the port's stream as `s` has them. -/
structure SameStream (c : Nat) (s t : State) : Prop where
  dv : ∀ i j, j < 256 → 0x6000 ≤ i → i < 0x6100 → t.dv i j = s.dv i j
  subch : t.subch = s.subch
  now : t.now = s.now
  stream : (t.cam c).stream = (s.cam c).stream

section
variable {c : Nat} {s t u : State}

theorem SameStream.refl (c : Nat) (s : State) : SameStream c s s := ⟨fun _ _ _ _ _ => rfl, rfl, rfl, rfl⟩

theorem SameStream.events (h : SameStream c s t) (e : EventsOnly t u) : SameStream c s u where
  dv i j hj hl hu := (e.dv i j hj (by omega) (by omega) (by omega)).trans (h.dv i j hj hl hu)
  subch := e.subch.trans h.subch
  now := e.now.trans h.now
  stream := (congrArg Cam.stream (e.cam c)).trans h.stream

theorem SameStream.modCam {f : Cam → Cam} (h : SameStream c s t) (hf : (f (t.cam c)).stream = (t.cam c).stream) :
    SameStream c s (t.modCam c f) where
  dv := h.dv
  subch := h.subch
  now := h.now
  stream := by rw [cam_modCam_self, hf, h.stream]

theorem SameStream.camJudge (h : SameStream c s t) : SameStream c s (camJudge c t) := by
  unfold Machine.camJudge; dsimp only
  split
  · exact h
  · exact (h.modCam rfl).events (postD_events _ _ _ _)

/-- R211: any packet is traffic, and no more. -/
theorem SameStream.camTraffic (h : SameStream c s t) : SameStream c s (camTraffic c t) :=
  (h.camJudge.modCam rfl).camJudge

theorem SameStream.camLost (h : SameStream c s t) (cause n : Nat) : SameStream c s (camLost c cause n t) := by
  unfold Machine.camLost
  split
  · exact h
  · exact (h.modCam rfl).events (postD_events _ _ _ _)

theorem SameStream.settings (h : SameStream c s t) (hc : c < 4) : camVc t c = camVc s c ∧ camRaw12 t c = camRaw12 s c ∧
    camTriggered t c = camTriggered s c ∧ lineWords t c = lineWords s c := by
  have dv (i : Nat) (hl : 0x6000 ≤ i) (hu : i < 0x6100) : t.dv i c = s.dv i c := h.dv i c (by omega) hl hu
  have raw : camRaw12 t c = camRaw12 s c := by unfold camRaw12; rw [dv _ (by decide) (by decide)]
  have width : camWidth t c = camWidth s c := dv _ (by decide) (by decide)
  refine ⟨?_, raw, ?_, ?_⟩
  · unfold camVc; rw [dv _ (by decide) (by decide)]
  · unfold camTriggered; rw [dv _ (by decide) (by decide)]
  · unfold lineWords; rw [raw, width]

theorem SameStream.lineDropped (h : SameStream c s t) (hb : backPressure s = false) (hi : (s.cam c).lastIn = none) :
    lineDropped t c = false := by
  have last : (t.cam c).lastIn = none := (congrArg (fun x => x.2.1) h.stream : (t.cam c).lastIn = (s.cam c).lastIn).trans hi
  have free : backPressure t = false := by unfold backPressure at hb ⊢; rw [h.subch]; exact hb
  unfold Machine.lineDropped
  rw [last, free]
  rfl

end

/-! ### Lines (R212, R219, R223) -/

section
variable {c : Nat} (hc : c < 4) {s : State}
include hc

/-- R217: a line that enters the window takes its place in the stream. -/
theorem pushLine_takes (l : CamLine) : ((pushLine c l s).cam c).stream = (l.index + 1, (s.cam c).lastIn, (s.cam c).lineAt) ∧
    ∀ i, 0x6010 ≤ i → i < 0x6018 → (pushLine c l s).dv i c = s.dv i c := by
  have emitted := emitTo_optics hc 0 (l.index - 1) (fun _ => ()) (s.modCam c fun x =>
    { x with index := l.index + 1, window := (x.window ++ [l]).drop (x.window.length - 11) }) (l.index + 1)
  refine ⟨(congrArg Optics.stream emitted :).trans ?_, fun i hl hu => (dv_of_optics (j := c) emitted (by omega) hl hu :)⟩
  exact congrArg Cam.stream (cam_modCam_self s c fun x =>
    { x with index := l.index + 1, window := (x.window ++ [l]).drop (x.window.length - 11) })

/-- R212: a bad line takes the index all the same. -/
theorem takeLine_bad (payload : List Byte) (i : Instant) :
    ((takeLine c false payload i s).cam c).index = (s.cam c).index + 1 ∧
    (takeLine c false payload i s).dv 0x6013 c = s.dv 0x6013 c := by
  have self := cam_modCam_self s c fun x => { x with lastIn := some s.now }
  obtain ⟨stream, counted⟩ := pushLine_takes hc (s := s.modCam c fun x => { x with lastIn := some s.now })
    (camLine (s.modCam c fun x => { x with lastIn := some s.now }) c none i)
  refine ⟨(congrArg Prod.fst stream :).trans ?_, counted 0x6013 (by decide) (by decide)⟩
  exact (congrArg (fun x : Cam => x.index + 1) self :)

omit hc in
/-- R219: saturated samples are noted beside the stream. -/
theorem noteSaturation_keeps (xs : List Nat) : ((noteSaturation c xs s).cam c).stream = (s.cam c).stream ∧
    (noteSaturation c xs s).dv 0x6010 c = s.dv 0x6010 c := by
  unfold noteSaturation; dsimp only
  split
  · exact ⟨rfl, rfl⟩
  · refine ⟨?_, dv_setDv_of_ne _ _ _ _ _ _ (by unfold okey; omega)⟩
    rw [cam_modCam_self]
    rfl

/-- R212: a line that enters the window at an instant takes its place, and the instant is remembered. -/
theorem pushLine_remembers (now : Nat) (samples : Option (List Nat)) (i : Instant) {u : State}
    (hu : u = s.modCam c fun x => { x with lineAt := some now }) :
    ((pushLine c (camLine u c samples i) u).cam c).stream = ((s.cam c).index + 1, (s.cam c).lastIn, some now) ∧
    (pushLine c (camLine u c samples i) u).dv 0x6010 c = s.dv 0x6010 c := by
  obtain ⟨stream, counted⟩ := pushLine_takes hc (s := u) (camLine u c samples i)
  have self : u.cam c = { s.cam c with lineAt := some now } := by rw [hu, cam_modCam_self]
  refine ⟨?_, (counted 0x6010 (by decide) (by decide)).trans (by rw [hu]; rfl)⟩
  rw [stream, camLine, self]

/-- R212: a whole line takes its place and is counted. -/
theorem takeLine_good (payload : List Byte) (i : Instant) (hd : lineDropped s c = false) :
    ((takeLine c true payload i s).cam c).stream = ((s.cam c).index + 1, some s.now, some s.now) ∧
    (takeLine c true payload i s).dv 0x6010 c = (s.dv 0x6010 c + 1) % 2 ^ 64 := by
  have place := congrArg Cam.stream (cam_modCam_self s c fun x => { x with lastIn := some s.now })
  unfold takeLine; dsimp only
  rw [hd, if_neg (by decide), if_neg (by decide)]
  generalize samplesOf _ c payload = xs
  obtain ⟨stream, counter⟩ := noteSaturation_keeps (c := c) xs
    (s := (s.modCam c fun x => { x with lastIn := some s.now }).count64 0x6010 c 1)
  obtain ⟨pushed, kept⟩ := pushLine_remembers hc s.now (some xs) i (s := noteSaturation c xs
    ((s.modCam c fun x => { x with lastIn := some s.now }).count64 0x6010 c 1)) rfl
  refine ⟨pushed.trans ?_, kept.trans (counter.trans ((dv_setDv_self _ _ _ _).trans (Nat.mod_mod _ _)))⟩
  have same := stream.trans place
  exact congrArg (fun x : Nat × Option Nat × Option Nat => (x.1 + 1, x.2.1, some s.now)) same

end

/-- R212: in free run an image line is taken at once, a bad one counted first. -/
theorem imagePacket_freeRun {c : Nat} {good : Bool} {payload : List Byte} {s : State}
    (hm : camTriggered (countBad c good s) c = false) :
    ∃ i, imagePacket c good payload s = takeLine c good payload i (countBad c good s) :=
  ⟨_, if_neg (by rw [hm]; exact Bool.false_ne_true)⟩

theorem countBad_good (c : Nat) (s : State) : countBad c true s = s := if_pos rfl
theorem countBad_bad (c : Nat) (s : State) : countBad c false s = camLost c 1 1 (s.bump 0x6013 c) := if_neg Bool.false_ne_true

section
variable {dt : Nat} {c : Fin 4} {s : State}

section
variable {vc : Fin 16} {ty : BitVec 6} {wc : Nat} {hdr : HdrErr} {bytes : List Byte} (hon : camOn s c = true) (hh : hdr ≠ .many)
  (hv : vc.val = camVc s c) (ht : ty.toNat = (if camRaw12 s c then 0x2C else 0x2B)) (hm : camTriggered s c = false)
include hon hh hv ht

/-- R211: a packet of the selected channel and data type carries an image line. -/
theorem csiLongPacket_image (crc : Bool) : ∃ f, exec (.csiLongPacket dt c vc ty wc hdr crc bytes) s = run dt s f ∧
    f (s.later dt) = imagePacket c (crc && wc == lineWords s c && bytes.length == wc) bytes (camTraffic c (s.later dt)) := by
  have carries : ∀ u, camOn u c = true → vc.val = camVc u c → ty.toNat = (if camRaw12 u c then 0x2C else 0x2B) →
      (if camOn u c then
        if hdr = .many then camLost c 1 1 ((camTraffic c u).bump 0x6013 c)
        else if vc.val = camVc (camTraffic c u) c ∧ ty.toNat = (if camRaw12 (camTraffic c u) c then 0x2C else 0x2B) then
          imagePacket c (crc && wc == lineWords (camTraffic c u) c && bytes.length == wc) bytes (camTraffic c u)
        else if vc.val = camVc (camTraffic c u) c ∧ ty.toNat = 0x12 then camTraffic c u
        else (camTraffic c u).bump 0x6014 c
      else u) = imagePacket c (crc && wc == lineWords u c && bytes.length == wc) bytes (camTraffic c u) := by
    intro u on channel type
    obtain ⟨sameChannel, sameType, -, words⟩ := (SameStream.refl c u).camTraffic.settings c.isLt
    rw [if_pos on, if_neg hh, sameChannel, sameType, words, if_pos ⟨channel, type⟩]
  exact ⟨_, rfl, carries (s.later dt) hon hv ht⟩

include hm

theorem csiLongPacket_takes (hw : wc = lineWords s c) (hl : bytes.length = wc) (hi : (s.cam c).lastIn = none)
    (hb : backPressure s = false) :
    Answers (.csiLongPacket dt c vc ty wc hdr true bytes) s fun t => t.dv 0x6010 c = (s.dv 0x6010 c + 1) % 2 ^ 64 ∧
      (t.cam c).index = (s.cam c).index + 1 ∧ (t.cam c).lastIn = some (s.now + dt) ∧ (t.cam c).lineAt = some (s.now + dt) := by
  obtain ⟨f, turn, image⟩ := csiLongPacket_image (dt := dt) (wc := wc) (bytes := bytes) hon hh hv ht true
  have whole : (true && wc == lineWords s c && bytes.length == wc) = true := by simp [← hw, hl]
  have traffic := (SameStream.refl c (s.later dt)).camTraffic
  generalize camTraffic c (s.later dt) = u at image traffic
  obtain ⟨-, -, mode, -⟩ := traffic.settings c.isLt
  obtain ⟨i, taken⟩ := imagePacket_freeRun (c := c) (good := true) (payload := bytes) (s := u)
    (by rw [countBad_good]; exact mode.trans hm)
  obtain ⟨stream, counted⟩ := takeLine_good c.isLt bytes i (traffic.lineDropped hb hi)
  rw [whole, taken, countBad_good] at image
  have before : (u.cam c).index = (s.cam c).index := congrArg Prod.fst traffic.stream
  rw [before, traffic.now] at stream
  rw [traffic.dv 0x6010 c (by omega) (by decide) (by decide)] at counted
  exact run_answers_timeless (fun _ _ _ h => h) turn image ⟨counted, congrArg Prod.fst stream,
    congrArg (fun x => x.2.1) stream, congrArg (fun x => x.2.2) stream⟩

theorem csiLongPacket_errs : Answers (.csiLongPacket dt c vc ty wc hdr false bytes) s fun t =>
    t.dv 0x6013 c = satAdd32 (s.dv 0x6013 c) 1 ∧ (t.cam c).index = (s.cam c).index + 1 := by
  obtain ⟨f, turn, image⟩ := csiLongPacket_image (dt := dt) (wc := wc) (bytes := bytes) hon hh hv ht false
  have traffic := (SameStream.refl c (s.later dt)).camTraffic
  generalize camTraffic c (s.later dt) = u at image traffic
  have lost := (SameStream.refl c (u.bump 0x6013 c)).camLost 1 1
  rw [← countBad_bad] at lost
  have mode : camTriggered (countBad c false u) c = false := by
    obtain ⟨-, -, mode, -⟩ := traffic.settings c.isLt
    obtain ⟨-, -, counted, -⟩ := lost.settings c.isLt
    have bumped : (u.bump 0x6013 c).dv 0x6003 c = u.dv 0x6003 c := dv_setDv_of_ne _ _ _ _ _ _ (by unfold okey; omega)
    rw [counted, camTriggered, bumped]
    exact mode.trans hm
  obtain ⟨i, taken⟩ := imagePacket_freeRun (good := false) (payload := bytes) mode
  obtain ⟨index, counter⟩ := takeLine_bad c.isLt (s := countBad c false u) bytes i
  have counts : (countBad c false u).dv 0x6013 c = satAdd32 (s.dv 0x6013 c) 1 := by
    rw [lost.dv 0x6013 c (by omega) (by decide) (by decide), dv_bump_self]
    exact congrArg (fun v => satAdd32 v 1) (traffic.dv 0x6013 c (by omega) (by decide) (by decide))
  have place : ((countBad c false u).cam c).index = (s.cam c).index := congrArg Prod.fst (lost.stream.trans traffic.stream)
  exact run_answers_timeless (fun _ _ _ h => h) turn (image.trans taken) ⟨counter.trans counts, by rw [index, place]⟩

end

/-- R217: in free run a frame start begins at index 0. -/
theorem csiShortPacket_starts {vc : Fin 16} {ty : BitVec 6} {hdr : HdrErr} (hon : camOn s c = true) (hh : hdr ≠ .many)
    (hv : vc.val = camVc s c) (ht : ty = 0) (hm : camTriggered s c = false) :
    Answers (.csiShortPacket dt c vc ty hdr) s fun t => (t.cam c).index = 0 ∧ (t.cam c).window = [] ∧ (t.cam c).nextOut = 0 := by
  subst ht
  obtain ⟨channel, -, mode, -⟩ := (SameStream.refl c (s.later dt)).camTraffic.settings c.isLt
  have selected : vc.val = camVc (camTraffic c (s.later dt)) c ∧ (0 : BitVec 6).toNat < 4 := ⟨hv.trans channel.symm, by decide⟩
  have freeRun : camTriggered (camTraffic c (s.later dt)) c = false := mode.trans hm
  have started : frameStart c (camTraffic c (s.later dt)) = (camTraffic c (s.later dt)).modCam c fun x =>
      { x with index := 0, window := [], nextOut := 0, block := [] } :=
    if_neg (by rw [freeRun]; exact Bool.false_ne_true)
  refine run_answers_timeless (c := .csiShortPacket dt c vc 0 hdr) (fun _ _ _ h => h) rfl
    ((if_pos (c := camOn (s.later dt) c = true) hon).trans ((if_neg hh).trans ((if_pos selected).trans started))) ?_
  rw [cam_modCam_self]
  exact ⟨rfl, rfl, rfl⟩

theorem csiShortPacket_many {vc : Fin 16} {ty : BitVec 6} (hon : camOn s c = true) :
    Answers (.csiShortPacket dt c vc ty .many) s fun t => t.dv 0x6013 c = satAdd32 (s.dv 0x6013 c) 1 := by
  have traffic := (SameStream.refl c (s.later dt)).camTraffic
  refine run_answers_timeless (c := .csiShortPacket dt c vc ty .many) (fun _ _ _ h => h) rfl
    ((if_pos (c := camOn (s.later dt) c = true) hon).trans (if_pos rfl)) ?_
  rw [dv_bump_self]
  exact congrArg (fun v => satAdd32 v 1) (traffic.dv 0x6013 c (by omega) (by decide) (by decide))

/-! ### Camera pulses (R214, R216) -/

/-- R216: an instant of a port turns, of the port, on its search alone. -/
theorem instantOf_modCam {n : Nat} {f : Cam → Cam} {s : State} (h : (f (s.cam n)).search = (s.cam n).search) (t : Nat) :
    instantOf (s.modCam n f) n t = instantOf s n t := by
  have search : ((s.modCam n f).cam n).search = (s.cam n).search := by rw [cam_modCam_self, h]
  have axis : focusAxis (s.modCam n f) n = focusAxis s n := by unfold focusAxis; rw [search]; rfl
  have moved : focusMoved (s.modCam n f) n t = focusMoved s n t := by unfold focusMoved; rw [search, axis]; rfl
  unfold instantOf
  rw [moved]
  rfl

/-- A port with a pulse of `width` ns asserted at `now`. -/
def Cam.pulsed (light : Bool) (now width : Nat) (x : Cam) : Cam :=
  if light then { x with lightUntil := pulseEnd now width x.lightUntil } else { x with trigUntil := pulseEnd now width x.trigUntil }

/-- R214: a pulse of some width is asserted, and its output told. -/
theorem startPulse_asserts {n width : Nat} (light : Bool) (s : State) (h : 0 < width) :
    (startPulse n light width s).cam n = (s.cam n).pulsed light s.now width ∧
    (startPulse n light width s).out = s.out ++ [.camPulse n light width] ∧ (startPulse n light width s).now = s.now := by
  unfold startPulse
  rw [if_neg h.ne']
  exact ⟨cam_modCam_self s n (Cam.pulsed light s.now width), rfl, rfl⟩

theorem camTrigStart_pulses {a : Nat} {rest : List Nat} (hd : (s.cam c).dueTrig = a :: rest) (ha : a ≤ s.now + dt)
    (he : s.trig.en = true) (hon : camOn s c = true) (hm : camTriggered s c = true) (hw : 0 < s.dv 0x6006 c)
    (hl : 0 < s.dv 0x6007 c) :
    Answers (.camTrigStart dt c) s fun t => (t.cam c).dueTrig = rest ∧
      (t.cam c).pulses = (s.cam c).pulses ++ [{ start := s.now + dt, inst := instantOf (s.later dt) c (s.now + dt) }] ∧
      (t.cam c).trigUntil = pulseEnd (s.now + dt) (s.dv 0x6006 c) (s.cam c).trigUntil ∧
      (t.cam c).lightUntil = pulseEnd (s.now + dt) (s.dv 0x6007 c) (s.cam c).lightUntil ∧
      t.out = s.out ++ [.camPulse c false (s.dv 0x6006 c), .camPulse c true (s.dv 0x6007 c)] := by
  have turn : exec (.camTrigStart dt c) s = execCamTrigStart dt c s := rfl
  unfold execCamTrigStart at turn
  have due : ((s.later dt).cam c).dueTrig = a :: rest := hd
  let u := (s.later dt).modCam c fun x => { x with dueTrig := rest }
  let pulsed (i : Instant) := u.modCam c fun x => { x with pulses := x.pulses ++ [{ start := s.now + dt, inst := i }] }
  have enabled : (u.trig.en && camOn u c && camTriggered u c) = true :=
    Bool.and_eq_true_iff.mpr ⟨Bool.and_eq_true_iff.mpr ⟨he, hon⟩, hm⟩
  have instant : instantOf u c (s.now + dt) = instantOf (s.later dt) c (s.now + dt) := instantOf_modCam rfl _
  have first : (u.cam c) = { (s.cam c) with dueTrig := rest } := cam_modCam_self _ _ _
  have second : (pulsed (instantOf u c (s.now + dt))).cam c = { (s.cam c) with
      dueTrig := rest
      pulses := (s.cam c).pulses ++ [{ start := s.now + dt, inst := instantOf (s.later dt) c (s.now + dt) }] } := by
    rw [show (pulsed (instantOf u c (s.now + dt))).cam c = _ from cam_modCam_self _ _ _, first, instant]
  refine run_answers_timeless (fun _ _ _ h => h) turn
    (u := startPulse c true (s.dv 0x6007 c) (startPulse c false (s.dv 0x6006 c) (pulsed (instantOf u c (s.now + dt))))) ?_ ?_
  · rw [due]
    exact (if_neg ha.not_gt).trans (if_pos enabled)
  · obtain ⟨trig, told, now⟩ := startPulse_asserts (n := c) false (pulsed (instantOf u c (s.now + dt))) hw
    obtain ⟨light, tells, -⟩ := startPulse_asserts (n := c) true
      (startPulse c false (s.dv 0x6006 c) (pulsed (instantOf u c (s.now + dt)))) hl
    rw [trig, second, now] at light
    rw [told, List.append_assoc] at tells
    rw [light]
    exact ⟨rfl, rfl, rfl, rfl, tells⟩

theorem camPulseEnd_trig {a : Nat} (hu : (s.cam c).trigUntil = some a) (ha : a ≤ s.now + dt) :
    exec (.camPulseEnd dt c false) s = .next ((s.later dt).modCam c fun x => { x with trigUntil := none }) := by
  have asserted : ((s.later dt).cam c).trigUntil = some a := hu
  have turn : exec (.camPulseEnd dt c false) s = execCamPulseEnd dt c false s := rfl
  unfold execCamPulseEnd at turn
  refine run_next turn ?_ rfl rfl
  rw [if_neg Bool.false_ne_true, asserted]
  exact if_pos ha

theorem camPulseEnd_light {a : Nat} (hu : (s.cam c).lightUntil = some a) (ha : a ≤ s.now + dt) :
    exec (.camPulseEnd dt c true) s = .next ((s.later dt).modCam c fun x => { x with lightUntil := none }) := by
  have asserted : ((s.later dt).cam c).lightUntil = some a := hu
  have turn : exec (.camPulseEnd dt c true) s = execCamPulseEnd dt c true s := rfl
  unfold execCamPulseEnd at turn
  refine run_next turn ?_ rfl rfl
  rw [if_pos rfl, asserted]
  exact if_pos ha

end

/-! ### Writes (R219, R226, R227) -/

section
variable {dt : Nat} {door : Door} {s : State}

theorem regOffsetWrite_sets {scale : Bool} {k : Fin 4} {v w : Slot} {c : Nat}
    (hw : Written s door (if scale then 0x6106 else 0x6105) k v none c w) :
    exec (.regOffsetWrite dt door scale k v) s = .next ((((s.later dt).setDv (if scale then 0x6106 else 0x6105) c w.toNat).setDv
      0x6108 c 0).modCam c fun x => { x with regLost := false, regGen := x.regGen + 1 }) := by
  obtain ⟨row, hr, answer⟩ := (hw.later dt).doorWrite regEffect
  refine run_next (c := .regOffsetWrite dt door scale k v) rfl ((congrArg Prod.snd answer).trans ?_) rfl rfl
  unfold regEffect
  rw [rowAt_idx hr]
  rfl

theorem stripReq_asks {v w : Slot} {b d p rs : Nat} (hw : Written s door 0x6201 0 v (some b) d w) (ha : bitN w.toNat 7 = true)
    (hp : p = bitsN w.toNat 3 1) (hr : rs = bitsN w.toNat 0 0) (hu : s.inUse p = true) (hs : rs < s.rowSets p) :
    exec (.stripReq dt door v) s = .next ((s.later dt).modScan b fun x => { x with stripPending := some (p, rs, false) }) := by
  subst hp hr
  have usable : ((s.later dt).inUse (bitsN w.toNat 3 1) &&
      decide (bitsN w.toNat 0 0 < (s.later dt).rowSets (bitsN w.toNat 3 1))) = true :=
    Bool.and_eq_true_iff.mpr ⟨hu, decide_eq_true hs⟩
  refine run_next (c := .stripReq dt door v) rfl ((hw.later dt).through stripReqEffect _ fun row => ?_) rfl rfl
  exact (if_neg (by rw [ha]; decide)).trans (if_pos usable)

theorem satClear_clears {k : Fin 4} {v : Slot} {c : Nat} (hw : Written s door 0x6104 k v none c 1) :
    exec (.satClear dt door k v) s = .next ((s.later dt).modCam c fun x => { x with satMap := [] }) :=
  run_next (c := .satClear dt door k v) rfl ((hw.later dt).through satClearEffect _ fun _ => rfl) rfl rfl

end

/-! ### Abandoned strips (R235) -/

theorem EventsOnly.barsWithCols {s t : State} (h : EventsOnly s t) : t.barsWithCols = s.barsWithCols := by
  refine List.filter_congr fun a ha => ?_
  have layout : t.dv 0x1206 a = s.dv 0x1206 a :=
    h.dv _ _ (by rw [List.mem_range] at ha; omega) (by decide) (by decide) (by decide)
  unfold State.spanCount
  rw [layout]

theorem camJudge_keeps {α : Type} (c n b : Nat) (g : Strip → α) (s : State) :
    (camJudge n s).optics c b g = s.optics c b g ∧ (camJudge n s).barsWithCols = s.barsWithCols := by
  unfold camJudge; dsimp only
  split
  · exact ⟨rfl, rfl⟩
  · have told (flags : Nat) (data : List Byte) (u : State) := postD_events .camState flags data u
    rw [(told _ _ _).optics, (told _ _ _).barsWithCols, modCam_optics _ _ _ _ _ rfl]
    exact ⟨rfl, rfl⟩

/-- The strip that port `c` abandons at a datum line. -/
def Strip.left (c first : Nat) (y : Strip) : Strip :=
  if y.first = first then { y with ended := y.ended ++ [c], gone := y.gone ++ [c] } else y

/-- What the abandoning of strips turns on: the datum line, and the ports that have ended and that have abandoned it. -/
def Strip.marks (y : Strip) : Nat × List Nat × List Nat := (y.first, y.ended, y.gone)

section
variable {α : Type} {c b n : Nat} {s : State}

/-- R235: a port's leave of a strip of another bar leaves the bar's strips as they are. -/
theorem stripGone_optics_of_ne (h : b ≠ n) (g : Strip → α) (z : Strip) : (stripGone c n z s).optics c b g = s.optics c b g := by
  unfold stripGone; dsimp only
  rw [stripDoneAt_optics fun e => absurd e h, postB_optics, modCam_optics _ _ _ _ _ rfl,
    modStrip_optics _ _ _ _ _ fun e => absurd e h, ite_optics, bumpB_optics, ite_self]

theorem stripGone_marks (z : Strip) : ((stripGone c b z s).bar b).scan.strips.map Strip.marks =
    (s.bar b).scan.strips.map fun y => (y.left c z.first).marks := by
  have counted : ((if z.gone.isEmpty then s.bumpB b 0x6222 0 else s).bar b).scan.strips = (s.bar b).scan.strips := by
    split
    · rw [State.bumpB, State.bumpBN, State.setBo, bar_modBar_self]
    · rfl
  have marked : (stripGone c b z s).optics c b Strip.marks = (modStrip b z.first (fun y =>
      { y with ended := y.ended ++ [c], gone := y.gone ++ [c] })
        (if z.gone.isEmpty then s.bumpB b 0x6222 0 else s)).optics c b Strip.marks := by
    unfold stripGone; dsimp only
    rw [stripDoneAt_optics fun _ _ _ _ _ _ => rfl, postB_optics, modCam_optics _ _ _ _ _ rfl]
  refine (congrArg Optics.strips marked).trans ?_
  refine (congrArg (List.map Strip.marks) (modStrip_strips _ _ _ _)).trans ?_
  rw [counted, List.map_map]
  rfl

/-- R235: bar `b` has a strip at a datum line that satisfies a condition on what `Strip.marks` tells. -/
def HasStrip (b first : Nat) (p : List Nat → List Nat → Prop) (s : State) : Prop :=
  ∃ y ∈ (s.bar b).scan.strips, y.first = first ∧ p y.ended y.gone

theorem hasStrip_of_marks {first : Nat} {p : List Nat → List Nat → Prop} {t : State} {y : Strip}
    (h : y.marks ∈ (t.bar b).scan.strips.map Strip.marks) (hf : y.first = first) (hp : p y.ended y.gone) :
    HasStrip b first p t := by
  obtain ⟨z, hz, e⟩ := List.mem_map.mp h
  have first_eq : z.first = y.first := congrArg Prod.fst e
  have ended_eq : z.ended = y.ended := congrArg (fun q => q.2.1) e
  have gone_eq : z.gone = y.gone := congrArg (fun q => q.2.2) e
  exact ⟨z, hz, first_eq.trans hf, by rw [ended_eq, gone_eq]; exact hp⟩

/-- R235: that port `c` leaves a strip adds `c` to the ports that have ended and abandoned it. -/
theorem stripGone_hasStrip {first : Nat} {p q : List Nat → List Nat → Prop} {z : Strip} (h : HasStrip b first p s)
    (hs : z.first = first → ∀ e g, p e g → q (e ++ [c]) (g ++ [c])) (ho : z.first ≠ first → ∀ e g, p e g → q e g) :
    HasStrip b first q (stripGone c b z s) := by
  obtain ⟨y, hy, hf, hp⟩ := h
  have marks : (y.left c z.first).marks ∈ ((stripGone c b z s).bar b).scan.strips.map Strip.marks := by
    rw [stripGone_marks]
    exact List.mem_map.mpr ⟨y, hy, rfl⟩
  unfold Strip.left at marks
  split at marks
  · next same => exact hasStrip_of_marks marks hf (hs (same.symm.trans hf) _ _ hp)
  · next other => exact hasStrip_of_marks marks hf (ho (fun e => other (hf.trans e.symm)) _ _ hp)

/-- R235: a strip that port `c` has abandoned. -/
def leftBy (c : Nat) (ended gone : List Nat) : Prop := c ∈ ended ∧ c ∈ gone

theorem leftBy_append {e g : List Nat} : leftBy c (e ++ [c]) (g ++ [c]) :=
  ⟨List.mem_append_right _ (List.mem_singleton.mpr rfl), List.mem_append_right _ (List.mem_singleton.mpr rfl)⟩

theorem stripGone_left {first a : Nat} {z : Strip} (h : HasStrip b first (leftBy c) s) :
    HasStrip b first (leftBy c) (stripGone c a z s) := by
  by_cases e : b = a
  · subst e
    exact stripGone_hasStrip h (fun _ _ _ _ => leftBy_append) fun _ _ _ => id
  · have same : ((stripGone c a z s).bar b).scan.strips.map id = (s.bar b).scan.strips.map id :=
      congrArg Optics.strips (stripGone_optics_of_ne (c := c) e id z)
    rw [List.map_id, List.map_id] at same
    unfold HasStrip
    rw [same]
    exact h

/-- R235: of the strips that port `c` leaves, each is abandoned. -/
theorem stripsLeft {first : Nat} {zs : List Strip} {x : Strip} (hx : x ∈ zs) (hf : x.first = first)
    (h : HasStrip b first (fun _ _ => True) s) : HasStrip b first (leftBy c) (forAll zs (stripGone c b) s) := by
  obtain ⟨pre, post, rfl⟩ := List.append_of_mem hx
  have before := forAll_induct (HasStrip b first fun _ _ => True) pre (stripGone c b) s
    (fun z t ht => stripGone_hasStrip ht (fun _ _ _ => id) fun _ _ _ => id) h
  have turn := stripGone_hasStrip (c := c) (q := leftBy c) (z := x) before (fun _ _ _ _ => leftBy_append)
    fun other => absurd hf other
  have after := forAll_induct (HasStrip b first (leftBy c)) post (stripGone c b) _ (fun z t ht => stripGone_left ht) turn
  unfold forAll at after ⊢
  rw [List.foldl_append, List.foldl_cons]
  exact after

end

/-- The strips of a bar that a port still measures (R235). -/
def stripsMeasured (c b : Nat) (s : State) : List Strip :=
  (s.bar b).scan.strips.filter fun x =>
    !x.abandoned && !x.measured && !x.ended.contains c && (stripPorts s x).contains c && decide (x.first ≤ s.trig.line)

theorem stripsGone_eq (c : Nat) (s : State) : stripsGone c s =
    forAll s.barsWithCols (fun a s => forAll (stripsMeasured c a s) (stripGone c a) s) s := rfl

/-- R235: port `c` abandons each strip that it still measures. -/
theorem stripsGone_leaves {c b : Nat} {x : Strip} {s : State} (hb : b ∈ s.barsWithCols) (hc : c < 4)
    (hx : x ∈ (s.bar b).scan.strips) (ha : x.abandoned = false) (hm : x.measured = false) (he : c ∉ x.ended) (hp : c ∈ x.ports)
    (hl : x.first ≤ s.trig.line) : HasStrip b x.first (leftBy c) (stripsGone c s) := by
  obtain ⟨pre, post, split, fresh⟩ := List.eq_append_cons_of_mem hb
  rw [stripsGone_eq, split]
  have before : (forAll pre (fun a s => forAll (stripsMeasured c a s) (stripGone c a) s) s).optics c b id = s.optics c b id :=
    forAll_induct_mem (P := fun t => t.optics c b id = s.optics c b id) (fun a h t ht =>
      (forAll_optics _ _ _ _ _ _ fun z t => stripGone_optics_of_ne (fun e : b = a => fresh (e.symm ▸ h)) id z).trans ht) rfl
  generalize hu : forAll pre (fun a s => forAll (stripsMeasured c a s) (stripGone c a) s) s = u at before
  have strips : (u.bar b).scan.strips = (s.bar b).scan.strips := by
    have same : (u.bar b).scan.strips.map id = (s.bar b).scan.strips.map id := congrArg Optics.strips before
    rwa [List.map_id, List.map_id] at same
  have line : u.trig.line = s.trig.line := congrArg Optics.line before
  have measured : x ∈ stripsMeasured c b u := by
    refine List.mem_filter.mpr ⟨strips ▸ hx, ?_⟩
    have port : c ∈ stripPorts u x := List.mem_filter.mpr ⟨List.mem_range.mpr hc, by simp [hp]⟩
    simp [ha, hm, he, port, line, hl]
  have turn := stripsLeft (c := c) measured rfl (s := u) ⟨x, strips ▸ hx, rfl, trivial⟩
  have after := forAll_induct (HasStrip b x.first (leftBy c)) post
    (fun a s => forAll (stripsMeasured c a s) (stripGone c a) s) _
    (fun a t ht => forAll_induct (HasStrip b x.first (leftBy c)) _ _ t (fun z w hw => stripGone_left hw) ht) turn
  unfold forAll at hu after ⊢
  rw [List.foldl_append, hu, List.foldl_cons]
  exact after

theorem stripAbandoned_leaves {dt b : Nat} {c : Fin 4} {x : Strip} {s : State} (hon : camOn s c = false) (hb : b ∈ s.barsWithCols)
    (hx : x ∈ (s.bar b).scan.strips) (ha : x.abandoned = false) (hm : x.measured = false) (he : c.val ∉ x.ended)
    (hp : c.val ∈ x.ports) (hl : x.first ≤ s.trig.line) :
    Answers (.stripAbandoned dt c) s fun t => ∃ y ∈ (t.bar b).scan.strips, y.first = x.first ∧ c.val ∈ y.ended ∧ c.val ∈ y.gone := by
  have turn : exec (.stripAbandoned dt c) s = execStripAbandoned dt c s := rfl
  unfold execStripAbandoned at turn
  have off : camOn (s.later dt) c = false := hon
  obtain ⟨optics, bars⟩ := camJudge_keeps c c b id (s.later dt)
  have strips : ((camJudge c (s.later dt)).bar b).scan.strips.map id = ((s.later dt).bar b).scan.strips.map id :=
    congrArg Optics.strips optics
  rw [List.map_id, List.map_id] at strips
  have line : (camJudge c (s.later dt)).trig.line = s.trig.line := congrArg Optics.line optics
  refine run_answers_timeless (fun _ _ _ h => h) turn (if_pos (by rw [off]; rfl)) ?_
  refine stripsGone_leaves (by rw [bars]; exact hb) c.isLt (by rw [strips]; exact hx) ha hm he hp ?_
  rw [line]
  exact hl

/-- Settles O30: a packet is traffic and its line takes the place that `takeLine_good` and `takeLine_bad` give it, whatever its
emission brings; pulses, abandoned strips and the writes set what they name. -/
theorem camerasReceiveAndPulse : Obligations.CamerasReceiveAndPulse := by
  unfold Obligations.CamerasReceiveAndPulse
  refine ⟨?taken, ?bad, ?frame, ?many, ?pulse, ?trig, ?light, ?strip, ?offset, ?asked, ?clear⟩
  case taken => exact fun _ _ _ _ _ _ _ _ hon hh hv ht hm hw hl hi hb => csiLongPacket_takes hon hh hv ht hm hw hl hi hb
  case bad => exact fun _ _ _ _ _ _ _ _ hon hh hv ht hm => csiLongPacket_errs hon hh hv ht hm
  case frame => exact fun _ _ _ _ _ _ hon hh hv ht hm => csiShortPacket_starts hon hh hv ht hm
  case many => exact fun _ _ _ _ _ hon => csiShortPacket_many hon
  case pulse => exact fun _ _ _ _ _ hd ha he hon hm hw hl => camTrigStart_pulses hd ha he hon hm hw hl
  case trig => exact fun _ _ _ _ hu ha => camPulseEnd_trig hu ha
  case light => exact fun _ _ _ _ hu ha => camPulseEnd_light hu ha
  case strip => exact fun _ _ _ _ _ hon hb hx ha hm he hp hl => stripAbandoned_leaves hon hb hx ha hm he hp hl
  case offset => exact fun _ _ _ _ _ _ _ _ hw => regOffsetWrite_sets hw
  case asked => exact fun _ _ _ _ _ _ _ _ _ hw ha hp hr hu hs => stripReq_asks hw ha hp hr hu hs
  case clear => exact fun _ _ _ _ _ _ hw => satClear_clears hw

end Sys2Proof.Machine
end

/-! ## What changes the bytes of the page memory (10_placement_memory.md R244, R253, R260; 17_electrical_package.md R378, R381) -/

section
namespace Sys2Proof.Machine
open Sys2Proof

/-- An answer whose next state, where there is one, lists for every subchannel the bytes that it lists in `s`. -/
def KeepsBytes (s : State) (o : Host.Outcome State Fault Refusal) : Prop :=
  ∀ t, o = .next t → cellsOf t.subch = cellsOf s.subch

theorem run_keepsBytes {dt : Nat} {f : State → State} {s : State} (h : ∀ u, cellsOf (f u).subch = cellsOf u.subch) :
    KeepsBytes s (run dt s f) := by
  rintro _ ⟨⟩
  exact h (s.later dt)

/-- An effect that waits for its condition changes no byte when it changes none once that holds. -/
theorem run_if_keepsBytes {dt : Nat} {p : State → Prop} [DecidablePred p] {f : State → State} {s : State}
    (h : ∀ u, cellsOf (f u).subch = cellsOf u.subch) : KeepsBytes s (run dt s fun u => if p u then f u else u) := by
  refine run_keepsBytes fun u => ?_
  split
  · exact h u
  · rfl

/-- A malformed byte string leads to no next state (assumption log 96). -/
theorem KeepsBytes.orFault {s : State} {p : Prop} [Decidable p] {o : Host.Outcome State Fault Refusal} {e : Fault}
    (h : KeepsBytes s o) : KeepsBytes s (if p then o else .fault e) := by
  split
  · exact h
  · intro t answered
    cases answered

/-! ### Effects behind a lane, the pair link and a core -/

section
variable {f : State → State} (h : ∀ u, cellsOf (f u).subch = cellsOf u.subch)
include h

theorem upFrame_cells (p : Nat) (x : QhlFrame) (s : State) : cellsOf (upFrame p x f s).subch = cellsOf s.subch := by
  unfold upFrame
  repeat' split
  · rfl
  · exact congrArg cellsOf (frameCrc_subch p s)
  · exact h s
  · rfl

theorem onRecord_cells (s : State) : cellsOf (onRecord f s).subch = cellsOf s.subch := by
  unfold onRecord
  split
  · exact (h (heard s)).trans (congrArg cellsOf (heard_subch s))
  · rfl

theorem toStandby_cells (s : State) : cellsOf (toStandby f s).subch = cellsOf s.subch := by
  refine onRecord_cells (fun u => ?_) s
  split
  · rfl
  · exact h u

end

section
variable {f : Nat → State → State} (h : ∀ t u, cellsOf (f t u).subch = cellsOf u.subch)
include h

theorem byThread_cells (c : Nat) (s : State) : cellsOf (byThread c f s).subch = cellsOf s.subch := by
  unfold byThread
  split
  · rfl
  · exact (congrArg cellsOf (judgeWait_subch 4 _)).trans (h _ s)

theorem byMachine_cells (c : Nat) (s : State) : cellsOf (byMachine c f s).subch = cellsOf s.subch := by
  refine byThread_cells (fun t u => ?_) c s
  split
  · exact congrArg cellsOf (illegalCsr_subch t u)
  · exact h t u

end

/-! ### Commands that may find their input malformed -/

section
variable (dt : Nat) (s : State)

theorem waybillFetched_keepsBytes (bar : Fin 16) (bytes : List Byte) : KeepsBytes s (execWaybillFetched dt bar bytes s) := by
  refine KeepsBytes.orFault (run_keepsBytes fun u => ?_)
  split <;> simp

theorem djStart_keepsBytes (bar : Fin 16) (desc : List Byte) : KeepsBytes s (execDjStart dt bar desc s) := by
  refine KeepsBytes.orFault (run_keepsBytes fun u => ?_)
  dsimp only
  repeat' split
  all_goals simp

theorem djResume_keepsBytes (bar : Fin 16) (desc : List Byte) : KeepsBytes s (execDjResume dt bar desc s) := by
  refine KeepsBytes.orFault (run_keepsBytes fun u => ?_)
  dsimp only
  repeat' split
  all_goals simp

theorem djCancel_keepsBytes (bar : Fin 16) (desc : List Byte) : KeepsBytes s (execDjCancel dt bar desc s) := by
  refine KeepsBytes.orFault (run_keepsBytes fun u => ?_)
  dsimp only
  repeat' split
  all_goals simp

theorem statusTelemetry_keepsBytes (port : Fin 64) (ends : QhlEnds) (data : List Byte) :
    KeepsBytes s (execStatusTelemetry dt port ends data s) := by
  refine KeepsBytes.orFault (run_keepsBytes fun u => upFrame_cells (fun v => ?_) _ _ _)
  split <;> simp

/-! ### Commands of the subchannels that change no byte (R251, R253, R254, R258, R259) -/

theorem drayReadDone_keepsBytes (dray : Fin 8) : KeepsBytes s (execDrayReadDone dt dray s) := by
  refine run_keepsBytes fun u => ?_
  dsimp only
  split
  · exact forAll_cells _ _ _ repayRefresh_cells
  · rfl

theorem bankIdleClose_keepsBytes (k : Fin 8) (bank : Nat) : KeepsBytes s (execBankIdleClose dt k bank s) := by
  refine run_keepsBytes fun u => ?_
  repeat' split
  · exact modSch_cells _ _ _ rfl
  · rfl
  · rfl

theorem dqsTrack_keepsBytes : KeepsBytes s (execDqsTrack dt s) :=
  run_keepsBytes fun _ => forAll_cells _ _ _ trackDqs_cells

theorem scrubTick_keepsBytes (k : Fin 8) : KeepsBytes s (execScrubTick dt k s) := by
  refine run_keepsBytes fun u => ?_
  split
  · exact modSch_cells _ _ _ rfl
  · rfl

theorem subchRetrainDone_keepsBytes (k : Fin 8) (ok : Bool) : KeepsBytes s (execSubchRetrainDone dt k ok s) := by
  refine run_keepsBytes fun u => ?_
  dsimp only
  repeat' split
  all_goals simp [modSch_cells]

theorem rebaseTick_keepsBytes : KeepsBytes s (execRebaseTick dt s) :=
  run_if_keepsBytes (f := fun u => rebase (u.clock.base + 2 ^ 30) u) fun u => congrArg cellsOf (rebase_subch _ u)

end

/-! ### Every command -/

/-- The branches of a command lead through the doors, lanes, records and cores above, or to operations that leave the subchannels
alone. -/
theorem exec_keepsBytes {c : Instr} (hc : c.keepsMemory = true) (s : State) : KeepsBytes s (exec c s) := by
  unfold exec
  cases c <;> dsimp only
  case mcCommand | subchRetired | bootStart | dozeExitDone | pwrgoodRise | pwrgoodFall | resetAsserted | referenceClockFailure =>
    exact absurd hc Bool.false_ne_true
  case waybillFetched dt bar bytes => exact waybillFetched_keepsBytes dt s bar bytes
  case djStart dt bar desc => exact djStart_keepsBytes dt s bar desc
  case djResume dt bar desc => exact djResume_keepsBytes dt s bar desc
  case djCancel dt bar desc => exact djCancel_keepsBytes dt s bar desc
  case statusTelemetry dt port ends data => exact statusTelemetry_keepsBytes dt s port ends data
  case drayReadDone dt dray => exact drayReadDone_keepsBytes dt s dray
  case bankIdleClose dt k bank => exact bankIdleClose_keepsBytes dt s k bank
  case dqsTrack dt => exact dqsTrack_keepsBytes dt s
  case scrubTick dt k => exact scrubTick_keepsBytes dt s k
  case subchRetrainDone dt k ok => exact subchRetrainDone_keepsBytes dt s k ok
  case rebaseTick dt => exact rebaseTick_keepsBytes dt s
  all_goals refine run_keepsBytes fun u => ?_
  all_goals first
    | with_reducible refine writeThrough_cells _ _ _ _ _ _ fun _ _ _ _ _ => ?_
    | with_reducible refine (settled_cells _ _).trans ?_
    | with_reducible refine upFrame_cells (fun _ => ?_) _ _ _
    | with_reducible refine toStandby_cells (fun _ => ?_) _
    | with_reducible refine onRecord_cells (fun _ => ?_) _
    | with_reducible refine byThread_cells (fun _ _ => ?_) _ _
    | with_reducible refine byMachine_cells (fun _ _ => ?_) _ _
    | skip
  all_goals try dsimp only
  all_goals repeat' first | (simp; done) | split

/-- Settles O59: a command that keeps the memory keeps the list of bytes of every subchannel, and so what is read from it. -/
theorem onlyTheControllersChangeMemory : Obligations.OnlyTheControllersChangeMemory := by
  unfold Obligations.OnlyTheControllersChangeMemory
  intro c s t hc answered k a
  exact congrArg (memRead · a) (congrFun (exec_keepsBytes hc s t answered) k)

/-! ### The canonical form (R244) -/

/-- Settles O58. -/
theorem memoryIsCanonicalAtReset : Obligations.MemoryIsCanonicalAtReset := by
  unfold Obligations.MemoryIsCanonicalAtReset
  exact fun _ => rfl

theorem MemoryCanonical.of_cells {s t : State} (h : MemoryCanonical s) (same : cellsOf t.subch = cellsOf s.subch) :
    MemoryCanonical t := fun k => (congrArg (Memory.wf ·) (congrFun same k)).trans (h k)

/-- Subchannels without their bytes are in the canonical form (assumption log 11). -/
theorem MemoryCanonical.of_empty {t : State} (none : cellsOf t.subch = fun _ => []) : MemoryCanonical t := fun k =>
  congrArg (Memory.wf ·) (congrFun none k)

/-- An answer whose next state, where there is one, is in the canonical form if `s` is. -/
def KeepsCanonical (s : State) (o : Host.Outcome State Fault Refusal) : Prop :=
  MemoryCanonical s → ∀ t, o = .next t → MemoryCanonical t

theorem run_keepsCanonical {dt : Nat} {f : State → State} {s : State} (h : ∀ u, MemoryCanonical u → MemoryCanonical (f u)) :
    KeepsCanonical s (run dt s f) := by
  rintro hs _ ⟨⟩
  exact h (s.later dt) hs

/-- R253: arrivals and retries move requests about; only the command issued changes bytes. -/
theorem mcCommand_keepsCanonical (dt : Nat) (k : Fin 8) (rs : List McReq) (s : State) :
    KeepsCanonical s (execMcCommand dt k rs s) := by
  refine run_keepsCanonical fun u hu => ?_
  have arrived : MemoryCanonical (drainJudge k (forAll (rs.filter (mcMine u k)) (mcArrive k) (mcRetry k u))) :=
    hu.of_cells ((drainJudge_cells _ _).trans ((forAll_cells _ _ _ (mcArrive_cells k)).trans (mcRetry_cells _ _)))
  dsimp only
  repeat' split
  · exact arrived
  · exact MemoryCanonical.of_cells (mcIssue_canonical k _ arrived) ((drainJudge_cells _ _).trans (mcRetry_cells _ _))
  · exact hu

/-- R260: a subchannel that has been copied leaves the canonical form standing in all. -/
theorem subchRetired_keepsCanonical (dt : Nat) (k : Fin 8) (s : State) : KeepsCanonical s (execSubchRetired dt k s) := by
  refine run_keepsCanonical fun u hu => ?_
  dsimp only
  split
  · refine MemoryCanonical.of_cells (copyOut_canonical k u hu) ?_
    rw [postD_subch, domainsFollow_subch, shrinkPool_subch]
    exact modSch_cells _ _ _ rfl
  · exact hu

theorem MemoryCanonical.of_nil {t : State} (none : t.subch = []) : MemoryCanonical t :=
  .of_empty ((congrArg cellsOf none).trans cellsOf_nil)

/-! ### Power, reset and BOOT (R244; 17_electrical_package.md R378, R381) -/

theorem bootEnter_canonical {s : State} (h : MemoryCanonical s) : MemoryCanonical (bootEnter s) :=
  (bootEnter_cells s).elim h.of_cells MemoryCanonical.of_empty

theorem internalReset_subch (s : State) : (internalReset s).subch = [] := by
  unfold internalReset
  dsimp only
  split
  · exact startRails_subch _
  · rfl

theorem powerOn_subch (s : State) : (powerOn s).subch = [] := startRails_subch _

section
variable (dt : Nat) (s : State)

theorem bootStart_keepsCanonical : KeepsCanonical s (execBootStart dt s) := by
  refine run_keepsCanonical fun u hu => ?_
  split
  · exact bootEnter_canonical hu
  · exact hu

theorem dozeExitDone_keepsCanonical : KeepsCanonical s (execDozeExitDone dt s) := by
  refine run_keepsCanonical fun u hu => ?_
  repeat' split
  · exact hu.of_cells (congrArg cellsOf (dozeBack_subch _ u))
  · exact bootEnter_canonical (.of_nil (volatileReset_subch _ _))
  all_goals exact hu

theorem pwrgoodRise_keepsCanonical : KeepsCanonical s (execPwrgoodRise dt s) := by
  unfold execPwrgoodRise
  split
  · exact run_keepsCanonical fun _ hu => hu
  · rintro - _ ⟨⟩
    exact .of_nil (powerOn_subch s)

theorem pwrgoodFall_keepsCanonical : KeepsCanonical s (execPwrgoodFall dt s) := by
  refine run_keepsCanonical fun u hu => ?_
  split
  · exact .of_nil rfl
  · exact hu

theorem resetAsserted_keepsCanonical : KeepsCanonical s (execResetAsserted dt s) := by
  refine run_keepsCanonical fun u hu => ?_
  split
  · exact .of_nil (internalReset_subch u)
  · exact hu

theorem referenceClockFailure_keepsCanonical (sds : Bool) : KeepsCanonical s (execReferenceClockFailure dt sds s) := by
  refine run_keepsCanonical fun u hu => ?_
  repeat' split
  · exact .of_nil (internalReset_subch u)
  · exact hu
  · exact .of_nil (internalReset_subch u)
  · exact hu

end

/-- Every command keeps the canonical form: those that change no byte, the controller's and the copying, and those that begin
with an empty memory. -/
theorem exec_keepsCanonical (c : Instr) (s : State) : KeepsCanonical s (exec c s) := by
  by_cases hc : c.keepsMemory = true
  · exact fun hs t answered => hs.of_cells (exec_keepsBytes hc s t answered)
  · cases c
    case mcCommand dt k rs => exact mcCommand_keepsCanonical dt k rs s
    case subchRetired dt k => exact subchRetired_keepsCanonical dt k s
    case bootStart dt => exact bootStart_keepsCanonical dt s
    case dozeExitDone dt => exact dozeExitDone_keepsCanonical dt s
    case pwrgoodRise dt => exact pwrgoodRise_keepsCanonical dt s
    case pwrgoodFall dt => exact pwrgoodFall_keepsCanonical dt s
    case resetAsserted dt => exact resetAsserted_keepsCanonical dt s
    case referenceClockFailure dt sds => exact referenceClockFailure_keepsCanonical dt s sds
    all_goals exact absurd rfl hc

/-- Settles O57: the step idles, or takes the front command from a state of the same memory. -/
theorem memoryStaysCanonical : Obligations.MemoryStaysCanonical := by
  unfold Obligations.MemoryStaysCanonical step
  intro s t hs answered
  split at answered
  · cases answered
    exact hs
  · next c rest _ => exact exec_keepsCanonical c { s with pending := rest } hs t answered

end Sys2Proof.Machine
end

/-! ## What faults and pages leave as it was (10_placement_memory.md R245, R258, R264; 16_faults_test.md R355, R356) -/

section
namespace Sys2Proof.Machine
open Sys2Proof

/-- The objects that count and place the errors of DRAM (7220 to 7222), and 7302. -/
@[simp] def errorObject (i : Nat) : Bool := i == 0x7220 || i == 0x7221 || i == 0x7222 || i == 0x7302

/-- What the memory keeps of errors, quotas and retirements: the error objects, DRAM_QUOTA of each bar, the lines lost to each
port and the retired channels. -/
structure Ledger where
  errors : Nat → Option Val
  quotas : Nat → Option Val
  lost : Nat → List Nat
  retired : Map Bool

def State.ledger (s : State) : Ledger where
  errors k := if errorObject (k / 256) then s.dev.get? k else none
  quotas b := (s.bar b).obj.get? (okey 0x7100 0)
  lost p := (s.port p).lostLines
  retired := s.mram.retired

theorem dv_of_errors {s t : State} (h : t.ledger.errors = s.ledger.errors) {i j : Nat} (hi : errorObject i = true) (hj : j < 256) :
    t.dv i j = s.dv i j := by
  have same := congrFun h (okey i j)
  have index : okey i j / 256 = i := by unfold okey; omega
  simp only [State.ledger, index, hi, if_true] at same
  unfold State.dv slotIn
  rw [same]

section
variable {s t : State} (h : t.ledger = s.ledger)
include h

theorem quota_of_ledger (b : Nat) : t.bo b 0x7100 0 = s.bo b 0x7100 0 := by
  have same : (t.bar b).obj.get? (okey 0x7100 0) = (s.bar b).obj.get? (okey 0x7100 0) := congrFun (congrArg Ledger.quotas h) b
  unfold State.bo slotIn
  rw [same]

theorem lost_of_ledger (p : Nat) : (t.port p).lostLines = (s.port p).lostLines := congrFun (congrArg Ledger.lost h) p

theorem retired_of_ledger (cls ch : Nat) : isRetired t cls ch = isRetired s cls ch := by
  have same : t.mram.retired = s.mram.retired := congrArg Ledger.retired h
  unfold isRetired
  rw [same]

end

/-! ### State operations -/

section
variable (k n b p i j v : Nat) (s : State)

@[simp] theorem ite_ledger (c : Prop) [Decidable c] (t u : State) :
    (if c then t else u).ledger = if c then t.ledger else u.ledger := apply_ite State.ledger c t u

theorem forAll_ledger_mem {α : Type} (xs : List α) (f : α → State → State)
    (h : ∀ x ∈ xs, ∀ t, (f x t).ledger = t.ledger) : (forAll xs f s).ledger = s.ledger := by
  induction xs generalizing s with
  | nil => rfl
  | cons x xs ih =>
    rw [forAll_cons]
    exact (ih _ fun y hy => h y (List.mem_cons_of_mem x hy)).trans (h x List.mem_cons_self s)

@[simp] theorem forAll_ledger {α : Type} (xs : List α) (f : α → State → State)
    (h : ∀ x t, (f x t).ledger = t.ledger) : (forAll xs f s).ledger = s.ledger := forAll_keeps State.ledger xs f s h

theorem EventsOnly.ledger {s t : State} (h : EventsOnly s t) : t.ledger = s.ledger := by
  have errors : ∀ k, (if errorObject (k / 256) then t.dev.get? k else none) = if errorObject (k / 256) then s.dev.get? k else none := by
    intro k
    split
    · next hk =>
      simp only [errorObject, Bool.or_eq_true, beq_iff_eq] at hk
      exact h.dev k (by omega) (by omega) (by omega)
    · rfl
  unfold State.ledger
  rw [h.mram, funext errors]
  congr 1
  · exact funext fun b => h.obj b _ (by decide)
  · exact funext fun p => by rw [h.port]

@[simp] theorem post_ledger (e : Event) : (post e s).ledger = s.ledger := (post_events e s).ledger
@[simp] theorem postD_ledger (ev : Ev) (flags : Nat) (data : List Byte) : (postD ev flags data s).ledger = s.ledger :=
  (postD_events ev flags data s).ledger
@[simp] theorem postB_ledger (ev : Ev) (page flags : Nat) (data : List Byte) : (postB ev b page flags data s).ledger = s.ledger :=
  (postB_events ev b page flags data s).ledger
@[simp] theorem raiseSource_ledger : (raiseSource n s).ledger = s.ledger := (raiseSource_events n s).ledger
@[simp] theorem pairSend_ledger (r : PairOut) : (pairSend r s).ledger = s.ledger := (pairSend_events r s).ledger
@[simp] theorem mirror_ledger (m : MirrorItem) : (mirror m s).ledger = s.ledger := (mirror_events m s).ledger
@[simp] theorem emit_ledger (o : Out) : (s.emit o).ledger = s.ledger := rfl
@[simp] theorem modAxis_ledger (f) : (s.modAxis k f).ledger = s.ledger := rfl
@[simp] theorem modCam_ledger (f) : (s.modCam k f).ledger = s.ledger := rfl
@[simp] theorem modSch_ledger (f) : (s.modSch k f).ledger = s.ledger := rfl
@[simp] theorem modEngine_ledger (f) : (s.modEngine k f).ledger = s.ledger := rfl
@[simp] theorem modPair_ledger (f) : (s.modPair f).ledger = s.ledger := rfl
@[simp] theorem modMoa_ledger (f) : (s.modMoa f).ledger = s.ledger := rfl
@[simp] theorem idleDomain_ledger : (s.idleDomain k).ledger = s.ledger := rfl
@[simp] theorem draw_ledger : s.draw.2.ledger = s.ledger := rfl
@[simp] theorem health_ledger (m) : State.ledger { s with health := m } = s.ledger := rfl
@[simp] theorem place_ledger (q) : State.ledger { s with place := q } = s.ledger := rfl
@[simp] theorem sram_ledger (q) : State.ledger { s with sram := q } = s.ledger := rfl

@[simp] theorem modBar_ledger (f : Bar → Bar) (h : ∀ x, (f x).obj.get? (okey 0x7100 0) = x.obj.get? (okey 0x7100 0)) :
    (s.modBar b f).ledger = s.ledger := by
  have quotas : ∀ c, ((s.modBar b f).bar c).obj.get? (okey 0x7100 0) = (s.bar c).obj.get? (okey 0x7100 0) := fun c => by
    by_cases hc : c = b
    · subst hc
      rw [bar_modBar_self]
      exact h _
    · rw [bar_modBar_of_ne _ _ hc]
  exact congrArg (fun q => { s.ledger with quotas := q }) (funext quotas)

@[simp] theorem modPort_ledger (f : Port → Port) (h : ∀ x, (f x).lostLines = x.lostLines) :
    (s.modPort p f).ledger = s.ledger := by
  have lost : ∀ q, ((s.modPort p f).port q).lostLines = (s.port q).lostLines := fun q => by
    by_cases hq : q = p
    · subst hq
      rw [port_modPort_self]
      exact h _
    · rw [port_modPort_of_ne _ _ hq]
  exact congrArg (fun q => { s.ledger with lost := q }) (funext lost)

@[simp] theorem modMram_ledger (f : Mram → Mram) (h : ∀ m, (f m).retired = m.retired) : (s.modMram f).ledger = s.ledger :=
  congrArg (fun q => { s.ledger with retired := q }) (h s.mram)

theorem setDv_ledger_of (h : errorObject (okey i j / 256) = false) : (s.setDv i j v).ledger = s.ledger := by
  have errors : ∀ k, (if errorObject (k / 256) then (s.setDv i j v).dev.get? k else none) =
      if errorObject (k / 256) then s.dev.get? k else none := fun k => by
    split
    · next hk => exact Map.get?_set_of_ne _ _ fun e => by rw [e, h] at hk; cases hk
    · rfl
  exact congrArg (fun q => { s.ledger with errors := q }) (funext errors)

@[simp] theorem setDv_ledger (hi : errorObject i = false) (hj : j < 256) : (s.setDv i j v).ledger = s.ledger :=
  setDv_ledger_of i j v s (by rwa [show okey i j / 256 = i by unfold okey; omega])

@[simp] theorem setBo_ledger (hi : i ≠ 0x7100) (hj : j < 256) : (s.setBo b i j v).ledger = s.ledger :=
  modBar_ledger _ _ _ fun _ => Map.get?_set_of_ne _ _ (by unfold okey; omega)

@[simp] theorem bump_ledger (hi : errorObject i = false) (hj : j < 256) : (s.bump i j).ledger = s.ledger := setDv_ledger i j _ s hi hj
@[simp] theorem setBit_ledger (x : Nat) (y : Bool) (hi : errorObject i = false) (hj : j < 256) :
    (s.setBit i j x y).ledger = s.ledger := setDv_ledger i j _ s hi hj
@[simp] theorem bumpBN_ledger (hi : i ≠ 0x7100) (hj : j < 256) : (s.bumpBN b i j v).ledger = s.ledger := setBo_ledger b i j _ s hi hj
@[simp] theorem bumpB_ledger (hi : i ≠ 0x7100) (hj : j < 256) : (s.bumpB b i j).ledger = s.ledger := setBo_ledger b i j _ s hi hj
@[simp] theorem countB64_ledger (hi : i ≠ 0x7100) (hj : j < 256) : (s.countB64 b i j v).ledger = s.ledger :=
  setBo_ledger b i j _ s hi hj
@[simp] theorem modIntake_ledger (f) : (s.modIntake b f).ledger = s.ledger := modBar_ledger _ _ _ fun _ => rfl
@[simp] theorem modScan_ledger (f) : (s.modScan b f).ledger = s.ledger := modBar_ledger _ _ _ fun _ => rfl
@[simp] theorem modGen_ledger (f) : (s.modGen b f).ledger = s.ledger := modBar_ledger _ _ _ fun _ => rfl

@[simp] theorem modPage_ledger (f) : (s.modPage b n f).ledger = s.ledger := by
  unfold State.modPage
  split
  · rfl
  · exact modBar_ledger _ _ _ fun _ => rfl

/-! ### Reins, the log and faults -/

@[simp] theorem standbyOutputs_ledger : (standbyOutputs s).ledger = s.ledger := rfl
@[simp] theorem ownMirror_ledger : (ownMirror s).ledger = s.ledger := rfl
@[simp] theorem logVolatile_ledger (e : LogEntry) : (logVolatile e s).ledger = s.ledger := rfl

/-- R271: the requests to a head are dropped, and not the record of its lost lines. -/
@[simp] theorem dropWrites_ledger : (dropWrites s).ledger = s.ledger := by
  have lost : ∀ q, ((dropWrites s).port q).lostLines = (s.port q).lostLines := fun q => by
    unfold dropWrites State.port Map.getD
    dsimp only
    rw [Map.get?_mapVals]
    cases s.ports.get? q <;> rfl
  exact congrArg (fun q => { s.ledger with lost := q }) (funext lost)

@[simp] theorem releaseReins_ledger (cause : Nat) : (releaseReins cause s).ledger = s.ledger := by
  simp [releaseReins, abandonSearches, abandonSearch]

@[simp] theorem logBoth_ledger (e : LogEntry) : (logBoth e s).ledger = s.ledger := by
  simp [logBoth, logMram]

@[simp] theorem setCause_ledger (bits : Nat) : (setCause bits s).ledger = s.ledger := by
  simp [setCause]

@[simp] theorem deviceFault_ledger (code : Nat) : (deviceFault code s).ledger = s.ledger := by
  simp [deviceFault]

@[simp] theorem rejudge_ledger : (rejudge s).ledger = s.ledger := setCause_ledger s _

end

end Sys2Proof.Machine
end

/-! ## Pages opened, started and ended leave the ledger as it was (03_intake.md; 08_page_scanout.md) -/

section
namespace Sys2Proof.Machine
open Sys2Proof

section
variable (b n p k : Nat) (s : State)

/-! ### Requests to heads, and generations -/

@[simp] theorem pumpReqs_ledger : (pumpReqs p s).ledger = s.ledger := by
  simp [pumpReqs, sendReq, countFrame]

@[simp] theorem addReq_ledger (op addr count : Nat) (ws g d) : (addReq p op addr count ws g d s).ledger = s.ledger :=
  modPort_ledger _ _ _ fun _ => rfl

@[simp] theorem writeWords_ledger (addr : Nat) (g) (ws) : (writeWords p addr g n ws s).ledger = s.ledger := by
  induction n generalizing addr ws s with
  | zero => rfl
  | succ n ih => rw [writeWords, ite_ledger, ih, addReq_ledger, ite_self]

@[simp] theorem writePhase_ledger (lo hi : Nat) (copy g) : (writePhase p lo hi copy g s).ledger = s.ledger :=
  writeWords_ledger _ _ _ _ _ _

@[simp] theorem writeWave_ledger (v g) : (writeWave p v g s).ledger = s.ledger := writeWords_ledger _ _ _ _ _ _

@[simp] theorem shadowPort_ledger (e : Nat) (keys : List Nat) : (shadowPort b e keys p s).ledger = s.ledger := by
  simp [shadowPort]

@[simp] theorem shadowWrites_ledger : (shadowWrites b s).ledger = s.ledger := by
  unfold shadowWrites
  split <;> simp

@[simp] theorem sealAt_ledger (e : Nat) (merged idle : Bool) : (sealAt b p e merged idle s).ledger = s.ledger := by
  have gaps : (gapDecide b s).ledger = s.ledger := forAll_ledger _ _ _ fun q t => by
    split
    · exact modBar_ledger _ _ _ fun _ => rfl
    · rfl
  have heads : ∀ t, (joinHeads b t).ledger = t.ledger := fun t => by
    unfold joinHeads
    split <;> simp
  simp [sealAt, sealWrites, rescreen, gaps, heads]

@[simp] theorem sealNow_ledger (merged : Bool) : (sealNow b p merged s).ledger = s.ledger := by
  unfold sealNow
  split <;> simp [sealPeer, digestJudge]

@[simp] theorem releaseWaits_ledger : (releaseWaits b s).ledger = s.ledger := rfl

@[simp] theorem trySeal_ledger : (trySeal b s).ledger = s.ledger := by
  unfold trySeal
  split <;> simp

@[simp] theorem headGaps_ledger : (headGaps s).ledger = s.ledger := by
  refine forAll_ledger_mem _ _ _ fun q hq t => ?_
  have small : q < 256 := by have := List.mem_range.1 hq; omega
  simp [headGapPort, small]

@[simp] theorem nozzleEvents_ledger (e : Nat) (dev : List Nat) (old new : Map Val) :
    (nozzleEvents b e dev old new p s).ledger = s.ledger := by
  unfold nozzleEvents
  split <;> simp

@[simp] theorem commitLive_ledger : (commitLive b n s).ledger = s.ledger := by
  unfold commitLive
  split <;> simp

/-! ### A page starts -/

@[simp] theorem axDo_ledger (c : Nat) : (axDo n c s).ledger = s.ledger := by
  unfold axDo
  split <;> simp [stopRamp, stopHard, stopNow, postStop, mirrorAxis]

@[simp] theorem startArmed_ledger : (startArmed s).ledger = s.ledger := by
  refine forAll_ledger _ _ _ fun n t => ?_
  split <;> simp

@[simp] theorem liveAtPage_ledger : (liveAtPage b n s).ledger = s.ledger := by
  unfold liveAtPage
  split <;> simp

@[simp] theorem headsStarted_ledger : (headsStarted b s).ledger = s.ledger := by
  unfold headsStarted
  split <;> simp

@[simp] theorem placeChanged_ledger : (placeChanged s).ledger = s.ledger := rfl

@[simp] theorem putTable_ledger (kind key len : Nat) : (putTable b kind key len s).ledger = s.ledger :=
  modBar_ledger _ _ _ fun _ => rfl

@[simp] theorem moveTables_ledger : (moveTables b s).ledger = s.ledger := by
  refine forAll_ledger _ _ _ fun x t => ?_
  unfold moveTable
  simp

@[simp] theorem sramJudge_ledger : (sramJudge b s).ledger = s.ledger := by
  simp [sramJudge]

@[simp] theorem writeInteg_ledger : (writeInteg b n s).ledger = s.ledger := by
  unfold writeInteg
  split
  · rfl
  · refine (forAll_ledger_mem _ _ _ fun q hq t => ?_).trans (setBo_ledger _ _ _ _ _ (by decide) (by decide))
    exact setBo_ledger _ _ _ _ _ (by decide) ((List.mem_range.1 hq).trans (by decide))

@[simp] theorem integCheck_ledger : (integCheck b n s).ledger = s.ledger := by
  have final : ∀ q t, (rectFinal b n q t).ledger = t.ledger := fun q t => by
    unfold rectFinal
    split
    · rfl
    · split <;> simp
  unfold integCheck
  split
  · rfl
  · split
    · exact forAll_ledger _ _ _ fun q t => by split <;> simp [final]
    · rfl

@[simp] theorem startPage_ledger (time : Nat) (pg : Page) : (startPage b n time pg s).ledger = s.ledger := by
  simp [startPage]

/-! ### Room, and a page's end -/

@[simp] theorem evictPage_ledger (pg : Page) : (evictPage b pg s).ledger = s.ledger := by
  simp [evictPage]

@[simp] theorem postPaused_ledger (cause : Nat) (resumed : Bool) : (postPaused b cause resumed s).ledger = s.ledger :=
  postB_ledger _ _ _ _ _ _

@[simp] theorem makeRoom_ledger (need : Nat) : (makeRoom b need n s).ledger = s.ledger := by
  induction n generalizing s with
  | zero => rfl
  | succ n ih =>
    unfold makeRoom
    split
    · simp
    · split <;> simp [ih]

@[simp] theorem retryRoom_ledger : (retryRoom b s).ledger = s.ledger := by
  simp [retryRoom]

@[simp] theorem evictToQuota_ledger : (evictToQuota b n s).ledger = s.ledger := by
  induction n generalizing s with
  | zero => rfl
  | succ n ih =>
    unfold evictToQuota
    split
    · split <;> simp [ih]
    · rfl

@[simp] theorem applyQuota_ledger : (applyQuota b s).ledger = s.ledger := by
  simp [applyQuota]

@[simp] theorem retainPrinted_ledger : (retainPrinted b n s).ledger = s.ledger := by
  unfold retainPrinted
  split
  · rfl
  · dsimp only
    split <;> split <;> simp

@[simp] theorem pageEnd_ledger (line : Nat) (cut : Bool) : (pageEnd b n cut line s).ledger = s.ledger := by
  unfold pageEnd
  dsimp only
  split <;> simp [State.flagPage]

@[simp] theorem rectIncomplete_ledger : (rectIncomplete b n k s).ledger = s.ledger := by
  unfold rectIncomplete
  split
  · rfl
  · split <;> simp

@[simp] theorem integCut_ledger : (integCut b n s).ledger = s.ledger := by
  unfold integCut
  split <;> simp

/-! ### A flip line -/

@[simp] theorem bandSelects_ledger (c : BandChange) : (bandSelects b c s).ledger = s.ledger :=
  forAll_ledger _ _ _ fun _ _ => rfl

@[simp] theorem freezeBand_ledger (page line : Nat) : (freezeBand b page line s).ledger = s.ledger := by
  simp [freezeBand, decideBand]

@[simp] theorem activates_ledger (pg : Page) (flip : Nat) : (activates b pg flip s).ledger = s.ledger := by
  simp [activates, activateKeys, activatePort]

@[simp] theorem fixFlip_ledger (pg : Page) (f residual : Nat) : (fixFlip b pg f residual s).ledger = s.ledger := by
  simp [fixFlip]

@[simp] theorem peerFlip_ledger (f : Nat) (cut : Option Nat) : (peerFlip b n f cut s).ledger = s.ledger := by
  unfold peerFlip
  split
  · split
    · split <;> simp
    · rfl
  · rfl

@[simp] theorem takeAhead_ledger : (takeAhead b n s).ledger = s.ledger := by
  unfold takeAhead
  split <;> simp

/-! ### Waybills -/

@[simp] theorem flightDone_ledger (idx : Nat) : (flightDone b idx s).ledger = s.ledger := by
  simp [flightDone, modFlight, advanceHead]

@[simp] theorem wbFail_ledger (idx code type page : Nat) (w : Nat × Nat × Nat) : (wbFail b idx code type page w s).ledger = s.ledger := by
  simp [wbFail, postSpan]

@[simp] theorem notify_ledger (bs : List Byte) : (notify b p bs s).ledger = s.ledger := by
  simp [notify]

@[simp] theorem addPage_ledger (pg : Page) : (addPage b pg s).ledger = s.ledger := by
  simp [addPage]

@[simp] theorem closeIfDone_ledger : (closeIfDone b n s).ledger = s.ledger := by
  unfold closeIfDone
  split <;> simp

@[simp] theorem wagonFail_ledger (w : Wagon) (code : Nat) : (wagonFail b n w code s).ledger = s.ledger := by
  have unknown : ∀ pl sp band wy t, (rectsUnknown b n pl sp band wy t).ledger = t.ledger := fun pl sp band wy t => by
    unfold rectsUnknown
    split
    · rfl
    · exact forAll_ledger _ _ _ fun q u => by split <;> simp
  simp [wagonFail, postSpan, quotaAfterLoss, unknown]

@[simp] theorem settle_ledger : (settle b n s).ledger = s.ledger := by
  have audited : ∀ t, (auditCheck b t).ledger = t.ledger := fun t => by
    unfold auditCheck
    split
    · rfl
    · split <;> simp
  have finished : ∀ t, (finishPage b n t).ledger = t.ledger := fun t => by
    unfold finishPage
    split <;> simp
  simp [settle, audited, finished]

@[simp] theorem checkHead_ledger (e : Inflight) : (checkHead b e s).ledger = s.ledger := by
  simp [checkHead, acceptHead, modFlight]

@[simp] theorem checkWagon_ledger (e : Inflight) : (checkWagon b e s).ledger = s.ledger := by
  simp [checkWagon, modFlight]

@[simp] theorem reprintPage_ledger (src : Nat) : (reprintPage b n src s).ledger = s.ledger := by
  unfold reprintPage
  split <;> simp

@[simp] theorem checkReprint_ledger (e : Inflight) : (checkReprint b e s).ledger = s.ledger := by
  simp [checkReprint]

@[simp] theorem checkWaybill_ledger (e : Inflight) : (checkWaybill b e s).ledger = s.ledger := by
  unfold checkWaybill
  dsimp only
  split
  · simp
  · split <;> simp [modFlight]

@[simp] theorem checkRun_ledger : (checkRun b n s).ledger = s.ledger := by
  induction n generalizing s with
  | zero => rfl
  | succ n ih =>
    unfold checkRun
    split <;> simp [ih]

@[simp] theorem resumeIntake_ledger : (resumeIntake b s).ledger = s.ledger := by
  unfold resumeIntake resumeHold
  split
  · dsimp only
    split <;> simp [checkAll]
  · simp

/-- R247, R248: every bar's quota applied. -/
@[simp] theorem applyQuotas_ledger : (applyQuotas s).ledger = s.ledger :=
  forAll_ledger _ _ _ fun c t => by simp [quotaTurn]

end

end Sys2Proof.Machine
end

/-! ## O32: PLACE_FREEZE and the quotas (10_placement_memory.md R238, R240, R245, R247, R249) -/

section
namespace Sys2Proof.Machine
open Sys2Proof

/-! ### A map updated key by key -/

section
variable {α : Type} {f : Map α → Nat → Map α} {k : Nat}

theorem foldl_get?_of_kept (h : ∀ m j, (f m j).get? k = m.get? k) (keys : List Nat) (m : Map α) :
    (keys.foldl f m).get? k = m.get? k := foldl_keeps (fun m => m.get? k) keys f m h

theorem foldl_get?_of_notMem (h : ∀ m j, j ≠ k → (f m j).get? k = m.get? k) {keys : List Nat} (hk : k ∉ keys) (m : Map α) :
    (keys.foldl f m).get? k = m.get? k := by
  induction keys generalizing m with
  | nil => rfl
  | cons j keys ih =>
    obtain ⟨hj, hks⟩ := not_or.1 (mt List.mem_cons.2 hk)
    exact (ih hks _).trans (h m j (Ne.symm hj))

/-- Updates of other keys keep a key, and its own update sets it whatever stood there. -/
theorem foldl_get?_of_mem {v : Option α} (h : ∀ m j, j ≠ k → (f m j).get? k = m.get? k) (hv : ∀ m, (f m k).get? k = v)
    {keys : List Nat} (hk : k ∈ keys) (m : Map α) : (keys.foldl f m).get? k = v := by
  induction keys generalizing m with
  | nil => cases hk
  | cons j keys ih =>
    by_cases hks : k ∈ keys
    · exact ih hks _
    · obtain rfl : k = j := (List.mem_cons.1 hk).resolve_right hks
      exact (foldl_get?_of_notMem h hks _).trans (hv m)

end

/-! ### The placer (R238, R239, R243) -/

/-- What `placeApply` keeps of the device objects: all but 7021, which counts the migration. -/
theorem placeApply_dv (cause : Nat) (new : Map (List (Nat × Nat))) (s : State) {i : Nat}
    (h1 : i ≠ 0x7021) (h2 : i ≠ 0x2012) (h3 : i ≠ 0x9004) (h4 : i ≠ 0x9005) :
    (placeApply cause false new s).dv i 0 = s.dv i 0 := by
  unfold placeApply
  dsimp only
  split
  · rfl
  · refine ((postD_events _ _ _ _).dv i 0 (by decide) h2 h3 h4).trans ?_
    exact dv_setDv_of_ne _ _ _ _ _ _ (by simp [okey]; omega)

/-- The spans that a new assignment changes. -/
def placeKeys (new : Map (List (Nat × Nat))) (s : State) : List Nat :=
  (List.range 256).filter fun k => s.place.spans.get? k != new.get? k

/-- R239: geysers in service hold the span and it stays placed, so that it waits for its page boundary. -/
def placeWaits (new : Map (List (Nat × Nat))) (s : State) (k : Nat) : Bool :=
  new.has k && match s.place.spans.get? k with | some rs => rs.all (fun r => geyserOn s r.1) | none => false

/-- The spans after a change of one: as it was if it waits, and else as the new assignment has it. -/
def placeMove (new : Map (List (Nat × Nat))) (s : State) (m : Map (List (Nat × Nat))) (k : Nat) : Map (List (Nat × Nat)) :=
  if placeWaits new s k then m else match new.get? k with | some r => m.set k r | none => m.erase k

/-- The waiting spans after a change of one. -/
def placeHold (new : Map (List (Nat × Nat))) (s : State) (m : Map (List (Nat × Nat))) (k : Nat) : Map (List (Nat × Nat)) :=
  if placeWaits new s k then m.set k (Map.getD new k []) else m.erase k

section
variable (cause : Nat) (new : Map (List (Nat × Nat))) (s : State)

theorem placeApply_of_unchanged (h : placeKeys new s = []) : (placeApply cause false new s).place.spans = s.place.spans := by
  unfold placeApply
  dsimp only
  rw [if_pos (by rw [List.isEmpty_iff]; exact h)]

theorem placeApply_of_changed (h : placeKeys new s ≠ []) :
    (placeApply cause false new s).place.spans = (placeKeys new s).foldl (placeMove new s) s.place.spans ∧
    (placeApply cause false new s).place.waitSpans = (placeKeys new s).foldl (placeHold new s)
      (s.place.waitSpans.filter fun p => new.get? p.1 == some p.2) := by
  unfold placeApply
  dsimp only
  rw [if_neg (by rw [List.isEmpty_iff]; exact h), (postD_events _ _ _ _).place]
  exact ⟨rfl, rfl⟩


/-- R239: a run of the placer gives a span its new geysers at once, or leaves it with the geysers in service that hold it, to
wait. -/
theorem placeApply_span {k : Nat} (hk : k < 256) :
    (placeApply cause false new s).place.spans.get? k = new.get? k ∨
    ((placeApply cause false new s).place.waitSpans.get? k = new.get? k ∧
      (placeApply cause false new s).place.spans.get? k = s.place.spans.get? k ∧
      ∃ rs, s.place.spans.get? k = some rs ∧ ∀ r ∈ rs, geyserOn s r.1 = true) := by
  have moved : ∀ m j, j ≠ k → (placeMove new s m j).get? k = m.get? k := fun m j hj => by
    unfold placeMove
    repeat' split
    · rfl
    · exact Map.get?_set_of_ne _ _ hj.symm
    · exact Map.get?_erase_of_ne _ hj.symm
  by_cases same : s.place.spans.get? k = new.get? k
  · left
    by_cases none : placeKeys new s = []
    · rw [placeApply_of_unchanged cause new s none, same]
    · rw [(placeApply_of_changed cause new s none).1, foldl_get?_of_notMem moved, same]
      simp [placeKeys, same]
  · have mem : k ∈ placeKeys new s := List.mem_filter.2 ⟨List.mem_range.2 hk, by simp [same]⟩
    obtain ⟨spans, waits⟩ := placeApply_of_changed cause new s (List.ne_nil_of_mem mem)
    rw [spans, waits]
    by_cases late : placeWaits new s k = true
    · right
      obtain ⟨has, on⟩ := (Bool.and_eq_true _ _).mp late
      refine ⟨foldl_get?_of_mem (fun m j hj => ?_) (fun m => ?_) mem _, foldl_get?_of_kept (fun m j => ?_) _ _, ?_⟩
      · unfold placeHold
        split
        · exact Map.get?_set_of_ne _ _ hj.symm
        · exact Map.get?_erase_of_ne _ hj.symm
      · obtain ⟨r, hr⟩ := Option.isSome_iff_exists.1 has
        rw [placeHold, if_pos late, Map.get?_set_self, Map.getD, hr]
        rfl
      · by_cases hj : j = k
        · rw [hj, placeMove, if_pos late]
        · exact moved m j hj
      · split at on
        · next rs hrs => exact ⟨rs, hrs, List.all_eq_true.1 on⟩
        · cases on
    · left
      refine foldl_get?_of_mem moved (fun m => ?_) mem _
      rw [placeMove, if_neg late]
      split
      · next r hr => rw [Map.get?_set_self, hr]
      · next hr => rw [Map.get?_erase_self, hr]

end

/-! ### PLACE_FREEZE (R238, R240) -/

section
variable {dt d : Nat} {door : Door} {v w : Slot} {s : State}

theorem placeFreezeWrite_freezes (hw : Written s door 0x7004 0 v none d w) (h : w ≠ 0) :
    exec (.placeFreezeWrite dt door v) s = .next ((s.later dt).setDv 0x7004 0 w.toNat) := by
  refine run_next (c := .placeFreezeWrite dt door v) rfl ((hw.later dt).through placeFreezeEffect _ fun row => ?_) rfl rfl
  exact congrArg (stOK, ·) (if_neg h)

theorem placeRun_thawed {u : State} (h : u.dv 0x7004 0 = 0) : placeRun 2 false u =
    placeApply 2 false (placeAll u false) { u with place := { u.place with weights := placeWeights u false } } := by
  simp [placeRun, placeFull, h]

theorem placeFreezeWrite_places (hw : Written s door 0x7004 0 v none d 0) :
    Answers (.placeFreezeWrite dt door v) s fun t => t.dv 0x7004 0 = 0 ∧ ∀ k < 256,
      let new := (placeAll ((s.later dt).setDv 0x7004 0 0) false).get? k
      t.place.spans.get? k = new ∨ (t.place.waitSpans.get? k = new ∧ t.place.spans.get? k = s.place.spans.get? k ∧
        ∃ rs, s.place.spans.get? k = some rs ∧ ∀ r ∈ rs, geyserOn s r.1 = true) := by
  have thawed : ((s.later dt).setDv 0x7004 0 0).dv 0x7004 0 = 0 := dv_setDv_self _ _ _ _
  refine run_answers_timeless (c := .placeFreezeWrite dt door v) (fun _ _ _ h => h) rfl
    ((hw.later dt).through placeFreezeEffect _ fun row => congrArg (stOK, ·) (if_pos rfl)) ?_
  rw [show (0 : Slot).toNat = 0 from rfl, placeRun_thawed thawed]
  refine ⟨(placeApply_dv _ _ _ (by decide) (by decide) (by decide) (by decide)).trans thawed, fun k hk => ?_⟩
  have on : ∀ g, geyserOn ((s.later dt).setDv 0x7004 0 0) g = geyserOn s g := fun g =>
    congrArg (bitN · g) (dv_setDv_of_ne _ _ _ _ _ _ (by decide))
  obtain placed | ⟨waits, stays, rs, held, inService⟩ := placeApply_span 2 (placeAll ((s.later dt).setDv 0x7004 0 0) false)
    { (s.later dt).setDv 0x7004 0 0 with place := { s.place with weights := placeWeights ((s.later dt).setDv 0x7004 0 0) false } } hk
  · exact .inl placed
  · exact .inr ⟨waits, stays, rs, held, fun r hr => (on r.1).symm.trans (inService r hr)⟩

/-! ### The quotas (R245, R247, R249) -/

/-- A write whose effect refuses it records the status, and nothing else changes. -/
theorem Written.refused {idx sub code : Nat} {bar : Option Nat} {eff : Effect} (hw : Written s door idx sub v bar d w)
    (h : ∀ row, eff row bar d w s = (code, s)) :
    Machine.doorWrite door idx sub v eff s = (code, recordStatus door idx sub code s) := by
  obtain ⟨row, -, written⟩ := hw.doorWrite eff
  rw [written, h row]

/-- R245: a quota is taken in CONFIG, when it does not grow, or while the sum fits. -/
theorem quota_fits {config : Prop} {old new sum pool : Nat} (h : config ∨ new ≤ old ∨ sum ≤ pool) :
    ¬(¬config ∧ old < new ∧ pool < sum) := by
  rintro ⟨outside, grows, overflows⟩
  obtain inside | shrinks | fits := h
  · exact outside inside
  · omega
  · omega

section
variable {b : Nat}

theorem dramQuotaWrite_taken (hw : Written s door 0x7100 0 v (some b) d w)
    (h : s.devState = .config ∨ w.toNat ≤ s.bo b 0x7100 0 ∨ quotaSum (s.setBo b 0x7100 0 w.toNat) ≤ s.dv 0x7105 0) :
    Answers (.dramQuotaWrite dt door v) s fun t => t.bo b 0x7100 0 = w.toNat := by
  refine run_answers_timeless (c := .dramQuotaWrite dt door v) (fun _ _ _ h => h) rfl
    ((hw.later dt).through dramQuotaEffect _ fun row => if_neg (quota_fits h)) ?_
  rw [quota_of_ledger (applyQuotas_ledger _), bo_setBo_self]
  exact Nat.mod_eq_of_lt w.isLt

theorem dramQuotaWrite_refused (hw : Written s door 0x7100 0 v (some b) d w) (hd : s.devState ≠ .config)
    (hg : s.bo b 0x7100 0 < w.toNat) (hp : s.dv 0x7105 0 < quotaSum (s.setBo b 0x7100 0 w.toNat)) :
    (doorWrite door 0x7100 0 v dramQuotaEffect s).1 = stRange ∧
    Answers (.dramQuotaWrite dt door v) s fun t => t.bars = s.bars ∧ t.quiet = (s.later dt).quiet := by
  have later := (hw.later dt).refused (eff := dramQuotaEffect) fun row => if_pos ⟨hd, hg, hp⟩
  refine ⟨congrArg Prod.fst (hw.refused (eff := dramQuotaEffect) fun row => if_pos ⟨hd, hg, hp⟩), ?_⟩
  exact run_answers_of_quiet (c := .dramQuotaWrite dt door v) rfl (congrArg Prod.snd later) (recordStatus_quiet _ _ _ _ _)
    ⟨recordStatus_bars _ _ _ _ _, recordStatus_quiet _ _ _ _ _⟩

/-- R249: the judgement of the quota leaves its object alone. -/
theorem sramJudge_quota (s : State) : (sramJudge b s).bo b 0x7101 0 = s.bo b 0x7101 0 := by
  obtain same | ⟨o, judged⟩ := sramJudge_events b s
  · rw [same]
  · rw [judged.bo b 0x7101 0 (by decide) (by decide)]
    unfold State.bo State.modIntake
    rw [bar_modBar_self]

theorem sramQuotaWrite_taken (hw : Written s door 0x7101 0 v (some b) d w)
    (h : s.devState = .config ∨ w.toNat ≤ s.bo b 0x7101 0 ∨ sramQuotaSum (s.setBo b 0x7101 0 w.toNat) ≤ tablePool s) :
    Answers (.sramQuotaWrite dt door v) s fun t => t.bo b 0x7101 0 = w.toNat ∧ t.quiet = (s.later dt).quiet := by
  have quiet : (sramJudge b ((s.later dt).setBo b 0x7101 0 w.toNat)).quiet = (s.later dt).quiet :=
    (sramJudge_quiet _ _).trans (State_setBo_quiet _ _ _ _ _)
  refine run_answers_of_quiet (c := .sramQuotaWrite dt door v) rfl
    ((hw.later dt).through sramQuotaEffect _ fun row => if_neg (quota_fits h)) quiet ⟨?_, quiet⟩
  rw [sramJudge_quota, bo_setBo_self]
  exact Nat.mod_eq_of_lt w.isLt

theorem sramQuotaWrite_refused (hw : Written s door 0x7101 0 v (some b) d w) (hd : s.devState ≠ .config)
    (hg : s.bo b 0x7101 0 < w.toNat) (hp : tablePool s < sramQuotaSum (s.setBo b 0x7101 0 w.toNat)) :
    (doorWrite door 0x7101 0 v sramQuotaEffect s).1 = stRange ∧
    Answers (.sramQuotaWrite dt door v) s fun t => t.bars = s.bars := by
  have later := (hw.later dt).refused (eff := sramQuotaEffect) fun row => if_pos ⟨hd, hg, hp⟩
  refine ⟨congrArg Prod.fst (hw.refused (eff := sramQuotaEffect) fun row => if_pos ⟨hd, hg, hp⟩), ?_⟩
  exact run_answers_of_quiet (c := .sramQuotaWrite dt door v) rfl (congrArg Prod.snd later) (recordStatus_quiet _ _ _ _ _)
    (recordStatus_bars _ _ _ _ _)

end

end

/-- Settles O32, clause by clause: PLACE_FREEZE, then each quota taken and refused. -/
theorem quotasAndPlacementAreWritten : Obligations.QuotasAndPlacementAreWritten := by
  unfold Obligations.QuotasAndPlacementAreWritten
  refine ⟨?freezes, ?places, ?dram, ?dramRefused, ?sram, ?sramRefused⟩
  case freezes => exact fun _ _ _ _ _ _ hw h => placeFreezeWrite_freezes hw h
  case places => exact fun _ _ _ _ _ hw => placeFreezeWrite_places hw
  case dram => exact fun _ _ _ _ _ _ _ hw h => dramQuotaWrite_taken hw h
  case dramRefused => exact fun _ _ _ _ _ _ _ hw hd hg hp => dramQuotaWrite_refused hw hd hg hp
  case sram => exact fun _ _ _ _ _ _ _ hw h => sramQuotaWrite_taken hw h
  case sramRefused => exact fun _ _ _ _ _ _ _ hw hd hg hp => sramQuotaWrite_refused hw hd hg hp

end Sys2Proof.Machine
end


/-! ## O33: the memory controllers (10_placement_memory.md R251, R253 to R258) -/

section
namespace Sys2Proof.Machine
open Sys2Proof

/-! ### What a controller's work leaves -/

/-- From `s` to `t` no subchannel but `k` changes, and what leaves the device is added. -/
structure Serves (k : Nat) (s t : State) : Prop where
  other : ∀ j, j ≠ k → t.sch j = s.sch j
  out : ∃ os, t.out = s.out ++ os

theorem Serves.refl (k : Nat) (s : State) : Serves k s s := ⟨fun _ _ => rfl, [], (List.append_nil _).symm⟩

theorem Serves.trans {k : Nat} {s t u : State} (h : Serves k s t) (g : Serves k t u) : Serves k s u := by
  obtain ⟨os, first⟩ := h.out
  obtain ⟨os', later⟩ := g.out
  exact ⟨fun j hj => (g.other j hj).trans (h.other j hj), os ++ os', by rw [later, first, List.append_assoc]⟩

section
variable {k : Nat} {s t : State}

theorem Serves.modSch (h : Serves k s t) (f : Subch → Subch) : Serves k s (t.modSch k f) :=
  ⟨fun j hj => (sch_modSch_of_ne _ _ hj).trans (h.other j hj), h.out⟩

theorem Serves.emit (h : Serves k s t) (o : Out) : Serves k s (t.emit o) :=
  h.trans ⟨fun _ _ => rfl, [o], rfl⟩

theorem Serves.mcArrive (h : Serves k s t) (r : McReq) : Serves k s (mcArrive k r t) := by
  unfold Machine.mcArrive
  dsimp only
  repeat' split
  · exact h.emit _
  · exact h.modSch _
  · exact h.modSch _
  · exact h.modSch _
  · exact h.modSch _

theorem Serves.arrivals (h : Serves k s t) (rs : List McReq) : Serves k s (forAll rs (Machine.mcArrive k) t) :=
  forAll_induct (Serves k s) rs _ t (fun r _ g => g.mcArrive r) h

theorem Serves.mcRetry (h : Serves k s t) : Serves k s (mcRetry k t) := (h.modSch _).arrivals _

theorem Serves.drainJudge (h : Serves k s t) : Serves k s (drainJudge k t) := by
  unfold Machine.drainJudge
  exact h.modSch _

theorem Serves.mcCharge (h : Serves k s t) (e : McEntry) (n : Nat) : Serves k s (mcCharge e n t) := by
  unfold Machine.mcCharge
  split
  · exact h.trans ⟨fun _ _ => rfl, [], (List.append_nil _).symm⟩
  · exact h

theorem Serves.issueRefresh (h : Serves k s t) : Serves k s (issueRefresh k t) := by
  have counted : Serves k s (if mcPanic t k then t.bump 0x7231 k else t) := by
    split
    · exact h.trans ⟨fun _ _ => rfl, [], (List.append_nil _).symm⟩
    · exact h
  unfold Machine.issueRefresh
  exact counted.modSch _

theorem Serves.issueRead (h : Serves k s t) (e : McEntry) : Serves k s (issueRead k e t) := by
  unfold Machine.issueRead
  exact ((h.mcCharge e _).emit _).modSch _

theorem Serves.issueWrite (h : Serves k s t) (e : McEntry) : Serves k s (issueWrite k e t) := by
  unfold Machine.issueWrite
  exact (h.mcCharge e _).modSch _

theorem Serves.mcIssue (h : Serves k s t) : Serves k s (mcIssue k t) := by
  unfold Machine.mcIssue
  dsimp only
  split
  · exact h.issueRefresh
  · split
    · exact h.issueRead _
    · split
      · exact h.issueWrite _
      · split
        · exact h.issueRefresh
        · split
          · exact h.issueRead _
          · split
            · exact h.issueWrite _
            · exact h

end

/-! ### Bytes that no write reaches (R253, R255) -/

/-- A stretch of bytes that a write stores lies away from the address. -/
def segSpares (a : Nat) (g : Nat × List Byte) : Prop := a < g.1 ∨ g.1 + g.2.length ≤ a

/-- Neither the queued writes nor the held requests write to the address. -/
structure Spares (a : Nat) (x : Subch) : Prop where
  queued : ∀ e ∈ x.writeQ, ∀ g ∈ e.segs, segSpares a g
  held : ∀ r ∈ x.held, segSpares a (r.addr, r.data)

theorem memRead_memWrite_of_ne {a c : Nat} (h : c ≠ a) (m : List Host.Cell) (b : Byte) :
    memRead (memWrite m a b) c = memRead m c := by
  induction m with
  | nil =>
    unfold memWrite
    split
    · rfl
    · exact if_neg h
  | cons p m ih =>
    obtain ⟨k, v⟩ := p
    unfold memWrite
    split
    · split
      · rfl
      · exact if_neg h
    · split
      · next e =>
        subst e
        split
        · exact (if_neg h).symm
        · exact (if_neg h).trans (if_neg h).symm
      · unfold memRead
        rw [ih]

theorem memRead_memWrites_of_spared {a c : Nat} {bs : List Byte} (m : List Host.Cell) (h : segSpares c (a, bs)) :
    memRead (memWrites m a bs) c = memRead m c := by
  induction bs generalizing a m with
  | nil => rfl
  | cons b bs ih =>
    simp only [segSpares, List.length_cons] at h
    exact (ih _ (by simp only [segSpares]; omega)).trans (memRead_memWrite_of_ne (by omega) m b)

theorem memRead_segs_of_spared {c : Nat} {segs : List (Nat × List Byte)} (h : ∀ g ∈ segs, segSpares c g) (m : List Host.Cell) :
    memRead (segs.foldl (fun m g => memWrites m g.1 g.2) m) c = memRead m c := by
  induction segs generalizing m with
  | nil => rfl
  | cons g segs ih =>
    exact (ih (fun x hx => h x (List.mem_cons_of_mem g hx)) _).trans (memRead_memWrites_of_spared m (h g List.mem_cons_self))

/-- R255: what merged entries store comes from the entries and from the new write. -/
theorem segs_of_mergeWrites {r : McReq} {q : List McEntry} {P : Nat × List Byte → Prop} (hq : ∀ e ∈ q, ∀ g ∈ e.segs, P g)
    (hr : P (r.addr, r.data)) : ∀ e ∈ mergeWrites r q, ∀ g ∈ e.segs, P g := by
  induction q with
  | nil => exact fun e he => absurd he List.not_mem_nil
  | cons f q ih =>
    have rest : ∀ e ∈ q, ∀ g ∈ e.segs, P g := fun e he => hq e (List.mem_cons_of_mem f he)
    unfold mergeWrites
    dsimp only
    split
    · intro e he g hg
      obtain rfl | kept := List.mem_cons.1 he
      · simp only [List.mem_append, List.mem_flatMap, List.mem_singleton] at hg
        obtain (own | ⟨x, hx, merged⟩) | new := hg
        · exact hq f List.mem_cons_self g own
        · exact rest x (List.mem_filter.1 hx).1 g merged
        · exact new ▸ hr
      · exact rest e (List.mem_filter.1 kept).1 g hg
    · intro e he
      obtain rfl | later := List.mem_cons.1 he
      · exact hq e List.mem_cons_self
      · exact ih rest e later

section
variable {a k : Nat} {s : State}

theorem putWrite_spares {x : Subch} {r : McReq} (h : Spares a x) (hr : segSpares a (r.addr, r.data)) : Spares a (putWrite x r) := by
  unfold putWrite
  split
  · exact ⟨segs_of_mergeWrites h.queued hr, h.held⟩
  · refine ⟨fun e he g hg => ?_, h.held⟩
    obtain old | new := List.mem_append.1 he
    · exact h.queued e old g hg
    · rw [List.mem_singleton.1 new] at hg
      exact List.mem_singleton.1 hg ▸ hr

theorem mcHold_spares {r : McReq} (h : Spares a (s.sch k)) (hr : segSpares a (r.addr, r.data)) : Spares a ((mcHold k r s).sch k) := by
  unfold mcHold
  rw [sch_modSch_self]
  refine ⟨h.queued, fun q hq => ?_⟩
  obtain old | new := List.mem_append.1 hq
  · exact h.held q old
  · exact List.mem_singleton.1 new ▸ hr

theorem mcArrive_spares {r : McReq} (h : Spares a (s.sch k)) (hr : segSpares a (r.addr, r.data)) : Spares a ((mcArrive k r s).sch k) := by
  unfold mcArrive
  dsimp only
  repeat' split
  · exact h
  · rw [sch_modSch_self]
    exact ⟨h.queued, h.held⟩
  · exact mcHold_spares h hr
  · rw [sch_modSch_self]
    exact putWrite_spares h hr
  · exact mcHold_spares h hr

theorem arrivals_spare {rs : List McReq} (h : Spares a (s.sch k)) (hr : ∀ r ∈ rs, segSpares a (r.addr, r.data)) :
    Spares a ((forAll rs (mcArrive k) s).sch k) := by
  induction rs generalizing s with
  | nil => exact h
  | cons r rs ih =>
    rw [forAll_cons]
    exact ih (mcArrive_spares h (hr r List.mem_cons_self)) fun q hq => hr q (List.mem_cons_of_mem r hq)

theorem mcRetry_spares (h : Spares a (s.sch k)) : Spares a ((mcRetry k s).sch k) := by
  refine arrivals_spare ?_ h.held
  rw [sch_modSch_self]
  exact ⟨h.queued, fun _ none => absurd none List.not_mem_nil⟩

theorem drainJudge_spares (h : Spares a (s.sch k)) : Spares a ((drainJudge k s).sch k) := by
  unfold drainJudge
  dsimp only
  rw [sch_modSch_self]
  exact ⟨h.queued, h.held⟩

theorem mcIssue_reads (h : Spares a (s.sch k)) : memRead ((mcIssue k s).sch k).cells a = memRead (s.sch k).cells a := by
  obtain same | ⟨e, queued, wrote⟩ := mcIssue_cells k s
  · exact congrArg (memRead · a) (congrFun same k)
  · have bytes := congrFun (issueWrite_cells k e s) k
    rw [if_pos rfl] at bytes
    rw [wrote]
    exact (congrArg (memRead · a) bytes).trans (memRead_segs_of_spared (h.queued e queued) _)

end

/-! ### A command of the controller (R253) -/

/-- The controller with the requests in hand that were held or arrive, before it issues a command. -/
def mcTaken (k : Nat) (rs : List McReq) (s : State) : State :=
  drainJudge k (forAll (rs.filter (mcMine s k)) (mcArrive k) (mcRetry k s))

/-- What a command of the controller does: the requests are taken, and a command is issued unless the interface is trained. -/
def mcWork (k : Nat) (rs : List McReq) (s : State) : State :=
  if (s.sch k).state = 2 ∨ (s.sch k).state = 3 then
    if ((mcTaken k rs s).sch k).retraining then mcTaken k rs s else drainJudge k (mcRetry k (mcIssue k (mcTaken k rs s)))
  else s

theorem execMcCommand_work (dt : Nat) (k : Fin 8) (rs : List McReq) (s : State) :
    execMcCommand dt k rs s = run dt s (mcWork k rs) := rfl

theorem mcTaken_serves (k : Nat) (rs : List McReq) (s : State) : Serves k s (mcTaken k rs s) :=
  ((Serves.refl k s).mcRetry.arrivals _).drainJudge

theorem mcTaken_cells (k : Nat) (rs : List McReq) (s : State) : ((mcTaken k rs s).sch k).cells = (s.sch k).cells :=
  congrFun ((drainJudge_cells _ _).trans ((forAll_cells _ _ _ (mcArrive_cells k)).trans (mcRetry_cells _ _))) k

/-- R253: a byte that no write reaches reads after a command of the controller as before, and no other subchannel changes. -/
theorem mcCommand_keeps {dt : Nat} {k : Fin 8} {rs : List McReq} {a : Nat} {s t : State}
    (answered : exec (.mcCommand dt k rs) s = .next t)
    (hq : ∀ e ∈ (s.sch k).writeQ, ∀ g ∈ e.segs, a < g.1 ∨ g.1 + g.2.length ≤ a)
    (hr : ∀ r ∈ rs ++ (s.sch k).held, a < r.addr ∨ r.addr + r.data.length ≤ a) :
    memRead (t.sch k).cells a = memRead (s.sch k).cells a ∧ ∀ j, j ≠ k.val → t.sch j = s.sch j := by
  have effect : ∀ u : State, Spares a (u.sch k) → (∀ r ∈ rs, segSpares a (r.addr, r.data)) →
      memRead ((mcWork k rs u).sch k).cells a = memRead (u.sch k).cells a ∧ ∀ j, j ≠ k.val → (mcWork k rs u).sch j = u.sch j := by
    intro u spared arriving
    have taken : Spares a ((mcTaken k rs u).sch k) :=
      drainJudge_spares (arrivals_spare (mcRetry_spares spared) fun r h => arriving r (List.mem_filter.1 h).1)
    have bytes : memRead ((mcTaken k rs u).sch k).cells a = memRead (u.sch k).cells a :=
      congrArg (memRead · a) (mcTaken_cells k rs u)
    have serves := mcTaken_serves k rs u
    unfold mcWork
    repeat' split
    · exact ⟨bytes, serves.other⟩
    · refine ⟨?_, serves.mcIssue.mcRetry.drainJudge.other⟩
      have issued : cellsOf (drainJudge k (mcRetry k (mcIssue k (mcTaken k rs u)))).subch =
          cellsOf (mcIssue k (mcTaken k rs u)).subch := (drainJudge_cells _ _).trans (mcRetry_cells _ _)
      exact (congrArg (memRead · a) (congrFun issued k)).trans ((mcIssue_reads taken).trans bytes)
    · exact ⟨rfl, fun _ _ => rfl⟩
  have hc : execMcCommand dt k rs s = .next t := answered
  rw [execMcCommand_work] at hc
  cases hc
  exact effect (s.later dt) ⟨hq, fun r h => hr r (List.mem_append_right _ h)⟩ (fun r h => hr r (List.mem_append_left _ h))

section
variable {dt : Nat} {k : Fin 8} {s : State}

/-- R253: a controller in service that is not being trained takes the requests and issues a command. -/
theorem mcCommand_answers {rs : List McReq} {p : State → Prop}
    (ht : ∀ (t : State) (n : Nat) (q : List Instr), p t → p { t with now := n, pending := q })
    (hs : (s.sch k).state = 2 ∨ (s.sch k).state = 3) (hr : ((mcTaken k rs (s.later dt)).sch k).retraining = false)
    (hp : p (drainJudge k (mcRetry k (mcIssue k (mcTaken k rs (s.later dt)))))) : Answers (.mcCommand dt k rs) s p := by
  have inService : ((s.later dt).sch k).state = 2 ∨ ((s.later dt).sch k).state = 3 := hs
  refine run_answers_timeless ht (execMcCommand_work dt k rs s) ?_ hp
  unfold mcWork
  rw [if_pos inService, if_neg (by rw [hr]; exact Bool.false_ne_true)]

end

/-! ### A queue of one -/

theorem mcRetry_of_none {k : Nat} {s : State} (h : (s.sch k).held = []) : mcRetry k s = s.modSch k fun x => { x with held := [] } := by
  unfold mcRetry
  rw [h]
  rfl

theorem drainJudge_modSch (k : Nat) (s : State) : ∃ d, drainJudge k s = s.modSch k fun x => { x with draining := d } := ⟨_, rfl⟩

/-- With nothing held and nothing arriving, the judgement of draining is all that changes. -/
theorem mcTaken_of_none {k : Nat} {s : State} (h : (s.sch k).held = []) :
    ∃ d, mcTaken k [] s = s.modSch k fun x => { x with held := [], draining := d } := by
  obtain ⟨d, judged⟩ := drainJudge_modSch k (mcRetry k s)
  rw [mcRetry_of_none h, modSch_modSch] at judged
  exact ⟨d, (congrArg (drainJudge k) (mcRetry_of_none h)).trans judged⟩

theorem bestChoice_single {s : State} {x : Subch} {e : McEntry} (hr : x.readQ = [e]) (hw : x.writeQ = [])
    (h : (e.req.cls == .bestRead) = true) : bestChoice s x = some e := by
  have only : x.readQ.filter (fun e => e.req.cls == .bestRead && mcReady x e) = [e] := by simp [hr, hw, h, mcReady]
  unfold bestChoice
  rw [only]
  by_cases passed : 16 ≤ e.passed
  · simp [passedOver, passed, oldest]
  · by_cases hit : rowHit x e = true
    · simp [passedOver, passed, oldest, hitThenAge, hit]
    · simp [passedOver, passed, oldest, hitThenAge, hit]

/-- R253: the one read queued, of either class, is issued. -/
theorem mcIssue_read {k : Nat} {s : State} {e : McEntry} (ho : (s.sch k).owed < s.dv 0x7206 0) (hz : (s.sch k).owed = 0)
    (hr : (s.sch k).readQ = [e]) (hw : (s.sch k).writeQ = []) (he : mcIsRead e.req = true) : mcIssue k s = issueRead k e s := by
  have noWrite : writeChoice (s.sch k) = none := by simp [writeChoice, passedOver, hitThenAge, oldest, hw]
  unfold mcIssue
  dsimp only
  rw [if_neg (Nat.not_le.2 ho)]
  by_cases dray : (e.req.cls == .dray) = true
  · have chosen : drayChoice s (s.sch k) = some e := by
      have only : (s.sch k).readQ.filter (fun e => e.req.cls == .dray && mcReady (s.sch k) e) = [e] := by
        simp [hr, hw, dray, mcReady]
      unfold drayChoice
      rw [only]
      by_cases panics : drayPanics s e = true <;> simp [oldest, panics]
    rw [chosen]
  · have none : drayChoice s (s.sch k) = none := by simp [drayChoice, hr, dray, oldest]
    have best : (e.req.cls == .bestRead) = true := (Bool.or_eq_true _ _ ▸ he).resolve_left dray
    rw [none, noWrite, bestChoice_single hr hw best]
    simp [hz]

theorem writeChoice_single {x : Subch} {e : McEntry} (hw : x.writeQ = [e]) : writeChoice x = some e := by
  by_cases passed : 16 ≤ e.passed
  · simp [writeChoice, hw, passedOver, passed, oldest]
  · by_cases delay : (e.req.cls == .delayWrite) = true <;> by_cases hit : rowHit x e = true <;>
      simp [writeChoice, hw, passedOver, passed, oldest, hitThenAge, delay, hit]

/-- R253: the one write queued is issued, whether draining or not. -/
theorem mcIssue_write {k : Nat} {s : State} {e : McEntry} (ho : (s.sch k).owed < s.dv 0x7206 0) (hz : (s.sch k).owed = 0)
    (hr : (s.sch k).readQ = []) (hw : (s.sch k).writeQ = [e]) : mcIssue k s = issueWrite k e s := by
  have noDray : drayChoice s (s.sch k) = none := by simp [drayChoice, hr, oldest]
  have noBest : bestChoice s (s.sch k) = none := by simp [bestChoice, hr, passedOver, hitThenAge, oldest]
  unfold mcIssue
  dsimp only
  rw [if_neg (Nat.not_le.2 ho), noDray, noBest, writeChoice_single hw]
  cases (s.sch k).draining <;> simp [hz]

/-! ### What the one queued command does -/

@[simp] theorem passOver_single (hit : Bool) (e : McEntry) : passOver hit e [e] = [] := by simp [passOver]

@[simp] theorem mcCharge_out (e : McEntry) (n : Nat) (s : State) : (mcCharge e n s).out = s.out := by
  unfold mcCharge
  split <;> rfl

theorem mcCharge_sch (e : McEntry) (n : Nat) (s : State) (k : Nat) : (mcCharge e n s).sch k = s.sch k :=
  congrArg (·.getD k Subch.reset) (mcCharge_subch e n s)

/-- R253: a read answers the bytes of the subchannel, leaves its queue and changes no byte. -/
theorem issueRead_answers (k : Nat) (e : McEntry) (s : State) :
    (issueRead k e s).out = s.out ++ [.mcData k e.req.addr (memBytes (s.sch k).cells e.req.addr e.req.len)] ∧
      ((issueRead k e s).sch k).readQ = passOver (rowHit (s.sch k) e) e (s.sch k).readQ ∧
      ((issueRead k e s).sch k).cells = (s.sch k).cells ∧ ((issueRead k e s).sch k).held = (s.sch k).held := by
  have kept := mcCharge_sch e e.req.len s k
  have emitted (o : Out) : ((mcCharge e e.req.len s).emit o).sch k = s.sch k := kept
  unfold issueRead
  dsimp only
  rw [sch_modSch_self, emitted, kept]
  exact ⟨congrArg (· ++ _) (mcCharge_out e _ s), rfl, rfl, rfl⟩

/-- R253: a write puts its bytes into the subchannel, leaves its queue and answers nothing. -/
theorem issueWrite_stores (k : Nat) (e : McEntry) (s : State) :
    (issueWrite k e s).out = s.out ∧ ((issueWrite k e s).sch k).writeQ = passOver (rowHit (s.sch k) e) e (s.sch k).writeQ ∧
      ((issueWrite k e s).sch k).cells = e.segs.foldl (fun m g => memWrites m g.1 g.2) (s.sch k).cells ∧
      ((issueWrite k e s).sch k).held = (s.sch k).held := by
  unfold issueWrite
  dsimp only
  rw [sch_modSch_self, mcCharge_sch]
  exact ⟨mcCharge_out e _ s, rfl, rfl, rfl⟩

/-- A controller that has taken requests of which none is held: only the judgement of draining is new. -/
structure Ready (k d : Nat) (s v : State) (drains : Bool) : Prop where
  sch : v.sch k = { s.sch k with held := [], draining := drains }
  out : v.out = s.out
  debt : v.dv 0x7206 0 = d

section
variable {dt : Nat} {k : Fin 8} {e : McEntry} {s : State}
variable (hs : (s.sch k).state = 2 ∨ (s.sch k).state = 3) (ht : (s.sch k).retraining = false)
variable (hh : (s.sch k).held = [])
include hs ht hh

/-- R253: with nothing held and nothing arriving, the queues as they stand are what the command is chosen from. -/
theorem mcCommand_of_ready {p : State → Prop}
    (timeless : ∀ (t : State) (n : Nat) (q : List Instr), p t → p { t with now := n, pending := q })
    (issued : ∀ v drains, Ready k (s.dv 0x7206 0) s v drains →
      ((mcIssue k v).sch k).held = [] ∧ ∀ d, p ((mcIssue k v).modSch k fun x => { x with held := [], draining := d })) :
    Answers (.mcCommand dt k []) s p := by
  obtain ⟨drains, taken⟩ := mcTaken_of_none (k := k) (s := s.later dt) hh
  have ready : Ready k (s.dv 0x7206 0) s (mcTaken k [] (s.later dt)) drains := by
    rw [taken]
    exact ⟨sch_modSch_self _ _ _, rfl, rfl⟩
  refine mcCommand_answers timeless hs (by rw [ready.sch]; exact ht) ?_
  obtain ⟨held, done⟩ := issued _ _ ready
  obtain ⟨d, settled⟩ := mcTaken_of_none held
  exact (show drainJudge k (mcRetry k _) = _ from settled) ▸ done d

variable (ho : (s.sch k).owed = 0) (hm : 0 < s.dv 0x7206 0)
include ho hm

/-- R253: with one read queued and nothing else to do, the command of the controller answers it. -/
theorem mcCommand_answersRead (hw : (s.sch k).writeQ = []) (hr : (s.sch k).readQ = [e]) (he : mcIsRead e.req = true) :
    Answers (.mcCommand dt k []) s fun t => t.out = s.out ++ [.mcData k e.req.addr (memBytes (s.sch k).cells e.req.addr e.req.len)] ∧
      (t.sch k).readQ = [] ∧ (t.sch k).cells = (s.sch k).cells := by
  refine mcCommand_of_ready hs ht hh (fun _ _ _ h => h) fun v drains ⟨sch, out, debt⟩ => ?_
  obtain ⟨answer, queue, cells, held⟩ := issueRead_answers k e v
  rw [mcIssue_read (by rw [sch, debt]; exact ho ▸ hm) (by rw [sch]; exact ho) (by rw [sch]; exact hr) (by rw [sch]; exact hw) he]
  rw [sch] at answer queue cells held
  refine ⟨held, fun d => ?_⟩
  rw [sch_modSch_self]
  exact ⟨by rw [← out]; exact answer, by rw [queue, hr]; exact passOver_single _ e, cells⟩

/-- R253: with one write queued and nothing else to do, the command of the controller stores it. -/
theorem mcCommand_storesWrite (hr : (s.sch k).readQ = []) (hw : (s.sch k).writeQ = [e]) :
    Answers (.mcCommand dt k []) s fun t => t.out = s.out ∧ (t.sch k).writeQ = [] ∧
      (t.sch k).cells = e.segs.foldl (fun m g => memWrites m g.1 g.2) (s.sch k).cells := by
  refine mcCommand_of_ready hs ht hh (fun _ _ _ h => h) fun v drains ⟨sch, out, debt⟩ => ?_
  obtain ⟨silent, queue, cells, held⟩ := issueWrite_stores k e v
  rw [mcIssue_write (by rw [sch, debt]; exact ho ▸ hm) (by rw [sch]; exact ho) (by rw [sch]; exact hr) (by rw [sch]; exact hw)]
  rw [sch] at queue cells held
  refine ⟨held, fun d => ?_⟩
  rw [sch_modSch_self]
  exact ⟨silent.trans out, by rw [queue, hw]; exact passOver_single _ e, cells⟩

end

/-- R255: a read that the one queued write covers is answered at its arrival from that write. -/
theorem mcTaken_forwards {k : Nat} {r : McReq} {e : McEntry} {bytes : List Byte} {s : State} (hr : mcIsRead r = true)
    (hw : (s.sch k).writeQ = [e]) (hc : coveredBy e r.addr r.len = some bytes) (hm : mcMine s k r = true)
    (hh : (s.sch k).held = []) : (mcTaken k [r] s).out = s.out ++ [.mcData k r.addr bytes] := by
  have covered : (((s.modSch k fun x => { x with held := [] }).sch k).writeQ.findSome? fun e => coveredBy e r.addr r.len) = some bytes := by
    rw [sch_modSch_self, hw]
    simp [hc]
  have arrived : mcArrive k r (s.modSch k fun x => { x with held := [] }) =
      (s.modSch k fun x => { x with held := [] }).emit (.mcData k r.addr bytes) := by
    unfold mcArrive
    dsimp only
    rw [if_pos hr, covered]
  unfold mcTaken
  rw [mcRetry_of_none hh, List.filter_cons_of_pos hm, List.filter_nil, forAll_cons, arrived]
  rfl

/-- R255: the answer of a covered read is the first that the command of the controller sends. -/
theorem mcCommand_forwards {dt : Nat} {k : Fin 8} {r : McReq} {e : McEntry} {bytes : List Byte} {s : State}
    (hs : (s.sch k).state = 2 ∨ (s.sch k).state = 3) (hr : mcIsRead r = true) (hw : (s.sch k).writeQ = [e])
    (hc : coveredBy e r.addr r.len = some bytes) (hm : mcMine s k r = true) (hh : (s.sch k).held = []) :
    Answers (.mcCommand dt k [r]) s fun t => ∃ os, t.out = s.out ++ .mcData k r.addr bytes :: os := by
  have mine : mcMine (s.later dt) k r = true := hm
  have inService : ((s.later dt).sch k).state = 2 ∨ ((s.later dt).sch k).state = 3 := hs
  have first : (mcTaken k [r] (s.later dt)).out = s.out ++ [.mcData k r.addr bytes] := mcTaken_forwards hr hw hc mine hh
  have later : Serves k (mcTaken k [r] (s.later dt)) (mcWork k [r] (s.later dt)) := by
    unfold mcWork
    rw [if_pos inService]
    split
    · exact Serves.refl _ _
    · exact (Serves.refl _ _).mcIssue.mcRetry.drainJudge
  obtain ⟨os, rest⟩ := later.out
  refine run_answers_timeless (fun _ _ _ h => h) (execMcCommand_work dt k [r] s) rfl ⟨os, ?_⟩
  rw [rest, first, List.append_assoc]
  rfl

/-! ### Refreshes, drift corrections and the patrol scrub (R254, R256, R258) -/

theorem issueRefresh_sch (k : Nat) (s : State) :
    (issueRefresh k s).sch k = { s.sch k with owed := (s.sch k).owed - 1, drift := false } := by
  have counted : (if mcPanic s k then s.bump 0x7231 k else s).sch k = s.sch k := by split <;> rfl
  unfold issueRefresh
  dsimp only
  rw [sch_modSch_self, counted]

/-- R256: the interval is over: one more refresh is owed, and one is issued where more are owed than may wait. -/
theorem refreshDue_owes (k : Nat) (hot : Bool) (s : State) :
    ((refreshDue k hot s).sch k).hot = hot ∧ ((refreshDue k hot s).sch k).cells = (s.sch k).cells ∧
      ((refreshDue k hot s).sch k).refreshAt = s.now ∧
      ((refreshDue k hot s).sch k).owed = if (if mcPanic s k then s.dv 0x7206 0 else 1) < (s.sch k).owed + 1 then (s.sch k).owed
        else (s.sch k).owed + 1 := by
  unfold refreshDue
  dsimp only
  rw [sch_modSch_self]
  generalize (if mcPanic s k then s.dv 0x7206 0 else 1) = wait
  by_cases more : wait < (s.sch k).owed + 1
  · rw [if_pos more, if_pos more, issueRefresh_sch, sch_modSch_self]
    exact ⟨rfl, rfl, rfl, rfl⟩
  · rw [if_neg more, if_neg more, sch_modSch_self]
    exact ⟨rfl, rfl, rfl, rfl⟩

theorem refreshTick_owes {dt : Nat} {k : Fin 8} {hot : Bool} {s : State} (hs : (s.sch k).state = 2 ∨ (s.sch k).state = 3)
    (due : (s.sch k).refreshAt + refreshInterval hot ≤ s.now + dt) :
    Answers (.refreshTick dt k hot) s fun t => (t.sch k).hot = hot ∧ (t.sch k).cells = (s.sch k).cells ∧
      (t.sch k).refreshAt = s.now + dt ∧
      (t.sch k).owed = if (if mcPanic s k then s.dv 0x7206 0 else 1) < (s.sch k).owed + 1 then (s.sch k).owed
        else (s.sch k).owed + 1 := by
  have inService : ((s.later dt).sch k).state = 2 ∨ ((s.later dt).sch k).state = 3 := hs
  have hc : exec (.refreshTick dt k hot) s = execRefreshTick dt k hot s := rfl
  exact run_answers_timeless (fun _ _ _ h => h) hc ((if_pos inService).trans (if_pos due)) (refreshDue_owes k hot (s.later dt))

theorem refreshTick_early {dt : Nat} {k : Fin 8} {hot : Bool} {s : State} (early : s.now + dt < (s.sch k).refreshAt + refreshInterval hot) :
    exec (.refreshTick dt k hot) s = .next (s.later dt) := by
  have hc : exec (.refreshTick dt k hot) s = execRefreshTick dt k hot s := rfl
  have waits : ¬ ((s.later dt).sch k).refreshAt + refreshInterval hot ≤ (s.later dt).now := Nat.not_le.2 early
  exact run_next hc ((if_congr Iff.rfl (if_neg waits) rfl).trans (ite_self _)) rfl rfl

theorem bankIdleClose_closes {dt : Nat} {k : Fin 8} {bank row a : Nat} {s : State} (h : (s.sch k).banks.get? bank = some (row, a)) :
    exec (.bankIdleClose dt k bank) s = .next (if a + s.dv 0x7204 0 ≤ s.now + dt then
      (s.later dt).modSch k fun x => { x with banks := x.banks.erase bank } else s.later dt) := by
  have hc : exec (.bankIdleClose dt k bank) s = execBankIdleClose dt k bank s := rfl
  have opened : ((s.later dt).sch k).banks.get? bank = some (row, a) := h
  refine run_next hc ?_ ?_ ?_
  · rw [opened]
    rfl
  · split <;> rfl
  · split <;> rfl

theorem scrubTick_scrubs {dt : Nat} {k : Fin 8} {s : State} (on : s.dv 0x7207 0 ≠ 0) (hs : (s.sch k).state = 2) :
    exec (.scrubTick dt k) s = .next ((s.later dt).modSch k fun x => { x with scrub := (x.scrub + 64) % (x.mib * 2 ^ 20) }) := by
  have hc : exec (.scrubTick dt k) s = execScrubTick dt k s := rfl
  exact run_next hc (if_pos (show (s.later dt).dv 0x7207 0 ≠ 0 ∧ ((s.later dt).sch k).state = 2 from ⟨on, hs⟩)) rfl rfl

theorem trackDqs_now (k : Nat) (s : State) : (trackDqs k s).now = s.now := by
  unfold trackDqs
  split <;> rfl

theorem trackDqs_sch_self (k : Nat) (s : State) : (trackDqs k s).sch k =
    if (s.sch k).trackAt + 100 * Config.milli ≤ s.now then { s.sch k with drift := true, trackAt := s.now } else s.sch k := by
  unfold trackDqs
  split
  · exact sch_modSch_self _ _ _
  · rfl

theorem trackDqs_sch_of_ne {j k : Nat} (h : j ≠ k) (s : State) : (trackDqs k s).sch j = s.sch j := by
  unfold trackDqs
  split
  · exact sch_modSch_of_ne _ _ h
  · rfl

/-- R254: each subchannel of the list is tracked by its own time, the others not at all. -/
theorem trackAll (ks : List Nat) (hk : ks.Nodup) (s : State) (k : Nat) : (forAll ks trackDqs s).sch k =
    if k ∈ ks ∧ (s.sch k).trackAt + 100 * Config.milli ≤ s.now then { s.sch k with drift := true, trackAt := s.now } else s.sch k := by
  induction ks generalizing s with
  | nil => simp [forAll_nil]
  | cons j ks ih =>
    obtain ⟨fresh, distinct⟩ := List.nodup_cons.mp hk
    rw [forAll_cons, ih distinct, trackDqs_now]
    by_cases same : k = j
    · subst same
      simp [fresh, trackDqs_sch_self]
    · rw [trackDqs_sch_of_ne same]
      simp [same]

theorem dqsTrack_tracks (dt : Nat) (s : State) : Answers (.dqsTrack dt) s fun t => ∀ k < 8,
    if (s.sch k).state = 2 ∧ (s.sch k).trackAt + 100 * Config.milli ≤ s.now + dt then
      t.sch k = { s.sch k with drift := true, trackAt := s.now + dt }
    else t.sch k = s.sch k := by
  have hc : exec (.dqsTrack dt) s = execDqsTrack dt s := rfl
  refine run_answers_timeless (fun _ _ _ h => h) hc rfl fun k hk => ?_
  have tracked := trackAll (schInService (s.later dt)) (List.nodup_range.filter _) (s.later dt) k
  have member : k ∈ schInService (s.later dt) ↔ (s.sch k).state = 2 := by
    simp only [schInService, List.mem_filter, List.mem_range, beq_iff_eq]
    exact and_iff_right hk
  split
  · next due => exact tracked.trans (if_pos ⟨member.2 due.1, due.2⟩)
  · next early => exact tracked.trans (if_neg fun due => early ⟨member.1 due.1, due.2⟩)

/-- Settles O33: a queue of one shows what a command does (`mcIssue_read`, `mcIssue_write`), a covered read is the first to be
answered (`mcTaken_forwards`), and every store comes from a queued entry (`mcCommand_keeps`). -/
theorem controllersServeRequests : Obligations.ControllersServeRequests := by
  unfold Obligations.ControllersServeRequests
  exact ⟨fun _ _ _ _ hs ht ho hh hm hw hr he => mcCommand_answersRead hs ht hh ho hm hw hr he,
    fun _ _ _ _ hs ht ho hh hm hr hw => mcCommand_storesWrite hs ht hh ho hm hr hw,
    fun _ _ _ _ _ _ hs hr hw hc hm hh => mcCommand_forwards hs hr hw hc hm hh,
    fun _ _ _ _ _ _ answered hq hr => mcCommand_keeps answered hq hr,
    fun _ _ _ _ _ _ h => bankIdleClose_closes h,
    fun _ _ _ _ hs due => refreshTick_owes hs due,
    fun _ _ _ _ early => refreshTick_early early,
    dqsTrack_tracks,
    fun _ _ _ on hs => scrubTick_scrubs on hs⟩

end Sys2Proof.Machine
end

/-! ## O34: subchannels fail and return (10_placement_memory.md R251, R259, R260; 16_faults_test.md R356, R357, R360) -/

section
namespace Sys2Proof.Machine
open Sys2Proof

/-! ### What a fault of a channel leaves of the ledger (R356, R357) -/

theorem sch_of_subch {s t : State} (h : t.subch = s.subch) (k : Nat) : t.sch k = s.sch k := congrArg (·.getD k Subch.reset) h

section
variable {cls : Nat} (ch : Nat) (s : State) (hn : serviceBit cls = none) (hc : cls < 256)
include hn hc

/-- R357: a retirement is entered into the map of retirements. -/
theorem retire_ledger (boot : Bool) :
    (retire cls ch boot s).ledger = { s.ledger with retired := s.mram.retired.set (chanKey cls ch) true } := by
  unfold retire
  dsimp only
  rw [setCause_ledger, postD_ledger, logBoth_ledger, setDv_ledger _ _ _ _ rfl hc, hn]
  rfl

/-- R360: a channel put back is taken from the map of retirements. -/
theorem reinstateChan_ledger :
    (reinstateChan cls ch s).ledger = { s.ledger with retired := s.mram.retired.erase (chanKey cls ch) } := by
  unfold reinstateChan
  dsimp only
  rw [postD_ledger, logBoth_ledger, setDv_ledger _ _ _ _ rfl hc, hn]
  rfl

end

theorem isRetired_of_set {s t : State} {cls ch : Nat}
    (h : t.ledger = { s.ledger with retired := s.mram.retired.set (chanKey cls ch) true }) : isRetired t cls ch = true := by
  have retired : t.mram.retired = s.mram.retired.set (chanKey cls ch) true := congrArg Ledger.retired h
  unfold isRetired Map.has
  rw [retired, Map.get?_set_self]
  rfl

theorem isRetired_of_erase {s t : State} {cls ch : Nat}
    (h : t.ledger = { s.ledger with retired := s.mram.retired.erase (chanKey cls ch) }) : isRetired t cls ch = false := by
  have retired : t.mram.retired = s.mram.retired.erase (chanKey cls ch) := congrArg Ledger.retired h
  unfold isRetired Map.has
  rw [retired, Map.get?_erase_self]
  rfl

/-- What a fault of a channel comes to (R356): a retry, a refusal of a needed channel, or a retirement. -/
inductive Judged (cls ch : Nat) (full : Bool) (s : State) : Verdict × State → Prop where
  | retry {t : State} (recent : (recentFaults cls ch s).length < 3) (ledger : t.ledger = s.ledger) : Judged cls ch full s (.retry, t)
  | refused {t : State} (recent : 3 ≤ (recentFaults cls ch s).length) (needed : full = true) (ledger : t.ledger = s.ledger) :
    Judged cls ch full s (.refused, t)
  | retired {t : State} (recent : 3 ≤ (recentFaults cls ch s).length) (spare : full = false)
    (ledger : t.ledger = { s.ledger with retired := s.mram.retired.set (chanKey cls ch) true }) : Judged cls ch full s (.retired, t)

theorem channelFault_judged {cls : Nat} (ch : Nat) (full : Bool) (s : State) (hn : serviceBit cls = none) (hc : cls < 256) :
    Judged cls ch full s (channelFault cls ch full s) := by
  obtain ⟨u, m, noted, effect, hist⟩ := noteFault_effect cls ch full s
  have kept : u.ledger = s.ledger := noted.ledger
  unfold channelFault
  rw [effect]
  dsimp only
  rw [hist]
  split
  · next recent => exact .retry recent kept
  · next many =>
    split
    · next needed =>
      refine .refused (Nat.not_lt.1 many) needed ?_
      rw [ite_ledger, deviceFault_ledger]
      exact (ite_self _).trans kept
    · next spare =>
      refine .retired (Nat.not_lt.1 many) (Bool.eq_false_of_not_eq_true spare) ?_
      have mram : u.mram.retired = s.mram.retired := congrArg Ledger.retired kept
      rw [retire_ledger ch _ hn hc, health_ledger, kept]
      exact mram ▸ rfl

/-! ### SUBCH_FAULT (R259) -/

/-- What a fault of a subchannel comes to. -/
inductive SubchJudged (k : Nat) (s : State) (t : State) : Prop where
  | retry (recent : (recentFaults 2 k s).length < 3) (sch : t.sch k = { s.sch k with retraining := true }) (ledger : t.ledger = s.ledger)
      (count : t.dv 0x7240 k = satAdd32 (s.dv 0x7240 k) 1)
  | refused (recent : 3 ≤ (recentFaults 2 k s).length) (needed : schNeeded s k = true)
      (sch : t.sch k = { s.sch k with retraining := true }) (ledger : t.ledger = s.ledger)
  | retired (recent : 3 ≤ (recentFaults 2 k s).length) (spare : schNeeded s k = false)
      (sch : t.sch k = { s.sch k with state := 3, retraining := false }) (gen : t.stripeGen = (s.stripeGen + 1) % 256)
      (ledger : t.ledger = { s.ledger with retired := s.mram.retired.set (chanKey 2 k) true })

theorem subchFault_judged {k : Nat} (hk : k < 256) (s : State) : SubchJudged k s (subchFault k s) := by
  have judged := channelFault_judged k (schNeeded s k) (s.bump 0x7240 k) (cls := 2) rfl (by decide)
  have sch : (channelFault 2 k (schNeeded s k) (s.bump 0x7240 k)).2.sch k = s.sch k :=
    sch_of_subch ((channelFault_subch _ _ _ _).trans rfl) k
  have counted : (s.bump 0x7240 k).ledger = s.ledger := bump_ledger _ _ _ rfl hk
  have retried (h : (recentFaults 2 k s).length < 3) :
      (channelFault 2 k (schNeeded s k) (s.bump 0x7240 k)).2.dv 0x7240 k = satAdd32 (s.dv 0x7240 k) 1 := by
    obtain ⟨u, m, noted, effect⟩ := channelFault_retried (cls := 2) (ch := k) (full := schNeeded s k) (s := s.bump 0x7240 k) h
    rw [effect]
    exact (noted.dv 0x7240 k hk (by decide) (by decide) (by decide)).trans (dv_bump_self _ _ _)
  unfold subchFault
  dsimp only
  revert judged sch retried
  generalize channelFault 2 k (schNeeded s k) (s.bump 0x7240 k) = r
  intro judged sch retried
  cases judged with
  | retry recent ledger =>
    exact .retry recent (by rw [sch_modSch_self, sch]) (ledger.trans counted) (retried recent)
  | refused recent needed ledger =>
    refine .refused recent needed ?_ ?_
    · rw [sch_of_subch (postD_subch _ _ _ _), sch_modSch_self, sch]
    · rw [postD_ledger]
      exact ledger.trans counted
  | @retired t recent spare ledger =>
    have leaves : (t.modSch k fun x => { x with state := 3, retraining := false }).sch k =
        { s.sch k with state := 3, retraining := false } := by rw [sch_modSch_self, sch]
    refine .retired recent spare ?_ rfl ?_
    · rw [sch_of_subch (placeChanged_subch _)]
      exact leaves
    · rw [placeChanged_ledger]
      exact ledger.trans (by rw [counted]; rfl)

section
variable {dt : Nat} {k : Fin 8} {s : State}

theorem subchFault_answers {p : State → Prop} (ht : ∀ (t : State) (n : Nat) (q : List Instr), p t → p { t with now := n, pending := q })
    (hs : (s.sch k).state = 2) (hp : ∀ t, SubchJudged k (s.later dt) t → p t) : Answers (.subchFault dt k) s p := by
  have inService : ((s.later dt).sch k).state = 2 := hs
  exact run_answers_timeless (c := .subchFault dt k) ht rfl (if_pos inService) (hp _ (subchFault_judged (by omega) _))

theorem subchFault_retries (hs : (s.sch k).state = 2) (h : (recentFaults 2 k (s.later dt)).length < 3) :
    Answers (.subchFault dt k) s fun t => (t.sch k).state = 2 ∧ (t.sch k).retraining = true ∧
      t.dv 0x7240 k = satAdd32 (s.dv 0x7240 k) 1 := by
  refine subchFault_answers (fun _ _ _ h => h) hs fun t judged => ?_
  cases judged with
  | retry _ sch _ count => exact ⟨sch ▸ hs, by rw [sch], count⟩
  | refused recent => omega
  | retired recent => omega

theorem subchFault_retires (hs : (s.sch k).state = 2) (h : 3 ≤ (recentFaults 2 k (s.later dt)).length) (hn : schNeeded s k = false) :
    Answers (.subchFault dt k) s fun t => (t.sch k).state = 3 ∧ isRetired t 2 k = true ∧ t.stripeGen = (s.stripeGen + 1) % 256 := by
  refine subchFault_answers (fun _ _ _ h => h) hs fun t judged => ?_
  cases judged with
  | retry recent => omega
  | refused _ needed => exact absurd (hn.symm.trans needed) Bool.false_ne_true
  | retired _ _ sch gen ledger => exact ⟨by rw [sch], isRetired_of_set ledger, gen⟩

theorem subchFault_kept (hs : (s.sch k).state = 2) (h : 3 ≤ (recentFaults 2 k (s.later dt)).length) (hn : schNeeded s k = true) :
    Answers (.subchFault dt k) s fun t => (t.sch k).state = 2 ∧ (t.sch k).retraining = true ∧ isRetired t 2 k = isRetired s 2 k := by
  refine subchFault_answers (fun _ _ _ h => h) hs fun t judged => ?_
  cases judged with
  | retry recent => omega
  | refused _ _ sch ledger => exact ⟨sch ▸ hs, by rw [sch], retired_of_ledger (ledger.trans rfl) 2 k⟩
  | retired _ spare => exact absurd (spare.symm.trans hn) Bool.false_ne_true

/-! ### SUBCH_RETRAIN_DONE (R251, R259, R360) -/

/-- The subchannel at the end of its training, its result recorded. -/
def trainedOut (k : Nat) (ok : Bool) (s : State) : State :=
  trainResult k 1 ok (s.modSch k fun x => { x with retraining := false, returning := false })

theorem trainedOut_sch (k : Nat) (ok : Bool) (s : State) :
    (trainedOut k ok s).sch k = { s.sch k with retraining := false, returning := false } :=
  (sch_of_subch (trainResult_subch _ _ _ _) k).trans (sch_modSch_self _ _ _)

/-- What the end of a training does. -/
def retrainEnd (k : Nat) (ok : Bool) (s : State) : State :=
  if (s.sch k).retraining then
    if (s.sch k).returning then
      if ok then shrinkPool (reinstateChan 2 k ((trainedOut k ok s).modSch k fun x => { x with state := 2 }))
      else domainsFollow ((trainedOut k ok s).modSch k fun x => { x with state := 4 })
    else if ok then (trainedOut k ok s).modSch k fun x => { x with state := 2 }
    else subchFault k ((trainedOut k ok s).modSch k fun x => { x with state := 2 })
  else s

theorem retrainDone_end (dt : Nat) (k : Fin 8) (ok : Bool) (s : State) :
    exec (.subchRetrainDone dt k ok) s = run dt s (retrainEnd k ok) := rfl

theorem shrinkPool_ledger (s : State) : (shrinkPool s).ledger = s.ledger := by
  unfold shrinkPool
  split
  · rw [applyQuotas_ledger, setDv_ledger _ _ _ _ rfl (by decide), place_ledger]
  · rfl

theorem retrainDone_serves (ht : (s.sch k).retraining = true) (hb : (s.sch k).returning = false) :
    Answers (.subchRetrainDone dt k true) s fun t => (t.sch k).state = 2 ∧ (t.sch k).retraining = false := by
  have trained : ((s.later dt).sch k).retraining = true := ht
  have inPlace : ((s.later dt).sch k).returning = false := hb
  have ended : retrainEnd k true (s.later dt) = (trainedOut k true (s.later dt)).modSch k fun x => { x with state := 2 } := by
    simp [retrainEnd, trained, inPlace]
  refine run_answers_timeless (fun _ _ _ h => h) (retrainDone_end dt k true s) ended ?_
  rw [sch_modSch_self, trainedOut_sch]
  exact ⟨rfl, rfl⟩

theorem retrainDone_returns (ht : (s.sch k).retraining = true) (hb : (s.sch k).returning = true) :
    Answers (.subchRetrainDone dt k true) s fun t => (t.sch k).state = 2 ∧ (t.sch k).retraining = false ∧ isRetired t 2 k = false := by
  have trained : ((s.later dt).sch k).retraining = true := ht
  have returns : ((s.later dt).sch k).returning = true := hb
  have ended : retrainEnd k true (s.later dt) =
      shrinkPool (reinstateChan 2 k ((trainedOut k true (s.later dt)).modSch k fun x => { x with state := 2 })) := by
    simp [retrainEnd, trained, returns]
  have sch (u : State) : (shrinkPool (reinstateChan 2 k u)).sch k = u.sch k :=
    sch_of_subch ((shrinkPool_subch _).trans (reinstateChan_subch _ _ _)) k
  refine run_answers_timeless (fun _ _ _ h => h) (retrainDone_end dt k true s) ended ?_
  rw [sch, sch_modSch_self, trainedOut_sch]
  exact ⟨rfl, rfl, isRetired_of_erase ((shrinkPool_ledger _).trans (reinstateChan_ledger _ _ rfl (by decide)))⟩

theorem retrainDone_staysRetired (ht : (s.sch k).retraining = true) (hb : (s.sch k).returning = true) :
    Answers (.subchRetrainDone dt k false) s fun t => (t.sch k).state = 4 ∧ (t.sch k).retraining = false := by
  have trained : ((s.later dt).sch k).retraining = true := ht
  have returns : ((s.later dt).sch k).returning = true := hb
  have ended : retrainEnd k false (s.later dt) =
      domainsFollow ((trainedOut k false (s.later dt)).modSch k fun x => { x with state := 4 }) := by
    simp [retrainEnd, trained, returns]
  refine run_answers_timeless (fun _ _ _ h => h) (retrainDone_end dt k false s) ended ?_
  rw [sch_of_subch (domainsFollow_subch _), sch_modSch_self, trainedOut_sch]
  exact ⟨rfl, rfl⟩

/-! ### SUBCH_RETIRED (R260) -/

/-- A subchannel whose queues are empty. -/
structure Drained (x : Subch) : Prop where
  readQ : x.readQ = []
  writeQ : x.writeQ = []
  held : x.held = []

theorem copyOut_drains (k : Nat) (s : State) : Drained ((copyOut k s).sch k) := by
  refine forAll_induct (fun u => Drained (u.sch k)) _ _ _ (fun j u drained => ?_) ?_
  · by_cases same : k = j
    · subst same
      rw [sch_modSch_self]
      exact ⟨drained.readQ, drained.writeQ, drained.held⟩
    · rw [sch_modSch_of_ne _ _ same]
      exact drained
  · rw [sch_modSch_self]
    exact ⟨rfl, rfl, rfl⟩

theorem subchRetired_drains (hs : (s.sch k).state = 3) : Answers (.subchRetired dt k) s fun t =>
    (t.sch k).state = 4 ∧ (t.sch k).readQ = [] ∧ (t.sch k).writeQ = [] ∧ (t.sch k).held = [] := by
  have leaving : ((s.later dt).sch k).state = 3 := hs
  refine run_answers_timeless (c := .subchRetired dt k) (fun _ _ _ h => h) rfl (if_pos leaving) ?_
  obtain ⟨reads, writes, held⟩ := copyOut_drains k (s.later dt)
  rw [sch_of_subch ((postD_subch _ _ _ _).trans ((domainsFollow_subch _).trans (shrinkPool_subch _))), sch_modSch_self]
  exact ⟨rfl, reads, writes, held⟩

/-! ### SUBCH_CMD (R251, R360) -/

theorem subchCmdRetrain_trains {door : Door} (hw : Written s door 0x7203 k 1 none k 1) (hd : s.devState = .config)
    (hs : (s.sch k).state = 2) :
    exec (.subchCmdRetrain dt door k) s = .next ((s.later dt).modSch k fun x => { x with state := 1, retraining := true }) := by
  have config : (s.later dt).devState = .config := hd
  have inService : ((s.later dt).sch k).state = 2 := hs
  refine run_next (c := .subchCmdRetrain dt door k) rfl ((hw.later dt).through subchCommand _ fun row => ?_) rfl rfl
  simp [subchCommand, onDev, config, inService]

theorem subchCmdReinstate_trains {door : Door} (hw : Written s door 0x7203 k 2 none k 2) (hd : s.devState = .config)
    (hs : (s.sch k).state = 4) : exec (.subchCmdReinstate dt door k) s =
      .next ((s.later dt).modSch k fun x => { x with state := 1, retraining := true, returning := true }) := by
  have config : (s.later dt).devState = .config := hd
  have retired : ((s.later dt).sch k).state = 4 := hs
  refine run_next (c := .subchCmdReinstate dt door k) rfl ((hw.later dt).through subchCommand _ fun row => ?_) rfl rfl
  simp [subchCommand, onDev, config, retired]

theorem subchCmdRetrain_refused {door : Door} (hw : Written s door 0x7203 k 1 none k 1) (hd : s.devState ≠ .config) :
    (doorWrite door 0x7203 k 1 subchCommand s).1 = stState ∧
    Answers (.subchCmdRetrain dt door k) s fun t => t.subch = s.subch := by
  have refuses (u : State) (h : u.devState ≠ .config) (row : Row) : subchCommand row none k 1 u = (stState, u) := by
    simp [subchCommand, onDev, h]
  refine ⟨congrArg Prod.fst (hw.refused (refuses s hd)), ?_⟩
  exact run_answers_timeless (c := .subchCmdRetrain dt door k) (fun _ _ _ h => h) rfl
    (congrArg Prod.snd ((hw.later dt).refused (refuses (s.later dt) hd))) (recordStatus_subch _ _ _ _ _)

end

/-- Settles O34: what a fault comes to is judged once (`subchFault_judged`), the rest clause by clause. -/
theorem subchannelsFailAndReturn : Obligations.SubchannelsFailAndReturn := by
  unfold Obligations.SubchannelsFailAndReturn
  exact ⟨fun _ _ _ hs h => subchFault_retries hs h,
    fun _ _ _ hs h hn => subchFault_retires hs h hn,
    fun _ _ _ hs h hn => subchFault_kept hs h hn,
    fun _ _ _ ht hb => retrainDone_serves ht hb,
    fun _ _ _ ht hb => ⟨retrainDone_returns ht hb, retrainDone_staysRetired ht hb⟩,
    fun _ _ _ hs => subchRetired_drains hs,
    fun _ _ _ _ hw hd hs => subchCmdRetrain_trains hw hd hs,
    fun _ _ _ _ hw hd hs => subchCmdReinstate_trains hw hd hs,
    fun _ _ _ _ hw hd => subchCmdRetrain_refused hw hd⟩

end Sys2Proof.Machine
end

/-! ## O35: errors of the memories (10_placement_memory.md R258, R264, Table 10-7) -/

section
namespace Sys2Proof.Machine
open Sys2Proof

/-! ### What the consequences of an error leave -/

/-- The counters and records of memory errors, and the lost lines of the heads, are the same in both states. -/
structure KeepsErrors (s t : State) : Prop where
  errors : t.ledger.errors = s.ledger.errors
  lost : ∀ p, (t.port p).lostLines = (s.port p).lostLines

section
variable {s t u : State}

theorem KeepsErrors.of_ledger (h : t.ledger = s.ledger) : KeepsErrors s t := ⟨congrArg Ledger.errors h, lost_of_ledger h⟩

theorem KeepsErrors.trans (h : KeepsErrors s t) (g : KeepsErrors t u) : KeepsErrors s u :=
  ⟨g.errors.trans h.errors, fun p => (g.lost p).trans (h.lost p)⟩

theorem KeepsErrors.dv (h : KeepsErrors s t) {i j : Nat} (hi : errorObject i = true) (hj : j < 256) : t.dv i j = s.dv i j :=
  dv_of_errors h.errors hi hj

/-- The map of retirements is no part of what an error counts. -/
theorem KeepsErrors.of_retirement {r : Map Bool} (h : t.ledger = { s.ledger with retired := r }) : KeepsErrors s t :=
  ⟨by rw [h], fun p => congrFun (show t.ledger.lost = s.ledger.lost by rw [h]) p⟩

end

theorem subchFault_keepsErrors {k : Nat} (hk : k < 256) (s : State) : KeepsErrors s (subchFault k s) := by
  cases subchFault_judged hk s with
  | retry _ _ ledger => exact .of_ledger ledger
  | refused _ _ _ ledger => exact .of_ledger ledger
  | retired _ _ _ _ ledger => exact .of_retirement ledger

theorem faultIf_keepsErrors {k : Nat} (hk : k < 256) (c : Prop) [Decidable c] (s : State) :
    KeepsErrors s (if c then subchFault k s else s) := by
  split
  · exact subchFault_keepsErrors hk s
  · exact .of_ledger rfl

/-- R264: the fault of a row counts against its quarter and reaches no counter of errors. -/
theorem rowFault_keepsErrors {q : Nat} (hq : q < 256) (row : Nat) (s : State) : KeepsErrors s (rowFault q row s) := by
  have judged := channelFault_judged (rowKey q row) false s (cls := 6) rfl (by decide)
  unfold rowFault
  dsimp only
  revert judged
  generalize channelFault 6 (rowKey q row) false s = r
  intro judged
  cases judged with
  | retry _ ledger => exact .of_ledger ledger
  | refused _ needed => cases needed
  | retired _ _ ledger =>
    refine .of_retirement (Eq.trans ?_ ledger)
    dsimp only
    rw [ite_ledger, deviceFault_ledger, ite_self, rejudge_ledger, setDv_ledger _ _ _ _ rfl hq, sram_ledger]

theorem freeEngine_ledger (e : Nat) (s : State) : (freeEngine e s).ledger = s.ledger := by
  unfold freeEngine
  split <;> rfl

theorem wagonEcc_ledger (b n key : Nat) (s : State) : (wagonEcc b n key s).ledger = s.ledger := by
  have freed (u : State) : (forAll (List.range 32) (fun e s => if (s.engine e).job = some (b, n, key) then freeEngine e s else s) u).ledger =
      u.ledger := forAll_ledger _ _ _ fun e v => by rw [ite_ledger, freeEngine_ledger, ite_self]
  unfold wagonEcc
  split
  · rfl
  · split
    · simp [freed]
    · simp [freed]
    · simp [copyLost]
    · rfl

theorem calderaEcc_ledger (b n : Nat) (s : State) : (calderaEcc b n s).ledger = s.ledger := by
  unfold calderaEcc
  split
  · simp
  · rfl

/-- R258: what an uncorrectable error costs is no error itself. -/
theorem dramUncorr_errors (addr : Nat) (loc : EccWhere) (s : State) :
    (dramUncorr addr loc s).ledger.errors = s.ledger.errors := by
  cases loc with
  | dramWagon b n pl sp band => exact congrArg Ledger.errors (wagonEcc_ledger _ _ _ _)
  | dramCaldera b n => exact congrArg Ledger.errors (calderaEcc_ledger _ _ _)
  | dramDelay p line => rfl
  | dramCamera c ring => rfl
  | dramMoaBuffer buf => rfl
  | dramSystem => exact congrArg Ledger.errors (deviceFault_ledger _ _)

/-! ### DRAM_ECC (R258) -/

/-- An error that costs no byte: what a command that keeps the memory answers holds together with the memory kept. -/
theorem Answers.sameMemory {c : Instr} {s : State} {p : State → Prop} (h : Answers c s p) (hc : c.keepsMemory = true) :
    Answers c s fun t => p t ∧ SameMemory s t := by
  obtain ⟨t, answered, holds⟩ := h
  exact ⟨t, answered, holds, fun k a => congrArg (memRead · a) (congrFun (exec_keepsBytes hc s t answered) k)⟩

theorem Answers.imp {c : Instr} {s : State} {p q : State → Prop} (h : Answers c s p) (hpq : ∀ t, p t → q t) : Answers c s q := by
  obtain ⟨t, answered, holds⟩ := h
  exact ⟨t, answered, hpq t holds⟩

/-- The state in which an uncorrectable error is counted and its place recorded. -/
def uncorrNoted (k addr : Nat) (loc : EccWhere) (s : State) : State :=
  ((postD .dramEcc 1 (leBytes 1 k ++ leBytes 7 addr ++ leBytes 1 (eccRegion loc)) s).bump 0x7221 k).setDv 0x7222 0
    (k * 2 ^ 61 + 2 ^ 60 + eccRegion loc * 2 ^ 56 + addr)

section
variable {k : Nat} (hk : k < 8) (addr : Nat) (loc : EccWhere) (s : State)
include hk

theorem uncorrNoted_count : (uncorrNoted k addr loc s).dv 0x7221 k = satAdd32 (s.dv 0x7221 k) 1 := by
  unfold uncorrNoted
  rw [dv_setDv_of_ne _ _ _ _ _ _ (by unfold okey; omega), dv_bump_self,
    (postD_events _ _ _ _).dv 0x7221 k (by omega) (by decide) (by decide) (by decide)]

/-- R258: the loss and the fault of an uncorrectable error leave the counters. -/
theorem dramError_uncorrectable : ∃ t, dramError k true addr loc s = t ∧ KeepsErrors (dramUncorr addr loc (uncorrNoted k addr loc s)) t := by
  exact ⟨_, rfl, faultIf_keepsErrors (by omega) _ _⟩

/-- R258: a corrected error is counted, whether it is the one that trains the subchannel or not. -/
theorem dramError_corrected : (dramError k false addr loc s).dv 0x7220 k = satAdd32 (s.dv 0x7220 k) 1 := by
  have noted (data : List Byte) : ((postD .dramEcc 0 data s).bump 0x7220 k).dv 0x7220 k = satAdd32 (s.dv 0x7220 k) 1 := by
    rw [dv_bump_self, (postD_events _ _ _ _).dv 0x7220 k (by omega) (by decide) (by decide) (by decide)]
  have counted (data : List Byte) (f : Subch → Subch) :
      (((postD .dramEcc 0 data s).bump 0x7220 k).modSch k f).dv 0x7220 k = satAdd32 (s.dv 0x7220 k) 1 := noted data
  unfold dramError
  dsimp only
  rw [if_neg Bool.false_ne_true, (faultIf_keepsErrors (by omega : k < 256) _ _).dv rfl (by omega : k < 256)]
  exact counted _ _

end

section
variable {dt : Nat} {k : Fin 8} {addr : BitVec 40} {loc : EccWhere} {s : State}
variable (hs : (s.sch k).state = 2 ∨ (s.sch k).state = 3)
include hs

/-- An error in a subchannel that serves is taken by its controller, and costs no byte of DRAM. -/
theorem dramEcc_answers {uncorr : Bool} {p : State → Prop}
    (timeless : ∀ (t : State) (n : Nat) (q : List Instr), p t → p { t with now := n, pending := q })
    (hp : p (dramError k uncorr addr.toNat loc (s.later dt))) :
    Answers (.dramEcc dt k uncorr addr loc) s fun t => p t ∧ SameMemory s t := by
  have inService : ((s.later dt).sch k).state = 2 ∨ ((s.later dt).sch k).state = 3 := hs
  exact (run_answers_timeless (c := .dramEcc dt k uncorr addr loc) timeless rfl (if_pos inService) hp).sameMemory rfl

theorem dramEcc_counts : Answers (.dramEcc dt k false addr loc) s fun t => t.dv 0x7220 k = satAdd32 (s.dv 0x7220 k) 1 ∧ SameMemory s t :=
  dramEcc_answers hs (fun _ _ _ h => h) (dramError_corrected k.isLt _ _ _)

theorem dramEcc_records : Answers (.dramEcc dt k true addr loc) s fun t => t.dv 0x7221 k = satAdd32 (s.dv 0x7221 k) 1 ∧ SameMemory s t := by
  refine dramEcc_answers hs (fun _ _ _ h => h) ?_
  obtain ⟨_, rfl, kept⟩ := dramError_uncorrectable k.isLt addr.toNat loc (s.later dt)
  rw [kept.dv rfl (by omega), dv_of_errors (dramUncorr_errors _ _ _) rfl (by omega), uncorrNoted_count k.isLt]
  rfl

theorem dramEcc_losesLine {p : Fin 64} {line : Nat} : Answers (.dramEcc dt k true addr (.dramDelay p line)) s fun t =>
    t.dv 0x7221 k = satAdd32 (s.dv 0x7221 k) 1 ∧ t.dv 0x7222 0 = k.val * 2 ^ 61 + 2 ^ 60 + 2 * 2 ^ 56 + addr.toNat ∧ SameMemory s t ∧
      (t.port p).lostLines = (s.port p).lostLines ++ [line] := by
  have effect : Answers (.dramEcc dt k true addr (.dramDelay p line)) s fun t =>
      (t.dv 0x7221 k = satAdd32 (s.dv 0x7221 k) 1 ∧ t.dv 0x7222 0 = k.val * 2 ^ 61 + 2 ^ 60 + 2 * 2 ^ 56 + addr.toNat ∧
        (t.port p).lostLines = (s.port p).lostLines ++ [line]) ∧ SameMemory s t := by
    refine dramEcc_answers hs (fun _ _ _ h => h) ?_
    obtain ⟨_, rfl, kept⟩ := dramError_uncorrectable k.isLt addr.toNat (.dramDelay p line) (s.later dt)
    have ports : (uncorrNoted k addr.toNat (.dramDelay p line) (s.later dt)).ports = s.ports := (postD_events _ _ _ _).ports
    have lines : ((uncorrNoted k addr.toNat (.dramDelay p line) (s.later dt)).port p).lostLines = (s.port p).lostLines :=
      congrArg (fun m : Map Port => (m.getD p Port.reset).lostLines) ports
    have room : k.val * 2 ^ 61 + 2 ^ 60 + 2 * 2 ^ 56 + addr.toNat < 2 ^ 64 := by
      have := addr.isLt
      omega
    refine ⟨?_, ?_, ?_⟩
    · rw [kept.dv rfl (by omega)]
      exact uncorrNoted_count k.isLt _ _ _
    · rw [kept.dv rfl (by decide)]
      exact (dv_setDv_self _ _ _ _).trans (Nat.mod_eq_of_lt room)
    · rw [kept.lost]
      exact (congrArg Port.lostLines (port_modPort_self _ _ _)).trans (congrArg (· ++ [line]) lines)
  exact effect.imp fun t ⟨⟨count, place, lost⟩, same⟩ => ⟨count, place, same, lost⟩

end

/-! ### SRAM_ECC (R264) -/

/-- R264: a corrected error that is not the fourth within a second is noted in its row, counted and told. -/
theorem sramError_corrected {q row : Nat} {times : List Nat} {loc : SramWhere} {s : State}
    (ht : times = ((s.sram.getD (rowKey q row) SramRow.reset).corr.filter fun a => decide (s.now < a + Config.second)) ++ [s.now])
    (few : times.length ≤ 3) : ∃ n data, sramError q row false loc s = postD .sramEcc n data
      (State.bump { s with sram := s.sram.set (rowKey q row) { s.sram.getD (rowKey q row) SramRow.reset with corr := times } } 0x7301 q) := by
  have noFault : (false || decide (3 < times.length)) = false := by simpa using few
  unfold sramError
  simp only [Bool.false_eq_true, if_false, ← ht, noFault]
  exact ⟨_, _, rfl⟩

/-- R264: an uncorrectable error is counted, faults its row, and costs what it hit. -/
theorem sramError_uncorrectable {q : Nat} (hq : q < 256) (row : Nat) (loc : SramWhere) (s : State) : ∃ m t,
    KeepsErrors (State.bump { s with sram := m } 0x7302 q) t ∧ sramError q row true loc s = sramUncorr loc t :=
  ⟨_, _, (rowFault_keepsErrors hq row _).trans (.of_ledger (postD_ledger _ _ _ _)), rfl⟩

section
variable {dt row : Nat} {q : Fin 4} {s : State}

theorem sramEcc_remembers {loc : SramWhere} {x : SramRow} (hx : x = s.sram.getD (rowKey q (row % 24576)) SramRow.reset)
    (few : (x.corr.filter fun a => decide (s.now + dt < a + Config.second)).length < 3) :
    Answers (.sramEcc dt q row false loc) s fun t => t.dv 0x7301 q = satAdd32 (s.dv 0x7301 q) 1 ∧
      t.sram.get? (rowKey q (row % 24576)) = some { x with
        corr := x.corr.filter (fun a => decide (s.now + dt < a + Config.second)) ++ [s.now + dt] } := by
  subst hx
  obtain ⟨n, data, effect⟩ := sramError_corrected (q := q) (row := row % 24576) (loc := loc) (s := s.later dt) rfl
    (by rw [List.length_append]; exact few)
  refine run_answers_timeless (c := .sramEcc dt q row false loc) (fun _ _ _ h => h) rfl effect ⟨?_, ?_⟩
  · rw [(postD_events _ _ _ _).dv 0x7301 q (by omega) (by decide) (by decide) (by decide), dv_bump_self]
    rfl
  · rw [(postD_events _ _ _ _).sram]
    exact Map.get?_set_self _ _ _

theorem sramEcc_losesLine {p : Fin 64} {line : Nat} : Answers (.sramEcc dt q row true (.lineStaging p line)) s fun t =>
    t.dv 0x7302 q = satAdd32 (s.dv 0x7302 q) 1 ∧ (t.port p).lostLines = (s.port p).lostLines ++ [line] := by
  obtain ⟨m, t, kept, effect⟩ := sramError_uncorrectable (by omega : q.val < 256) (row % 24576) (.lineStaging p line) (s.later dt)
  refine run_answers_timeless (c := .sramEcc dt q row true (.lineStaging p line)) (fun _ _ _ h => h) rfl effect ⟨?_, ?_⟩
  · exact (kept.dv rfl (by omega)).trans (dv_bump_self _ _ _)
  · exact (congrArg Port.lostLines (port_modPort_self _ _ _)).trans (congrArg (· ++ [line]) (kept.lost p))

end

/-- Settles O35: what follows an error keeps the counters and the lost lines (`KeepsErrors`), so each clause reads them where
the error is noted. -/
theorem memoryErrorsAreCounted : Obligations.MemoryErrorsAreCounted := by
  unfold Obligations.MemoryErrorsAreCounted
  exact ⟨fun _ _ _ _ _ hs => dramEcc_counts hs, fun _ _ _ _ _ _ hs => dramEcc_losesLine hs, fun _ _ _ _ _ hs => dramEcc_records hs,
    fun _ _ _ _ _ _ hx few => sramEcc_remembers hx few, fun _ _ _ _ _ _ => sramEcc_losesLine⟩

end Sys2Proof.Machine
end
